-- ==== Sys2Proof/Word.lean ====
section
/-! DEFINITION. The word types of the KV1 and the sparse tables every memory, register file and queue of units is kept in. -/

namespace Sys2Proof

/-- A 32-bit register or memory word (R4, R58). -/
abbrev Word := BitVec 32

/-- One byte, the smallest addressable unit of D-space (R58). -/
abbrev Byte := BitVec 8

/-- A sparse table: rising keys, no entry equal to what an unlisted key reads as. -/
abbrev Table (α : Type) := List (Nat × α)

end Sys2Proof
end

