-- ==== Sys2Proof/Operand.lean ====
section
/-! DEFINITION. Operand types of the commands: who makes an access, which power stage an event names, and what a bus carries. -/

namespace Sys2Proof

/-- The master of an access, coded as IRQ_ROUTE.TARGET (R74); the monitor `mon` shares code 0xC with the host port (R580). -/
inductive Master where
  | hk
  | ce (n : Nat)
  | ne (n : Nat)
  | se
  | host
  | ring
  | mon
  deriving DecidableEq, Repr

/-- The code of a master (R74). -/
def Master.code : Master → Nat
  | .hk => 0
  | .ce n => 1 + n
  | .ne n => 9 + n
  | .se => 11
  | .host => 12
  | .ring => 13
  | .mon => 12

/-- Where a stalled access of the master is kept: its code, or 14 for the monitor. -/
def Master.key (m : Master) : Nat :=
  match m with
  | .mon => 14
  | m => m.code

/-- Whether the master exists (R74). -/
def Master.ok : Master → Bool
  | .ce n => n < 8
  | .ne n => n < 2
  | _ => true

/-- The master with a code of R74. -/
def Master.ofCode (c : Nat) : Master :=
  if c = 0 then .hk else if c < 9 then .ce (c - 1) else if c < 11 then .ne (c - 9)
  else if c = 11 then .se else if c = 12 then .host else .ring

/-- A power stage: a channel (0 to 45 HS, 46 to 61 LS, 62 to 85 FIO), a bridge (0 to 19 HB, 20 to 23 GD), a valve or a valve bank. -/
inductive Stage where
  | chan (c : Nat)
  | bridge (b : Nat)
  | valve (n : Nat)
  | bank (k : Nat)
  deriving DecidableEq, Repr

/-- Whether the stage exists (R29). -/
def Stage.ok : Stage → Bool
  | .chan c => c < 86
  | .bridge b => b < 24
  | .valve n => n < 8
  | .bank k => k < 4

/-- What a millisecond measures on the switch inputs (R290, R296): the pin voltages in mV, and for each sense supply its current in 0.1 mA and
the temperature of its switch in 1/16 °C. -/
structure SwiReading where
  vpins : List Nat
  ssup : List (Nat × Int)
  deriving DecidableEq, Repr

/-- Whether the readings fit their registers. -/
def SwiReading.ok (r : SwiReading) : Bool := r.vpins.all (· < 65536) && r.ssup.length ≤ 4

/-- What a millisecond measures on the LED matrix (R290): for each line its current and temperature, and for each column the mean of its
dissipation. -/
structure LedReading where
  lines : List (Nat × Int)
  cols : List Nat
  deriving DecidableEq, Repr

/-- Whether there are no more readings than lines and columns. -/
def LedReading.ok (r : LedReading) : Bool := r.lines.length ≤ 12 && r.cols.length ≤ 12

/-- A zero crossing of the ripple of gate driver `eng` with a swing of `amp` mA (R229). -/
structure Crossing where
  eng : Nat
  amp : Nat
  deriving DecidableEq, Repr

/-- Whether the engine exists. -/
def Crossing.ok (x : Crossing) : Bool := x.eng < 4

/-- What a synchronisation frame tells of the master beside its TB (R464, R465): CFG.SHARED_GATE, and the step in ns that it owes. -/
structure RingTell where
  shared : Bool
  owed : Nat
  deriving DecidableEq, Repr

/-- What a device's status frame tells beside its flags (R466, R474): its contributions in force, and the address of the other device
concerned where its own is not distinct or does not rise downstream, 0 otherwise. -/
structure RingShare where
  own : List (Nat × Nat)
  clash : Nat
  deriving DecidableEq, Repr

/-- Whether the address is one of the ring. -/
def RingShare.ok (x : RingShare) : Bool := x.clash < 8

/-- A CAN frame on a bus (R347, R357): its identifier right-aligned, and the bytes it carries. -/
structure CanFrame where
  dlc : Nat
  fdf : Bool
  brs : Bool
  esi : Bool
  rtr : Bool
  xtd : Bool
  id : Nat
  data : List Byte
  deriving DecidableEq, Repr

/-- Data bytes that a DLC stands for (R357). -/
def dlcLen (fdf : Bool) (dlc : Nat) : Nat :=
  if dlc < 9 then dlc else if fdf then [12, 16, 20, 24, 32, 48, 64].getD (dlc - 9) 64 else 8

/-- Whether the fields of a frame fit together: an FD frame is no remote frame, which carries no data. -/
def CanFrame.ok (f : CanFrame) : Bool :=
  f.dlc < 16 && f.id < (if f.xtd then 2 ^ 29 else 2 ^ 11) && !(f.fdf && f.rtr) &&
    f.data.length == (if f.rtr then 0 else dlcLen f.fdf f.dlc)

end Sys2Proof
end

