-- ==== Sys2Proof/Syntax.lean ====
section
/-! DEFINITION. The commands of the KV1: one constructor per row of spec/opcode_table.json, with the operands the row's
rule gives it. Events carry the physical facts they report (log 2). -/

namespace Sys2Proof

/-- A command of the KV1, one per row of the table of operations and events. -/
inductive Instr where
  /-- POWER_UP (R54). VBAT rises through the power-on threshold; AON-P and AON-L leave reset and the power-up sequence begins. -/
  | powerUp (strap : Bool)
  /-- LIMP_MAP_READ (R45). AON-P completes reading the limp-home map from P5, after which the LIMPn inputs act. -/
  | limpMapRead
  /-- TOTAL_POWER_LOSS (R36). VBAT falls below 3.0 V; the always-on islands lose supply, TB restarts at zero and the epoch breaks. -/
  | totalPowerLoss
  /-- UNDERVOLTAGE (R36). VBAT falls below the undervoltage threshold after its filter, causing a full reset. -/
  | undervoltage
  /-- VBAT_LOW_CHANGE (R35). VBAT crosses the VBAT_LOW threshold with hysteresis, setting or clearing SUP.STAT.VBAT_LOW. -/
  | vbatLowChange (low : Bool)
  /-- VBAT_OV_CHANGE (R36). VBAT crosses the VBAT_OV threshold with hysteresis; starts are held while set and LD_SEEN is set. -/
  | vbatOvChange (ov : Bool)
  /-- REVERSE_BATTERY (R38). VBAT reverses; H and M channels turn fully on and every other stage is off. -/
  | reverseBattery (reversed : Bool)
  /-- RESET_N_RISE (R50). RESET_N rises after a low time; a low time under 10 ms causes a core restart, and a longer one ends the full reset. -/
  | resetNRise
  /-- RESET_N_LONG_LOW (R50). RESET_N low time reaches 10 ms at a TB tick and a full reset begins at once. -/
  | resetNLongLow
  /-- LIMP_INPUT_CHANGE (R47). A LIMPn input changes state after its 5 ms filter; mapped channels start or release and a wake of source 0x8 is raised. -/
  | limpInputChange (n : Nat) (active : Bool)
  /-- LIMP_HOME_START (R48). While PD_OUT is not on, AON-P starts the next limp-home channel at the first TB tick of a 250 µs slot. -/
  | limpHomeStart
  /-- VBAT_MEASUREMENT (R56). SUP.VBAT.VBAT_MV and VFLD_MV are updated every 1 ms, or every 64 ms while the PLL is stopped. -/
  | vbatMeasurement (vbat : Nat) (vfld : Nat)
  /-- VFLD_UV_CHANGE (R284). VFLD crosses its undervoltage threshold, changing KA.STAT.VFLD_UV. -/
  | vfldUvChange (uv : Bool)
  /-- REGISTER_WRITE (R4). A write to a register that has no row of its own acts on each field by its access type. -/
  | registerWrite (m : Master) (page : Nat) (off : Nat) (v : Word)
  /-- CTRL_EN_CLEAR (R66). Clearing CTRL.EN begins a drain towards the block's safe point. -/
  | ctrlEnClear (m : Master) (page : Nat)
  /-- CTRL_EN_SET (R66). Setting CTRL.EN enables the block, or is stored during a drain. -/
  | ctrlEnSet (m : Master) (page : Nat)
  /-- DRAIN_COMPLETE (R66). A drain reaches its safe point; DRAINING clears and IDLE sets, and a stored EN restarts the block one BCLK later. -/
  | drainComplete (page : Nat)
  /-- CTRL_SRST (R68). SRST while IDLE resets every block-specific register and clears IRQ_RAW and EVT_CNT. -/
  | ctrlSrst (m : Master) (page : Nat)
  /-- CTRL_HOLD_SET (R69). Setting HOLD holds the block from the next BCLK and sets HELD. -/
  | ctrlHoldSet (m : Master) (page : Nat)
  /-- CTRL_HOLD_CLEAR (R70). Clearing HOLD starts applying the write shadow in write order. -/
  | ctrlHoldClear (m : Master) (page : Nat)
  /-- SHADOW_APPLY_COMPLETE (R70). The write shadow has been applied within 64 BCLK and HELD clears. -/
  | shadowApplyComplete (page : Nat)
  /-- SHADOW_WRITE (R70). A write to a block-specific register of a held page enters the 64-entry write shadow. -/
  | shadowWrite (m : Master) (page : Nat) (off : Nat) (v : Word)
  /-- LOCKKEY_WRITE (R71). A write to LOCKKEY advances, completes, fails or ends the unlock sequence of the page. -/
  | lockkeyWrite (m : Master) (page : Nat) (v : Word)
  /-- IRQ_SET_WRITE (R61). A write to IRQ_SET sets the matching IRQ_RAW bits. -/
  | irqSetWrite (m : Master) (page : Nat) (v : Word)
  /-- IRQ_RAW_CLEAR (R73). A W1C write to IRQ_RAW clears event bits, except one whose event falls in the same BCLK. -/
  | irqRawClear (m : Master) (page : Nat) (v : Word) (event : Word)
  /-- UNMAPPED_ACCESS (R59). An access to an unmapped, reserved or refused address returns 0 or is discarded with an error response. -/
  | unmappedAccess (m : Master) (addr : Word) (wr : Option Word)
  /-- DOMAIN_OFF_ACCESS (R75). An access to a page whose domain is not on stalls for a wake or ends with 0xD0FF_D0FF and an error response. -/
  | domainOffAccess (m : Master) (page : Nat) (off : Nat) (wr : Option Word)
  /-- STALL_TIMEOUT (R76). A stall reaches 200 µs and ends as an error response while the wake completes. -/
  | stallTimeout (m : Master)
  /-- SATELLITE_WINDOW_ACCESS (R78). The ring master accesses a satellite device's page through window n. -/
  | satelliteWindowAccess (m : Master) (d : Nat) (p : Nat) (off : Nat) (w : Option Word) (kind : Nat) (ans : Word)
  /-- WINDOW_TIMEOUT (R78). A satellite window access unanswered within 250 µs ends with an error response or TIMEOUT. -/
  | windowTimeout (m : Master)
  /-- XTAL_FAIL (R84). The clock monitor detects a failed 20 MHz crystal; the PLL relocks on the RC and REF_SEL is set. -/
  | xtalFail
  /-- PLL_LOCK_LOSS (R84). The PLL loses lock, causing a clock freeze and relock on the same reference. -/
  | pllLockLoss
  /-- PLL_RELOCK_TIMEOUT (R84). No lock within 200 µs after a lock loss; the PLL relocks on the RC. -/
  | pllRelockTimeout
  /-- REF_SEL_WRITE (R84). A write to CLK.CFG.REF_SEL causes a clock freeze and relock on the new reference. -/
  | refSelWrite (m : Master) (v : Word)
  /-- CLOCK_FREEZE_END (R85). The PLL relocks after a freeze and the derived clocks run again. -/
  | clockFreezeEnd
  /-- LF_XTAL_FAIL (R84). The 32.768 kHz crystal fails; LFCLK runs from the RC and LFINC takes the RC value. -/
  | lfXtalFail
  /-- CLOCK_RESTART_COMPLETE (R87). Oscillator and PLL restart after a power-up request in park completes and the power-up proceeds. -/
  | clockRestartComplete
  /-- TB_HANDOVER_TO_LF (R120). At the LF edge after a handover request, TB starts adding LFINC and the hold is added to HANDOVER_RESID. -/
  | tbHandoverToLf
  /-- TB_HANDOVER_TO_CCLK (R120). At the first LF edge after PLL lock, TB starts adding CCLK increments again. -/
  | tbHandoverToCclk
  /-- LFINC_TRIM (R116). After each 1,024 LF periods measured in TB, the quotient is loaded into TB.LFINC. -/
  | lfincTrim
  /-- INC_INT_WRITE (R115). A write of TB.INC_INT applies the staged increment pair at the next CCLK tick. -/
  | incIntWrite (m : Master) (v : Word)
  /-- RESID_APPLY (R121). A write of 1 to ACT.RESID_APPLY adds HANDOVER_RESID to TB and clears it. -/
  | residApply (m : Master)
  /-- UNCERT_CLR (R117). A write of 1 to ACT.UNCERT_CLR clears UNCERT and UNCERT_SAT. -/
  | uncertClr (m : Master)
  /-- CMP_HI_WRITE (R127). A write of CMP_HI stores the compare value and arms the channel while MODE is compare. -/
  | cmpHiWrite (m : Master) (g : Nat) (v : Word)
  /-- CMP_MODE_WRITE (R128). A write of CFG.MODE selects compare or capture, and writing off disarms the channel at once. -/
  | cmpModeWrite (m : Master) (g : Nat) (mode : Nat)
  /-- COMPARE_FIRE (R128). An armed compare fires when TB reaches its value, reloading by PERIOD or disarming. -/
  | compareFire (g : Nat)
  /-- CAPTURE (R130). A capture source edge captures TB into CAP_LO and CAP_HI. -/
  | capture (g : Nat) (src : Nat) (rising : Bool)
  /-- CASC_COUNT (R131). A cascade counter counts an event of its source and may wrap. -/
  | cascCount (k : Nat) (src : Nat) (rising : Bool)
  /-- CASC_CARRY (R132). A registered carry from an even counter lands in its linked odd counter one counter clock after the wrap. -/
  | cascCarry (k : Nat)
  /-- CASC_CNT_WRITE (R134). A write to CNT takes effect at the next counter clock, losing a count in that clock. -/
  | cascCntWrite (m : Master) (k : Nat) (v : Word)
  /-- PWR_ORDER (R94). The HK writes a domain's ORDER, which is accepted or refused. -/
  | pwrOrder (n : Nat) (order : Nat) (autowake : Bool)
  /-- PWR_ORDER_REQUEST (R91). A non-HK master's ORDER write enters the PWR request queue. -/
  | pwrOrderRequest (m : Master) (n : Nat) (order : Nat)
  /-- PWR_REQ_READ (R92). A read of PWR.REQ removes the oldest queued request. -/
  | pwrReqRead (m : Master)
  /-- DOMAIN_ENTRY_COMPLETE (R97). A domain whose blocks reached their safe point completes its entry into retention or off. -/
  | domainEntryComplete (n : Nat)
  /-- DOMAIN_POWER_UP_ADMIT (R99). The geyser gate admits a queued domain power-up and its rail ramp begins. -/
  | domainPowerUpAdmit (n : Nat)
  /-- DOMAIN_POWER_UP_COMPLETE (R98). A domain reaches STATE on and stalled accesses are served. -/
  | domainPowerUpComplete (n : Nat)
  /-- DOMAIN_PROMOTION (R203). A domain power-up that has waited DEFER2.DOM is promoted behind limp-home and P0. -/
  | domainPromotion (n : Nat)
  /-- RIND_SW_VALID_WRITE (R105). The HK sets RIND.STAT.SW_VALID to mark the software area as holding data. -/
  | rindSwValidWrite (m : Master)
  /-- WAKE_CAUSE_CLR (R108). A write of 1 to WAKE.CAUSE.CLR clears CAUSE and PEND. -/
  | wakeCauseClr (m : Master)
  /-- WAKE_OUT_WRITE (R44). Firmware writes WAKE.WAKE_OUT, which the WAKE_OUT land follows. -/
  | wakeOutWrite (m : Master) (v : Bool)
  /-- HCS_N_WAKE (R109). HCS_N low for 10 µs while PD_ETH is not on is a wake that powers up PD_ETH. -/
  | hcsNWake
  /-- WDG_KICK (R111). A write to WDG.KICK is a valid kick restarting the count, or a bad kick counting as an expiry. -/
  | wdgKick (m : Master) (v : Word) (early : Bool)
  /-- WDG_EXPIRY (R112). The watchdog count runs out; EXPIRIES increments and a core restart or full reset follows. -/
  | wdgExpiry
  /-- WDG_FULL_RESET_END (R112). The 1 ms watchdog full reset ends on the watchdog RC. -/
  | wdgFullResetEnd
  /-- CHANNEL_OUT_WRITE (R154). A write to a channel's OUT sets its committed state and may request a start or a turn-off. -/
  | channelOutWrite (m : Master) (c : Nat) (v : Word)
  /-- GATE_SLOT_START (R194). A new 250 µs geyser-gate slot begins and contributions age. -/
  | gateSlotStart
  /-- GATE_ADMIT (R197). The geyser gate admits the head request when it fits the slot budget and the continuous limit. -/
  | gateAdmit
  /-- GATE_DEFER_EXPIRY (R201). A queued request exceeds its deferral limit and is refused. -/
  | gateDeferExpiry
  /-- INRUSH_WINDOW_CLOSE (R141). The inrush window closes after TINR plus pauses, and the channel passes to ON. -/
  | inrushWindowClose (c : Nat)
  /-- DROOP_CHANGE (R142). VBAT crosses INRUSH_DROOP, pausing or resuming the window timers. -/
  | droopChange (c : Nat) (below : Bool)
  /-- DROOP_CAP_REACHED (R142). A window's droop pauses reach 2 × TINR, the timer runs again and DROOP_CAP is set. -/
  | droopCapReached (c : Nat)
  /-- LIM_WRITE (R140). A write to LIM takes effect at the next BCLK and may start limitation or a fast trip. -/
  | limWrite (m : Master) (c : Nat) (v : Word)
  /-- LIMITATION_START (R147). A channel's current reaches its active limit and limitation begins. -/
  | limitationStart (u : Stage)
  /-- FILTERED_TRIP (R144). The time in limitation reaches TFILT and the channel turns off with OC_TRIP. -/
  | filteredTrip (u : Stage) (we : Nat)
  /-- FAST_TRIP (R145). The current exceeds 1.5 times the active limit and the channel turns off at once. -/
  | fastTrip (u : Stage)
  /-- TURN_OFF_COMPLETE (R147). A turn-off ends with current below 10 mA and the clamp energy goes to the caldera. -/
  | turnOffComplete (u : Stage) (energy : Nat) (we : Nat)
  /-- RETRY_TIMER_EXPIRY (R154). The retry timer ends and, if the wiring-energy window permits, the channel requeues. -/
  | retryTimerExpiry (c : Nat)
  /-- RETRIES_RELOAD (R155). After 1 s in ON or LIMP without a trip, RETRIES_LEFT reloads from RETRY_MAX. -/
  | retriesReload (c : Nat)
  /-- THERMAL_LATCH_SET (R154). A channel sensor exceeds the latch threshold and the channel goes to THERMAL. -/
  | thermalLatchSet (u : Stage)
  /-- THERMAL_LATCH_CLEAR (R158). With TL_AUTO, the latch clears at the release temperature. -/
  | thermalLatchClear (u : Stage)
  /-- ACT_TL_CLR (R158). ACT.TL_CLR clears the thermal latch, or is rejected above the release temperature. -/
  | actTlClr (m : Master) (u : Stage)
  /-- ACT_UNLOCK (R160). ACT.UNLOCK ends a clamp lock, or is rejected while the fill is 25 % of BUDGET or more. -/
  | actUnlock (m : Master) (u : Stage)
  /-- ACT_FUSE_RESET (R161). ACT.FUSE_RESET ends a fuse lock once the wire has cooled below the reset point. -/
  | actFuseReset (m : Master) (c : Nat)
  /-- ACT_RETRY_RESET (R161). ACT.RETRY_RESET reloads RETRIES_LEFT and ends a RETRY_EXH lock. -/
  | actRetryReset (m : Master) (c : Nat)
  /-- ACT_DIAG_NOW (R162). ACT.DIAG_NOW runs one off-state check. -/
  | actDiagNow (m : Master) (c : Nat)
  /-- OFF_STATE_CHECK_START (R162). Every OFF_PERIOD an off-state check begins with the pull-up on. -/
  | offStateCheckStart (c : Nat)
  /-- OFF_STATE_CHECK_SAMPLE (R162). After 500 µs an off-state sample is taken and, after the second, OL_OFF or STB may be set. -/
  | offStateCheckSample (c : Nat) (high : Bool)
  /-- SENSE_UPDATE (R164). Every 1 ms SENSE is updated with the mean on-phase current and its flags. -/
  | senseUpdate (u : Stage) (raw : Int) (vout : Nat) (tj : Nat) (phase : Bool) (limited : Bool)
  /-- PWM_PERIOD_START (R150). A PWM period starts at its TB phase, and DUTY, FREQ, PHASE and caps take effect. -/
  | pwmPeriodStart (u : Stage)
  /-- LS_CLAMP_CONDUCTION (R597). The voltage at an LS or VLV land reaches the clamp voltage and the clamp conducts whatever the channel's state. -/
  | lsClampConduction (u : Stage) (energy : Nat)
  /-- CALDERA_TICK (R188). Every 1 ms the caldera decays buckets, updates wire models, estimates P_EST and acts if over budget. -/
  | calderaTick (temps : List Int) (inp : SwiReading) (led : LedReading) (aux : Nat) (vlf : Nat) (ivlf : Nat)
  /-- CALDERA_RELEASE (R192). After 100 ms under budget, the caldera undoes one action every 10 ms. -/
  | calderaRelease
  /-- CALDERA_DRAIN_STEP (R174). After CALD.CTRL.EN is cleared, one derating action is undone every 10 ms. -/
  | calderaDrainStep
  /-- AMB_SET_WRITE (R182). A write of AMB_SET sets the ambient and clears STALE. -/
  | ambSetWrite (m : Master) (v : Word)
  /-- AMB_STALE (R182). AMB_SET unwritten for 10 s sets STALE and the die-sensor ambient is used. -/
  | ambStale
  /-- WE_BIN_BOUNDARY (R184). A 62.5 ms wiring-energy bin ends and waiting retries are tested again. -/
  | weBinBoundary
  /-- WIRING_ENERGY_CUT (R186). S_W reaches E_WE during an attempt and the channel turns off as in a filtered trip. -/
  | wiringEnergyCut (c : Nat) (energy : Nat)
  /-- HB_DRIVE_WRITE (R214). A write to OUT.DRIVE of a bridge requests a start, brakes, coasts or reverses. -/
  | hbDriveWrite (m : Master) (b : Nat) (v : Word)
  /-- DIR_BRAKE_END (R214). The direction-change brake ends after DIR_BRAKE ms and the new direction queues. -/
  | dirBrakeEnd (b : Nat)
  /-- BRAKE_TIMER_END (R213). The 20 ms low-side brake of STOPPED or SAFE_BRAKE ends and the switches turn off. -/
  | brakeTimerEnd (b : Nat)
  /-- STALL_DETECT (R217). The bridge current stays at or above STALL_I for STALL_T and FAULT.STALL is set. -/
  | stallDetect (b : Nat)
  /-- VDS_FAULT (R225). A switch VDS above threshold after blanking locks the gate-driver bridge. -/
  | vdsFault (g : Nat) (sw : Nat)
  /-- CP_UNDERVOLTAGE (R224). VCP − VBAT falls below threshold and every gate driver locks with CP_UV. -/
  | cpUndervoltage
  /-- HB_ACT_CLEAR (R215). ACT.CLEAR ends a trip or drain-source lock of a bridge once its latches are clear. -/
  | hbActClear (m : Master) (b : Nat)
  /-- CHARGE_PUMP_READY (R223). The charge pump reaches regulation and CP_OK sets. -/
  | chargePumpReady
  /-- WIPER_PARK_STOP (R228). The debounced park input edge stops a running bridge and sets PARKED. -/
  | wiperParkStop (g : Nat)
  /-- GD_ACT_ZERO (R227). ACT.ZERO zeroes the shunt amplifier offset while the bridge is OFF. -/
  | gdActZero (m : Master) (g : Nat) (offset : Int)
  /-- RIPPLE_COUNT (R229). A commutator ripple crossing updates POS. -/
  | rippleCount (x : Crossing)
  /-- RIPPLE_INSERT (R229). An interval above 1.6 / f_est passes without a crossing and a count is inserted. -/
  | rippleInsert (g : Nat)
  /-- RPE_LOW_FREQ_STALL (R230). f_est below FMIN for more than 50 ms after 100 ms of RUN reports a stall. -/
  | rpeLowFreqStall (g : Nat)
  /-- ACT_NORM_NOW (R231). ACT.NORM_NOW normalises the window at the present position. -/
  | actNormNow (m : Master) (g : Nat)
  /-- ACT_NORM_CLR (R232). ACT.NORM_CLR clears NORM. -/
  | actNormClr (m : Master) (g : Nat)
  /-- TARGET_GO (R234). A write of TARGET with GO starts an automatic move, or is refused when closing unnormalised. -/
  | targetGo (m : Master) (g : Nat) (v : Word)
  /-- PINCH_EVALUATION (R235). Every 1 ms while closing, pinch detection evaluates force or current rise and counts hits. -/
  | pinchEvaluation (g : Nat) (index : Nat) (vb : Nat)
  /-- REVERSAL_REQUEST (R236). After REV.DELAY the opening drive is requested from the gate at P0 rank. -/
  | reversalRequest (g : Nat)
  /-- PROFILE_WRITE (R239). A write to the profile RAM or TAG loads a saved pinch profile. -/
  | profileWrite (m : Master) (g : Nat) (off : Nat) (v : Word)
  /-- VALVE_OUT_WRITE (R249). A write to a valve's OUT.ON requests a start through the bank token or turns it off. -/
  | valveOutWrite (m : Master) (n : Nat) (v : Word)
  /-- OVERLAP_TIMEOUT (R252). A valve's time in DEFERRED reaches OVERLAP_TMAX and it is refused. -/
  | overlapTimeout (n : Nat)
  /-- VALVE_PEAK_END (R245). The peak phase ends at the target, T_PEAK or PEAK_TMAX and the valve goes to HOLD or REGULATE. -/
  | valvePeakEnd (n : Nat) (index : Nat)
  /-- ARMATURE_DIP (R260). A current fall of DIP.DEPTH during the rise sets DIP_SEEN. -/
  | armatureDip (n : Nat) (index : Nat)
  /-- VALVE_REGULATION_PERIOD (R244). Every 50 µs the valve loop sets the next period's duty with dither. -/
  | valveRegulationPeriod (n : Nat) (mean : Nat) (duty : Nat)
  /-- COIL_MEASUREMENT (R255). Every 10 ms in HOLD or REGULATE the coil resistance and temperature are measured. -/
  | coilMeasurement (n : Nat) (mv : Nat) (ma : Nat)
  /-- COIL_MODEL_TICK (R256). Every 1 ms the coil thermal model advances. -/
  | coilModelTick (n : Nat)
  /-- RAMP_DOWN_END (R261). The ramp reaches 50 mA and the low-side turns off. -/
  | rampDownEnd (n : Nat)
  /-- BANK_TRIP (R253). A bank trips and both valves lock with BANK_TRIP. -/
  | bankTrip (k : Nat) (fast : Bool)
  /-- VBK_ACT_CLEAR (R253). VBK ACT.CLEAR ends BANK_TRIP in both valves once the bank latch is clear. -/
  | vbkActClear (m : Master) (k : Nat)
  /-- VALVE_ACT_CLEAR (R262). ACT.CLEAR ends a valve's trip or diagnostic lock. -/
  | valveActClear (m : Master) (n : Nat)
  /-- VALVE_FREEZE_TURN_OFF (R262). A clock freeze longer than one regulation period turns the valve low-side off. -/
  | valveFreezeTurnOff (n : Nat)
  /-- FIO_TRANSITION_ACCEPT (R270). A field input holds its new level for DEB and the transition is accepted and timestamped. -/
  | fioTransitionAccept (p : Nat) (level : Bool) (edge : Nat)
  /-- FIO_WAKE (R272). A field input in retention with WAKE_EN wakes the KV1 as source 0x2. -/
  | fioWake (p : Nat) (level : Bool)
  /-- KEEPALIVE_WRITE (R278). A write of 0x0000_A55A to KA.KEEPALIVE sets the deadline, and any other value is rejected. -/
  | keepaliveWrite (m : Master) (v : Word)
  /-- KEEPALIVE_EXPIRY (R279). TB passes the keepalive deadline and every output pin enters its safe state. -/
  | keepaliveExpiry
  /-- KA_RESUME (R281). KA.RESUME after a valid keepalive ends the safe states. -/
  | kaResume (m : Master)
  /-- SAFE_PATTERN_TOGGLE (R280). A 1 Hz safe-state pattern turns its pin on or off at each 500 ms of TB. -/
  | safePatternToggle (p : Nat)
  /-- FIO_OPEN_LOAD (R276). A field output reads below 5 mA for 20 ms in ON and OL_ON is set. -/
  | fioOpenLoad (p : Nat)
  /-- FIO_EXT_HIGH (R276). A field output in OFF reads high for 20 ms and EXT_HIGH is set. -/
  | fioExtHigh (p : Nat)
  /-- SWI_TRANSITION_ACCEPT (R287). A switch input holds its new level for DEB and the transition is accepted and timestamped. -/
  | swiTransitionAccept (n : Nat) (level : Bool)
  /-- WETTING_TIMER_END (R289). The 20 ms of full wetting after a change ends and the input falls to 2 mA. -/
  | wettingTimerEnd (n : Nat)
  /-- CYCLIC_SENSE_PULSE (R291). AON-P pulses a group of inputs in park and compares them at the end of the pulse. -/
  | cyclicSensePulse (g : Nat) (levels : Nat)
  /-- SWI_EVT_READ (R296). A read of EVT removes the oldest park event and loads its time. -/
  | swiEvtRead (m : Master)
  /-- SSUP_OVERCURRENT (R296). A sense supply reaches its current limit and SSUP.OC is set. -/
  | ssupOvercurrent (k : Nat)
  /-- LED_FRAME_START (R298). A matrix frame starts at its TB multiple. -/
  | ledFrameStart
  /-- LED_SYNC_EVENT (R300). A sync event from the frame timer or LED_SYNC arms a pending swap or counts a miss. -/
  | ledSyncEvent (kind : Nat)
  /-- SWAP_REQ (R300). A write of 1 to SWAP.REQ sets PEND. -/
  | swapReq (m : Master)
  /-- LED_ELEMENT_TEST (R301). At the end of an on-time of at least 2 µs an element is tested for open or short. -/
  | ledElementTest (e : Nat) (isOpen : Bool) (isShort : Bool)
  /-- LED_LINE_TRIP (R301). A line trips after 100 µs in limitation or at the fast threshold and stays dark. -/
  | ledLineTrip (l : Nat)
  /-- LINE_CLEAR (R301). ACT.LINE_CLEAR ends a line's lock. -/
  | lineClear (m : Master) (v : Word)
  /-- COL_HOT (R301). The column thermal latch sets and every line turns off until it clears. -/
  | colHot (hot : Bool)
  /-- DIAG_RUN (R302). ACT.DIAG_RUN starts the neighbour-pin test. -/
  | diagRun (m : Master)
  /-- LED_DIAG_SLOT (R302). One neighbour-test slot pulls the pins and records shorts, setting DIAG_DONE after the fourth. -/
  | ledDiagSlot (shorts : Nat)
  /-- LED_RESTART (R303). ACT.RESTART requests the scan start through the gate again. -/
  | ledRestart (m : Master)
  /-- LDC_REFRESH (R306). REFRESH ms after the previous transfer a refresh transfer starts. -/
  | ldcRefresh
  /-- LDC_TRANSFER_END (R307). A transfer and its latch complete and the returned data have been checked. -/
  | ldcTransferEnd (ret : Nat)
  /-- LDC_FDATA_ACCESS (R308). A read or write of FDATA acts on the word at FADDR and increments INDEX. -/
  | ldcFdataAccess (m : Master) (wr : Option Word)
  /-- SLOT_ARM (R316). A write setting ARM arms a simmer slot after its checks. -/
  | slotArm (m : Master) (index : Nat) (v : Word) (devOk : Nat)
  /-- TRIGGER_MATCH (R321). An event matches trigger-table entries and starts their slots simmering. -/
  | triggerMatch (src : Nat) (idx : Nat) (edge : Nat)
  /-- LATCHED_SIMMER_START (R322). A slot latched while PD_OUT was not on enters SIMMER when PD_OUT reaches on. -/
  | latchedSimmerStart (index : Nat)
  /-- PREP_ISSUE (R324). A preparation whose domain is on acts or requests its gate admission. -/
  | prepIssue (index : Nat) (n : Nat)
  /-- CTX_TRIGGER (R312). A write of CTX_CTRL.TRIGGER starts the slot as source 0xB. -/
  | ctxTrigger (m : Master) (index : Nat)
  /-- CTX_CONFIRM (R328). A confirmation makes a simmering slot boil. -/
  | ctxConfirm (m : Master) (index : Nat)
  /-- CTX_CANCEL (R332). A write of CTX_CTRL.CANCEL quenches a simmering slot. -/
  | ctxCancel (m : Master) (index : Nat)
  /-- COMMIT_APPLY (R329). At T_a the slot's commits write committed state in order. -/
  | commitApply (index : Nat)
  /-- SIMMER_DEADLINE (R332). TB − CTX_TS reaches DEADLINE and the slot quenches. -/
  | simmerDeadline (index : Nat)
  /-- REMOTE_SIMMER_START (R337). A satellite device receives a simmer-start frame and its remote part enters SIMMER. -/
  | remoteSimmerStart (index : Nat) (ts : Nat)
  /-- COMMIT_BROADCAST_RECEIVE (R337). A remote part receives the master's commit broadcast carrying T_a. -/
  | commitBroadcastReceive (index : Nat) (ta : Nat)
  /-- COMMIT_ACK_TIMEOUT (R338). A named satellite device does not acknowledge within 10 µs of T_a and COMMIT_REFUSED is set. -/
  | commitAckTimeout (index : Nat)
  /-- FER_RUN (R345). A write of GCTRL.RUN starts a Ferlys group, or is rejected. -/
  | ferRun (m : Master) (g : Nat)
  /-- FER_STOP_REQ (R344). GCTRL.STOP_REQ stops the group at the next tick. -/
  | ferStopReq (m : Master) (g : Nat)
  /-- FER_START_TICK (R342). A group's start tick arrives on the 100 µs grid. -/
  | ferStartTick (g : Nat)
  /-- FER_WORD_ACT (R343). A table word acts DELTA ticks after the previous one. -/
  | ferWordAct (g : Nat)
  /-- CAN_FRAME_RECEIVED (R359). A valid CAN frame is filtered and stored or rejected. -/
  | canFrameReceived (c : Nat) (f : CanFrame) (edge : Nat)
  /-- CAN_FRAME_SENT (R364). A frame is sent successfully; TX_DONE sets and a timestamp entry may be queued. -/
  | canFrameSent (c : Nat) (edge : Nat)
  /-- CAN_FRAME_ERROR (R347). A protocol error or lost arbitration ends a frame and updates the error counters. -/
  | canFrameError (c : Nat) (kind : Nat) (fast : Bool) (te : Nat) (re : Nat)
  /-- CAN_TX_REQ (R364). A write of TX_REQ makes transmit slots pending. -/
  | canTxReq (m : Master) (c : Nat) (v : Word)
  /-- CAN_TX_ABORT (R365). A write of TX_ABORT cancels transmit slots. -/
  | canTxAbort (m : Master) (c : Nat) (v : Word)
  /-- CAN_RXQ_REL (R361). A write of N to RXQn_REL releases the N oldest receive elements. -/
  | canRxqRel (m : Master) (c : Nat) (q : Nat) (v : Word)
  /-- CAN_RXSLOT_NEW_CLEAR (R363). A W1C write to RXSLOT_NEW clears a fixed receive slot's new-data bit. -/
  | canRxslotNewClear (m : Master) (c : Nat) (w : Nat) (v : Word)
  /-- CAN_TXTS_POP (R368). A write to TXTS_POP removes the oldest transmit timestamp entry. -/
  | canTxtsPop (m : Master) (c : Nat)
  /-- CAN_BUSOFF_RECOVERY (R374). With BUSOFF_AUTO, 128 × 11 recessive bits end bus-off. -/
  | canBusoffRecovery (c : Nat)
  /-- CAN_TXD_TIMEOUT (R351). TXD dominant for the timeout turns the transmitter off and sets TXD_TO. -/
  | canTxdTimeout (t : Nat)
  /-- CAN_THERMAL_SHUTDOWN (R351). A transceiver overheats and its transmitter turns off. -/
  | canThermalShutdown (t : Nat)
  /-- CTRX_MODE_WRITE (R350). A write of CTRX MODE sets the transceiver's mode. -/
  | ctrxModeWrite (m : Master) (t : Nat) (v : Word)
  /-- SCHED_START (R372). SCHED_CTRL.START starts the time-triggered schedule. -/
  | schedStart (m : Master) (c : Nat)
  /-- SCHED_STOP (R374). SCHED_CTRL.STOP stops the schedule at the end of the basic cycle. -/
  | schedStop (m : Master) (c : Nat)
  /-- AWD_SERVE (R373). SCHED_CTRL.AWD_SERVE serves the application watchdog. -/
  | awdServe (m : Master) (c : Nat)
  /-- AWD_EXPIRY (R373). The application watchdog expires and the level becomes S3. -/
  | awdExpiry (c : Nat)
  /-- TIME_MARK (R371). A trigger-list time mark acts in an acting cycle. -/
  | timeMark (c : Nat) (e : Nat)
  /-- REFERENCE_MESSAGE (R369). A valid reference message restarts cycle time and may update TUR. -/
  | referenceMessage (c : Nat) (f : CanFrame) (edge : Nat)
  /-- LIN_CMD_RUN (R386). CMD.RUN starts or switches the commander's schedule table. -/
  | linCmdRun (m : Master) (l : Nat)
  /-- LIN_CMD_STOP (R390). CMD.STOP stops the table at the next slot start. -/
  | linCmdStop (m : Master) (l : Nat)
  /-- LIN_CMD_SLEEP (R389). CMD.SLEEP replaces the next slot with the go-to-sleep command. -/
  | linCmdSleep (m : Master) (l : Nat)
  /-- LIN_CMD_WAKE (R389). CMD.WAKE drives the bus dominant for 1 ms. -/
  | linCmdWake (m : Master) (l : Nat)
  /-- LIN_SLOT_START (R386). A schedule slot starts and its header goes out. -/
  | linSlotStart (l : Nat)
  /-- LIN_HEADER_RECEIVED (R387). A responder receives a header and answers per its descriptor. -/
  | linHeaderReceived (l : Nat) (id : Nat) (parity : Bool) (baud : Nat)
  /-- LIN_FRAME_END (R384). A LIN frame ends and updates its descriptor or records an error. -/
  | linFrameEnd (l : Nat) (err : Nat) (ts : Nat) (data : List Byte)
  /-- LIN_NO_RESPONSE (R388). The response is incomplete at its deadline and NO_RESP is set. -/
  | linNoResponse (l : Nat) (part : Bool) (ts : Nat)
  /-- LIN_BUS_IDLE (R389). 4 s without bus activity sets BUS_IDLE. -/
  | linBusIdle (l : Nat)
  /-- LIN_TXD_TIMEOUT (R383). LIN TXD dominant for the timeout turns the transmitter off. -/
  | linTxdTimeout (l : Nat)
  /-- LIN_BUS_WAKE (R383). A dominant wake pulse on a LIN transceiver in WAKE_DET is wake source 0x4. -/
  | linBusWake (l : Nat)
  /-- MAC_KICK (R397). A write of KICK makes the MAC send owned transmit descriptors. -/
  | macKick (m : Master) (k : Nat)
  /-- MAC_FRAME_SENT (R397). A frame is sent and its descriptor is written back. -/
  | macFrameSent (k : Nat) (err : Nat) (ts : Nat) (tries : Nat)
  /-- MAC_FRAME_RECEIVED (R396). A received frame is accepted into the receive ring or dropped. -/
  | macFrameReceived (k : Nat) (err : Nat) (ts : Nat) (data : List Byte)
  /-- MDIO_START (R399). A write of MDIO.OP starts an MDIO frame. -/
  | mdioStart (m : Master) (v : Word)
  /-- MDIO_COMPLETE (R399). An MDIO frame completes and BUSY clears. -/
  | mdioComplete (rdata : Nat)
  /-- PLCA_BEACON_LOST (R395). No beacon within 4 PLCA cycles clears BEACON. -/
  | plcaBeaconLost
  /-- SAMPLE_COMMIT (R403). SAMPLE_CTRL.COMMIT takes one network-time sample, applied or refused under the jump rule. -/
  | sampleCommit (m : Master) (tag : Nat)
  /-- ACCEPT_STEP (R406). ACCEPT code STEP steps TB by the pending offset. -/
  | acceptStep (m : Master)
  /-- ACCEPT_REBASE (R406). ACCEPT code REBASE adds the pending offset to NT_BASE. -/
  | acceptRebase (m : Master)
  /-- SLEW_END (R404). SLEW_LEFT reaches 0 and slewing ends. -/
  | slewEnd
  /-- SAMPLE_TIMEOUT (R405). No sample for SAMPLE_TO s takes NTIME to HOLDOVER. -/
  | sampleTimeout
  /-- HOLDOVER_EXPIRY (R405). HOLD_T reaches HOLDOVER_MAX and NTIME goes UNSYNC. -/
  | holdoverExpiry
  /-- NT_SRC_WRITE (R405). A write to CFG.SRC returns NTIME to UNSYNC. -/
  | ntSrcWrite (m : Master) (v : Word)
  /-- NT_SECOND_PULSE (R410). Network time passes a whole second and capture source 0x52 fires. -/
  | ntSecondPulse
  /-- CAN_WAKE_PATTERN (R413). A transceiver detects the ISO 11898-2 wake-up pattern. -/
  | canWakePattern (t : Nat)
  /-- SELECTIVE_WAKE_FRAME (R414). The armed decoder receives a matching wake-up frame. -/
  | selectiveWakeFrame (t : Nat) (f : CanFrame)
  /-- SWK_FRAME_ERROR (R415). The decoder receives a frame with an error, and FEC reaching 32 wakes. -/
  | swkFrameError (t : Nat)
  /-- SWK_DECODER_TIMEOUT (R413). The selective-wake decoder disarms after its silence timeout. -/
  | swkDecoderTimeout (t : Nat)
  /-- FALSE_WAKE_WINDOW_END (R416). A CAN false-wake window ends without valid communication and is counted. -/
  | falseWakeWindowEnd (t : Nat)
  /-- LIN_FALSE_WAKE_WINDOW_END (R417). A LIN false-wake window ends without a good frame and is counted. -/
  | linFalseWakeWindowEnd (l : Nat)
  /-- NM_MESSAGE (R419). An NM message on a bus restarts its bus-awake timer. -/
  | nmMessage (b : Nat) (f : CanFrame) (buf : Option Nat)
  /-- NM_TIMEOUT (R421). The bus-awake timer expires and the bus enters PREPARE. -/
  | nmTimeout (b : Nat)
  /-- WBS_EXPIRY (R421). WBS passes with no NM message and the bus becomes AGREED. -/
  | wbsExpiry (b : Nat)
  /-- NEED_VOTE_WRITE (R420). A write of NEED.VOTE sets or clears the node's own vote. -/
  | needVoteWrite (m : Master) (b : Nat) (v : Word)
  /-- NM_CYCLE (R421). Every CYCLE ms while AWAKE the keeper requests TX_BUF. -/
  | nmCycle (b : Nat)
  /-- NM_COMMIT (R423). An accepted write to NMK.COMMIT puts named buses to sleep, and with PARK starts defer mode. -/
  | nmCommit (m : Master) (v : Word)
  /-- DEFER_LATCH (R425). A dominant phase during the commit transition is latched as a bus wake. -/
  | deferLatch (t : Nat)
  /-- DEFER_RELEASE (R428). WAKE.DEFER.RELEASE ends defer mode and accepts the first deferred wake. -/
  | deferRelease (m : Master)
  /-- CEIL_EXPIRY (R429). The awake ceiling timer expires and votes are blocked. -/
  | ceilExpiry
  /-- CEIL_RESTART (R429). CEIL.RESTART reloads the ceiling timer and clears BLOCK. -/
  | ceilRestart (m : Master)
  /-- KEEP_CLR (R422). A write of KEEP_CLR clears the bus's keeper table. -/
  | keepClr (m : Master) (b : Nat)
  /-- ACT_TUNE_NOW (R434). ACT.TUNE_NOW starts tuning every fitted antenna. -/
  | actTuneNow (m : Master)
  /-- TUNING_COMPLETE (R434). Antenna tuning ends and IRQ_RAW bit 2 is set. -/
  | tuningComplete (tune : Nat) (opn : Nat) (shorted : Nat)
  /-- LF_SHORT (R435). An antenna short turns that antenna off and sets FAULT.SHORT. -/
  | lfShort (n : Nat)
  /-- LF_OPEN (R435). An open antenna sets FAULT.OPEN. -/
  | lfOpen (n : Nat)
  /-- LF_THERMAL (R435). The LF driver thermal latch turns every antenna off. -/
  | lfThermal (hot : Bool)
  /-- IMMO_CMD_GO (R444). CMD.GO requests an entry or start exchange on its antenna mask. -/
  | immoCmdGo (m : Master) (go : Nat) (mask : Nat)
  /-- IMMO_CMD_ABORT (R443). CMD.ABORT ends the running exchange ABORTED. -/
  | immoCmdAbort (m : Master)
  /-- IMMO_TP_READ (R445). CMD.TP_READ starts a backup transponder exchange on LFA5. -/
  | immoTpRead (m : Master)
  /-- TELEGRAM_END (R440). A challenge telegram ends and listening begins. -/
  | telegramEnd (sat : Nat)
  /-- ANSWER_SLOT_CLOSE (R441). An answer slot closes as empty, collided or clean. -/
  | answerSlotClose (k : Nat) (viol : Bool) (resp : List Byte) (crc : List Byte)
  /-- IMMO_VERDICT (R441). The SE writes VERDICT for a clean slot. -/
  | immoVerdict (m : Master) (k : Nat) (valid : Bool)
  /-- VERIFY_TIMEOUT (R441). A clean slot's verdict misses VERIFY_TMAX and the slot counts as invalid. -/
  | verifyTimeout (k : Nat)
  /-- LISTENING_END (R442). Listening ends with a repeat or a DENIED outcome. -/
  | listeningEnd
  /-- REPEAT_TELEGRAM (R442). 1.0 ms after a collided exchange a new challenge telegram begins. -/
  | repeatTelegram
  /-- PENDING_EXCHANGE_START (R444). The pending exchange request starts 1.0 ms after the running exchange ends. -/
  | pendingExchangeStart
  /-- TRANSPONDER_END (R445). The transponder answer is demodulated and judged as a slot. -/
  | transponderEnd (viol : Bool) (head : List Byte) (resp : List Byte) (crc : List Byte)
  /-- LF_POLL (R447). A scheduled poll powers PD_ACC and sends poll telegrams on each antenna. -/
  | lfPoll (sat : Nat)
  /-- POLL_ANSWER (R447). A valid presence answer during a poll is wake source 0x7. -/
  | pollAnswer (head : Nat) (crc : Nat)
  /-- STANDING_MINUTE (R448). Each whole minute of TB increments the standing time. -/
  | standingMinute
  /-- ACT_STAND_CLR (R448). ACT.STAND_CLR sets the standing time to 0. -/
  | actStandClr (m : Master)
  /-- REL_SEND (R450). REL.SEND by the SE starts the release transmissions, or is rejected. -/
  | relSend (m : Master)
  /-- REL_REPEAT (R450). Every 100 ms the release TX_REQ is written again until REPEAT. -/
  | relRepeat
  /-- REL_ACK (R450). A frame matching ACK_FIDX acknowledges the release. -/
  | relAck
  /-- REL_GIVE_UP (R450). No acknowledgement 100 ms after the last request sets GIVEN_UP. -/
  | relGiveUp
  /-- REL_STOP (R450). REL.STOP ends repetition without ACKED. -/
  | relStop (m : Master)
  /-- RING_SYNC_FRAME (R463). A satellite device receives a TB synchronisation frame and corrects its TB. -/
  | ringSyncFrame (delta : Int) (int : Nat) (frac : Word) (dly : Nat) (hops : Nat) (tell : RingTell)
  /-- RING_MASTER_STEP (R464). At its next whole millisecond the master steps TB forward for a device ahead of it. -/
  | ringMasterStep
  /-- RING_SYNC_TIMEOUT (R463). No good synchronisation for 64 µs loses LOCKED. -/
  | ringSyncTimeout
  /-- RING_ALIGNMENT (R461). A ring port reaches 8b/10b alignment on its receive pairs. -/
  | ringAlignment (a : Bool) (b : Bool) (broken : Bool)
  /-- BYPASS_OPEN (R461). 20 µs after alignment the bypass opens. -/
  | bypassOpen
  /-- RING_STATUS (R468). A satellite device's 1 ms status arrives at the master, mapping it if new. -/
  | ringStatus (d : Nat) (limp : Nat) (low : Bool) (derating : Bool) (p0 : Bool) (locked : Bool) (total : Nat) (ups : Nat) (ahead : Nat) (share : RingShare)
  /-- RING_STATUS_TIMEOUT (R460). No status from a satellite device for 3 ms clears its MAP bit. -/
  | ringStatusTimeout (d : Nat)
  /-- RING_BREAK (R471). A link loses alignment for 2 µs and the master records the break. -/
  | ringBreak (d : Nat) (port : Nat)
  /-- RING_BROKEN_CLEAR (R471). All links aligned for 10 ms clears BROKEN. -/
  | ringBrokenClear
  /-- RING_WAKE_PATTERN (R469). A parked device's detector receives the ring wake pattern. -/
  | ringWakePattern
  /-- RING_WAKE_FRAME (R469). A device receives a forwarded wake frame as source 0x6. -/
  | ringWakeFrame (d : Nat)
  /-- RING_IRQ_FORWARD (R467). A satellite interrupt routed to target 0xD enters the master's forwarding queue. -/
  | ringIrqForward (d : Nat) (page : Nat)
  /-- RING_FWD_READ (R467). A read of FWD removes the oldest forwarded interrupt entry. -/
  | ringFwdRead (m : Master)
  /-- SHARED_GATE_FORWARD (R465). A locked satellite device forwards a gate request to the master's GOV. -/
  | sharedGateForward (d : Nat) (page : Nat) (chan : Nat) (rank : Nat) (x : Nat) (h : Nat) (prio : Nat) (t : Nat)
  /-- SHARED_ADMISSION_APPLY (R465). A satellite device applies a master's admission and opens the inrush window. -/
  | sharedAdmissionApply (page : Nat) (chan : Nat) (ok : Bool)
  /-- INTERRUPT_ENTRY (R501). The core takes the lowest enabled pending line once entry conditions hold. -/
  | interruptEntry (c : Nat)
  /-- HALT_RESUME (R503). A halted core resumes when an enabled line is pending. -/
  | haltResume (c : Nat)
  /-- RESULT_LANDING (R477). An instruction's result lands in its register at its landing point. -/
  | resultLanding (c : Nat)
  /-- ILL (R485). An instruction of major opcode 0x00 or 0x3F takes the illegal-instruction trap. -/
  | iIll (c : Nat)
  /-- ADD (R486). rd = ra + rb. -/
  | iAdd (c : Nat) (rd : Nat) (ra : Nat) (rb : Nat)
  /-- SUB (R486). rd = ra − rb. -/
  | iSub (c : Nat) (rd : Nat) (ra : Nat) (rb : Nat)
  /-- AND (R486). rd = ra AND rb. -/
  | iAnd (c : Nat) (rd : Nat) (ra : Nat) (rb : Nat)
  /-- OR (R486). rd = ra OR rb. -/
  | iOr (c : Nat) (rd : Nat) (ra : Nat) (rb : Nat)
  /-- XOR (R486). rd = ra XOR rb. -/
  | iXor (c : Nat) (rd : Nat) (ra : Nat) (rb : Nat)
  /-- NOR (R486). rd = ra NOR rb. -/
  | iNor (c : Nat) (rd : Nat) (ra : Nat) (rb : Nat)
  /-- SLL (R486). Shift left logical by rb. -/
  | iSll (c : Nat) (rd : Nat) (ra : Nat) (rb : Nat)
  /-- SRL (R486). Shift right logical by rb. -/
  | iSrl (c : Nat) (rd : Nat) (ra : Nat) (rb : Nat)
  /-- SRA (R486). Shift right arithmetic by rb. -/
  | iSra (c : Nat) (rd : Nat) (ra : Nat) (rb : Nat)
  /-- SLLI (R486). Shift left logical by an immediate. -/
  | iSlli (c : Nat) (rd : Nat) (ra : Nat) (sh : Nat)
  /-- SRLI (R486). Shift right logical by an immediate. -/
  | iSrli (c : Nat) (rd : Nat) (ra : Nat) (sh : Nat)
  /-- SRAI (R486). Shift right arithmetic by an immediate. -/
  | iSrai (c : Nat) (rd : Nat) (ra : Nat) (sh : Nat)
  /-- MIN (R486). Signed minimum. -/
  | iMin (c : Nat) (rd : Nat) (ra : Nat) (rb : Nat)
  /-- MAX (R486). Signed maximum. -/
  | iMax (c : Nat) (rd : Nat) (ra : Nat) (rb : Nat)
  /-- MINU (R486). Unsigned minimum. -/
  | iMinu (c : Nat) (rd : Nat) (ra : Nat) (rb : Nat)
  /-- MAXU (R486). Unsigned maximum. -/
  | iMaxu (c : Nat) (rd : Nat) (ra : Nat) (rb : Nat)
  /-- CLZ (R486). Counts leading zeros of ra. -/
  | iClz (c : Nat) (rd : Nat) (ra : Nat)
  /-- BSWAP (R486). Reverses the bytes of ra. -/
  | iBswap (c : Nat) (rd : Nat) (ra : Nat)
  /-- ADDS (R486). Signed saturating add. -/
  | iAdds (c : Nat) (rd : Nat) (ra : Nat) (rb : Nat)
  /-- SUBS (R486). Signed saturating subtract. -/
  | iSubs (c : Nat) (rd : Nat) (ra : Nat) (rb : Nat)
  /-- MUL (R486). Low word of the product. -/
  | iMul (c : Nat) (rd : Nat) (ra : Nat) (rb : Nat)
  /-- MULH (R486). Signed high word of the product. -/
  | iMulh (c : Nat) (rd : Nat) (ra : Nat) (rb : Nat)
  /-- MULHU (R486). Unsigned high word of the product. -/
  | iMulhu (c : Nat) (rd : Nat) (ra : Nat) (rb : Nat)
  /-- MAC (R486). rd = rd + ra × rb, low word. -/
  | iMac (c : Nat) (rd : Nat) (ra : Nat) (rb : Nat)
  /-- DIV (R486). Signed truncating division. -/
  | iDiv (c : Nat) (rd : Nat) (ra : Nat) (rb : Nat)
  /-- DIVU (R486). Unsigned truncating division. -/
  | iDivu (c : Nat) (rd : Nat) (ra : Nat) (rb : Nat)
  /-- REM (R486). Signed remainder. -/
  | iRem (c : Nat) (rd : Nat) (ra : Nat) (rb : Nat)
  /-- REMU (R486). Unsigned remainder. -/
  | iRemu (c : Nat) (rd : Nat) (ra : Nat) (rb : Nat)
  /-- CEQ (R486). rd = 1 if ra equals rb. -/
  | iCeq (c : Nat) (rd : Nat) (ra : Nat) (rb : Nat)
  /-- CNE (R486). rd = 1 if ra differs from rb. -/
  | iCne (c : Nat) (rd : Nat) (ra : Nat) (rb : Nat)
  /-- CLT (R486). rd = 1 if ra < rb signed. -/
  | iClt (c : Nat) (rd : Nat) (ra : Nat) (rb : Nat)
  /-- CLTU (R486). rd = 1 if ra < rb unsigned. -/
  | iCltu (c : Nat) (rd : Nat) (ra : Nat) (rb : Nat)
  /-- CLE (R486). rd = 1 if ra ≤ rb signed. -/
  | iCle (c : Nat) (rd : Nat) (ra : Nat) (rb : Nat)
  /-- CLEU (R486). rd = 1 if ra ≤ rb unsigned. -/
  | iCleu (c : Nat) (rd : Nat) (ra : Nat) (rb : Nat)
  /-- SEL (R486). rd = ra ≠ 0 ? rb : rc. -/
  | iSel (c : Nat) (rd : Nat) (ra : Nat) (rb : Nat) (rc : Nat)
  /-- ADDI (R487). Adds a sign-extended immediate. -/
  | iAddi (c : Nat) (rd : Nat) (ra : Nat) (imm : Nat)
  /-- ANDI (R487). ANDs a zero-extended immediate. -/
  | iAndi (c : Nat) (rd : Nat) (ra : Nat) (imm : Nat)
  /-- ORI (R487). ORs a zero-extended immediate. -/
  | iOri (c : Nat) (rd : Nat) (ra : Nat) (imm : Nat)
  /-- XORI (R487). XORs a zero-extended immediate. -/
  | iXori (c : Nat) (rd : Nat) (ra : Nat) (imm : Nat)
  /-- LUI (R487). Writes imm16 << 16. -/
  | iLui (c : Nat) (rd : Nat) (imm : Nat)
  /-- CLTI (R487). Signed compare less-than with an immediate. -/
  | iClti (c : Nat) (rd : Nat) (ra : Nat) (imm : Nat)
  /-- CLTIU (R487). Unsigned compare less-than with a sign-extended immediate. -/
  | iCltiu (c : Nat) (rd : Nat) (ra : Nat) (imm : Nat)
  /-- CEQI (R487). Compare equal with an immediate. -/
  | iCeqi (c : Nat) (rd : Nat) (ra : Nat) (imm : Nat)
  /-- LDW (R488). Loads a word from D-space. -/
  | iLdw (c : Nat) (rd : Nat) (ra : Nat) (imm : Nat)
  /-- LDH (R488). Loads a sign-extended half-word. -/
  | iLdh (c : Nat) (rd : Nat) (ra : Nat) (imm : Nat)
  /-- LDHU (R488). Loads a zero-extended half-word. -/
  | iLdhu (c : Nat) (rd : Nat) (ra : Nat) (imm : Nat)
  /-- LDB (R488). Loads a sign-extended byte. -/
  | iLdb (c : Nat) (rd : Nat) (ra : Nat) (imm : Nat)
  /-- LDBU (R488). Loads a zero-extended byte. -/
  | iLdbu (c : Nat) (rd : Nat) (ra : Nat) (imm : Nat)
  /-- STW (R488). Stores a word to D-space. -/
  | iStw (c : Nat) (rs : Nat) (ra : Nat) (imm : Nat)
  /-- STH (R488). Stores a half-word. -/
  | iSth (c : Nat) (rs : Nat) (ra : Nat) (imm : Nat)
  /-- STB (R488). Stores a byte. -/
  | iStb (c : Nat) (rs : Nat) (ra : Nat) (imm : Nat)
  /-- LDWP (R488). Loads a word at ra and adds imm16 to ra. -/
  | iLdwp (c : Nat) (rd : Nat) (ra : Nat) (imm : Nat)
  /-- STWP (R488). Stores a word at ra and adds imm16 to ra. -/
  | iStwp (c : Nat) (rs : Nat) (ra : Nat) (imm : Nat)
  /-- SWP (R490). Atomically swaps a word with rb, returning the old value. -/
  | iSwp (c : Nat) (rd : Nat) (ra : Nat) (rb : Nat)
  /-- IN (R489). Reads one I/O word, freezing the pipeline until it completes. -/
  | iIn (c : Nat) (rd : Nat) (ra : Nat) (imm : Nat) (kind : Nat) (ans : Word)
  /-- OUT (R489). Writes one I/O word. -/
  | iOut (c : Nat) (rs : Nat) (ra : Nat) (imm : Nat) (kind : Nat)
  /-- INP (R489). Reads one I/O word at ra and adds imm16 to ra. -/
  | iInp (c : Nat) (rd : Nat) (ra : Nat) (imm : Nat) (kind : Nat) (ans : Word)
  /-- OUTP (R489). Writes one I/O word at ra and adds imm16 to ra. -/
  | iOutp (c : Nat) (rs : Nat) (ra : Nat) (imm : Nat) (kind : Nat)
  /-- BZ (R492). Branches after its delay slot when rc is zero. -/
  | iBz (c : Nat) (rc : Nat) (off : Nat)
  /-- BNZ (R492). Branches after its delay slot when rc is non-zero. -/
  | iBnz (c : Nat) (rc : Nat) (off : Nat)
  /-- JUMP (R492). Jumps to a PC-relative target after its delay slot. -/
  | iJump (c : Nat) (off : Nat)
  /-- CALL (R493). Calls a PC-relative target, writing the link and sliding the window. -/
  | iCall (c : Nat) (off : Nat)
  /-- JR (R492). Jumps to a register after its delay slot. -/
  | iJr (c : Nat) (ra : Nat)
  /-- CALLR (R493). Calls a register target, writing the link and sliding the window. -/
  | iCallr (c : Nat) (ra : Nat)
  /-- RET (R493). Returns to w15 after its delay slot and slides the window back. -/
  | iRet (c : Nat)
  /-- RETI (R499). Returns from a trap or interrupt handler. -/
  | iReti (c : Nat)
  /-- LOOP (R494). Sets up a hardware loop with its count in ra. -/
  | iLoop (c : Nat) (lvl : Nat) (ra : Nat) (len : Nat)
  /-- LOOPI (R494). Sets up a hardware loop with an immediate count. -/
  | iLoopi (c : Nat) (lvl : Nat) (count : Nat) (len : Nat)
  /-- LBRK (R494). Writes 0 to a loop level's LCOUNT. -/
  | iLbrk (c : Nat) (lvl : Nat)
  /-- REP (R496). Issues the next instruction RPT times. -/
  | iRep (c : Nat) (ok : Bool)
  /-- MFC (R482). Reads a control register. -/
  | iMfc (c : Nat) (rd : Nat) (idx : Nat)
  /-- MTC (R482). Writes a control register. -/
  | iMtc (c : Nat) (ra : Nat) (idx : Nat)
  /-- SYS (R498). Takes the SYS trap with imm16 in EVAL. -/
  | iSys (c : Nat) (imm : Nat)
  /-- BRK (R498). Takes the BRK trap, or stops the core in debug mode. -/
  | iBrk (c : Nat) (imm : Nat)
  /-- HALT (R503). Stops issue and sets HALTED; a PD_HK order waiting for the halt takes effect. -/
  | iHalt (c : Nat)
  /-- SPILL (R481). Stores the oldest resident frame at SPILLP. -/
  | iSpill (c : Nat)
  /-- FILL (R481). Loads a frame from SPILLP below the oldest resident frame. -/
  | iFill (c : Nat)
  /-- RESERVED_ENCODING (R505). A reserved encoding does one of the bounded permitted effects within 64 CCLK. -/
  | reservedEncoding (c : Nat)
  /-- MBOX_PUSH (R504). A write to a mailbox DATA pushes a word, or overflows. -/
  | mboxPush (m : Master) (b : Nat) (v : Word)
  /-- MBOX_POP (R504). A read of a mailbox DATA pops the oldest word, or underflows. -/
  | mboxPop (m : Master) (b : Nat)
  /-- IRQ_SOFT_SET (R502). A write to SOFT_SET sets a core's soft interrupt bits. -/
  | irqSoftSet (m : Master) (c : Nat) (hi : Bool) (v : Word)
  /-- IRQ_SOFT_CLR (R502). A write to SOFT_CLR clears soft interrupt bits. -/
  | irqSoftClr (m : Master) (c : Nat) (hi : Bool) (v : Word)
  /-- WBUF_WRITE (R510). A write to WBUF fills the write buffer and claims ownership. -/
  | wbufWrite (m : Master) (j : Nat) (v : Word)
  /-- WCMD (R511). WCMD queues a direct page write of WBUF bytes. -/
  | wcmd (m : Master) (page : Nat) (off : Nat) (len : Nat)
  /-- WBUF_REL (R510). WBUF_REL frees the write buffer without a write. -/
  | wbufRel (m : Master)
  /-- PAGE_WRITE_START (R513). A queued page write starts once the macro is free and VBAT is at least 6 V. -/
  | pageWriteStart
  /-- PAGE_WRITE_COMPLETE (R508). An EEPROM page write completes. -/
  | pageWriteComplete
  /-- LOWV_WAIT_EXPIRY (R513). VBAT stays low for LOWV_WAIT and the waiting write is dropped with LOWV. -/
  | lowvWaitExpiry
  /-- PROT_WRITE (R517). A write of PROT.BP is a non-volatile page write of the protection bits. -/
  | protWrite (m : Master) (bp : Nat)
  /-- PW_PRESENT (R519). PW_CMD present checks a password, opening access or counting a wrong try. -/
  | pwPresent (m : Master) (part : Nat) (kind : Bool)
  /-- PW_CHANGE (R520). PW_CMD change replaces an open password. -/
  | pwChange (m : Master) (part : Nat) (kind : Bool)
  /-- PW_CLOSE (R518). PW_CMD close closes the master's opening. -/
  | pwClose (m : Master) (part : Nat) (kind : Bool)
  /-- LOCKOUT_END (R519). A password lockout ends and TRIES clears. -/
  | lockoutEnd (part : Nat)
  /-- REC_READ (R530). Reads a pail record's value. -/
  | recRead (m : Master) (k : Nat)
  /-- REC_WRITE (R525). Writes a new pail-record copy with the next SEQ. -/
  | recWrite (m : Master) (k : Nat)
  /-- CNT_READ (R527). Reads a churn counter's value. -/
  | cntRead (m : Master) (k : Nat)
  /-- CNT_INC (R528). Increments a churn counter with one 4-byte write. -/
  | cntInc (m : Master) (k : Nat)
  /-- CNT_RAISE (R529). Raises a churn counter to N when N exceeds its value. -/
  | cntRaise (m : Master) (k : Nat)
  /-- CNT_CLEAR (R529). Clears a churn counter page to 0xFF. -/
  | cntClear (m : Master) (k : Nat)
  /-- REC_ERASE (R530). Erases both copies of a pail record, copy B first. -/
  | recErase (m : Master) (k : Nat)
  /-- REC_COMMAND_DONE (R530). A record-engine command's last write completes and DONE sets with its result. -/
  | recCommandDone (k : Nat)
  /-- SKIM_MARGIN_READ (R533). Every 1,265.625 s one page is margin-read and weak words are found. -/
  | skimMarginRead (weak : List Nat) (ue : List Nat) (corr : Nat)
  /-- SKIM_REFRESH (R533). A weak word is refreshed through the journal. -/
  | skimRefresh
  /-- HK_ROM_BOOT (R542). At a start of the HK the ROM selects, verifies and loads the active image. -/
  | hkRomBoot
  /-- CORE_RELOAD (R544). At a start of a core other than the HK its component is reloaded from the active slot. -/
  | coreReload (c : Nat)
  /-- UPD_START (R547). UPD.CMD START begins receiving an update into the inactive slot. -/
  | updStart (m : Master) (slot : Bool)
  /-- UPD_FINISH (R547). UPD.CMD FINISH begins verifying the received image. -/
  | updFinish (m : Master) (slot : Bool)
  /-- UPD_ABORT (R547). UPD.CMD ABORT returns the update to IDLE. -/
  | updAbort (m : Master) (slot : Bool)
  /-- IMAGE_QUARTER_WRITE (R546). A 1 KiB image-space write lands, and a complete block is checked. -/
  | imageQuarterWrite (a : Nat) (l : List Word)
  /-- IMAGE_BLOCK_PROGRAMMED (R546). A checked block is programmed into the slot within 200 µs. -/
  | imageBlockProgrammed (b : Nat)
  /-- DIGEST_VERIFY_COMPLETE (R547). Digest verification ends with STAGED or FAILED. -/
  | digestVerifyComplete
  /-- CHG_TRIAL_NEXT (R548). CHG.CMD TRIAL_NEXT marks a staged slot TRIAL. -/
  | chgTrialNext (m : Master)
  /-- CHG_HOLD_ALL (R549). CHG.CMD HOLD_ALL makes the slot TRYING and holds every used page. -/
  | chgHoldAll (m : Master)
  /-- CHG_RELOAD (R549). CHG.RELOAD loads the HK's idle half or reloads named cores. -/
  | chgReload (m : Master) (v : Nat)
  /-- CHG_READY (R549). A core writes its CHG.READY bit. -/
  | chgReady (m : Master) (v : Nat)
  /-- CHG_SWITCH (R549). CHG.CMD SWITCH flips the HK's IBANK to CHG_ENTRY. -/
  | chgSwitch (m : Master)
  /-- CHG_RELEASE_ALL (R549). CHG.CMD RELEASE_ALL clears HOLD and opens the health window. -/
  | chgReleaseAll (m : Master)
  /-- CHG_HEALTH_OK (R550). CHG.CMD HEALTH_OK commits the slot and applies revocations. -/
  | chgHealthOk (m : Master)
  /-- CHG_RESTART (R548). CHG.CMD RESTART orders a core restart. -/
  | chgRestart (m : Master)
  /-- CHG_HOLD_EXPIRY (R550). The hold reaches 150 ms; pages are released and a core restart follows. -/
  | chgHoldExpiry
  /-- HEALTH_WINDOW_EXPIRY (R550). The 5 s health window ends without HEALTH_OK and a core restart follows. -/
  | healthWindowExpiry
  /-- ROOT_PROGRAM (R545). ROOT_CMD PROGRAM makes an empty root-key slot active in OPEN. -/
  | rootProgram (m : Master) (r : Nat) (ok : Bool)
  /-- ROOT_SEAL (R554). ROOT_CMD SEAL moves the lifecycle to SEALED. -/
  | rootSeal (m : Master) (ok : Bool)
  /-- ROOT_RETURN (R554). ROOT_CMD RETURN with a valid token moves the lifecycle to RETURNED. -/
  | rootReturn (m : Master) (ok : Bool)
  /-- ATT_GO (R556). ATT.CMD.GO requests an attestation report. -/
  | attGo (m : Master)
  /-- ATT_REPORT_DONE (R556). The report is filled and signed and DONE is set. -/
  | attReportDone (t : Nat)
  /-- SPI_FRAME (R565). An SPI frame carries one request and clocks out the previous response. -/
  | spiFrame (words : List Word) (extra : Nat) (wins : List (Nat × Nat))
  /-- UDP_REQUEST (R569). A MAC takes a host-port UDP datagram into the request queue. -/
  | udpRequest (k : Nat) (dst : Word) (src : Word) (port : Nat) (dport : Nat) (plain : Bool) (sum : Bool) (words : List Word) (wins : List (Nat × Nat))
  /-- RING_HOST_REQUEST (R572). A D-space or image request is forwarded to satellite device RING_TGT. -/
  | ringHostRequest (words : List Word)
  /-- RING_REQUEST_TIMEOUT (R572). A forwarded request unanswered within 2 ms is answered TIMEOUT. -/
  | ringRequestTimeout
  /-- HOST_NOP (R560). A NOP transaction does nothing and returns a response. -/
  | hostNop (tag : Nat)
  /-- HOST_READ (R560). Reads COUNT words at stepping addresses. -/
  | hostRead (tag : Nat) (count : Nat) (space : Nat) (addr : Word) (wins : List (Nat × Nat))
  /-- HOST_WRITE (R560). Writes COUNT words at stepping addresses. -/
  | hostWrite (tag : Nat) (count : Nat) (space : Nat) (addr : Word) (words : List Word) (wins : List (Nat × Nat))
  /-- HOST_READ_FIX (R560). Reads COUNT words all at ADDR. -/
  | hostReadFix (tag : Nat) (count : Nat) (space : Nat) (addr : Word) (wins : List (Nat × Nat))
  /-- HOST_WRITE_FIX (R560). Writes COUNT words all at ADDR. -/
  | hostWriteFix (tag : Nat) (count : Nat) (space : Nat) (addr : Word) (words : List Word) (wins : List (Nat × Nat))
  /-- MON_READ (R575). Monitor command R reads words. -/
  | monRead (space : Nat) (addr : Word) (n : Nat) (wins : List (Nat × Nat))
  /-- MON_WRITE (R575). Monitor command W writes words. -/
  | monWrite (space : Nat) (addr : Word) (words : List Word) (wins : List (Nat × Nat))
  /-- MON_DUMP (R575). Monitor command M dumps words. -/
  | monDump (space : Nat) (addr : Word) (n : Nat) (wins : List (Nat × Nat))
  /-- MON_BLOCK_LOAD (R576). Monitor command L block-loads words with a CRC. -/
  | monBlockLoad (space : Nat) (addr : Word) (words : List Word) (crc : Word)
  /-- MON_HALT (R577). Monitor command H halts a core for debugging. -/
  | monHalt (c : Nat)
  /-- MON_STEP (R577). Monitor command S steps a halted core. -/
  | monStep (c : Nat) (n : Nat)
  /-- MON_RESUME (R575). Monitor command G resumes a core in debug mode. -/
  | monResume (c : Nat)
  /-- MON_END_DEBUG (R575). Monitor command D ends debug mode and resumes the core. -/
  | monEndDebug (c : Nat)
  /-- MON_PRINT_STATE (R575). Monitor command Q prints a halted core's registers. -/
  | monPrintState (c : Nat)
  /-- MON_PRINT_LOG (R593). Monitor command T prints the sinter log. -/
  | monPrintLog
  /-- MON_SET_RATE (R575). Monitor command B sets the UART rate. -/
  | monSetRate (r : Nat)
  /-- MON_CHALLENGE (R578). Monitor command C prints a fresh challenge. -/
  | monChallenge
  /-- MON_ANSWER (R578). Monitor command A takes a signed answer and opens access if valid. -/
  | monAnswer (slot : Nat) (sig : List Byte)
  /-- MON_CLOSE (R578). Monitor command E closes opened access. -/
  | monClose
  /-- ECC_FILL (R583). ACT.FILL writes 0 with fresh check bits to the codeword at FILL_ADDR. -/
  | eccFill (m : Master)
  /-- SCRUB_STEP (R584). A scrubber reads a codeword and writes back a corrected one. -/
  | scrubStep (m : Nat) (c : Nat) (a : Nat) (cols : List Nat) (last : Bool)
  /-- LOG_DELTA_WRITE (R588). A write to the delta area subtracts from counts or clears a peak. -/
  | logDeltaWrite (m : Master) (index : Nat) (v : Word)
  /-- LOG_MINUTE_TICK (R587). Each minute the temperature and VBAT histogram counts increment. -/
  | logMinuteTick (hot : Int)
  /-- RESET_N_FALL (R50). RESET_N goes low and AON-L begins measuring its low time in TB. -/
  | resetNFall
  /-- UNCERT_SATURATION (R122). UNCERT reaches 0xFFFF_FFFF µs, saturates and sets UNCERT_SAT and TB IRQ_RAW bit 3. -/
  | uncertSaturation
  /-- LIMITATION_END (R144). A channel's current falls below its active limit, LIMITING clears, and after 50 µs without a break out of limitation the trip filter restarts. -/
  | limitationEnd (u : Stage) (we : Nat)
  /-- SWI_RAW_CHANGE (R289). A 50 µs sample of a switch input differs from STATE.RAW, which changes, and with TIMED the full WET current is restored for 20 ms. -/
  | swiRawChange (n : Nat) (level : Bool)
  /-- LF_POLL_END (R22). An LF poll's listening ends and PD_ACC returns to its previous ORDER. -/
  | lfPollEnd
  /-- COMMIT_ACKNOWLEDGEMENT (R338). The master receives a named satellite device's acknowledgement of a commit broadcast. -/
  | commitAcknowledgement (index : Nat) (d : Nat)
  /-- CAN_THERMAL_RECOVERY (R351). A transceiver after thermal shutdown has cooled by 15 K with TXD recessive, and its transmitter turns on again. -/
  | canThermalRecovery (t : Nat)
  /-- CAN_BUS_DOMINANT_TIMEOUT (R352). The bus stays dominant for longer than the TXD dominant timeout without this transceiver driving it, and STAT.BUS_DOM is set. -/
  | canBusDominantTimeout (t : Nat)
  /-- VCC5_REGULATION_CHANGE (R350). VCC5 leaves or regains regulation, so NORMAL and LISTEN transceivers act as WAKE_DET and STAT.VCC5_LOW and MODE_ACT change. -/
  | vcc5RegulationChange (low : Bool)
  /-- CAN_INTEGRATION_COMPLETE (R376). After enable or bus-off recovery, a CAN controller completes bus integration and its ACTIVITY becomes idle. -/
  | canIntegrationComplete (c : Nat)
  /-- PLCA_BEACON_SEEN (R395). The T1S PHY sees a PLCA beacon and PHYSTAT.BEACON becomes 1. -/
  | plcaBeaconSeen
  deriving DecidableEq, Repr

end Sys2Proof
end

