-- ==== Sys2Proof/Decode.lean ====
section
/-! DEFINITION. The commands that a word of the operation table spells. No row of the table has bits: the KV1's commands are bus
accesses, events and transactions, not words (log 1). -/

namespace Sys2Proof

/-- The command that the `nbits` bits `w` of the table spell: none. -/
def decodeTableWord (_nbits _w : Nat) : Option Instr := none

end Sys2Proof
end

