-- ==== Sys2Proof/Machine/Fields.lean ====
section
/-! DEFINITION. Register fields as data: where a field of a page lies, how it is accessed (R4), what it resets to
(R6), whether the rind keeps it (R7) and which values a write may give it (R596). -/

namespace Sys2Proof.Machine

/-- Access types of R4. -/
inductive Acc where
  | ro | rw | rwl | w1c | w1s | wo
  deriving DecidableEq, Repr

/-- A field's reset value. Some depend on the instance: `cls` on the HS class (R138), `hb` on the half-bridge class
(R212), `idx` on the block index, `peak` on whether the
halfword is a PEAK of R588, `en` and `idle` on whether the block starts enabled (R193, R206). -/
inductive Rst where
  | zero
  | k (n : Nat)
  | cls (h m l : Nat)
  | hb (m l : Nat)
  | idx (l : List Nat)
  | en
  | idle
  | peak
  deriving DecidableEq, Repr

/-- A repeated block of a page: `n1` instances `s1` apart, each with `n2` elements `s2` apart. -/
structure Blk where
  base : Nat
  n1 : Nat
  s1 : Nat
  n2 : Nat
  s2 : Nat
  deriving DecidableEq, Repr

/-- A register that stands once in its page. -/
def Blk.one : Blk := ⟨0, 1, 0, 1, 0⟩

/-- The values a write may give a field (R596); by class where the spec's range is by class. -/
inductive Lim where
  | any
  | oneOf (l : List (Nat × Nat))
  | cls (h m l : Nat × Nat)
  | hb (m l : Nat × Nat)
  deriving DecidableEq, Repr

/-- One field of a register page. -/
structure Fld where
  off : Nat
  lo : Nat
  w : Nat
  acc : Acc
  rst : Rst
  kept : Bool
  blk : Blk
  lim : Lim
  deriving DecidableEq, Repr

/-- One field of one page: its key in the register store, its width and its reset value. -/
structure Loc where
  key : Nat
  w : Nat
  rst : Nat
  deriving DecidableEq, Repr

/-- Class of the switch channel of page `p`: 0 H, 1 M, 2 L (R138). -/
def hsClass (p : Nat) : Nat := if p < 0x16 then 0 else if p < 0x26 then 1 else 2

/-- Class of the half-bridge of page `p`: 0 HB-M, 1 HB-L (R212). -/
def hbClass (p : Nat) : Nat := if p < 0x4C then 0 else 1

/-- The geyser gate and the caldera are enabled at reset (R193, R206). -/
def enabledAtReset (p : Nat) : Bool := p == 0x3E || p == 0x3F

/-- The reset value of a field in page `p`, block instance `i` (R6). -/
def Rst.val (r : Rst) (p i : Nat) : Nat :=
  match r with
  | .zero => 0
  | .k n => n
  | .cls h m l => if hsClass p = 0 then h else if hsClass p = 1 then m else l
  | .hb m l => if hbClass p = 0 then m else l
  | .idx l => l.getD i 0
  | .peak => if i % 8 = 7 && i < 720 then 0x8000 else 0
  | .en => if enabledAtReset p then 1 else 0
  | .idle => if enabledAtReset p then 0 else 1

/-- Offset of a field within its page, for block instance `i` and element `j`. -/
def Fld.pos (f : Fld) (i j : Nat) : Nat := f.blk.base + i * f.blk.s1 + j * f.blk.s2 + f.off

/-- Bit address of page `p`, offset `off`, bit `lo`: the key of a field in the register store. -/
def bitKey (p off lo : Nat) : Nat := (p * 4096 + off) * 32 + lo

/-- The field `f` of page `p`, block instance `i`, element `j`. -/
def Fld.loc (f : Fld) (p : Nat) (i j : Nat := 0) : Loc := ⟨bitKey p (f.pos i j) f.lo, f.w, f.rst.val p i⟩

/-- Whether `v` lies in one of the ranges. -/
def inRanges (l : List (Nat × Nat)) (v : Nat) : Bool := l.any fun r => r.1 ≤ v && v ≤ r.2

/-- Whether a write may give the field the value `v` (R596). -/
def Lim.ok (l : Lim) (p v : Nat) : Bool :=
  match l with
  | .any => true
  | .oneOf rs => inRanges rs v
  | .cls h m x => inRanges [if hsClass p = 0 then h else if hsClass p = 1 then m else x] v
  | .hb m x => inRanges [if hbClass p = 0 then m else x] v

/-- Block instance and element of field `f` at offset `off` of its page, if it has one there. -/
def Fld.at? (f : Fld) (off : Nat) : Option (Nat × Nat) :=
  let b := f.blk
  if off < b.base + f.off then none
  else
    let d := off - (b.base + f.off)
    let i := d / b.s1
    let r := d % b.s1
    let j := r / b.s2
    if r % b.s2 = 0 && i < b.n1 && j < b.n2 then some (i, j) else none

/-- Bits `lo` to `lo + w - 1` of `v`. -/
def bitsOf (v lo w : Nat) : Nat := (v >>> lo) % 2 ^ w

/-- Bit `i` of `v`. -/
def bitOf (v i : Nat) : Bool := v.testBit i

/-- `v` with bit `i` set. -/
def setBit (v i : Nat) : Nat := v ||| (1 <<< i)

/-- `v` with bit `i` clear. -/
def clrBit (v i : Nat) : Nat := if v.testBit i then v - 2 ^ i else v

/-- `v` without the bits of `m`. -/
def andNot (v m : Nat) : Nat := v - (v &&& m)

/-- A Boolean as a bit. -/
def b2n (b : Bool) : Nat := if b then 1 else 0

/-- `a + b`, saturating at the largest value of `w` bits. -/
def satAdd (w a b : Nat) : Nat := min (a + b) (2 ^ w - 1)

/-- The signed value of the `w`-bit field value `v`. -/
def sgn (w v : Nat) : Int := if v % 2 ^ w < 2 ^ (w - 1) then (v % 2 ^ w : Nat) else ((v % 2 ^ w : Nat) : Int) - 2 ^ w

/-- The `w`-bit field value of a signed value. -/
def unsgn (w : Nat) (z : Int) : Nat := (z % (2 ^ w : Nat)).toNat

/-- A signed value limited to `w` bits. -/
def satSgn (w : Nat) (z : Int) : Int := max (min z (2 ^ (w - 1) - 1)) (-(2 ^ (w - 1)))

end Sys2Proof.Machine
end

