-- ==== Sys2Proof/Machine/MapPower.lean ====
section
/-! DEFINITION. The register map of the power stages, the caldera and the geyser gate: one `Fld` per field of the spec's register
tables (offset, low bit, width, access, reset, kept, block, legal values), and one list of them per page kind. -/

namespace Sys2Proof.Machine

/-! Page kind HS: R137. -/
def HS_CFG_MODE : Fld := ⟨0x040, 0, 2, .rwl, .zero, true, .one, .any⟩
def HS_CFG_SLEW : Fld := ⟨0x040, 2, 2, .rw, (.k 1), true, .one, .any⟩
def HS_CFG_PROFILE : Fld := ⟨0x040, 4, 3, .rwl, .zero, true, .one, (.oneOf [(0, 4)])⟩
def HS_CFG_PRIO : Fld := ⟨0x040, 8, 2, .rwl, (.k 3), true, .one, .any⟩
def HS_CFG_WE : Fld := ⟨0x040, 10, 2, .rwl, .zero, true, .one, .any⟩
def HS_CFG_AUTO_UNLOCK : Fld := ⟨0x040, 12, 1, .rwl, .zero, true, .one, .any⟩
def HS_CFG_TL_AUTO : Fld := ⟨0x040, 13, 1, .rwl, .zero, true, .one, .any⟩
def HS_CFG_OL_OFF_EN : Fld := ⟨0x040, 14, 1, .rw, .zero, true, .one, .any⟩
def HS_CFG_STB_EN : Fld := ⟨0x040, 15, 1, .rw, .zero, true, .one, .any⟩
def HS_CFG_FUSE_EN : Fld := ⟨0x040, 16, 1, .rwl, .zero, true, .one, .any⟩
def HS_CFG_RETRY_MAX : Fld := ⟨0x040, 17, 5, .rwl, (.k 3), true, .one, (.oneOf [(0, 15), (31, 31)])⟩
def HS_CFG_TFILT : Fld := ⟨0x040, 22, 2, .rwl, (.k 1), true, .one, .any⟩
def HS_LIM_ILIM : Fld := ⟨0x044, 0, 8, .rwl, (.cls 240 220 240), true, .one, (.cls (1, 240) (1, 220) (1, 240))⟩
def HS_LIM_IINR : Fld := ⟨0x044, 8, 8, .rwl, (.cls 180 225 240), true, .one, (.cls (1, 180) (1, 225) (1, 240))⟩
def HS_LIM_TINR : Fld := ⟨0x044, 16, 11, .rwl, (.cls 500 200 20), true, .one, (.cls (10, 2000) (10, 1000) (1, 200))⟩
def HS_LIM_DROOP : Fld := ⟨0x044, 27, 4, .rwl, (.k 6), true, .one, .any⟩
def HS_OUT_ON : Fld := ⟨0x048, 0, 1, .rw, .zero, true, .one, .any⟩
def HS_OUT_DUTY : Fld := ⟨0x048, 16, 12, .rw, (.k 4095), true, .one, .any⟩
def HS_PWM_FREQ : Fld := ⟨0x04C, 0, 15, .rwl, (.k 200), true, .one, (.cls (10, 25000) (10, 25000) (10, 1000))⟩
def HS_PWM_PHASE : Fld := ⟨0x04C, 16, 12, .rwl, .zero, true, .one, .any⟩
def HS_RETRY_TRETRY : Fld := ⟨0x050, 0, 10, .rwl, (.k 100), true, .one, (.oneOf [(1, 1000)])⟩
def HS_DIAG_IOL_ON : Fld := ⟨0x054, 0, 16, .rw, (.cls 2000 500 50), true, .one, .any⟩
def HS_DIAG_OL_FILT : Fld := ⟨0x054, 16, 2, .rw, (.k 1), true, .one, .any⟩
def HS_DIAG_OFF_PERIOD : Fld := ⟨0x054, 24, 8, .rw, (.k 50), true, .one, (.oneOf [(1, 255)])⟩
def HS_WIRE_CSA : Fld := ⟨0x058, 0, 4, .rwl, (.cls 6 3 0), true, .one, (.oneOf [(0, 8)])⟩
def HS_WIRE_LEN : Fld := ⟨0x058, 4, 8, .rwl, (.k 30), true, .one, (.oneOf [(1, 255)])⟩
def HS_WIRE_INSUL : Fld := ⟨0x058, 12, 2, .rwl, .zero, true, .one, .any⟩
def HS_CLAMP_CFG_BUDGET : Fld := ⟨0x05C, 0, 16, .rwl, (.cls 2400 800 240), true, .one, (.cls (0, 3000) (0, 1000) (0, 300))⟩
def HS_TRIM_GAIN : Fld := ⟨0x060, 0, 16, .ro, (.k 32768), true, .one, .any⟩
def HS_TRIM_OFFSET : Fld := ⟨0x060, 16, 16, .ro, .zero, true, .one, .any⟩
def HS_TRIM_BAND_LO : Fld := ⟨0x064, 0, 16, .ro, .zero, true, .one, .any⟩
def HS_TRIM_BAND_HI : Fld := ⟨0x064, 16, 16, .ro, .zero, true, .one, .any⟩
def HS_CHSTAT_STATE : Fld := ⟨0x068, 0, 4, .ro, .zero, false, .one, .any⟩
def HS_CHSTAT_RETRIES_LEFT : Fld := ⟨0x068, 4, 5, .ro, (.k 3), false, .one, .any⟩
def HS_CHSTAT_LIMITING : Fld := ⟨0x068, 9, 1, .ro, .zero, false, .one, .any⟩
def HS_CHSTAT_INRUSH_OPEN : Fld := ⟨0x068, 10, 1, .ro, .zero, false, .one, .any⟩
def HS_CHSTAT_DROOP_PAUSE : Fld := ⟨0x068, 11, 1, .ro, .zero, false, .one, .any⟩
def HS_CHSTAT_LIMP : Fld := ⟨0x068, 12, 1, .ro, .zero, false, .one, .any⟩
def HS_CHSTAT_DUTY_CLAMP : Fld := ⟨0x068, 13, 1, .ro, .zero, false, .one, .any⟩
def HS_CHSTAT_DERATED : Fld := ⟨0x068, 14, 1, .ro, .zero, false, .one, .any⟩
def HS_CHSTAT_WE_WAIT : Fld := ⟨0x068, 15, 1, .ro, .zero, false, .one, .any⟩
def HS_CHSTAT_TL_HOLD : Fld := ⟨0x068, 16, 1, .ro, .zero, false, .one, .any⟩
def HS_CHSTAT_TRIM_BAD : Fld := ⟨0x068, 17, 1, .ro, .zero, false, .one, .any⟩
def HS_CHSTAT_EFF_DUTY : Fld := ⟨0x068, 20, 12, .ro, .zero, false, .one, .any⟩
def HS_FAULT_FAST_TRIP : Fld := ⟨0x06C, 0, 1, .w1c, .zero, true, .one, .any⟩
def HS_FAULT_OC_TRIP : Fld := ⟨0x06C, 1, 1, .w1c, .zero, true, .one, .any⟩
def HS_FAULT_THERMAL : Fld := ⟨0x06C, 2, 1, .w1c, .zero, true, .one, .any⟩
def HS_FAULT_COUPLED : Fld := ⟨0x06C, 3, 1, .w1c, .zero, true, .one, .any⟩
def HS_FAULT_OL_ON : Fld := ⟨0x06C, 4, 1, .w1c, .zero, true, .one, .any⟩
def HS_FAULT_OL_OFF : Fld := ⟨0x06C, 5, 1, .w1c, .zero, true, .one, .any⟩
def HS_FAULT_STB : Fld := ⟨0x06C, 6, 1, .w1c, .zero, true, .one, .any⟩
def HS_FAULT_CLAMP_LOCK : Fld := ⟨0x06C, 7, 1, .w1c, .zero, true, .one, .any⟩
def HS_FAULT_FUSE : Fld := ⟨0x06C, 8, 1, .w1c, .zero, true, .one, .any⟩
def HS_FAULT_RETRY_EXH : Fld := ⟨0x06C, 9, 1, .w1c, .zero, true, .one, .any⟩
def HS_FAULT_REFUSED : Fld := ⟨0x06C, 10, 1, .w1c, .zero, true, .one, .any⟩
def HS_FAULT_DROOP_CAP : Fld := ⟨0x06C, 11, 1, .w1c, .zero, true, .one, .any⟩
def HS_ACT_TL_CLR : Fld := ⟨0x070, 0, 1, .wo, .zero, false, .one, .any⟩
def HS_ACT_UNLOCK : Fld := ⟨0x070, 1, 1, .wo, .zero, false, .one, .any⟩
def HS_ACT_RETRY_RESET : Fld := ⟨0x070, 2, 1, .wo, .zero, false, .one, .any⟩
def HS_ACT_FUSE_RESET : Fld := ⟨0x070, 3, 1, .wo, .zero, false, .one, .any⟩
def HS_ACT_DIAG_NOW : Fld := ⟨0x070, 4, 1, .wo, .zero, false, .one, .any⟩
def HS_SPEC_PREP : Fld := ⟨0x074, 0, 1, .ro, .zero, false, .one, .any⟩
def HS_SPEC_PREHEAT : Fld := ⟨0x074, 1, 1, .ro, .zero, false, .one, .any⟩
def HS_SPEC_GATE_READY : Fld := ⟨0x074, 2, 1, .ro, .zero, false, .one, .any⟩
def HS_SPEC_RESERVED_SLOT : Fld := ⟨0x074, 3, 1, .ro, .zero, false, .one, .any⟩
def HS_SPEC_SLOT : Fld := ⟨0x074, 8, 6, .ro, .zero, false, .one, .any⟩
def HS_SENSE_I : Fld := ⟨0x078, 0, 20, .ro, .zero, false, .one, .any⟩
def HS_SENSE_SPEC : Fld := ⟨0x078, 28, 1, .ro, .zero, false, .one, .any⟩
def HS_SENSE_EXTRAPOLATED : Fld := ⟨0x078, 29, 1, .ro, .zero, false, .one, .any⟩
def HS_SENSE_LIMITED : Fld := ⟨0x078, 30, 1, .ro, .zero, false, .one, .any⟩
def HS_SENSE_VALID : Fld := ⟨0x078, 31, 1, .ro, .zero, false, .one, .any⟩
def HS_VOUT : Fld := ⟨0x07C, 0, 16, .ro, .zero, false, .one, .any⟩
def HS_TJ : Fld := ⟨0x080, 0, 16, .ro, .zero, false, .one, .any⟩
def HS_CLAMP_FILL : Fld := ⟨0x084, 0, 16, .ro, (.cls 1200 400 120), true, .one, .any⟩
def HS_WIRE_T : Fld := ⟨0x088, 0, 16, .ro, (.k 720), true, .one, .any⟩

/-- Every field of kind HS. -/
def fieldsHS : List Fld :=
  [HS_CFG_MODE, HS_CFG_SLEW, HS_CFG_PROFILE, HS_CFG_PRIO, HS_CFG_WE, HS_CFG_AUTO_UNLOCK, 
   HS_CFG_TL_AUTO, HS_CFG_OL_OFF_EN, HS_CFG_STB_EN, HS_CFG_FUSE_EN, HS_CFG_RETRY_MAX, 
   HS_CFG_TFILT, HS_LIM_ILIM, HS_LIM_IINR, HS_LIM_TINR, HS_LIM_DROOP, HS_OUT_ON, 
   HS_OUT_DUTY, HS_PWM_FREQ, HS_PWM_PHASE, HS_RETRY_TRETRY, HS_DIAG_IOL_ON, 
   HS_DIAG_OL_FILT, HS_DIAG_OFF_PERIOD, HS_WIRE_CSA, HS_WIRE_LEN, HS_WIRE_INSUL, 
   HS_CLAMP_CFG_BUDGET, HS_TRIM_GAIN, HS_TRIM_OFFSET, HS_TRIM_BAND_LO, HS_TRIM_BAND_HI, 
   HS_CHSTAT_STATE, HS_CHSTAT_RETRIES_LEFT, HS_CHSTAT_LIMITING, HS_CHSTAT_INRUSH_OPEN, 
   HS_CHSTAT_DROOP_PAUSE, HS_CHSTAT_LIMP, HS_CHSTAT_DUTY_CLAMP, HS_CHSTAT_DERATED] ++
  [HS_CHSTAT_WE_WAIT, HS_CHSTAT_TL_HOLD, HS_CHSTAT_TRIM_BAD, HS_CHSTAT_EFF_DUTY, 
   HS_FAULT_FAST_TRIP, HS_FAULT_OC_TRIP, HS_FAULT_THERMAL, HS_FAULT_COUPLED, 
   HS_FAULT_OL_ON, HS_FAULT_OL_OFF, HS_FAULT_STB, HS_FAULT_CLAMP_LOCK, HS_FAULT_FUSE, 
   HS_FAULT_RETRY_EXH, HS_FAULT_REFUSED, HS_FAULT_DROOP_CAP, HS_ACT_TL_CLR, 
   HS_ACT_UNLOCK, HS_ACT_RETRY_RESET, HS_ACT_FUSE_RESET, HS_ACT_DIAG_NOW, HS_SPEC_PREP, 
   HS_SPEC_PREHEAT, HS_SPEC_GATE_READY, HS_SPEC_RESERVED_SLOT, HS_SPEC_SLOT, 
   HS_SENSE_I, HS_SENSE_SPEC, HS_SENSE_EXTRAPOLATED, HS_SENSE_LIMITED, HS_SENSE_VALID, 
   HS_VOUT, HS_TJ, HS_CLAMP_FILL, HS_WIRE_T]

/-! Page kind LSW: R170. -/
def LSW_CFG_MODE : Fld := ⟨0x000, 0, 2, .rwl, .zero, true, ⟨0x100, 16, 0x40, 1, 0x0⟩, .any⟩
def LSW_CFG_SLEW : Fld := ⟨0x000, 2, 2, .rw, (.k 1), true, ⟨0x100, 16, 0x40, 1, 0x0⟩, .any⟩
def LSW_CFG_PRIO : Fld := ⟨0x000, 8, 2, .rwl, (.k 3), true, ⟨0x100, 16, 0x40, 1, 0x0⟩, .any⟩
def LSW_CFG_WE : Fld := ⟨0x000, 10, 2, .rwl, .zero, true, ⟨0x100, 16, 0x40, 1, 0x0⟩, .any⟩
def LSW_CFG_AUTO_UNLOCK : Fld := ⟨0x000, 12, 1, .rwl, .zero, true, ⟨0x100, 16, 0x40, 1, 0x0⟩, .any⟩
def LSW_CFG_TL_AUTO : Fld := ⟨0x000, 13, 1, .rwl, .zero, true, ⟨0x100, 16, 0x40, 1, 0x0⟩, .any⟩
def LSW_CFG_OL_OFF_EN : Fld := ⟨0x000, 14, 1, .rw, .zero, true, ⟨0x100, 16, 0x40, 1, 0x0⟩, .any⟩
def LSW_CFG_STG_EN : Fld := ⟨0x000, 15, 1, .rw, .zero, true, ⟨0x100, 16, 0x40, 1, 0x0⟩, .any⟩
def LSW_CFG_RETRY_MAX : Fld := ⟨0x000, 17, 5, .rwl, (.k 3), true, ⟨0x100, 16, 0x40, 1, 0x0⟩, (.oneOf [(0, 15), (31, 31)])⟩
def LSW_CFG_TFILT : Fld := ⟨0x000, 22, 2, .rwl, (.k 1), true, ⟨0x100, 16, 0x40, 1, 0x0⟩, .any⟩
def LSW_OUT_ON : Fld := ⟨0x004, 0, 1, .rw, .zero, true, ⟨0x100, 16, 0x40, 1, 0x0⟩, .any⟩
def LSW_OUT_DUTY : Fld := ⟨0x004, 16, 12, .rw, (.k 4095), true, ⟨0x100, 16, 0x40, 1, 0x0⟩, .any⟩
def LSW_PWM_FREQ : Fld := ⟨0x008, 0, 15, .rwl, (.k 200), true, ⟨0x100, 16, 0x40, 1, 0x0⟩, (.oneOf [(10, 1000)])⟩
def LSW_PWM_PHASE : Fld := ⟨0x008, 16, 12, .rwl, .zero, true, ⟨0x100, 16, 0x40, 1, 0x0⟩, .any⟩
def LSW_RETRY_TRETRY : Fld := ⟨0x00C, 0, 10, .rwl, (.k 100), true, ⟨0x100, 16, 0x40, 1, 0x0⟩, (.oneOf [(1, 1000)])⟩
def LSW_DIAG_IOL_ON : Fld := ⟨0x010, 0, 16, .rw, (.k 100), true, ⟨0x100, 16, 0x40, 1, 0x0⟩, .any⟩
def LSW_DIAG_OL_FILT : Fld := ⟨0x010, 16, 2, .rw, (.k 1), true, ⟨0x100, 16, 0x40, 1, 0x0⟩, .any⟩
def LSW_DIAG_OFF_PERIOD : Fld := ⟨0x010, 24, 8, .rw, (.k 50), true, ⟨0x100, 16, 0x40, 1, 0x0⟩, (.oneOf [(1, 255)])⟩
def LSW_CLAMP_CFG_BUDGET : Fld := ⟨0x014, 0, 16, .rwl, (.k 160), true, ⟨0x100, 16, 0x40, 1, 0x0⟩, (.oneOf [(0, 200)])⟩
def LSW_TRIM_GAIN : Fld := ⟨0x018, 0, 16, .ro, (.k 32768), true, ⟨0x100, 16, 0x40, 1, 0x0⟩, .any⟩
def LSW_TRIM_OFFSET : Fld := ⟨0x018, 16, 16, .ro, .zero, true, ⟨0x100, 16, 0x40, 1, 0x0⟩, .any⟩
def LSW_CHSTAT_STATE : Fld := ⟨0x01C, 0, 4, .ro, .zero, false, ⟨0x100, 16, 0x40, 1, 0x0⟩, .any⟩
def LSW_CHSTAT_RETRIES_LEFT : Fld := ⟨0x01C, 4, 5, .ro, (.k 3), false, ⟨0x100, 16, 0x40, 1, 0x0⟩, .any⟩
def LSW_CHSTAT_LIMITING : Fld := ⟨0x01C, 9, 1, .ro, .zero, false, ⟨0x100, 16, 0x40, 1, 0x0⟩, .any⟩
def LSW_CHSTAT_LIMP : Fld := ⟨0x01C, 12, 1, .ro, .zero, false, ⟨0x100, 16, 0x40, 1, 0x0⟩, .any⟩
def LSW_CHSTAT_DUTY_CLAMP : Fld := ⟨0x01C, 13, 1, .ro, .zero, false, ⟨0x100, 16, 0x40, 1, 0x0⟩, .any⟩
def LSW_CHSTAT_DERATED : Fld := ⟨0x01C, 14, 1, .ro, .zero, false, ⟨0x100, 16, 0x40, 1, 0x0⟩, .any⟩
def LSW_CHSTAT_WE_WAIT : Fld := ⟨0x01C, 15, 1, .ro, .zero, false, ⟨0x100, 16, 0x40, 1, 0x0⟩, .any⟩
def LSW_CHSTAT_TL_HOLD : Fld := ⟨0x01C, 16, 1, .ro, .zero, false, ⟨0x100, 16, 0x40, 1, 0x0⟩, .any⟩
def LSW_CHSTAT_TRIM_BAD : Fld := ⟨0x01C, 17, 1, .ro, .zero, false, ⟨0x100, 16, 0x40, 1, 0x0⟩, .any⟩
def LSW_CHSTAT_EFF_DUTY : Fld := ⟨0x01C, 20, 12, .ro, .zero, false, ⟨0x100, 16, 0x40, 1, 0x0⟩, .any⟩
def LSW_FAULT_FAST_TRIP : Fld := ⟨0x020, 0, 1, .w1c, .zero, true, ⟨0x100, 16, 0x40, 1, 0x0⟩, .any⟩
def LSW_FAULT_OC_TRIP : Fld := ⟨0x020, 1, 1, .w1c, .zero, true, ⟨0x100, 16, 0x40, 1, 0x0⟩, .any⟩
def LSW_FAULT_THERMAL : Fld := ⟨0x020, 2, 1, .w1c, .zero, true, ⟨0x100, 16, 0x40, 1, 0x0⟩, .any⟩
def LSW_FAULT_COUPLED : Fld := ⟨0x020, 3, 1, .w1c, .zero, true, ⟨0x100, 16, 0x40, 1, 0x0⟩, .any⟩
def LSW_FAULT_OL_ON : Fld := ⟨0x020, 4, 1, .w1c, .zero, true, ⟨0x100, 16, 0x40, 1, 0x0⟩, .any⟩
def LSW_FAULT_OL_OFF : Fld := ⟨0x020, 5, 1, .w1c, .zero, true, ⟨0x100, 16, 0x40, 1, 0x0⟩, .any⟩
def LSW_FAULT_STB : Fld := ⟨0x020, 6, 1, .w1c, .zero, true, ⟨0x100, 16, 0x40, 1, 0x0⟩, .any⟩
def LSW_FAULT_CLAMP_LOCK : Fld := ⟨0x020, 7, 1, .w1c, .zero, true, ⟨0x100, 16, 0x40, 1, 0x0⟩, .any⟩
def LSW_FAULT_RETRY_EXH : Fld := ⟨0x020, 9, 1, .w1c, .zero, true, ⟨0x100, 16, 0x40, 1, 0x0⟩, .any⟩
def LSW_FAULT_REFUSED : Fld := ⟨0x020, 10, 1, .w1c, .zero, true, ⟨0x100, 16, 0x40, 1, 0x0⟩, .any⟩
def LSW_ACT_TL_CLR : Fld := ⟨0x024, 0, 1, .wo, .zero, false, ⟨0x100, 16, 0x40, 1, 0x0⟩, .any⟩
def LSW_ACT_UNLOCK : Fld := ⟨0x024, 1, 1, .wo, .zero, false, ⟨0x100, 16, 0x40, 1, 0x0⟩, .any⟩
def LSW_ACT_RETRY_RESET : Fld := ⟨0x024, 2, 1, .wo, .zero, false, ⟨0x100, 16, 0x40, 1, 0x0⟩, .any⟩
def LSW_ACT_DIAG_NOW : Fld := ⟨0x024, 4, 1, .wo, .zero, false, ⟨0x100, 16, 0x40, 1, 0x0⟩, .any⟩
def LSW_SENSE_I : Fld := ⟨0x028, 0, 20, .ro, .zero, false, ⟨0x100, 16, 0x40, 1, 0x0⟩, .any⟩
def LSW_SENSE_SPEC : Fld := ⟨0x028, 28, 1, .ro, .zero, false, ⟨0x100, 16, 0x40, 1, 0x0⟩, .any⟩
def LSW_SENSE_EXTRAPOLATED : Fld := ⟨0x028, 29, 1, .ro, .zero, false, ⟨0x100, 16, 0x40, 1, 0x0⟩, .any⟩
def LSW_SENSE_LIMITED : Fld := ⟨0x028, 30, 1, .ro, .zero, false, ⟨0x100, 16, 0x40, 1, 0x0⟩, .any⟩
def LSW_SENSE_VALID : Fld := ⟨0x028, 31, 1, .ro, .zero, false, ⟨0x100, 16, 0x40, 1, 0x0⟩, .any⟩
def LSW_VOUT : Fld := ⟨0x02C, 0, 16, .ro, .zero, false, ⟨0x100, 16, 0x40, 1, 0x0⟩, .any⟩
def LSW_TJ : Fld := ⟨0x030, 0, 16, .ro, .zero, false, ⟨0x100, 16, 0x40, 1, 0x0⟩, .any⟩
def LSW_CLAMP_FILL : Fld := ⟨0x034, 0, 16, .ro, (.k 80), true, ⟨0x100, 16, 0x40, 1, 0x0⟩, .any⟩
def LSW_TRIM_BAND_LO : Fld := ⟨0x038, 0, 16, .ro, .zero, true, ⟨0x100, 16, 0x40, 1, 0x0⟩, .any⟩
def LSW_TRIM_BAND_HI : Fld := ⟨0x038, 16, 16, .ro, .zero, true, ⟨0x100, 16, 0x40, 1, 0x0⟩, .any⟩

/-- Every field of kind LSW. -/
def fieldsLSW : List Fld :=
  [LSW_CFG_MODE, LSW_CFG_SLEW, LSW_CFG_PRIO, LSW_CFG_WE, LSW_CFG_AUTO_UNLOCK, 
   LSW_CFG_TL_AUTO, LSW_CFG_OL_OFF_EN, LSW_CFG_STG_EN, LSW_CFG_RETRY_MAX, LSW_CFG_TFILT, 
   LSW_OUT_ON, LSW_OUT_DUTY, LSW_PWM_FREQ, LSW_PWM_PHASE, LSW_RETRY_TRETRY, 
   LSW_DIAG_IOL_ON, LSW_DIAG_OL_FILT, LSW_DIAG_OFF_PERIOD, LSW_CLAMP_CFG_BUDGET, 
   LSW_TRIM_GAIN, LSW_TRIM_OFFSET, LSW_CHSTAT_STATE, LSW_CHSTAT_RETRIES_LEFT, 
   LSW_CHSTAT_LIMITING, LSW_CHSTAT_LIMP, LSW_CHSTAT_DUTY_CLAMP, LSW_CHSTAT_DERATED, 
   LSW_CHSTAT_WE_WAIT, LSW_CHSTAT_TL_HOLD, LSW_CHSTAT_TRIM_BAD, LSW_CHSTAT_EFF_DUTY, 
   LSW_FAULT_FAST_TRIP, LSW_FAULT_OC_TRIP, LSW_FAULT_THERMAL, LSW_FAULT_COUPLED, 
   LSW_FAULT_OL_ON, LSW_FAULT_OL_OFF, LSW_FAULT_STB, LSW_FAULT_CLAMP_LOCK, 
   LSW_FAULT_RETRY_EXH] ++
  [LSW_FAULT_REFUSED, LSW_ACT_TL_CLR, LSW_ACT_UNLOCK, LSW_ACT_RETRY_RESET, 
   LSW_ACT_DIAG_NOW, LSW_SENSE_I, LSW_SENSE_SPEC, LSW_SENSE_EXTRAPOLATED, LSW_SENSE_LIMITED, 
   LSW_SENSE_VALID, LSW_VOUT, LSW_TJ, LSW_CLAMP_FILL, LSW_TRIM_BAND_LO, LSW_TRIM_BAND_HI]

/-! Page kind GOV: R206. -/
def GOV_LIMIT_BATT_IMAX : Fld := ⟨0x040, 0, 7, .rwl, (.k 80), true, .one, (.oneOf [(10, 90)])⟩
def GOV_LIMIT_INRUSH_MAX : Fld := ⟨0x040, 8, 7, .rwl, (.k 60), true, .one, (.oneOf [(5, 90)])⟩
def GOV_LIMIT_RES_MAX : Fld := ⟨0x040, 16, 7, .rwl, (.k 20), true, .one, .any⟩
def GOV_DEFER_P0 : Fld := ⟨0x044, 0, 8, .rwl, (.k 100), true, .one, (.oneOf [(1, 255)])⟩
def GOV_DEFER_P1 : Fld := ⟨0x044, 8, 8, .rwl, (.k 100), true, .one, (.oneOf [(1, 255)])⟩
def GOV_DEFER_P2 : Fld := ⟨0x044, 16, 8, .rwl, (.k 200), true, .one, (.oneOf [(1, 255)])⟩
def GOV_DEFER_P3 : Fld := ⟨0x044, 24, 8, .rwl, (.k 250), true, .one, (.oneOf [(1, 255)])⟩
def GOV_DEFER2_LIMP : Fld := ⟨0x048, 0, 8, .rwl, (.k 100), true, .one, (.oneOf [(1, 255)])⟩
def GOV_DEFER2_DOM : Fld := ⟨0x048, 8, 8, .rwl, (.k 1), true, .one, (.oneOf [(1, 255)])⟩
def GOV_SLOT_USED : Fld := ⟨0x04C, 0, 16, .ro, .zero, false, .one, .any⟩
def GOV_SLOT_BUDGET : Fld := ⟨0x04C, 16, 16, .ro, (.k 6000), false, .one, .any⟩
def GOV_I_TOTAL : Fld := ⟨0x050, 0, 16, .ro, .zero, false, .one, .any⟩
def GOV_WITHHELD : Fld := ⟨0x050, 16, 16, .ro, .zero, false, .one, .any⟩
def GOV_QUEUE_LEN : Fld := ⟨0x054, 0, 8, .ro, .zero, false, .one, .any⟩
def GOV_QUEUE_DOM_ACTIVE : Fld := ⟨0x054, 8, 2, .ro, .zero, false, .one, .any⟩
def GOV_QUEUE_OV_HOLD : Fld := ⟨0x054, 12, 1, .ro, .zero, false, .one, .any⟩
def GOV_QUEUE_LOW_V : Fld := ⟨0x054, 13, 1, .ro, .zero, false, .one, .any⟩
def GOV_QUEUE_SCALED : Fld := ⟨0x054, 14, 1, .ro, .zero, false, .one, .any⟩
def GOV_CNT_REFUSALS : Fld := ⟨0x058, 0, 16, .ro, .zero, false, .one, .any⟩
def GOV_CNT_PROMOTIONS : Fld := ⟨0x058, 16, 16, .ro, .zero, false, .one, .any⟩
def GOV_LAST_REFUSED_PAGE : Fld := ⟨0x05C, 0, 8, .ro, .zero, false, .one, .any⟩
def GOV_LAST_REFUSED_CHAN : Fld := ⟨0x05C, 8, 4, .ro, .zero, false, .one, .any⟩
def GOV_LAST_REFUSED_KIND : Fld := ⟨0x05C, 12, 2, .ro, .zero, false, .one, .any⟩
def GOV_LAST_REFUSED_TS_LO : Fld := ⟨0x060, 0, 32, .ro, .zero, false, .one, .any⟩
def GOV_LAST_REFUSED_TS_HI : Fld := ⟨0x064, 0, 32, .ro, .zero, false, .one, .any⟩

/-- Every field of kind GOV. -/
def fieldsGOV : List Fld :=
  [GOV_LIMIT_BATT_IMAX, GOV_LIMIT_INRUSH_MAX, GOV_LIMIT_RES_MAX, GOV_DEFER_P0, 
   GOV_DEFER_P1, GOV_DEFER_P2, GOV_DEFER_P3, GOV_DEFER2_LIMP, GOV_DEFER2_DOM, 
   GOV_SLOT_USED, GOV_SLOT_BUDGET, GOV_I_TOTAL, GOV_WITHHELD, GOV_QUEUE_LEN, 
   GOV_QUEUE_DOM_ACTIVE, GOV_QUEUE_OV_HOLD, GOV_QUEUE_LOW_V, GOV_QUEUE_SCALED, 
   GOV_CNT_REFUSALS, GOV_CNT_PROMOTIONS, GOV_LAST_REFUSED_PAGE, GOV_LAST_REFUSED_CHAN, 
   GOV_LAST_REFUSED_KIND, GOV_LAST_REFUSED_TS_LO, GOV_LAST_REFUSED_TS_HI]

/-! Page kind CALD: R193. -/
def CALD_CFG_PKG_BUDGET : Fld := ⟨0x040, 0, 5, .rwl, (.k 14), true, .one, (.oneOf [(4, 18)])⟩
def CALD_CFG_TDIE_MAX : Fld := ⟨0x040, 8, 8, .rwl, (.k 140), true, .one, (.oneOf [(110, 145)])⟩
def CALD_CFG_AMB_SRC : Fld := ⟨0x040, 16, 1, .rw, .zero, true, .one, .any⟩
def CALD_CFG_AMB_OFFSET : Fld := ⟨0x040, 20, 4, .rw, (.k 10), true, .one, .any⟩
def CALD_CFG_CAP_MIN : Fld := ⟨0x040, 24, 8, .rwl, (.k 64), true, .one, (.oneOf [(16, 255)])⟩
def CALD_AMB_SET : Fld := ⟨0x044, 0, 16, .rw, (.k 400), true, .one, .any⟩
def CALD_AMB_T : Fld := ⟨0x048, 0, 16, .ro, .zero, false, .one, .any⟩
def CALD_AMB_STALE : Fld := ⟨0x048, 16, 1, .ro, .zero, false, .one, .any⟩
def CALD_P_EST : Fld := ⟨0x04C, 0, 16, .ro, .zero, false, .one, .any⟩
def CALD_DERATE_STAGE : Fld := ⟨0x050, 0, 3, .ro, .zero, false, .one, .any⟩
def CALD_DERATE_P0_OVER : Fld := ⟨0x050, 3, 1, .ro, .zero, false, .one, .any⟩
def CALD_DERATE_HOT : Fld := ⟨0x050, 4, 1, .ro, .zero, false, .one, .any⟩
def CALD_HOT_T : Fld := ⟨0x054, 0, 16, .ro, .zero, false, .one, .any⟩
def CALD_HOT_IDX : Fld := ⟨0x054, 16, 4, .ro, .zero, false, .one, .any⟩
def CALD_CAPS_P1 : Fld := ⟨0x058, 0, 12, .ro, (.k 4095), false, .one, .any⟩
def CALD_CAPS_P2 : Fld := ⟨0x058, 16, 12, .ro, (.k 4095), false, .one, .any⟩
def CALD_CAPS_P3 : Fld := ⟨0x05C, 0, 12, .ro, (.k 4095), false, .one, .any⟩
def CALD_WE_SEL : Fld := ⟨0x060, 0, 6, .rw, .zero, false, .one, (.oneOf [(0, 61)])⟩
def CALD_WE_SUM : Fld := ⟨0x064, 0, 16, .ro, .zero, false, .one, .any⟩
def CALD_WE_LAST : Fld := ⟨0x064, 16, 16, .ro, .zero, false, .one, .any⟩
def CALD_CNT_SHEDS : Fld := ⟨0x068, 0, 16, .ro, .zero, false, .one, .any⟩
def CALD_CNT_WE_CUTS : Fld := ⟨0x068, 16, 16, .ro, .zero, false, .one, .any⟩
def CALD_OFF_TS_LO : Fld := ⟨0x06C, 0, 32, .ro, .zero, true, .one, .any⟩
def CALD_OFF_TS_HI : Fld := ⟨0x070, 0, 32, .ro, .zero, true, .one, .any⟩

/-- Every field of kind CALD. -/
def fieldsCALD : List Fld :=
  [CALD_CFG_PKG_BUDGET, CALD_CFG_TDIE_MAX, CALD_CFG_AMB_SRC, CALD_CFG_AMB_OFFSET, 
   CALD_CFG_CAP_MIN, CALD_AMB_SET, CALD_AMB_T, CALD_AMB_STALE, CALD_P_EST, 
   CALD_DERATE_STAGE, CALD_DERATE_P0_OVER, CALD_DERATE_HOT, CALD_HOT_T, CALD_HOT_IDX, 
   CALD_CAPS_P1, CALD_CAPS_P2, CALD_CAPS_P3, CALD_WE_SEL, CALD_WE_SUM, CALD_WE_LAST, 
   CALD_CNT_SHEDS, CALD_CNT_WE_CUTS, CALD_OFF_TS_LO, CALD_OFF_TS_HI]

/-! Page kind HB: R212. -/
def HB_CFG_MODE : Fld := ⟨0x040, 0, 1, .rwl, .zero, true, .one, .any⟩
def HB_CFG_SLEW : Fld := ⟨0x040, 2, 2, .rw, (.k 1), true, .one, .any⟩
def HB_CFG_PRIO : Fld := ⟨0x040, 8, 2, .rwl, (.k 3), true, .one, .any⟩
def HB_CFG_AUTO_UNLOCK : Fld := ⟨0x040, 12, 1, .rwl, .zero, true, .one, .any⟩
def HB_CFG_TL_AUTO : Fld := ⟨0x040, 13, 1, .rwl, .zero, true, .one, .any⟩
def HB_CFG_TFILT : Fld := ⟨0x040, 22, 2, .rwl, (.k 1), true, .one, .any⟩
def HB_CFG_STALL_ACT : Fld := ⟨0x040, 24, 1, .rwl, (.k 1), true, .one, .any⟩
def HB_PAIR_PARTNER : Fld := ⟨0x044, 0, 5, .rwl, .zero, true, .one, (.oneOf [(0, 19)])⟩
def HB_PAIR_EN : Fld := ⟨0x044, 8, 1, .rwl, .zero, true, .one, .any⟩
def HB_PAIR_DIR_BRAKE : Fld := ⟨0x044, 16, 8, .rwl, (.k 20), true, .one, .any⟩
def HB_LIM_ILIM : Fld := ⟨0x048, 0, 8, .rwl, (.k 200), true, .one, (.oneOf [(1, 200)])⟩
def HB_LIM_STALL_I : Fld := ⟨0x048, 8, 8, .rwl, (.hb 120 100), true, .one, (.oneOf [(1, 200)])⟩
def HB_LIM_STALL_T : Fld := ⟨0x048, 16, 8, .rwl, (.k 20), true, .one, (.oneOf [(1, 255)])⟩
def HB_OUT_DRIVE : Fld := ⟨0x04C, 0, 3, .rw, .zero, true, .one, .any⟩
def HB_OUT_DUTY : Fld := ⟨0x04C, 16, 12, .rw, (.k 4095), true, .one, .any⟩
def HB_PWM_FREQ : Fld := ⟨0x050, 0, 15, .rwl, (.k 200), true, .one, (.hb (10, 20000) (10, 1000))⟩
def HB_PWM_PHASE : Fld := ⟨0x050, 16, 12, .rwl, .zero, true, .one, .any⟩
def HB_DIAG_IOL_ON : Fld := ⟨0x054, 0, 16, .rw, (.hb 500 100), true, .one, .any⟩
def HB_DIAG_OL_FILT : Fld := ⟨0x054, 16, 2, .rw, (.k 1), true, .one, .any⟩
def HB_CLAMP_CFG_BUDGET : Fld := ⟨0x058, 0, 16, .rwl, (.hb 480 96), true, .one, (.hb (0, 600) (0, 120))⟩
def HB_TRIM_GAIN : Fld := ⟨0x05C, 0, 16, .ro, (.k 32768), true, .one, .any⟩
def HB_TRIM_OFFSET : Fld := ⟨0x05C, 16, 16, .ro, .zero, true, .one, .any⟩
def HB_TRIM_BAND_LO : Fld := ⟨0x060, 0, 16, .ro, .zero, true, .one, .any⟩
def HB_TRIM_BAND_HI : Fld := ⟨0x060, 16, 16, .ro, .zero, true, .one, .any⟩
def HB_CHSTAT_STATE : Fld := ⟨0x064, 0, 4, .ro, .zero, false, .one, .any⟩
def HB_CHSTAT_LIMITING : Fld := ⟨0x064, 9, 1, .ro, .zero, false, .one, .any⟩
def HB_CHSTAT_DUTY_CLAMP : Fld := ⟨0x064, 13, 1, .ro, .zero, false, .one, .any⟩
def HB_CHSTAT_TL_HOLD : Fld := ⟨0x064, 16, 1, .ro, .zero, false, .one, .any⟩
def HB_CHSTAT_TRIM_BAD : Fld := ⟨0x064, 17, 1, .ro, .zero, false, .one, .any⟩
def HB_CHSTAT_PAIRED : Fld := ⟨0x064, 18, 1, .ro, .zero, false, .one, .any⟩
def HB_FAULT_FAST_TRIP : Fld := ⟨0x068, 0, 1, .w1c, .zero, true, .one, .any⟩
def HB_FAULT_OC_TRIP : Fld := ⟨0x068, 1, 1, .w1c, .zero, true, .one, .any⟩
def HB_FAULT_THERMAL : Fld := ⟨0x068, 2, 1, .w1c, .zero, true, .one, .any⟩
def HB_FAULT_OL_ON : Fld := ⟨0x068, 4, 1, .w1c, .zero, true, .one, .any⟩
def HB_FAULT_CLAMP_LOCK : Fld := ⟨0x068, 7, 1, .w1c, .zero, true, .one, .any⟩
def HB_FAULT_STALL : Fld := ⟨0x068, 8, 1, .w1c, .zero, true, .one, .any⟩
def HB_FAULT_REFUSED : Fld := ⟨0x068, 10, 1, .w1c, .zero, true, .one, .any⟩
def HB_FAULT_PAIR_BAD : Fld := ⟨0x068, 12, 1, .w1c, .zero, true, .one, .any⟩
def HB_ACT_TL_CLR : Fld := ⟨0x06C, 0, 1, .wo, .zero, false, .one, .any⟩
def HB_ACT_UNLOCK : Fld := ⟨0x06C, 1, 1, .wo, .zero, false, .one, .any⟩
def HB_ACT_CLEAR : Fld := ⟨0x06C, 2, 1, .wo, .zero, false, .one, .any⟩
def HB_SENSE_I : Fld := ⟨0x070, 0, 20, .ro, .zero, false, .one, .any⟩
def HB_SENSE_EXTRAPOLATED : Fld := ⟨0x070, 29, 1, .ro, .zero, false, .one, .any⟩
def HB_SENSE_LIMITED : Fld := ⟨0x070, 30, 1, .ro, .zero, false, .one, .any⟩
def HB_SENSE_VALID : Fld := ⟨0x070, 31, 1, .ro, .zero, false, .one, .any⟩
def HB_VOUT : Fld := ⟨0x074, 0, 16, .ro, .zero, false, .one, .any⟩
def HB_TJ : Fld := ⟨0x078, 0, 16, .ro, .zero, false, .one, .any⟩
def HB_CLAMP_FILL_HS : Fld := ⟨0x07C, 0, 16, .ro, (.hb 240 48), true, .one, .any⟩
def HB_CLAMP_FILL_LS : Fld := ⟨0x07C, 16, 16, .ro, (.hb 240 48), true, .one, .any⟩
def HB_SPEC_PREP : Fld := ⟨0x080, 0, 1, .ro, .zero, false, .one, .any⟩
def HB_SPEC_ARMED : Fld := ⟨0x080, 1, 1, .ro, .zero, false, .one, .any⟩
def HB_SPEC_RESERVED_SLOT : Fld := ⟨0x080, 3, 1, .ro, .zero, false, .one, .any⟩
def HB_SPEC_SLOT : Fld := ⟨0x080, 8, 6, .ro, .zero, false, .one, .any⟩

/-- Every field of kind HB. -/
def fieldsHB : List Fld :=
  [HB_CFG_MODE, HB_CFG_SLEW, HB_CFG_PRIO, HB_CFG_AUTO_UNLOCK, HB_CFG_TL_AUTO, 
   HB_CFG_TFILT, HB_CFG_STALL_ACT, HB_PAIR_PARTNER, HB_PAIR_EN, HB_PAIR_DIR_BRAKE, 
   HB_LIM_ILIM, HB_LIM_STALL_I, HB_LIM_STALL_T, HB_OUT_DRIVE, HB_OUT_DUTY, 
   HB_PWM_FREQ, HB_PWM_PHASE, HB_DIAG_IOL_ON, HB_DIAG_OL_FILT, HB_CLAMP_CFG_BUDGET, 
   HB_TRIM_GAIN, HB_TRIM_OFFSET, HB_TRIM_BAND_LO, HB_TRIM_BAND_HI, HB_CHSTAT_STATE, 
   HB_CHSTAT_LIMITING, HB_CHSTAT_DUTY_CLAMP, HB_CHSTAT_TL_HOLD, HB_CHSTAT_TRIM_BAD, 
   HB_CHSTAT_PAIRED, HB_FAULT_FAST_TRIP, HB_FAULT_OC_TRIP, HB_FAULT_THERMAL, 
   HB_FAULT_OL_ON, HB_FAULT_CLAMP_LOCK, HB_FAULT_STALL, HB_FAULT_REFUSED, HB_FAULT_PAIR_BAD, 
   HB_ACT_TL_CLR, HB_ACT_UNLOCK] ++
  [HB_ACT_CLEAR, HB_SENSE_I, HB_SENSE_EXTRAPOLATED, HB_SENSE_LIMITED, HB_SENSE_VALID, 
   HB_VOUT, HB_TJ, HB_CLAMP_FILL_HS, HB_CLAMP_FILL_LS, HB_SPEC_PREP, HB_SPEC_ARMED, 
   HB_SPEC_RESERVED_SLOT, HB_SPEC_SLOT]

/-! Page kind GD: R227. -/
def GD_CFG_MODE : Fld := ⟨0x040, 0, 1, .rwl, .zero, true, .one, .any⟩
def GD_CFG_PRIO : Fld := ⟨0x040, 8, 2, .rwl, (.k 3), true, .one, .any⟩
def GD_CFG_TFILT : Fld := ⟨0x040, 22, 2, .rwl, (.k 1), true, .one, .any⟩
def GD_CFG_STALL_ACT : Fld := ⟨0x040, 24, 1, .rwl, (.k 1), true, .one, .any⟩
def GD_GATE_ISRC : Fld := ⟨0x044, 0, 4, .rwl, (.k 3), true, .one, .any⟩
def GD_GATE_ISNK : Fld := ⟨0x044, 4, 4, .rwl, (.k 3), true, .one, .any⟩
def GD_GATE_DEAD : Fld := ⟨0x044, 8, 7, .rwl, (.k 20), true, .one, (.oneOf [(1, 127)])⟩
def GD_GATE_DIR_BRAKE : Fld := ⟨0x044, 16, 8, .rwl, (.k 20), true, .one, .any⟩
def GD_VDS_TH : Fld := ⟨0x048, 0, 5, .rwl, (.k 10), true, .one, (.oneOf [(1, 20)])⟩
def GD_VDS_BLANK : Fld := ⟨0x048, 8, 4, .rwl, (.k 3), true, .one, .any⟩
def GD_SHUNT_R : Fld := ⟨0x04C, 0, 12, .rwl, (.k 200), true, .one, (.oneOf [(1, 4095)])⟩
def GD_SHUNT_GAIN : Fld := ⟨0x04C, 12, 2, .rwl, (.k 1), true, .one, .any⟩
def GD_LIM_IOC : Fld := ⟨0x050, 0, 10, .rwl, (.k 500), true, .one, (.oneOf [(1, 1000)])⟩
def GD_LIM_ITRIP : Fld := ⟨0x050, 16, 10, .rwl, (.k 300), true, .one, (.oneOf [(1, 1000)])⟩
def GD_STALL_I : Fld := ⟨0x054, 0, 10, .rwl, (.k 200), true, .one, .any⟩
def GD_STALL_T : Fld := ⟨0x054, 16, 8, .rwl, (.k 20), true, .one, (.oneOf [(1, 255)])⟩
def GD_START_X : Fld := ⟨0x058, 0, 10, .rwl, (.k 300), true, .one, (.oneOf [(1, 900)])⟩
def GD_OUT_DRIVE : Fld := ⟨0x05C, 0, 3, .rw, .zero, true, .one, .any⟩
def GD_OUT_DUTY : Fld := ⟨0x05C, 16, 12, .rw, (.k 4095), true, .one, .any⟩
def GD_PWM_FREQ : Fld := ⟨0x060, 0, 15, .rwl, (.k 200), true, .one, (.oneOf [(10, 25000)])⟩
def GD_PWM_PHASE : Fld := ⟨0x060, 16, 12, .rwl, .zero, true, .one, .any⟩
def GD_PARK_SWI : Fld := ⟨0x064, 0, 6, .rw, .zero, true, .one, (.oneOf [(0, 47)])⟩
def GD_PARK_EN : Fld := ⟨0x064, 8, 1, .rw, .zero, true, .one, .any⟩
def GD_PARK_LEVEL : Fld := ⟨0x064, 9, 1, .rw, .zero, true, .one, .any⟩
def GD_CHSTAT_STATE : Fld := ⟨0x068, 0, 4, .ro, .zero, false, .one, .any⟩
def GD_CHSTAT_CP_OK : Fld := ⟨0x068, 4, 1, .ro, .zero, false, .one, .any⟩
def GD_CHSTAT_PARKED : Fld := ⟨0x068, 5, 1, .ro, .zero, false, .one, .any⟩
def GD_FAULT_FAST_TRIP : Fld := ⟨0x06C, 0, 1, .w1c, .zero, true, .one, .any⟩
def GD_FAULT_OC_TRIP : Fld := ⟨0x06C, 1, 1, .w1c, .zero, true, .one, .any⟩
def GD_FAULT_VDS : Fld := ⟨0x06C, 2, 4, .w1c, .zero, true, .one, .any⟩
def GD_FAULT_CP_UV : Fld := ⟨0x06C, 6, 1, .w1c, .zero, true, .one, .any⟩
def GD_FAULT_STALL : Fld := ⟨0x06C, 8, 1, .w1c, .zero, true, .one, .any⟩
def GD_FAULT_REFUSED : Fld := ⟨0x06C, 10, 1, .w1c, .zero, true, .one, .any⟩
def GD_FAULT_PINCH : Fld := ⟨0x06C, 11, 1, .w1c, .zero, true, .one, .any⟩
def GD_ACT_CLEAR : Fld := ⟨0x070, 2, 1, .wo, .zero, false, .one, .any⟩
def GD_ACT_ZERO : Fld := ⟨0x070, 5, 1, .wo, .zero, false, .one, .any⟩
def GD_SENSE_I : Fld := ⟨0x074, 0, 20, .ro, .zero, false, .one, .any⟩
def GD_SENSE_EXTRAPOLATED : Fld := ⟨0x074, 29, 1, .ro, .zero, false, .one, .any⟩
def GD_SENSE_LIMITED : Fld := ⟨0x074, 30, 1, .ro, .zero, false, .one, .any⟩
def GD_SENSE_VALID : Fld := ⟨0x074, 31, 1, .ro, .zero, false, .one, .any⟩
def GD_SPEC_PREP : Fld := ⟨0x078, 0, 1, .ro, .zero, false, .one, .any⟩
def GD_SPEC_ARMED : Fld := ⟨0x078, 1, 1, .ro, .zero, false, .one, .any⟩
def GD_SPEC_GATE_READY : Fld := ⟨0x078, 2, 1, .ro, .zero, false, .one, .any⟩
def GD_SPEC_RESERVED_SLOT : Fld := ⟨0x078, 3, 1, .ro, .zero, false, .one, .any⟩
def GD_SPEC_SLOT : Fld := ⟨0x078, 8, 6, .ro, .zero, false, .one, .any⟩

/-- Every field of kind GD. -/
def fieldsGD : List Fld :=
  [GD_CFG_MODE, GD_CFG_PRIO, GD_CFG_TFILT, GD_CFG_STALL_ACT, GD_GATE_ISRC, 
   GD_GATE_ISNK, GD_GATE_DEAD, GD_GATE_DIR_BRAKE, GD_VDS_TH, GD_VDS_BLANK, 
   GD_SHUNT_R, GD_SHUNT_GAIN, GD_LIM_IOC, GD_LIM_ITRIP, GD_STALL_I, GD_STALL_T, 
   GD_START_X, GD_OUT_DRIVE, GD_OUT_DUTY, GD_PWM_FREQ, GD_PWM_PHASE, GD_PARK_SWI, 
   GD_PARK_EN, GD_PARK_LEVEL, GD_CHSTAT_STATE, GD_CHSTAT_CP_OK, GD_CHSTAT_PARKED, 
   GD_FAULT_FAST_TRIP, GD_FAULT_OC_TRIP, GD_FAULT_VDS, GD_FAULT_CP_UV, GD_FAULT_STALL, 
   GD_FAULT_REFUSED, GD_FAULT_PINCH, GD_ACT_CLEAR, GD_ACT_ZERO, GD_SENSE_I, 
   GD_SENSE_EXTRAPOLATED, GD_SENSE_LIMITED, GD_SENSE_VALID] ++
  [GD_SPEC_PREP, GD_SPEC_ARMED, GD_SPEC_GATE_READY, GD_SPEC_RESERVED_SLOT, GD_SPEC_SLOT]

/-! Page kind VLV: R265. -/
def VLV_CFG_MODE : Fld := ⟨0x040, 0, 2, .rwl, .zero, true, .one, (.oneOf [(0, 1)])⟩
def VLV_CFG_AHD : Fld := ⟨0x040, 2, 1, .rwl, .zero, true, .one, .any⟩
def VLV_CFG_PRIO : Fld := ⟨0x040, 8, 2, .rwl, (.k 3), true, .one, .any⟩
def VLV_CFG_TL_AUTO : Fld := ⟨0x040, 13, 1, .rwl, .zero, true, .one, .any⟩
def VLV_CFG_DECAY : Fld := ⟨0x040, 14, 1, .rw, (.k 1), true, .one, .any⟩
def VLV_CFG_DIAG_LOCK : Fld := ⟨0x040, 15, 1, .rwl, .zero, true, .one, .any⟩
def VLV_CFG_DITHER : Fld := ⟨0x040, 16, 2, .rw, .zero, true, .one, (.oneOf [(0, 2)])⟩
def VLV_CFG_TFILT : Fld := ⟨0x040, 22, 2, .rwl, (.k 1), true, .one, .any⟩
def VLV_OUT_ON : Fld := ⟨0x044, 0, 1, .rw, .zero, true, .one, .any⟩
def VLV_SET_I : Fld := ⟨0x048, 0, 12, .rw, .zero, true, .one, (.oneOf [(0, 2500)])⟩
def VLV_DITHER_FREQ : Fld := ⟨0x04C, 0, 9, .rw, (.k 200), true, .one, (.oneOf [(50, 500)])⟩
def VLV_DITHER_AMP : Fld := ⟨0x04C, 16, 5, .rw, .zero, true, .one, (.oneOf [(0, 25)])⟩
def VLV_PH_I_PEAK : Fld := ⟨0x050, 0, 12, .rw, (.k 1500), true, .one, (.oneOf [(50, 2500)])⟩
def VLV_PH_I_HOLD : Fld := ⟨0x050, 16, 12, .rw, (.k 500), true, .one, (.oneOf [(50, 2500)])⟩
def VLV_PH2_T_PEAK : Fld := ⟨0x054, 0, 8, .rw, (.k 20), true, .one, .any⟩
def VLV_PH2_RAMP : Fld := ⟨0x054, 16, 12, .rw, (.k 100), true, .one, (.oneOf [(1, 2500)])⟩
def VLV_DIAG_PEAK_TMIN : Fld := ⟨0x058, 0, 12, .rw, (.k 20), true, .one, (.oneOf [(0, 4000)])⟩
def VLV_DIAG_PEAK_TMAX : Fld := ⟨0x058, 16, 12, .rw, (.k 300), true, .one, (.oneOf [(0, 4000)])⟩
def VLV_DIAG_DIP_EN : Fld := ⟨0x058, 28, 1, .rw, .zero, true, .one, .any⟩
def VLV_DIP_DEPTH : Fld := ⟨0x05C, 0, 8, .rw, (.k 50), true, .one, (.oneOf [(5, 255)])⟩
def VLV_PRIME_DROPOUT : Fld := ⟨0x060, 0, 12, .rwl, (.k 200), true, .one, (.oneOf [(0, 2500)])⟩
def VLV_PRIME_PRIME_I : Fld := ⟨0x060, 16, 12, .rw, (.k 100), true, .one, .any⟩
def VLV_COIL_RES_REF : Fld := ⟨0x064, 0, 16, .rwl, (.k 6000), true, .one, (.oneOf [(500, 60000)])⟩
def VLV_COIL_TH_T_DERATE : Fld := ⟨0x068, 0, 8, .rwl, (.k 150), true, .one, (.oneOf [(60, 200)])⟩
def VLV_COIL_TH_T_OFF : Fld := ⟨0x068, 8, 8, .rwl, (.k 170), true, .one, .any⟩
def VLV_COIL_TH_RTH : Fld := ⟨0x068, 16, 8, .rwl, (.k 20), true, .one, (.oneOf [(1, 255)])⟩
def VLV_COIL_TH_TAU : Fld := ⟨0x068, 24, 8, .rwl, (.k 60), true, .one, (.oneOf [(1, 255)])⟩
def VLV_CHSTAT_STATE : Fld := ⟨0x06C, 0, 4, .ro, .zero, false, .one, .any⟩
def VLV_CHSTAT_LIMITING : Fld := ⟨0x06C, 9, 1, .ro, .zero, false, .one, .any⟩
def VLV_CHSTAT_COIL_COLD : Fld := ⟨0x06C, 11, 1, .ro, (.k 1), false, .one, .any⟩
def VLV_CHSTAT_DERATED : Fld := ⟨0x06C, 14, 1, .ro, .zero, false, .one, .any⟩
def VLV_CHSTAT_DITHER_SAT : Fld := ⟨0x06C, 15, 1, .ro, .zero, false, .one, .any⟩
def VLV_CHSTAT_TL_HOLD : Fld := ⟨0x06C, 16, 1, .ro, .zero, false, .one, .any⟩
def VLV_CHSTAT_TRIM_BAD : Fld := ⟨0x06C, 17, 1, .ro, .zero, false, .one, .any⟩
def VLV_FAULT_FAST_TRIP : Fld := ⟨0x070, 0, 1, .w1c, .zero, true, .one, .any⟩
def VLV_FAULT_OC_TRIP : Fld := ⟨0x070, 1, 1, .w1c, .zero, true, .one, .any⟩
def VLV_FAULT_THERMAL : Fld := ⟨0x070, 2, 1, .w1c, .zero, true, .one, .any⟩
def VLV_FAULT_CLAMP_LOCK : Fld := ⟨0x070, 7, 1, .w1c, .zero, true, .one, .any⟩
def VLV_FAULT_SHORTED : Fld := ⟨0x070, 8, 1, .w1c, .zero, true, .one, .any⟩
def VLV_FAULT_HIGH_RES : Fld := ⟨0x070, 9, 1, .w1c, .zero, true, .one, .any⟩
def VLV_FAULT_REFUSED : Fld := ⟨0x070, 10, 1, .w1c, .zero, true, .one, .any⟩
def VLV_FAULT_OPEN : Fld := ⟨0x070, 11, 1, .w1c, .zero, true, .one, .any⟩
def VLV_FAULT_STUCK : Fld := ⟨0x070, 12, 1, .w1c, .zero, true, .one, .any⟩
def VLV_FAULT_COIL_HOT : Fld := ⟨0x070, 13, 1, .w1c, .zero, true, .one, .any⟩
def VLV_FAULT_OVERLAP_REFUSED : Fld := ⟨0x070, 14, 1, .w1c, .zero, true, .one, .any⟩
def VLV_FAULT_BANK_TRIP : Fld := ⟨0x070, 15, 1, .w1c, .zero, true, .one, .any⟩
def VLV_ACT_TL_CLR : Fld := ⟨0x074, 0, 1, .wo, .zero, false, .one, .any⟩
def VLV_ACT_UNLOCK : Fld := ⟨0x074, 1, 1, .wo, .zero, false, .one, .any⟩
def VLV_ACT_CLEAR : Fld := ⟨0x074, 2, 1, .wo, .zero, false, .one, .any⟩
def VLV_SENSE_I : Fld := ⟨0x078, 0, 20, .ro, .zero, false, .one, .any⟩
def VLV_SENSE_SPEC : Fld := ⟨0x078, 28, 1, .ro, .zero, false, .one, .any⟩
def VLV_SENSE_EXTRAPOLATED : Fld := ⟨0x078, 29, 1, .ro, .zero, false, .one, .any⟩
def VLV_SENSE_LIMITED : Fld := ⟨0x078, 30, 1, .ro, .zero, false, .one, .any⟩
def VLV_SENSE_VALID : Fld := ⟨0x078, 31, 1, .ro, .zero, false, .one, .any⟩
def VLV_RISE_T_RISE : Fld := ⟨0x07C, 0, 16, .ro, .zero, false, .one, .any⟩
def VLV_RISE_DIP_SEEN : Fld := ⟨0x07C, 16, 1, .ro, .zero, false, .one, .any⟩
def VLV_COIL_R : Fld := ⟨0x080, 0, 16, .ro, .zero, false, .one, .any⟩
def VLV_N_MEAS : Fld := ⟨0x080, 16, 4, .ro, .zero, false, .one, .any⟩
def VLV_COIL_T : Fld := ⟨0x084, 0, 16, .ro, (.k 880), false, .one, .any⟩
def VLV_CLAMP_FILL : Fld := ⟨0x088, 0, 16, .ro, (.k 200), true, .one, .any⟩
def VLV_SPEC_PREP : Fld := ⟨0x08C, 0, 1, .ro, .zero, false, .one, .any⟩
def VLV_SPEC_PRIME : Fld := ⟨0x08C, 1, 1, .ro, .zero, false, .one, .any⟩
def VLV_SPEC_RESERVED_SLOT : Fld := ⟨0x08C, 3, 1, .ro, .zero, false, .one, .any⟩
def VLV_SPEC_SLOT : Fld := ⟨0x08C, 8, 6, .ro, .zero, false, .one, .any⟩
def VLV_TRIM_GAIN : Fld := ⟨0x090, 0, 16, .ro, (.k 32768), true, .one, .any⟩
def VLV_TRIM_OFFSET : Fld := ⟨0x090, 16, 16, .ro, .zero, true, .one, .any⟩
def VLV_TRIM_BAND_LO : Fld := ⟨0x094, 0, 16, .ro, .zero, true, .one, .any⟩
def VLV_TRIM_BAND_HI : Fld := ⟨0x094, 16, 16, .ro, .zero, true, .one, .any⟩

/-- Every field of kind VLV. -/
def fieldsVLV : List Fld :=
  [VLV_CFG_MODE, VLV_CFG_AHD, VLV_CFG_PRIO, VLV_CFG_TL_AUTO, VLV_CFG_DECAY, 
   VLV_CFG_DIAG_LOCK, VLV_CFG_DITHER, VLV_CFG_TFILT, VLV_OUT_ON, VLV_SET_I, 
   VLV_DITHER_FREQ, VLV_DITHER_AMP, VLV_PH_I_PEAK, VLV_PH_I_HOLD, VLV_PH2_T_PEAK, 
   VLV_PH2_RAMP, VLV_DIAG_PEAK_TMIN, VLV_DIAG_PEAK_TMAX, VLV_DIAG_DIP_EN, VLV_DIP_DEPTH, 
   VLV_PRIME_DROPOUT, VLV_PRIME_PRIME_I, VLV_COIL_RES_REF, VLV_COIL_TH_T_DERATE, 
   VLV_COIL_TH_T_OFF, VLV_COIL_TH_RTH, VLV_COIL_TH_TAU, VLV_CHSTAT_STATE, VLV_CHSTAT_LIMITING, 
   VLV_CHSTAT_COIL_COLD, VLV_CHSTAT_DERATED, VLV_CHSTAT_DITHER_SAT, VLV_CHSTAT_TL_HOLD, 
   VLV_CHSTAT_TRIM_BAD, VLV_FAULT_FAST_TRIP, VLV_FAULT_OC_TRIP, VLV_FAULT_THERMAL, 
   VLV_FAULT_CLAMP_LOCK, VLV_FAULT_SHORTED, VLV_FAULT_HIGH_RES] ++
  [VLV_FAULT_REFUSED, VLV_FAULT_OPEN, VLV_FAULT_STUCK, VLV_FAULT_COIL_HOT, 
   VLV_FAULT_OVERLAP_REFUSED, VLV_FAULT_BANK_TRIP, VLV_ACT_TL_CLR, VLV_ACT_UNLOCK, 
   VLV_ACT_CLEAR, VLV_SENSE_I, VLV_SENSE_SPEC, VLV_SENSE_EXTRAPOLATED, VLV_SENSE_LIMITED, 
   VLV_SENSE_VALID, VLV_RISE_T_RISE, VLV_RISE_DIP_SEEN, VLV_COIL_R, VLV_N_MEAS, 
   VLV_COIL_T, VLV_CLAMP_FILL, VLV_SPEC_PREP, VLV_SPEC_PRIME, VLV_SPEC_RESERVED_SLOT, 
   VLV_SPEC_SLOT, VLV_TRIM_GAIN, VLV_TRIM_OFFSET, VLV_TRIM_BAND_LO, VLV_TRIM_BAND_HI]

/-! Page kind VBK: R266. -/
def VBK_CFG_OVERLAP_TMAX : Fld := ⟨0x040, 0, 8, .rwl, (.k 50), true, .one, (.oneOf [(1, 255)])⟩
def VBK_CFG_TFILT : Fld := ⟨0x040, 8, 2, .rwl, (.k 1), true, .one, .any⟩
def VBK_CFG_BANK_EN : Fld := ⟨0x040, 16, 4, .rwl, (.k 15), true, .one, .any⟩
def VBK_STAT_ON : Fld := ⟨0x000, 0, 1, .ro, .zero, false, ⟨0x100, 4, 0x20, 1, 0x0⟩, .any⟩
def VBK_STAT_TOKEN_BUSY : Fld := ⟨0x000, 1, 1, .ro, .zero, false, ⟨0x100, 4, 0x20, 1, 0x0⟩, .any⟩
def VBK_STAT_TOKEN_ODD : Fld := ⟨0x000, 2, 1, .ro, .zero, false, ⟨0x100, 4, 0x20, 1, 0x0⟩, .any⟩
def VBK_STAT_WAITING : Fld := ⟨0x000, 3, 1, .ro, .zero, false, ⟨0x100, 4, 0x20, 1, 0x0⟩, .any⟩
def VBK_STAT_LIMITING : Fld := ⟨0x000, 4, 1, .ro, .zero, false, ⟨0x100, 4, 0x20, 1, 0x0⟩, .any⟩
def VBK_FAULT_FAST_TRIP : Fld := ⟨0x004, 0, 1, .w1c, .zero, true, ⟨0x100, 4, 0x20, 1, 0x0⟩, .any⟩
def VBK_FAULT_OC_TRIP : Fld := ⟨0x004, 1, 1, .w1c, .zero, true, ⟨0x100, 4, 0x20, 1, 0x0⟩, .any⟩
def VBK_FAULT_THERMAL : Fld := ⟨0x004, 2, 1, .w1c, .zero, true, ⟨0x100, 4, 0x20, 1, 0x0⟩, .any⟩
def VBK_SENSE_I : Fld := ⟨0x008, 0, 20, .ro, .zero, false, ⟨0x100, 4, 0x20, 1, 0x0⟩, .any⟩
def VBK_TJ : Fld := ⟨0x00C, 0, 16, .ro, .zero, false, ⟨0x100, 4, 0x20, 1, 0x0⟩, .any⟩
def VBK_CNT_DEFERRALS : Fld := ⟨0x010, 0, 16, .ro, .zero, false, ⟨0x100, 4, 0x20, 1, 0x0⟩, .any⟩
def VBK_CNT_REFUSALS : Fld := ⟨0x010, 16, 16, .ro, .zero, false, ⟨0x100, 4, 0x20, 1, 0x0⟩, .any⟩
def VBK_ACT_CLEAR : Fld := ⟨0x014, 0, 1, .wo, .zero, false, ⟨0x100, 4, 0x20, 1, 0x0⟩, .any⟩

/-- Every field of kind VBK. -/
def fieldsVBK : List Fld :=
  [VBK_CFG_OVERLAP_TMAX, VBK_CFG_TFILT, VBK_CFG_BANK_EN, VBK_STAT_ON, VBK_STAT_TOKEN_BUSY, 
   VBK_STAT_TOKEN_ODD, VBK_STAT_WAITING, VBK_STAT_LIMITING, VBK_FAULT_FAST_TRIP, 
   VBK_FAULT_OC_TRIP, VBK_FAULT_THERMAL, VBK_SENSE_I, VBK_TJ, VBK_CNT_DEFERRALS, 
   VBK_CNT_REFUSALS, VBK_ACT_CLEAR]

/-! Page kind RPE: R240. -/
def RPE_CFG_EN : Fld := ⟨0x000, 0, 1, .rw, .zero, true, ⟨0x100, 4, 0x80, 1, 0x0⟩, .any⟩
def RPE_CFG_CLOSE_DIR : Fld := ⟨0x000, 1, 1, .rwl, .zero, true, ⟨0x100, 4, 0x80, 1, 0x0⟩, .any⟩
def RPE_CFG_PINCH_EN : Fld := ⟨0x000, 2, 1, .rwl, .zero, true, ⟨0x100, 4, 0x80, 1, 0x0⟩, .any⟩
def RPE_CFG_LEARN_EN : Fld := ⟨0x000, 3, 1, .rw, (.k 1), false, ⟨0x100, 4, 0x80, 1, 0x0⟩, .any⟩
def RPE_CFG_INIT_REV : Fld := ⟨0x000, 4, 1, .rwl, .zero, true, ⟨0x100, 4, 0x80, 1, 0x0⟩, .any⟩
def RPE_CFG_START_BLANK : Fld := ⟨0x000, 8, 8, .rwl, (.k 100), false, ⟨0x100, 4, 0x80, 1, 0x0⟩, (.oneOf [(20, 250)])⟩
def RPE_RIP_FMIN : Fld := ⟨0x004, 0, 12, .rwl, (.k 50), false, ⟨0x100, 4, 0x80, 1, 0x0⟩, (.oneOf [(20, 4000)])⟩
def RPE_RIP_FMAX : Fld := ⟨0x004, 16, 12, .rwl, (.k 3000), false, ⟨0x100, 4, 0x80, 1, 0x0⟩, (.oneOf [(20, 4000)])⟩
def RPE_RIP_HYST : Fld := ⟨0x004, 28, 4, .rwl, (.k 2), false, ⟨0x100, 4, 0x80, 1, 0x0⟩, (.oneOf [(1, 15)])⟩
def RPE_MOTOR_R_ARM : Fld := ⟨0x008, 0, 16, .rwl, (.k 500), false, ⟨0x100, 4, 0x80, 1, 0x0⟩, .any⟩
def RPE_MOTOR_KE : Fld := ⟨0x008, 16, 16, .rwl, (.k 14), false, ⟨0x100, 4, 0x80, 1, 0x0⟩, .any⟩
def RPE_TRAVEL_MAX : Fld := ⟨0x00C, 0, 16, .rwl, (.k 4000), false, ⟨0x100, 4, 0x80, 1, 0x0⟩, .any⟩
def RPE_TRAVEL_MARGIN : Fld := ⟨0x00C, 16, 8, .rwl, (.k 16), false, ⟨0x100, 4, 0x80, 1, 0x0⟩, .any⟩
def RPE_TRAVEL_NORM_TOL : Fld := ⟨0x00C, 24, 8, .rwl, (.k 8), false, ⟨0x100, 4, 0x80, 1, 0x0⟩, .any⟩
def RPE_ZONE_PZ_CLOSED : Fld := ⟨0x010, 0, 16, .rwl, (.k 32), false, ⟨0x100, 4, 0x80, 1, 0x0⟩, .any⟩
def RPE_ZONE_PZ_OPEN : Fld := ⟨0x010, 16, 16, .rwl, (.k 1600), false, ⟨0x100, 4, 0x80, 1, 0x0⟩, .any⟩
def RPE_FORCE_KF : Fld := ⟨0x014, 0, 16, .rwl, (.k 200), false, ⟨0x100, 4, 0x80, 1, 0x0⟩, .any⟩
def RPE_FORCE_F_LIM : Fld := ⟨0x014, 16, 12, .rwl, (.k 65), false, ⟨0x100, 4, 0x80, 1, 0x0⟩, (.oneOf [(10, 200)])⟩
def RPE_FORCE_FILT : Fld := ⟨0x014, 28, 3, .rwl, (.k 3), false, ⟨0x100, 4, 0x80, 1, 0x0⟩, (.oneOf [(1, 7)])⟩
def RPE_COMP_KV : Fld := ⟨0x018, 0, 16, .rwl, .zero, false, ⟨0x100, 4, 0x80, 1, 0x0⟩, .any⟩
def RPE_COMP_RISE : Fld := ⟨0x018, 16, 16, .rwl, (.k 400), false, ⟨0x100, 4, 0x80, 1, 0x0⟩, .any⟩
def RPE_REV_DIST : Fld := ⟨0x01C, 0, 16, .rwl, (.k 160), false, ⟨0x100, 4, 0x80, 1, 0x0⟩, .any⟩
def RPE_REV_DELAY : Fld := ⟨0x01C, 16, 4, .rwl, (.k 4), false, ⟨0x100, 4, 0x80, 1, 0x0⟩, (.oneOf [(1, 8)])⟩
def RPE_POS : Fld := ⟨0x020, 0, 24, .ro, .zero, true, ⟨0x100, 4, 0x80, 1, 0x0⟩, .any⟩
def RPE_STAT_NORM : Fld := ⟨0x024, 0, 1, .ro, .zero, true, ⟨0x100, 4, 0x80, 1, 0x0⟩, .any⟩
def RPE_STAT_EXTRAPOLATED : Fld := ⟨0x024, 1, 1, .ro, .zero, false, ⟨0x100, 4, 0x80, 1, 0x0⟩, .any⟩
def RPE_STAT_PINCH : Fld := ⟨0x024, 2, 1, .w1c, .zero, false, ⟨0x100, 4, 0x80, 1, 0x0⟩, .any⟩
def RPE_STAT_REVERSING : Fld := ⟨0x024, 3, 1, .ro, .zero, false, ⟨0x100, 4, 0x80, 1, 0x0⟩, .any⟩
def RPE_STAT_REV_REFUSED : Fld := ⟨0x024, 4, 1, .w1c, .zero, false, ⟨0x100, 4, 0x80, 1, 0x0⟩, .any⟩
def RPE_STAT_AUTO_REFUSED : Fld := ⟨0x024, 5, 1, .w1c, .zero, false, ⟨0x100, 4, 0x80, 1, 0x0⟩, .any⟩
def RPE_STAT_INSERTED : Fld := ⟨0x024, 8, 8, .ro, .zero, true, ⟨0x100, 4, 0x80, 1, 0x0⟩, .any⟩
def RPE_STAT_LOST_CAUSE : Fld := ⟨0x024, 16, 3, .ro, (.k 4), true, ⟨0x100, 4, 0x80, 1, 0x0⟩, .any⟩
def RPE_TAG_V_LEARN : Fld := ⟨0x028, 0, 16, .rw, .zero, false, ⟨0x100, 4, 0x80, 1, 0x0⟩, .any⟩
def RPE_TAG_T_LEARN : Fld := ⟨0x028, 16, 8, .rw, .zero, false, ⟨0x100, 4, 0x80, 1, 0x0⟩, .any⟩
def RPE_TAG_VALID : Fld := ⟨0x028, 31, 1, .rw, .zero, false, ⟨0x100, 4, 0x80, 1, 0x0⟩, .any⟩
def RPE_FORCE_EST : Fld := ⟨0x02C, 0, 16, .ro, .zero, false, ⟨0x100, 4, 0x80, 1, 0x0⟩, .any⟩
def RPE_F_EST_FREQ : Fld := ⟨0x02C, 16, 16, .ro, .zero, false, ⟨0x100, 4, 0x80, 1, 0x0⟩, .any⟩
def RPE_TARGET_POS : Fld := ⟨0x030, 0, 16, .rw, .zero, false, ⟨0x100, 4, 0x80, 1, 0x0⟩, .any⟩
def RPE_TARGET_GO : Fld := ⟨0x030, 31, 1, .wo, .zero, false, ⟨0x100, 4, 0x80, 1, 0x0⟩, .any⟩
def RPE_ACT_NORM_NOW : Fld := ⟨0x034, 0, 1, .wo, .zero, false, ⟨0x100, 4, 0x80, 1, 0x0⟩, .any⟩
def RPE_ACT_NORM_CLR : Fld := ⟨0x034, 1, 1, .wo, .zero, false, ⟨0x100, 4, 0x80, 1, 0x0⟩, .any⟩
def RPE_PROF_LOCK : Fld := ⟨0x040, 0, 1, .rw, .zero, false, .one, .any⟩
def RPE_PROF_E : Fld := ⟨0x000, 0, 16, .rw, .zero, false, ⟨0x800, 4, 0x200, 128, 0x4⟩, .any⟩
def RPE_PROF_O : Fld := ⟨0x000, 16, 16, .rw, .zero, false, ⟨0x800, 4, 0x200, 128, 0x4⟩, .any⟩

/-- Every field of kind RPE. -/
def fieldsRPE : List Fld :=
  [RPE_CFG_EN, RPE_CFG_CLOSE_DIR, RPE_CFG_PINCH_EN, RPE_CFG_LEARN_EN, RPE_CFG_INIT_REV, 
   RPE_CFG_START_BLANK, RPE_RIP_FMIN, RPE_RIP_FMAX, RPE_RIP_HYST, RPE_MOTOR_R_ARM, 
   RPE_MOTOR_KE, RPE_TRAVEL_MAX, RPE_TRAVEL_MARGIN, RPE_TRAVEL_NORM_TOL, RPE_ZONE_PZ_CLOSED, 
   RPE_ZONE_PZ_OPEN, RPE_FORCE_KF, RPE_FORCE_F_LIM, RPE_FORCE_FILT, RPE_COMP_KV, 
   RPE_COMP_RISE, RPE_REV_DIST, RPE_REV_DELAY, RPE_POS, RPE_STAT_NORM, RPE_STAT_EXTRAPOLATED, 
   RPE_STAT_PINCH, RPE_STAT_REVERSING, RPE_STAT_REV_REFUSED, RPE_STAT_AUTO_REFUSED, 
   RPE_STAT_INSERTED, RPE_STAT_LOST_CAUSE, RPE_TAG_V_LEARN, RPE_TAG_T_LEARN, 
   RPE_TAG_VALID, RPE_FORCE_EST, RPE_F_EST_FREQ, RPE_TARGET_POS, RPE_TARGET_GO, 
   RPE_ACT_NORM_NOW] ++
  [RPE_ACT_NORM_CLR, RPE_PROF_LOCK, RPE_PROF_E, RPE_PROF_O]

end Sys2Proof.Machine
end

