-- ==== Sys2Proof/Machine/MapSystem.lean ====
section
/-! DEFINITION. The register map of the header and the system pages: one `Fld` per field of the spec's register
tables (offset, low bit, width, access, reset, kept, block, legal values), and one list of them per page kind. -/

namespace Sys2Proof.Machine

/-! Page kind HDR: R61, R63, R64, R72, R74. -/
def H_CTRL_EN : Fld := ⟨0x008, 0, 1, .rw, .en, true, .one, .any⟩
def H_CTRL_SRST : Fld := ⟨0x008, 1, 1, .wo, .zero, false, .one, .any⟩
def H_CTRL_HOLD : Fld := ⟨0x008, 2, 1, .rw, .zero, false, .one, .any⟩
def H_STAT_IDLE : Fld := ⟨0x00C, 0, 1, .ro, .idle, false, .one, .any⟩
def H_STAT_DRAINING : Fld := ⟨0x00C, 1, 1, .ro, .zero, false, .one, .any⟩
def H_STAT_ERR : Fld := ⟨0x00C, 2, 1, .w1c, .zero, false, .one, .any⟩
def H_STAT_HELD : Fld := ⟨0x00C, 3, 1, .ro, .zero, false, .one, .any⟩
def H_STAT_DOMAIN_STATE : Fld := ⟨0x00C, 4, 2, .ro, .zero, false, .one, .any⟩
def H_LOCKSTAT_UNLOCKED : Fld := ⟨0x024, 0, 1, .ro, .zero, false, .one, .any⟩
def H_LOCKSTAT_KEY1_SEEN : Fld := ⟨0x024, 1, 1, .ro, .zero, false, .one, .any⟩
def H_LOCKSTAT_MASTER : Fld := ⟨0x024, 4, 4, .ro, .zero, false, .one, .any⟩
def H_LOCKSTAT_FAILS : Fld := ⟨0x024, 8, 8, .ro, .zero, false, .one, .any⟩
def H_IRQ_ROUTE_TARGET : Fld := ⟨0x01C, 0, 4, .rw, .zero, true, .one, .any⟩
def H_IRQ_ROUTE_WAKE : Fld := ⟨0x01C, 4, 1, .rw, .zero, true, .one, .any⟩
def H_IRQ_ROUTE_LINE : Fld := ⟨0x01C, 8, 8, .rw, .zero, true, .one, .any⟩
def H_IRQ_RAW : Fld := ⟨0x010, 0, 32, .w1c, .zero, false, .one, .any⟩
def H_IRQ_EN : Fld := ⟨0x014, 0, 32, .rw, .zero, true, .one, .any⟩
def H_IRQ_SET : Fld := ⟨0x018, 0, 32, .wo, .zero, false, .one, .any⟩
def H_LOCKKEY : Fld := ⟨0x020, 0, 32, .wo, .zero, false, .one, .any⟩
def H_EVT_CNT_REJECTED : Fld := ⟨0x028, 0, 16, .ro, .zero, false, .one, .any⟩
def H_EVT_CNT_EVENTS : Fld := ⟨0x028, 16, 16, .ro, .zero, false, .one, .any⟩

/-- Every field of kind HDR. -/
def fieldsHDR : List Fld :=
  [H_CTRL_EN, H_CTRL_SRST, H_CTRL_HOLD, H_STAT_IDLE, H_STAT_DRAINING, H_STAT_ERR, 
   H_STAT_HELD, H_STAT_DOMAIN_STATE, H_LOCKSTAT_UNLOCKED, H_LOCKSTAT_KEY1_SEEN, 
   H_LOCKSTAT_MASTER, H_LOCKSTAT_FAILS, H_IRQ_ROUTE_TARGET, H_IRQ_ROUTE_WAKE, 
   H_IRQ_ROUTE_LINE, H_IRQ_RAW, H_IRQ_EN, H_IRQ_SET, H_LOCKKEY, H_EVT_CNT_REJECTED, 
   H_EVT_CNT_EVENTS]

/-! Page kind SUP: R55, R56. -/
def SUP_STAT_VBAT_LOW : Fld := ⟨0x040, 0, 1, .ro, .zero, false, .one, .any⟩
def SUP_STAT_VBAT_OV : Fld := ⟨0x040, 1, 1, .ro, .zero, false, .one, .any⟩
def SUP_STAT_LD_SEEN : Fld := ⟨0x040, 2, 1, .w1c, .zero, false, .one, .any⟩
def SUP_STAT_CORE_RESTART : Fld := ⟨0x040, 3, 1, .w1c, .zero, false, .one, .any⟩
def SUP_STAT_LIMP_ACT : Fld := ⟨0x040, 4, 4, .ro, .zero, false, .one, .any⟩
def SUP_STAT_LIMP_MAP_BAD : Fld := ⟨0x040, 8, 1, .ro, .zero, false, .one, .any⟩
def SUP_STAT_LAST_RESET : Fld := ⟨0x040, 9, 3, .ro, .zero, false, .one, .any⟩
def SUP_VBAT_VBAT_MV : Fld := ⟨0x044, 0, 16, .ro, .zero, false, .one, .any⟩
def SUP_VBAT_VFLD_MV : Fld := ⟨0x044, 16, 16, .ro, .zero, false, .one, .any⟩

/-- Every field of kind SUP. -/
def fieldsSUP : List Fld :=
  [SUP_STAT_VBAT_LOW, SUP_STAT_VBAT_OV, SUP_STAT_LD_SEEN, SUP_STAT_CORE_RESTART, 
   SUP_STAT_LIMP_ACT, SUP_STAT_LIMP_MAP_BAD, SUP_STAT_LAST_RESET, SUP_VBAT_VBAT_MV, 
   SUP_VBAT_VFLD_MV]

/-! Page kind CLK: R82, R83. -/
def CLK_CFG_REF_SEL : Fld := ⟨0x040, 0, 1, .rwl, .zero, false, .one, .any⟩
def CLK_CFG_PARK_RC_START : Fld := ⟨0x040, 1, 1, .rw, .zero, false, .one, .any⟩
def CLK_CFG_LFXTAL_EN : Fld := ⟨0x040, 2, 1, .rw, (.k 1), false, .one, .any⟩
def CLK_CFG_REFCLK_OUT : Fld := ⟨0x040, 3, 1, .rw, .zero, false, .one, .any⟩
def CLK_STAT_REF_ACT : Fld := ⟨0x044, 0, 1, .ro, .zero, false, .one, .any⟩
def CLK_STAT_PLL_LOCK : Fld := ⟨0x044, 1, 1, .ro, .zero, false, .one, .any⟩
def CLK_STAT_XTAL_FAIL : Fld := ⟨0x044, 2, 1, .w1c, .zero, false, .one, .any⟩
def CLK_STAT_LF_FAIL : Fld := ⟨0x044, 3, 1, .w1c, .zero, false, .one, .any⟩
def CLK_STAT_LF_ON_RC : Fld := ⟨0x044, 4, 1, .ro, .zero, false, .one, .any⟩
def CLK_STAT_PLL_STOPPED : Fld := ⟨0x044, 5, 1, .ro, .zero, false, .one, .any⟩
def CLK_STAT_FREEZES : Fld := ⟨0x044, 8, 8, .ro, .zero, false, .one, .any⟩

/-- Every field of kind CLK. -/
def fieldsCLK : List Fld :=
  [CLK_CFG_REF_SEL, CLK_CFG_PARK_RC_START, CLK_CFG_LFXTAL_EN, CLK_CFG_REFCLK_OUT, 
   CLK_STAT_REF_ACT, CLK_STAT_PLL_LOCK, CLK_STAT_XTAL_FAIL, CLK_STAT_LF_FAIL, 
   CLK_STAT_LF_ON_RC, CLK_STAT_PLL_STOPPED, CLK_STAT_FREEZES]

/-! Page kind PWR: R90, R92, R93. -/
def PWR_DOMAIN_ORDER : Fld := ⟨0x040, 0, 2, .rw, .zero, false, ⟨0x0, 12, 0x4, 1, 0x0⟩, .any⟩
def PWR_DOMAIN_STATE : Fld := ⟨0x040, 4, 2, .ro, .zero, false, ⟨0x0, 12, 0x4, 1, 0x0⟩, .any⟩
def PWR_DOMAIN_AUTOWAKE : Fld := ⟨0x040, 8, 1, .rw, (.k 1), false, ⟨0x0, 12, 0x4, 1, 0x0⟩, .any⟩
def PWR_DOMAIN_REFUSED : Fld := ⟨0x040, 9, 1, .w1c, .zero, false, ⟨0x0, 12, 0x4, 1, 0x0⟩, .any⟩
def PWR_DOMAIN_WAKE_DENIED : Fld := ⟨0x040, 10, 1, .w1c, .zero, false, ⟨0x0, 12, 0x4, 1, 0x0⟩, .any⟩
def PWR_DOMAIN_HW_WOKEN : Fld := ⟨0x040, 11, 1, .w1c, .zero, false, ⟨0x0, 12, 0x4, 1, 0x0⟩, .any⟩
def PWR_REQ_STATE : Fld := ⟨0x070, 0, 2, .ro, .zero, false, .one, .any⟩
def PWR_REQ_DOMAIN : Fld := ⟨0x070, 16, 4, .ro, .zero, false, .one, .any⟩
def PWR_REQ_MASTER : Fld := ⟨0x070, 24, 4, .ro, .zero, false, .one, .any⟩
def PWR_REQ_VALID : Fld := ⟨0x070, 31, 1, .ro, .zero, false, .one, .any⟩
def PWR_REQ_STAT_COUNT : Fld := ⟨0x074, 0, 5, .ro, .zero, false, .one, .any⟩
def PWR_REQ_STAT_OVF : Fld := ⟨0x074, 8, 1, .w1c, .zero, false, .one, .any⟩

/-- Every field of kind PWR. -/
def fieldsPWR : List Fld :=
  [PWR_DOMAIN_ORDER, PWR_DOMAIN_STATE, PWR_DOMAIN_AUTOWAKE, PWR_DOMAIN_REFUSED, 
   PWR_DOMAIN_WAKE_DENIED, PWR_DOMAIN_HW_WOKEN, PWR_REQ_STATE, PWR_REQ_DOMAIN, 
   PWR_REQ_MASTER, PWR_REQ_VALID, PWR_REQ_STAT_COUNT, PWR_REQ_STAT_OVF]

/-! Page kind RIND: R105. -/
def RIND_STAT_BAD : Fld := ⟨0x040, 0, 12, .w1c, .zero, false, .one, .any⟩
def RIND_STAT_SW_VALID : Fld := ⟨0x040, 12, 1, .w1s, .zero, false, .one, .any⟩

/-- Every field of kind RIND. -/
def fieldsRIND : List Fld :=
  [RIND_STAT_BAD, RIND_STAT_SW_VALID]

/-! Page kind TB: R117. -/
def TB_TB_LO : Fld := ⟨0x040, 0, 32, .ro, .zero, false, .one, .any⟩
def TB_TB_HI : Fld := ⟨0x044, 0, 32, .ro, .zero, false, .one, .any⟩
def TB_INC_FRAC : Fld := ⟨0x048, 0, 32, .rwl, .zero, false, .one, .any⟩
def TB_INC_INT : Fld := ⟨0x04C, 0, 16, .rwl, (.k 5), false, .one, .any⟩
def TB_LFINC_FRAC : Fld := ⟨0x050, 0, 32, .ro, (.k 2483027968), false, .one, .any⟩
def TB_LFINC_INT : Fld := ⟨0x054, 0, 16, .ro, (.k 30517), false, .one, .any⟩
def TB_STAT_SRC : Fld := ⟨0x058, 0, 1, .ro, .zero, false, .one, .any⟩
def TB_STAT_COARSE : Fld := ⟨0x058, 1, 1, .ro, .zero, false, .one, .any⟩
def TB_STAT_UNCERT_GROW : Fld := ⟨0x058, 2, 1, .ro, .zero, false, .one, .any⟩
def TB_STAT_UNCERT_SAT : Fld := ⟨0x058, 3, 1, .ro, .zero, false, .one, .any⟩
def TB_STAT_EPOCH_BROKEN : Fld := ⟨0x058, 4, 1, .w1c, (.k 1), false, .one, .any⟩
def TB_STAT_TRIM_VALID : Fld := ⟨0x058, 5, 1, .ro, .zero, false, .one, .any⟩
def TB_STAT_RESID_PEND : Fld := ⟨0x058, 6, 1, .ro, .zero, false, .one, .any⟩
def TB_STAT_EPOCH_BAD : Fld := ⟨0x058, 7, 1, .ro, .zero, false, .one, .any⟩
def TB_HANDOVER_RESID : Fld := ⟨0x05C, 0, 32, .ro, .zero, false, .one, .any⟩
def TB_UNCERT : Fld := ⟨0x060, 0, 32, .ro, .zero, false, .one, .any⟩
def TB_EPOCH : Fld := ⟨0x064, 0, 32, .ro, .zero, false, .one, .any⟩
def TB_ACT_RESID_APPLY : Fld := ⟨0x068, 0, 1, .wo, .zero, false, .one, .any⟩
def TB_ACT_UNCERT_CLR : Fld := ⟨0x068, 1, 1, .wo, .zero, false, .one, .any⟩

/-- Every field of kind TB. -/
def fieldsTB : List Fld :=
  [TB_TB_LO, TB_TB_HI, TB_INC_FRAC, TB_INC_INT, TB_LFINC_FRAC, TB_LFINC_INT, 
   TB_STAT_SRC, TB_STAT_COARSE, TB_STAT_UNCERT_GROW, TB_STAT_UNCERT_SAT, TB_STAT_EPOCH_BROKEN, 
   TB_STAT_TRIM_VALID, TB_STAT_RESID_PEND, TB_STAT_EPOCH_BAD, TB_HANDOVER_RESID, 
   TB_UNCERT, TB_EPOCH, TB_ACT_RESID_APPLY, TB_ACT_UNCERT_CLR]

/-! Page kind CMP: R126. -/
def CMP_CMP_LO : Fld := ⟨0x000, 0, 32, .rw, .zero, false, ⟨0x40, 16, 0x20, 1, 0x0⟩, .any⟩
def CMP_CMP_HI : Fld := ⟨0x004, 0, 32, .rw, .zero, false, ⟨0x40, 16, 0x20, 1, 0x0⟩, .any⟩
def CMP_CFG_MODE : Fld := ⟨0x008, 0, 2, .rw, .zero, false, ⟨0x40, 16, 0x20, 1, 0x0⟩, (.oneOf [(0, 2)])⟩
def CMP_CFG_WAKE : Fld := ⟨0x008, 4, 1, .rw, .zero, false, ⟨0x40, 16, 0x20, 1, 0x0⟩, .any⟩
def CMP_CFG_TRIG : Fld := ⟨0x008, 5, 1, .rw, .zero, false, ⟨0x40, 16, 0x20, 1, 0x0⟩, .any⟩
def CMP_CFG_SRC : Fld := ⟨0x008, 8, 8, .rw, .zero, false, ⟨0x40, 16, 0x20, 1, 0x0⟩, (.oneOf [(0, 0x4C), (0x50, 0x52), (0x60, 0x9F)])⟩
def CMP_CFG_EDGE : Fld := ⟨0x008, 16, 2, .rw, (.k 1), false, ⟨0x40, 16, 0x20, 1, 0x0⟩, .any⟩
def CMP_PERIOD : Fld := ⟨0x00C, 0, 32, .rw, .zero, false, ⟨0x40, 16, 0x20, 1, 0x0⟩, .any⟩
def CMP_STAT_ARMED : Fld := ⟨0x010, 0, 1, .ro, .zero, false, ⟨0x40, 16, 0x20, 1, 0x0⟩, .any⟩
def CMP_STAT_FIRED : Fld := ⟨0x010, 1, 1, .w1c, .zero, false, ⟨0x40, 16, 0x20, 1, 0x0⟩, .any⟩
def CMP_STAT_LATE : Fld := ⟨0x010, 2, 1, .w1c, .zero, false, ⟨0x40, 16, 0x20, 1, 0x0⟩, .any⟩
def CMP_STAT_CAPT : Fld := ⟨0x010, 3, 1, .w1c, .zero, false, ⟨0x40, 16, 0x20, 1, 0x0⟩, .any⟩
def CMP_STAT_OVR : Fld := ⟨0x010, 4, 1, .w1c, .zero, false, ⟨0x40, 16, 0x20, 1, 0x0⟩, .any⟩
def CMP_STAT_SEQ : Fld := ⟨0x010, 8, 4, .ro, .zero, false, ⟨0x40, 16, 0x20, 1, 0x0⟩, .any⟩
def CMP_CAP_LO : Fld := ⟨0x014, 0, 32, .ro, .zero, false, ⟨0x40, 16, 0x20, 1, 0x0⟩, .any⟩
def CMP_CAP_HI : Fld := ⟨0x018, 0, 32, .ro, .zero, false, ⟨0x40, 16, 0x20, 1, 0x0⟩, .any⟩

/-- Every field of kind CMP. -/
def fieldsCMP : List Fld :=
  [CMP_CMP_LO, CMP_CMP_HI, CMP_CFG_MODE, CMP_CFG_WAKE, CMP_CFG_TRIG, CMP_CFG_SRC, 
   CMP_CFG_EDGE, CMP_PERIOD, CMP_STAT_ARMED, CMP_STAT_FIRED, CMP_STAT_LATE, 
   CMP_STAT_CAPT, CMP_STAT_OVR, CMP_STAT_SEQ, CMP_CAP_LO, CMP_CAP_HI]

/-! Page kind CASC: R131. -/
def CASC_CNT : Fld := ⟨0x000, 0, 32, .rw, .zero, false, ⟨0x40, 16, 0x8, 1, 0x0⟩, .any⟩
def CASC_CFG_SRC : Fld := ⟨0x004, 0, 8, .rw, .zero, false, ⟨0x40, 16, 0x8, 1, 0x0⟩, (.oneOf [(0, 0x4C), (0x50, 0x52), (0x60, 0x9F), (0xE0, 0xE1)])⟩
def CASC_CFG_EDGE : Fld := ⟨0x004, 8, 2, .rw, (.k 1), false, ⟨0x40, 16, 0x8, 1, 0x0⟩, .any⟩
def CASC_CFG_LINK : Fld := ⟨0x004, 12, 1, .rw, .zero, false, ⟨0x40, 16, 0x8, 1, 0x0⟩, .any⟩
def CASC_CFG_RUN : Fld := ⟨0x004, 16, 1, .rw, .zero, false, ⟨0x40, 16, 0x8, 1, 0x0⟩, .any⟩
def CASC_CFG_PARK : Fld := ⟨0x004, 17, 1, .rw, .zero, false, ⟨0x40, 16, 0x8, 1, 0x0⟩, .any⟩

/-- Every field of kind CASC. -/
def fieldsCASC : List Fld :=
  [CASC_CNT, CASC_CFG_SRC, CASC_CFG_EDGE, CASC_CFG_LINK, CASC_CFG_RUN, CASC_CFG_PARK]

/-! Page kind IRQ: R502. -/
def IRQ_CORESTAT_FAULTED : Fld := ⟨0x040, 0, 12, .w1c, .zero, false, .one, .any⟩
def IRQ_CORESTAT_HALTED : Fld := ⟨0x040, 16, 12, .ro, .zero, false, .one, .any⟩
def IRQ_PEND_LO : Fld := ⟨0x000, 0, 32, .ro, .zero, false, ⟨0x100, 12, 0x20, 1, 0x0⟩, .any⟩
def IRQ_PEND_HI : Fld := ⟨0x004, 0, 32, .ro, .zero, false, ⟨0x100, 12, 0x20, 1, 0x0⟩, .any⟩
def IRQ_EN_LO : Fld := ⟨0x008, 0, 32, .rw, .zero, false, ⟨0x100, 12, 0x20, 1, 0x0⟩, .any⟩
def IRQ_EN_HI : Fld := ⟨0x00C, 0, 32, .rw, .zero, false, ⟨0x100, 12, 0x20, 1, 0x0⟩, .any⟩
def IRQ_SOFT_SET_LO : Fld := ⟨0x010, 0, 32, .wo, .zero, false, ⟨0x100, 12, 0x20, 1, 0x0⟩, .any⟩
def IRQ_SOFT_SET_HI : Fld := ⟨0x014, 0, 32, .wo, .zero, false, ⟨0x100, 12, 0x20, 1, 0x0⟩, .any⟩
def IRQ_SOFT_CLR_LO : Fld := ⟨0x018, 0, 32, .wo, .zero, false, ⟨0x100, 12, 0x20, 1, 0x0⟩, .any⟩
def IRQ_SOFT_CLR_HI : Fld := ⟨0x01C, 0, 32, .wo, .zero, false, ⟨0x100, 12, 0x20, 1, 0x0⟩, .any⟩

/-- Every field of kind IRQ. -/
def fieldsIRQ : List Fld :=
  [IRQ_CORESTAT_FAULTED, IRQ_CORESTAT_HALTED, IRQ_PEND_LO, IRQ_PEND_HI, 
   IRQ_EN_LO, IRQ_EN_HI, IRQ_SOFT_SET_LO, IRQ_SOFT_SET_HI, IRQ_SOFT_CLR_LO, 
   IRQ_SOFT_CLR_HI]

/-! Page kind MBOX: R504. -/
def MBOX_CFG_DEST : Fld := ⟨0x000, 0, 4, .rw, (.k 15), true, ⟨0x100, 32, 0x10, 1, 0x0⟩, .any⟩
def MBOX_CFG_LINE : Fld := ⟨0x000, 8, 6, .rw, .zero, true, ⟨0x100, 32, 0x10, 1, 0x0⟩, .any⟩
def MBOX_CFG_EN : Fld := ⟨0x000, 16, 1, .rw, .zero, true, ⟨0x100, 32, 0x10, 1, 0x0⟩, .any⟩
def MBOX_DATA : Fld := ⟨0x004, 0, 32, .rw, .zero, false, ⟨0x100, 32, 0x10, 1, 0x0⟩, .any⟩
def MBOX_STAT_COUNT : Fld := ⟨0x008, 0, 4, .ro, .zero, false, ⟨0x100, 32, 0x10, 1, 0x0⟩, .any⟩
def MBOX_STAT_OVF : Fld := ⟨0x008, 4, 1, .w1c, .zero, false, ⟨0x100, 32, 0x10, 1, 0x0⟩, .any⟩
def MBOX_STAT_UNDF : Fld := ⟨0x008, 5, 1, .w1c, .zero, false, ⟨0x100, 32, 0x10, 1, 0x0⟩, .any⟩

/-- Every field of kind MBOX. -/
def fieldsMBOX : List Fld :=
  [MBOX_CFG_DEST, MBOX_CFG_LINE, MBOX_CFG_EN, MBOX_DATA, MBOX_STAT_COUNT, MBOX_STAT_OVF, MBOX_STAT_UNDF]

/-! Page kind HOST: R573. -/
def HOST_CFG_UDP_EN : Fld := ⟨0x040, 0, 1, .rwl, .zero, true, .one, .any⟩
def HOST_CFG_ALLOW_ANY : Fld := ⟨0x040, 1, 1, .rwl, .zero, true, .one, .any⟩
def HOST_CFG_RING_TGT : Fld := ⟨0x040, 8, 3, .rw, .zero, true, .one, .any⟩
def HOST_UDP_PORT : Fld := ⟨0x044, 0, 16, .rwl, (.k 49713), true, .one, .any⟩
def HOST_IP : Fld := ⟨0x048, 0, 32, .rwl, .zero, true, .one, .any⟩
def HOST_ALLOW : Fld := ⟨0x04C, 0, 32, .rwl, .zero, true, .one, .any⟩
def HOST_STAT_STATE : Fld := ⟨0x050, 0, 2, .ro, .zero, false, .one, .any⟩
def HOST_STAT_SRC : Fld := ⟨0x050, 8, 2, .ro, .zero, false, .one, .any⟩
def HOST_CNT_TRANS : Fld := ⟨0x054, 0, 16, .ro, .zero, false, .one, .any⟩
def HOST_CNT_BAD_CRC : Fld := ⟨0x054, 16, 16, .ro, .zero, false, .one, .any⟩
def HOST_CNT_PENDING : Fld := ⟨0x058, 0, 16, .ro, .zero, false, .one, .any⟩
def HOST_CNT_DROPS : Fld := ⟨0x058, 16, 16, .ro, .zero, false, .one, .any⟩

/-- Every field of kind HOST. -/
def fieldsHOST : List Fld :=
  [HOST_CFG_UDP_EN, HOST_CFG_ALLOW_ANY, HOST_CFG_RING_TGT, HOST_UDP_PORT, 
   HOST_IP, HOST_ALLOW, HOST_STAT_STATE, HOST_STAT_SRC, HOST_CNT_TRANS, HOST_CNT_BAD_CRC, 
   HOST_CNT_PENDING, HOST_CNT_DROPS]

/-! Page kind MON: R579. -/
def MON_BAUD : Fld := ⟨0x040, 0, 22, .rw, (.k 115200), false, .one, (.oneOf [(9600, 3000000)])⟩
def MON_STAT_OPEN : Fld := ⟨0x044, 0, 1, .ro, .zero, false, .one, .any⟩
def MON_STAT_BUSY : Fld := ⟨0x044, 1, 1, .ro, .zero, false, .one, .any⟩
def MON_STAT_DEBUG : Fld := ⟨0x044, 16, 12, .ro, .zero, false, .one, .any⟩
def MON_CNT_CMDS : Fld := ⟨0x048, 0, 16, .ro, .zero, false, .one, .any⟩
def MON_CNT_ERRS : Fld := ⟨0x048, 16, 16, .ro, .zero, false, .one, .any⟩

/-- Every field of kind MON. -/
def fieldsMON : List Fld :=
  [MON_BAUD, MON_STAT_OPEN, MON_STAT_BUSY, MON_STAT_DEBUG, MON_CNT_CMDS, MON_CNT_ERRS]

/-! Page kind ECC: R585. -/
def ECC_CNT_CORR : Fld := ⟨0x000, 0, 16, .ro, .zero, false, ⟨0x40, 6, 0x4, 1, 0x0⟩, .any⟩
def ECC_CNT_UE : Fld := ⟨0x000, 16, 16, .ro, .zero, false, ⟨0x40, 6, 0x4, 1, 0x0⟩, .any⟩
def ECC_LAST_UE_MEM : Fld := ⟨0x060, 0, 3, .ro, .zero, false, .one, .any⟩
def ECC_LAST_UE_CORE : Fld := ⟨0x060, 4, 4, .ro, .zero, false, .one, .any⟩
def ECC_LAST_UE_BY_SCRUB : Fld := ⟨0x060, 8, 1, .ro, .zero, false, .one, .any⟩
def ECC_LAST_UE_ADDR : Fld := ⟨0x064, 0, 32, .ro, .zero, false, .one, .any⟩
def ECC_FILL_ADDR : Fld := ⟨0x068, 0, 32, .rwl, .zero, false, .one, .any⟩
def ECC_FILL_MEM : Fld := ⟨0x06C, 0, 3, .rwl, .zero, false, .one, .any⟩
def ECC_ACT_FILL : Fld := ⟨0x070, 0, 1, .wo, .zero, false, .one, .any⟩
def ECC_PASSES_SRAM : Fld := ⟨0x074, 0, 16, .ro, .zero, false, .one, .any⟩
def ECC_PASSES_CNVM : Fld := ⟨0x074, 16, 16, .ro, .zero, false, .one, .any⟩

/-- Every field of kind ECC. -/
def fieldsECC : List Fld :=
  [ECC_CNT_CORR, ECC_CNT_UE, ECC_LAST_UE_MEM, ECC_LAST_UE_CORE, ECC_LAST_UE_BY_SCRUB, 
   ECC_LAST_UE_ADDR, ECC_FILL_ADDR, ECC_FILL_MEM, ECC_ACT_FILL, ECC_PASSES_SRAM, 
   ECC_PASSES_CNVM]

/-! Page kind WAKE: R108, R428. -/
def WAKE_SRC_EN : Fld := ⟨0x040, 1, 9, .rw, (.k 511), false, .one, .any⟩
def WAKE_CAUSE_SRC : Fld := ⟨0x044, 0, 4, .ro, .zero, false, .one, .any⟩
def WAKE_CAUSE_IDX : Fld := ⟨0x044, 4, 8, .ro, .zero, false, .one, .any⟩
def WAKE_CAUSE_CLR : Fld := ⟨0x044, 31, 1, .wo, .zero, false, .one, .any⟩
def WAKE_CAUSE_TS_LO : Fld := ⟨0x048, 0, 32, .ro, .zero, false, .one, .any⟩
def WAKE_CAUSE_TS_HI : Fld := ⟨0x04C, 0, 32, .ro, .zero, false, .one, .any⟩
def WAKE_PEND : Fld := ⟨0x050, 1, 9, .ro, .zero, false, .one, .any⟩
def WAKE_ACTION : Fld := ⟨0x054, 0, 12, .rw, (.k 1), false, .one, .any⟩
def WAKE_WAKE_OUT : Fld := ⟨0x058, 0, 1, .rw, .zero, false, .one, .any⟩
def WAKE_DEFER_ACTIVE : Fld := ⟨0x05C, 0, 1, .ro, .zero, false, .one, .any⟩
def WAKE_DEFER_PEND : Fld := ⟨0x05C, 1, 1, .ro, .zero, false, .one, .any⟩
def WAKE_DEFER_RELEASE : Fld := ⟨0x05C, 2, 1, .wo, .zero, false, .one, .any⟩
def WAKE_DEFER_SRC : Fld := ⟨0x05C, 4, 4, .ro, .zero, false, .one, .any⟩
def WAKE_DEFER_IDX : Fld := ⟨0x05C, 8, 8, .ro, .zero, false, .one, .any⟩
def WAKE_DEFER_CNT : Fld := ⟨0x05C, 16, 16, .ro, .zero, false, .one, .any⟩

/-- Every field of kind WAKE. -/
def fieldsWAKE : List Fld :=
  [WAKE_SRC_EN, WAKE_CAUSE_SRC, WAKE_CAUSE_IDX, WAKE_CAUSE_CLR, WAKE_CAUSE_TS_LO, 
   WAKE_CAUSE_TS_HI, WAKE_PEND, WAKE_ACTION, WAKE_WAKE_OUT, WAKE_DEFER_ACTIVE, 
   WAKE_DEFER_PEND, WAKE_DEFER_RELEASE, WAKE_DEFER_SRC, WAKE_DEFER_IDX, WAKE_DEFER_CNT]

/-! Page kind WDG: R110. -/
def WDG_CFG_TIMEOUT : Fld := ⟨0x040, 0, 10, .rwl, (.k 100), false, .one, (.oneOf [(1, 1000)])⟩
def WDG_CFG_WINDOW : Fld := ⟨0x040, 12, 2, .rwl, .zero, false, .one, .any⟩
def WDG_CFG_ESCALATE : Fld := ⟨0x040, 16, 3, .rwl, (.k 3), false, .one, .any⟩
def WDG_KICK : Fld := ⟨0x044, 0, 32, .wo, .zero, false, .one, .any⟩
def WDG_STAT_EXPIRIES : Fld := ⟨0x048, 0, 8, .ro, .zero, false, .one, .any⟩
def WDG_STAT_LAST : Fld := ⟨0x048, 8, 2, .ro, .zero, false, .one, .any⟩
def WDG_STAT_BAD_KICK : Fld := ⟨0x048, 10, 1, .w1c, .zero, false, .one, .any⟩

/-- Every field of kind WDG. -/
def fieldsWDG : List Fld :=
  [WDG_CFG_TIMEOUT, WDG_CFG_WINDOW, WDG_CFG_ESCALATE, WDG_KICK, WDG_STAT_EXPIRIES, 
   WDG_STAT_LAST, WDG_STAT_BAD_KICK]

/-! Page kind LOG: R588, R589. -/
def LOG_STAT_LOST : Fld := ⟨0x040, 0, 1, .w1c, (.k 1), false, .one, .any⟩
def LOG_STAT_DELTA_SAT : Fld := ⟨0x040, 1, 1, .w1c, .zero, false, .one, .any⟩
def LOG_DELTA_E : Fld := ⟨0x000, 0, 16, .rw, .peak, false, ⟨0x400, 741, 0x4, 1, 0x0⟩, .any⟩
def LOG_DELTA_O : Fld := ⟨0x000, 16, 16, .rw, .zero, false, ⟨0x400, 741, 0x4, 1, 0x0⟩, .any⟩

/-- Every field of kind LOG. -/
def fieldsLOG : List Fld :=
  [LOG_STAT_LOST, LOG_STAT_DELTA_SAT, LOG_DELTA_E, LOG_DELTA_O]

end Sys2Proof.Machine
end

