-- ==== Sys2Proof/Config.lean ====
section
/-! DEFINITION. What the spec leaves to the implementation or does not fix: opaque constants without a body, so that
no proof can lean on a value. -/

namespace Sys2Proof.Config

/-- A value the spec leaves open: number `n` of the values drawn by a run (log 3). -/
opaque freeNat : Nat → Nat

/-- Word `i` of the device's unique ID, held in fuses (R555, R559; log 11). -/
opaque uid : Nat → Nat

/-- Word `i` of the identity public key, held in fuses (R555, R559; log 11). -/
opaque idPub : Nat → Nat

/-- Whether an SLH-DSA-SHAKE-256s signature verifies: public key, context, message, signature, all as bytes. The spec leaves the
algorithm to FIPS 205 (R541, R554, R578; log 12). -/
opaque slhVerify : List Nat → List Nat → List Nat → List Nat → Bool

/-- Gain and offset that the factory's trim record gives power stage `u`, from the bytes of its pages; none when the record is
invalid. The spec does not state the record's layout (R165; log 16). -/
opaque factoryTrim : Nat → List Nat → Option (Nat × Nat)

/-- FRAMES of a core after a slide past one of its ends, from FRAMES before it: a FILL or SPILL in a delay slot can move FRAMES between
the issue of a CALL or RET and its transfer, and the spec states no value there (R480, log 76). -/
opaque framesPast : Nat → Nat

/-- Release temperature of the thermal latches in 1/16 °C: the typical threshold less the typical hysteresis (R135, log 7). -/
def releaseTemp : Int := 155 * 16

end Sys2Proof.Config
end

