-- ==== Sys2Proof/Machine/Types.lean ====
section
/-! DEFINITION. The hidden state of the KV1's blocks, unit by unit: what the rules give each block besides the fields of
its register page. Times are TB values in ns unless a field says otherwise (R18). -/

namespace Sys2Proof.Machine

/-- What an access is answered with: done, or one of the error responses of R59, R75, R76, R546 and R563. -/
inductive Answer where
  | none | ok | refused | unmapped | domainOff | timeout | misaligned | guarded | busy
  deriving DecidableEq, Repr

/-- The last answer of the register bus: its kind and the word read. -/
structure Resp where
  kind : Answer := .none
  data : Nat := 0
  deriving DecidableEq, Repr

/-- Actual state of a power domain (R90). -/
inductive Power where
  | on | retention | off
  deriving DecidableEq, Repr

/-- Where a domain stands in a transition (R96 to R98). -/
inductive Phase where
  | stable | queued | ramping | entering
  deriving DecidableEq, Repr

/-- A power domain (R90, R95 to R98): an order latched while in transition with the order `prior` to it, a wake latched during an entry
with its rank, the order an LF poll restores (R22), and the TB at which it last left on (R176, R181). -/
structure Dom where
  actual : Power := .on
  phase : Phase := .stable
  target : Power := .on
  reqTb : Nat := 0
  latched : Option Nat := none
  prior : Nat := 0
  wakeLatched : Bool := false
  wakeRank : Nat := 6
  restore : Option Nat := none
  since : Nat := 0
  deriving DecidableEq, Repr

/-- An entry of the PWR request queue (R91, R92). -/
structure PwrReq where
  master : Nat
  dom : Nat
  order : Nat
  deriving DecidableEq, Repr

/-- A stalled access (R75, R78): `write` is the word of a write; a window access names its satellite device; `retry` marks a core's
instruction that issues again when its freeze ends, and `io` an IN or OUT: its destination, its base register and what it adds to it.
A page of 0x100 stands for D-space, `off` then being the address; `nvm` marks a wait for the EEPROM macro (R514). -/
structure Stall where
  page : Nat := 0
  off : Nat := 0
  write : Option Nat := none
  since : Nat := 0
  window : Nat := 0
  retry : Bool := false
  io : Option (Nat × Nat × Option Nat) := none
  nvm : Bool := false
  deriving DecidableEq, Repr

/-- An entry of a page's write shadow (R70). -/
structure ShadowEntry where
  master : Nat
  off : Nat
  val : Nat
  deriving DecidableEq, Repr

/-- Supplies, RESET_N, limp-home and full reset (R36 to R55): `limpPin` the levels of the LIMPn inputs (R45, R47), `cold` until the domains have come on for the first time after a
power-up or full reset (R54, R595), `uv` below the undervoltage threshold, `rst` while RESET_N holds a full reset. -/
structure Supply where
  alive : Bool := true
  reversed : Bool := false
  inReset : Bool := false
  lowSince : Option Nat := none
  strapMaster : Bool := true
  limpRead : Bool := false
  limpMap : List Nat := [0, 0, 0, 0]
  limpSlot : Nat := 0
  limpPin : Nat := 0
  mapId : Nat := 0
  pon : Bool := true
  cold : Bool := true
  uv : Bool := false
  rst : Bool := false
  deriving DecidableEq, Repr

/-- Clock freeze and restart (R84 to R87): `restarting` while oscillator and PLL start, `cause` 1 crystal failure, 2 lock
loss, 3 write of REF_SEL, and the reference the PLL relocks on. -/
structure Clk where
  frozen : Bool := false
  cause : Nat := 0
  since : Nat := 0
  newRef : Nat := 0
  restarting : Bool := true
  deriving DecidableEq, Repr

/-- TB beyond its registers (R114 to R122): the increment in force, a hold before a handover with its CCLK count, the
trim run, and the sub-microsecond part of UNCERT in 1/64 ns. -/
structure TbHid where
  incInt : Nat := 5
  incFrac : Nat := 0
  hold : Bool := false
  holdCnt : Nat := 0
  back : Bool := false
  trimFrom : Option Nat := none
  unc : Nat := 0
  deriving DecidableEq, Repr

/-- A compare channel: the compare value in force, whether the next fire is late and whether CMP_LO is staged (R126 to R128). -/
structure CmpHid where
  val : Nat := 0
  late : Bool := false
  staged : Bool := false
  deriving DecidableEq, Repr

/-- A cascade counter: a write and a carry waiting for the next counter clock (R132, R134). -/
structure CascHid where
  write : Option Nat := none
  carry : Bool := false
  deriving DecidableEq, Repr

/-- Requester of the geyser gate (R195): a switch channel 0 to 85 (HS, LS, FIO), a bridge 0 to 23 (HB, GD), a valve, a
valve's priming, the charge pump, the LED matrix, an LF driver start, a power domain, a simmer slot's preparation or
a satellite device's forwarded request. -/
inductive Req where
  | chan (c : Nat) | bridge (b : Nat) | valve (v : Nat) | pump (g : Nat) | led | lf
  | dom (n : Nat) | prep (slot i : Nat) | remote (dev : Nat) (page chan : Nat)
  deriving DecidableEq, Repr

/-- Kinds of LAST_REFUSED.KIND (R206). -/
inductive ReqKind where
  | start | retry | limp | commit
  deriving DecidableEq, Repr

/-- A waiting request (R195, R198, R201): its rank of R20 (0 limp-home and P0, 1 promoted domains, 2 reserved commits, 3 to 5 P1
to P3, 6 domains), predicted peak in mA, halving period in slots and the simmer slot of a commit. -/
structure GateEntry where
  req : Req
  kind : ReqKind := .start
  rank : Nat := 5
  x : Nat := 0
  h : Nat := 1
  t : Nat := 0
  slot : Nat := 0
  prio : Nat := 3
  deriving DecidableEq, Repr

/-- The contribution of an admitted start (R196). -/
structure Contrib where
  x : Nat
  h : Nat
  slot : Nat
  deriving DecidableEq, Repr

/-- A standing reservation (R204): simmer slot, amount withheld and commits not yet decided with their X. -/
structure Reserve where
  slot : Nat
  amount : Nat
  left : List (Req × Nat)
  deriving DecidableEq, Repr

/-- The geyser gate (R194 to R204): `begun` once a slot has opened since PD_OUT's last return from off and `seen` once it has taken VBAT,
before which SLOT and QUEUE show their reset values (R206). -/
structure Gate where
  queue : List GateEntry := []
  contribs : List Contrib := []
  reserves : List Reserve := []
  slot : Nat := 0
  begun : Bool := false
  seen : Bool := false
  pumpOn : Bool := false
  pumpAsked : Bool := false
  deriving DecidableEq, Repr

/-- One action of the caldera (R190), undone in reverse (R192). -/
inductive Derate where
  | cap (cls old : Nat)
  | shed (u : Req)
  deriving DecidableEq, Repr

/-- The caldera beyond its registers (R174, R181, R182, R187, R188, R190, R192, R197): actions taken, the start of the present time
under budget, the TB of the last undo, when AMB_SET or PD_OUT's power-up last restarted its 10 s, until when every window counts
as full, clamp energy of the present millisecond, whether the first estimate is due, PD_OUT's absence, the TB of the last
estimate and whether the clocks have stood still since (R85), supply current of inputs and lighting, other devices' I_TOTAL and whether I_TOTAL exceeds its limit. -/
structure Cald where
  actions : List Derate := []
  underSince : Option Nat := none
  lastUndo : Nat := 0
  ambTb : Nat := 0
  weFullUntil : Nat := 0
  clampMs : Nat := 0
  firstEst : Bool := true
  gap : Option Nat := none
  estTb : Nat := 0
  froze : Bool := false
  auxI : Nat := 0
  ringI : Nat := 0
  overI : Bool := false
  deriving DecidableEq, Repr

/-- Why a channel turns off, hence where TURN_OFF ends (R154). -/
inductive OffWhy where
  | command | trip | thermal | fuse | shed
  deriving DecidableEq, Repr

/-- A protected channel beyond its registers (R140 to R165, R173, R178 to R186): `limpOn` while AON-P holds it on with PD_OUT away,
`revOn` while a reversed battery turns it fully on (R38), `limpTrip` once it tripped so (R49), `pendTrip` and
`pendOff` after a fast trip or the end of a turn-off while its domain is in retention, `droopLow` while VBAT is below INRUSH_DROOP (R142),
`specMs` once preheat has flowed in the present millisecond (R164), `olSet` once the present run has set OL_ON (R163), and `gapI` the reading
that raises the wire at the first estimate after PD_OUT's return (R181). -/
structure Chan where
  winUsed : Nat := 0
  winFrom : Nat := 0
  droopLow : Bool := false
  pauseFrom : Option Nat := none
  paused : Nat := 0
  capped : Bool := false
  limFrom : Option Nat := none
  filt : Nat := 0
  clearFrom : Option Nat := none
  limited : Bool := false
  why : OffWhy := .command
  retryEnd : Option Nat := none
  retryLeft : Option Nat := none
  uncounted : Bool := false
  decd : Bool := false
  limpOn : Bool := false
  revOn : Bool := false
  lockRetry : Bool := false
  lockFuse : Bool := false
  lockClamp : Bool := false
  latch : Bool := false
  lastOc : Option Nat := none
  limpTrip : Bool := false
  pendTrip : Bool := false
  pendOff : Bool := false
  onFrom : Nat := 0
  check : Nat := 0
  checkTb : Nat := 0
  runTb : Nat := 0
  sampleA : Bool := false
  prevA : Bool := false
  prevB : Bool := false
  prevOl : Bool := false
  diagNow : Bool := false
  lowCnt : Nat := 0
  olSet : Bool := false
  lastI : Nat := 0
  lastTb : Nat := 0
  pulse : Nat := 0
  bins : List (Nat × Nat) := []
  weLast : Nat := 0
  weNow : Nat := 0
  wire : Int := 45 * 1048576
  wasOn : Bool := false
  duty : Nat := 4095
  freq : Nat := 200
  phase : Nat := 0
  level : Bool := false
  preheat : Bool := false
  specMs : Bool := false
  offFrom : Nat := 0
  lastC : Nat := 0
  preQ : Nat := 0
  fillFr : Nat := 0
  steady : Bool := false
  gapI : Option Nat := none
  deriving DecidableEq, Repr

/-- A field pin beyond its registers (R270, R272, R276, R280, R328): `runFrom` the TB of the first sample since PD_FLD's power-up, `wakeUp`
and `wakeDown` that of the last wake with either level. -/
structure Fio where
  runFrom : Option Nat := none
  highFrom : Option Nat := none
  lowFrom : Option Nat := none
  held : Bool := false
  uvOff : Bool := false
  wakeUp : Option Nat := none
  wakeDown : Option Nat := none
  deriving DecidableEq, Repr

/-- The field-I/O keepalive timer (R278, R281). -/
structure Keep where
  deadline : Option Nat := none
  fed : Bool := false
  deriving DecidableEq, Repr

/-- A bridge beyond its registers (R209 to R222): `duty`, `freq` and `phase` of the present PWM period (R211), whether its last request was
refused (R219), a park edge that waits for its stop (R228), and the TB of the last pinch (R241). -/
structure Bridge where
  prior : Nat := 0
  next : Nat := 0
  timerEnd : Nat := 0
  stallFrom : Option Nat := none
  limFrom : Option Nat := none
  filt : Nat := 0
  clearFrom : Option Nat := none
  lockTrip : Bool := false
  lockVds : Bool := false
  lockCp : Bool := false
  lockClamp : Bool := false
  latch : Bool := false
  lastDrive : Nat := 0
  runFrom : Nat := 0
  lowCnt : Nat := 0
  olSet : Bool := false
  lastI : Nat := 0
  offset : Int := 0
  pairBad : Bool := false
  auto : Bool := false
  pulse : Nat := 0
  armed : Bool := false
  armSum : Int := 0
  armCnt : Nat := 0
  fillFrHs : Nat := 0
  fillFrLs : Nat := 0
  duty : Nat := 4095
  freq : Nat := 200
  phase : Nat := 0
  refused : Bool := false
  parkDue : Bool := false
  pinchTb : Option Nat := none
  deriving DecidableEq, Repr

/-- Steps of a pinch reversal (R236). -/
inductive RevStep where
  | none | brake | waiting | driving
  deriving DecidableEq, Repr

/-- The ripple and pinch engine of one bridge (R229 to R239): `lastCross` the TB of the last ripple counted, and the TB of the last stall with
NORM and POS ahead of it (R241). -/
structure Rpe where
  lastCross : Option Nat := none
  stallTb : Option Nat := none
  preNorm : Bool := false
  prePos : Int := 0
  rev : RevStep := .none
  revTb : Nat := 0
  revPos : Int := 0
  hist : List Nat := []
  hits : Nat := 0
  learn : Bool := false
  bins : List (Nat × Nat × Nat) := []
  lowFrom : Option Nat := none
  deriving DecidableEq, Repr

/-- A valve beyond its registers (R244 to R262): `coil` is t_c in 2^-20 °C, `target` the target of a ramp-down in 1/20 mA. -/
structure Valve where
  waitFrom : Nat := 0
  startTb : Nat := 0
  reached : Option Nat := none
  fromPrime : Bool := false
  duty : Nat := 0
  ditherJ : Nat := 0
  askTb : Nat := 0
  quiet : Nat := 0
  base : Nat := 0
  target : Nat := 0
  per : Nat := 1
  next : Nat := 0
  lockTrip : Bool := false
  lockDiag : Bool := false
  lockCoil : Bool := false
  lockBank : Bool := false
  lockClamp : Bool := false
  latch : Bool := false
  top : Nat := 0
  dip : Bool := false
  limFrom : Option Nat := none
  filt : Nat := 0
  clearFrom : Option Nat := none
  lastI : Nat := 0
  coil : Int := 55 * 1048576
  forcedOff : Bool := false
  pulse : Nat := 0
  flowing : Bool := false
  tj : Int := 0
  vbSum : Nat := 0
  vbCnt : Nat := 0
  preQ : Nat := 0
  fillFr : Nat := 0
  deriving DecidableEq, Repr

/-- Cyclic sensing (R291): the TB at which the present period began and the groups that have pulsed in it. -/
structure Sense where
  start : Nat := 0
  done : Nat := 0
  deriving DecidableEq, Repr

/-- A switch input beyond its registers (R287 to R293): start of the present run of samples, end of full wetting, count of
differing park samples, the TB of the last park event to either level, whether no active sample has been taken since PD_FLD's power-up,
and until when a sample counts as that first. -/
structure Swi where
  first : Bool := false
  runFrom : Nat := 0
  wetEnd : Option Nat := none
  parkCnt : Nat := 0
  parkUp : Option Nat := none
  parkDown : Option Nat := none
  firstUntil : Option Nat := none
  deriving DecidableEq, Repr

/-- An entry of the park event queue (R292). -/
structure ParkEvt where
  input : Nat
  level : Bool
  tb : Nat
  deriving DecidableEq, Repr

/-- The LED matrix beyond its registers (R300 to R303): a sync event has found PEND set, the matrix is shed, it restarts at the
next frame start, its next neighbour-test slot (0 none) and whether this frame has had one, the column latch, whether every line is off
for it until the next frame start, whether the pending swap has been postponed, the TB of the last frame start, and the TB of the last
sync event that was missed with CNT.MISSED before it. -/
structure Led where
  armed : Bool := false
  shed : Bool := false
  restart : Bool := false
  diag : Nat := 0
  tested : Bool := false
  hot : Bool := false
  dark : Bool := false
  postponed : Bool := false
  frameTb : Option Nat := none
  missTb : Option (Nat × Nat) := none
  deriving DecidableEq, Repr

/-- The daisy-chain port beyond its registers (R305 to R307): the bits of the transfer in progress and of the one before it,
the first sent being the most significant, their number, the start of the last transfer if there has been one, and a refresh that
waits. -/
structure Ldc where
  bits : Nat := 0
  prev : Nat := 0
  len : Nat := 0
  prevLen : Nat := 0
  start : Option Nat := none
  due : Bool := false
  deriving DecidableEq, Repr

/-- A preparation in force for one target of a slot (R313, R314, R324): `st` 0 waiting for its domain, 1 at the gate, 2 active.
`tgt` is the target code, the antenna mask of LF_SEARCH, the domain mask of DOMAIN_WAKE, or controller × 256 + buffer of
FRAME_STAGE; `q` is the output's preparation charge when this one became active. -/
structure Prep where
  slot : Nat
  idx : Nat
  kind : Nat
  tgt : Nat
  st : Nat := 0
  q : Nat := 0
  deriving DecidableEq, Repr

/-- A simmer slot beyond its registers (R321 to R338): full CTX_TS, TB of the confirmation, T_a, whether the commits have been
written and which wait, whether one was admitted, the return to IDLE, a latched match and devices that have not acknowledged; the charge
drawn by preparations that have ended, in 0.1 mA·ms, T_CONF before the last confirmation, and whether the deadline has been reached; and
of a ring master's slot, with bit d − 1 for device d, the remote parts it has armed, those it has started and those whose start it holds
(R336, R337). -/
structure SlotH where
  ts : Nat := 0
  confTb : Nat := 0
  boilAt : Nat := 0
  applied : Bool := false
  waits : List Req := []
  admitted : Bool := false
  idleTb : Option Nat := none
  latched : Option (Nat × Nat × Nat × Nat) := none
  unacked : Nat := 0
  drawn : Nat := 0
  confWas : Nat := 0
  expired : Bool := false
  parts : Nat := 0
  started : Nat := 0
  owed : Nat := 0
  deriving DecidableEq, Repr

/-- A domain that a slot's DOMAIN_WAKE powered up, with the ORDER before; dropped once another requester needs it (R334). -/
structure Woken where
  slot : Nat
  dom : Nat
  prior : Nat
  deriving DecidableEq, Repr

/-- A Ferlys group beyond its registers (R342 to R344): the running JUMP word, the tick of the last word, words that acted at that
tick, the tick and GSTAT flag (0 END, 1 BAD_OP, 2 BURST) of a stop to come, the tick of a stop that was asked for, the TB of the RUN write and of the fire waited for. -/
structure Fer where
  jump : Option Nat := none
  tick : Nat := 0
  burst : Nat := 0
  stop : Option (Nat × Nat) := none
  asked : Option Nat := none
  runTb : Nat := 0
  fired : Option Nat := none
  deriving DecidableEq, Repr

/-- A requested LF exchange (R444, R445): start purpose, a transponder exchange, antenna mask, whether CMD asked for it and which
slots did. -/
structure Xreq where
  start : Bool := false
  tp : Bool := false
  mask : Nat := 0
  cmd : Bool := false
  slots : List Nat := []
  deriving DecidableEq, Repr

/-- An exchange as it stood before CMD.ABORT ended it (R452). -/
structure ImmoUndo where
  tb : Nat := 0
  run : Option Xreq := none
  tp : Bool := false
  endTb : Nat := 0
  await : Option Nat := none
  regs : List Nat := []
  deriving DecidableEq, Repr

/-- A release as it stood before a repetition (R452): the TB of the repetition, SENT, SKIPPED, and TX_DONE of its buffer. -/
structure RelUndo where
  tb : Nat := 0
  sent : Nat := 0
  skipped : Nat := 0
  done : Bool := false
  deriving DecidableEq, Repr

/-- The immobiliser beyond its registers (R440 to R450): the exchange that runs and the one that waits, when it began or ended,
whether it is a transponder exchange, slots judged, when each clean slot closed, and the release engine's times. -/
structure Immo where
  run : Option Xreq := none
  pend : Option Xreq := none
  since : Nat := 0
  endTb : Nat := 0
  tp : Bool := false
  judged : Nat := 0
  closed : Nat := 0
  closeTb : List (Nat × Nat) := []
  grantTb : Option Nat := none
  relSent : Bool := false
  relTb : Nat := 0
  await : Option Nat := none
  undo : Option ImmoUndo := none
  relUndo : Option RelUndo := none
  deriving DecidableEq, Repr

/-- The LF drivers and the polling sequencer beyond their registers (R434, R435, R447, R448): a tuning requested or running, the thermal
latch and whether its sensor is still hot, antennas the present telegram has lost, when the next poll falls due, the poll in
progress and the TB from which it sends, and the TB from which standing time counts. -/
structure Lf where
  tune : Bool := false
  latch : Bool := false
  hot : Bool := false
  lost : Nat := 0
  pollNext : Option Nat := none
  polling : Bool := false
  pollFrom : Option Nat := none
  standTb : Nat := 0
  deriving DecidableEq, Repr

/-- A valve bank: the peak token's holder, limitation and latches (R243, R251, R253). -/
structure Bank where
  token : Option Nat := none
  limFrom : Option Nat := none
  filt : Nat := 0
  clearFrom : Option Nat := none
  latch : Bool := false
  tripped : Bool := false
  deriving DecidableEq, Repr

/-- A time-triggered schedule (R369 to R373): start of the cycle, whether it has not ended, the master's reference mark, the reference
before, the next trigger element, whether a reference message is to be sent, the slot of the open window and whether its frame has
started, receive slots filled in this cycle, message-status count, valid cycles in a row, whether this cycle missed something, whether no
reference has come since the fall to S2, the watchdog's deadline, and TUR in 2^-32. -/
structure CanTt where
  running : Bool := false
  stop : Bool := false
  start : Nat := 0
  cycle : Bool := false
  mark : Nat := 0
  prev : Option (Nat × Nat) := none
  next : Nat := 0
  refDue : Bool := false
  window : Option Nat := none
  began : Bool := false
  lost : Bool := false
  seen : Nat := 0
  msc : Nat := 0
  valid : Nat := 0
  bad : Bool := false
  awd : Option Nat := none
  tur : Nat := 4294967296
  deriving DecidableEq, Repr

/-- A frame that met a full receive queue (R362, R378): when, the queue, the frame with how it was filtered and its timestamp, and
whether the queue's loss bit stood before. -/
structure CanLoss where
  tb : Nat
  queue : Nat
  frame : CanFrame
  lone : Bool
  filter : Nat
  ts : Nat
  seen : Bool
  deriving DecidableEq, Repr

/-- A CAN controller beyond its registers (R364 to R368): the slot in transmission (32 the reference message), whether its frame
switches its bit rate, the frame itself and the first word of its element as read when it was offered, whether it is to leave TX_PEND
after its attempt, the error counters, the transmit timestamp queue of tags and times, a bus-off that EN restarted, and the requests,
the cancellations and the loss at a full queue of the present BCLK (R378). -/
structure CanHid where
  cur : Option Nat := none
  brs : Bool := false
  frame : Option CanFrame := none
  head : Nat := 0
  asked : Option (Nat × Nat) := none
  undone : Option (Nat × Nat) := none
  loss : Option CanLoss := none
  cancel : Bool := false
  te : Nat := 0
  re : Nat := 0
  tsq : List (Nat × Nat) := []
  recov : Bool := false
  tt : CanTt := {}
  deriving DecidableEq, Repr

/-- A CAN transceiver beyond its registers (R351, R413, R416): transmitter off after a TXD timeout or for heat, the decoder's arming,
the TB of the last bus activity it saw, and acceptance and TB of the wake whose false-wake window is open. -/
structure Xcvr where
  toOff : Bool := false
  thermOff : Bool := false
  armed : Bool := false
  heard : Nat := 0
  window : Option (Nat × Nat) := none
  deriving DecidableEq, Repr

/-- A bus of the NM keeper (R419 to R422): deadlines of the bus-awake timer, of WBS and of CYCLE, and the keeper event that runs:
table entry and start. -/
structure NmBus where
  timer : Nat := 0
  wbs : Nat := 0
  cycle : Nat := 0
  kev : Option (Nat × Nat) := none
  deriving DecidableEq, Repr

/-- What stood before an accepted COMMIT (R431): its TB and value, the fields it changed, which decoders were armed, and what AON-P watched. -/
structure NmCommit where
  tb : Nat := 0
  val : Nat := 0
  regs : List Nat := []
  armed : List Bool := []
  watch : Nat × Nat × Nat := (0, 0, 0)
  deriving DecidableEq, Repr

/-- What stood before an expiry of the ceiling (R431): its TB, EXPIRIES, IRQ_RAW and the count of events, and the buses that voted, each with
its STATE. -/
structure NmExpiry where
  tb : Nat := 0
  regs : List Nat := []
  votes : List (Nat × Nat) := []
  deriving DecidableEq, Repr

/-- The keeper and the commit point beyond their registers (R416, R417, R425, R429): what is left of the ceiling timer and since when
it counts, the end of a commit's transition with the transceivers it watches, the open LIN false-wake windows, a local wake event that PD_NET has still to see, and what stood before the last
COMMIT and the last expiry of the ceiling. -/
structure NmHid where
  ceilLeft : Nat := 0
  ceilFrom : Option Nat := none
  watchEnd : Nat := 0
  watchCan : Nat := 0
  watchLin : Nat := 0
  linWin : List (Nat × Nat) := []
  localDue : Bool := false
  commit : Option NmCommit := none
  expiry : Option NmExpiry := none
  deriving DecidableEq, Repr

/-- The wake controller beyond its registers: TB of the first deferred wake, ACTION domains to be requested one
BCLK later (R322), and whether HIRQ_N announces a ready host port (R109). -/
structure WakeH where
  deferTb : Nat := 0
  late : Nat := 0
  hcs : Bool := false
  deriving DecidableEq, Repr

/-- A LIN frame in progress (R384 to R389): its descriptor, identifier, EVENT target, whether it is the go-to-sleep command, and the data
that a published response sends. -/
structure LinFrame where
  desc : Option Nat := none
  id : Nat := 0
  event : Option (Nat × Nat) := none
  sleep : Bool := false
  lo : Nat := 0
  hi : Nat := 0
  deriving DecidableEq, Repr

/-- A LIN channel beyond its registers (R385 to R389): the next slot's start and entry, a RUN, STOP or SLEEP that waits for it, the
branch of a collision and the EVENT entry to return after, the frame in progress, a header or a go-to-sleep command that an overrun
delays, the TB of the last bus activity and whether it has been reported as ended, a wake pulse that waits and the TB from which one is
driven, the last master write to word 0 of a descriptor (TB, descriptor, value), and a transmitter off after a TXD timeout. -/
structure Lin where
  slotAt : Option Nat := none
  next : Nat := 0
  switch : Option Nat := none
  stop : Bool := false
  sleep : Bool := false
  collide : Option (Nat × Nat) := none
  branch : Option Nat := none
  cur : Option LinFrame := none
  header : Option Nat := none
  sleepDue : Bool := false
  active : Nat := 0
  idle : Bool := false
  pulse : Bool := false
  pulseTb : Option Nat := none
  wrote : Option (Nat × Nat × Nat) := none
  toOff : Bool := false
  deriving DecidableEq, Repr

/-- A MAC beyond its registers (R397): a KICK in force, a frame in transmission, and that frame as the MAC has read it. -/
structure Mac where
  kicked : Bool := false
  sending : Bool := false
  frame : List Byte := []
  deriving DecidableEq, Repr

/-- Network time as it stood before a sample (R412): the TB of the sample, the registers it may change, the slew, the tag of the refused
sample and the TB of the last applied one. -/
structure NtBefore where
  tb : Nat := 0
  regs : List Nat := []
  slew : Int := 0
  tag : Nat := 0
  last : Option Nat := none
  deriving DecidableEq, Repr

/-- Network time beyond its registers (R403 to R406): the slew left in 2^-32 ns, the tag of the refused sample, the TB of the last
applied sample, the TB from which SAMPLE_TO counts, the last second that has passed, an accepted STEP that waits for the next tick, and what
stood before the last sample. -/
structure Nt where
  slew : Int := 0
  tag : Nat := 0
  last : Option Nat := none
  sync : Nat := 0
  sec : Nat := 0
  step : Option Nat := none
  before : Option NtBefore := none
  deriving DecidableEq, Repr

/-- What the ring master knows of a satellite device (R460, R465, R468): the TB of its last status, its I_TOTAL in mA and its
domain power-ups in progress. -/
structure Sat where
  seen : Option Nat := none
  total : Nat := 0
  ups : Nat := 0
  deriving DecidableEq, Repr

/-- The Ashorn ring beyond its registers (R461 to R467): whether the bypass is closed, since when the ports stand aligned, the TB of the last
good synchronisation, how many interrupts this device has forwarded to the master and the page of the last one, how many wakes and wake
patterns it has sent, the step that the master owes, or that its frames tell of, and when it falls due, the forwarding queue of device and page, and the satellite
devices by address less 1. -/
structure Ring where
  bypass : Bool := true
  aligned : Option Nat := none
  sync : Option Nat := none
  irqs : Nat := 0
  irqPage : Nat := 0
  wakes : Nat := 0
  patterns : Nat := 0
  owed : Nat := 0
  owedAt : Nat := 0
  fwd : List (Nat × Nat) := []
  sats : Table Sat := []
  deriving DecidableEq, Repr

/-- Where a pending result lands (R476): a global, a physical windowed register or a control register. -/
inductive Dest where
  | glob (n : Nat)
  | win (p : Nat)
  | ctl (i : Nat)
  deriving DecidableEq, Repr

/-- A result that has been issued and not yet landed: instructions left until it is seen (R476, R477). -/
structure Landing where
  left : Nat
  dest : Dest
  val : Nat
  deriving DecidableEq, Repr

/-- A branch whose delay slot is next (R492, R493): its address, where control passes, and whether it calls or returns. -/
structure Slot where
  addr : Nat
  target : Nat
  call : Bool := false
  ret : Bool := false
  deriving DecidableEq, Repr

/-- The loop registers as they stood before results that have landed at this instruction, and the indices that landed (R506). -/
structure LoopOld where
  lstart : Table Nat := []
  lend : Table Nat := []
  lcount : Table Nat := []
  landed : List Nat := []
  deriving DecidableEq, Repr

/-- A Sirham core (R475 to R503): started, halted by HALT, held by the monitor with the steps it may still take, faulted; PC, globals,
the 248 physical windowed registers and the base of the current frame, the control registers of R482, pending results, a
branch in flight, the iterations left of a repetition, and the loop registers that the end test of the instruction at PC still sees. -/
structure Core where
  run : Bool := false
  halt : Bool := false
  held : Bool := false
  steps : Nat := 0
  faulted : Bool := false
  pc : Nat := 0
  glob : Table Nat := []
  win : Table Nat := []
  base : Nat := 0
  ie : Bool := false
  pie : Bool := false
  exl : Bool := false
  wt : Bool := false
  epc : Nat := 0
  ecause : Nat := 0
  eval : Nat := 0
  vbase : Nat := 0
  spillp : Nat := 0
  frames : Nat := 1
  wepc : Nat := 0
  lstart : Table Nat := []
  lend : Table Nat := []
  lcount : Table Nat := []
  rpt : Nat := 0
  ibank : Nat := 0
  pend : List Landing := []
  slot : Option Slot := none
  rep : Option Nat := none
  loopOld : Option LoopOld := none
  deriving DecidableEq, Repr

/-- A command of the record engine as accepted (R530): block, OP, requesting master, arguments, payload and TB. -/
structure RecCmd where
  k : Nat
  op : Nat
  m : Nat
  a : Nat
  b : Nat
  len : Nat
  raise : Nat
  data : List Byte
  tb : Nat
  deriving DecidableEq, Repr

/-- An operation of the EEPROM macro (R510 to R534): a direct write, a write of PROT, of TRIES or of a password, a command of
the record engine, the refresh of a weak word, the step of the skim position counter, the replay of the journal, and what remains of
another operation's page write after a full reset. -/
inductive NvOp where
  | direct (page off : Nat) (data : List Byte)
  | prot (v : Nat)
  | tries (part : Nat)
  | pass (part kind val : Nat)
  | cmd (r : RecCmd)
  | refresh (page word val : Nat)
  | skimInc
  | replay (page word val : Nat)
  | tail (page off : Nat) (data : List Byte)
  deriving DecidableEq, Repr

/-- A page write: its bytes go to OFFSET and on, modulo 64 within the page (R511). -/
structure NvWrite where
  page : Nat
  off : Nat
  data : List Byte
  deriving DecidableEq, Repr

/-- Passwords of P6 or P7 in their hidden rows, tries, lockouts and the end of a lockout (R518, R519). -/
structure PwPart where
  rd : Nat := 0
  wr : Nat := 0
  tries : Nat := 0
  lockouts : Nat := 0
  lockEnd : Option Nat := none
  deriving DecidableEq, Repr

/-- The EEPROM macro beyond its registers (R510 to R534): queued operations, the head's stage, page write and result, those of the
operation that a journal replay has gone ahead of, since when a write waits for VBAT, the password registers, PROT, the openings (partition, kind, master), and the time to the next skim. -/
structure Nvm where
  queue : List NvOp := []
  stage : Nat := 0
  run : Option NvWrite := none
  start : Nat := 0
  result : Option Nat := none
  cutOff : Option (Nat × Option Nat) := none
  waitFrom : Option Nat := none
  pwLo : Nat := 0
  pwHi : Nat := 0
  bp : Nat := 0
  p6 : PwPart := {}
  p7 : PwPart := {}
  opens : List (Nat × Nat × Nat) := []
  skimLeft : Nat := 1265625000000
  skimFrom : Option Nat := none
  deriving DecidableEq, Repr

/-- A block buffer of the code-NVM controller (R546): the block, the quarters received, and whether it has passed its check and is
being programmed. -/
structure BlkBuf where
  blk : Nat
  quarters : Table (List Byte) := []
  full : Bool := false
  deriving DecidableEq, Repr

/-- Boot, update and changeover beyond the CNVM registers (R542 to R551): a start of the HK that waits for the ROM, the slot whose image
the cores run and whether it is on trial, cores to be reloaded, the received-block map, the block buffers, the TB of a hold
and of a health window, the pages held, the digest of the active manifest at the last start of the HK, what the Keccak engine has been
asked for (1 the digests of an update, 2 a report), oldest first, and the slot and TB of the last write of a status block. -/
structure Boot where
  due : Bool := true
  active : Option Nat := none
  trying : Bool := false
  start : List Nat := []
  got : List Nat := []
  bufs : List BlkBuf := []
  holdFrom : Nat := 0
  healthFrom : Nat := 0
  held : List Nat := []
  measured : List Nat := []
  keccak : List Nat := []
  wrote : Option (Nat × Nat) := none
  deriving DecidableEq, Repr

/-- The one-time-programmable rows (R545, R554): lifecycle state, state of each root-key slot (0 empty, 1 active, 2 revoked) and the keys. -/
structure Fuses where
  lc : Nat := 0
  root : List Nat := [0, 0, 0, 0]
  keys : Table (List Nat) := []
  deriving DecidableEq, Repr

/-- The attestation under way (R556): its buffer and the TB of GO. -/
structure Att where
  buf : Nat := 0
  tb : Nat := 0
  deriving DecidableEq, Repr

/-- A transaction of the host port, or an access command of the monitor (R560, R575): source (0 SPI, 1 UDP, 2 ring, 3 the monitor), the
fields of its header (SPACE 3 + c and 15 + c name the I-RAM and the D-RAM of core c to the monitor), the words of a write, the
answers that satellite windows will give, words completed and read, the address, port, MAC and CRC of a UDP request, whether
its reserved bits are set, whether the CRC of a block load has matched, and since when it waits for the ring. -/
structure HostReq where
  src : Nat := 0
  op : Nat := 0
  tag : Nat := 0
  count : Nat := 0
  space : Nat := 0
  addr : Nat := 0
  words : List Nat := []
  wins : List (Nat × Nat) := []
  done : Nat := 0
  out : List Nat := []
  ip : Nat := 0
  port : Nat := 0
  mac : Nat := 0
  crc : Nat := 0
  bad : Bool := false
  crcOk : Bool := true
  since : Nat := 0
  deriving DecidableEq, Repr

/-- The host port beyond its registers (R565 to R572): the transaction that executes, UDP and ring requests that wait, the response of the
next SPI frame (none: that of a NOP with TAG 0), what HSDO carried in the last frame, the last UDP source, TAG, CRC and
response, the last datagram sent (MAC, address, port and words), and the last response to the ring. -/
structure HostPort where
  run : Option HostReq := none
  queue : List HostReq := []
  resp : Option (List Nat) := none
  hsdo : List Nat := []
  last : Option (Nat × Nat × Nat × Nat × List Nat) := none
  sent : Option (Nat × Nat × Nat × List Nat) := none
  ringResp : List Nat := []
  deriving DecidableEq, Repr

/-- The monitor beyond its registers (R575 to R578): the access command that executes, a challenge that waits for its answer, what the
last command printed and how it ended: 0 OK, 1 to 6 a name of R562, 7 SYNTAX, 8 CLOSED; and the core whose PC S prints. -/
structure Mon where
  run : Option HostReq := none
  chal : Option (List Nat) := none
  out : List Nat := []
  err : Nat := 0
  stepOf : Option Nat := none
  deriving DecidableEq, Repr

end Sys2Proof.Machine
end

