-- ==== Sys2Proof/Machine/State.lean ====
section
/-! DEFINITION. The state of the KV1 as plain data: the fields of every register page in one sparse store, the hidden state
of every block, the memories, and the queue of waiting commands. -/

namespace Sys2Proof.Machine

/-- Why the model stops with a fault. No meaning raises one: no rule of the spec stops the KV1 as a whole (log 4). -/
inductive Fault where
  /-- Raised by no command; kept so that the interface has a fault to name. Safe. -/
  | none
  deriving DecidableEq, Repr

/-- Why the model refuses a command. -/
inductive Refusal where
  /-- Raised by a dispatch arm whose command has no meaning yet. Safe: nothing can be proved of a run past it. -/
  | notModelled (mnemonic : String)
  deriving DecidableEq, Repr

/-- The KV1. -/
structure State where
  /-- Fields of every register page by bit address; an unlisted field holds its reset value (R6, R57, R60). -/
  reg : Table Nat := []
  /-- The write shadow of each held page (R70). -/
  shadow : Table (List ShadowEntry) := []
  /-- Answer of the last register or memory access (R59, R75, R563); the model's own. -/
  resp : Resp := {}
  /-- Number of free values drawn so far; the model's own (log 3). -/
  free : Nat := 0
  /-- The time base in ns and its hidden fraction (R114). -/
  tb : Nat := 0
  tbFrac : Nat := 0
  tbHid : TbHid := {}
  sup : Supply := {}
  clk : Clk := {}
  cmp : Table CmpHid := []
  casc : Table CascHid := []
  cascPhase : Nat := 0
  dom : Table Dom := []
  reqs : List PwrReq := []
  stall : Table Stall := []
  rind : List Host.Cell := []
  wdgAlt : Bool := false
  wdgReset : Bool := false
  /-- The watchdog's count: TB at which it last started, since when it pauses, and the TIMEOUT in ms it started at (R111). -/
  wdgFrom : Nat := 0
  wdgPause : Option Nat := none
  wdgMs : Nat := 100
  gate : Gate := {}
  cald : Cald := {}
  chan : Table Chan := []
  fio : Table Fio := []
  keep : Keep := {}
  bridge : Table Bridge := []
  rpe : Table Rpe := []
  valve : Table Valve := []
  bank : Table Bank := []
  swi : Table Swi := []
  /-- The park event queue, oldest first (R292), and sense supplies whose limit was reached in park (R310). -/
  parkQ : List ParkEvt := []
  ssupOc : Nat := 0
  sense : Sense := {}
  led : Led := {}
  ldc : Ldc := {}
  /-- The daisy-chain RAM: halfword 1,536 × buffer + index (R308). -/
  ldcRam : Table Nat := []
  preps : List Prep := []
  slots : Table SlotH := []
  woken : List Woken := []
  fer : Table Fer := []
  immo : Immo := {}
  lf : Lf := {}
  can : Table CanHid := []
  xcvr : Table Xcvr := []
  vcc5Low : Bool := false
  /-- The CAN message RAM by word address (R354). -/
  msgRam : Table Nat := []
  nmBus : Table NmBus := []
  nm : NmHid := {}
  wake : WakeH := {}
  lin : Table Lin := []
  mac : Table Mac := []
  nt : Nt := {}
  ring : Ring := {}
  core : Table Core := []
  /-- The local memories of each core; an unlisted byte reads 0 (log 8). Bank 1 of the HK's I-RAM lies at 0x1_0000. -/
  dram : Table (List Host.Cell) := []
  iram : Table (List Host.Cell) := []
  /-- Soft interrupt bits by core, lines 0 to 63 (R502). -/
  soft : Table Nat := []
  /-- Words held by each mailbox, oldest first (R504). -/
  mbox : Table (List Nat) := []
  /-- Uncorrectable codewords: memory code, core and address of R585. -/
  eccBad : List (Nat × Nat × Nat) := []
  /-- Whole minutes of TB that the sinter log has counted (R587). -/
  logMin : Nat := 0
  nvm : Nvm := {}
  /-- The data EEPROM; an unlisted byte reads 0xFF, the erased state (R508). -/
  eeprom : List Host.Cell := []
  /-- Words that a torn write left without matching check bits, by word index: whether uncorrectable, and what a read returns (R516). -/
  torn : Table (Bool × Nat) := []
  boot : Boot := {}
  fuse : Fuses := {}
  att : Att := {}
  host : HostPort := {}
  mon : Mon := {}
  /-- The code NVM; an unlisted byte reads 0xFF, the erased state. -/
  cnvm : List Host.Cell := []
  /-- Shared SRAM by offset from 0x1000_0000 (R58); an unlisted byte reads 0 (log 8). -/
  sram : List Host.Cell := []
  /-- The commands that wait, first in, first out. -/
  pending : List Instr := []
  deriving DecidableEq, Repr

/-- The KV1 right after power-up, time 0 of R54: every field at its reset value, TB at 0 on LFCLK, which STAT.SRC shows (R114; log 5). -/
def State.reset : State := { reg := [((TB_STAT_SRC.loc 5).key, 1)] }

end Sys2Proof.Machine
end

