-- ==== Sys2Proof/Machine/Ops.lean ====
section
/-! DEFINITION. Operations on the sparse tables, the register store, the hidden state and the byte memories. -/

namespace Sys2Proof.Machine

/-- The entry of key `k`, or the default `d`. -/
def tget {α : Type} (t : Table α) (k : Nat) (d : α) : α :=
  match t with
  | [] => d
  | e :: r => if e.1 = k then e.2 else tget r k d

/-- The table without key `k`. -/
def tdel {α : Type} (t : Table α) (k : Nat) : Table α :=
  match t with
  | [] => []
  | e :: r => if e.1 = k then tdel r k else e :: tdel r k

/-- The table with key `k`, absent before, at its place in rising order. -/
def tins {α : Type} (t : Table α) (k : Nat) (v : α) : Table α :=
  match t with
  | [] => [(k, v)]
  | e :: r => if k < e.1 then (k, v) :: e :: r else e :: tins r k v

/-- The table with key `k` set to `v`; nothing is listed that equals the default. -/
def tput {α : Type} [DecidableEq α] (t : Table α) (k : Nat) (d v : α) : Table α :=
  if v = d then tdel t k else tins (tdel t k) k v

/-- Rising keys. -/
def tsorted {α : Type} (t : Table α) : Bool :=
  match t with
  | [] => true
  | [_] => true
  | a :: b :: r => a.1 < b.1 && tsorted (b :: r)

/-- Read a register field. -/
def State.rd (s : State) (l : Loc) : Nat := tget s.reg l.key l.rst

/-- Write a register field, truncated to its width. -/
def State.wr (s : State) (l : Loc) (v : Nat) : State := { s with reg := tput s.reg l.key l.rst (v % 2 ^ l.w) }

/-- Read field `f` of page `p`, block instance `i`, element `j`. -/
def State.get (s : State) (f : Fld) (p : Nat) (i j : Nat := 0) : Nat := s.rd (f.loc p i j)

/-- Write field `f` of page `p`. -/
def State.set (s : State) (f : Fld) (p v : Nat) (i j : Nat := 0) : State := s.wr (f.loc p i j) v

/-- Read a one-bit field. -/
def State.flag (s : State) (f : Fld) (p : Nat) (i j : Nat := 0) : Bool := s.get f p i j != 0

/-- Write a one-bit field. -/
def State.put (s : State) (f : Fld) (p : Nat) (b : Bool) (i j : Nat := 0) : State := s.set f p (b2n b) i j

/-- A field that no register holds: reads 0, ignores writes. -/
def noLoc : Loc := ⟨2 ^ 40, 0, 0⟩

/-- The page a register-store key belongs to. -/
def keyPage (k : Nat) : Nat := k / 131072

/-- The offset within its page of a register-store key. -/
def keyOff (k : Nat) : Nat := k / 32 % 4096

/-- The bit within its word of a register-store key. -/
def keyBit (k : Nat) : Nat := k % 32

/-- Drop every stored field that `p` selects: it reads as its reset value again. -/
def State.clearRegs (s : State) (p : Nat → Bool) : State := { s with reg := s.reg.filter fun e => !p e.1 }

/-- A value the spec leaves open, below `n`; each draw is a new one (log 3). -/
def State.fresh (s : State) (n : Nat) : Nat × State := (Config.freeNat s.free % n, { s with free := s.free + 1 })

/-- The byte at address `a` of a memory whose unlisted bytes read `d`. -/
def mget (m : List Host.Cell) (d : Byte) (a : Nat) : Byte := tget m a d

/-- The memory with byte `a` set. -/
def mput (m : List Host.Cell) (d : Byte) (a : Nat) (b : Byte) : List Host.Cell := tput m a d b

/-- The `n` bytes from `a` upwards as a number, least significant byte first. -/
def mgetN (m : List Host.Cell) (d : Byte) (a n : Nat) : Nat :=
  match n with
  | 0 => 0
  | k + 1 => (mget m d a).toNat + 256 * mgetN m d (a + 1) k

/-- The memory with the `n` low bytes of `v` stored from `a` upwards, least significant byte first. -/
def mputN (m : List Host.Cell) (d : Byte) (a n v : Nat) : List Host.Cell :=
  match n with
  | 0 => m
  | k + 1 => mputN (mput m d a (BitVec.ofNat 8 v)) d (a + 1) k (v / 256)

/-- The `n` bytes from `a` upwards. -/
def mgetBytes (m : List Host.Cell) (d : Byte) (a n : Nat) : List Byte :=
  match n with
  | 0 => []
  | k + 1 => mget m d a :: mgetBytes m d (a + 1) k

/-- The memory with the bytes `bs` stored from `a` upwards. -/
def mputBytes (m : List Host.Cell) (d : Byte) (a : Nat) (bs : List Byte) : List Host.Cell :=
  match bs with
  | [] => m
  | b :: r => mputBytes (mput m d a b) d (a + 1) r

/-- A memory is in its canonical form: addresses strictly rising, nothing listed that reads as the unlisted byte `d`. -/
def Memory.wf (d : Byte) (m : List Host.Cell) : Bool := tsorted m && m.all fun e => e.2 != d

/-- Run `f` over a list of indices, in order. -/
def State.each (s : State) (l : List Nat) (f : State → Nat → State) : State := l.foldl f s

/-- Answer an access. -/
def State.answer (s : State) (k : Answer) (v : Nat := 0) : State := { s with resp := ⟨k, v⟩ }

/-- The hidden state of a domain. -/
def State.getDom (s : State) (n : Nat) : Dom := tget s.dom n {}
/-- Replace the hidden state of a domain. -/
def State.setDom (s : State) (n : Nat) (d : Dom) : State := { s with dom := tput s.dom n {} d }
/-- The hidden state of a channel. -/
def State.ch (s : State) (c : Nat) : Chan := tget s.chan c {}
/-- Replace the hidden state of a channel. -/
def State.setCh (s : State) (c : Nat) (x : Chan) : State := { s with chan := tput s.chan c {} x }
/-- Change the hidden state of a channel. -/
def State.upCh (s : State) (c : Nat) (f : Chan → Chan) : State := s.setCh c (f (s.ch c))
/-- The hidden state of a field pin. -/
def State.pin (s : State) (c : Nat) : Fio := tget s.fio c {}
/-- Change the hidden state of a field pin. -/
def State.upPin (s : State) (c : Nat) (f : Fio → Fio) : State := { s with fio := tput s.fio c {} (f (s.pin c)) }
/-- The hidden state of a bridge. -/
def State.br (s : State) (b : Nat) : Bridge := tget s.bridge b {}
/-- Change the hidden state of a bridge. -/
def State.upBr (s : State) (b : Nat) (f : Bridge → Bridge) : State := { s with bridge := tput s.bridge b {} (f (s.br b)) }
/-- The hidden state of a ripple engine. -/
def State.eng (s : State) (g : Nat) : Rpe := tget s.rpe g {}
/-- Change the hidden state of a ripple engine. -/
def State.upEng (s : State) (g : Nat) (f : Rpe → Rpe) : State := { s with rpe := tput s.rpe g {} (f (s.eng g)) }
/-- The hidden state of a valve. -/
def State.vlv (s : State) (n : Nat) : Valve := tget s.valve n {}
/-- Change the hidden state of a valve. -/
def State.upVlv (s : State) (n : Nat) (f : Valve → Valve) : State := { s with valve := tput s.valve n {} (f (s.vlv n)) }
/-- The hidden state of a valve bank. -/
def State.bk (s : State) (k : Nat) : Bank := tget s.bank k {}
/-- Change the hidden state of a valve bank. -/
def State.upBk (s : State) (k : Nat) (f : Bank → Bank) : State := { s with bank := tput s.bank k {} (f (s.bk k)) }
/-- The hidden state of a switch input. -/
def State.sw (s : State) (n : Nat) : Swi := tget s.swi n {}
/-- Change the hidden state of a switch input. -/
def State.upSw (s : State) (n : Nat) (f : Swi → Swi) : State := { s with swi := tput s.swi n {} (f (s.sw n)) }
/-- The hidden state of a simmer slot. -/
def State.slotH (s : State) (n : Nat) : SlotH := tget s.slots n {}
/-- Change the hidden state of a simmer slot. -/
def State.upSlot (s : State) (n : Nat) (f : SlotH → SlotH) : State := { s with slots := tput s.slots n {} (f (s.slotH n)) }
/-- The hidden state of a Ferlys group. -/
def State.ferH (s : State) (g : Nat) : Fer := tget s.fer g {}
/-- Change the hidden state of a Ferlys group. -/
def State.upFer (s : State) (g : Nat) (f : Fer → Fer) : State := { s with fer := tput s.fer g {} (f (s.ferH g)) }
/-- The hidden state of a compare channel. -/
def State.cmpH (s : State) (g : Nat) : CmpHid := tget s.cmp g {}
/-- Replace the hidden state of a compare channel. -/
def State.setCmp (s : State) (g : Nat) (x : CmpHid) : State := { s with cmp := tput s.cmp g {} x }
/-- The hidden state of a cascade counter. -/
def State.cascH (s : State) (k : Nat) : CascHid := tget s.casc k {}
/-- Replace the hidden state of a cascade counter. -/
def State.setCasc (s : State) (k : Nat) (x : CascHid) : State := { s with casc := tput s.casc k {} x }

/-- The hidden state of a CAN controller. -/
def State.canH (s : State) (c : Nat) : CanHid := tget s.can c {}
/-- Change the hidden state of a CAN controller. -/
def State.upCan (s : State) (c : Nat) (f : CanHid → CanHid) : State := { s with can := tput s.can c {} (f (s.canH c)) }
/-- Change the hidden state of a controller's schedule. -/
def State.upTt (s : State) (c : Nat) (f : CanTt → CanTt) : State := s.upCan c fun x => { x with tt := f x.tt }
/-- The hidden state of a CAN transceiver. -/
def State.xcv (s : State) (t : Nat) : Xcvr := tget s.xcvr t {}
/-- Change the hidden state of a CAN transceiver. -/
def State.upXcv (s : State) (t : Nat) (f : Xcvr → Xcvr) : State := { s with xcvr := tput s.xcvr t {} (f (s.xcv t)) }

/-- The hidden state of a bus of the NM keeper. -/
def State.bus (s : State) (b : Nat) : NmBus := tget s.nmBus b {}
/-- Change the hidden state of a bus of the NM keeper. -/
def State.upBus (s : State) (b : Nat) (f : NmBus → NmBus) : State := { s with nmBus := tput s.nmBus b {} (f (s.bus b)) }

/-- The hidden state of a LIN channel. -/
def State.linH (s : State) (l : Nat) : Lin := tget s.lin l {}
/-- Change the hidden state of a LIN channel. -/
def State.upLin (s : State) (l : Nat) (f : Lin → Lin) : State := { s with lin := tput s.lin l {} (f (s.linH l)) }
/-- The hidden state of a MAC. -/
def State.macH (s : State) (k : Nat) : Mac := tget s.mac k {}
/-- Change the hidden state of a MAC. -/
def State.upMac (s : State) (k : Nat) (f : Mac → Mac) : State := { s with mac := tput s.mac k {} (f (s.macH k)) }

/-- What the ring master knows of satellite device `d` + 1. -/
def State.sat (s : State) (d : Nat) : Sat := tget s.ring.sats d {}
/-- Change what the ring master knows of a satellite device. -/
def State.upSat (s : State) (d : Nat) (f : Sat → Sat) : State :=
  { s with ring := { s.ring with sats := tput s.ring.sats d {} (f (s.sat d)) } }

/-- The bytes of `l` followed by free bytes up to `n` of them: what the spec does not say a unit writes (log 3). -/
def State.padBytes (s : State) (l : List Byte) (n : Nat) : List Byte × State :=
  (List.range (n - l.length)).foldl (fun r _ =>
    let x := r.2.fresh 256
    (r.1 ++ [BitVec.ofNat 8 x.1], x.2)) (l, s)

end Sys2Proof.Machine
end

