-- ==== Sys2Proof/Machine/Flags.lean ====
section
/-! DEFINITION. Event flags: setting IRQ_RAW bits, counting rejected accesses, the interrupt condition of a page, and the
counts that blocks deliver to the sinter log. -/

namespace Sys2Proof.Machine

/-- Set the IRQ_RAW bits `m` of page `p` and count a block event (R61, R73; log 6). -/
def State.raiseMask (s : State) (p m : Nat) : State :=
  (s.set H_IRQ_RAW p (s.get H_IRQ_RAW p ||| m)).set H_EVT_CNT_EVENTS p (satAdd 16 (s.get H_EVT_CNT_EVENTS p) 1)

/-- Set IRQ_RAW bit `b` of page `p` (R73). -/
def State.raise (s : State) (p b : Nat) : State := s.raiseMask p (1 <<< b)

/-- A page raises its interrupt while (IRQ_RAW AND IRQ_EN) is non-zero (R73). -/
def State.irqActive (s : State) (p : Nat) : Bool := (s.get H_IRQ_RAW p &&& s.get H_IRQ_EN p) != 0

/-- A rejected access: STAT.ERR sets and EVT_CNT [15:0] counts once (R65). -/
def State.reject (s : State) (p : Nat) : State :=
  (s.put H_STAT_ERR p true).set H_EVT_CNT_REJECTED p (satAdd 16 (s.get H_EVT_CNT_REJECTED p) 1)

/-- Increment a saturating counter field. -/
def State.bump (s : State) (f : Fld) (p : Nat) (i j : Nat := 0) : State :=
  s.set f p (satAdd f.w (s.get f p i j) 1) i j

/-- Whether the block of page `p` takes new work: EN is 1 and no drain runs, also not one that a stored EN will follow (R63, R66). -/
def State.accepts (s : State) (p : Nat) : Bool := s.flag H_CTRL_EN p && !s.flag H_STAT_DRAINING p

/-- The page of the sinter log. -/
def logPage : Nat := 0x8A

/-- The register field of halfword `h` of the delta area (R588). -/
def deltaLoc (h : Nat) : Loc := (if h % 2 = 0 then LOG_DELTA_E else LOG_DELTA_O).loc logPage (h / 2)

/-- Hold the highest value of a channel's PEAK, a signed sixteen-bit temperature (R588). -/
def State.logPeak (s : State) (ch : Nat) (v : Int) : State :=
  let l := deltaLoc (16 * ch + 14)
  if sgn 16 (s.rd l) < v then s.wr l (unsgn 16 v) else s

/-- Histogram bin of a clamp pulse of energy `e` against the class single-pulse rating `r` (R586). -/
def clampBin (e r : Nat) : Nat :=
  if e * 100 < r then 0 else if e * 100 < 2 * r then 1 else if e * 100 < 5 * r then 2 else if e * 100 < 10 * r then 3
  else if e * 100 < 20 * r then 4 else if e * 100 < 40 * r then 5 else if e * 100 < 70 * r then 6 else 7

/-! The watchdog's count (R111, R577; log 89). -/

/-- The page of the watchdog. -/
def wdgPage : Nat := 0x6F

/-- The count starts at TIMEOUT. -/
def State.wdgRestart (s : State) : State := { s with wdgFrom := s.tb, wdgPause := none, wdgMs := s.get WDG_CFG_TIMEOUT wdgPage }

/-- The monitor halts core `c`: with the HK the count pauses. -/
def State.wdgHold (s : State) (c : Nat) : State :=
  if c = 0 && s.wdgPause.isNone then { s with wdgPause := some s.tb } else s

/-- Core `c` goes on, and with the HK the count. -/
def State.wdgGo (s : State) (c : Nat) : State :=
  match s.wdgPause with
  | some t => if c = 0 then { s with wdgFrom := s.wdgFrom + (s.tb - t), wdgPause := none } else s
  | none => s

/-- ns of TB that the count has run. -/
def State.wdgElapsed (s : State) : Nat := s.wdgPause.getD s.tb - s.wdgFrom

end Sys2Proof.Machine
end

