-- ==== Sys2Proof/Machine/MapSecure.lean ====
section
/-! DEFINITION. The register map of access, ring, NVM and security: one `Fld` per field of the spec's register
tables (offset, low bit, width, access, reset, kept, block, legal values), and one list of them per page kind. -/

namespace Sys2Proof.Machine

/-! Page kind ACC: R453. -/
def ACC_LF_RATE : Fld := ⟨0x040, 0, 2, .rwl, .zero, true, .one, (.oneOf [(0, 2)])⟩
def ACC_LF_ILF : Fld := ⟨0x040, 4, 5, .rwl, (.k 20), true, .one, (.oneOf [(2, 20)])⟩
def ACC_LF_MASK_EN : Fld := ⟨0x040, 16, 6, .rwl, (.k 63), true, .one, .any⟩
def ACC_LF_AUTOTUNE : Fld := ⟨0x040, 24, 1, .rw, (.k 1), true, .one, .any⟩
def ACC_LF_TL_AUTO : Fld := ⟨0x040, 25, 1, .rwl, .zero, true, .one, .any⟩
def ACC_TUNE0 : Fld := ⟨0x044, 0, 5, .rw, (.k 16), true, .one, .any⟩
def ACC_TUNE1 : Fld := ⟨0x044, 5, 5, .rw, (.k 16), true, .one, .any⟩
def ACC_TUNE2 : Fld := ⟨0x044, 10, 5, .rw, (.k 16), true, .one, .any⟩
def ACC_TUNE3 : Fld := ⟨0x044, 15, 5, .rw, (.k 16), true, .one, .any⟩
def ACC_TUNE4 : Fld := ⟨0x044, 20, 5, .rw, (.k 16), true, .one, .any⟩
def ACC_TUNE5 : Fld := ⟨0x044, 25, 5, .rw, (.k 16), true, .one, .any⟩
def ACC_FAULT_OPEN : Fld := ⟨0x048, 0, 6, .w1c, .zero, false, .one, .any⟩
def ACC_FAULT_SHORT : Fld := ⟨0x048, 8, 6, .w1c, .zero, false, .one, .any⟩
def ACC_FAULT_LF_SAT : Fld := ⟨0x048, 16, 6, .w1c, .zero, false, .one, .any⟩
def ACC_FAULT_THERMAL : Fld := ⟨0x048, 24, 1, .w1c, .zero, false, .one, .any⟩
def ACC_ACT_TUNE_NOW : Fld := ⟨0x04C, 0, 1, .wo, .zero, false, .one, .any⟩
def ACC_ACT_STAND_CLR : Fld := ⟨0x04C, 1, 1, .wo, .zero, false, .one, .any⟩
def ACC_UHF_EN : Fld := ⟨0x050, 0, 1, .rw, (.k 1), true, .one, .any⟩
def ACC_UHF_RATE : Fld := ⟨0x050, 8, 8, .rw, (.k 200), true, .one, (.oneOf [(24, 200)])⟩
def ACC_POLL_EN : Fld := ⟨0x054, 0, 1, .rw, .zero, false, .one, .any⟩
def ACC_POLL_MASK : Fld := ⟨0x054, 8, 6, .rw, (.k 15), false, .one, .any⟩
def ACC_STAGE_END_MIN : Fld := ⟨0x000, 0, 16, .rw, (.idx [10, 60, 720, 4320, 20160, 65535]), false, ⟨0x58, 6, 0x4, 1, 0x0⟩, .any⟩
def ACC_STAGE_PERIOD : Fld := ⟨0x000, 16, 8, .rw, (.idx [2, 4, 8, 16, 32, 0]), false, ⟨0x58, 6, 0x4, 1, 0x0⟩, .any⟩
def ACC_STAND_MIN : Fld := ⟨0x070, 0, 16, .ro, .zero, false, .one, .any⟩
def ACC_LAST_POLL : Fld := ⟨0x074, 0, 8, .ro, .zero, false, .one, .any⟩
def ACC_CNT_POLLS : Fld := ⟨0x078, 0, 16, .ro, .zero, false, .one, .any⟩
def ACC_CNT_POLL_SKIPPED : Fld := ⟨0x078, 16, 16, .ro, .zero, false, .one, .any⟩
def ACC_MEAS_I_VLF : Fld := ⟨0x07C, 0, 16, .ro, .zero, false, .one, .any⟩

/-- Every field of kind ACC. -/
def fieldsACC : List Fld :=
  [ACC_LF_RATE, ACC_LF_ILF, ACC_LF_MASK_EN, ACC_LF_AUTOTUNE, ACC_LF_TL_AUTO, 
   ACC_TUNE0, ACC_TUNE1, ACC_TUNE2, ACC_TUNE3, ACC_TUNE4, ACC_TUNE5, ACC_FAULT_OPEN, 
   ACC_FAULT_SHORT, ACC_FAULT_LF_SAT, ACC_FAULT_THERMAL, ACC_ACT_TUNE_NOW, 
   ACC_ACT_STAND_CLR, ACC_UHF_EN, ACC_UHF_RATE, ACC_POLL_EN, ACC_POLL_MASK, 
   ACC_STAGE_END_MIN, ACC_STAGE_PERIOD, ACC_STAND_MIN, ACC_LAST_POLL, ACC_CNT_POLLS, 
   ACC_CNT_POLL_SKIPPED, ACC_MEAS_I_VLF]

/-! Page kind IMMO: R454. -/
def IMMO_VID : Fld := ⟨0x040, 0, 20, .rwl, .zero, true, .one, .any⟩
def IMMO_KEYS_LEARNT : Fld := ⟨0x044, 0, 8, .rwl, .zero, true, .one, .any⟩
def IMMO_TIMING_T_GAP : Fld := ⟨0x048, 0, 8, .rwl, (.k 20), true, .one, (.oneOf [(5, 255)])⟩
def IMMO_TIMING_SLOT_LEN : Fld := ⟨0x048, 8, 8, .rwl, (.k 50), true, .one, (.oneOf [(20, 255)])⟩
def IMMO_TIMING_POLL_SLOT : Fld := ⟨0x048, 16, 8, .rwl, (.k 20), true, .one, (.oneOf [(10, 255)])⟩
def IMMO_TIMING_VERIFY_TMAX : Fld := ⟨0x048, 24, 8, .rwl, (.k 10), true, .one, (.oneOf [(1, 255)])⟩
def IMMO_CMD_GO : Fld := ⟨0x04C, 0, 2, .wo, .zero, false, .one, .any⟩
def IMMO_CMD_ABORT : Fld := ⟨0x04C, 2, 1, .wo, .zero, false, .one, .any⟩
def IMMO_CMD_TP_READ : Fld := ⟨0x04C, 3, 1, .wo, .zero, false, .one, .any⟩
def IMMO_CMD_MASK : Fld := ⟨0x04C, 8, 6, .wo, .zero, false, .one, .any⟩
def IMMO_XSTAT_STATE : Fld := ⟨0x050, 0, 3, .ro, .zero, false, .one, .any⟩
def IMMO_XSTAT_PURPOSE : Fld := ⟨0x050, 4, 1, .ro, .zero, false, .one, .any⟩
def IMMO_XSTAT_REPEATED : Fld := ⟨0x050, 5, 1, .ro, .zero, false, .one, .any⟩
def IMMO_XSTAT_MASK : Fld := ⟨0x050, 8, 6, .ro, .zero, false, .one, .any⟩
def IMMO_RESULT_OUTCOME : Fld := ⟨0x054, 0, 3, .ro, .zero, false, .one, .any⟩
def IMMO_RESULT_KEY : Fld := ⟨0x054, 4, 3, .ro, .zero, false, .one, .any⟩
def IMMO_RESULT_PURPOSE : Fld := ⟨0x054, 7, 1, .ro, .zero, false, .one, .any⟩
def IMMO_RESULT_ABORT_CAUSE : Fld := ⟨0x054, 8, 4, .ro, .zero, false, .one, .any⟩
def IMMO_CHAL_LO : Fld := ⟨0x058, 0, 32, .ro, .zero, false, .one, .any⟩
def IMMO_CHAL_HI : Fld := ⟨0x05C, 0, 32, .ro, .zero, false, .one, .any⟩
def IMMO_SLOTSTAT_CLASS : Fld := ⟨0x060, 0, 16, .ro, .zero, false, .one, .any⟩
def IMMO_SLOTSTAT_VALID : Fld := ⟨0x060, 16, 8, .ro, .zero, false, .one, .any⟩
def IMMO_ANS_LO : Fld := ⟨0x000, 0, 32, .ro, .zero, false, ⟨0x64, 8, 0x8, 1, 0x0⟩, .any⟩
def IMMO_ANS_HI : Fld := ⟨0x000, 0, 32, .ro, .zero, false, ⟨0x68, 8, 0x8, 1, 0x0⟩, .any⟩
def IMMO_VERDICT_SLOT : Fld := ⟨0x0A4, 0, 3, .wo, .zero, false, .one, .any⟩
def IMMO_VERDICT_VALID : Fld := ⟨0x0A4, 8, 1, .wo, .zero, false, .one, .any⟩
def IMMO_REL_CFG_CAN : Fld := ⟨0x0A8, 0, 3, .rwl, .zero, true, .one, .any⟩
def IMMO_REL_CFG_BUF : Fld := ⟨0x0A8, 8, 5, .rwl, .zero, true, .one, .any⟩
def IMMO_REL_CFG_ACK_FIDX : Fld := ⟨0x0A8, 16, 8, .rwl, .zero, true, .one, .any⟩
def IMMO_REL_CFG_REPEAT : Fld := ⟨0x0A8, 24, 5, .rwl, (.k 20), true, .one, (.oneOf [(1, 20)])⟩
def IMMO_REL_SEND : Fld := ⟨0x0AC, 0, 1, .wo, .zero, false, .one, .any⟩
def IMMO_REL_STOP : Fld := ⟨0x0AC, 1, 1, .wo, .zero, false, .one, .any⟩
def IMMO_REL_STAT_ACTIVE : Fld := ⟨0x0B0, 0, 1, .ro, .zero, false, .one, .any⟩
def IMMO_REL_STAT_ACKED : Fld := ⟨0x0B0, 1, 1, .w1c, .zero, false, .one, .any⟩
def IMMO_REL_STAT_GIVEN_UP : Fld := ⟨0x0B0, 2, 1, .w1c, .zero, false, .one, .any⟩
def IMMO_REL_STAT_SENT : Fld := ⟨0x0B0, 8, 5, .ro, .zero, false, .one, .any⟩
def IMMO_REL_STAT_SKIPPED : Fld := ⟨0x0B0, 16, 5, .ro, .zero, false, .one, .any⟩
def IMMO_CNT_GRANTS : Fld := ⟨0x0B4, 0, 16, .ro, .zero, false, .one, .any⟩
def IMMO_CNT_DENIALS : Fld := ⟨0x0B4, 16, 16, .ro, .zero, false, .one, .any⟩
def IMMO_CNT2_REPEATS : Fld := ⟨0x0B8, 0, 16, .ro, .zero, false, .one, .any⟩
def IMMO_CNT2_SE_LATE : Fld := ⟨0x0B8, 16, 16, .ro, .zero, false, .one, .any⟩

/-- Every field of kind IMMO. -/
def fieldsIMMO : List Fld :=
  [IMMO_VID, IMMO_KEYS_LEARNT, IMMO_TIMING_T_GAP, IMMO_TIMING_SLOT_LEN, 
   IMMO_TIMING_POLL_SLOT, IMMO_TIMING_VERIFY_TMAX, IMMO_CMD_GO, IMMO_CMD_ABORT, 
   IMMO_CMD_TP_READ, IMMO_CMD_MASK, IMMO_XSTAT_STATE, IMMO_XSTAT_PURPOSE, IMMO_XSTAT_REPEATED, 
   IMMO_XSTAT_MASK, IMMO_RESULT_OUTCOME, IMMO_RESULT_KEY, IMMO_RESULT_PURPOSE, 
   IMMO_RESULT_ABORT_CAUSE, IMMO_CHAL_LO, IMMO_CHAL_HI, IMMO_SLOTSTAT_CLASS, 
   IMMO_SLOTSTAT_VALID, IMMO_ANS_LO, IMMO_ANS_HI, IMMO_VERDICT_SLOT, IMMO_VERDICT_VALID, 
   IMMO_REL_CFG_CAN, IMMO_REL_CFG_BUF, IMMO_REL_CFG_ACK_FIDX, IMMO_REL_CFG_REPEAT, 
   IMMO_REL_SEND, IMMO_REL_STOP, IMMO_REL_STAT_ACTIVE, IMMO_REL_STAT_ACKED, 
   IMMO_REL_STAT_GIVEN_UP, IMMO_REL_STAT_SENT, IMMO_REL_STAT_SKIPPED, IMMO_CNT_GRANTS, 
   IMMO_CNT_DENIALS, IMMO_CNT2_REPEATS] ++
  [IMMO_CNT2_SE_LATE]

/-! Page kind RING: R474. -/
def RING_CFG_ADDR : Fld := ⟨0x040, 0, 3, .rwl, .zero, false, .one, .any⟩
def RING_CFG_SHARED_GATE : Fld := ⟨0x040, 4, 1, .rwl, .zero, false, .one, .any⟩
def RING_CFG_WAKE_TX : Fld := ⟨0x040, 5, 1, .rw, (.k 1), false, .one, .any⟩
def RING_CFG_PARK_WAKE : Fld := ⟨0x040, 6, 1, .rw, (.k 1), false, .one, .any⟩
def RING_STAT_ROLE : Fld := ⟨0x044, 0, 1, .ro, .zero, false, .one, .any⟩
def RING_STAT_LINK_A : Fld := ⟨0x044, 1, 1, .ro, .zero, false, .one, .any⟩
def RING_STAT_LINK_B : Fld := ⟨0x044, 2, 1, .ro, .zero, false, .one, .any⟩
def RING_STAT_LOCKED : Fld := ⟨0x044, 3, 1, .ro, .zero, false, .one, .any⟩
def RING_STAT_GATE_SHARED : Fld := ⟨0x044, 4, 1, .ro, .zero, false, .one, .any⟩
def RING_STAT_BROKEN : Fld := ⟨0x044, 5, 1, .ro, .zero, false, .one, .any⟩
def RING_STAT_ADDR_ERR : Fld := ⟨0x044, 6, 1, .w1c, .zero, false, .one, .any⟩
def RING_STAT_STEPPED : Fld := ⟨0x044, 7, 1, .w1c, .zero, false, .one, .any⟩
def RING_STAT_BREAK_AT : Fld := ⟨0x044, 8, 4, .ro, (.k 15), false, .one, .any⟩
def RING_MAP : Fld := ⟨0x048, 1, 7, .ro, .zero, false, .one, .any⟩
def RING_TB_ERR : Fld := ⟨0x04C, 0, 16, .ro, .zero, false, .one, .any⟩
def RING_LINK_DLY : Fld := ⟨0x050, 0, 8, .ro, .zero, false, .one, .any⟩
def RING_LINK_HOPS : Fld := ⟨0x050, 8, 4, .ro, .zero, false, .one, .any⟩
def RING_STEP : Fld := ⟨0x054, 0, 32, .ro, .zero, false, .one, .any⟩
def RING_FWD_SAT : Fld := ⟨0x058, 0, 3, .ro, .zero, false, .one, .any⟩
def RING_FWD_PAGE : Fld := ⟨0x058, 8, 8, .ro, .zero, false, .one, .any⟩
def RING_FWD_VALID : Fld := ⟨0x058, 31, 1, .ro, .zero, false, .one, .any⟩
def RING_FWD_STAT_COUNT : Fld := ⟨0x05C, 0, 6, .ro, .zero, false, .one, .any⟩
def RING_FWD_STAT_OVF : Fld := ⟨0x05C, 8, 1, .w1c, .zero, false, .one, .any⟩
def RING_SATSTAT_LIMP_ACT : Fld := ⟨0x000, 0, 4, .ro, .zero, false, ⟨0x60, 7, 0x4, 1, 0x0⟩, .any⟩
def RING_SATSTAT_VBAT_LOW : Fld := ⟨0x000, 4, 1, .ro, .zero, false, ⟨0x60, 7, 0x4, 1, 0x0⟩, .any⟩
def RING_SATSTAT_DERATING : Fld := ⟨0x000, 5, 1, .ro, .zero, false, ⟨0x60, 7, 0x4, 1, 0x0⟩, .any⟩
def RING_SATSTAT_P0_OVER : Fld := ⟨0x000, 6, 1, .ro, .zero, false, ⟨0x60, 7, 0x4, 1, 0x0⟩, .any⟩
def RING_SATSTAT_LOCKED : Fld := ⟨0x000, 7, 1, .ro, .zero, false, ⟨0x60, 7, 0x4, 1, 0x0⟩, .any⟩
def RING_SATSTAT_AGE : Fld := ⟨0x000, 16, 16, .ro, (.k 65535), false, ⟨0x60, 7, 0x4, 1, 0x0⟩, .any⟩
def RING_CNT_BREAKS : Fld := ⟨0x07C, 0, 16, .ro, .zero, false, .one, .any⟩
def RING_CNT_UNLOCKS : Fld := ⟨0x07C, 16, 16, .ro, .zero, false, .one, .any⟩

/-- Every field of kind RING. -/
def fieldsRING : List Fld :=
  [RING_CFG_ADDR, RING_CFG_SHARED_GATE, RING_CFG_WAKE_TX, RING_CFG_PARK_WAKE, 
   RING_STAT_ROLE, RING_STAT_LINK_A, RING_STAT_LINK_B, RING_STAT_LOCKED, RING_STAT_GATE_SHARED, 
   RING_STAT_BROKEN, RING_STAT_ADDR_ERR, RING_STAT_STEPPED, RING_STAT_BREAK_AT, 
   RING_MAP, RING_TB_ERR, RING_LINK_DLY, RING_LINK_HOPS, RING_STEP, RING_FWD_SAT, 
   RING_FWD_PAGE, RING_FWD_VALID, RING_FWD_STAT_COUNT, RING_FWD_STAT_OVF, RING_SATSTAT_LIMP_ACT, 
   RING_SATSTAT_VBAT_LOW, RING_SATSTAT_DERATING, RING_SATSTAT_P0_OVER, RING_SATSTAT_LOCKED, 
   RING_SATSTAT_AGE, RING_CNT_BREAKS, RING_CNT_UNLOCKS]

/-! Page kind NVM: R536. -/
def NVM_CFG_SKIM_EN : Fld := ⟨0x040, 0, 1, .rw, (.k 1), true, .one, .any⟩
def NVM_CFG_LOWV_WAIT : Fld := ⟨0x040, 8, 8, .rw, (.k 50), true, .one, (.oneOf [(1, 255)])⟩
def NVM_WSTAT_WOWNER : Fld := ⟨0x044, 0, 4, .ro, (.k 15), false, .one, .any⟩
def NVM_WSTAT_LOWV : Fld := ⟨0x044, 8, 1, .w1c, .zero, false, .one, .any⟩
def NVM_WSTAT_PROT_ERR : Fld := ⟨0x044, 9, 1, .w1c, .zero, false, .one, .any⟩
def NVM_WCMD_PAGE : Fld := ⟨0x048, 0, 11, .wo, .zero, false, .one, .any⟩
def NVM_WCMD_OFFSET : Fld := ⟨0x048, 16, 6, .wo, .zero, false, .one, .any⟩
def NVM_WCMD_LEN : Fld := ⟨0x048, 24, 7, .wo, .zero, false, .one, (.oneOf [(1, 64)])⟩
def NVM_WBUF_REL : Fld := ⟨0x04C, 0, 1, .wo, .zero, false, .one, .any⟩
def NVM_PROT_BP : Fld := ⟨0x050, 0, 12, .rwl, .zero, false, .one, .any⟩
def NVM_PW_LO : Fld := ⟨0x054, 0, 32, .wo, .zero, false, .one, .any⟩
def NVM_PW_HI : Fld := ⟨0x058, 0, 32, .wo, .zero, false, .one, .any⟩
def NVM_PW_CMD_PART : Fld := ⟨0x05C, 0, 3, .wo, .zero, false, .one, .any⟩
def NVM_PW_CMD_KIND : Fld := ⟨0x05C, 4, 1, .wo, .zero, false, .one, .any⟩
def NVM_PW_CMD_OP : Fld := ⟨0x05C, 8, 2, .wo, .zero, false, .one, .any⟩
def NVM_PW_STAT_P6_RD_OPEN : Fld := ⟨0x060, 0, 1, .ro, .zero, false, .one, .any⟩
def NVM_PW_STAT_P6_WR_OPEN : Fld := ⟨0x060, 1, 1, .ro, .zero, false, .one, .any⟩
def NVM_PW_STAT_P6_LOCKED : Fld := ⟨0x060, 2, 1, .ro, .zero, false, .one, .any⟩
def NVM_PW_STAT_P6_TRIES : Fld := ⟨0x060, 4, 4, .ro, .zero, false, .one, .any⟩
def NVM_PW_STAT_P6_LOCKOUTS : Fld := ⟨0x060, 8, 4, .ro, .zero, false, .one, .any⟩
def NVM_PW_STAT_P7_RD_OPEN : Fld := ⟨0x060, 16, 1, .ro, .zero, false, .one, .any⟩
def NVM_PW_STAT_P7_WR_OPEN : Fld := ⟨0x060, 17, 1, .ro, .zero, false, .one, .any⟩
def NVM_PW_STAT_P7_LOCKED : Fld := ⟨0x060, 18, 1, .ro, .zero, false, .one, .any⟩
def NVM_PW_STAT_P7_TRIES : Fld := ⟨0x060, 20, 4, .ro, .zero, false, .one, .any⟩
def NVM_PW_STAT_P7_LOCKOUTS : Fld := ⟨0x060, 24, 4, .ro, .zero, false, .one, .any⟩
def NVM_LOCK_LEFT_P6 : Fld := ⟨0x064, 0, 16, .ro, .zero, false, .one, .any⟩
def NVM_LOCK_LEFT_P7 : Fld := ⟨0x064, 16, 16, .ro, .zero, false, .one, .any⟩
def NVM_ECC_CORR : Fld := ⟨0x068, 0, 16, .ro, .zero, false, .one, .any⟩
def NVM_ECC_UE_SEEN : Fld := ⟨0x068, 31, 1, .w1c, .zero, false, .one, .any⟩
def NVM_UE_ADDR : Fld := ⟨0x06C, 0, 17, .ro, .zero, false, .one, .any⟩
def NVM_WBUF : Fld := ⟨0x000, 0, 32, .rw, .zero, false, ⟨0x100, 16, 0x4, 1, 0x0⟩, .any⟩
def NVM_WIN_BLOCK : Fld := ⟨0x000, 0, 6, .rw, .zero, false, ⟨0x140, 14, 0x4, 1, 0x0⟩, .any⟩

/-- Every field of kind NVM. -/
def fieldsNVM : List Fld :=
  [NVM_CFG_SKIM_EN, NVM_CFG_LOWV_WAIT, NVM_WSTAT_WOWNER, NVM_WSTAT_LOWV, 
   NVM_WSTAT_PROT_ERR, NVM_WCMD_PAGE, NVM_WCMD_OFFSET, NVM_WCMD_LEN, NVM_WBUF_REL, 
   NVM_PROT_BP, NVM_PW_LO, NVM_PW_HI, NVM_PW_CMD_PART, NVM_PW_CMD_KIND, NVM_PW_CMD_OP, 
   NVM_PW_STAT_P6_RD_OPEN, NVM_PW_STAT_P6_WR_OPEN, NVM_PW_STAT_P6_LOCKED, NVM_PW_STAT_P6_TRIES, 
   NVM_PW_STAT_P6_LOCKOUTS, NVM_PW_STAT_P7_RD_OPEN, NVM_PW_STAT_P7_WR_OPEN, 
   NVM_PW_STAT_P7_LOCKED, NVM_PW_STAT_P7_TRIES, NVM_PW_STAT_P7_LOCKOUTS, NVM_LOCK_LEFT_P6, 
   NVM_LOCK_LEFT_P7, NVM_ECC_CORR, NVM_ECC_UE_SEEN, NVM_UE_ADDR, NVM_WBUF, 
   NVM_WIN_BLOCK]

/-! Page kind REC: R537. -/
def REC_BUSY_SHADOW_BUSY : Fld := ⟨0x040, 0, 1, .ro, .zero, false, .one, .any⟩
def REC_BUSY_SHADOW_SKIM : Fld := ⟨0x040, 1, 1, .ro, .zero, false, .one, .any⟩
def REC_BUSY_SHADOW_WRITE : Fld := ⟨0x040, 2, 1, .ro, .zero, false, .one, .any⟩
def REC_BUSY_SHADOW_QUEUED : Fld := ⟨0x040, 8, 4, .ro, .zero, false, .one, .any⟩
def REC_BUSY_SHADOW_LEFT : Fld := ⟨0x040, 16, 16, .ro, .zero, false, .one, .any⟩
def REC_SKIM_POS : Fld := ⟨0x044, 0, 11, .ro, .zero, false, .one, .any⟩
def REC_SKIM_REFRESHED : Fld := ⟨0x044, 16, 16, .ro, .zero, false, .one, .any⟩
def REC_CNT_ABSENT : Fld := ⟨0x048, 0, 16, .ro, .zero, false, .one, .any⟩
def REC_CNT_ONE_COPY : Fld := ⟨0x048, 16, 16, .ro, .zero, false, .one, .any⟩
def REC_JOURNAL_REPLAYED : Fld := ⟨0x04C, 0, 1, .w1c, .zero, false, .one, .any⟩
def REC_CMD_OP : Fld := ⟨0x000, 0, 4, .wo, .zero, false, ⟨0x100, 4, 0x80, 1, 0x0⟩, .any⟩
def REC_ARG_PAGE_A : Fld := ⟨0x004, 0, 11, .rw, .zero, false, ⟨0x100, 4, 0x80, 1, 0x0⟩, .any⟩
def REC_ARG_PAGE_B : Fld := ⟨0x004, 16, 11, .rw, .zero, false, ⟨0x100, 4, 0x80, 1, 0x0⟩, .any⟩
def REC_LEN : Fld := ⟨0x008, 0, 6, .rw, .zero, false, ⟨0x100, 4, 0x80, 1, 0x0⟩, .any⟩
def REC_RAISE : Fld := ⟨0x00C, 0, 24, .rw, .zero, false, ⟨0x100, 4, 0x80, 1, 0x0⟩, .any⟩
def REC_STAT_BUSY : Fld := ⟨0x010, 0, 1, .ro, .zero, false, ⟨0x100, 4, 0x80, 1, 0x0⟩, .any⟩
def REC_STAT_DONE : Fld := ⟨0x010, 1, 1, .w1c, .zero, false, ⟨0x100, 4, 0x80, 1, 0x0⟩, .any⟩
def REC_STAT_RESULT : Fld := ⟨0x010, 4, 4, .ro, .zero, false, ⟨0x100, 4, 0x80, 1, 0x0⟩, .any⟩
def REC_STAT_VALID_A : Fld := ⟨0x010, 8, 1, .ro, .zero, false, ⟨0x100, 4, 0x80, 1, 0x0⟩, .any⟩
def REC_STAT_VALID_B : Fld := ⟨0x010, 9, 1, .ro, .zero, false, ⟨0x100, 4, 0x80, 1, 0x0⟩, .any⟩
def REC_STAT_SLOT : Fld := ⟨0x010, 10, 1, .ro, .zero, false, ⟨0x100, 4, 0x80, 1, 0x0⟩, .any⟩
def REC_STAT_SEQ : Fld := ⟨0x010, 16, 16, .ro, .zero, false, ⟨0x100, 4, 0x80, 1, 0x0⟩, .any⟩
def REC_VALUE : Fld := ⟨0x014, 0, 24, .ro, .zero, false, ⟨0x100, 4, 0x80, 1, 0x0⟩, .any⟩
def REC_VALUE_EMPTY : Fld := ⟨0x014, 24, 1, .ro, .zero, false, ⟨0x100, 4, 0x80, 1, 0x0⟩, .any⟩
def REC_PAYLOAD : Fld := ⟨0x000, 0, 32, .rw, .zero, false, ⟨0x140, 4, 0x80, 14, 0x4⟩, .any⟩

/-- Every field of kind REC. -/
def fieldsREC : List Fld :=
  [REC_BUSY_SHADOW_BUSY, REC_BUSY_SHADOW_SKIM, REC_BUSY_SHADOW_WRITE, REC_BUSY_SHADOW_QUEUED, 
   REC_BUSY_SHADOW_LEFT, REC_SKIM_POS, REC_SKIM_REFRESHED, REC_CNT_ABSENT, 
   REC_CNT_ONE_COPY, REC_JOURNAL_REPLAYED, REC_CMD_OP, REC_ARG_PAGE_A, REC_ARG_PAGE_B, 
   REC_LEN, REC_RAISE, REC_STAT_BUSY, REC_STAT_DONE, REC_STAT_RESULT, REC_STAT_VALID_A, 
   REC_STAT_VALID_B, REC_STAT_SLOT, REC_STAT_SEQ, REC_VALUE, REC_VALUE_EMPTY, 
   REC_PAYLOAD]

/-! Page kind CNVM: R557. -/
def CNVM_BOOT_ACTIVE : Fld := ⟨0x040, 0, 1, .ro, .zero, false, .one, .any⟩
def CNVM_BOOT_TRYING : Fld := ⟨0x040, 1, 1, .ro, .zero, false, .one, .any⟩
def CNVM_BOOT_RECOVERY : Fld := ⟨0x040, 2, 1, .ro, .zero, false, .one, .any⟩
def CNVM_BOOT_FELL_BACK : Fld := ⟨0x040, 3, 1, .w1c, .zero, false, .one, .any⟩
def CNVM_BOOT_CAUSE : Fld := ⟨0x040, 4, 4, .ro, .zero, false, .one, .any⟩
def CNVM_STATE_A : Fld := ⟨0x044, 0, 3, .ro, .zero, false, .one, .any⟩
def CNVM_STATE_B : Fld := ⟨0x044, 8, 3, .ro, .zero, false, .one, .any⟩
def CNVM_GEN_A : Fld := ⟨0x048, 0, 32, .ro, .zero, false, .one, .any⟩
def CNVM_GEN_B : Fld := ⟨0x04C, 0, 32, .ro, .zero, false, .one, .any⟩
def CNVM_UPD_CMD : Fld := ⟨0x050, 0, 2, .wo, .zero, false, .one, .any⟩
def CNVM_UPD_SLOT : Fld := ⟨0x050, 8, 1, .rw, .zero, false, .one, .any⟩
def CNVM_UPD_STAT_STATE : Fld := ⟨0x054, 0, 3, .ro, .zero, false, .one, .any⟩
def CNVM_UPD_STAT_ERR : Fld := ⟨0x054, 4, 4, .ro, .zero, false, .one, .any⟩
def CNVM_UPD_STAT_BLK_BAD : Fld := ⟨0x054, 8, 11, .ro, .zero, false, .one, .any⟩
def CNVM_UPD_STAT_RECEIVED : Fld := ⟨0x054, 20, 12, .ro, .zero, false, .one, .any⟩
def CNVM_CHG_CMD : Fld := ⟨0x060, 0, 4, .wo, .zero, false, .one, .any⟩
def CNVM_CHG_RELOAD : Fld := ⟨0x064, 0, 12, .wo, .zero, false, .one, .any⟩
def CNVM_CHG_READY : Fld := ⟨0x068, 1, 11, .w1s, .zero, false, .one, .any⟩
def CNVM_CHG_STAT_STATE : Fld := ⟨0x06C, 0, 3, .ro, .zero, false, .one, .any⟩
def CNVM_CHG_STAT_HOLD_EXPIRED : Fld := ⟨0x06C, 3, 1, .w1c, .zero, false, .one, .any⟩
def CNVM_CHG_STAT_HOLD_MS : Fld := ⟨0x06C, 8, 8, .ro, .zero, false, .one, .any⟩
def CNVM_CHG_STAT_HEALTH_LEFT : Fld := ⟨0x06C, 16, 13, .ro, .zero, false, .one, .any⟩
def CNVM_CNT_CHANGEOVERS : Fld := ⟨0x070, 0, 16, .ro, .zero, false, .one, .any⟩
def CNVM_CNT_CHANGEBACKS : Fld := ⟨0x070, 16, 16, .ro, .zero, false, .one, .any⟩

/-- Every field of kind CNVM. -/
def fieldsCNVM : List Fld :=
  [CNVM_BOOT_ACTIVE, CNVM_BOOT_TRYING, CNVM_BOOT_RECOVERY, CNVM_BOOT_FELL_BACK, 
   CNVM_BOOT_CAUSE, CNVM_STATE_A, CNVM_STATE_B, CNVM_GEN_A, CNVM_GEN_B, CNVM_UPD_CMD, 
   CNVM_UPD_SLOT, CNVM_UPD_STAT_STATE, CNVM_UPD_STAT_ERR, CNVM_UPD_STAT_BLK_BAD, 
   CNVM_UPD_STAT_RECEIVED, CNVM_CHG_CMD, CNVM_CHG_RELOAD, CNVM_CHG_READY, CNVM_CHG_STAT_STATE, 
   CNVM_CHG_STAT_HOLD_EXPIRED, CNVM_CHG_STAT_HOLD_MS, CNVM_CHG_STAT_HEALTH_LEFT, 
   CNVM_CNT_CHANGEOVERS, CNVM_CNT_CHANGEBACKS]

/-! Page kind SEC: R558. -/
def SEC_LC_STATE : Fld := ⟨0x040, 0, 2, .ro, .zero, false, .one, .any⟩
def SEC_LC_P6_ERASED : Fld := ⟨0x040, 4, 1, .ro, .zero, false, .one, .any⟩
def SEC_ROOT_STATE : Fld := ⟨0x044, 0, 8, .ro, .zero, false, .one, .any⟩
def SEC_ROOT_CMD_SLOT : Fld := ⟨0x048, 0, 2, .wo, .zero, false, .one, .any⟩
def SEC_ROOT_CMD_OP : Fld := ⟨0x048, 8, 2, .wo, .zero, false, .one, .any⟩
def SEC_TOKEN_ADDR : Fld := ⟨0x04C, 0, 32, .rw, .zero, false, .one, .any⟩
def SEC_CMD_STAT_BUSY : Fld := ⟨0x050, 0, 1, .ro, .zero, false, .one, .any⟩
def SEC_CMD_STAT_RESULT : Fld := ⟨0x050, 4, 4, .ro, .zero, false, .one, .any⟩
def SEC_KEYBUF : Fld := ⟨0x000, 0, 32, .wo, .zero, false, ⟨0x80, 16, 0x4, 1, 0x0⟩, .any⟩

/-- Every field of kind SEC. -/
def fieldsSEC : List Fld :=
  [SEC_LC_STATE, SEC_LC_P6_ERASED, SEC_ROOT_STATE, SEC_ROOT_CMD_SLOT, SEC_ROOT_CMD_OP, 
   SEC_TOKEN_ADDR, SEC_CMD_STAT_BUSY, SEC_CMD_STAT_RESULT, SEC_KEYBUF]

/-! Page kind ATT: R559. -/
def ATT_CMD_GO : Fld := ⟨0x040, 0, 1, .wo, .zero, false, .one, .any⟩
def ATT_BUF : Fld := ⟨0x044, 0, 32, .rw, (.k 268435456), false, .one, .any⟩
def ATT_STAT_BUSY : Fld := ⟨0x048, 0, 1, .ro, .zero, false, .one, .any⟩
def ATT_STAT_DONE : Fld := ⟨0x048, 1, 1, .w1c, .zero, false, .one, .any⟩
def ATT_STAT_RESULT : Fld := ⟨0x048, 4, 4, .ro, .zero, false, .one, .any⟩
def ATT_T_SIGN : Fld := ⟨0x04C, 0, 16, .ro, .zero, false, .one, .any⟩
def ATT_UID : Fld := ⟨0x000, 0, 32, .ro, .zero, false, ⟨0x50, 4, 0x4, 1, 0x0⟩, .any⟩
def ATT_ID_PUB : Fld := ⟨0x000, 0, 32, .ro, .zero, false, ⟨0x60, 16, 0x4, 1, 0x0⟩, .any⟩
def ATT_CNT_REPORTS : Fld := ⟨0x0A0, 0, 16, .ro, .zero, false, .one, .any⟩

/-- Every field of kind ATT. -/
def fieldsATT : List Fld :=
  [ATT_CMD_GO, ATT_BUF, ATT_STAT_BUSY, ATT_STAT_DONE, ATT_STAT_RESULT, ATT_T_SIGN, 
   ATT_UID, ATT_ID_PUB, ATT_CNT_REPORTS]

end Sys2Proof.Machine
end

