-- ==== Sys2Proof/Machine/MapField.lean ====
section
/-! DEFINITION. The register map of field I/O, switch inputs, lighting, act-ahead and Ferlys: one `Fld` per field of the spec's register
tables (offset, low bit, width, access, reset, kept, block, legal values), and one list of them per page kind. -/

namespace Sys2Proof.Machine

/-! Page kind FLD: R285. -/
def FLD_CFG_DIR : Fld := ⟨0x000, 0, 1, .rwl, .zero, true, ⟨0x100, 12, 0x40, 1, 0x0⟩, .any⟩
def FLD_CFG_ITYPE : Fld := ⟨0x000, 1, 1, .rw, .zero, true, ⟨0x100, 12, 0x40, 1, 0x0⟩, .any⟩
def FLD_CFG_WAKE_EN : Fld := ⟨0x000, 2, 1, .rw, .zero, true, ⟨0x100, 12, 0x40, 1, 0x0⟩, .any⟩
def FLD_CFG_SAFE : Fld := ⟨0x000, 4, 2, .rwl, .zero, true, ⟨0x100, 12, 0x40, 1, 0x0⟩, .any⟩
def FLD_CFG_PRIO : Fld := ⟨0x000, 8, 2, .rwl, (.k 3), true, ⟨0x100, 12, 0x40, 1, 0x0⟩, .any⟩
def FLD_CFG_AUTO_UNLOCK : Fld := ⟨0x000, 12, 1, .rwl, .zero, true, ⟨0x100, 12, 0x40, 1, 0x0⟩, .any⟩
def FLD_CFG_TL_AUTO : Fld := ⟨0x000, 13, 1, .rwl, .zero, true, ⟨0x100, 12, 0x40, 1, 0x0⟩, .any⟩
def FLD_CFG_RETRY_MAX : Fld := ⟨0x000, 17, 5, .rwl, (.k 3), true, ⟨0x100, 12, 0x40, 1, 0x0⟩, (.oneOf [(0, 15), (31, 31)])⟩
def FLD_CFG_TFILT : Fld := ⟨0x000, 22, 2, .rwl, (.k 1), true, ⟨0x100, 12, 0x40, 1, 0x0⟩, .any⟩
def FLD_CFG_DEB : Fld := ⟨0x000, 24, 8, .rw, (.k 30), true, ⟨0x100, 12, 0x40, 1, 0x0⟩, .any⟩
def FLD_OUT_ON : Fld := ⟨0x004, 0, 1, .rw, .zero, true, ⟨0x100, 12, 0x40, 1, 0x0⟩, .any⟩
def FLD_OUT_TRETRY : Fld := ⟨0x004, 16, 10, .rwl, (.k 100), true, ⟨0x100, 12, 0x40, 1, 0x0⟩, (.oneOf [(1, 1000)])⟩
def FLD_STATE_STATE : Fld := ⟨0x008, 0, 4, .ro, .zero, false, ⟨0x100, 12, 0x40, 1, 0x0⟩, .any⟩
def FLD_STATE_LEVEL : Fld := ⟨0x008, 4, 1, .ro, .zero, false, ⟨0x100, 12, 0x40, 1, 0x0⟩, .any⟩
def FLD_STATE_RAW : Fld := ⟨0x008, 5, 1, .ro, .zero, false, ⟨0x100, 12, 0x40, 1, 0x0⟩, .any⟩
def FLD_STATE_SAFE_ACT : Fld := ⟨0x008, 6, 1, .ro, .zero, false, ⟨0x100, 12, 0x40, 1, 0x0⟩, .any⟩
def FLD_STATE_LIMITING : Fld := ⟨0x008, 7, 1, .ro, .zero, false, ⟨0x100, 12, 0x40, 1, 0x0⟩, .any⟩
def FLD_STATE_RETRIES_LEFT : Fld := ⟨0x008, 8, 5, .ro, (.k 3), false, ⟨0x100, 12, 0x40, 1, 0x0⟩, .any⟩
def FLD_STATE_TL_HOLD : Fld := ⟨0x008, 13, 1, .ro, .zero, false, ⟨0x100, 12, 0x40, 1, 0x0⟩, .any⟩
def FLD_STATE_SEQ : Fld := ⟨0x008, 16, 4, .ro, .zero, false, ⟨0x100, 12, 0x40, 1, 0x0⟩, .any⟩
def FLD_FAULT_FAST_TRIP : Fld := ⟨0x00C, 0, 1, .w1c, .zero, true, ⟨0x100, 12, 0x40, 1, 0x0⟩, .any⟩
def FLD_FAULT_OC_TRIP : Fld := ⟨0x00C, 1, 1, .w1c, .zero, true, ⟨0x100, 12, 0x40, 1, 0x0⟩, .any⟩
def FLD_FAULT_THERMAL : Fld := ⟨0x00C, 2, 1, .w1c, .zero, true, ⟨0x100, 12, 0x40, 1, 0x0⟩, .any⟩
def FLD_FAULT_OL_ON : Fld := ⟨0x00C, 4, 1, .w1c, .zero, true, ⟨0x100, 12, 0x40, 1, 0x0⟩, .any⟩
def FLD_FAULT_CLAMP_LOCK : Fld := ⟨0x00C, 7, 1, .w1c, .zero, true, ⟨0x100, 12, 0x40, 1, 0x0⟩, .any⟩
def FLD_FAULT_RETRY_EXH : Fld := ⟨0x00C, 9, 1, .w1c, .zero, true, ⟨0x100, 12, 0x40, 1, 0x0⟩, .any⟩
def FLD_FAULT_REFUSED : Fld := ⟨0x00C, 10, 1, .w1c, .zero, true, ⟨0x100, 12, 0x40, 1, 0x0⟩, .any⟩
def FLD_FAULT_EXT_HIGH : Fld := ⟨0x00C, 11, 1, .w1c, .zero, true, ⟨0x100, 12, 0x40, 1, 0x0⟩, .any⟩
def FLD_ACT_TL_CLR : Fld := ⟨0x010, 0, 1, .wo, .zero, false, ⟨0x100, 12, 0x40, 1, 0x0⟩, .any⟩
def FLD_ACT_UNLOCK : Fld := ⟨0x010, 1, 1, .wo, .zero, false, ⟨0x100, 12, 0x40, 1, 0x0⟩, .any⟩
def FLD_ACT_RETRY_RESET : Fld := ⟨0x010, 2, 1, .wo, .zero, false, ⟨0x100, 12, 0x40, 1, 0x0⟩, .any⟩
def FLD_TS_LO : Fld := ⟨0x014, 0, 32, .ro, .zero, false, ⟨0x100, 12, 0x40, 1, 0x0⟩, .any⟩
def FLD_TS_HI : Fld := ⟨0x018, 0, 32, .ro, .zero, false, ⟨0x100, 12, 0x40, 1, 0x0⟩, .any⟩
def FLD_MEAS_I : Fld := ⟨0x01C, 0, 12, .ro, .zero, false, ⟨0x100, 12, 0x40, 1, 0x0⟩, .any⟩
def FLD_MEAS_VPIN : Fld := ⟨0x01C, 16, 12, .ro, .zero, false, ⟨0x100, 12, 0x40, 1, 0x0⟩, .any⟩
def FLD_CLAMP_FILL : Fld := ⟨0x020, 0, 16, .ro, (.k 600), true, ⟨0x100, 12, 0x40, 1, 0x0⟩, .any⟩
def FLD_TJ : Fld := ⟨0x024, 0, 16, .ro, .zero, false, ⟨0x100, 12, 0x40, 1, 0x0⟩, .any⟩

/-- Every field of kind FLD. -/
def fieldsFLD : List Fld :=
  [FLD_CFG_DIR, FLD_CFG_ITYPE, FLD_CFG_WAKE_EN, FLD_CFG_SAFE, FLD_CFG_PRIO, 
   FLD_CFG_AUTO_UNLOCK, FLD_CFG_TL_AUTO, FLD_CFG_RETRY_MAX, FLD_CFG_TFILT, 
   FLD_CFG_DEB, FLD_OUT_ON, FLD_OUT_TRETRY, FLD_STATE_STATE, FLD_STATE_LEVEL, 
   FLD_STATE_RAW, FLD_STATE_SAFE_ACT, FLD_STATE_LIMITING, FLD_STATE_RETRIES_LEFT, 
   FLD_STATE_TL_HOLD, FLD_STATE_SEQ, FLD_FAULT_FAST_TRIP, FLD_FAULT_OC_TRIP, 
   FLD_FAULT_THERMAL, FLD_FAULT_OL_ON, FLD_FAULT_CLAMP_LOCK, FLD_FAULT_RETRY_EXH, 
   FLD_FAULT_REFUSED, FLD_FAULT_EXT_HIGH, FLD_ACT_TL_CLR, FLD_ACT_UNLOCK, FLD_ACT_RETRY_RESET, 
   FLD_TS_LO, FLD_TS_HI, FLD_MEAS_I, FLD_MEAS_VPIN, FLD_CLAMP_FILL, FLD_TJ]

/-! Page kind FLD0: R284. -/
def FLD0_KA_CFG_TIMEOUT : Fld := ⟨0x040, 0, 10, .rwl, (.k 100), true, .one, (.oneOf [(1, 1000)])⟩
def FLD0_KA_CFG_EN : Fld := ⟨0x040, 16, 1, .rwl, .zero, true, .one, .any⟩
def FLD0_KA_KEEPALIVE : Fld := ⟨0x044, 0, 32, .wo, .zero, false, .one, .any⟩
def FLD0_KA_STAT_EXPIRED : Fld := ⟨0x048, 0, 1, .ro, .zero, false, .one, .any⟩
def FLD0_KA_STAT_VFLD_UV : Fld := ⟨0x048, 1, 1, .ro, .zero, false, .one, .any⟩
def FLD0_KA_STAT_EXPIRIES : Fld := ⟨0x048, 8, 8, .ro, .zero, false, .one, .any⟩
def FLD0_KA_RESUME : Fld := ⟨0x04C, 0, 1, .wo, .zero, false, .one, .any⟩

/-- Every field of kind FLD0. -/
def fieldsFLD0 : List Fld :=
  [FLD0_KA_CFG_TIMEOUT, FLD0_KA_CFG_EN, FLD0_KA_KEEPALIVE, FLD0_KA_STAT_EXPIRED, 
   FLD0_KA_STAT_VFLD_UV, FLD0_KA_STAT_EXPIRIES, FLD0_KA_RESUME]

/-! Page kind SWI: R296. -/
def SWI_CFG_EN : Fld := ⟨0x000, 0, 1, .rw, (.k 1), false, ⟨0x100, 16, 0x20, 1, 0x0⟩, .any⟩
def SWI_CFG_TYPE : Fld := ⟨0x000, 1, 1, .rw, .zero, false, ⟨0x100, 16, 0x20, 1, 0x0⟩, .any⟩
def SWI_CFG_WET : Fld := ⟨0x000, 2, 2, .rw, (.k 1), true, ⟨0x100, 16, 0x20, 1, 0x0⟩, (.oneOf [(0, 2)])⟩
def SWI_CFG_TIMED : Fld := ⟨0x000, 4, 1, .rw, (.k 1), true, ⟨0x100, 16, 0x20, 1, 0x0⟩, .any⟩
def SWI_CFG_PARK : Fld := ⟨0x000, 5, 1, .rw, (.k 1), false, ⟨0x100, 16, 0x20, 1, 0x0⟩, .any⟩
def SWI_CFG_WAKE : Fld := ⟨0x000, 6, 2, .rw, (.k 3), false, ⟨0x100, 16, 0x20, 1, 0x0⟩, .any⟩
def SWI_CFG_DEB : Fld := ⟨0x000, 8, 8, .rw, (.k 50), true, ⟨0x100, 16, 0x20, 1, 0x0⟩, .any⟩
def SWI_STATE_LEVEL : Fld := ⟨0x004, 0, 1, .ro, .zero, false, ⟨0x100, 16, 0x20, 1, 0x0⟩, .any⟩
def SWI_STATE_RAW : Fld := ⟨0x004, 1, 1, .ro, .zero, false, ⟨0x100, 16, 0x20, 1, 0x0⟩, .any⟩
def SWI_STATE_PARK_LEVEL : Fld := ⟨0x004, 2, 1, .ro, .zero, false, ⟨0x100, 16, 0x20, 1, 0x0⟩, .any⟩
def SWI_STATE_SEQ : Fld := ⟨0x004, 8, 4, .ro, .zero, false, ⟨0x100, 16, 0x20, 1, 0x0⟩, .any⟩
def SWI_TS_LO : Fld := ⟨0x008, 0, 32, .ro, .zero, false, ⟨0x100, 16, 0x20, 1, 0x0⟩, .any⟩
def SWI_TS_HI : Fld := ⟨0x00C, 0, 32, .ro, .zero, false, ⟨0x100, 16, 0x20, 1, 0x0⟩, .any⟩
def SWI_VPIN : Fld := ⟨0x010, 0, 16, .ro, .zero, false, ⟨0x100, 16, 0x20, 1, 0x0⟩, .any⟩

/-- Every field of kind SWI. -/
def fieldsSWI : List Fld :=
  [SWI_CFG_EN, SWI_CFG_TYPE, SWI_CFG_WET, SWI_CFG_TIMED, SWI_CFG_PARK, SWI_CFG_WAKE, 
   SWI_CFG_DEB, SWI_STATE_LEVEL, SWI_STATE_RAW, SWI_STATE_PARK_LEVEL, SWI_STATE_SEQ, 
   SWI_TS_LO, SWI_TS_HI, SWI_VPIN]

/-! Page kind SWI0: R296. -/
def SWI_PARK_PERIOD : Fld := ⟨0x040, 0, 10, .rw, (.k 64), false, .one, (.oneOf [(8, 1000)])⟩
def SWI_PARK_PULSE : Fld := ⟨0x040, 16, 8, .rw, (.k 16), false, .one, (.oneOf [(8, 255)])⟩
def SWI_PARK_WET : Fld := ⟨0x040, 24, 2, .rw, .zero, false, .one, (.oneOf [(0, 2)])⟩
def SWI_PARK_DEB : Fld := ⟨0x040, 28, 2, .rw, (.k 1), false, .one, (.oneOf [(1, 3)])⟩
def SWI_SSUP_MODE : Fld := ⟨0x044, 0, 8, .rw, (.k 85), false, .one, .any⟩
def SWI_SSUP_OC : Fld := ⟨0x044, 16, 4, .w1c, .zero, false, .one, .any⟩
def SWI_EVT_INPUT : Fld := ⟨0x048, 0, 6, .ro, .zero, false, .one, .any⟩
def SWI_EVT_LEVEL : Fld := ⟨0x048, 6, 1, .ro, .zero, false, .one, .any⟩
def SWI_EVT_VALID : Fld := ⟨0x048, 31, 1, .ro, .zero, false, .one, .any⟩
def SWI_EVT_TS_LO : Fld := ⟨0x04C, 0, 32, .ro, .zero, false, .one, .any⟩
def SWI_EVT_TS_HI : Fld := ⟨0x050, 0, 32, .ro, .zero, false, .one, .any⟩
def SWI_EVT_STAT_COUNT : Fld := ⟨0x054, 0, 6, .ro, .zero, false, .one, .any⟩
def SWI_EVT_STAT_OVF : Fld := ⟨0x054, 8, 1, .w1c, .zero, false, .one, .any⟩

/-- Every field of kind SWI0. -/
def fieldsSWI0 : List Fld :=
  [SWI_PARK_PERIOD, SWI_PARK_PULSE, SWI_PARK_WET, SWI_PARK_DEB, SWI_SSUP_MODE, 
   SWI_SSUP_OC, SWI_EVT_INPUT, SWI_EVT_LEVEL, SWI_EVT_VALID, SWI_EVT_TS_LO, 
   SWI_EVT_TS_HI, SWI_EVT_STAT_COUNT, SWI_EVT_STAT_OVF]

/-! Page kind LED: R304. -/
def LED_CFG_SYNC_SRC : Fld := ⟨0x040, 0, 2, .rw, .zero, true, .one, (.oneOf [(0, 2)])⟩
def LED_CFG_PRIO : Fld := ⟨0x040, 8, 2, .rwl, (.k 3), true, .one, .any⟩
def LED_SCAN_DIV : Fld := ⟨0x044, 0, 6, .rwl, (.k 4), true, .one, (.oneOf [(1, 63)])⟩
def LED_SCAN_PRE : Fld := ⟨0x044, 8, 8, .rwl, (.k 20), true, .one, (.oneOf [(5, 255)])⟩
def LED_COL_I0 : Fld := ⟨0x048, 0, 6, .rwl, (.k 20), true, .one, (.oneOf [(1, 60)])⟩
def LED_COL_I1 : Fld := ⟨0x048, 8, 6, .rwl, (.k 20), true, .one, (.oneOf [(1, 60)])⟩
def LED_COL_I2 : Fld := ⟨0x048, 16, 6, .rwl, (.k 20), true, .one, (.oneOf [(1, 60)])⟩
def LED_COL_I3 : Fld := ⟨0x048, 24, 6, .rwl, (.k 20), true, .one, (.oneOf [(1, 60)])⟩
def LED_COL_I4 : Fld := ⟨0x04C, 0, 6, .rwl, (.k 20), true, .one, (.oneOf [(1, 60)])⟩
def LED_COL_I5 : Fld := ⟨0x04C, 8, 6, .rwl, (.k 20), true, .one, (.oneOf [(1, 60)])⟩
def LED_COL_I6 : Fld := ⟨0x04C, 16, 6, .rwl, (.k 20), true, .one, (.oneOf [(1, 60)])⟩
def LED_COL_I7 : Fld := ⟨0x04C, 24, 6, .rwl, (.k 20), true, .one, (.oneOf [(1, 60)])⟩
def LED_COL_I8 : Fld := ⟨0x050, 0, 6, .rwl, (.k 20), true, .one, (.oneOf [(1, 60)])⟩
def LED_COL_I9 : Fld := ⟨0x050, 8, 6, .rwl, (.k 20), true, .one, (.oneOf [(1, 60)])⟩
def LED_COL_I10 : Fld := ⟨0x050, 16, 6, .rwl, (.k 20), true, .one, (.oneOf [(1, 60)])⟩
def LED_COL_I11 : Fld := ⟨0x050, 24, 6, .rwl, (.k 20), true, .one, (.oneOf [(1, 60)])⟩
def LED_FTIMER_PERIOD : Fld := ⟨0x054, 0, 14, .rw, (.k 100), true, .one, (.oneOf [(10, 10000)])⟩
def LED_SWAP_REQ : Fld := ⟨0x058, 0, 1, .w1s, .zero, false, .one, .any⟩
def LED_SWAP_FRONT : Fld := ⟨0x058, 1, 1, .ro, .zero, false, .one, .any⟩
def LED_SWAP_PEND : Fld := ⟨0x058, 2, 1, .ro, .zero, false, .one, .any⟩
def LED_STAT2_LINE_LOCK : Fld := ⟨0x05C, 0, 12, .ro, .zero, false, .one, .any⟩
def LED_STAT2_SCAN_ON : Fld := ⟨0x05C, 16, 1, .ro, .zero, false, .one, .any⟩
def LED_FAULT_LINE_OC : Fld := ⟨0x060, 0, 12, .w1c, .zero, true, .one, .any⟩
def LED_FAULT_COL_HOT : Fld := ⟨0x060, 16, 1, .w1c, .zero, true, .one, .any⟩
def LED_FAULT_REFUSED : Fld := ⟨0x060, 17, 1, .w1c, .zero, true, .one, .any⟩
def LED_ACT_LINE_CLEAR : Fld := ⟨0x064, 0, 12, .wo, .zero, false, .one, .any⟩
def LED_ACT_DIAG_RUN : Fld := ⟨0x064, 16, 1, .wo, .zero, false, .one, .any⟩
def LED_ACT_RESTART : Fld := ⟨0x064, 17, 1, .wo, .zero, false, .one, .any⟩
def LED_NSHORT_LINE_SHORT : Fld := ⟨0x068, 0, 11, .ro, .zero, false, .one, .any⟩
def LED_NSHORT_COL_SHORT : Fld := ⟨0x068, 16, 11, .ro, .zero, false, .one, .any⟩
def LED_NSHORT_DIAG_DONE : Fld := ⟨0x068, 31, 1, .ro, .zero, false, .one, .any⟩
def LED_OPEN_MAP0 : Fld := ⟨0x070, 0, 32, .w1c, .zero, false, .one, .any⟩
def LED_OPEN_MAP1 : Fld := ⟨0x074, 0, 32, .w1c, .zero, false, .one, .any⟩
def LED_OPEN_MAP2 : Fld := ⟨0x078, 0, 32, .w1c, .zero, false, .one, .any⟩
def LED_OPEN_MAP3 : Fld := ⟨0x07C, 0, 32, .w1c, .zero, false, .one, .any⟩
def LED_OPEN_MAP4 : Fld := ⟨0x080, 0, 16, .w1c, .zero, false, .one, .any⟩
def LED_SHORT_MAP0 : Fld := ⟨0x084, 0, 32, .w1c, .zero, false, .one, .any⟩
def LED_SHORT_MAP1 : Fld := ⟨0x088, 0, 32, .w1c, .zero, false, .one, .any⟩
def LED_SHORT_MAP2 : Fld := ⟨0x08C, 0, 32, .w1c, .zero, false, .one, .any⟩
def LED_SHORT_MAP3 : Fld := ⟨0x090, 0, 32, .w1c, .zero, false, .one, .any⟩
def LED_SHORT_MAP4 : Fld := ⟨0x094, 0, 16, .w1c, .zero, false, .one, .any⟩
def LED_CNT_SWAPS : Fld := ⟨0x098, 0, 16, .ro, .zero, false, .one, .any⟩
def LED_CNT_MISSED : Fld := ⟨0x098, 16, 16, .ro, .zero, false, .one, .any⟩
def LED_BUF0_E : Fld := ⟨0x000, 0, 12, .rw, .zero, false, ⟨0x400, 72, 0x4, 1, 0x0⟩, .any⟩
def LED_BUF0_O : Fld := ⟨0x000, 16, 12, .rw, .zero, false, ⟨0x400, 72, 0x4, 1, 0x0⟩, .any⟩
def LED_BUF1_E : Fld := ⟨0x000, 0, 12, .rw, .zero, false, ⟨0x600, 72, 0x4, 1, 0x0⟩, .any⟩
def LED_BUF1_O : Fld := ⟨0x000, 16, 12, .rw, .zero, false, ⟨0x600, 72, 0x4, 1, 0x0⟩, .any⟩

/-- Every field of kind LED. -/
def fieldsLED : List Fld :=
  [LED_CFG_SYNC_SRC, LED_CFG_PRIO, LED_SCAN_DIV, LED_SCAN_PRE, LED_COL_I0, 
   LED_COL_I1, LED_COL_I2, LED_COL_I3, LED_COL_I4, LED_COL_I5, LED_COL_I6, 
   LED_COL_I7, LED_COL_I8, LED_COL_I9, LED_COL_I10, LED_COL_I11, LED_FTIMER_PERIOD, 
   LED_SWAP_REQ, LED_SWAP_FRONT, LED_SWAP_PEND, LED_STAT2_LINE_LOCK, LED_STAT2_SCAN_ON, 
   LED_FAULT_LINE_OC, LED_FAULT_COL_HOT, LED_FAULT_REFUSED, LED_ACT_LINE_CLEAR, 
   LED_ACT_DIAG_RUN, LED_ACT_RESTART, LED_NSHORT_LINE_SHORT, LED_NSHORT_COL_SHORT, 
   LED_NSHORT_DIAG_DONE, LED_OPEN_MAP0, LED_OPEN_MAP1, LED_OPEN_MAP2, LED_OPEN_MAP3, 
   LED_OPEN_MAP4, LED_SHORT_MAP0, LED_SHORT_MAP1, LED_SHORT_MAP2, LED_SHORT_MAP3] ++
  [LED_SHORT_MAP4, LED_CNT_SWAPS, LED_CNT_MISSED, LED_BUF0_E, LED_BUF0_O, LED_BUF1_E, LED_BUF1_O]

/-! Page kind LDC: R309. -/
def LDC_CFG_CLKDIV : Fld := ⟨0x040, 0, 6, .rwl, (.k 9), true, .one, (.oneOf [(4, 49)])⟩
def LDC_CFG_N_DRV : Fld := ⟨0x040, 8, 5, .rwl, .zero, true, .one, .any⟩
def LDC_CFG_CH : Fld := ⟨0x040, 16, 6, .rwl, (.k 16), true, .one, (.oneOf [(1, 48)])⟩
def LDC_CFG_BITS : Fld := ⟨0x040, 24, 2, .rwl, (.k 2), true, .one, (.oneOf [(0, 2)])⟩
def LDC_CFG_VERIFY : Fld := ⟨0x040, 28, 1, .rw, (.k 1), true, .one, .any⟩
def LDC_REFRESH : Fld := ⟨0x044, 0, 10, .rw, (.k 100), true, .one, (.oneOf [(0, 1000)])⟩
def LDC_FADDR_INDEX : Fld := ⟨0x048, 0, 11, .rw, .zero, false, .one, (.oneOf [(0, 1535)])⟩
def LDC_FADDR_BUF : Fld := ⟨0x048, 16, 1, .rw, .zero, false, .one, .any⟩
def LDC_FDATA : Fld := ⟨0x04C, 0, 16, .rw, .zero, false, .one, .any⟩
def LDC_STAT2_BUSY : Fld := ⟨0x050, 0, 1, .ro, .zero, false, .one, .any⟩
def LDC_STAT2_VERIFY_VALID : Fld := ⟨0x050, 1, 1, .ro, .zero, false, .one, .any⟩
def LDC_FAULT_LOOP_ERR : Fld := ⟨0x054, 0, 1, .w1c, .zero, true, .one, .any⟩
def LDC_FAULT_RET_STUCK : Fld := ⟨0x054, 1, 1, .w1c, .zero, true, .one, .any⟩
def LDC_ERR_POS : Fld := ⟨0x058, 0, 15, .ro, .zero, false, .one, .any⟩
def LDC_CNT_TRANSFERS : Fld := ⟨0x05C, 0, 16, .ro, .zero, false, .one, .any⟩
def LDC_CNT_POSTPONED : Fld := ⟨0x05C, 16, 16, .ro, .zero, false, .one, .any⟩

/-- Every field of kind LDC. -/
def fieldsLDC : List Fld :=
  [LDC_CFG_CLKDIV, LDC_CFG_N_DRV, LDC_CFG_CH, LDC_CFG_BITS, LDC_CFG_VERIFY, 
   LDC_REFRESH, LDC_FADDR_INDEX, LDC_FADDR_BUF, LDC_FDATA, LDC_STAT2_BUSY, 
   LDC_STAT2_VERIFY_VALID, LDC_FAULT_LOOP_ERR, LDC_FAULT_RET_STUCK, LDC_ERR_POS, 
   LDC_CNT_TRANSFERS, LDC_CNT_POSTPONED]

/-! Page kind AHD: R312. -/
def AHD_CTX_CTRL_STATE : Fld := ⟨0x000, 0, 2, .ro, .zero, false, ⟨0x40, 63, 0x40, 1, 0x0⟩, .any⟩
def AHD_CTX_CTRL_ARM : Fld := ⟨0x000, 4, 1, .rw, .zero, false, ⟨0x40, 63, 0x40, 1, 0x0⟩, .any⟩
def AHD_CTX_CTRL_REMOTE : Fld := ⟨0x000, 5, 1, .ro, .zero, false, ⟨0x40, 63, 0x40, 1, 0x0⟩, .any⟩
def AHD_CTX_CTRL_PRIO : Fld := ⟨0x000, 8, 2, .rw, (.k 3), false, ⟨0x40, 63, 0x40, 1, 0x0⟩, .any⟩
def AHD_CTX_CTRL_PREP_FAIL : Fld := ⟨0x000, 12, 4, .ro, .zero, false, ⟨0x40, 63, 0x40, 1, 0x0⟩, .any⟩
def AHD_CTX_CTRL_SPAN : Fld := ⟨0x000, 17, 7, .ro, .zero, false, ⟨0x40, 63, 0x40, 1, 0x0⟩, .any⟩
def AHD_CTX_CTRL_QREASON : Fld := ⟨0x000, 24, 4, .ro, .zero, false, ⟨0x40, 63, 0x40, 1, 0x0⟩, .any⟩
def AHD_CTX_CTRL_COMMIT_REFUSED : Fld := ⟨0x000, 28, 1, .w1c, .zero, false, ⟨0x40, 63, 0x40, 1, 0x0⟩, .any⟩
def AHD_CTX_CTRL_TRIGGER : Fld := ⟨0x000, 29, 1, .wo, .zero, false, ⟨0x40, 63, 0x40, 1, 0x0⟩, .any⟩
def AHD_CTX_CTRL_CANCEL : Fld := ⟨0x000, 30, 1, .wo, .zero, false, ⟨0x40, 63, 0x40, 1, 0x0⟩, .any⟩
def AHD_CTX_CTRL_CONFIRM : Fld := ⟨0x000, 31, 1, .wo, .zero, false, ⟨0x40, 63, 0x40, 1, 0x0⟩, .any⟩
def AHD_TRIG_SRC : Fld := ⟨0x004, 0, 4, .ro, .zero, false, ⟨0x40, 63, 0x40, 1, 0x0⟩, .any⟩
def AHD_TRIG_IDX : Fld := ⟨0x004, 4, 8, .ro, .zero, false, ⟨0x40, 63, 0x40, 1, 0x0⟩, .any⟩
def AHD_TRIG_ENTRY : Fld := ⟨0x004, 16, 5, .ro, .zero, false, ⟨0x40, 63, 0x40, 1, 0x0⟩, .any⟩
def AHD_CONFIRM_KIND : Fld := ⟨0x008, 0, 4, .rw, .zero, false, ⟨0x40, 63, 0x40, 1, 0x0⟩, (.oneOf [(0, 6)])⟩
def AHD_CONFIRM_IDX : Fld := ⟨0x008, 8, 8, .rw, .zero, false, ⟨0x40, 63, 0x40, 1, 0x0⟩, .any⟩
def AHD_CONFIRM_CAN : Fld := ⟨0x008, 16, 3, .rw, .zero, false, ⟨0x40, 63, 0x40, 1, 0x0⟩, .any⟩
def AHD_CONFIRM_LEVEL : Fld := ⟨0x008, 20, 1, .rw, (.k 1), false, ⟨0x40, 63, 0x40, 1, 0x0⟩, .any⟩
def AHD_CONFIRM_MISS : Fld := ⟨0x008, 21, 1, .rw, .zero, false, ⟨0x40, 63, 0x40, 1, 0x0⟩, .any⟩
def AHD_DEADLINE : Fld := ⟨0x00C, 0, 24, .rw, .zero, false, ⟨0x40, 63, 0x40, 1, 0x0⟩, (.oneOf [(1, 16777215)])⟩
def AHD_PREP0 : Fld := ⟨0x010, 0, 32, .rw, .zero, false, ⟨0x40, 63, 0x40, 1, 0x0⟩, .any⟩
def AHD_PREP1 : Fld := ⟨0x014, 0, 32, .rw, .zero, false, ⟨0x40, 63, 0x40, 1, 0x0⟩, .any⟩
def AHD_PREP2 : Fld := ⟨0x018, 0, 32, .rw, .zero, false, ⟨0x40, 63, 0x40, 1, 0x0⟩, .any⟩
def AHD_PREP3 : Fld := ⟨0x01C, 0, 32, .rw, .zero, false, ⟨0x40, 63, 0x40, 1, 0x0⟩, .any⟩
def AHD_COMMIT0 : Fld := ⟨0x020, 0, 32, .rw, .zero, false, ⟨0x40, 63, 0x40, 1, 0x0⟩, .any⟩
def AHD_COMMIT1 : Fld := ⟨0x024, 0, 32, .rw, .zero, false, ⟨0x40, 63, 0x40, 1, 0x0⟩, .any⟩
def AHD_COMMIT2 : Fld := ⟨0x028, 0, 32, .rw, .zero, false, ⟨0x40, 63, 0x40, 1, 0x0⟩, .any⟩
def AHD_COMMIT3 : Fld := ⟨0x02C, 0, 32, .rw, .zero, false, ⟨0x40, 63, 0x40, 1, 0x0⟩, .any⟩
def AHD_QUENCH_RESTORE_DOMAINS : Fld := ⟨0x030, 0, 1, .rw, .zero, false, ⟨0x40, 63, 0x40, 1, 0x0⟩, .any⟩
def AHD_QUENCH_REARM : Fld := ⟨0x030, 1, 1, .rw, (.k 1), false, ⟨0x40, 63, 0x40, 1, 0x0⟩, .any⟩
def AHD_QUENCH_HOLDOFF : Fld := ⟨0x030, 8, 8, .rw, .zero, false, ⟨0x40, 63, 0x40, 1, 0x0⟩, .any⟩
def AHD_CTX_TS : Fld := ⟨0x034, 0, 32, .ro, .zero, false, ⟨0x40, 63, 0x40, 1, 0x0⟩, .any⟩
def AHD_CTX_LAT_T_CONF : Fld := ⟨0x038, 0, 16, .ro, .zero, false, ⟨0x40, 63, 0x40, 1, 0x0⟩, .any⟩
def AHD_CTX_LAT_T_COMMIT : Fld := ⟨0x038, 16, 16, .ro, .zero, false, ⟨0x40, 63, 0x40, 1, 0x0⟩, .any⟩
def AHD_CTX_STAT_SIMMERS : Fld := ⟨0x03C, 0, 8, .ro, .zero, false, ⟨0x40, 63, 0x40, 1, 0x0⟩, .any⟩
def AHD_CTX_STAT_BOILS : Fld := ⟨0x03C, 8, 8, .ro, .zero, false, ⟨0x40, 63, 0x40, 1, 0x0⟩, .any⟩
def AHD_CTX_STAT_QUENCHES : Fld := ⟨0x03C, 16, 8, .ro, .zero, false, ⟨0x40, 63, 0x40, 1, 0x0⟩, .any⟩
def AHD_CTX_STAT_RETRIGS : Fld := ⟨0x03C, 24, 8, .ro, .zero, false, ⟨0x40, 63, 0x40, 1, 0x0⟩, .any⟩

/-- Every field of kind AHD. -/
def fieldsAHD : List Fld :=
  [AHD_CTX_CTRL_STATE, AHD_CTX_CTRL_ARM, AHD_CTX_CTRL_REMOTE, AHD_CTX_CTRL_PRIO, 
   AHD_CTX_CTRL_PREP_FAIL, AHD_CTX_CTRL_SPAN, AHD_CTX_CTRL_QREASON, AHD_CTX_CTRL_COMMIT_REFUSED, 
   AHD_CTX_CTRL_TRIGGER, AHD_CTX_CTRL_CANCEL, AHD_CTX_CTRL_CONFIRM, AHD_TRIG_SRC, 
   AHD_TRIG_IDX, AHD_TRIG_ENTRY, AHD_CONFIRM_KIND, AHD_CONFIRM_IDX, AHD_CONFIRM_CAN, 
   AHD_CONFIRM_LEVEL, AHD_CONFIRM_MISS, AHD_DEADLINE, AHD_PREP0, AHD_PREP1, 
   AHD_PREP2, AHD_PREP3, AHD_COMMIT0, AHD_COMMIT1, AHD_COMMIT2, AHD_COMMIT3, 
   AHD_QUENCH_RESTORE_DOMAINS, AHD_QUENCH_REARM, AHD_QUENCH_HOLDOFF, AHD_CTX_TS, 
   AHD_CTX_LAT_T_CONF, AHD_CTX_LAT_T_COMMIT, AHD_CTX_STAT_SIMMERS, AHD_CTX_STAT_BOILS, 
   AHD_CTX_STAT_QUENCHES, AHD_CTX_STAT_RETRIGS]

/-! Page kind AHT: R320, R339. -/
def AHT_SRC : Fld := ⟨0x000, 0, 4, .rw, .zero, false, ⟨0x100, 32, 0x4, 1, 0x0⟩, (.oneOf [(1, 10)])⟩
def AHT_IDX : Fld := ⟨0x000, 4, 8, .rw, (.k 255), false, ⟨0x100, 32, 0x4, 1, 0x0⟩, .any⟩
def AHT_EDGE : Fld := ⟨0x000, 12, 2, .rw, (.k 3), false, ⟨0x100, 32, 0x4, 1, 0x0⟩, .any⟩
def AHT_SLOT : Fld := ⟨0x000, 16, 6, .rw, .zero, false, ⟨0x100, 32, 0x4, 1, 0x0⟩, .any⟩
def AHT_EN : Fld := ⟨0x000, 31, 1, .rw, .zero, false, ⟨0x100, 32, 0x4, 1, 0x0⟩, .any⟩
def AHT_CFG_PREHEAT_LIMIT : Fld := ⟨0x040, 0, 4, .rwl, (.k 5), false, .one, (.oneOf [(1, 10)])⟩
def AHT_CNT_TRIGGERS : Fld := ⟨0x044, 0, 16, .ro, .zero, false, .one, .any⟩
def AHT_CNT_LOST : Fld := ⟨0x044, 16, 16, .ro, .zero, false, .one, .any⟩
def AHT_ENERGY : Fld := ⟨0x048, 0, 24, .ro, .zero, false, .one, .any⟩
def AHT_LAST_SRC : Fld := ⟨0x04C, 0, 4, .ro, .zero, false, .one, .any⟩
def AHT_LAST_IDX : Fld := ⟨0x04C, 4, 8, .ro, .zero, false, .one, .any⟩
def AHT_LAST_ENTRY : Fld := ⟨0x04C, 16, 5, .ro, .zero, false, .one, .any⟩
def AHT_LAST_RESULT : Fld := ⟨0x04C, 24, 2, .ro, .zero, false, .one, .any⟩
def AHT_BOILED_LO : Fld := ⟨0x050, 1, 31, .w1c, .zero, false, .one, .any⟩
def AHT_BOILED_HI : Fld := ⟨0x054, 0, 32, .w1c, .zero, false, .one, .any⟩
def AHT_QUENCHED_LO : Fld := ⟨0x058, 1, 31, .w1c, .zero, false, .one, .any⟩
def AHT_QUENCHED_HI : Fld := ⟨0x05C, 0, 32, .w1c, .zero, false, .one, .any⟩

/-- Every field of kind AHT. -/
def fieldsAHT : List Fld :=
  [AHT_SRC, AHT_IDX, AHT_EDGE, AHT_SLOT, AHT_EN, AHT_CFG_PREHEAT_LIMIT, 
   AHT_CNT_TRIGGERS, AHT_CNT_LOST, AHT_ENERGY, AHT_LAST_SRC, AHT_LAST_IDX, 
   AHT_LAST_ENTRY, AHT_LAST_RESULT, AHT_BOILED_LO, AHT_BOILED_HI, AHT_QUENCHED_LO, 
   AHT_QUENCHED_HI]

/-! Page kind FER: R346. -/
def FER_RUN_MAP : Fld := ⟨0x040, 0, 6, .ro, .zero, false, .one, .any⟩
def FER_GCFG_START : Fld := ⟨0x000, 0, 10, .rwl, .zero, true, ⟨0x80, 6, 0x80, 1, 0x0⟩, (.oneOf [(0, 767)])⟩
def FER_GCFG_LEN : Fld := ⟨0x000, 10, 10, .rwl, .zero, true, ⟨0x80, 6, 0x80, 1, 0x0⟩, (.oneOf [(0, 768)])⟩
def FER_GCFG_TRIG : Fld := ⟨0x000, 20, 7, .rwl, .zero, true, ⟨0x80, 6, 0x80, 1, 0x0⟩, .any⟩
def FER_GCFG_STOP : Fld := ⟨0x000, 27, 1, .rwl, .zero, true, ⟨0x80, 6, 0x80, 1, 0x0⟩, .any⟩
def FER_GCTRL_RUN : Fld := ⟨0x004, 0, 1, .w1s, .zero, false, ⟨0x80, 6, 0x80, 1, 0x0⟩, .any⟩
def FER_GCTRL_STOP_REQ : Fld := ⟨0x004, 1, 1, .wo, .zero, false, ⟨0x80, 6, 0x80, 1, 0x0⟩, .any⟩
def FER_GSTAT_RUNNING : Fld := ⟨0x008, 0, 1, .ro, .zero, false, ⟨0x80, 6, 0x80, 1, 0x0⟩, .any⟩
def FER_GSTAT_WAIT_TRIG : Fld := ⟨0x008, 1, 1, .ro, .zero, false, ⟨0x80, 6, 0x80, 1, 0x0⟩, .any⟩
def FER_GSTAT_END : Fld := ⟨0x008, 2, 1, .w1c, .zero, false, ⟨0x80, 6, 0x80, 1, 0x0⟩, .any⟩
def FER_GSTAT_BAD_OP : Fld := ⟨0x008, 3, 1, .w1c, .zero, false, ⟨0x80, 6, 0x80, 1, 0x0⟩, .any⟩
def FER_GSTAT_BURST : Fld := ⟨0x008, 4, 1, .w1c, .zero, false, ⟨0x80, 6, 0x80, 1, 0x0⟩, .any⟩
def FER_GSTAT_LOOP_LEFT : Fld := ⟨0x008, 8, 7, .ro, .zero, false, ⟨0x80, 6, 0x80, 1, 0x0⟩, .any⟩
def FER_GSTAT_POS : Fld := ⟨0x008, 16, 10, .ro, .zero, false, ⟨0x80, 6, 0x80, 1, 0x0⟩, .any⟩
def FER_GSTART_LO : Fld := ⟨0x00C, 0, 32, .ro, .zero, false, ⟨0x80, 6, 0x80, 1, 0x0⟩, .any⟩
def FER_GSTART_HI : Fld := ⟨0x010, 0, 32, .ro, .zero, false, ⟨0x80, 6, 0x80, 1, 0x0⟩, .any⟩
def FER_MAP_CODE : Fld := ⟨0x000, 0, 8, .rwl, (.k 255), true, ⟨0xC0, 6, 0x80, 16, 0x4⟩, (.oneOf [(0, 61), (255, 255)])⟩
def FER_MAP_STOP_ON : Fld := ⟨0x000, 8, 1, .rwl, .zero, true, ⟨0xC0, 6, 0x80, 16, 0x4⟩, .any⟩
def FER_MAP_STOP_DUTY : Fld := ⟨0x000, 16, 12, .rwl, (.k 4095), true, ⟨0xC0, 6, 0x80, 16, 0x4⟩, .any⟩
def FER_TABLE : Fld := ⟨0x000, 0, 32, .rw, .zero, false, ⟨0x400, 768, 0x4, 1, 0x0⟩, .any⟩

/-- Every field of kind FER. -/
def fieldsFER : List Fld :=
  [FER_RUN_MAP, FER_GCFG_START, FER_GCFG_LEN, FER_GCFG_TRIG, FER_GCFG_STOP, 
   FER_GCTRL_RUN, FER_GCTRL_STOP_REQ, FER_GSTAT_RUNNING, FER_GSTAT_WAIT_TRIG, 
   FER_GSTAT_END, FER_GSTAT_BAD_OP, FER_GSTAT_BURST, FER_GSTAT_LOOP_LEFT, FER_GSTAT_POS, 
   FER_GSTART_LO, FER_GSTART_HI, FER_MAP_CODE, FER_MAP_STOP_ON, FER_MAP_STOP_DUTY, 
   FER_TABLE]

end Sys2Proof.Machine
end

