-- ==== Sys2Proof/Machine/MapNetwork.lean ====
section
/-! DEFINITION. The register map of the networks: one `Fld` per field of the spec's register
tables (offset, low bit, width, access, reset, kept, block, legal values), and one list of them per page kind. -/

namespace Sys2Proof.Machine

/-! Page kind CAN: R374. -/
def CAN_CFG_FD_EN : Fld := ⟨0x040, 0, 1, .rwl, (.k 1), true, .one, .any⟩
def CAN_CFG_BRS_EN : Fld := ⟨0x040, 1, 1, .rwl, (.k 1), true, .one, .any⟩
def CAN_CFG_LISTEN : Fld := ⟨0x040, 2, 1, .rwl, .zero, true, .one, .any⟩
def CAN_CFG_ACK_ONLY : Fld := ⟨0x040, 3, 1, .rwl, .zero, true, .one, .any⟩
def CAN_CFG_LOOPBACK : Fld := ⟨0x040, 4, 1, .rwl, .zero, true, .one, .any⟩
def CAN_CFG_BUSOFF_AUTO : Fld := ⟨0x040, 5, 1, .rwl, (.k 1), true, .one, .any⟩
def CAN_CFG_PROTEX_ERR : Fld := ⟨0x040, 6, 1, .rwl, .zero, true, .one, .any⟩
def CAN_CFG_ONE_SHOT : Fld := ⟨0x040, 7, 1, .rwl, .zero, true, .one, .any⟩
def CAN_ARB_TIMING_SEG1 : Fld := ⟨0x044, 0, 9, .rwl, (.k 127), true, .one, (.oneOf [(2, 256)])⟩
def CAN_ARB_TIMING_SEG2 : Fld := ⟨0x044, 9, 8, .rwl, (.k 32), true, .one, (.oneOf [(2, 128)])⟩
def CAN_ARB_TIMING_SJW : Fld := ⟨0x044, 17, 8, .rwl, (.k 32), true, .one, (.oneOf [(1, 128)])⟩
def CAN_FAST_TIMING_SEG1 : Fld := ⟨0x048, 0, 6, .rwl, (.k 31), true, .one, (.oneOf [(1, 32)])⟩
def CAN_FAST_TIMING_SEG2 : Fld := ⟨0x048, 6, 5, .rwl, (.k 8), true, .one, (.oneOf [(1, 16)])⟩
def CAN_FAST_TIMING_SJW : Fld := ⟨0x048, 11, 5, .rwl, (.k 8), true, .one, (.oneOf [(1, 16)])⟩
def CAN_FAST_TIMING_TDC_EN : Fld := ⟨0x048, 31, 1, .rwl, (.k 1), true, .one, .any⟩
def CAN_SCALE_ARB_PRESC : Fld := ⟨0x04C, 0, 10, .rwl, (.k 1), true, .one, (.oneOf [(1, 512)])⟩
def CAN_SCALE_FAST_PRESC : Fld := ⟨0x04C, 10, 6, .rwl, (.k 1), true, .one, (.oneOf [(1, 32)])⟩
def CAN_SCALE_SSP_OFF : Fld := ⟨0x04C, 16, 7, .rwl, (.k 32), true, .one, (.oneOf [(1, 127)])⟩
def CAN_SCALE_TDC_MIN : Fld := ⟨0x04C, 23, 7, .rwl, .zero, true, .one, .any⟩
def CAN_TSCOMP : Fld := ⟨0x050, 0, 10, .rw, .zero, true, .one, .any⟩
def CAN_NOMATCH_BASE_ACT : Fld := ⟨0x054, 0, 2, .rw, .zero, true, .one, (.oneOf [(0, 2)])⟩
def CAN_NOMATCH_EXT_ACT : Fld := ⟨0x054, 2, 2, .rw, .zero, true, .one, (.oneOf [(0, 2)])⟩
def CAN_NOMATCH_REM_BASE : Fld := ⟨0x054, 4, 1, .rw, .zero, true, .one, .any⟩
def CAN_NOMATCH_REM_EXT : Fld := ⟨0x054, 5, 1, .rw, .zero, true, .one, .any⟩
def CAN_FILTERS_BASE : Fld := ⟨0x058, 0, 14, .rw, .zero, true, .one, .any⟩
def CAN_FILTERS_COUNT : Fld := ⟨0x058, 16, 9, .rw, .zero, true, .one, (.oneOf [(0, 256)])⟩
def CAN_RXQ0_CFG_BASE : Fld := ⟨0x05C, 0, 14, .rw, .zero, true, .one, .any⟩
def CAN_RXQ0_CFG_DEPTH : Fld := ⟨0x05C, 16, 7, .rw, .zero, true, .one, (.oneOf [(0, 64)])⟩
def CAN_RXQ0_CFG_LEVEL : Fld := ⟨0x05C, 24, 7, .rw, .zero, true, .one, .any⟩
def CAN_RXQ0_CFG_OVERWRITE : Fld := ⟨0x05C, 31, 1, .rw, .zero, true, .one, .any⟩
def CAN_RXQ0_STAT_USED : Fld := ⟨0x060, 0, 7, .ro, .zero, false, .one, .any⟩
def CAN_RXQ0_STAT_RD : Fld := ⟨0x060, 8, 6, .ro, .zero, false, .one, .any⟩
def CAN_RXQ0_STAT_WR : Fld := ⟨0x060, 16, 6, .ro, .zero, false, .one, .any⟩
def CAN_RXQ0_STAT_FULL : Fld := ⟨0x060, 24, 1, .ro, .zero, false, .one, .any⟩
def CAN_RXQ0_REL : Fld := ⟨0x064, 0, 7, .wo, .zero, false, .one, (.oneOf [(1, 64)])⟩
def CAN_DSIZE_Q0 : Fld := ⟨0x074, 0, 3, .rw, .zero, true, .one, .any⟩
def CAN_DSIZE_Q1 : Fld := ⟨0x074, 4, 3, .rw, .zero, true, .one, .any⟩
def CAN_DSIZE_RXSLOT : Fld := ⟨0x074, 8, 3, .rw, .zero, true, .one, .any⟩
def CAN_DSIZE_TXSLOT : Fld := ⟨0x074, 12, 3, .rw, .zero, true, .one, .any⟩
def CAN_RXSLOT_BASE : Fld := ⟨0x078, 0, 14, .rw, .zero, true, .one, .any⟩
def CAN_RXSLOT_COUNT : Fld := ⟨0x078, 16, 7, .rw, .zero, true, .one, (.oneOf [(0, 64)])⟩
def CAN_TXSLOT_BASE : Fld := ⟨0x07C, 0, 14, .rw, .zero, true, .one, .any⟩
def CAN_TXSLOT_COUNT : Fld := ⟨0x07C, 16, 6, .rw, .zero, true, .one, (.oneOf [(0, 32)])⟩
def CAN_RXSLOT_NEW0 : Fld := ⟨0x080, 0, 32, .w1c, .zero, false, .one, .any⟩
def CAN_RXSLOT_NEW1 : Fld := ⟨0x084, 0, 32, .w1c, .zero, false, .one, .any⟩
def CAN_TX_PEND : Fld := ⟨0x088, 0, 32, .ro, .zero, false, .one, .any⟩
def CAN_TX_REQ : Fld := ⟨0x08C, 0, 32, .w1s, .zero, false, .one, .any⟩
def CAN_TX_ABORT : Fld := ⟨0x090, 0, 32, .w1s, .zero, false, .one, .any⟩
def CAN_TX_DONE : Fld := ⟨0x094, 0, 32, .ro, .zero, false, .one, .any⟩
def CAN_TX_ABORTED : Fld := ⟨0x098, 0, 32, .ro, .zero, false, .one, .any⟩
def CAN_TX_STAGED : Fld := ⟨0x09C, 0, 32, .ro, .zero, false, .one, .any⟩
def CAN_ERRCNT_TX : Fld := ⟨0x0A0, 0, 8, .ro, .zero, false, .one, .any⟩
def CAN_ERRCNT_RX : Fld := ⟨0x0A0, 8, 7, .ro, .zero, false, .one, .any⟩
def CAN_ERRCNT_RX_PASSIVE : Fld := ⟨0x0A0, 15, 1, .ro, .zero, false, .one, .any⟩
def CAN_BUSSTAT_ARB_ERR : Fld := ⟨0x0A4, 0, 3, .ro, .zero, false, .one, .any⟩
def CAN_BUSSTAT_ACTIVITY : Fld := ⟨0x0A4, 3, 2, .ro, .zero, false, .one, .any⟩
def CAN_BUSSTAT_PASSIVE : Fld := ⟨0x0A4, 5, 1, .ro, .zero, false, .one, .any⟩
def CAN_BUSSTAT_WARNING : Fld := ⟨0x0A4, 6, 1, .ro, .zero, false, .one, .any⟩
def CAN_BUSSTAT_BUSOFF : Fld := ⟨0x0A4, 7, 1, .ro, .zero, false, .one, .any⟩
def CAN_BUSSTAT_DATA_ERR : Fld := ⟨0x0A4, 8, 3, .ro, .zero, false, .one, .any⟩
def CAN_BUSSTAT_PROTEX : Fld := ⟨0x0A4, 14, 1, .w1c, .zero, false, .one, .any⟩
def CAN_TXTS_HEAD_TAG : Fld := ⟨0x0A8, 0, 8, .ro, .zero, false, .one, .any⟩
def CAN_TXTS_HEAD_FILL : Fld := ⟨0x0A8, 8, 5, .ro, .zero, false, .one, .any⟩
def CAN_TXTS_HEAD_VALID : Fld := ⟨0x0A8, 16, 1, .ro, .zero, false, .one, .any⟩
def CAN_TXTS_HEAD_OVF : Fld := ⟨0x0A8, 17, 1, .w1c, .zero, false, .one, .any⟩
def CAN_TXTS_LO : Fld := ⟨0x0AC, 0, 32, .ro, .zero, false, .one, .any⟩
def CAN_TXTS_HI : Fld := ⟨0x0B0, 0, 32, .ro, .zero, false, .one, .any⟩
def CAN_TXTS_POP : Fld := ⟨0x0B4, 0, 1, .wo, .zero, false, .one, .any⟩
def CAN_TXTS_DROPS : Fld := ⟨0x0B8, 0, 16, .ro, .zero, false, .one, .any⟩
def CAN_LOST_Q0 : Fld := ⟨0x0BC, 0, 16, .ro, .zero, false, .one, .any⟩
def CAN_LOST_Q1 : Fld := ⟨0x0BC, 16, 16, .ro, .zero, false, .one, .any⟩
def CAN_SLOT_OVW : Fld := ⟨0x0C0, 0, 16, .ro, .zero, false, .one, .any⟩
def CAN_RXQ1_CFG_BASE : Fld := ⟨0x068, 0, 14, .rw, .zero, true, .one, .any⟩
def CAN_RXQ1_CFG_DEPTH : Fld := ⟨0x068, 16, 7, .rw, .zero, true, .one, (.oneOf [(0, 64)])⟩
def CAN_RXQ1_CFG_LEVEL : Fld := ⟨0x068, 24, 7, .rw, .zero, true, .one, .any⟩
def CAN_RXQ1_CFG_OVERWRITE : Fld := ⟨0x068, 31, 1, .rw, .zero, true, .one, .any⟩
def CAN_RXQ1_STAT_USED : Fld := ⟨0x06C, 0, 7, .ro, .zero, false, .one, .any⟩
def CAN_RXQ1_STAT_RD : Fld := ⟨0x06C, 8, 6, .ro, .zero, false, .one, .any⟩
def CAN_RXQ1_STAT_WR : Fld := ⟨0x06C, 16, 6, .ro, .zero, false, .one, .any⟩
def CAN_RXQ1_STAT_FULL : Fld := ⟨0x06C, 24, 1, .ro, .zero, false, .one, .any⟩
def CAN_RXQ1_REL : Fld := ⟨0x070, 0, 7, .wo, .zero, false, .one, (.oneOf [(1, 64)])⟩

/-- Every field of kind CAN. -/
def fieldsCAN : List Fld :=
  [CAN_CFG_FD_EN, CAN_CFG_BRS_EN, CAN_CFG_LISTEN, CAN_CFG_ACK_ONLY, CAN_CFG_LOOPBACK, 
   CAN_CFG_BUSOFF_AUTO, CAN_CFG_PROTEX_ERR, CAN_CFG_ONE_SHOT, CAN_ARB_TIMING_SEG1, 
   CAN_ARB_TIMING_SEG2, CAN_ARB_TIMING_SJW, CAN_FAST_TIMING_SEG1, CAN_FAST_TIMING_SEG2, 
   CAN_FAST_TIMING_SJW, CAN_FAST_TIMING_TDC_EN, CAN_SCALE_ARB_PRESC, CAN_SCALE_FAST_PRESC, 
   CAN_SCALE_SSP_OFF, CAN_SCALE_TDC_MIN, CAN_TSCOMP, CAN_NOMATCH_BASE_ACT, 
   CAN_NOMATCH_EXT_ACT, CAN_NOMATCH_REM_BASE, CAN_NOMATCH_REM_EXT, CAN_FILTERS_BASE, 
   CAN_FILTERS_COUNT, CAN_RXQ0_CFG_BASE, CAN_RXQ0_CFG_DEPTH, CAN_RXQ0_CFG_LEVEL, 
   CAN_RXQ0_CFG_OVERWRITE, CAN_RXQ0_STAT_USED, CAN_RXQ0_STAT_RD, CAN_RXQ0_STAT_WR, 
   CAN_RXQ0_STAT_FULL, CAN_RXQ0_REL, CAN_DSIZE_Q0, CAN_DSIZE_Q1, CAN_DSIZE_RXSLOT, 
   CAN_DSIZE_TXSLOT, CAN_RXSLOT_BASE] ++
  [CAN_RXSLOT_COUNT, CAN_TXSLOT_BASE, CAN_TXSLOT_COUNT, CAN_RXSLOT_NEW0, 
   CAN_RXSLOT_NEW1, CAN_TX_PEND, CAN_TX_REQ, CAN_TX_ABORT, CAN_TX_DONE, CAN_TX_ABORTED, 
   CAN_TX_STAGED, CAN_ERRCNT_TX, CAN_ERRCNT_RX, CAN_ERRCNT_RX_PASSIVE, CAN_BUSSTAT_ARB_ERR, 
   CAN_BUSSTAT_ACTIVITY, CAN_BUSSTAT_PASSIVE, CAN_BUSSTAT_WARNING, CAN_BUSSTAT_BUSOFF, 
   CAN_BUSSTAT_DATA_ERR, CAN_BUSSTAT_PROTEX, CAN_TXTS_HEAD_TAG, CAN_TXTS_HEAD_FILL, 
   CAN_TXTS_HEAD_VALID, CAN_TXTS_HEAD_OVF, CAN_TXTS_LO, CAN_TXTS_HI, CAN_TXTS_POP, 
   CAN_TXTS_DROPS, CAN_LOST_Q0, CAN_LOST_Q1, CAN_SLOT_OVW, CAN_RXQ1_CFG_BASE, 
   CAN_RXQ1_CFG_DEPTH, CAN_RXQ1_CFG_LEVEL, CAN_RXQ1_CFG_OVERWRITE, CAN_RXQ1_STAT_USED, 
   CAN_RXQ1_STAT_RD, CAN_RXQ1_STAT_WR, CAN_RXQ1_STAT_FULL] ++
  [CAN_RXQ1_REL]

/-! Page kind CANTT: R374. -/
def CAN_SCHED_CFG_EN : Fld := ⟨0x100, 0, 1, .rwl, .zero, true, .one, .any⟩
def CAN_SCHED_CFG_LEVEL2 : Fld := ⟨0x100, 1, 1, .rwl, (.k 1), true, .one, .any⟩
def CAN_SCHED_CFG_MASTER : Fld := ⟨0x100, 2, 1, .rwl, .zero, true, .one, .any⟩
def CAN_SCHED_CFG_MPRIO : Fld := ⟨0x100, 3, 3, .rwl, .zero, true, .one, .any⟩
def CAN_SCHED_CFG_CYC : Fld := ⟨0x100, 8, 3, .rwl, .zero, true, .one, (.oneOf [(0, 6)])⟩
def CAN_SCHED_CFG_MSC_LIM : Fld := ⟨0x100, 12, 4, .rwl, (.k 3), true, .one, .any⟩
def CAN_SCHED_CFG_AWD : Fld := ⟨0x100, 16, 16, .rwl, .zero, true, .one, .any⟩
def CAN_REFMSG_ID : Fld := ⟨0x104, 0, 29, .rwl, .zero, true, .one, .any⟩
def CAN_REFMSG_XTD : Fld := ⟨0x104, 29, 1, .rwl, .zero, true, .one, .any⟩
def CAN_NTU_CFG_NTU : Fld := ⟨0x108, 0, 16, .rwl, (.k 1000), true, .one, (.oneOf [(100, 10000)])⟩
def CAN_NTU_CFG_REF_SLOT : Fld := ⟨0x108, 16, 5, .rwl, .zero, true, .one, .any⟩
def CAN_TRIGLIST_BASE : Fld := ⟨0x10C, 0, 14, .rwl, .zero, true, .one, .any⟩
def CAN_TRIGLIST_COUNT : Fld := ⟨0x10C, 16, 7, .rwl, .zero, true, .one, (.oneOf [(1, 64)])⟩
def CAN_SCHED_CTRL_START : Fld := ⟨0x110, 0, 1, .wo, .zero, false, .one, .any⟩
def CAN_SCHED_CTRL_STOP : Fld := ⟨0x110, 1, 1, .wo, .zero, false, .one, .any⟩
def CAN_SCHED_CTRL_AWD_SERVE : Fld := ⟨0x110, 2, 1, .wo, .zero, false, .one, .any⟩
def CAN_SCHED_STAT_ERR_LEVEL : Fld := ⟨0x114, 0, 2, .ro, .zero, false, .one, .any⟩
def CAN_SCHED_STAT_SYNC : Fld := ⟨0x114, 2, 1, .ro, .zero, false, .one, .any⟩
def CAN_SCHED_STAT_MSTATE : Fld := ⟨0x114, 3, 2, .ro, .zero, false, .one, .any⟩
def CAN_SCHED_STAT_CYCLE : Fld := ⟨0x114, 8, 6, .ro, .zero, false, .one, .any⟩
def CAN_SCHED_STAT_CYCLE_TIME : Fld := ⟨0x114, 16, 16, .ro, .zero, false, .one, .any⟩
def CAN_SCHED_TUR : Fld := ⟨0x118, 0, 32, .ro, (.k 65536), false, .one, .any⟩
def CAN_GLOBAL_TIME : Fld := ⟨0x11C, 0, 16, .ro, .zero, false, .one, .any⟩

/-- Every field of kind CANTT. -/
def fieldsCANTT : List Fld :=
  [CAN_SCHED_CFG_EN, CAN_SCHED_CFG_LEVEL2, CAN_SCHED_CFG_MASTER, CAN_SCHED_CFG_MPRIO, 
   CAN_SCHED_CFG_CYC, CAN_SCHED_CFG_MSC_LIM, CAN_SCHED_CFG_AWD, CAN_REFMSG_ID, 
   CAN_REFMSG_XTD, CAN_NTU_CFG_NTU, CAN_NTU_CFG_REF_SLOT, CAN_TRIGLIST_BASE, 
   CAN_TRIGLIST_COUNT, CAN_SCHED_CTRL_START, CAN_SCHED_CTRL_STOP, CAN_SCHED_CTRL_AWD_SERVE, 
   CAN_SCHED_STAT_ERR_LEVEL, CAN_SCHED_STAT_SYNC, CAN_SCHED_STAT_MSTATE, CAN_SCHED_STAT_CYCLE, 
   CAN_SCHED_STAT_CYCLE_TIME, CAN_SCHED_TUR, CAN_GLOBAL_TIME]

/-! Page kind CTRX: R352, R418. -/
def CTRX_MODE : Fld := ⟨0x000, 0, 3, .rw, (.k 3), false, ⟨0x100, 6, 0x40, 1, 0x0⟩, (.oneOf [(0, 4)])⟩
def CTRX_STAT_TXD_TO : Fld := ⟨0x004, 0, 1, .w1c, .zero, false, ⟨0x100, 6, 0x40, 1, 0x0⟩, .any⟩
def CTRX_STAT_BUS_DOM : Fld := ⟨0x004, 1, 1, .w1c, .zero, false, ⟨0x100, 6, 0x40, 1, 0x0⟩, .any⟩
def CTRX_STAT_THERMAL : Fld := ⟨0x004, 2, 1, .w1c, .zero, false, ⟨0x100, 6, 0x40, 1, 0x0⟩, .any⟩
def CTRX_STAT_VCC5_LOW : Fld := ⟨0x004, 3, 1, .ro, .zero, false, ⟨0x100, 6, 0x40, 1, 0x0⟩, .any⟩
def CTRX_STAT_MODE_ACT : Fld := ⟨0x004, 4, 3, .ro, (.k 3), false, ⟨0x100, 6, 0x40, 1, 0x0⟩, .any⟩
def CTRX_DELAY_RXDLY : Fld := ⟨0x008, 0, 8, .ro, (.k 75), false, ⟨0x100, 6, 0x40, 1, 0x0⟩, .any⟩
def CTRX_DELAY_LOOP : Fld := ⟨0x008, 16, 8, .ro, (.k 150), false, ⟨0x100, 6, 0x40, 1, 0x0⟩, .any⟩
def CTRX_SWK_ID_ID : Fld := ⟨0x010, 0, 29, .rw, .zero, false, ⟨0x100, 6, 0x40, 1, 0x0⟩, .any⟩
def CTRX_SWK_ID_XTD : Fld := ⟨0x010, 29, 1, .rw, .zero, false, ⟨0x100, 6, 0x40, 1, 0x0⟩, .any⟩
def CTRX_SWK_IDM : Fld := ⟨0x014, 0, 29, .rw, (.k 536870911), false, ⟨0x100, 6, 0x40, 1, 0x0⟩, .any⟩
def CTRX_SWK_CTRL_DLC : Fld := ⟨0x018, 0, 4, .rw, .zero, false, ⟨0x100, 6, 0x40, 1, 0x0⟩, .any⟩
def CTRX_SWK_CTRL_RATE : Fld := ⟨0x018, 4, 2, .rw, (.k 2), false, ⟨0x100, 6, 0x40, 1, 0x0⟩, .any⟩
def CTRX_SWK_CTRL_FD_TOL : Fld := ⟨0x018, 6, 1, .rw, (.k 1), false, ⟨0x100, 6, 0x40, 1, 0x0⟩, .any⟩
def CTRX_DMASK_LO : Fld := ⟨0x01C, 0, 32, .rw, .zero, false, ⟨0x100, 6, 0x40, 1, 0x0⟩, .any⟩
def CTRX_DMASK_HI : Fld := ⟨0x020, 0, 32, .rw, .zero, false, ⟨0x100, 6, 0x40, 1, 0x0⟩, .any⟩
def CTRX_SWK_STAT_FEC : Fld := ⟨0x024, 0, 6, .ro, .zero, false, ⟨0x100, 6, 0x40, 1, 0x0⟩, .any⟩
def CTRX_SWK_STAT_FEC_OVF : Fld := ⟨0x024, 8, 1, .w1c, .zero, false, ⟨0x100, 6, 0x40, 1, 0x0⟩, .any⟩
def CTRX_SWK_STAT_CFG_ERR : Fld := ⟨0x024, 9, 1, .ro, .zero, false, ⟨0x100, 6, 0x40, 1, 0x0⟩, .any⟩
def CTRX_SWK_STAT_MATCH : Fld := ⟨0x024, 10, 1, .w1c, .zero, false, ⟨0x100, 6, 0x40, 1, 0x0⟩, .any⟩
def CTRX_FW_WINDOW : Fld := ⟨0x028, 0, 14, .rw, (.k 500), false, ⟨0x100, 6, 0x40, 1, 0x0⟩, (.oneOf [(10, 10000)])⟩
def CTRX_FW_NM_ONLY : Fld := ⟨0x028, 16, 1, .rw, .zero, false, ⟨0x100, 6, 0x40, 1, 0x0⟩, .any⟩
def CTRX_FW_COUNT : Fld := ⟨0x02C, 0, 16, .ro, .zero, false, ⟨0x100, 6, 0x40, 1, 0x0⟩, .any⟩
def CTRX_FW_CONSEC : Fld := ⟨0x02C, 16, 8, .ro, .zero, false, ⟨0x100, 6, 0x40, 1, 0x0⟩, .any⟩
def CTRX_FW_TS_LO : Fld := ⟨0x030, 0, 32, .ro, .zero, false, ⟨0x100, 6, 0x40, 1, 0x0⟩, .any⟩
def CTRX_FW_TS_HI : Fld := ⟨0x034, 0, 32, .ro, .zero, false, ⟨0x100, 6, 0x40, 1, 0x0⟩, .any⟩

/-- Every field of kind CTRX. -/
def fieldsCTRX : List Fld :=
  [CTRX_MODE, CTRX_STAT_TXD_TO, CTRX_STAT_BUS_DOM, CTRX_STAT_THERMAL, CTRX_STAT_VCC5_LOW, 
   CTRX_STAT_MODE_ACT, CTRX_DELAY_RXDLY, CTRX_DELAY_LOOP, CTRX_SWK_ID_ID, CTRX_SWK_ID_XTD, 
   CTRX_SWK_IDM, CTRX_SWK_CTRL_DLC, CTRX_SWK_CTRL_RATE, CTRX_SWK_CTRL_FD_TOL, 
   CTRX_DMASK_LO, CTRX_DMASK_HI, CTRX_SWK_STAT_FEC, CTRX_SWK_STAT_FEC_OVF, 
   CTRX_SWK_STAT_CFG_ERR, CTRX_SWK_STAT_MATCH, CTRX_FW_WINDOW, CTRX_FW_NM_ONLY, 
   CTRX_FW_COUNT, CTRX_FW_CONSEC, CTRX_FW_TS_LO, CTRX_FW_TS_HI]

/-! Page kind MSG: R375. -/
def MSG_WIN_BASE : Fld := ⟨0x000, 0, 5, .rw, .zero, false, ⟨0x40, 14, 0x4, 1, 0x0⟩, .any⟩
def MSG_ECC_CORR : Fld := ⟨0x078, 0, 16, .ro, .zero, false, .one, .any⟩
def MSG_UE_ADDR : Fld := ⟨0x07C, 0, 14, .ro, .zero, false, .one, .any⟩
def MSG_UE_SEEN : Fld := ⟨0x07C, 31, 1, .w1c, .zero, false, .one, .any⟩

/-- Every field of kind MSG. -/
def fieldsMSG : List Fld :=
  [MSG_WIN_BASE, MSG_ECC_CORR, MSG_UE_ADDR, MSG_UE_SEEN]

/-! Page kind LIN: R379, R390. -/
def LIN_CFG_ROLE : Fld := ⟨0x000, 0, 1, .rwl, .zero, true, ⟨0x100, 4, 0x80, 1, 0x0⟩, .any⟩
def LIN_CFG_SLOPE : Fld := ⟨0x000, 1, 1, .rwl, .zero, true, ⟨0x100, 4, 0x80, 1, 0x0⟩, .any⟩
def LIN_CFG_AUTOBAUD : Fld := ⟨0x000, 2, 1, .rw, (.k 1), true, ⟨0x100, 4, 0x80, 1, 0x0⟩, .any⟩
def LIN_CFG_BAUD : Fld := ⟨0x000, 16, 15, .rwl, (.k 19200), true, ⟨0x100, 4, 0x80, 1, 0x0⟩, (.oneOf [(1000, 20000)])⟩
def LIN_TRX_MODE : Fld := ⟨0x004, 0, 2, .rw, .zero, false, ⟨0x100, 4, 0x80, 1, 0x0⟩, (.oneOf [(0, 2)])⟩
def LIN_TRX_TXD_TO : Fld := ⟨0x004, 4, 1, .w1c, .zero, false, ⟨0x100, 4, 0x80, 1, 0x0⟩, .any⟩
def LIN_SCHED_NEXT : Fld := ⟨0x008, 0, 6, .rw, .zero, false, ⟨0x100, 4, 0x80, 1, 0x0⟩, .any⟩
def LIN_CMD_RUN : Fld := ⟨0x00C, 0, 1, .wo, .zero, false, ⟨0x100, 4, 0x80, 1, 0x0⟩, .any⟩
def LIN_CMD_STOP : Fld := ⟨0x00C, 1, 1, .wo, .zero, false, ⟨0x100, 4, 0x80, 1, 0x0⟩, .any⟩
def LIN_CMD_SLEEP : Fld := ⟨0x00C, 2, 1, .wo, .zero, false, ⟨0x100, 4, 0x80, 1, 0x0⟩, .any⟩
def LIN_CMD_WAKE : Fld := ⟨0x00C, 3, 1, .wo, .zero, false, ⟨0x100, 4, 0x80, 1, 0x0⟩, .any⟩
def LIN_STAT_STATE : Fld := ⟨0x010, 0, 2, .ro, .zero, false, ⟨0x100, 4, 0x80, 1, 0x0⟩, .any⟩
def LIN_STAT_POS : Fld := ⟨0x010, 8, 6, .ro, .zero, false, ⟨0x100, 4, 0x80, 1, 0x0⟩, .any⟩
def LIN_STAT_GOTO_SLEEP : Fld := ⟨0x010, 16, 1, .w1c, .zero, false, ⟨0x100, 4, 0x80, 1, 0x0⟩, .any⟩
def LIN_STAT_BUS_IDLE : Fld := ⟨0x010, 17, 1, .w1c, .zero, false, ⟨0x100, 4, 0x80, 1, 0x0⟩, .any⟩
def LIN_ERR_BIT : Fld := ⟨0x014, 0, 1, .w1c, .zero, false, ⟨0x100, 4, 0x80, 1, 0x0⟩, .any⟩
def LIN_ERR_CS : Fld := ⟨0x014, 1, 1, .w1c, .zero, false, ⟨0x100, 4, 0x80, 1, 0x0⟩, .any⟩
def LIN_ERR_NO_RESP : Fld := ⟨0x014, 2, 1, .w1c, .zero, false, ⟨0x100, 4, 0x80, 1, 0x0⟩, .any⟩
def LIN_ERR_SYNC : Fld := ⟨0x014, 3, 1, .w1c, .zero, false, ⟨0x100, 4, 0x80, 1, 0x0⟩, .any⟩
def LIN_ERR_FRAMING : Fld := ⟨0x014, 4, 1, .w1c, .zero, false, ⟨0x100, 4, 0x80, 1, 0x0⟩, .any⟩
def LIN_ERR_PID_PARITY : Fld := ⟨0x014, 5, 1, .w1c, .zero, false, ⟨0x100, 4, 0x80, 1, 0x0⟩, .any⟩
def LIN_ERR_COLLISION : Fld := ⟨0x014, 6, 1, .w1c, .zero, false, ⟨0x100, 4, 0x80, 1, 0x0⟩, .any⟩
def LIN_ERR_OVERRUN : Fld := ⟨0x014, 7, 1, .w1c, .zero, false, ⟨0x100, 4, 0x80, 1, 0x0⟩, .any⟩
def LIN_ERR_BAD_TABLE : Fld := ⟨0x014, 8, 1, .w1c, .zero, false, ⟨0x100, 4, 0x80, 1, 0x0⟩, .any⟩
def LIN_LAST_DESC : Fld := ⟨0x018, 0, 5, .ro, .zero, false, ⟨0x100, 4, 0x80, 1, 0x0⟩, .any⟩
def LIN_LAST_ID : Fld := ⟨0x018, 8, 6, .ro, .zero, false, ⟨0x100, 4, 0x80, 1, 0x0⟩, .any⟩
def LIN_LAST_OK : Fld := ⟨0x018, 16, 1, .ro, .zero, false, ⟨0x100, 4, 0x80, 1, 0x0⟩, .any⟩
def LIN_LAST_TS_LO : Fld := ⟨0x01C, 0, 32, .ro, .zero, false, ⟨0x100, 4, 0x80, 1, 0x0⟩, .any⟩
def LIN_LAST_TS_HI : Fld := ⟨0x020, 0, 32, .ro, .zero, false, ⟨0x100, 4, 0x80, 1, 0x0⟩, .any⟩
def LIN_STAT2_BAUD_MEAS : Fld := ⟨0x024, 0, 16, .ro, .zero, false, ⟨0x100, 4, 0x80, 1, 0x0⟩, .any⟩
def LIN_CNT_FRAMES : Fld := ⟨0x028, 0, 16, .ro, .zero, false, ⟨0x100, 4, 0x80, 1, 0x0⟩, .any⟩
def LIN_CNT_ERRORS : Fld := ⟨0x028, 16, 16, .ro, .zero, false, ⟨0x100, 4, 0x80, 1, 0x0⟩, .any⟩
def LIN_RAM : Fld := ⟨0x000, 0, 32, .rw, .zero, false, ⟨0x400, 4, 0x300, 192, 0x4⟩, .any⟩

/-- Every field of kind LIN. -/
def fieldsLIN : List Fld :=
  [LIN_CFG_ROLE, LIN_CFG_SLOPE, LIN_CFG_AUTOBAUD, LIN_CFG_BAUD, LIN_TRX_MODE, 
   LIN_TRX_TXD_TO, LIN_SCHED_NEXT, LIN_CMD_RUN, LIN_CMD_STOP, LIN_CMD_SLEEP, 
   LIN_CMD_WAKE, LIN_STAT_STATE, LIN_STAT_POS, LIN_STAT_GOTO_SLEEP, LIN_STAT_BUS_IDLE, 
   LIN_ERR_BIT, LIN_ERR_CS, LIN_ERR_NO_RESP, LIN_ERR_SYNC, LIN_ERR_FRAMING, 
   LIN_ERR_PID_PARITY, LIN_ERR_COLLISION, LIN_ERR_OVERRUN, LIN_ERR_BAD_TABLE, 
   LIN_LAST_DESC, LIN_LAST_ID, LIN_LAST_OK, LIN_LAST_TS_LO, LIN_LAST_TS_HI, 
   LIN_STAT2_BAUD_MEAS, LIN_CNT_FRAMES, LIN_CNT_ERRORS, LIN_RAM]

/-! Page kind NMK: R430. -/
def NMK_CEIL_TIME : Fld := ⟨0x040, 0, 11, .rwl, (.k 30), true, .one, (.oneOf [(1, 1440)])⟩
def NMK_CEIL_EN : Fld := ⟨0x040, 16, 1, .rwl, .zero, true, .one, .any⟩
def NMK_CEIL_RESTART : Fld := ⟨0x040, 17, 1, .wo, .zero, false, .one, .any⟩
def NMK_CEIL_STAT_LEFT : Fld := ⟨0x044, 0, 17, .ro, .zero, false, .one, .any⟩
def NMK_CEIL_STAT_BLOCK : Fld := ⟨0x044, 20, 1, .ro, .zero, false, .one, .any⟩
def NMK_CEIL_STAT_EXPIRIES : Fld := ⟨0x044, 24, 8, .ro, .zero, false, .one, .any⟩
def NMK_COMMIT_CAN : Fld := ⟨0x048, 0, 8, .wo, .zero, false, .one, .any⟩
def NMK_COMMIT_LIN : Fld := ⟨0x048, 8, 12, .wo, .zero, false, .one, .any⟩
def NMK_COMMIT_PARK : Fld := ⟨0x048, 31, 1, .wo, .zero, false, .one, .any⟩
def NMK_LIN_FW_WINDOW : Fld := ⟨0x04C, 0, 14, .rw, (.k 500), false, .one, (.oneOf [(10, 10000)])⟩
def NMK_LINFW_COUNT : Fld := ⟨0x000, 0, 16, .ro, .zero, false, ⟨0x80, 12, 0x4, 1, 0x0⟩, .any⟩
def NMK_LINFW_CONSEC : Fld := ⟨0x000, 16, 8, .ro, .zero, false, ⟨0x80, 12, 0x4, 1, 0x0⟩, .any⟩
def NMK_CFG_EN : Fld := ⟨0x000, 0, 1, .rwl, .zero, true, ⟨0x100, 8, 0x40, 1, 0x0⟩, .any⟩
def NMK_CFG_XTD : Fld := ⟨0x000, 1, 1, .rwl, .zero, true, ⟨0x100, 8, 0x40, 1, 0x0⟩, .any⟩
def NMK_CFG_WAKE_VOTE : Fld := ⟨0x000, 2, 1, .rw, (.k 1), true, ⟨0x100, 8, 0x40, 1, 0x0⟩, .any⟩
def NMK_CFG_SLEEP_MODE : Fld := ⟨0x000, 3, 1, .rw, .zero, true, ⟨0x100, 8, 0x40, 1, 0x0⟩, .any⟩
def NMK_CFG_SRC_BYTE : Fld := ⟨0x000, 4, 3, .rw, .zero, true, ⟨0x100, 8, 0x40, 1, 0x0⟩, .any⟩
def NMK_CFG_TX_BUF : Fld := ⟨0x000, 8, 5, .rw, .zero, true, ⟨0x100, 8, 0x40, 1, 0x0⟩, .any⟩
def NMK_ID_LO : Fld := ⟨0x004, 0, 29, .rwl, (.k 1280), true, ⟨0x100, 8, 0x40, 1, 0x0⟩, .any⟩
def NMK_ID_HI : Fld := ⟨0x008, 0, 29, .rwl, (.k 1535), true, ⟨0x100, 8, 0x40, 1, 0x0⟩, .any⟩
def NMK_TIMING_NM_TIMEOUT : Fld := ⟨0x00C, 0, 12, .rwl, (.k 2000), true, ⟨0x100, 8, 0x40, 1, 0x0⟩, (.oneOf [(100, 4000)])⟩
def NMK_TIMING_WBS : Fld := ⟨0x00C, 16, 12, .rwl, (.k 1500), true, ⟨0x100, 8, 0x40, 1, 0x0⟩, (.oneOf [(0, 4000)])⟩
def NMK_CYCLE : Fld := ⟨0x010, 0, 12, .rw, (.k 500), true, ⟨0x100, 8, 0x40, 1, 0x0⟩, (.oneOf [(10, 4000)])⟩
def NMK_NEED_VOTE : Fld := ⟨0x014, 0, 1, .rw, .zero, false, ⟨0x100, 8, 0x40, 1, 0x0⟩, .any⟩
def NMK_STAT_STATE : Fld := ⟨0x018, 0, 3, .ro, .zero, false, ⟨0x100, 8, 0x40, 1, 0x0⟩, .any⟩
def NMK_STAT_VOTE_EFF : Fld := ⟨0x018, 4, 1, .ro, .zero, false, ⟨0x100, 8, 0x40, 1, 0x0⟩, .any⟩
def NMK_STAT_CANCEL : Fld := ⟨0x018, 5, 1, .w1c, .zero, false, ⟨0x100, 8, 0x40, 1, 0x0⟩, .any⟩
def NMK_STAT_OVF : Fld := ⟨0x018, 6, 1, .w1c, .zero, false, ⟨0x100, 8, 0x40, 1, 0x0⟩, .any⟩
def NMK_KEEP_CLR : Fld := ⟨0x01C, 0, 1, .wo, .zero, false, ⟨0x100, 8, 0x40, 1, 0x0⟩, .any⟩
def NMK_KEEP_NODE : Fld := ⟨0x000, 0, 8, .ro, .zero, false, ⟨0x400, 8, 0x80, 16, 0x8⟩, .any⟩
def NMK_KEEP_COUNT : Fld := ⟨0x000, 8, 16, .ro, .zero, false, ⟨0x400, 8, 0x80, 16, 0x8⟩, .any⟩
def NMK_KEEP_VALID : Fld := ⟨0x000, 31, 1, .ro, .zero, false, ⟨0x400, 8, 0x80, 16, 0x8⟩, .any⟩
def NMK_KEEP_MS : Fld := ⟨0x004, 0, 32, .ro, .zero, false, ⟨0x400, 8, 0x80, 16, 0x8⟩, .any⟩

/-- Every field of kind NMK. -/
def fieldsNMK : List Fld :=
  [NMK_CEIL_TIME, NMK_CEIL_EN, NMK_CEIL_RESTART, NMK_CEIL_STAT_LEFT, NMK_CEIL_STAT_BLOCK, 
   NMK_CEIL_STAT_EXPIRIES, NMK_COMMIT_CAN, NMK_COMMIT_LIN, NMK_COMMIT_PARK, 
   NMK_LIN_FW_WINDOW, NMK_LINFW_COUNT, NMK_LINFW_CONSEC, NMK_CFG_EN, NMK_CFG_XTD, 
   NMK_CFG_WAKE_VOTE, NMK_CFG_SLEEP_MODE, NMK_CFG_SRC_BYTE, NMK_CFG_TX_BUF, 
   NMK_ID_LO, NMK_ID_HI, NMK_TIMING_NM_TIMEOUT, NMK_TIMING_WBS, NMK_CYCLE, 
   NMK_NEED_VOTE, NMK_STAT_STATE, NMK_STAT_VOTE_EFF, NMK_STAT_CANCEL, NMK_STAT_OVF, 
   NMK_KEEP_CLR, NMK_KEEP_NODE, NMK_KEEP_COUNT, NMK_KEEP_VALID, NMK_KEEP_MS]

/-! Page kind MAC: R399. -/
def MAC_MCFG_TX_EN : Fld := ⟨0x040, 0, 1, .rw, .zero, true, .one, .any⟩
def MAC_MCFG_RX_EN : Fld := ⟨0x040, 1, 1, .rw, .zero, true, .one, .any⟩
def MAC_MCFG_PROMISC : Fld := ⟨0x040, 2, 1, .rw, .zero, true, .one, .any⟩
def MAC_MCFG_BCAST : Fld := ⟨0x040, 3, 1, .rw, (.k 1), true, .one, .any⟩
def MAC_MCFG_PTP_EN : Fld := ⟨0x040, 4, 1, .rw, (.k 1), true, .one, .any⟩
def MAC_MCFG_MCAST_N : Fld := ⟨0x040, 8, 4, .rw, .zero, true, .one, (.oneOf [(0, 8)])⟩
def MAC_ADDR_LO : Fld := ⟨0x044, 0, 32, .rwl, .zero, true, .one, .any⟩
def MAC_ADDR_HI : Fld := ⟨0x048, 0, 16, .rwl, .zero, true, .one, .any⟩
def MAC_MCAST_LO : Fld := ⟨0x000, 0, 32, .rw, .zero, true, ⟨0x4C, 8, 0x8, 1, 0x0⟩, .any⟩
def MAC_MCAST_HI : Fld := ⟨0x000, 0, 16, .rw, .zero, true, ⟨0x50, 8, 0x8, 1, 0x0⟩, .any⟩
def MAC_TXR_BASE : Fld := ⟨0x08C, 0, 32, .rwl, (.k 268435456), true, .one, .any⟩
def MAC_TXR_SIZE : Fld := ⟨0x090, 0, 9, .rwl, (.k 4), true, .one, (.oneOf [(4, 256)])⟩
def MAC_RXR_BASE : Fld := ⟨0x094, 0, 32, .rwl, (.k 268435456), true, .one, .any⟩
def MAC_RXR_SIZE : Fld := ⟨0x098, 0, 9, .rwl, (.k 4), true, .one, (.oneOf [(4, 256)])⟩
def MAC_HEAD_TX : Fld := ⟨0x09C, 0, 8, .ro, .zero, false, .one, .any⟩
def MAC_HEAD_RX : Fld := ⟨0x09C, 16, 8, .ro, .zero, false, .one, .any⟩
def MAC_KICK : Fld := ⟨0x0A0, 0, 1, .wo, .zero, false, .one, .any⟩
def MAC_LAT_TX_LAT : Fld := ⟨0x0A4, 0, 12, .rwl, .zero, true, .one, .any⟩
def MAC_LAT_RX_LAT : Fld := ⟨0x0A4, 16, 12, .rwl, .zero, true, .one, .any⟩
def MAC_CNT_RX_FRAMES : Fld := ⟨0x0A8, 0, 16, .ro, .zero, false, .one, .any⟩
def MAC_CNT_RX_DROPS : Fld := ⟨0x0A8, 16, 16, .ro, .zero, false, .one, .any⟩
def MAC_CNT_TX_FRAMES : Fld := ⟨0x0AC, 0, 16, .ro, .zero, false, .one, .any⟩
def MAC_CNT_TX_ERRORS : Fld := ⟨0x0AC, 16, 16, .ro, .zero, false, .one, .any⟩
def MAC_CNT_COLLISIONS : Fld := ⟨0x10C, 0, 16, .ro, .zero, false, .one, .any⟩
def MAC_CNT_BEACON_LOST : Fld := ⟨0x10C, 16, 16, .ro, .zero, false, .one, .any⟩

/-- Every field of kind MAC. -/
def fieldsMAC : List Fld :=
  [MAC_MCFG_TX_EN, MAC_MCFG_RX_EN, MAC_MCFG_PROMISC, MAC_MCFG_BCAST, MAC_MCFG_PTP_EN, 
   MAC_MCFG_MCAST_N, MAC_ADDR_LO, MAC_ADDR_HI, MAC_MCAST_LO, MAC_MCAST_HI, 
   MAC_TXR_BASE, MAC_TXR_SIZE, MAC_RXR_BASE, MAC_RXR_SIZE, MAC_HEAD_TX, MAC_HEAD_RX, 
   MAC_KICK, MAC_LAT_TX_LAT, MAC_LAT_RX_LAT, MAC_CNT_RX_FRAMES, MAC_CNT_RX_DROPS, 
   MAC_CNT_TX_FRAMES, MAC_CNT_TX_ERRORS, MAC_CNT_COLLISIONS, MAC_CNT_BEACON_LOST]

/-! Page kind T1S: R399. -/
def MAC_PLCA_EN : Fld := ⟨0x100, 0, 1, .rwl, .zero, true, .one, .any⟩
def MAC_PLCA_NODE_ID : Fld := ⟨0x100, 8, 8, .rwl, (.k 255), true, .one, .any⟩
def MAC_PLCA_NODE_CNT : Fld := ⟨0x100, 16, 8, .rwl, (.k 8), true, .one, (.oneOf [(1, 255)])⟩
def MAC_PLCA2_TO_TMR : Fld := ⟨0x104, 0, 8, .rwl, (.k 32), true, .one, .any⟩
def MAC_PLCA2_BURST_CNT : Fld := ⟨0x104, 8, 8, .rwl, .zero, true, .one, .any⟩
def MAC_PLCA2_BURST_TMR : Fld := ⟨0x104, 16, 8, .rwl, (.k 128), true, .one, .any⟩
def MAC_PHYSTAT_BEACON : Fld := ⟨0x108, 0, 1, .ro, .zero, false, .one, .any⟩

/-- Every field of kind T1S. -/
def fieldsT1S : List Fld :=
  [MAC_PLCA_EN, MAC_PLCA_NODE_ID, MAC_PLCA_NODE_CNT, MAC_PLCA2_TO_TMR, MAC_PLCA2_BURST_CNT, 
   MAC_PLCA2_BURST_TMR, MAC_PHYSTAT_BEACON]

/-! Page kind EMAC: R399. -/
def MAC_MDIO_DIV : Fld := ⟨0x100, 0, 6, .rwl, (.k 19), true, .one, (.oneOf [(9, 63)])⟩
def MAC_MDIO_PHYAD : Fld := ⟨0x104, 0, 5, .rw, .zero, false, .one, .any⟩
def MAC_MDIO_REGAD : Fld := ⟨0x104, 5, 5, .rw, .zero, false, .one, .any⟩
def MAC_MDIO_OP : Fld := ⟨0x104, 10, 2, .rw, .zero, false, .one, .any⟩
def MAC_MDIO_WDATA : Fld := ⟨0x104, 16, 16, .rw, .zero, false, .one, .any⟩
def MAC_MDIO_BUSY : Fld := ⟨0x108, 0, 1, .ro, .zero, false, .one, .any⟩
def MAC_MDIO_RDATA : Fld := ⟨0x108, 16, 16, .ro, .zero, false, .one, .any⟩

/-- Every field of kind EMAC. -/
def fieldsEMAC : List Fld :=
  [MAC_MDIO_DIV, MAC_MDIO_PHYAD, MAC_MDIO_REGAD, MAC_MDIO_OP, MAC_MDIO_WDATA, MAC_MDIO_BUSY, MAC_MDIO_RDATA]

/-! Page kind NTIME: R411. -/
def NTIME_CFG_SRC : Fld := ⟨0x040, 0, 3, .rwl, .zero, true, .one, (.oneOf [(0, 5)])⟩
def NTIME_CFG_JUMP_MAX : Fld := ⟨0x040, 8, 16, .rwl, (.k 50), true, .one, (.oneOf [(1, 10000)])⟩
def NTIME_CFG2_SLEW_PPM : Fld := ⟨0x044, 0, 6, .rw, (.k 50), true, .one, (.oneOf [(1, 50)])⟩
def NTIME_CFG2_SAMPLE_TO : Fld := ⟨0x044, 8, 8, .rw, (.k 2), true, .one, (.oneOf [(1, 255)])⟩
def NTIME_CFG2_HOLDOVER_MAX : Fld := ⟨0x044, 16, 12, .rw, (.k 600), true, .one, (.oneOf [(1, 3600)])⟩
def NTIME_SAMPLE_OFF_LO : Fld := ⟨0x048, 0, 32, .rw, .zero, false, .one, .any⟩
def NTIME_SAMPLE_OFF_HI : Fld := ⟨0x04C, 0, 32, .rw, .zero, false, .one, .any⟩
def NTIME_SAMPLE_RATE : Fld := ⟨0x050, 0, 32, .rw, .zero, false, .one, .any⟩
def NTIME_SAMPLE_CTRL_MASTER : Fld := ⟨0x054, 0, 16, .rw, .zero, false, .one, .any⟩
def NTIME_SAMPLE_CTRL_COMMIT : Fld := ⟨0x054, 31, 1, .wo, .zero, false, .one, .any⟩
def NTIME_STAT_STATE : Fld := ⟨0x058, 0, 2, .ro, .zero, false, .one, .any⟩
def NTIME_STAT_SLEWING : Fld := ⟨0x058, 2, 1, .ro, .zero, false, .one, .any⟩
def NTIME_STAT_JUMP_REFUSED : Fld := ⟨0x058, 3, 1, .ro, .zero, false, .one, .any⟩
def NTIME_STAT_RATE_BAD : Fld := ⟨0x058, 4, 1, .w1c, .zero, false, .one, .any⟩
def NTIME_STAT_MASTER_CHANGED : Fld := ⟨0x058, 5, 1, .w1c, .zero, false, .one, .any⟩
def NTIME_STAT_RING_OWNED : Fld := ⟨0x058, 6, 1, .ro, .zero, false, .one, .any⟩
def NTIME_STAT_BASE_SEQ : Fld := ⟨0x058, 8, 4, .ro, .zero, false, .one, .any⟩
def NTIME_NT_BASE_LO : Fld := ⟨0x05C, 0, 32, .ro, .zero, true, .one, .any⟩
def NTIME_NT_BASE_HI : Fld := ⟨0x060, 0, 32, .ro, .zero, true, .one, .any⟩
def NTIME_MASTER_ACT : Fld := ⟨0x064, 0, 16, .ro, .zero, true, .one, .any⟩
def NTIME_BASE_VALID : Fld := ⟨0x064, 31, 1, .ro, .zero, true, .one, .any⟩
def NTIME_RATE_ACT : Fld := ⟨0x068, 0, 32, .ro, .zero, true, .one, .any⟩
def NTIME_SLEW_LEFT : Fld := ⟨0x06C, 0, 32, .ro, .zero, false, .one, .any⟩
def NTIME_PEND_LO : Fld := ⟨0x070, 0, 32, .ro, .zero, false, .one, .any⟩
def NTIME_PEND_HI : Fld := ⟨0x074, 0, 32, .ro, .zero, false, .one, .any⟩
def NTIME_ACCEPT : Fld := ⟨0x078, 0, 2, .wo, .zero, false, .one, .any⟩
def NTIME_NT_LO : Fld := ⟨0x07C, 0, 32, .ro, .zero, false, .one, .any⟩
def NTIME_NT_HI : Fld := ⟨0x080, 0, 32, .ro, .zero, false, .one, .any⟩
def NTIME_CNT_SAMPLES : Fld := ⟨0x084, 0, 16, .ro, .zero, false, .one, .any⟩
def NTIME_CNT_REFUSED : Fld := ⟨0x084, 16, 16, .ro, .zero, false, .one, .any⟩
def NTIME_HOLD_T : Fld := ⟨0x088, 0, 16, .ro, .zero, false, .one, .any⟩

/-- Every field of kind NTIME. -/
def fieldsNTIME : List Fld :=
  [NTIME_CFG_SRC, NTIME_CFG_JUMP_MAX, NTIME_CFG2_SLEW_PPM, NTIME_CFG2_SAMPLE_TO, 
   NTIME_CFG2_HOLDOVER_MAX, NTIME_SAMPLE_OFF_LO, NTIME_SAMPLE_OFF_HI, NTIME_SAMPLE_RATE, 
   NTIME_SAMPLE_CTRL_MASTER, NTIME_SAMPLE_CTRL_COMMIT, NTIME_STAT_STATE, NTIME_STAT_SLEWING, 
   NTIME_STAT_JUMP_REFUSED, NTIME_STAT_RATE_BAD, NTIME_STAT_MASTER_CHANGED, 
   NTIME_STAT_RING_OWNED, NTIME_STAT_BASE_SEQ, NTIME_NT_BASE_LO, NTIME_NT_BASE_HI, 
   NTIME_MASTER_ACT, NTIME_BASE_VALID, NTIME_RATE_ACT, NTIME_SLEW_LEFT, NTIME_PEND_LO, 
   NTIME_PEND_HI, NTIME_ACCEPT, NTIME_NT_LO, NTIME_NT_HI, NTIME_CNT_SAMPLES, 
   NTIME_CNT_REFUSED, NTIME_HOLD_T]

end Sys2Proof.Machine
end

