-- ==== Sys2Proof/Machine/Operands.lean ====
section
/-! DEFINITION. Operand forms: what a page number, a channel index, a bridge or a valve number names, and where each logical
field of such a unit lies in its register page. -/

namespace Sys2Proof.Machine

/-- Block type of page `p` as PID.TYPE gives it (R60); 0 for a reserved page. -/
def pageType (p : Nat) : Nat :=
  if p < 4 then p + 1 else if p = 4 then 5 else if p = 5 then 6 else if p < 0x0A then 7
  else if p = 0x0A then 8 else if p = 0x0B then 9 else if p = 0x0C then 0xA else if p = 0x0D then 0xB
  else if p = 0x0E then 0xC else if p = 0x0F then 0xD else if p < 0x3E then 0x10 else if p = 0x3E then 0x11
  else if p = 0x3F then 0x12 else if p < 0x54 then 0x13 else if p < 0x58 then 0x14 else if p < 0x60 then 0x15
  else if p = 0x60 then 0x16 else if p = 0x61 then 0x17 else if p < 0x64 then 0x18 else if p < 0x67 then 0x19
  else if p < 0x70 then 0x1A + (p - 0x67) else if p < 0x78 then 0x30 else if p = 0x78 then 0x31
  else if p = 0x79 then 0x32 else if p < 0x7D then 0x33 else if p < 0x8B then 0x34 + (p - 0x7D) else 0

/-- Whether page `p` is used (R60). -/
def pageUsed (p : Nat) : Bool := p < 0x8B

/-- Index of page `p` within its kind, as PID.INSTANCE gives it (R60). -/
def pageInstance (p : Nat) : Nat :=
  if p < 6 then 0 else if p < 0x0A then p - 6 else if p < 0x10 then 0 else if p < 0x3E then p - 0x10
  else if p < 0x40 then 0 else if p < 0x54 then p - 0x40 else if p < 0x58 then p - 0x54 else if p < 0x60 then p - 0x58
  else if p < 0x62 then 0 else if p < 0x64 then p - 0x62 else if p < 0x67 then p - 0x64 else if p < 0x70 then 0
  else if p < 0x78 then p - 0x70 else if p < 0x7A then 0 else if p < 0x7D then p - 0x7A else 0

/-- The power domain that owns page `p` (R60); none for the always-on islands. -/
def pageDomain (p : Nat) : Option Nat :=
  if p < 0x0C then none else if p = 0x0C then some 6 else if p = 0x0D then some 5 else if p = 0x0E then some 0
  else if p = 0x0F then some 6 else if p < 0x40 then some 7 else if p < 0x61 then some 8 else if p = 0x61 then some 7
  else if p < 0x69 then some 9 else if p = 0x69 then some 10 else if p = 0x6A then some 7 else if p = 0x6B then none
  else if p = 0x6C then some 7 else if p = 0x6D then some 8 else if p = 0x6E then some 10 else if p = 0x6F then none
  else if p < 0x78 then some 3 else if p = 0x78 then none else if p < 0x7E then some 3 else if p < 0x80 then some 5
  else if p = 0x80 then some 3 else if p = 0x81 then none else if p < 0x84 then some 11 else if p = 0x84 then none
  else if p < 0x87 then some 10 else if p = 0x87 then some 6 else if p < 0x8A then some 4 else if p = 0x8A then some 0
  else none

/-- The block-specific fields of page `p`. -/
def pageFields (p : Nat) : List Fld :=
  match pageType p with
  | 2 => fieldsCLK | 3 => fieldsPWR | 4 => fieldsRIND | 5 => fieldsSUP | 6 => fieldsTB | 7 => fieldsCMP
  | 8 => fieldsCASC | 9 => fieldsIRQ | 0xA => fieldsMBOX | 0xB => fieldsHOST | 0xC => fieldsMON | 0xD => fieldsECC
  | 0x10 => fieldsHS | 0x11 => fieldsGOV | 0x12 => fieldsCALD | 0x13 => fieldsHB | 0x14 => fieldsGD
  | 0x15 => fieldsVLV | 0x16 => fieldsVBK | 0x17 => fieldsLSW
  | 0x18 => if p = 0x62 then fieldsFLD0 ++ fieldsFLD else fieldsFLD
  | 0x19 => if p = 0x64 then fieldsSWI0 ++ fieldsSWI else fieldsSWI
  | 0x1A => fieldsLED | 0x1B => fieldsLDC | 0x1D => fieldsAHD | 0x1E => fieldsAHT | 0x1F => fieldsFER
  | 0x20 => fieldsRPE | 0x22 => fieldsWDG
  | 0x30 => if p < 0x74 then fieldsCAN ++ fieldsCANTT else fieldsCAN
  | 0x31 => fieldsCTRX | 0x32 => fieldsMSG | 0x33 => fieldsLIN | 0x34 => fieldsNMK
  | 0x35 => fieldsMAC ++ fieldsT1S | 0x36 => fieldsMAC ++ fieldsEMAC | 0x37 => fieldsNTIME | 0x38 => fieldsWAKE
  | 0x39 => fieldsACC | 0x3A => fieldsIMMO | 0x3B => fieldsRING | 0x3C => fieldsNVM | 0x3D => fieldsREC
  | 0x3E => fieldsCNVM | 0x3F => fieldsSEC | 0x40 => fieldsATT | 0x41 => fieldsLOG
  | _ => []

/-- The page of channel `c`. -/
def chPage (c : Nat) : Nat := if c < 46 then 0x10 + c else if c < 62 then 0x61 else 0x62 + (c - 62) / 12

/-- The block of channel `c` within its page. -/
def chIdx (c : Nat) : Nat := if c < 46 then 0 else if c < 62 then c - 46 else (c - 62) % 12

/-- The field of channel `c` that plays the same part in the HS, LSW and FLD maps; `none` where a map has none. -/
def chLoc (c : Nat) (h l f : Option Fld) : Loc :=
  match (if c < 46 then h else if c < 62 then l else f) with
  | some x => x.loc (chPage c) (chIdx c)
  | none => noLoc

/-! The logical fields of a channel (R137, R170, R285). -/
def cEn (c : Nat) : Loc := H_CTRL_EN.loc (chPage c)
def cOn (c : Nat) : Loc := chLoc c HS_OUT_ON LSW_OUT_ON FLD_OUT_ON
def cDuty (c : Nat) : Loc := chLoc c HS_OUT_DUTY LSW_OUT_DUTY none
def cMode (c : Nat) : Loc := chLoc c HS_CFG_MODE LSW_CFG_MODE none
def cSlew (c : Nat) : Loc := chLoc c HS_CFG_SLEW LSW_CFG_SLEW none
def cPrio (c : Nat) : Loc := chLoc c HS_CFG_PRIO LSW_CFG_PRIO FLD_CFG_PRIO
def cWe (c : Nat) : Loc := chLoc c HS_CFG_WE LSW_CFG_WE none
def cAutoUnlock (c : Nat) : Loc := chLoc c HS_CFG_AUTO_UNLOCK LSW_CFG_AUTO_UNLOCK FLD_CFG_AUTO_UNLOCK
def cTlAuto (c : Nat) : Loc := chLoc c HS_CFG_TL_AUTO LSW_CFG_TL_AUTO FLD_CFG_TL_AUTO
def cOlOffEn (c : Nat) : Loc := chLoc c HS_CFG_OL_OFF_EN LSW_CFG_OL_OFF_EN none
def cStbEn (c : Nat) : Loc := chLoc c HS_CFG_STB_EN LSW_CFG_STG_EN none
def cFuseEn (c : Nat) : Loc := chLoc c HS_CFG_FUSE_EN none none
def cRetryMax (c : Nat) : Loc := chLoc c HS_CFG_RETRY_MAX LSW_CFG_RETRY_MAX FLD_CFG_RETRY_MAX
def cTfilt (c : Nat) : Loc := chLoc c HS_CFG_TFILT LSW_CFG_TFILT FLD_CFG_TFILT
def cTretry (c : Nat) : Loc := chLoc c HS_RETRY_TRETRY LSW_RETRY_TRETRY FLD_OUT_TRETRY
def cFreq (c : Nat) : Loc := chLoc c HS_PWM_FREQ LSW_PWM_FREQ none
def cPhase (c : Nat) : Loc := chLoc c HS_PWM_PHASE LSW_PWM_PHASE none
def cIolOn (c : Nat) : Loc := chLoc c HS_DIAG_IOL_ON LSW_DIAG_IOL_ON none
def cOlFilt (c : Nat) : Loc := chLoc c HS_DIAG_OL_FILT LSW_DIAG_OL_FILT none
def cOffPeriod (c : Nat) : Loc := chLoc c HS_DIAG_OFF_PERIOD LSW_DIAG_OFF_PERIOD none
def cBudget (c : Nat) : Loc := chLoc c HS_CLAMP_CFG_BUDGET LSW_CLAMP_CFG_BUDGET none
def cGain (c : Nat) : Loc := chLoc c HS_TRIM_GAIN LSW_TRIM_GAIN none
def cOffset (c : Nat) : Loc := chLoc c HS_TRIM_OFFSET LSW_TRIM_OFFSET none
def cBandLo (c : Nat) : Loc := chLoc c HS_TRIM_BAND_LO LSW_TRIM_BAND_LO none
def cBandHi (c : Nat) : Loc := chLoc c HS_TRIM_BAND_HI LSW_TRIM_BAND_HI none
def cState (c : Nat) : Loc := chLoc c HS_CHSTAT_STATE LSW_CHSTAT_STATE FLD_STATE_STATE
def cRetries (c : Nat) : Loc := chLoc c HS_CHSTAT_RETRIES_LEFT LSW_CHSTAT_RETRIES_LEFT FLD_STATE_RETRIES_LEFT
def cLimiting (c : Nat) : Loc := chLoc c HS_CHSTAT_LIMITING LSW_CHSTAT_LIMITING FLD_STATE_LIMITING
def cInrush (c : Nat) : Loc := chLoc c HS_CHSTAT_INRUSH_OPEN none none
def cDroop (c : Nat) : Loc := chLoc c HS_CHSTAT_DROOP_PAUSE none none
def cLimp (c : Nat) : Loc := chLoc c HS_CHSTAT_LIMP LSW_CHSTAT_LIMP none
def cDutyClamp (c : Nat) : Loc := chLoc c HS_CHSTAT_DUTY_CLAMP LSW_CHSTAT_DUTY_CLAMP none
def cDerated (c : Nat) : Loc := chLoc c HS_CHSTAT_DERATED LSW_CHSTAT_DERATED none
def cWeWait (c : Nat) : Loc := chLoc c HS_CHSTAT_WE_WAIT LSW_CHSTAT_WE_WAIT none
def cTlHold (c : Nat) : Loc := chLoc c HS_CHSTAT_TL_HOLD LSW_CHSTAT_TL_HOLD FLD_STATE_TL_HOLD
def cTrimBad (c : Nat) : Loc := chLoc c HS_CHSTAT_TRIM_BAD LSW_CHSTAT_TRIM_BAD none
def cEffDuty (c : Nat) : Loc := chLoc c HS_CHSTAT_EFF_DUTY LSW_CHSTAT_EFF_DUTY none
def cfFast (c : Nat) : Loc := chLoc c HS_FAULT_FAST_TRIP LSW_FAULT_FAST_TRIP FLD_FAULT_FAST_TRIP
def cfOc (c : Nat) : Loc := chLoc c HS_FAULT_OC_TRIP LSW_FAULT_OC_TRIP FLD_FAULT_OC_TRIP
def cfTherm (c : Nat) : Loc := chLoc c HS_FAULT_THERMAL LSW_FAULT_THERMAL FLD_FAULT_THERMAL
def cfCoupled (c : Nat) : Loc := chLoc c HS_FAULT_COUPLED LSW_FAULT_COUPLED none
def cfOlOn (c : Nat) : Loc := chLoc c HS_FAULT_OL_ON LSW_FAULT_OL_ON FLD_FAULT_OL_ON
def cfOlOff (c : Nat) : Loc := chLoc c HS_FAULT_OL_OFF LSW_FAULT_OL_OFF none
def cfStb (c : Nat) : Loc := chLoc c HS_FAULT_STB LSW_FAULT_STB none
def cfClamp (c : Nat) : Loc := chLoc c HS_FAULT_CLAMP_LOCK LSW_FAULT_CLAMP_LOCK FLD_FAULT_CLAMP_LOCK
def cfFuse (c : Nat) : Loc := chLoc c HS_FAULT_FUSE none none
def cfRetry (c : Nat) : Loc := chLoc c HS_FAULT_RETRY_EXH LSW_FAULT_RETRY_EXH FLD_FAULT_RETRY_EXH
def cfRefused (c : Nat) : Loc := chLoc c HS_FAULT_REFUSED LSW_FAULT_REFUSED FLD_FAULT_REFUSED
def cfDroopCap (c : Nat) : Loc := chLoc c HS_FAULT_DROOP_CAP none none
def cfExtHigh (c : Nat) : Loc := chLoc c none none FLD_FAULT_EXT_HIGH
def cSense (c : Nat) : Loc := chLoc c HS_SENSE_I LSW_SENSE_I FLD_MEAS_I
def cSenseSpec (c : Nat) : Loc := chLoc c HS_SENSE_SPEC LSW_SENSE_SPEC none
def cSenseExt (c : Nat) : Loc := chLoc c HS_SENSE_EXTRAPOLATED LSW_SENSE_EXTRAPOLATED none
def cSenseLim (c : Nat) : Loc := chLoc c HS_SENSE_LIMITED LSW_SENSE_LIMITED none
def cSenseValid (c : Nat) : Loc := chLoc c HS_SENSE_VALID LSW_SENSE_VALID none
def cVout (c : Nat) : Loc := chLoc c HS_VOUT LSW_VOUT FLD_MEAS_VPIN
def cTj (c : Nat) : Loc := chLoc c HS_TJ LSW_TJ FLD_TJ
def cFill (c : Nat) : Loc := chLoc c HS_CLAMP_FILL LSW_CLAMP_FILL FLD_CLAMP_FILL
def cWireT (c : Nat) : Loc := chLoc c HS_WIRE_T none none

/-- Class of channel `c` in the tables of R138: 0 H, 1 M, 2 L, 3 LS, 4 FIO. -/
def chClass (c : Nat) : Nat := if c < 6 then 0 else if c < 22 then 1 else if c < 46 then 2 else if c < 62 then 3 else 4

/-- The page of bridge `b`: HB00 to HB19, then GD0 to GD3. -/
def brPage (b : Nat) : Nat := 0x40 + b

/-- Whether bridge `b` is a gate driver. -/
def isGd (b : Nat) : Bool := 20 ≤ b

/-- The field of bridge `b` in the HB or the GD map. -/
def brLoc (b : Nat) (h g : Option Fld) : Loc :=
  match (if isGd b then g else h) with
  | some x => x.loc (brPage b)
  | none => noLoc

/-! The logical fields of a bridge (R212, R227). -/
def bEn (b : Nat) : Loc := H_CTRL_EN.loc (brPage b)
def bMode (b : Nat) : Loc := brLoc b HB_CFG_MODE GD_CFG_MODE
def bPrio (b : Nat) : Loc := brLoc b HB_CFG_PRIO GD_CFG_PRIO
def bTfilt (b : Nat) : Loc := brLoc b HB_CFG_TFILT GD_CFG_TFILT
def bStallAct (b : Nat) : Loc := brLoc b HB_CFG_STALL_ACT GD_CFG_STALL_ACT
def bDirBrake (b : Nat) : Loc := brLoc b HB_PAIR_DIR_BRAKE GD_GATE_DIR_BRAKE
def bDrive (b : Nat) : Loc := brLoc b HB_OUT_DRIVE GD_OUT_DRIVE
def bDuty (b : Nat) : Loc := brLoc b HB_OUT_DUTY GD_OUT_DUTY
def bFreq (b : Nat) : Loc := brLoc b HB_PWM_FREQ GD_PWM_FREQ
def bPhase (b : Nat) : Loc := brLoc b HB_PWM_PHASE GD_PWM_PHASE
def bDutyClamp (b : Nat) : Loc := brLoc b HB_CHSTAT_DUTY_CLAMP none
def bState (b : Nat) : Loc := brLoc b HB_CHSTAT_STATE GD_CHSTAT_STATE
def bLimiting (b : Nat) : Loc := brLoc b HB_CHSTAT_LIMITING none
def bTlHold (b : Nat) : Loc := brLoc b HB_CHSTAT_TL_HOLD none
def bfFast (b : Nat) : Loc := brLoc b HB_FAULT_FAST_TRIP GD_FAULT_FAST_TRIP
def bfOc (b : Nat) : Loc := brLoc b HB_FAULT_OC_TRIP GD_FAULT_OC_TRIP
def bfStall (b : Nat) : Loc := brLoc b HB_FAULT_STALL GD_FAULT_STALL
def bfRefused (b : Nat) : Loc := brLoc b HB_FAULT_REFUSED GD_FAULT_REFUSED
def bSense (b : Nat) : Loc := brLoc b HB_SENSE_I GD_SENSE_I
def bSenseValid (b : Nat) : Loc := brLoc b HB_SENSE_VALID GD_SENSE_VALID

/-- The page of valve `n` (R265). -/
def vPage (n : Nat) : Nat := 0x58 + n

/-- The page of the valve banks (R266). -/
def bankPage : Nat := 0x60

end Sys2Proof.Machine
end

