-- ==== Sys2Proof/Machine/Gate.lean ====
section
/-! DEFINITION. The geyser gate's queue, its arithmetic and its reservations (R194 to R204), hardware power-ups of domains
(R95, R96, R100), and event interrupts with their wake routing (R73, R74). -/

namespace Sys2Proof.Machine

/-- Page and channel that LAST_REFUSED shows for a requester, and its place in the order of R198. -/
def Req.place : Req → Nat × Nat
  | .chan c => (chPage c, if c < 46 then 0 else chIdx c)
  | .bridge b => (brPage b, 0)
  | .valve n => (vPage n, 0)
  | .pump g => (0x54 + g, 0)
  | .led => (0x67, 0)
  | .lf => (0x82, 0)
  | .dom n => (0, n)
  | .prep slot _ => (0x6A, slot)
  | .remote _ p c => (p, c)

/-- The order of R198 among requests of one rank and one time; a shared gate puts the device address first (R465). -/
def Req.ord (r : Req) : Nat :=
  (match r with | .remote d _ _ => d * 65536 | _ => 0) + r.place.1 * 64 + r.place.2

/-- Whether entry `a` stands before entry `b` (R20, R198). -/
def GateEntry.before (a b : GateEntry) : Bool :=
  a.rank < b.rank || (a.rank == b.rank && (a.t < b.t || (a.t == b.t && a.req.ord < b.req.ord)))

/-- Insert an entry at its place. -/
def gateIns (q : List GateEntry) (e : GateEntry) : List GateEntry :=
  match q with
  | [] => [e]
  | a :: r => if e.before a then e :: a :: r else a :: gateIns r e

/-- Queue a request. -/
def State.enqueue (s : State) (e : GateEntry) : State := { s with gate := { s.gate with queue := gateIns s.gate.queue e } }

/-- Withdraw every waiting request of a requester, without a refusal. -/
def State.withdraw (s : State) (r : Req) : State :=
  { s with gate := { s.gate with queue := s.gate.queue.filter fun e => e.req != r } }

/-- The waiting request of a requester. -/
def State.waiting (s : State) (r : Req) : Option GateEntry := s.gate.queue.find? fun e => e.req == r

/-- The rank of priority class Pc (R20): P0 stands with limp-home. -/
def prioRank (c : Nat) : Nat := if c = 0 then 0 else c + 2

/-- C(j) of R196: X halved every `h` slots, nothing below 250 mA, in the slot of the admission too (log 85). -/
def Contrib.now (c : Contrib) (slot : Nat) : Nat :=
  let v := c.x >>> ((slot - c.slot) / max c.h 1)
  if v < 250 then 0 else v

/-- Predicted power-up inrush of domain `n` in mA (R89). -/
def domInrush (n : Nat) : Nat := [40, 120, 120, 90, 60, 50, 150, 80, 350, 120, 60, 200].getD n 0

/-- The domains whose power-up runs (R99). -/
def State.ramping (s : State) : List Nat := (List.range 12).filter fun n => (s.getDom n).phase == .ramping

/-- The contributions of admitted starts, ΣC (R196), domain power-ups counted in full until on. -/
def State.sumC (s : State) : Nat :=
  (s.gate.contribs.map fun c => c.now s.gate.slot).sum + ((s.ramping.filter (· != 7)).map domInrush).sum

/-- The amount withheld by reservations, W (R204). -/
def State.withheld (s : State) : Nat := (s.gate.reserves.map (·.amount)).sum

/-- The slot sum S (R196). -/
def State.slotSum (s : State) : Nat := 80 + s.sumC + s.withheld

/-- INRUSH_MAX in mA. -/
def State.inrushMax (s : State) : Nat := s.get GOV_LIMIT_INRUSH_MAX 0x3E * 1000

/-- VBAT in mV as SUP.VBAT shows it (R56). -/
def State.vbat (s : State) : Nat := s.get SUP_VBAT_VBAT_MV 4

/-- The effective slot budget B_eff (R200). -/
def State.bEff (s : State) : Nat := s.inrushMax * min 3000 (s.vbat - 6000) / 3000

/-- ΣX of the starts admitted in the current slot and the three before it (R197). -/
def State.recentX (s : State) : Nat :=
  ((s.gate.contribs.filter fun c => s.gate.slot < c.slot + 4).map (·.x)).sum

/-- Whether a domain is on (R90): its actual state is on until an entry into retention or off completes (R77). -/
def State.domOn (s : State) (n : Nat) : Bool := (s.getDom n).actual == .on

/-- Whether the blocks of domain `n` take up new transfers: it is on and no entry waits for them to reach their safe point (R97). -/
def State.domRuns (s : State) (n : Nat) : Bool := s.domOn n && (s.getDom n).phase == .stable

/-- Whether the domain of page `p` is on. -/
def State.pageOn (s : State) (p : Nat) : Bool :=
  match pageDomain p with
  | none => true
  | some n => s.domOn n

/-- PWR.DOMAINn.ORDER (R90): 0 on, 1 retention, 2 off, 3 forced off. -/
def State.order (s : State) (n : Nat) : Nat := s.get PWR_DOMAIN_ORDER 2 n

/-- Whether every domain is off or in retention, so that the PLL stands still (R87). -/
def State.pllStopped (s : State) : Bool := s.flag CLK_STAT_PLL_STOPPED 1

/-- The code of DOMAIN.STATE (R90). -/
def Dom.code (d : Dom) : Nat :=
  if d.phase != .stable then 3 else match d.actual with | .on => 0 | .retention => 1 | .off => 2

/-- Replace the hidden state of a domain and show it in DOMAIN.STATE (R90). -/
def State.putDom (s : State) (n : Nat) (d : Dom) : State := (s.setDom n d).set PWR_DOMAIN_STATE 2 d.code n

/-- Begin the power-up of a domain that is not on: it waits at rank `rank` (R96, R98, R100); the oscillator starts
when the PLL is stopped (R87). PD_OUT's own power-up stands outside the queue. -/
def State.startPowerUp (s : State) (n rank : Nat) : State :=
  let d := s.getDom n
  let s := s.putDom n { d with phase := .queued, reqTb := s.tb }
  let s := if s.pllStopped then { s with clk := { s.clk with restarting := true } } else s
  if n = 7 then s else s.enqueue { req := .dom n, rank := rank, x := domInrush n, h := 0, t := s.tb }

/-- A power-up that waits at a lower rank moves up to `rank` (R95). -/
def State.raiseRank (s : State) (n rank : Nat) : State :=
  match s.waiting (.dom n) with
  | some e => if rank < e.rank then (s.withdraw (.dom n)).enqueue { e with rank := rank } else s
  | none => s

/-- Request the power-up of domain `n`, whoever asks: start it when the domain is at rest and not on, latch the wake
when an entry is in progress, and otherwise let the power-up on its way stand, which an order latched before does not undo (R96). -/
def State.requestUp (s : State) (n rank : Nat) : State :=
  let d := s.getDom n
  match d.phase with
  | .stable => if d.actual == .on then s else s.startPowerUp n rank
  | .entering =>
    s.setDom n { d with wakeLatched := true, wakeRank := if d.wakeLatched then min d.wakeRank rank else rank, latched := none }
  | .queued => (s.setDom n { d with latched := none }).raiseRank n rank
  | .ramping => s.setDom n { d with latched := none }

/-- Order a domain on without the HK: ORDER reads on and HW_WOKEN sets (R95). -/
def State.markHw (s : State) (n : Nat) : State := (s.set PWR_DOMAIN_ORDER 2 0 n).put PWR_DOMAIN_HW_WOKEN 2 true n

/-- No LF poll returns domain `n` any more: another requester needs it (R11, R22). -/
def State.unpoll (s : State) (n : Nat) : State := s.setDom n { s.getDom n with restore := none }

/-- The power-up of domain `n` that hardware asks for, PD_OUT's first, each marked by `mark`; denied while its ORDER or
PD_OUT's is forced off (R95, R100). A domain that is on stays as it is, and in a full reset none powers up (R595). -/
def State.hwUp (s : State) (n rank : Nat) (mark : State → Nat → State) : State :=
  let d := s.getDom n
  if s.sup.inReset || (d.phase == .stable && d.actual == .on) then s
  else if s.order n = 3 then s.put PWR_DOMAIN_WAKE_DENIED 2 true n
  else if s.order 7 = 3 then (s.put PWR_DOMAIN_WAKE_DENIED 2 true 7).put PWR_DOMAIN_WAKE_DENIED 2 true n
  else
    let s := if n != 7 && !(s.domOn 7 && (s.getDom 7).phase == .stable) then (mark s 7).requestUp 7 6 else s
    (mark s n).requestUp n rank

/-- A hardware power-up of domain `n` at rank `rank` (R95). -/
def State.hwPowerUpAt (s : State) (n rank : Nat) : State := ((s.unpoll 7).unpoll n).hwUp n rank State.markHw

/-- Mark a domain that an LF poll powers up: ORDER reads on, and its order before is to return (R11, R22, R95). -/
def State.markPoll (s : State) (n : Nat) : State :=
  (s.setDom n { s.getDom n with restore := some (s.order n) }).set PWR_DOMAIN_ORDER 2 0 n

/-- The power-up of PD_ACC for an LF poll (R22, R95). -/
def State.pollUp (s : State) : State := s.hwUp 11 6 State.markPoll

/-- A hardware power-up at the rank of domains (R20, R95). -/
def State.hwPowerUp (s : State) (n : Nat) : State := s.hwPowerUpAt n 6

/-- The domain of the core that a code of IRQ_ROUTE.TARGET names (R74, R89). -/
def targetDomain (t : Nat) : Option Nat :=
  if t = 0 then some 0 else if t < 5 then some 1 else if t < 9 then some 2 else if t < 11 then some 3
  else if t = 11 then some 4 else none

/-- An interrupt routed with IRQ_ROUTE.WAKE to a core whose domain is not on powers that domain up (R74, R95): at the event, or at a
write to the header, and not again when the domain is ordered off later with the interrupt still pending (log 87). -/
def State.routeWake (s : State) (p : Nat) : State :=
  if s.irqActive p && s.flag H_IRQ_ROUTE_WAKE p then
    match targetDomain (s.get H_IRQ_ROUTE_TARGET p) with
    | some n => s.hwPowerUp n
    | none => s
  else s

/-- The interrupt of page `p` has risen with IRQ_ROUTE.TARGET 0xD: a satellite device sends it to the master's RING page, once its first
synchronisation has arrived (R74, R462, R467). -/
def State.irqForward (s : State) (p : Nat) : State :=
  if s.get H_IRQ_ROUTE_TARGET p = 13 && !s.flag RING_STAT_ROLE 0x84 && s.flag H_CTRL_EN 0x84 && s.ring.sync.isSome then
    { s with ring := { s.ring with irqs := s.ring.irqs + 1, irqPage := p } }
  else s

/-- What the interrupt of page `p` does as `s` has become `t` (R73, R74). -/
def State.risen (s : State) (p : Nat) (t : State) : State :=
  (if !s.irqActive p && t.irqActive p then t.irqForward p else t).routeWake p

/-- An event of page `p` sets IRQ_RAW bit `b` and reaches its target as routed (R73, R74). -/
def State.irq (s : State) (p b : Nat) : State := s.risen p (s.raise p b)

/-- Count an event in halfword `h` of the delta area; saturation sets DELTA_SAT (R588, R589). -/
def State.logCount (s : State) (h : Nat) : State :=
  let v := s.rd (deltaLoc h)
  if v + 1 < 0xFFFF then s.wr (deltaLoc h) (v + 1)
  else
    let s1 := (s.wr (deltaLoc h) 0xFFFF).put LOG_STAT_DELTA_SAT logPage true
    if s.flag LOG_STAT_DELTA_SAT logPage then s1 else s1.irq logPage 0

/-- Count event `k` of channel index `ch` (R586). -/
def State.logChan (s : State) (ch k : Nat) : State := s.logCount (16 * ch + k)

/-- Count the device-wide event of page `p` of P4 (R587). -/
def State.logDev (s : State) (p : Nat) : State := s.logCount (1440 + p)

/-- A domain's power-up that waits ahead of a load start: PD_PSV at the start's own rank (R95). -/
def State.wantPsv (s : State) (rank : Nat) : State := if s.domOn 10 then s else s.hwPowerUpAt 10 rank

/-- Queue a load start, with PD_PSV's power-up directly ahead of it (R95, R195). -/
def State.queueStart (s : State) (e : GateEntry) : State := (s.wantPsv e.rank).enqueue e

/-- The deferral limit of a request in ns (R201); domain power-ups have none. -/
def State.deferLimit (s : State) (e : GateEntry) : Option Nat :=
  match e.req with
  | .dom _ => none
  | _ =>
    let ms := if e.kind == .limp then s.get GOV_DEFER2_LIMP 0x3E
      else if e.prio = 0 then s.get GOV_DEFER_P0 0x3E else if e.prio = 1 then s.get GOV_DEFER_P1 0x3E
      else if e.prio = 2 then s.get GOV_DEFER_P2 0x3E else s.get GOV_DEFER_P3 0x3E
    some (ms * 1000000)

/-- The code of LAST_REFUSED.KIND. -/
def ReqKind.code : ReqKind → Nat
  | .start => 0
  | .retry => 1
  | .limp => 2
  | .commit => 3

/-- The records of a refusal (R201): the count, the last refused requester with its TB stamp, the interrupt and the sinter log. -/
def State.recordRefusal (s : State) (e : GateEntry) : State :=
  let s := s.bump GOV_CNT_REFUSALS 0x3E
  let s := s.set GOV_LAST_REFUSED_PAGE 0x3E e.req.place.1
  let s := s.set GOV_LAST_REFUSED_CHAN 0x3E (if e.req.place.1 = 0x61 then e.req.place.2 else 0)
  let s := s.set GOV_LAST_REFUSED_KIND 0x3E e.kind.code
  let s := s.set GOV_LAST_REFUSED_TS_LO 0x3E s.tb
  let s := s.set GOV_LAST_REFUSED_TS_HI 0x3E (s.tb / 2 ^ 32)
  (s.irq 0x3E 0).logDev 39

/-- A reservation without the commit `r`; none when it was the last (R204). -/
def Reserve.without (v : Reserve) (r : Req) : Option Reserve :=
  let left := v.left.filter fun x => x.1 != r
  if left.isEmpty then none else some { v with left := left, amount := (left.map (·.2)).sum }

/-- A commit's part of its reservation ends when it is admitted or refused, the last one ends it in full (R204). -/
def State.settleReserve (s : State) (slot : Nat) (r : Req) : State :=
  { s with gate := { s.gate with
      reserves := s.gate.reserves.filterMap fun v => if v.slot = slot then v.without r else some v } }

/-- Release a slot's reservation in full (R204). -/
def State.dropReserve (s : State) (slot : Nat) : State :=
  { s with gate := { s.gate with reserves := s.gate.reserves.filter fun v => v.slot != slot } }

/-- What a slot's reservation withholds for requester `r`. -/
def State.reserveOf (s : State) (slot : Nat) : Nat :=
  ((s.gate.reserves.filter fun v => v.slot == slot).map (·.amount)).sum

end Sys2Proof.Machine
end

