-- ==== Sys2Proof/Machine/Access.lean ====
section
/-! DEFINITION. What every register access has in common: unmapped addresses (R59), domains that are not on (R75, R76), the
unlock sequence a write breaks (R71), locked fields (R4, R65), legal values (R596), the write shadow of a held page
(R70), and the action of a plain write on each field by its access type (R4). -/

namespace Sys2Proof.Machine

/-- The fields at offset `off` of page `p`, with their block instance and element. -/
def fieldsAt (p off : Nat) : List (Fld × Nat × Nat) :=
  (if off < 0x40 then fieldsHDR else pageFields p).filterMap fun f => (f.at? off).map fun x => (f, x.1, x.2)

/-- What a word write gives field `f`. -/
def Fld.of (f : Fld) (v : Nat) : Nat := bitsOf v f.lo f.w

/-- The value of a field that the lock protects: PROT.BP of NVM stands in the macro (R517), every other one in its register. -/
def State.lockedVal (s : State) (p off : Nat) (x : Fld × Nat × Nat) : Nat :=
  if p = 0x85 ∧ off = 0x50 then s.nvm.bp else s.get x.1 p x.2.1 x.2.2

/-- Whether a write of `v` would change an RWL field of a locked page (R4, R65). -/
def lockBroken (s : State) (p off v : Nat) : Bool :=
  !s.flag H_LOCKSTAT_UNLOCKED p &&
    (fieldsAt p off).any fun x => x.1.acc == .rwl && x.1.of v != s.lockedVal p off x

/-- Whether every field a write of `v` gives a value takes a legal one (R596). -/
def rangeOk (p off v : Nat) : Bool :=
  (fieldsAt p off).all fun x => x.1.acc == .ro || x.1.lim.ok p (x.1.of v)

/-- The action of a write on one field by its access type (R4). -/
def writeField (s : State) (p v : Nat) (x : Fld × Nat × Nat) : State :=
  let f := x.1
  match f.acc with
  | .ro | .wo => s
  | .rw | .rwl => s.set f p (f.of v) x.2.1 x.2.2
  | .w1c => s.set f p (andNot (s.get f p x.2.1 x.2.2) (f.of v)) x.2.1 x.2.2
  | .w1s => s.set f p (s.get f p x.2.1 x.2.2 ||| f.of v) x.2.1 x.2.2

/-- A write that acts on each field by its access type alone (R4). -/
def plainWrite (s : State) (p off v : Nat) : State := (fieldsAt p off).foldl (fun s x => writeField s p v x) s

/-- The word at offset `off` of page `p` as its fields hold it; WO fields and reserved bits read 0 (R4, R5). -/
def plainRead (s : State) (p off : Nat) : Nat :=
  ((fieldsAt p off).map fun x => if x.1.acc == .wo then 0 else s.get x.1 p x.2.1 x.2.2 <<< x.1.lo).sum

/-- A failed unlock sequence: FAILS counts and the access is rejected (R71). -/
def failKey (s : State) (p : Nat) : State := (s.bump H_LOCKSTAT_FAILS p).reject p

/-- Whether a write to `off` fails a stored unlock sequence of page `p` (R71). -/
def breaksKey (s : State) (p off : Nat) : Bool := off != 0x20 && s.flag H_LOCKSTAT_KEY1_SEEN p

/-- The registers of R377 that CANn and MSG pages never put into their shadow. -/
def canExempt (p off : Nat) : Bool :=
  (0x70 ≤ p && p < 0x78 && [0x64, 0x70, 0x80, 0x84, 0x8C, 0x90, 0xB4, 0x110].contains off) ||
    (p == 0x79 && ((0x40 ≤ off && off < 0x78) || 0x800 ≤ off))

/-- The registers of R431 that act at once while NMK is held: NEED, COMMIT and KEEP_CLR. -/
def nmkExempt (p off : Nat) : Bool :=
  p == 0x7D && (off == 0x48 || (0x100 ≤ off && off < 0x300 && (off % 0x40 == 0x14 || off % 0x40 == 0x1C)))

/-- The registers of R391, R400 and R412 that act at once: CMD, TRX and RAM of LIN, KICK of a MAC, samples and ACCEPT of NTIME. -/
def netExempt (p off : Nat) : Bool :=
  (0x7A ≤ p && p < 0x7D && (0x400 ≤ off || (0x100 ≤ off && off < 0x300 && (off % 0x80 == 4 || off % 0x80 == 0xC)))) ||
    ((p == 0x7E || p == 0x7F) && off == 0xA0) || (p == 0x80 && ((0x48 ≤ off && off < 0x58) || off == 0x78))

/-- The registers of R451 that act at once: ACT and the AON fields of ACC, CMD, VERDICT and REL of IMMO. -/
def immoExempt (p off : Nat) : Bool :=
  (p == 0x82 && (off == 0x4C || (0x54 ≤ off && off < 0x7C))) || (p == 0x83 && (off == 0x4C || off == 0xA4 || off == 0xAC))

/-- The registers of R535 that act at once: WBUF, WCMD, WBUF_REL, PW registers and WINm of NVM, and the blocks of REC. -/
def nvmExempt (p off : Nat) : Bool :=
  (p == 0x85 && (off == 0x48 || off == 0x4C || (0x54 ≤ off && off < 0x60) || (0x100 ≤ off && off < 0x180))) || (p == 0x86 && 0x100 ≤ off)

/-- Registers whose writes act at once while their page is held: the header (R70), the keepalive registers (R282), GCTRL of
the Ferlys groups (R345), and those of R377, R391, R400, R412, R431, R451
and R535. -/
def holdExempt (p off : Nat) : Bool :=
  off < 0x40 || (p == 0x62 && 0x40 ≤ off && off < 0x50) || (p == 0x6C && 0x80 ≤ off && off < 0x380 && off % 0x80 == 4) ||
    canExempt p off || nmkExempt p off || netExempt p off || immoExempt p off ||
    nvmExempt p off

/-- Put a write into the shadow of a held page; beyond 64 entries it is rejected (R70). -/
def shadowPush (s : State) (m : Master) (p off v : Nat) : State :=
  let q := tget s.shadow p []
  if q.length < 64 then { s with shadow := tput s.shadow p [] (q ++ [⟨m.code, off, v⟩]) } else s.reject p

/-- The value a read of a domain that cannot be reached returns (R75). -/
def domainOffWord : Nat := 0xD0FFD0FF

/-- An access to a page whose domain is not on (R75, R100): a stall for a wake, or the error response at once. -/
def domainOffAccess (s : State) (m : Master) (p off : Nat) (w : Option Nat) : State :=
  match pageDomain p with
  | none => s
  | some n =>
    if !s.flag PWR_DOMAIN_AUTOWAKE 2 n then s.answer .domainOff domainOffWord
    else
      let s := s.hwPowerUp n
      if s.order n = 3 || s.order 7 = 3 then s.answer .domainOff domainOffWord
      else { s.answer .none with stall := tput s.stall m.key {} { page := p, off := off, write := w, since := s.tb } }

/-- The number `v` with bits `lo` to `lo + w - 1` replaced by `x`. -/
def putBits (v lo w x : Nat) : Nat := v - (bitsOf v lo w <<< lo) + (x <<< lo)

/-- The word `v` as a locked page takes it: each RWL field keeps its present value, the other fields act as written (R4). -/
def State.keepLocked (s : State) (p off v : Nat) : Nat :=
  (fieldsAt p off).foldl (fun v x => if x.1.acc == .rwl then putBits v x.1.lo x.1.w (s.lockedVal p off x) else v) v

/-- One write counts one rejected access at most, on top of the `n` before it (R65). -/
def State.countOnce (s : State) (p n : Nat) : State :=
  if n + 1 < s.get H_EVT_CNT_REJECTED p then s.set H_EVT_CNT_REJECTED p (n + 1) else s

/-- A write that reaches its page: discarded as a whole when it gives an illegal value (R596), otherwise acting as `eff` says, with
the values of locked fields discarded (R4). -/
def checkedWrite (s : State) (p off v : Nat) (eff : Nat → State → State) : State :=
  if !rangeOk p off v then s.reject p
  else if lockBroken s p off v then
    (eff (s.keepLocked p off v) (s.reject p)).countOnce p (s.get H_EVT_CNT_REJECTED p)
  else eff v s

/-- Another requester needs domain `n`: no slot and no LF poll returns it any more (R22, R334). -/
def State.need (s : State) (n : Nat) : State := ({ s with woken := s.woken.filter fun w => w.dom != n } : State).unpoll n

/-- An access to page `p` shows that another requester needs its domain (R334). -/
def State.needPage (s : State) (p : Nat) : State :=
  match pageDomain p with
  | some n => s.need n
  | none => s

/-- A register write by master `m`: a clock freeze, in which the bus stands still (R85), unmapped pages, domains that are not on, the unlock sequence, the shadow of a held
page and the checks of R65 and R596 come first; then `eff` is what the register does. -/
def accessWrite (s : State) (m : Master) (p off v : Nat) (eff : Nat → State → State) : State :=
  if s.clk.frozen then s
  else if !pageUsed p then s.answer .unmapped
  else if !s.pageOn p then domainOffAccess (s.needPage p) m p off (some v)
  else
    let s := (s.needPage p).answer .ok
    let act (s : State) : State :=
      if s.flag H_STAT_HELD p && !holdExempt p off then shadowPush s m p off v else checkedWrite s p off v eff
    if breaksKey s p off then
      (act (failKey (s.put H_LOCKSTAT_KEY1_SEEN p false) p)).countOnce p (s.get H_EVT_CNT_REJECTED p)
    else act s

/-- A write to LOCKKEY: it advances, completes, fails or ends the unlock sequence (R71). -/
def lockKey (s : State) (m : Master) (p v : Nat) : State :=
  let seen := s.flag H_LOCKSTAT_KEY1_SEEN p
  if v = 0x5A5A0000 + p then
    if seen then failKey s p else s.put H_LOCKSTAT_KEY1_SEEN p true
  else if v = 0xA5A50000 + p then
    if seen then
      let s := (s.put H_LOCKSTAT_KEY1_SEEN p false).put H_LOCKSTAT_UNLOCKED p true
      (s.set H_LOCKSTAT_MASTER p m.code).set H_LOCKSTAT_FAILS p 0
    else failKey s p
  else
    let s := s.put H_LOCKSTAT_UNLOCKED p false
    if seen then failKey (s.put H_LOCKSTAT_KEY1_SEEN p false) p else s

/-- Lock a page and forget a stored first key: its domain leaves on, or a full reset (R71). -/
def relock (s : State) (p : Nat) : State := (s.put H_LOCKSTAT_UNLOCKED p false).put H_LOCKSTAT_KEY1_SEEN p false

/-- An action that a write asks for: the state after it and whether it was rejected. -/
abbrev Acted := State × Bool

/-- Do an action; a rejected one counts once (R65). -/
def doAct (p : Nat) (r : Acted) : State := if r.2 then r.1.reject p else r.1

end Sys2Proof.Machine
end

