-- ==== Sys2Proof/Machine/Ecc.lean ====
section
/-! DEFINITION. Uncorrectable codewords of the memories (R583, R585). -/

namespace Sys2Proof.Machine

/-- The page of ECC. -/
def eccPage : Nat := 0x0F

/-- Whether the codeword that holds byte `a` of memory `m` (of core `c` for I-RAM and D-RAM) is uncorrectable (R583). -/
def State.isBad (s : State) (m c a : Nat) : Bool := s.eccBad.contains (m, c, a / 8 * 8)

/-- An uncorrectable codeword is met (R583, R585, R587): counted, recorded and reported; MSG records its own. -/
def eccUe (s : State) (m c a : Nat) (scrub : Bool) : State :=
  let s := s.logDev 35
  let s := if m = 3 then (s.set MSG_UE_ADDR 0x79 (a / 4)).put MSG_UE_SEEN 0x79 true else s
  if s.domOn 6 then
    let s := (s.bump ECC_CNT_UE eccPage m).set ECC_LAST_UE_MEM eccPage m
    let s := (s.set ECC_LAST_UE_CORE eccPage c).put ECC_LAST_UE_BY_SCRUB eccPage scrub
    (s.set ECC_LAST_UE_ADDR eccPage (a / 8 * 8)).irq eccPage m
  else s

/-- A codeword is corrected (R583, R585, R587). -/
def eccCorr (s : State) (m : Nat) : State :=
  let s := s.logDev 34
  let s := if m = 3 then s.bump MSG_ECC_CORR 0x79 else s
  if s.domOn 6 then s.bump ECC_CNT_CORR eccPage m else s

end Sys2Proof.Machine
end

