-- ==== Sys2Proof/Machine/CanTx.lean ====
section
/-! DEFINITION. Transmit slots of the CAN controllers: elements in the message RAM, requests, cancellation, staging and the frame
that is offered next (R357, R364 to R366). -/

namespace Sys2Proof.Machine

/-- The page of CAN controller `c`. -/
def canPage (c : Nat) : Nat := 0x70 + c

/-- The page of the transceivers. -/
def ctrxPage : Nat := 0x78

/-- Word `a` of the message RAM (R354). -/
def State.msgGet (s : State) (a : Nat) : Nat := tget s.msgRam (a % 16384) 0

/-- Store a word of the message RAM. -/
def State.msgPut (s : State) (a v : Nat) : State := { s with msgRam := tput s.msgRam (a % 16384) 0 (v % 2 ^ 32) }

/-- Data words of a DSIZE code (R357). -/
def dsizeWords (code : Nat) : Nat := [2, 3, 4, 5, 6, 8, 12, 16].getD code 16

/-- The transmit slots that exist, as a mask (R364). -/
def State.txMask (s : State) (c : Nat) : Nat := 2 ^ s.get CAN_TXSLOT_COUNT (canPage c) - 1

/-- Word `w` of transmit slot `b`'s element (R357). -/
def State.txWord (s : State) (c b w : Nat) : Nat :=
  s.msgGet (s.get CAN_TXSLOT_BASE (canPage c) + b * (2 + dsizeWords (s.get CAN_DSIZE_TXSLOT (canPage c))) + w)

/-- The identifier priority of a transmit element under ISO 11898-1 (R364): the lower value wins arbitration. -/
def State.txKey (s : State) (c b : Nat) : Nat :=
  let h := s.txWord c b 0
  let id := s.txWord c b 1 % 2 ^ 29
  let rtr := b2n (bitOf h 7 && !bitOf h 4)
  if bitOf h 8 then id / 2 ^ 18 * 2 ^ 21 + 2 ^ 20 + 2 ^ 19 + id % 2 ^ 18 * 2 + rtr else id % 2 ^ 11 * 2 ^ 21 + rtr * 2 ^ 20

/-- The slots of controller `c` with a bit set in `v`. -/
def maskSlots (v : Nat) : List Nat := (List.range 32).filter fun b => bitOf v b

/-- Mark slots as not sent (R357, R364, R365). -/
def canNotSent (s : State) (c v : Nat) : State :=
  if v = 0 then s
  else
    let p := canPage c
    let s := s.set CAN_TX_PEND p (andNot (s.get CAN_TX_PEND p) v)
    (s.set CAN_TX_ABORTED p (s.get CAN_TX_ABORTED p ||| v)).irq p 10

/-- Whether time-triggered operation is configured (R369). -/
def State.ttOn (s : State) (c : Nat) : Bool := c < 4 && s.flag CAN_SCHED_CFG_EN (canPage c)

/-- The pending slots that may be offered now (R364, R366, R371, R372): under a schedule only the slot of the open window, at level S2 not
until it is resynchronised. -/
def State.offered (s : State) (c : Nat) : List Nat :=
  let p := canPage c
  let l := maskSlots (andNot (s.get CAN_TX_PEND p) (s.get CAN_TX_STAGED p))
  if s.ttOn c then
    (if (s.canH c).tt.running && (s.get CAN_SCHED_STAT_ERR_LEVEL p < 2 || !(s.canH c).tt.lost) then l.filter fun b => (s.canH c).tt.window == some b else [])
  else l

/-- Of two slots the one that goes first (R364). -/
def State.txFirst (s : State) (c : Nat) (a : Option Nat) (b : Nat) : Option Nat :=
  match a with
  | some x => if s.txKey c b < s.txKey c x then some b else some x
  | none => some b

/-- Whether controller `c` may start a frame now: enabled, bus idle, no mode that keeps it from sending (R374). -/
def State.canSends (s : State) (c : Nat) : Bool :=
  let p := canPage c
  s.domRuns 3 && s.accepts p && !s.clk.frozen && s.get CAN_BUSSTAT_ACTIVITY p == 1 && !s.flag CAN_BUSSTAT_BUSOFF p &&
    !s.flag CAN_CFG_LISTEN p && !s.flag CAN_CFG_ACK_ONLY p && (s.canH c).cur.isNone

/-- Whether the frame of slot `b` switches its bit rate: an FD frame with BRS set, not while the PLL runs on the RC (R86). -/
def State.txSwitches (s : State) (c b : Nat) : Bool :=
  let h := s.txWord c b 0
  b < 32 && bitOf h 4 && bitOf h 5 && s.flag CAN_CFG_BRS_EN (canPage c) && !s.flag CLK_STAT_REF_ACT 1

/-- The data bytes of slot `b`'s element (R357). -/
def State.txBytes (s : State) (c b : Nat) : List Byte :=
  (List.range (dsizeWords (s.get CAN_DSIZE_TXSLOT (canPage c)))).flatMap fun k =>
    let w := s.txWord c b (2 + k)
    (List.range 4).map fun j => BitVec.ofNat 8 (w / 256 ^ j)

/-- The frame of transmit slot `b` (R357, R86); of bytes that its element does not hold the spec says nothing (log 3). -/
def txFrame (s : State) (c b : Nat) : CanFrame × State :=
  let h := s.txWord c b 0
  let id := s.txWord c b 1
  let fdf := bitOf h 4
  let rtr := bitOf h 7 && !fdf
  let n := if rtr then 0 else dlcLen fdf (h % 16)
  let r := s.padBytes ((s.txBytes c b).take n) n
  ({ dlc := h % 16, fdf := fdf, brs := s.txSwitches c b, esi := fdf && s.flag CAN_BUSSTAT_PASSIVE (canPage c), rtr := rtr,
     xtd := bitOf h 8, id := if bitOf h 8 then id % 2 ^ 29 else id % 2 ^ 11, data := r.1 }, r.2)

/-- NTU elapsed since the cycle start (R369). -/
def State.cycleTime (s : State) (c : Nat) : Nat :=
  (s.tb - (s.canH c).tt.start) * (s.canH c).tt.tur / 4294967296 / max (s.get CAN_NTU_CFG_NTU (canPage c)) 1

/-- The global time offered to NTIME, in NTU (R374). -/
def State.globalTime (s : State) (c : Nat) : Nat := ((s.canH c).tt.mark + s.cycleTime c) % 65536

/-- The cycle count of the next basic cycle that this master starts (R370, R371). -/
def State.nextCycle (s : State) (c : Nat) : Nat :=
  let p := canPage c
  if s.flag CAN_SCHED_STAT_SYNC p then (s.get CAN_SCHED_STAT_CYCLE p + 1) % 2 ^ s.get CAN_SCHED_CFG_CYC p else 0

/-- The reference message of controller `c` (R370): its first bytes are the KV1's, further ones those of slot REF_SLOT. -/
def refFrame (s : State) (c : Nat) : CanFrame × State :=
  let p := canPage c
  let b := s.get CAN_NTU_CFG_REF_SLOT p
  let g := s.globalTime c
  let l : List Byte := [BitVec.ofNat 8 (s.nextCycle c), 0] ++
    (if s.flag CAN_SCHED_CFG_LEVEL2 p then [BitVec.ofNat 8 g, BitVec.ofNat 8 (g / 256)] else [])
  let dlc := max (s.txWord c b 0 % 16) (if s.flag CAN_SCHED_CFG_LEVEL2 p then 4 else 1)
  let n := dlcLen false dlc
  let r := s.padBytes ((l ++ (s.txBytes c b).drop l.length).take n) n
  ({ dlc := dlc, fdf := false, brs := false, esi := false, rtr := false, xtd := s.flag CAN_REFMSG_XTD p,
     id := s.get CAN_REFMSG_ID p / 8 * 8 + s.get CAN_SCHED_CFG_MPRIO p, data := r.1 }, r.2)

/-- Start the frame of slot `b`, whose element is read now (R364); slot 32 is the reference message. -/
def canBegin (s : State) (c b : Nat) : State :=
  let h := s.txWord c b 0
  let brs := s.txSwitches c b
  let r := if b < 32 then txFrame s c b else refFrame s c
  (r.2.set CAN_BUSSTAT_ACTIVITY (canPage c) 3).upCan c fun x =>
    { x with cur := some b, cancel := false, brs := brs, frame := some r.1, head := h,
             tt := { x.tt with began := x.tt.began || x.tt.window == some b } }

/-- The first word of slot `b`'s element that lies in an uncorrectable codeword (R375). -/
def State.txBad (s : State) (c b : Nat) : Option Nat :=
  let n := 2 + dsizeWords (s.get CAN_DSIZE_TXSLOT (canPage c))
  let a := s.get CAN_TXSLOT_BASE (canPage c) + b * n
  ((List.range n).map fun w => (a + w) % 16384).find? fun w => s.isBad 3 0 (4 * w)

/-- An element that the controller cannot read is not sent (R375). -/
def txUnread (s : State) (c b : Nat) : State :=
  match s.txBad c b with
  | some w => (canNotSent (eccUe s 3 0 (4 * w) false) c (1 <<< b)).irq (canPage c) 21
  | none => s

/-- Offer the next frame on an idle bus (R364): a schedule's reference message first (R371); an FD element while FD_EN is 0 is not sent
(R357). -/
def canArb (s : State) (c : Nat) : State :=
  if s.canSends c && s.ttOn c && (s.canH c).tt.running && (s.canH c).tt.refDue then canBegin s c 32
  else if s.canSends c then
    let s := s.each ((s.offered c).filter fun b => (s.txBad c b).isSome) fun s b => txUnread s c b
    let bad := (s.offered c).filter fun b => bitOf (s.txWord c b 0) 4 && !s.flag CAN_CFG_FD_EN (canPage c)
    let s := canNotSent s c ((bad.map fun b => 2 ^ b).sum)
    match (s.offered c).foldl (s.txFirst c) none with
    | some b => canBegin s c b
    | none => s
  else s

/-- The part of a mask kept with its TB that stems from this BCLK. -/
def State.sameClock (s : State) (m : Option (Nat × Nat)) : Nat :=
  match m with
  | some (t, v) => if t = s.tb then v else 0
  | none => 0

/-- A TX_REQ write of mask `v` (R364 to R366): nothing changes for a slot already pending, and a cancellation in the same BCLK wins
(R378). -/
def canReq (s : State) (c v : Nat) : State :=
  let p := canPage c
  let x := s.canH c
  let v := v &&& s.txMask c
  let lost := v &&& s.sameClock x.undone
  let v := andNot v lost
  let s := s.set CAN_TX_STAGED p (andNot (s.get CAN_TX_STAGED p) v)
  let v := andNot v (s.get CAN_TX_PEND p)
  let s := (s.set CAN_TX_DONE p (andNot (s.get CAN_TX_DONE p) (v ||| lost))).set CAN_TX_ABORTED p (andNot (s.get CAN_TX_ABORTED p) v)
  let s := s.set CAN_TX_PEND p (s.get CAN_TX_PEND p ||| v)
  let s := canNotSent s c (andNot lost (s.get CAN_TX_ABORTED p))
  canArb (s.upCan c fun y => { y with asked := some (s.tb, s.sameClock x.asked ||| v) }) c

/-- A TX_ABORT write of mask `v` (R365, R366): a slot in transmission completes its attempt, but one that was requested in this BCLK is
cancelled (R378). -/
def canAbort (s : State) (c v : Nat) : State :=
  let p := canPage c
  let x := s.canH c
  let hit := v &&& (s.get CAN_TX_PEND p ||| s.get CAN_TX_STAGED p)
  let sent := match x.cur with | some b => if bitOf hit b then 2 ^ b else 0 | none => 0
  let fresh := sent &&& s.sameClock x.asked
  let busy := andNot sent fresh
  let s := s.upCan c fun y => { y with cancel := y.cancel || busy != 0, undone := some (s.tb, s.sameClock x.undone ||| v) }
  let s := if fresh = 0 then s else (s.set CAN_BUSSTAT_ACTIVITY p 1).upCan c fun y => { y with cur := none, frame := none }
  let s := canNotSent s c (andNot hit busy)
  let s := s.set CAN_TX_STAGED p (andNot (s.get CAN_TX_STAGED p) (andNot hit busy))
  if fresh = 0 then s else canArb s c

/-- A request of slot `b` made in this BCLK is taken back (R452); `done` is its TX_DONE bit before. -/
def canForget (s : State) (c b : Nat) (done : Bool) : State :=
  let p := canPage c
  let s := s.set CAN_TX_PEND p (clrBit (s.get CAN_TX_PEND p) b)
  let s := if done then s.set CAN_TX_DONE p (setBit (s.get CAN_TX_DONE p) b) else s
  if (s.canH c).cur = some b then
    canArb ((s.set CAN_BUSSTAT_ACTIVITY p 1).upCan c fun y => { y with cur := none, frame := none }) c
  else s

/-- A FRAME_STAGE preparation marks a buffer staged (R366). -/
def canStage (s : State) (c b : Nat) : State := s.set CAN_TX_STAGED (canPage c) (setBit (s.get CAN_TX_STAGED (canPage c)) b)

/-- A quench unstages a buffer (R366). -/
def canUnstage (s : State) (c b : Nat) : State := s.set CAN_TX_STAGED (canPage c) (clrBit (s.get CAN_TX_STAGED (canPage c)) b)

/-- A FRAME_SEND commit offers a staged buffer; on one no longer staged it does nothing (R366). -/
def canOffer (s : State) (c b : Nat) : State :=
  if bitOf (s.get CAN_TX_STAGED (canPage c)) b then canReq s c (1 <<< b) else s

end Sys2Proof.Machine
end

