-- ==== Sys2Proof/Machine/Checks.lean ====
section
/-! DEFINITION. The cyclic redundancy checks the KV1 uses: CRC-8 (R438, R527), CRC-16 (R438), CRC-32C (R523) and CRC-32 (R561), and the
SHAKE256 of images and reports (R540, R556), which FIPS 202 defines (log 10). -/

namespace Sys2Proof.Machine

/-- One bit of a reflected CRC with polynomial `poly`. -/
def crcBit (poly c : Nat) : Nat := if c % 2 = 1 then (c / 2) ^^^ poly else c / 2

/-- One byte of a reflected CRC. -/
def crcByte (poly c b : Nat) : Nat := (List.range 8).foldl (fun c _ => crcBit poly c) (c ^^^ b)

/-- A reflected 32-bit CRC with initial value and final XOR of all ones. -/
def crc32of (poly : Nat) (l : List Nat) : Nat := l.foldl (crcByte poly) 0xFFFFFFFF ^^^ 0xFFFFFFFF

/-- CRC-32C of R523: polynomial 0x1EDC_6F41, reflected. -/
def crc32c (l : List Nat) : Nat := crc32of 0x82F63B78 l

/-- CRC-32 of R561: polynomial 0x04C1_1DB7, reflected. -/
def crc32 (l : List Nat) : Nat := crc32of 0xEDB88320 l

/-- One bit of the CRC-8 of R527. -/
def crc8Bit (c : Nat) : Nat := if 128 ≤ c then (c * 2 % 256) ^^^ 7 else c * 2

/-- CRC-8 of R527: polynomial 0x07, initial value 0. -/
def crc8 (l : List Nat) : Nat := l.foldl (fun c b => (List.range 8).foldl (fun c _ => crc8Bit c) (c ^^^ b)) 0

/-- One bit of the CRC-16 of R438. -/
def crc16Bit (c : Nat) : Nat := if 32768 ≤ c then (c * 2 % 65536) ^^^ 0x1021 else c * 2

/-- CRC-16 of R438: polynomial 0x1021, initial value 0xFFFF. -/
def crc16 (l : List Nat) : Nat := l.foldl (fun c b => (List.range 8).foldl (fun c _ => crc16Bit c) (c ^^^ b * 256)) 0xFFFF

/-! SHAKE256 of FIPS 202. A state is 25 lanes of 64 bits, lane x + 5 y. -/

/-- Rotate a lane left. -/
def rotl64 (v n : Nat) : Nat := (v * 2 ^ n) % 2 ^ 64 ||| v / 2 ^ (64 - n)

/-- Lane `i` of a state. -/
def lane (a : List Nat) (i : Nat) : Nat := a.getD i 0

/-- The step mapping theta. -/
def kTheta (a : List Nat) : List Nat :=
  let c := (List.range 5).map fun x => (List.range 5).foldl (fun v y => v ^^^ lane a (x + 5 * y)) 0
  (List.range 25).map fun i => lane a i ^^^ lane c ((i + 4) % 5) ^^^ rotl64 (lane c ((i + 1) % 5)) 1

/-- The rotation of each lane in rho. -/
def kRot : List Nat := [0, 1, 62, 28, 27, 36, 44, 6, 55, 20, 3, 10, 43, 25, 39, 41, 45, 15, 21, 8, 18, 2, 61, 56, 14]

/-- The step mappings rho and pi: lane (x, y) of the result comes from lane (x + 3 y, x). -/
def kRhoPi (a : List Nat) : List Nat :=
  (List.range 25).map fun i =>
    let j := (i % 5 + 3 * (i / 5)) % 5 + 5 * (i % 5)
    rotl64 (lane a j) (kRot.getD j 0)

/-- The step mapping chi. -/
def kChi (a : List Nat) : List Nat :=
  (List.range 25).map fun i =>
    let y := i / 5 * 5
    lane a i ^^^ ((2 ^ 64 - 1 - lane a (y + (i + 1) % 5)) &&& lane a (y + (i + 2) % 5))

/-- The round constants of iota. -/
def kIota : List Nat :=
  [0x0000000000000001, 0x0000000000008082, 0x800000000000808A, 0x8000000080008000, 0x000000000000808B, 0x0000000080000001,
   0x8000000080008081, 0x8000000000008009, 0x000000000000008A, 0x0000000000000088, 0x0000000080008009, 0x000000008000000A] ++
  [0x000000008000808B, 0x800000000000008B, 0x8000000000008089, 0x8000000000008003, 0x8000000000008002, 0x8000000000000080,
   0x000000000000800A, 0x800000008000000A, 0x8000000080008081, 0x8000000000008080, 0x0000000080000001, 0x8000000080008008]

/-- One round of Keccak-f[1600]. -/
def kRound (a : List Nat) (rc : Nat) : List Nat :=
  match kChi (kRhoPi (kTheta a)) with
  | [] => []
  | x :: r => (x ^^^ rc) :: r

/-- Keccak-f[1600]. -/
def keccakF (a : List Nat) : List Nat := kIota.foldl kRound a

/-- Bytes `i` and on of `l`, eight of them, as a lane. -/
def laneOf (l : List Nat) (i : Nat) : Nat := ((List.range 8).map fun j => l.getD (i + j) 0 * 256 ^ j).sum

/-- Absorb a padded message, 136 bytes at a time; `n` bounds the blocks. -/
def kAbsorb (a l : List Nat) (n : Nat) : List Nat :=
  match n with
  | 0 => a
  | k + 1 =>
    if l.isEmpty then a
    else
      let b := l.take 136
      kAbsorb (keccakF ((List.range 25).map fun i => if i < 17 then lane a i ^^^ laneOf b (8 * i) else lane a i)) (l.drop 136) k

/-- The padding of SHAKE256 after `n` bytes. -/
def shakePad (n : Nat) : List Nat :=
  let q := 136 - n % 136
  if q = 1 then [0x9F] else 0x1F :: (List.replicate (q - 2) 0 ++ [0x80])

/-- SHAKE256 with 512-bit output: 64 bytes. -/
def shake512 (l : List Nat) : List Nat :=
  let p := l ++ shakePad l.length
  let a := kAbsorb (List.replicate 25 0) p (p.length / 136 + 1)
  (List.range 64).map fun j => lane a (j / 8) / 256 ^ (j % 8) % 256

end Sys2Proof.Machine
end

