-- ==== Sys2Proof/Machine/Exchange.lean ====
section
/-! DEFINITION. The LF exchange of the immobiliser: requests, telegrams and outcomes (R438 to R445). -/

namespace Sys2Proof.Machine

/-- The page of IMMO. -/
def immoPage : Nat := 0x83

/-- The page of ACC. -/
def accPage : Nat := 0x82

/-- Change the immobiliser's hidden state. -/
def State.upImmo (s : State) (f : Immo → Immo) : State := { s with immo := f s.immo }

/-- Draw a fresh challenge from the DRBG, which wakes PD_SEC (R439). -/
def immoChallenge (s : State) : State :=
  let s := if s.domOn 4 then s else s.hwPowerUp 4
  let (a, s) := s.fresh (2 ^ 32)
  let (b, s) := s.fresh (2 ^ 32)
  (s.set IMMO_CHAL_LO immoPage a).set IMMO_CHAL_HI immoPage b

/-- SLOTSTAT.CLASS at the start of listening: no slot for an index that is not learnt, otherwise empty (R440, R454). -/
def State.immoSlots (s : State) : Nat :=
  ((List.range 8).map fun k => if bitOf (s.get IMMO_KEYS_LEARNT immoPage) k then 0 else 3 * 4 ^ k).sum

/-- The antennas that are kept off: shorted ones, and all of them while the thermal latch is set (R435). -/
def State.lfOff (s : State) : Nat := if s.lf.latch then 63 else s.get ACC_FAULT_SHORT accPage

/-- A telegram begins on the antennas of `mask`, without those that are kept off (R435). -/
def lfBegin (s : State) (mask : Nat) : State := { s with lf := { s.lf with lost := mask &&& s.lfOff } }

/-- Whether the challenge has to wait for PD_SEC, which can wake (R75, R439). -/
def State.drbgSleeps (s : State) : Bool := !s.domOn 4 && s.flag PWR_DOMAIN_AUTOWAKE 2 4 && s.order 4 != 3 && s.order 7 != 3

/-- A challenge telegram begins (R440). -/
def immoSend (s : State) (state : Nat) : State :=
  let s := immoChallenge ((s.set IMMO_XSTAT_STATE immoPage state).upImmo fun x => { x with await := none })
  let s := (s.set IMMO_SLOTSTAT_CLASS immoPage s.immoSlots).set IMMO_SLOTSTAT_VALID immoPage 0
  let s := lfBegin s (s.get IMMO_XSTAT_MASK immoPage)
  s.upImmo fun x => { x with since := s.tb, judged := 0, closed := 0, closeTb := [] }

/-- A challenge telegram is due: its read of the DRBG stalls until PD_SEC is on (R439); where PD_SEC cannot wake, the challenge is a free
value all the same (log 99). -/
def immoTelegram (s : State) (state : Nat) : State :=
  if s.drbgSleeps then (s.hwPowerUp 4).upImmo fun x => { x with await := some state } else immoSend s state

/-- An exchange ends with an outcome (R443). -/
def immoEnd (s : State) (outcome key cause : Nat) : State :=
  let s := (s.set IMMO_RESULT_OUTCOME immoPage outcome).set IMMO_RESULT_KEY immoPage key
  let s := (s.put IMMO_RESULT_PURPOSE immoPage (s.flag IMMO_XSTAT_PURPOSE immoPage)).set IMMO_RESULT_ABORT_CAUSE immoPage cause
  let s := s.set IMMO_XSTAT_STATE immoPage 0
  (s.upImmo fun x => { x with run := none, tp := false, endTb := s.tb, await := none }).irq immoPage 0

/-- The exchange ends ABORTED (R443). -/
def immoAbort (s : State) (cause : Nat) : State := if s.immo.run.isSome then immoEnd s 3 0 cause else s

/-- An exchange begins; above VBAT_OV no telegram begins (R36, R440, R443). -/
def immoStart (s : State) (x : Xreq) : State :=
  let s := s.upImmo fun y => { y with run := some x, tp := x.tp }
  let s := ((s.put IMMO_XSTAT_PURPOSE immoPage x.start).set IMMO_XSTAT_MASK immoPage x.mask).put IMMO_XSTAT_REPEATED immoPage false
  if s.flag SUP_STAT_VBAT_OV 4 then immoAbort s 4 else immoTelegram s (if x.tp then 4 else 1)

/-- Two requests as one (R444). -/
def Xreq.merge (a b : Xreq) : Xreq :=
  { start := a.start || b.start, tp := a.tp && b.tp, mask := a.mask ||| b.mask, cmd := a.cmd || b.cmd, slots := a.slots ++ b.slots }

/-- A request for an exchange (R444): `x` comes from CMD or from the LF_SEARCH of one slot; during a poll it waits. -/
def immoRequest (s : State) (x : Xreq) : State :=
  if !s.accepts immoPage || !s.accepts accPage then s
  else
    match s.immo.run, s.immo.pend with
    | none, none => if s.lf.polling then s.upImmo fun z => { z with pend := some x } else immoStart s x
    | none, some y => s.upImmo fun z => { z with pend := some (y.merge x) }
    | some r, y =>
      if !x.cmd && x.mask &&& r.mask == x.mask then
        s.upImmo fun z => { z with run := some { r with slots := r.slots ++ x.slots } }
      else s.upImmo fun z => { z with pend := some (match y with | some q => q.merge x | none => x) }

/-- A request without a slot; none when no requester remains. -/
def Xreq.drop (x : Xreq) (slot : Nat) : Option Xreq :=
  let l := x.slots.filter (· != slot)
  if x.cmd || !l.isEmpty then some { x with slots := l } else none

/-- A quench removes its slot as a requester; the exchange of no one ends ABORTED with cause 5 (R444). -/
def immoDrop (s : State) (slot : Nat) : State :=
  let s := s.upImmo fun z => { z with pend := z.pend.bind fun x => x.drop slot }
  match s.immo.run with
  | some r =>
    match r.drop slot with
    | some r' => s.upImmo fun z => { z with run := some r' }
    | none => immoAbort s 5
  | none => s

/-- After a boil the exchange runs to its end without its slot (R331). -/
def immoRelease (s : State) (slot : Nat) : State :=
  let keep (x : Xreq) : Xreq := if x.slots.contains slot then { x with cmd := true, slots := x.slots.filter (· != slot) } else x
  s.upImmo fun z => { z with run := z.run.map keep, pend := z.pend.map keep }

/-- PD_SEC is on: a telegram that waits for its challenge begins, but not above VBAT_OV (R36, R439). -/
def immoServe (s : State) : State :=
  match s.immo.await with
  | some st => if s.flag SUP_STAT_VBAT_OV 4 then immoAbort s 4 else immoSend s st
  | none => s

/-! The time of an exchange (R438, R440). -/

/-- An LF bit time in ns. -/
def State.lfBit (s : State) : Nat := 64000 * 2 ^ s.get ACC_LF_RATE accPage

/-- The end of the challenge telegram: 100 bit times after its start. -/
def State.telegramDue (s : State) : Nat := s.immo.since + 100 * s.lfBit

/-- The TB at which slot `k` opens. -/
def State.slotAt (s : State) (k : Nat) : Nat :=
  s.telegramDue + s.get IMMO_TIMING_T_GAP immoPage * 10000 + k * (s.get IMMO_TIMING_SLOT_LEN immoPage * 100000)

/-- The number of slots up to that of the highest learnt index. -/
def State.slotCount (s : State) : Nat :=
  ((List.range 8).filter fun k => bitOf (s.get IMMO_KEYS_LEARNT immoPage) k).foldl (fun _ k => k + 1) 0

/-! Telegrams (R438, R439, R445). -/

/-- The bits of a challenge telegram after its carrier, most significant first: sync, CMD, VID and challenge. -/
def State.challengeBits (s : State) : List Bool :=
  let bits (v n : Nat) : List Bool := ((List.range n).map fun i => bitOf v i).reverse
  bits 0xA 4 ++ bits (if s.flag IMMO_XSTAT_PURPOSE immoPage then 3 else 2) 4 ++ bits (s.get IMMO_VID immoPage) 20 ++
    bits (s.get IMMO_CHAL_HI immoPage) 32 ++ bits (s.get IMMO_CHAL_LO immoPage) 32

/-- The bits of a poll telegram after its carrier. -/
def State.pollBits (s : State) : List Bool :=
  let bits (v n : Nat) : List Bool := ((List.range n).map fun i => bitOf v i).reverse
  bits 0xA 4 ++ bits 1 4 ++ bits (s.get IMMO_VID immoPage) 20

/-- The class of what a slot has heard after an answer's sync (R438, R441): nothing is empty; a Manchester violation, a wrong CRC or an
incomplete answer collided; a response with its CRC-16 clean. `viol` tells a violation, or a sync that no byte follows. -/
def answerClass (viol : Bool) (l : List Nat) : Nat :=
  if viol then 2
  else if l.isEmpty then 0
  else if l.length = 10 && crc16 (l.take 8) == l.getD 8 0 * 256 + l.getD 9 0 then 1 else 2

/-- Four bytes of a response as a word, the first sent in the high byte (R454). -/
def answerWord (l : List Nat) : Nat := (l.take 4).foldl (fun n b => n * 256 + b) 0

/-- A telegram has ended: listening begins (R440, R445). -/
def immoListen (s : State) : State :=
  if s.get IMMO_XSTAT_STATE immoPage = 1 then
    s.set IMMO_XSTAT_STATE immoPage 2
  else s

/-- The class of slot `k` (R441). -/
def State.slotClass (s : State) (k : Nat) : Nat := s.get IMMO_SLOTSTAT_CLASS immoPage / 4 ^ k % 4

/-- Close slot `k` with class `c` (R441): a clean answer goes to ANSk and awaits a verdict. -/
def immoSlotClose (s : State) (k c hi lo : Nat) : State :=
  let st := s.get IMMO_XSTAT_STATE immoPage
  if (st = 2 || (st = 4 && s.immo.tp)) && s.slotClass k != 3 && !bitOf s.immo.closed k then
    let old := s.slotClass k
    let s := s.set IMMO_SLOTSTAT_CLASS immoPage (s.get IMMO_SLOTSTAT_CLASS immoPage - old * 4 ^ k + c * 4 ^ k)
    let s := s.upImmo fun x => { x with closed := setBit x.closed k }
    if c = 1 then
      let s := (s.set IMMO_ANS_HI immoPage hi k).set IMMO_ANS_LO immoPage lo k
      (s.upImmo fun x => { x with closeTb := (k, s.tb) :: x.closeTb }).irq immoPage 1
    else s
  else s

/-- The key that R442 grants now: the lowest valid clean slot whose lower clean slots all have their verdict. -/
def State.immoWinner (s : State) : Option Nat :=
  (List.range 8).find? fun k => bitOf (s.get IMMO_SLOTSTAT_VALID immoPage) k &&
    (List.range k).all fun j => s.slotClass j != 1 || bitOf s.immo.judged j

/-- A grant ends the exchange (R442, R443). -/
def immoGrant (s : State) (k : Nat) : State :=
  let s := s.upImmo fun x => { x with grantTb := some s.tb, relSent := false }
  ((immoEnd s 1 k 0).irq immoPage 2).bump IMMO_CNT_GRANTS immoPage

/-- Whether the slot of the highest learnt index has ended and every clean slot has been judged (R440, R442). -/
def State.immoDone (s : State) : Bool :=
  s.slotAt s.slotCount ≤ s.tb && (List.range 8).all fun k => s.slotClass k != 1 || bitOf s.immo.judged k

/-- The end of listening without a grant: one repeat after a collision, otherwise DENIED (R442). -/
def immoNoGrant (s : State) : State :=
  if !s.immo.tp && !s.flag IMMO_XSTAT_REPEATED immoPage && (List.range 8).any fun k => s.slotClass k == 2 then
    let s := ((s.put IMMO_XSTAT_REPEATED immoPage true).bump IMMO_CNT2_REPEATS immoPage).set IMMO_XSTAT_STATE immoPage 3
    s.upImmo fun x => { x with since := s.tb }
  else (immoEnd s 2 0 0).bump IMMO_CNT_DENIALS immoPage

/-- A verdict of the SE (R441): rejected for a slot that is not clean or that has been judged. -/
def immoVerdict (s : State) (k : Nat) (valid : Bool) : Acted :=
  if s.immo.run.isNone || s.slotClass k != 1 || bitOf s.immo.judged k then (s, true)
  else
    let s := s.upImmo fun x => { x with judged := setBit x.judged k }
    let s := if valid then s.set IMMO_SLOTSTAT_VALID immoPage (setBit (s.get IMMO_SLOTSTAT_VALID immoPage) k) else s
    (match s.immoWinner with | some w => immoGrant s w | none => s, false)

/-- A verdict that has not arrived VERIFY_TMAX after its slot closed counts as invalid (R441); one that arrives then still counts (R452). -/
def immoLate (s : State) (k : Nat) : State :=
  let due := s.immo.closeTb.any fun e => e.1 == k && e.2 + s.get IMMO_TIMING_VERIFY_TMAX immoPage * 1000000 < s.tb
  if s.immo.run.isSome && due && s.slotClass k = 1 && !bitOf s.immo.judged k then
    let s := (s.upImmo fun x => { x with judged := setBit x.judged k }).bump IMMO_CNT2_SE_LATE immoPage
    match s.immoWinner with | some w => immoGrant s w | none => s
  else s

end Sys2Proof.Machine
end

