-- ==== Sys2Proof/Machine/Channel.lean ====
section
/-! DEFINITION. Protected channels (R135 to R173): HS, LS and field outputs share states, transitions, locks, retries and
clamp accounting; each function says for a channel index 0 to 85 what the rules say of that channel. -/

namespace Sys2Proof.Machine

/-! States of R153. -/
def stOff : Nat := 0
def stQueued : Nat := 1
def stInrush : Nat := 2
def stOn : Nat := 3
def stTurnOff : Nat := 4
def stRetryWait : Nat := 5
def stThermal : Nat := 6
def stLocked : Nat := 7
def stShed : Nat := 8
def stLimp : Nat := 9

/-- State of channel `c` (R153). -/
def State.chSt (s : State) (c : Nat) : Nat := s.rd (cState c)

/-- IRQ_RAW bit of a FAULT bit of channel `c` (R137, R170, R285). -/
def chFaultIrq (c b : Nat) : Nat := if c < 46 then b else chIdx c

/-- Change the state of a channel; HS and LS pages raise their state-change interrupt (R137, R170). Preheat and a run of open-load readings
end (R163, R327). -/
def State.setSt (s : State) (c st : Nat) : State :=
  if s.chSt c = st then s
  else
    let s := (s.wr (cState c) st).upCh c fun x =>
      { x with offFrom := if st = stOff then s.tb else x.offFrom, preheat := false, lowCnt := 0, olSet := false }
    if c < 46 then (s.put HS_SPEC_PREHEAT (chPage c) false).irq (chPage c) 16 else if c < 62 then s.irq 0x61 (16 + chIdx c) else s

/-- Set a FAULT bit of a channel with its interrupt (R137, R170, R285). -/
def State.chFault (s : State) (c : Nat) (l : Loc) (b : Nat) : State := (s.wr l 1).irq (chPage c) (chFaultIrq c b)

/-- A one-bit field of a channel. -/
def State.cf (s : State) (l : Loc) : Bool := s.rd l != 0

/-- Whether a field pin is an output (R267); HS and LS channels always are. -/
def State.isOutput (s : State) (c : Nat) : Bool := c < 62 || s.flag FLD_CFG_DIR (chPage c) (chIdx c)

/-- Whether a field pin's safe state is in force (R279). -/
def State.safeAct (s : State) (c : Nat) : Bool := 62 ≤ c && s.flag FLD_STATE_SAFE_ACT (chPage c) (chIdx c)

/-- Whether a field pin's safe state calls for on; the 1 Hz pattern does so as a whole (R280). -/
def State.safeWants (s : State) (c : Nat) : Bool :=
  let m := s.get FLD_CFG_SAFE (chPage c) (chIdx c)
  m == 1 || m == 3 || (m == 2 && (s.pin (c - 62)).held)

/-- Whether a channel counts as on by its committed state (R149). -/
def State.isOn (s : State) (c : Nat) : Bool :=
  s.isOutput c && s.cf (cOn c) && (s.rd (cMode c) == 0 || s.rd (cDuty c) != 0)

/-- Whether a LIMPn input that maps channel `c` is active (R45, R173). -/
def State.limpMapped (s : State) (c : Nat) : Bool :=
  c < 62 && s.sup.limpRead &&
    (List.range 4).any fun n => bitOf (s.get SUP_STAT_LIMP_ACT 4) n && bitOf (s.sup.limpMap.getD n 0) c

/-- Whether limp-home holds channel `c` on: mapped, and not tripped while PD_OUT was away (R49). -/
def State.limpHolds (s : State) (c : Nat) : Bool := s.limpMapped c && !(s.ch c).limpTrip

/-- Whether the block is to drive channel `c`: limp-home, or while enabled its safe state (R277) or its committed state. -/
def State.wanted (s : State) (c : Nat) : Bool :=
  s.limpHolds c || ((if s.safeAct c then s.safeWants c else s.isOn c) && s.accepts (chPage c))

/-- Whether a field pin stands in the off half of the 1 Hz pattern of SAFE 0b11 (R280). -/
def State.offHalf (s : State) (c : Nat) : Bool :=
  s.safeAct c && s.get FLD_CFG_SAFE (chPage c) (chIdx c) == 3 && 500000000 ≤ s.tb % 1000000000

/-- Whether a state conducts: INRUSH, ON or LIMP (R156). -/
def conducting (st : Nat) : Bool := st == stInrush || st == stOn || st == stLimp

/-- Priority class in force: P0 while limp-home or a safe state drives the channel (R15, R280). -/
def State.prioOf (s : State) (c : Nat) : Nat :=
  if s.limpHolds c || (s.safeAct c && s.safeWants c) then 0 else s.rd (cPrio c)

/-- The ILIM setting in 0.1 mA (R138, R169, R273). -/
def State.ilim (s : State) (c : Nat) : Nat :=
  if c < 46 then s.get HS_LIM_ILIM (chPage c) * [2500, 1000, 250].getD (chClass c) 0
  else if c < 62 then 10000 else 8000

/-- The IINR setting in 0.1 mA (R138). -/
def State.iinr (s : State) (c : Nat) : Nat :=
  if c < 46 then s.get HS_LIM_IINR (chPage c) * [5000, 2000, 500].getD (chClass c) 0 else 0

/-- The active limit in 0.1 mA (R140). -/
def State.activeLimit (s : State) (c : Nat) : Nat :=
  if s.cf (cInrush c) then max (s.iinr c) (s.ilim c) else s.ilim c

/-- Predicted peak X of a start in mA (R195, R275). -/
def State.chX (s : State) (c : Nat) : Nat :=
  if c < 46 then
    let i := max (s.iinr c) (s.ilim c) / 10
    let q := s.get HS_CFG_PROFILE (chPage c)
    if q = 1 then i / 4 else if q = 4 then i else i * 3 / 4
  else if c < 62 then 1000 else 600

/-- Halving period h of a start in slots (R195, R275). -/
def State.chH (s : State) (c : Nat) : Nat :=
  if c < 46 then [16, 1, 40, 4, 2].getD (s.get HS_CFG_PROFILE (chPage c)) 2 else 2

/-- Clamp budget in 0.1 mJ (R137, R170, R274). -/
def State.budget (s : State) (c : Nat) : Nat := if c < 62 then s.rd (cBudget c) else 1200

/-- Single-pulse clamp rating in 0.1 mJ (R135, R169, R273). -/
def chRating (c : Nat) : Nat := [3000, 1000, 300, 200, 1500].getD (chClass c) 0

/-- Trip filter in ns (R137). -/
def tfiltNs (code : Nat) : Nat := [100000, 500000, 1000000, 4000000].getD code 0

/-- The first stage of R190 that sheds class Pc: 2 for P3, 4 for P2, 6 for P1. -/
def shedStage (prio : Nat) : Nat := 8 - 2 * prio

/-- Whether the caldera has reached the shedding stage of class Pc (R190); P0 is never shed (R15), and nothing is while the caldera is
disabled (R174). -/
def State.shedding (s : State) (prio : Nat) : Bool :=
  prio != 0 && s.flag H_CTRL_EN 0x3F && shedStage prio ≤ s.get CALD_DERATE_STAGE 0x3F

/-- Record a shed action (R190, R192, R587). -/
def State.recordShed (s : State) (u : Req) : State :=
  ({ s with cald := { s.cald with actions := .shed u :: s.cald.actions } }.bump CALD_CNT_SHEDS 0x3F).logDev 40

/-- The gate request of a channel (R20, R195). -/
def State.chEntry (s : State) (c : Nat) (k : ReqKind) : GateEntry :=
  { req := .chan c, kind := k, rank := prioRank (s.prioOf c), x := s.chX c, h := s.chH c, t := s.tb, prio := s.prioOf c }

/-- The kind of a first start of a channel: limp-home, which a field pin's safe state shares (R202, R280), or a start. -/
def State.startKind (s : State) (c : Nat) : ReqKind :=
  if s.limpHolds c || (s.safeAct c && s.safeWants c) then .limp else .start

/-- A check in progress ends without a result (R36, R162). -/
def State.dropCheck (s : State) (c : Nat) : State :=
  if (s.ch c).check = 0 then s else s.upCh c fun x => { x with check := 0, diagNow := false }

/-- A channel enters QUEUED, or passes at once to SHED while its class is being shed (R154, R190). A start request abandons an
off-state check (R162). -/
def State.goQueued (s : State) (c : Nat) (k : ReqKind) : State :=
  let s := s.dropCheck c
  if s.shedding (s.prioOf c) then (s.setSt c stShed).recordShed (.chan c)
  else (s.setSt c stQueued).queueStart (s.chEntry c k)

/-- Caps of R190 on the duty of channel `c` by its class. -/
def State.capOf (s : State) (c : Nat) : Nat :=
  let p := s.prioOf c
  if p = 1 then s.get CALD_CAPS_P1 0x3F else if p = 2 then s.get CALD_CAPS_P2 0x3F
  else if p = 3 then s.get CALD_CAPS_P3 0x3F else 4095

/-- EFF_DUTY of R152: full in static mode and in LIMP, min(DUTY, cap) in the switching modes, 0 while not conducting. -/
def State.effDutyOf (s : State) (c : Nat) : Nat :=
  let st := s.chSt c
  if !conducting st then 0
  else if st = stLimp || s.rd (cMode c) = 0 then 4095 else min (s.rd (cDuty c)) (s.capOf c)

/-- Bring EFF_DUTY and DERATED up to date (R152, R190). -/
def State.showDuty (s : State) (c : Nat) : State :=
  let s := s.wr (cEffDuty c) (s.effDutyOf c)
  s.wr (cDerated c) (b2n (conducting (s.chSt c) && s.chSt c != stLimp && s.rd (cMode c) != 0 && s.capOf c < s.rd (cDuty c)))

/-- Close the inrush window without more (R141). -/
def State.closeWin (s : State) (c : Nat) : State :=
  ((s.wr (cInrush c) 0).wr (cDroop c) 0).upCh c fun x => { x with pauseFrom := none, paused := 0, capped := false }

/-- Turn a conducting channel off for reason `w` (R146, R152, R154). -/
def State.turnOff (s : State) (c : Nat) (w : OffWhy) : State :=
  let s := (((s.closeWin c).wr (cLimiting c) 0).wr (cDutyClamp c) 0).setSt c stTurnOff
  (s.upCh c fun x => { x with why := w, limFrom := none, level := false, limpOn := false }).showDuty c

/-- LOCKED (R154, R160, R161): a channel stays there until every cause is gone. -/
def Chan.locked (x : Chan) : Bool := x.lockRetry || x.lockFuse || x.lockClamp

/-- A channel in OFF asks for its start when it is to be on; in the off half of its pattern a field pin waits for the next on (R280). -/
def State.restart (s : State) (c : Nat) : State := if s.wanted c && !s.offHalf c then s.goQueued c (s.startKind c) else s

/-- The last lock cause removed: OFF, then QUEUED at once when the channel is to be on (R154). -/
def State.unlockCheck (s : State) (c : Nat) : State :=
  if s.chSt c = stLocked && !(s.ch c).locked && !(s.ch c).latch then (s.setSt c stOff).restart c else s

/-- Reload RETRIES_LEFT from RETRY_MAX (R155). -/
def State.reloadRetries (s : State) (c : Nat) : State := s.wr (cRetries c) (s.rd (cRetryMax c))

/-- After a trip's turn-off, or when a latch clears: RETRY_WAIT with `ns` to go, or LOCKED without retries (R154, R157). -/
def State.toRetry (s : State) (c ns : Nat) : State :=
  if s.rd (cRetries c) = 0 then
    ((s.chFault c (cfRetry c) 9).upCh c fun x => { x with lockRetry := true, retryEnd := none, retryLeft := none }).setSt c stLocked
  else (s.upCh c fun x => { x with retryEnd := some (s.tb + ns), retryLeft := none }).setSt c stRetryWait

/-- The retry interval in ns. -/
def State.tretryNs (s : State) (c : Nat) : Nat := s.rd (cTretry c) * 1000000

/-- RETRY_WAIT ends without a retry: OFF, with RETRIES_LEFT reloaded unless the channel is on under R149 (R154, R155). -/
def State.leaveRetry (s : State) (c : Nat) : State :=
  let s := if s.isOn c then s else s.reloadRetries c
  ((s.upCh c fun x => { x with retryEnd := none }).wr (cWeWait c) 0).setSt c stOff

/-- Where a completed turn-off leads (R154): a lock, the latch, then the reason of the turn-off. A trip without retries locks; one of a
channel that has ceased to be on passes through RETRY_WAIT to OFF. -/
def State.afterOff (s : State) (c : Nat) : State :=
  let x := s.ch c
  let s := s.upCh c fun x => { x with weLast := x.weNow, weNow := 0 }
  let x := if x.why == .fuse then { x with lockFuse := true } else x
  let s := s.upCh c fun y => { y with lockFuse := x.lockFuse }
  if x.locked then s.setSt c stLocked
  else if x.latch then
    (s.upCh c fun y => { y with retryLeft := if x.why == .trip then some (s.tretryNs c) else y.retryLeft }).setSt c stThermal
  else if x.why == .trip then
    let s := s.toRetry c (s.tretryNs c)
    if s.chSt c = stRetryWait && !s.wanted c then s.leaveRetry c else s
  else if x.why == .shed && s.prioOf c != 0 then s.setSt c stShed
  else (s.setSt c stOff).restart c

/-- Clamp energy in 0.1 mJ counts as dissipation of the present millisecond (R188). -/
def State.clampHeat (s : State) (e : Nat) : State := { s with cald := { s.cald with clampMs := s.cald.clampMs + e } }

/-- Add clamp energy in 0.1 mJ to the bucket (R175, R188), which counts none while PD_OUT is not on (R176). -/
def State.addClamp (s : State) (c e : Nat) : State :=
  if !s.domOn 7 then s
  else ((s.wr (cFill c) (satAdd 16 (s.rd (cFill c)) e)).clampHeat e).upCh c fun x => { x with pulse := x.pulse + e }

/-- A full bucket locks the channel (R160). -/
def State.clampCheck (s : State) (c : Nat) : State :=
  if s.budget c ≤ s.rd (cFill c) && !(s.ch c).lockClamp then
    (s.chFault c (cfClamp c) 7).upCh c fun x => { x with lockClamp := true }
  else s

/-- Log the end of a clamp pulse (R586). -/
def State.logClamp (s : State) (c : Nat) : State :=
  let e := (s.ch c).pulse
  let s := s.upCh c fun x => { x with pulse := 0 }
  if c < 62 && e != 0 then s.logChan c (6 + clampBin e (chRating c)) else s

/-- A turn-off completes: the clamp energy reaches the bucket and the channel leaves TURN_OFF (R147, R160); while its page is not on, the
state follows at the return (log 85). -/
def chTurnOffDone (s : State) (c energy : Nat) : State :=
  if s.chSt c = stTurnOff then
    let s := s.addClamp c energy
    if s.pageOn (chPage c) then ((s.clampCheck c).logClamp c).afterOff c else s.upCh c fun x => { x with pendOff := true }
  else s

/-- The committed state of channel `c` has been written: the transitions of R154 that follow. -/
def chReact (s : State) (c : Nat) : State :=
  if s.limpHolds c || s.safeAct c then s
  else
    let st := s.chSt c
    let on := s.isOn c && s.accepts (chPage c)
    if st = stOff then (if on then s.goQueued c .start else s)
    else if st = stQueued then (if on then s else (s.withdraw (.chan c)).setSt c stOff)
    else if st = stInrush || st = stOn then (if on then s.showDuty c else s.turnOff c .command)
    else if st = stRetryWait then
      if on then s else s.leaveRetry c
    else s

/-- A write to OUT (R139, R154, R202, R281): rejected in Ferlys table mode, otherwise recorded and acted on. -/
def chOutEff (c v : Nat) (s : State) : State :=
  if c < 62 && s.rd (cMode c) = 2 then s.reject (chPage c)
  else chReact (plainWrite s (chPage c) ((cOn c).key / 32 % 4096) v) c

/-- A write to CFG (R139, R154, R267): a change of MODE, or of a field pin's direction, is refused while STATE is not OFF; one by which the
channel becomes on requests a start. -/
def chCfgEff (c off v : Nat) (s : State) : State :=
  let changes := if c < 62 then v % 4 != s.rd (cMode c) else v % 2 != s.get FLD_CFG_DIR (chPage c) (chIdx c)
  if changes && s.chSt c != stOff then s.reject (chPage c)
  else
    let t := (plainWrite s (chPage c) off v).showDuty c
    if s.isOn c then t else chReact t c

/-- Typical slew rate in 0.1 V/µs (R151). -/
def slew10 (code : Nat) : Nat := [5, 10, 20, 50].getD code 5

/-- Edge time in ns at a slew code (R152). -/
def State.edgeOf (s : State) (slew : Nat) : Nat := 8 * s.vbat / slew10 slew

/-- Edge time of channel `c`. -/
def State.edgeNs (s : State) (c : Nat) : Nat := s.edgeOf (s.rd (cSlew c))

/-- PWM period in ns, whole BCLK periods (R150). -/
def pwmPeriod (freq : Nat) : Nat := (1000000000 / max freq 1 + 5) / 10 * 10

/-- The duty of a period of `per` ns after the pulse rule for edges of `edge` ns (R152): too short an on-time is dropped, too short an off-time
merged. -/
def pulseDuty (d per edge : Nat) : Nat :=
  let onT := d * per / 4095
  if 0 < onT && onT < 2 * edge then 0 else if d < 4095 && per - onT < 2 * edge then 4095 else d

/-- Whether a PWM period of a grid starts now, to within one BCLK (R150). -/
def periodDue (freq phase now : Nat) : Bool :=
  let per := pwmPeriod freq
  (now + per - phase * per / 4096 % per) % per < 10

/-- The duty of the present period with its grid (R150, R152): DUTY and caps, FREQ and PHASE as they stand; a pulse too short for its edges
is dropped or merged and shows DUTY_CLAMP. -/
def State.loadPeriod (s : State) (c : Nat) : State :=
  let s := s.showDuty c
  let d := s.effDutyOf c
  let dd := pulseDuty d (pwmPeriod (s.rd (cFreq c))) (s.edgeNs c)
  (s.wr (cDutyClamp c) (b2n (dd != d))).upCh c fun x =>
    { x with duty := dd, freq := s.rd (cFreq c), phase := s.rd (cPhase c), level := dd != 0 && !s.offHalf c }

/-- Admission of a channel's request (R141, R142, R144, R147, R150, R154, R586): a window that opens while VBAT is below INRUSH_DROOP pauses
at once, and the start takes DUTY, FREQ and PHASE as they stand (log 85). -/
def chAdmit (s : State) (c : Nat) (k : ReqKind) : State :=
  let st := if s.limpHolds c then stLimp else if c < 46 then stInrush else stOn
  let low := c < 46 && (s.ch c).droopLow
  let s := s.upCh c fun x => { x with filt := 0, limFrom := none, clearFrom := none, onFrom := s.tb, weNow := 0,
                                      winFrom := s.tb, winUsed := 0, pauseFrom := if low then some s.tb else none, paused := 0,
                                      capped := false, uncounted := false }
  let s := if c < 46 then (s.wr (cInrush c) 1).wr (cDroop c) (b2n low) else s
  let s := (s.setSt c st).loadPeriod c
  if c < 62 then s.logChan c (if k == .retry then 1 else 0) else s

/-- Refusal of a channel's request (R202). -/
def chRefuse (s : State) (c : Nat) (k : ReqKind) : State :=
  let s := s.chFault c (cfRefused c) 10
  match k with
  | .retry =>
    let s := if (s.ch c).decd then s.wr (cRetries c) (s.rd (cRetries c) + 1) else s
    (s.upCh c fun x => { x with retryEnd := some (s.tb + s.tretryNs c), decd := false }).setSt c stRetryWait
  | .limp => if s.startKind c == .limp then s.queueStart (s.chEntry c .limp) else s.setSt c stOff
  | _ => s.setSt c stOff

/-- Whether a stage out of limitation since TB `t` has conducted for 50 µs without a break up to `now` (R144): throughout when it is fully
on, otherwise within one on-phase of its PWM grid (R150). -/
def cleanFor (full : Bool) (freq phase duty t now : Nat) : Bool :=
  let per := pwmPeriod freq
  let off := per - phase * per / 4096 % per
  let p0 := (t + off) / per
  let p1 := (now + off) / per
  let onT := duty * per / 4095
  if full || duty == 4095 || p0 == p1 then t + 50000 ≤ now
  else t + off + 50000 ≤ p0 * per + onT || (50000 ≤ onT && p0 + 1 < p1) || p1 * per + 50000 ≤ now + off

/-- `cleanFor` of channel `c`: in static mode and in LIMP there are no off-phases. -/
def State.cleanRun (s : State) (c t : Nat) : Bool :=
  let x := s.ch c
  cleanFor (s.chSt c == stLimp || s.rd (cMode c) == 0) x.freq x.phase x.duty t s.tb

/-- The filter restarts if the channel has conducted out of limitation for 50 µs; the present stretch begins anew (R144). -/
def State.settleFilt (s : State) (c : Nat) : State :=
  match (s.ch c).clearFrom with
  | some t => s.upCh c fun x => { x with filt := if s.cleanRun c t then 0 else x.filt, clearFrom := some s.tb }
  | none => s

/-- Limitation begins (R144, R147): the filter restarts after 50 µs of conduction out of limitation without a break. -/
def chLimStart (s : State) (c : Nat) : State :=
  if conducting (s.chSt c) && !s.cf (cLimiting c) then
    ((s.settleFilt c).wr (cLimiting c) 1).upCh c fun x =>
      { x with limFrom := some s.tb, lastOc := some s.tb, limited := true, clearFrom := none }
  else s

/-- Time in limitation so far in ns (R144). -/
def State.limTime (s : State) (c : Nat) : Nat :=
  (s.ch c).filt + (match (s.ch c).limFrom with | some t => s.tb - t | none => 0)

/-- The bin of TB for wiring energy (R184). -/
def State.weBin (s : State) : Nat := s.tb / 62500000

/-- Enter counted wiring energy in 0.1 mJ into the current bin (R183, R184). -/
def State.addWe (s : State) (c e : Nat) : State :=
  let k := s.weBin
  if e = 0 then s
  else s.upCh c fun x => { x with bins := tput x.bins k 0 (tget x.bins k 0 + e), weNow := x.weNow + e }

/-- E_WE in 0.1 mJ (R184). -/
def State.eWe (s : State) (c : Nat) : Nat := [1000, 3000, 10000, 30000].getD (s.rd (cWe c)) 0

/-- The window sum S_W (R184); full while the bins of a lost history count as holding E_WE (R187). -/
def State.sW (s : State) (c : Nat) : Nat :=
  if s.tb < s.cald.weFullUntil then s.eWe c
  else (((s.ch c).bins.filter fun b => s.weBin ≤ b.1 + 16 && b.1 ≤ s.weBin).map (·.2)).sum

/-- Limitation ends (R144). -/
def chLimEnd (s : State) (c we : Nat) : State :=
  if s.cf (cLimiting c) then
    let t := s.limTime c
    ((s.addWe c we).wr (cLimiting c) 0).upCh c fun x =>
      { x with filt := t, limFrom := none, clearFrom := if (s.ch c).level then some s.tb else none }
  else s

/-- A trip's flag, log count and turn-off (R146, R156, R586). While PD_OUT is not on a limp-home channel that trips stays
off (R49). -/
def chTrip (s : State) (c : Nat) (l : Loc) (b k : Nat) : State :=
  let s := (s.chFault c l b).upCh c fun x => { x with lastOc := some s.tb }
  let s := if c < 62 then s.logChan c k else s
  s.turnOff c .trip

/-- A filtered trip after TFILT in limitation, while the controlling domain is on (R49, R144). -/
def chFilteredTrip (s : State) (c we : Nat) : State :=
  if conducting (s.chSt c) && s.cf (cLimiting c) && s.pageOn (chPage c) && !s.clk.frozen
      && tfiltNs (s.rd (cTfilt c)) ≤ s.limTime c then
    chTrip (s.addWe c we) c (cfOc c) 1 3
  else s

/-- A fast trip (R145). While the domain is not on the stage turns off, a limp-home channel until its LIMPn input returns (R49); the
trip itself is taken when the domain is on again. -/
def chFastTrip (s : State) (c : Nat) : State :=
  if !s.pageOn (chPage c) then
    if (s.ch c).limpOn || conducting (s.chSt c) then
      s.upCh c fun x => { x with limpOn := false, limpTrip := x.limpTrip || s.limpHolds c, pendTrip := conducting (s.chSt c) }
    else s
  else if conducting (s.chSt c) then chTrip s c (cfFast c) 0 2
  else s

/-- The channels adjacent to `c` (R159). -/
def adjacent (c d : Nat) : Bool :=
  ((c < 46 && d < 46) || (46 ≤ c && c < 62 && 46 ≤ d && d < 62)) && (c + 1 == d || d + 1 == c)

/-- Whether a thermal latch of `c` now is tagged COUPLED (R159). -/
def State.coupledNow (s : State) (c : Nat) : Bool :=
  (List.range 62).any fun d => adjacent c d && (match (s.ch d).lastOc with | some t => s.tb ≤ t + 200000 | none => false)

/-- A thermal latch sets (R154, R156, R157, R159). -/
def chLatchSet (s : State) (c : Nat) : State :=
  if (s.ch c).latch then s
  else if !s.pageOn (chPage c) then
    s.upCh c fun x => { x with latch := true, limpTrip := x.limpTrip || x.limpOn, limpOn := false }
  else
    let coupled := c < 62 && s.coupledNow c
    let s := (s.wr (cTlHold c) 1).chFault c (cfTherm c) 2
    let s := if coupled then s.chFault c (cfCoupled c) 3 else s
    let s := if c < 62 then s.logChan c 4 else s
    let s := s.upCh c fun x => { x with latch := true, uncounted := x.uncounted || coupled,
                                        retryLeft := (match x.retryEnd with | some t => some (t - s.tb) | none => x.retryLeft),
                                        retryEnd := none }
    let st := s.chSt c
    if st = stLocked || st = stTurnOff then s
    else if conducting st then s.turnOff c .thermal
    else ((s.withdraw (.chan c)).wr (cWeWait c) 0).setSt c stThermal

/-- The latch of a channel clears (R154, R157); a lock that came up meanwhile holds (R160, R597). -/
def chLatchClear (s : State) (c : Nat) : State :=
  let left := ((s.ch c).retryLeft).getD (s.tretryNs c)
  let s := (s.upCh c fun x => { x with latch := false }).wr (cTlHold c) 0
  if s.chSt c = stThermal then
    if (s.ch c).locked then s.setSt c stLocked
    else if s.wanted c then s.toRetry c left
    else (s.upCh c fun x => { x with retryLeft := none }).setSt c stOff
  else s.unlockCheck c

/-- The latch clears by itself at the release temperature when TL_AUTO is 1 (R158). -/
def chLatchAuto (s : State) (c : Nat) : State :=
  if (s.ch c).latch && s.cf (cTlAuto c) && sgn 16 (s.rd (cTj c)) ≤ Config.releaseTemp then chLatchClear s c else s

/-- The retry timer has ended (a pin on by its safe state asks as limp-home does, R280): QUEUED when the wiring-energy window permits, otherwise WE_WAIT (R154, R185); while every window counts as
holding E_WE any retry waits (R187). -/
def chRetryTest (s : State) (c : Nat) : State :=
  if c < 62 && (s.tb < s.cald.weFullUntil || s.eWe c < s.sW c + (s.ch c).weLast) then s.wr (cWeWait c) 1
  else
    let n := s.rd (cRetries c)
    let dec := n != 31 && !(s.ch c).uncounted
    let s := (s.wr (cRetries c) (if dec then n - 1 else n)).wr (cWeWait c) 0
    (s.upCh c fun x => { x with retryEnd := none, decd := dec, uncounted := false }).goQueued c
      (if s.safeAct c && s.safeWants c then .limp else .retry)

/-- The retry timer's end (R154, R157), seen while the channel's domain is on (R49). -/
def chRetryExpiry (s : State) (c : Nat) : State :=
  match (s.ch c).retryEnd with
  | some t => if s.chSt c = stRetryWait && t ≤ s.tb && s.pageOn (chPage c) then chRetryTest s c else s
  | none => s

/-- ACT.TL_CLR (R158): rejected while TJ is above the release temperature. -/
def chTlClr (c : Nat) (s : State) : Acted :=
  if Config.releaseTemp < sgn 16 (s.rd (cTj c)) then (s, true)
  else (if (s.ch c).latch then chLatchClear s c else s, false)

/-- ACT.UNLOCK (R160). -/
def chUnlock (c : Nat) (s : State) : Acted :=
  if s.budget c ≤ 4 * s.rd (cFill c) then (s, true)
  else ((s.upCh c fun x => { x with lockClamp := false }).unlockCheck c, false)

/-- ACT.RETRY_RESET (R155, R161). -/
def chRetryReset (c : Nat) (s : State) : Acted :=
  (((s.reloadRetries c).upCh c fun x => { x with lockRetry := false }).unlockCheck c, false)

/-- The insulation temperature of channel `c`'s wire in °C (R177). -/
def State.tIns (s : State) (c : Nat) : Nat := [85, 100, 125, 150].getD (s.get HS_WIRE_INSUL (chPage c)) 0

/-- The fuse's reset point in 1/16 °C (R180). -/
def State.fuseReset (s : State) (c : Nat) : Int := max ((s.tIns c : Int) * 16 - 640) (sgn 16 (s.get CALD_AMB_T 0x3F) + 80)

/-- ACT.FUSE_RESET (R161, R180). -/
def chFuseReset (c : Nat) (s : State) : Acted :=
  if s.fuseReset c ≤ sgn 16 (s.rd (cWireT c)) then (s, true)
  else ((s.upCh c fun x => { x with lockFuse := false }).unlockCheck c, false)

/-- Whether an off-state check may run now (R162). -/
def State.checkable (s : State) (c : Nat) : Bool :=
  (s.chSt c == stOff || s.chSt c == stLocked) && (s.cf (cOlOffEn c) || s.cf (cStbEn c)) &&
    8000 ≤ s.vbat && !s.flag SUP_STAT_VBAT_OV 4 && !(s.ch c).preheat

/-- Begin an off-state check (R162); `runTb` is when the last periodic one began. -/
def State.beginCheck (s : State) (c : Nat) (now : Bool) : State :=
  s.upCh c fun x => { x with check := if s.cf (cOlOffEn c) then 1 else 2, checkTb := s.tb, sampleA := false, diagNow := now,
                             runTb := if now then x.runTb else s.tb }

/-- ACT.DIAG_NOW (R162). -/
def chDiagNow (c : Nat) (s : State) : Acted := (if s.checkable c then s.beginCheck c true else s, false)

/-- The periodic off-state check begins (R162). -/
def chCheckStart (s : State) (c : Nat) : State :=
  if s.checkable c && (s.ch c).check = 0 && (s.ch c).runTb + s.rd (cOffPeriod c) * 1000000 ≤ s.tb && s.pageOn (chPage c) then
    s.beginCheck c false
  else s

/-- The result of a whole off-state check (R162, R171). -/
def chCheckDone (s : State) (c : Nat) (b : Bool) : State :=
  let x := s.ch c
  let ol := x.sampleA && !b
  let setStb := b && s.cf (cStbEn c) && (x.diagNow || x.prevB)
  let setOl := ol && s.cf (cOlOffEn c) && (x.diagNow || x.prevOl)
  let s := if setStb then s.chFault c (cfStb c) 6 else s
  let s := if setOl then s.chFault c (cfOlOff c) 5 else s
  let s := if x.diagNow && c < 46 then s.irq (chPage c) 17 else s
  s.upCh c fun y => { y with check := 0, diagNow := false, prevB := b, prevOl := ol }

/-- A sample of an off-state check, 500 µs after its phase began (R162). `v` is true above 2.5 V; for LS below 2.5 V (R171). The check is
given up where its conditions no longer hold (log 85). -/
def chCheckSample (s : State) (c : Nat) (v : Bool) : State :=
  let x := s.ch c
  if !s.checkable c then s.dropCheck c
  else if x.check = 1 && x.checkTb + 500000 ≤ s.tb then s.upCh c fun y => { y with check := 2, checkTb := s.tb, sampleA := v }
  else if x.check = 2 && x.checkTb + 500000 ≤ s.tb then chCheckDone s c v
  else s

/-- OL_FILT in milliseconds (R137). -/
def olFiltMs (code : Nat) : Nat := [1, 5, 20, 100].getD code 1

/-- The on-state open-load run (R163): it sets OL_ON once, as soon as it is as long as OL_FILT. -/
def chOpenLoad (s : State) (c : Nat) : State :=
  let valid := s.cf (cSenseValid c)
  let low := valid && !s.cf (cSenseLim c) && s.rd (cSense c) < s.rd (cIolOn c)
  if s.chSt c != stOn then s
  else if low then
    let s := s.upCh c fun x => { x with lowCnt := x.lowCnt + 1 }
    if olFiltMs (s.rd (cOlFilt c)) ≤ (s.ch c).lowCnt && !(s.ch c).olSet then
      (s.upCh c fun x => { x with olSet := true }).chFault c (cfOlOn c) 4
    else s
  else if valid || s.cf (cSenseLim c) then s.upCh c fun x => { x with lowCnt := 0, olSet := false }
  else s

/-- A 1 ms reading of an HS or LS channel (R163 to R165), or of a field pin (R285), while the domain of its page is on. -/
def chSense (s : State) (c : Nat) (raw : Int) (vout tj : Nat) (phase limited : Bool) : State :=
  if !s.pageOn (chPage c) then s
  else
  let s := (s.wr (cVout c) vout).wr (cTj c) tj
  if c < 62 then
    let z := raw * s.rd (cGain c) / 32768 + sgn 16 (s.rd (cOffset c))
    let i := min z.toNat (2 ^ 20 - 1)
    let valid := s.domOn 10 && phase
    let ext := s.cf (cTrimBad c) || i < s.rd (cBandLo c) * 100 || s.rd (cBandHi c) * 100 < i
    let s := ((s.wr (cSense c) (if valid then i else s.rd (cSense c))).wr (cSenseValid c) (b2n valid)).wr (cSenseExt c) (b2n ext)
    let s := (s.wr (cSenseLim c) (b2n (limited || (s.ch c).limited))).wr (cSenseSpec c) (b2n ((s.ch c).preheat || (s.ch c).specMs))
    let s := s.upCh c fun x => { x with limited := s.cf (cLimiting c), specMs := x.preheat, lastI := if valid then i else x.lastI,
                                        preQ := if x.preheat then x.preQ + i else x.preQ,
                                        lastC := if valid then i * (if x.preheat then 4095 else s.rd (cEffDuty c)) / 4095 else x.lastC,
                                        lastTb := if valid || !(conducting (s.chSt c) || x.preheat) then s.tb else x.lastTb }
    let s := if 46 ≤ c then s.logPeak c (sgn 16 tj) else s
    chOpenLoad s c
  else
    let low := raw < 5 && s.chSt c == stOn
    (s.wr (cSense c) (min raw.toNat 4095)).upPin (c - 62) fun x => { x with lowFrom := if low then some (x.lowFrom.getD s.tb) else none }

/-- TINR in ns (R137), as it stands (R140). -/
def State.tinrNs (s : State) (c : Nat) : Nat := s.get HS_LIM_TINR (chPage c) * 100000

/-- An open window's timer runs again. -/
def State.winResume (s : State) (c t : Nat) : State :=
  (s.wr (cDroop c) 0).upCh c fun y => { y with pauseFrom := none, paused := y.paused + (s.tb - t), winFrom := s.tb }

/-- VBAT falls below INRUSH_DROOP or rises above it: an open window pauses or resumes (R142). -/
def chDroop (s : State) (c : Nat) (below : Bool) : State :=
  let s := s.upCh c fun y => { y with droopLow := below }
  let x := s.ch c
  if !s.cf (cInrush c) then s
  else
    match x.pauseFrom with
    | none =>
      if below && !x.capped then
        (s.wr (cDroop c) 1).upCh c fun y => { y with pauseFrom := some s.tb, winUsed := y.winUsed + (s.tb - y.winFrom) }
      else s
    | some t => if below then s else s.winResume c t

/-- The pauses of a window reach 2 × TINR: it runs again and DROOP_CAP sets (R142). -/
def chDroopCap (s : State) (c : Nat) : State :=
  match (s.ch c).pauseFrom with
  | some t =>
    if s.cf (cInrush c) && 2 * s.tinrNs c ≤ (s.ch c).paused + (s.tb - t) then
      ((s.winResume c t).upCh c fun y => { y with capped := true }).chFault c (cfDroopCap c) 11
    else s
  | none => s

/-- The window closes after TINR plus pauses (R141): INRUSH passes to ON, LIMP stays. -/
def chWindowClose (s : State) (c : Nat) : State :=
  let x := s.ch c
  if s.cf (cInrush c) && x.pauseFrom.isNone && s.tinrNs c ≤ x.winUsed + (s.tb - x.winFrom) then
    let s := s.closeWin c
    if s.chSt c = stInrush then (s.upCh c fun y => { y with onFrom := s.tb }).setSt c stOn else s
  else s

/-- After 1 s in ON or LIMP without a trip the retries reload (R155). -/
def chRetriesReload (s : State) (c : Nat) : State :=
  if (s.chSt c = stOn || s.chSt c = stLimp) && (s.ch c).onFrom + 1000000000 ≤ s.tb then s.reloadRetries c else s

/-- A PWM period starts: DUTY, FREQ, PHASE and the caps take effect (R150, R152); a whole on-phase out of limitation counts for R144. -/
def chPwmStart (s : State) (c : Nat) : State :=
  let x := s.ch c
  if conducting (s.chSt c) && s.rd (cMode c) != 0 && periodDue x.freq x.phase s.tb && !s.clk.frozen then
    (if x.duty = 4095 then s else s.settleFilt c).loadPeriod c
  else s

/-- Clearing CTRL.EN: the channel turns off unless limp-home holds it (R167). -/
def chDrain (s : State) (c : Nat) : State :=
  let st := s.chSt c
  if s.limpHolds c || !s.isOutput c then s
  else if st = stQueued then (s.withdraw (.chan c)).setSt c stOff
  else if conducting st then s.turnOff c .command
  else if st = stRetryWait then ((s.upCh c fun x => { x with retryEnd := none }).wr (cWeWait c) 0).setSt c stOff
  else if st = stShed then s.setSt c stOff
  else s

/-- Whether a channel does not keep its page from IDLE (R167, R277). -/
def chIdle (s : State) (c : Nat) : Bool :=
  let st := s.chSt c
  s.limpHolds c || st == stOff || st == stLocked || st == stThermal

/-- Setting CTRL.EN: a channel that is on requests a start (R167). -/
def chEnable (s : State) (c : Nat) : State := if s.chSt c = stOff then s.restart c else s

/-- What remains of a channel after SRST, `limp` telling that it was in LIMP (R167): its thermal latch, LIMP, and its wiring-energy bins,
which are the caldera's; the wire takes its cold rule. A channel that a LIMPn holds and that was not in LIMP asks for its start (R173). -/
def chSrst (s : State) (c : Nat) (limp : Bool) : State :=
  let x := s.ch c
  let s := (s.withdraw (.chan c)).setCh c { latch := x.latch, limpOn := x.limpOn, limpTrip := x.limpTrip, droopLow := x.droopLow,
                                            bins := x.bins, weLast := x.weLast }
  let s := if c < 46 then
      let w := sgn 16 (s.get CALD_AMB_T 0x3F) + 320
      (s.wr (cWireT c) (unsgn 16 w)).upCh c fun y => { y with wire := w * 65536 }
    else s
  let s := if x.latch then (s.wr (cState c) stThermal).wr (cTlHold c) 1 else s
  if s.limpHolds c then
    let s := s.wr (cLimp c) 1
    if x.latch then s
    else if limp then ((s.wr (cState c) stLimp).upCh c fun y => { y with onFrom := s.tb }).loadPeriod c
    else s.goQueued c .limp
  else s

/-- A mapped LIMPn becomes active (R154, R161, R173); time in ON counts on in LIMP (R155). -/
def chLimpOn (s : State) (c : Nat) : State :=
  let s := s.wr (cLimp c) (b2n (s.limpHolds c))
  let st := s.chSt c
  if !s.limpHolds c || !s.pageOn (chPage c) then s
  else if st = stOff || st = stQueued || st = stRetryWait || st = stShed then
    (((s.withdraw (.chan c)).upCh c fun x => { x with retryEnd := none }).wr (cWeWait c) 0).goQueued c .limp
  else if st = stInrush then (((s.settleFilt c).upCh c fun x => { x with onFrom := s.tb }).setSt c stLimp).loadPeriod c
  else if st = stOn then ((s.settleFilt c).setSt c stLimp).loadPeriod c
  else s

/-- The last mapped LIMPn goes inactive (R49, R154). -/
def chLimpOff (s : State) (c : Nat) : State :=
  let s := (s.upCh c fun x => { x with limpTrip := false, limpOn := false }).wr (cLimp c) 0
  let st := s.chSt c
  if st = stRetryWait then (if s.wanted c then s else s.leaveRetry c)
  else if !s.pageOn (chPage c) then (if st = stLimp then s.wr (cState c) (if s.wanted c then stOn else stOff) else s)
  else if st = stLimp then
    if s.wanted c then ((s.settleFilt c).setSt c stOn).loadPeriod c else s.turnOff c .command
  else if st = stQueued then
    let s := (s.withdraw (.chan c)).setSt c stOff
    if s.wanted c then s.goQueued c .start else s
  else s

/-- The caldera sheds a channel (R154, R190). -/
def chShed (s : State) (c : Nat) : State :=
  if conducting (s.chSt c) then s.turnOff c .shed else (s.withdraw (.chan c)).setSt c stShed

/-- The caldera releases a channel (R154, R192); one that still turns off is not shed any more when it has done so (R174). -/
def chUnshed (s : State) (c : Nat) : State :=
  if s.chSt c = stShed then (if s.wanted c then s.goQueued c (s.startKind c) else s.setSt c stOff)
  else if s.chSt c = stTurnOff && (s.ch c).why == .shed then s.upCh c fun x => { x with why := .command }
  else s

/-! The meanings of the channel commands. -/

/-- INRUSH_WINDOW_CLOSE (R141). -/
def execInrushWindowClose (c : Nat) (s : State) : Host.Outcome State Fault Refusal := .next (chWindowClose s c)

/-- DROOP_CHANGE (R142). -/
def execDroopChange (c : Nat) (below : Bool) (s : State) : Host.Outcome State Fault Refusal := .next (chDroop s c below)

/-- DROOP_CAP_REACHED (R142). -/
def execDroopCapReached (c : Nat) (s : State) : Host.Outcome State Fault Refusal := .next (chDroopCap s c)

/-- LIM_WRITE (R140): the limits take effect at the next BCLK; limitation or a fast trip that follows is its own event. -/
def execLimWrite (m : Master) (c : Nat) (v : Word) (s : State) : Host.Outcome State Fault Refusal :=
  .next (accessWrite s m (chPage c) 0x44 v.toNat fun v s => plainWrite s (chPage c) 0x44 v)

/-- RETRY_TIMER_EXPIRY (R154, R185). -/
def execRetryTimerExpiry (c : Nat) (s : State) : Host.Outcome State Fault Refusal := .next (chRetryExpiry s c)

/-- RETRIES_RELOAD (R155). -/
def execRetriesReload (c : Nat) (s : State) : Host.Outcome State Fault Refusal := .next (chRetriesReload s c)

/-- The ACT register of channel `c`. -/
def chActOff (c : Nat) : Nat := if c < 46 then 0x70 else if c < 62 then 0x100 + 0x40 * chIdx c + 0x24 else 0x100 + 0x40 * chIdx c + 0x10

/-- ACT_FUSE_RESET (R161). -/
def execActFuseReset (m : Master) (c : Nat) (s : State) : Host.Outcome State Fault Refusal :=
  .next (accessWrite s m (chPage c) (chActOff c) 8 fun _ s => doAct (chPage c) (chFuseReset c s))

/-- ACT_RETRY_RESET (R161). -/
def execActRetryReset (m : Master) (c : Nat) (s : State) : Host.Outcome State Fault Refusal :=
  .next (accessWrite s m (chPage c) (chActOff c) 4 fun _ s => doAct (chPage c) (chRetryReset c s))

/-- ACT_DIAG_NOW (R162). -/
def execActDiagNow (m : Master) (c : Nat) (s : State) : Host.Outcome State Fault Refusal :=
  .next (accessWrite s m (chPage c) (chActOff c) 16 fun _ s => doAct (chPage c) (chDiagNow c s))

/-- OFF_STATE_CHECK_START (R162). -/
def execOffStateCheckStart (c : Nat) (s : State) : Host.Outcome State Fault Refusal := .next (chCheckStart s c)

/-- OFF_STATE_CHECK_SAMPLE (R162, R171). -/
def execOffStateCheckSample (c : Nat) (high : Bool) (s : State) : Host.Outcome State Fault Refusal :=
  .next (chCheckSample s c high)

/-- WIRING_ENERGY_CUT (R186): S_W reaches E_WE during an attempt, while PD_OUT is on (R49). -/
def execWiringEnergyCut (c energy : Nat) (s : State) : Host.Outcome State Fault Refusal :=
  let s := s.addWe c energy
  if conducting (s.chSt c) && s.cf (cLimiting c) && s.pageOn (chPage c) && !s.clk.frozen && s.eWe c ≤ s.sW c then
    .next (chTrip ((s.bump CALD_CNT_WE_CUTS 0x3F).irq 0x3F 4) c (cfOc c) 1 3)
  else .next s

/-- WE_BIN_BOUNDARY (R184, R185): old bins leave the window and waiting retries are tested again. -/
def execWeBinBoundary (s : State) : Host.Outcome State Fault Refusal :=
  .next (s.each (List.range 62) fun s c =>
    let s := if (s.ch c).bins.isEmpty then s
      else s.upCh c fun x => { x with bins := x.bins.filter fun b => s.weBin ≤ b.1 + 16 }
    if s.chSt c = stRetryWait && s.cf (cWeWait c) && s.pageOn (chPage c) then chRetryTest s c else s)

end Sys2Proof.Machine
end

