-- ==== Sys2Proof/Machine/Bridge.lean ====
section
/-! DEFINITION. Half-bridges, gate drivers and the ripple and pinch engine (R207 to R241). -/

namespace Sys2Proof.Machine

/-! States of R213. -/
def bsOff : Nat := 0
def bsQueued : Nat := 1
def bsRun : Nat := 2
def bsBrake : Nat := 3
def bsDirBrake : Nat := 4
def bsStopped : Nat := 5
def bsLocked : Nat := 6
def bsThermal : Nat := 7
def bsShed : Nat := 8
def bsReversing : Nat := 9
def bsSafeBrake : Nat := 10

/-- The partner of half-bridge `b` while their pairing is in effect (R209). -/
def State.partner (s : State) (b : Nat) : Option Nat :=
  let q := s.get HB_PAIR_PARTNER (brPage b)
  if !isGd b && q != b && q < 20 && s.flag HB_PAIR_EN (brPage b) && s.flag HB_PAIR_EN (brPage q) &&
      s.get HB_PAIR_PARTNER (brPage q) == b then some q else none

/-- The bridge in whose page the bridge of half `b` is commanded: the lower-numbered of a pair (R209). -/
def State.lead (s : State) (b : Nat) : Nat := match s.partner b with | some q => min b q | none => b

/-- The halves of the bridge of `b`, lead first. -/
def State.halves (s : State) (b : Nat) : List Nat := match s.partner b with | some q => [min b q, max b q] | none => [b]

/-- Whether the bridge of `b` has four switches: a pair or a gate driver (R210). -/
def State.isFull (s : State) (b : Nat) : Bool := isGd b || (s.partner b).isSome

/-- State of bridge `b` (R213). -/
def State.brSt (s : State) (b : Nat) : Nat := s.rd (bState b)

/-- Change the state of a bridge, in both pages of a pair (R213); outside RUN no pulse is clamped and no park edge waits (R152, R228). -/
def State.setBr (s : State) (b st : Nat) : State :=
  s.each (s.halves b) fun s h =>
    if s.brSt h = st then s
    else (((s.wr (bState h) st).wr (bDutyClamp h) 0).upBr h fun x => { x with parkDue := false, lowCnt := 0, olSet := false }).irq (brPage h) 16

/-- Whether the pages of a bridge let it take new work: both halves of a pair must be enabled (R66, R222; log 91). -/
def State.brAccepts (s : State) (b : Nat) : Bool := (s.halves b).all fun h => s.accepts (brPage h)

/-- Set a FAULT bit of a bridge with its interrupt (R212, R227). -/
def State.brFault (s : State) (b : Nat) (l : Loc) (bit : Nat) : State := (s.wr l 1).irq (brPage b) bit

/-- Whether a DRIVE code drives (R210). -/
def driving (d : Nat) : Bool := d == 1 || d == 2

/-- The ILIM setting of a half in mA (R212). -/
def State.hbLimit (s : State) (b : Nat) : Nat := s.get HB_LIM_ILIM (brPage b) * (if b < 12 then 50 else 10)

/-- X of a bridge start in mA (R219). -/
def State.brX (s : State) (b : Nat) : Nat :=
  if isGd b then s.get GD_START_X (brPage b) * 100
  else ((s.halves b).map s.hbLimit).foldl max 0 * 3 / 4

/-- The gate request of a bridge; a reversal has the rank of P0 (R219, R221, R236). -/
def State.brEntry (s : State) (b : Nat) : GateEntry :=
  let p := if s.brSt b = bsReversing then 0 else s.rd (bPrio b)
  { req := .bridge b, rank := prioRank p, x := s.brX b, h := 40, t := s.tb, prio := p }

/-- A bridge asks for a start: QUEUED, remembering the state before (R214), or SHED while its class is shed (R190). -/
def State.brStart (s : State) (b : Nat) : State :=
  let p := s.rd (bPrio b)
  if s.shedding p then (s.setBr b bsShed).recordShed (.bridge b)
  else
    let e := s.brEntry b
    ((s.upBr b fun x => { x with prior := s.brSt b, refused := false }).setBr b bsQueued).queueStart e

/-- The 20 ms low-side brake of STOPPED and SAFE_BRAKE (R213), timed in the lead's record. -/
def State.brStop (s : State) (b st next : Nat) : State :=
  let s := s.each (s.halves b) fun s h => s.upBr h fun x => { x with stallFrom := none }
  (s.upBr (s.lead b) fun x => { x with timerEnd := s.tb + 20000000, next := next }).setBr b st

/-- The ripple engine's block of gate driver `b`. -/
def gdIdx (b : Nat) : Nat := b - 20

/-- The page of the ripple and pinch engine. -/
def rpePage : Nat := 0x6D

/-- The DRIVE code that closes on engine `g` (R240). -/
def State.closeCode (s : State) (g : Nat) : Nat := if s.flag RPE_CFG_CLOSE_DIR rpePage g then 2 else 1

/-- POS of engine `g`, signed. -/
def State.pos (s : State) (g : Nat) : Int := sgn 24 (s.get RPE_POS rpePage g)

/-- NORM clears and LOST_CAUSE records why (R232, R240). -/
def State.normLost (s : State) (g cause : Nat) : State :=
  if s.flag RPE_STAT_NORM rpePage g then
    ((s.put RPE_STAT_NORM rpePage false g).set RPE_STAT_LOST_CAUSE rpePage cause g).irq rpePage (4 * g + 2)
  else s

/-- Normalisation: POS 0, NORM 1, INSERTED 0 (R231). -/
def State.normalise (s : State) (g : Nat) : State :=
  (((s.set RPE_POS rpePage 0 g).put RPE_STAT_NORM rpePage true g).set RPE_STAT_INSERTED rpePage 0 g).irq rpePage (4 * g + 1)

/-- The end of a pinch reversal: STOPPED, or SAFE_BRAKE when the block has been disabled (R214, R222, R236). -/
def State.endReversal (s : State) (g : Nat) : State :=
  let b := 20 + g
  let s := ((s.withdraw (.bridge b)).put RPE_STAT_REVERSING rpePage false g).upEng g fun x => { x with rev := .none }
  if !s.brAccepts b then s.brStop b bsSafeBrake bsOff else s.brStop b bsStopped bsStopped

/-- Drop a reversal that a lock or latch ends (R241). -/
def State.dropReversal (s : State) (b : Nat) : State :=
  if isGd b then (s.put RPE_STAT_REVERSING rpePage false (gdIdx b)).upEng (gdIdx b) fun x => { x with rev := .none } else s

/-- All switches off for a lock (R215): both halves of a pair lock (R216). -/
def State.brLock (s : State) (b : Nat) (f : Bridge → Bridge) : State :=
  let l := s.lead b
  let s := s.each (s.halves b) fun s h => s.upBr h fun x => { f x with stallFrom := none, limFrom := none, auto := false }
  let s := ((s.withdraw (.bridge l)).dropReversal l).each (s.halves b) fun s h => s.wr (bLimiting h) 0
  if s.brSt l = bsThermal then s else s.setBr l bsLocked

/-- Whether any lock cause of the bridge of `b` stands. -/
def State.brLocked (s : State) (b : Nat) : Bool :=
  (s.halves b).any fun h => let x := s.br h; x.lockTrip || x.lockVds || x.lockCp || x.lockClamp

/-- Whether the thermal latch of either half stands. -/
def State.brLatched (s : State) (b : Nat) : Bool := (s.halves b).any fun h => (s.br h).latch

/-- LOCKED and THERMAL end in OFF with the last cause; a lock left when the latch clears keeps LOCKED (R214, R215). -/
def State.brRelease (s : State) (b : Nat) : State :=
  let st := s.brSt b
  if (st = bsLocked || st = bsThermal) && !s.brLatched b then
    if s.brLocked b then s.setBr b bsLocked else s.setBr b bsOff
  else s

/-- The states in which a bridge carries current. -/
def brConducts (st : Nat) : Bool := st == bsRun || st == bsBrake || st == bsDirBrake || st == bsStopped || st == bsReversing || st == bsSafeBrake

/-- Whether the switches of a bridge in QUEUED, which stand as before the request, and otherwise those of its state carry current (R213). -/
def State.brFlows (s : State) (b : Nat) : Bool :=
  let st := s.brSt b
  brConducts (if st = bsQueued then (s.br (s.lead b)).prior else st)

/-- A trip: FAULT bit, log and lock of both halves (R215, R216, R586). -/
def brTrip (s : State) (b : Nat) (l : Loc) (bit k : Nat) : State :=
  let s := s.brFault b l bit
  let s := if isGd b then s else s.logChan (62 + b) k
  s.brLock b fun x => { x with lockTrip := true }

/-- Trip filter of a bridge in ns (R212). -/
def brTfiltNs (code : Nat) : Nat := [500000, 2000000, 10000000, 50000000].getD code 0

/-- The half whose high-side switches in PWM: the partner's while REV drives (R210, R211); none for a single half-bridge in LOW. -/
def State.brSwitching (s : State) (b : Nat) : Option Nat :=
  if (s.br b).lastDrive = 2 && !isGd b then s.partner b else some b

/-- Load DUTY, FREQ and PHASE of a bridge in RUN for a PWM period (R150, R152, R211). A refused start from DUTY 0 keeps the off-phase (R219);
static mode, a reversal (R236) and LOW without a high-side to switch are fully on. -/
def State.brLoad (s : State) (b : Nat) : State :=
  let freq := s.rd (bFreq b)
  let d := if s.brSt b != bsRun || s.rd (bMode b) = 0 then 4095 else if (s.br b).refused then 0 else s.rd (bDuty b)
  let dd := match s.brSwitching b with
    | some h => if isGd b then d else pulseDuty d (pwmPeriod freq) (s.edgeOf (s.get HB_CFG_SLEW (brPage h)))
    | none => d
  (s.wr (bDutyClamp b) (b2n (dd != d))).upBr b fun x =>
    { x with duty := if (s.brSwitching b).isSome then dd else 4095, freq := freq, phase := s.rd (bPhase b) }

/-- The filter of half `b` restarts after 50 µs out of limitation within one on-phase; the present stretch begins anew (R144, R216). -/
def State.brSettle (s : State) (b : Nat) : State :=
  match (s.br b).clearFrom with
  | some t =>
    let l := s.br (s.lead b)
    s.upBr b fun x => { x with filt := if cleanFor (s.brSt b != bsRun) l.freq l.phase l.duty t s.tb then 0 else x.filt, clearFrom := some s.tb }
  | none => s

/-- A PWM period of a bridge starts (R150, R211). -/
def brPwmStart (s : State) (b : Nat) : State :=
  let x := s.br b
  if s.lead b = b && s.brSt b = bsRun && s.rd (bMode b) = 1 && periodDue x.freq x.phase s.tb && !s.clk.frozen then
    (if x.duty = 4095 then s else s.each (s.halves b) State.brSettle).brLoad b
  else s

/-- Whether the shunt current of a gate driver exceeds ITRIP (R227); a half-bridge limits by itself. -/
def State.gdOver (s : State) (b : Nat) : Bool :=
  !isGd b || s.get GD_LIM_ITRIP (brPage b) * 100 < (sgn 20 (s.rd (bSense b))).natAbs

/-- Limitation of a half, or a shunt current above ITRIP, begins (R144, R216, R227). -/
def brLimStart (s : State) (b : Nat) : State :=
  if s.brFlows b && (s.br b).limFrom.isNone && s.gdOver b then
    ((s.brSettle b).wr (bLimiting b) 1).upBr b fun x => { x with limFrom := some s.tb, clearFrom := none }
  else s

/-- It ends (R144). -/
def brLimEnd (s : State) (b : Nat) : State :=
  match (s.br b).limFrom with
  | some t =>
    if isGd b && s.gdOver b then s
    else (s.wr (bLimiting b) 0).upBr b fun x => { x with filt := x.filt + (s.tb - t), limFrom := none, clearFrom := some s.tb }
  | none => s

/-- A filtered trip (R216, R227). -/
def brFilteredTrip (s : State) (b : Nat) : State :=
  match (s.br b).limFrom with
  | some t =>
    if brTfiltNs (s.rd (bTfilt b)) ≤ (s.br b).filt + (s.tb - t) && !s.clk.frozen then brTrip s b (bfOc b) 1 3 else s
  | none => s

/-- A fast trip (R214, R216, R227). -/
def brFastTrip (s : State) (b : Nat) : State := if s.brFlows b then brTrip s b (bfFast b) 0 2 else s

/-- The thermal latch of a half-bridge sets: the whole bridge is off (R214). -/
def brLatchSet (s : State) (b : Nat) : State :=
  if isGd b || (s.br b).latch then s
  else
    let l := s.lead b
    let s := (((s.wr (bTlHold b) 1).brFault b (HB_FAULT_THERMAL.loc (brPage b)) 2).logChan (62 + b) 4).upBr b fun x => { x with latch := true }
    (s.withdraw (.bridge l)).setBr l bsThermal

/-- The latch clears (R158, R214). -/
def brLatchClear (s : State) (b : Nat) : State :=
  ((s.upBr b fun x => { x with latch := false }).wr (bTlHold b) 0).brRelease (s.lead b)

/-- The latch clears by itself with TL_AUTO at the release temperature (R158). -/
def brLatchAuto (s : State) (b : Nat) : State :=
  if (s.br b).latch && s.flag HB_CFG_TL_AUTO (brPage b) && sgn 16 (s.get HB_TJ (brPage b)) ≤ Config.releaseTemp then
    brLatchClear s b
  else s

/-- ACT.TL_CLR of a half-bridge (R158). -/
def brTlClr (b : Nat) (s : State) : Acted :=
  if Config.releaseTemp < sgn 16 (s.get HB_TJ (brPage b)) then (s, true)
  else (if (s.br b).latch then brLatchClear s b else s, false)

/-- ACT.UNLOCK of a half-bridge (R160, R218). -/
def brUnlock (b : Nat) (s : State) : Acted :=
  let bud := s.get HB_CLAMP_CFG_BUDGET (brPage b)
  if bud ≤ 4 * s.get HB_CLAMP_FILL_HS (brPage b) || bud ≤ 4 * s.get HB_CLAMP_FILL_LS (brPage b) then (s, true)
  else ((s.upBr b fun x => { x with lockClamp := false }).brRelease (s.lead b), false)

/-- ACT.CLEAR (R215, R224): ends trip and drain-source locks once no latch stands, a charge-pump lock once VCP has recovered. -/
def brClear (b : Nat) (s : State) : Acted :=
  if s.brLatched b then (s, false)
  else
    let ok := s.flag GD_CHSTAT_CP_OK (brPage b)
    let s := s.each (s.halves b) fun s h =>
      s.upBr h fun x => { x with lockTrip := false, lockVds := false, lockCp := x.lockCp && isGd b && !ok }
    (s.brRelease (s.lead b), false)

/-- A turn-off's pulse ends: clamp energy of the high-side and low-side switch (R218), counted while PD_OUT is on (R176). The lock cause
stands in the half whose bucket is full. -/
def brPulse (s : State) (b eHs eLs : Nat) : State :=
  if isGd b || !s.domOn 7 then s
  else
    let p := brPage b
    let bud := s.get HB_CLAMP_CFG_BUDGET p
    let s := (s.clampHeat (eHs + eLs)).set HB_CLAMP_FILL_HS p (satAdd 16 (s.get HB_CLAMP_FILL_HS p) eHs)
    let s := s.set HB_CLAMP_FILL_LS p (satAdd 16 (s.get HB_CLAMP_FILL_LS p) eLs)
    let s := if eHs + eLs = 0 then s else s.logChan (62 + b) (6 + clampBin (max eHs eLs) (if b < 12 then 600 else 120))
    if bud ≤ s.get HB_CLAMP_FILL_HS p || bud ≤ s.get HB_CLAMP_FILL_LS p then
      ((s.brFault b (HB_FAULT_CLAMP_LOCK.loc p) 7).upBr b fun x => { x with lockClamp := true }).brLock b id
    else s

/-- The state that a non-driving DRIVE code names (R213). -/
def drivenState (d : Nat) : Nat := if d = 3 || d = 4 then bsBrake else bsOff

/-- DRIVE of a bridge has been written from `d0`, DUTY from `u0` (R211, R214); after a refusal a write requests again (R219). -/
def brReact (s : State) (b d0 u0 : Nat) : State :=
  let st := s.brSt b
  let d := s.rd (bDrive b)
  let again := (s.br b).refused
  if !s.brAccepts b then s
  else if st = bsOff || st = bsBrake || st = bsStopped then
    if driving d then s.brStart b else (s.upBr b fun x => { x with timerEnd := 0 }).setBr b (drivenState d)
  else if st = bsQueued || st = bsDirBrake then
    if !driving d then (s.withdraw (.bridge b)).setBr b (drivenState d)
    else if st = bsDirBrake && again then s.brStart b else s
  else if st = bsRun then
    if !driving d then (s.upBr b fun x => { x with stallFrom := none }).setBr b (drivenState d)
    else if d != (s.br b).lastDrive && driving d0 then
      (s.upBr b fun x => { x with timerEnd := s.tb + s.rd (bDirBrake b) * 1000000, stallFrom := none, refused := false }).setBr b bsDirBrake
    else if s.rd (bMode b) = 1 && (u0 = 0 || again) && s.rd (bDuty b) != 0 then s.brStart b
    else s
  else s

/-- Whether a DRIVE code is reserved for the bridge (R210). -/
def State.badDrive (s : State) (b d : Nat) : Bool := 5 ≤ d || (3 ≤ d && !s.isFull b)

/-- A write to OUT of a bridge (R209, R210, R214, R234, R236). -/
def brOutEff (b off v : Nat) (s : State) : State :=
  if s.lead b != b || s.badDrive b (v % 8) then s.reject (brPage b)
  else
    let d0 := s.rd (bDrive b)
    let u0 := s.rd (bDuty b)
    let s := (plainWrite s (brPage b) off v).upBr b fun x => { x with auto := false }
    let s := if isGd b then s.put GD_CHSTAT_PARKED (brPage b) false else s
    brReact s b d0 u0

/-- PAIRED of every half (R212). -/
def pairShow (s : State) : State := s.each (List.range 20) fun s h => s.put HB_CHSTAT_PAIRED (brPage h) (s.partner h).isSome

/-- A pairing comes into effect: the pair stands in the lead's state, or in the lock or latch of either half (R213, R215; log 91). -/
def pairJoin (s : State) (b : Nat) : State :=
  let l := s.lead b
  let s := s.each ((s.halves b).filter (· != l)) fun s h => s.withdraw (.bridge h)
  s.setBr l (if s.brLatched l then bsThermal else if s.brLocked l then bsLocked else s.brSt l)

/-- Whether PAIR of half `h` is enabled and names half `q`, which is enabled and does not name `h` (R209). -/
def State.pairBad (s : State) (h q : Nat) : Bool :=
  s.flag HB_PAIR_EN (brPage h) && s.get HB_PAIR_PARTNER (brPage h) == q && s.flag HB_PAIR_EN (brPage q) &&
    (s.get HB_PAIR_PARTNER (brPage q) != h || q == h)

/-- After a write to PAIR of half `b`: PAIRED, the state of a new pair, and PAIR_BAD where `b` and a half that it names or that names it do not
match (R209, R213). -/
def pairCheck (s : State) (b : Nat) : State :=
  let was := s.flag HB_CHSTAT_PAIRED (brPage b)
  let s := pairShow s
  let s := if (s.partner b).isSome && !was then pairJoin s b else s
  let bad (s : State) (q : Nat) : State :=
    (s.brFault b (HB_FAULT_PAIR_BAD.loc (brPage b)) 12).brFault q (HB_FAULT_PAIR_BAD.loc (brPage q)) 12
  s.each ((List.range 20).filter fun q => s.pairBad b q || s.pairBad q b) bad

/-- An automatic move ends in BRAKE where POS has reached TARGET in the direction of DRIVE (R234). -/
def State.autoReached (s : State) (b : Nat) : State :=
  let g := gdIdx b
  let t : Int := s.get RPE_TARGET_POS rpePage g
  let st := s.brSt b
  let there := if s.rd (bDrive b) = s.closeCode g then decide (s.pos g ≤ t) else decide (t ≤ s.pos g)
  if (s.br b).auto && (st = bsRun || st = bsQueued || st = bsDirBrake) && there then
    ((((s.withdraw (.bridge b)).wr (bDrive b) 3).upBr b fun x => { x with auto := false, stallFrom := none })).setBr b bsBrake
  else s

/-- Admission of a bridge's request (R214, R232, R236, R238). -/
def brAdmit (s : State) (b : Nat) : State :=
  let g := gdIdx b
  if s.brSt b = bsReversing then
    let s := (s.upEng g fun x => { x with rev := .driving, revPos := s.pos g, lastCross := none }).upBr b fun x =>
      { x with runFrom := s.tb, lastDrive := 3 - s.closeCode g, stallFrom := none, duty := 4095 }
    if s.flag RPE_CFG_EN rpePage g then s else s.normLost g 3
  else
    let d := s.rd (bDrive b)
    let s := s.each (s.halves b) fun s h => s.upBr h fun x => { x with stallFrom := none, filt := 0, limFrom := none, clearFrom := none }
    let s := ((s.upBr b fun x => { x with lastDrive := d, runFrom := s.tb, refused := false, pinchTb := none }).setBr b bsRun).brLoad b
    if isGd b then
      let s := if s.flag RPE_CFG_EN rpePage g then s else s.normLost g 3
      let closing := d == s.closeCode g
      let learn := closing && (s.get RPE_ZONE_PZ_OPEN rpePage g : Int) ≤ s.pos g && s.flag RPE_STAT_NORM rpePage g
      (s.autoReached b).upEng g fun x =>
        { x with hist := [], hits := 0, bins := [], lowFrom := none, lastCross := none, stallTb := none, learn := learn }
    else s.logChan (62 + b) 0

/-- Refusal of a bridge's request (R202, R214, R219, R236). -/
def brRefuse (s : State) (b : Nat) : State :=
  let s := s.brFault b (bfRefused b) 10
  if s.brSt b = bsReversing then
    let g := gdIdx b
    ((s.put RPE_STAT_REV_REFUSED rpePage true g).irq rpePage (4 * g + 3)).endReversal g
  else (s.upBr b fun x => { x with refused := true }).setBr b (s.br b).prior

/-- Halfword `k` of the profile of engine `g` (R240). -/
def profLoc (g k : Nat) : Loc := (if k % 2 = 0 then RPE_PROF_E else RPE_PROF_O).loc rpePage g (k / 2)

/-- One eighth of the way, truncated towards zero (R238). -/
def eighth (x new : Int) : Int := x + (new - x).tdiv 8

/-- Learning at the end of a full closing travel (R238). -/
def learnProfile (s : State) (g : Nat) : State :=
  let x := s.eng g
  let vbat : Int := s.vbat
  let amb := sgn 16 (s.get CALD_AMB_T 0x3F) / 16
  if x.learn && s.flag RPE_CFG_LEARN_EN rpePage g && x.bins.length = 256 then
    let first := !s.flag RPE_TAG_VALID rpePage g
    let s := x.bins.foldl (fun s b =>
      let m := b.2.1 / max b.2.2 1
      s.wr (profLoc g b.1) (if first then m else (eighth (s.rd (profLoc g b.1)) m).toNat)) s
    let v := s.get RPE_TAG_V_LEARN rpePage g
    let t := sgn 8 (s.get RPE_TAG_T_LEARN rpePage g)
    let s := s.set RPE_TAG_V_LEARN rpePage (if first then vbat else eighth v vbat).toNat g
    (s.set RPE_TAG_T_LEARN rpePage (unsgn 8 (if first then amb else eighth t amb)) g).put RPE_TAG_VALID rpePage true g
  else s

/-- What a stall does to the window position: normalisation and learning when closing (R231, R238, R241). -/
def stallNorm (s : State) (b : Nat) : State :=
  let g := gdIdx b
  if isGd b && (s.br b).lastDrive = s.closeCode g && s.flag RPE_CFG_EN rpePage g then
    let was := s.flag RPE_STAT_NORM rpePage g
    if !was || (s.pos g).natAbs ≤ s.get RPE_TRAVEL_MARGIN rpePage g then
      let s := s.normalise g
      if was then learnProfile s g else s
    else s
  else s

/-- A stall of half `b` (R217, R231, R236); its reaction is the whole bridge's. -/
def brStall (s : State) (b : Nat) : State :=
  let l := s.lead b
  let s := s.brFault b (bfStall b) 8
  let s := if isGd b then s.upEng (gdIdx b) fun x => { x with stallTb := some s.tb, preNorm := s.flag RPE_STAT_NORM rpePage (gdIdx b),
                                                              prePos := s.pos (gdIdx b) }
    else s.logChan (62 + b) 5
  let s := s.upBr b fun x => { x with stallFrom := none }
  if s.brSt l = bsReversing then s.endReversal (gdIdx b)
  else
    let s := stallNorm s b
    if s.cf (bStallAct b) then s.brStop l bsStopped bsStopped else s

/-- STALL_T in ns. -/
def State.stallNs (s : State) (b : Nat) : Nat :=
  (if isGd b then s.get GD_STALL_T (brPage b) else s.get HB_LIM_STALL_T (brPage b)) * 10000000

/-- STALL_I in the units of SENSE.I (R212, R227). -/
def State.stallI (s : State) (b : Nat) : Nat :=
  if isGd b then s.get GD_STALL_I (brPage b) * 100
  else s.get HB_LIM_STALL_I (brPage b) * (if b < 12 then 500 else 100)

/-- A 1 ms reading of a bridge: trims, stall run, which a reading without VALID neither extends nor ends, open load, and the shunt current
against ITRIP (R163 to R165, R212, R217, R227). -/
def brSense (s : State) (b : Nat) (raw : Int) (vout tj : Nat) (phase limited : Bool) : State :=
  let p := brPage b
  let valid := s.domOn 10 && phase
  let s := s.upBr b fun x => if x.armed && x.armCnt < 10 then
      { x with armSum := x.armSum + raw, armCnt := x.armCnt + 1, offset := if x.armCnt = 9 then (x.armSum + raw) / 10 else x.offset }
    else x
  let z := if isGd b then raw - (s.br b).offset
    else raw * s.get HB_TRIM_GAIN p / 32768 + sgn 16 (s.get HB_TRIM_OFFSET p) - (s.br b).offset
  let i := z.natAbs
  let s := (s.wr (bSense b) (unsgn 20 (satSgn 20 z))).wr (bSenseValid b) (b2n valid)
  let s := if isGd b then (s.put GD_SENSE_LIMITED p limited).put GD_SENSE_EXTRAPOLATED p false
    else
      let ext := s.flag HB_CHSTAT_TRIM_BAD p || i < s.get HB_TRIM_BAND_LO p * 100 || s.get HB_TRIM_BAND_HI p * 100 < i
      ((((s.put HB_SENSE_LIMITED p limited).put HB_SENSE_EXTRAPOLATED p ext).set HB_VOUT p vout).set HB_TJ p tj).logPeak (62 + b) (sgn 16 tj)
  let st := s.brSt b
  let runs := st == bsRun || (st == bsReversing && (s.eng (gdIdx b)).rev == .driving)
  let low := valid && !limited && st == bsRun && !isGd b && i < s.get HB_DIAG_IOL_ON p
  let s := s.upBr b fun x => { x with stallFrom := if !runs then none else if !valid then x.stallFrom
                                        else if s.stallI b ≤ i then some (x.stallFrom.getD s.tb) else none,
                                      lowCnt := if low then x.lowCnt + 1 else if valid || limited then 0 else x.lowCnt,
                                      olSet := x.olSet && !((valid || limited) && !low), lastI := if valid then i else x.lastI }
  let s := if low && olFiltMs (s.get HB_DIAG_OL_FILT p) ≤ (s.br b).lowCnt && !(s.br b).olSet then
      (s.upBr b fun x => { x with olSet := true }).brFault b (HB_FAULT_OL_ON.loc p) 4
    else s
  if !isGd b then s else if s.gdOver b then brLimStart s b else brLimEnd s b

/-- The caldera sheds a bridge through SAFE_BRAKE (R214, R220). -/
def brShed (s : State) (b : Nat) : State := (s.withdraw (.bridge b)).brStop b bsSafeBrake bsShed

/-- A bridge takes the state that DRIVE calls for (R214). -/
def State.brResume (s : State) (b : Nat) : State :=
  let d := s.rd (bDrive b)
  if driving d && s.brAccepts b then s.brStart b else s.setBr b (drivenState d)

/-- The caldera releases a bridge (R214); one that still brakes on its way to SHED goes on when it has done so (R174). -/
def brUnshed (s : State) (b : Nat) : State :=
  if s.brSt b = bsShed then s.brResume b
  else if s.brSt b = bsSafeBrake && (s.br b).next = bsShed then s.upBr b fun x => { x with next := bsQueued }
  else s

/-- Clearing CTRL.EN of the page of half `b` (R67, R214, R222). -/
def brDrain (s : State) (b : Nat) : State :=
  let l := s.lead b
  let st := s.brSt l
  if st = bsQueued && !s.brFlows l then (s.withdraw (.bridge l)).setBr l bsOff
  else if st = bsReversing || st = bsOff || st = bsLocked || st = bsThermal then s
  else if st = bsShed then s.setBr l bsOff
  else (s.withdraw (.bridge l)).brStop l bsSafeBrake bsOff

/-- Whether a bridge does not keep its page from IDLE (R222). -/
def brIdle (s : State) (b : Nat) : Bool := let st := s.brSt b; st == bsOff || st == bsLocked || st == bsThermal

/-- Whether a GATE_READY preparation of a gate driver holds the charge pump (R314, R333). -/
def State.pumpHeld (s : State) : Bool := s.preps.any fun x => x.kind == 1 && 0x54 ≤ x.tgt && x.st == 2

/-- The charge pump is asked for at the class of gate driver `k` that enables it, and stops with the last driver (R219, R223). -/
def pumpCheck (s : State) (k : Nat) : State :=
  let on := (List.range 4).any (fun g => s.cf (bEn (20 + g)))
  if on && !s.gate.pumpOn && !s.gate.pumpAsked then
    let p := s.rd (bPrio (20 + k))
    let s := { s with gate := { s.gate with pumpAsked := true } }
    s.queueStart { req := .pump k, rank := prioRank p, x := 200, h := 4, t := s.tb, prio := p }
  else if !on && !s.pumpHeld then
    let s := { s with gate := { s.gate with pumpOn := false, pumpAsked := false,
                                            queue := s.gate.queue.filter fun e => match e.req with | .pump _ => false | _ => true } }
    s.each (List.range 4) fun s g => s.put GD_CHSTAT_CP_OK (0x54 + g) false
  else s

/-- The pump is asked for again where a request has gone with drivers still enabled: after a refusal, or with PD_OUT (R223; log 91). -/
def pumpAgain (s : State) : State :=
  match (List.range 4).find? fun g => s.cf (bEn (20 + g)) with
  | some g => pumpCheck s g
  | none => s

/-- The count direction of engine `g`: POS falls while closing (R229). -/
def State.countStep (s : State) (g : Nat) : Int := if (s.br (20 + g)).lastDrive = s.closeCode g then -1 else 1

/-- A count of engine `g`: range check, end of an automatic move or of a reversal (R229, R232, R234, R236). -/
def rpeCount (s : State) (g : Nat) : State :=
  let b := 20 + g
  let up := s.countStep g
  let s := s.set RPE_POS rpePage (unsgn 24 (s.pos g + up)) g
  let p := s.pos g
  let mar : Int := s.get RPE_TRAVEL_MARGIN rpePage g
  let mx : Int := s.get RPE_TRAVEL_MAX rpePage g
  let s := if p < -mar || mx + mar < p then s.normLost g 2 else s
  if s.brSt b = bsReversing && (s.eng g).rev == .driving then
    if (s.get RPE_REV_DIST rpePage g : Int) ≤ p - (s.eng g).revPos || mx ≤ p then s.endReversal g else s
  else s.autoReached b

/-- The ripple frequency that the engine works with, in Hz: f_est within FMIN to FMAX (R229). -/
def State.ripFreq (s : State) (g : Nat) : Nat :=
  max 1 (min (max (s.get RPE_F_EST_FREQ rpePage g) (s.get RPE_RIP_FMIN rpePage g)) (s.get RPE_RIP_FMAX rpePage g))

/-- A count that stands for a ripple which was not seen: INSERTED, and what it says of the position (R230, R232). -/
def rpeInserted (s : State) (g : Nat) : State :=
  let s := rpeCount (s.bump RPE_STAT_INSERTED rpePage g) g
  if s.get RPE_TRAVEL_NORM_TOL rpePage g < s.get RPE_STAT_INSERTED rpePage g then s.normLost g 1 else s

/-- A zero crossing with a swing of `amp` mA (R229, R230): it counts when the swing is at least HYST % of the mean current and at least 0.4 of
a ripple period has passed since the last. In OFF a count comes from the phase-sense voltage while f is not below FMIN, and is an inserted
one. -/
def ripple (s : State) (g amp : Nat) : State :=
  let b := 20 + g
  if s.brSt b = bsOff then
    if s.get RPE_RIP_FMIN rpePage g ≤ s.get RPE_F_EST_FREQ rpePage g then rpeInserted s g else s
  else
    let soon := match (s.eng g).lastCross with
      | some t => (s.tb - t) * 10 * s.ripFreq g < 4000000000
      | none => false
    if soon || amp * 100 < s.get RPE_RIP_HYST rpePage g * (s.br b).lastI then s
    else rpeCount (s.upEng g fun x => { x with lastCross := some s.tb }) g

/-- An interval above 1.6 ripple periods inserts a count, which stands one period after the last (R229; log 91). -/
def rippleGap (s : State) (g : Nat) : State :=
  match (s.eng g).lastCross with
  | some t =>
    if 16000000000 < (s.tb - t) * 10 * s.ripFreq g && s.brSt (20 + g) != bsOff then
      rpeInserted (s.upEng g fun x => { x with lastCross := some (t + 1000000000 / s.ripFreq g) }) g
    else s
  | none => s

/-- Whether ripples are counted on engine `g` now (R230). -/
def State.counts (s : State) (g : Nat) : Bool := s.flag RPE_CFG_EN rpePage g && !s.clk.frozen

/-- A detected pinch with NORM as it was ahead of a stall in the same millisecond (R235 to R237, R241); the stall run stands, so that the
stall still shows. -/
def pinch (s : State) (g : Nat) (norm : Bool) : State :=
  let b := 20 + g
  let s := ((s.brFault b (GD_FAULT_PINCH.loc (brPage b)) 11).put RPE_STAT_PINCH rpePage true g).irq rpePage (4 * g)
  let s := s.upEng g fun x => { x with hits := 0, learn := false }
  let run := (s.br b).stallFrom
  let s := s.upBr b fun x => { x with auto := false, pinchTb := some s.tb }
  let s := if !norm && !s.flag RPE_CFG_INIT_REV rpePage g then (s.normalise g).brStop b bsStopped bsStopped
    else ((s.put RPE_STAT_REVERSING rpePage true g).upEng g fun x => { x with rev := .brake, revTb := s.tb }).setBr b bsReversing
  s.upBr b fun x => { x with stallFrom := run }

/-- The 1 ms evaluation of engine `g`: `i` the mean shunt current in mA, `vb` the bridge voltage in mV (R229, R230, R235). A
stall in the same millisecond does not keep it from detecting (R241). -/
def pinchEval (s : State) (g i vb : Nat) : State :=
  let b := 20 + g
  let fEst := (vb - i * s.get RPE_MOTOR_R_ARM rpePage g / 1000) / max (s.get RPE_MOTOR_KE rpePage g) 1
  let s := s.set RPE_F_EST_FREQ rpePage (min fEst 65535) g
  let x := s.eng g
  let ago := x.hist.getD 9 i
  let stalled := match x.stallTb with | some t => decide (s.tb < t + 1000000) | none => false
  let run := s.brSt b == bsRun || (stalled && s.brSt b == bsStopped)
  let slow := s.flag RPE_CFG_EN rpePage g && s.brSt b == bsRun && (s.br b).runFrom + 100000000 ≤ s.tb && fEst < s.get RPE_RIP_FMIN rpePage g
  let norm := if stalled then x.preNorm else s.flag RPE_STAT_NORM rpePage g
  let p := if stalled then x.prePos else s.pos g
  let lo : Int := s.get RPE_ZONE_PZ_CLOSED rpePage g
  let hi : Int := s.get RPE_ZONE_PZ_OPEN rpePage g
  let zone := lo ≤ p && p ≤ hi
  let closing := (s.br b).lastDrive == s.closeCode g
  let bin := (min 255 (max 0 ((p - lo) * 256 / max (hi - lo) 1))).toNat
  let old := tget x.bins bin (0, 0)
  let s := s.upEng g fun x =>
    { x with hist := (i :: x.hist).take 10, lowFrom := if slow then some (x.lowFrom.getD s.tb) else none,
             bins := if x.learn && zone && closing then tins (tdel x.bins bin) bin (old.1 + i, old.2 + 1) else x.bins }
  if s.flag RPE_CFG_PINCH_EN rpePage g && run && closing && !s.clk.frozen && (zone || !norm)
      && (s.br b).runFrom + s.get RPE_CFG_START_BLANK rpePage g * 1000000 ≤ s.tb then
    let dv : Int := s.vbat - (s.get RPE_TAG_V_LEARN rpePage g : Int)
    let dt : Int := sgn 16 (s.get CALD_AMB_T 0x3F) / 16 - sgn 8 (s.get RPE_TAG_T_LEARN rpePage g)
    let ext := !norm || !s.flag RPE_TAG_VALID rpePage g || 3000 < dv.natAbs || 40 < dt.natAbs
    let iRef : Int := (s.rd (profLoc g bin) : Int) + (sgn 16 (s.get RPE_COMP_KV rpePage g) * dv).tdiv 1000
    let dec : Int := ((s.get RPE_FORCE_KF rpePage g : Int) * ((i : Int) - iRef)).tdiv 1000
    let hit := if ext then s.get RPE_COMP_RISE rpePage g + ago < i else (10 * s.get RPE_FORCE_F_LIM rpePage g : Int) + 9 < dec
    let s := (s.put RPE_STAT_EXTRAPOLATED rpePage ext g).set RPE_FORCE_EST rpePage (if ext then 0 else unsgn 16 (satSgn 16 dec)) g
    let s := s.upEng g fun x => { x with hits := if hit then x.hits + 1 else 0 }
    if s.get RPE_FORCE_FILT rpePage g ≤ (s.eng g).hits then pinch s g norm else s
  else s

/-! The meanings of the motor commands. -/

/-- Offset of OUT in a bridge page (R212, R227). -/
def brOutOff (b : Nat) : Nat := if isGd b then 0x5C else 0x4C

/-- DIR_BRAKE_END (R214): the new direction queues, once. -/
def execDirBrakeEnd (b : Nat) (s : State) : Host.Outcome State Fault Refusal :=
  let l := s.lead b
  .next (if s.brSt l = bsDirBrake && (s.br l).timerEnd ≤ s.tb && !(s.br l).refused then s.brStart l else s)

/-- BRAKE_TIMER_END (R213): the low-sides turn off; SAFE_BRAKE passes on. -/
def execBrakeTimerEnd (b : Nat) (s : State) : Host.Outcome State Fault Refusal :=
  let l := s.lead b
  let x := s.br l
  if x.timerEnd ≤ s.tb && (s.brSt l = bsSafeBrake || s.brSt l = bsStopped) then
    let s := s.upBr l fun x => { x with timerEnd := 0 }
    .next (if x.next = bsQueued then (s.setBr l bsOff).brResume l else s.setBr l x.next)
  else .next s

/-- STALL_DETECT where a pinch of the same millisecond has come first: the fault shows (R241). -/
def stallShow (s : State) (b : Nat) : State :=
  match (s.br b).pinchTb with
  | some t =>
    if s.tb < t + 1000000 then (s.brFault b (bfStall b) 8).upBr b fun x => { x with stallFrom := none, pinchTb := none } else s
  | none => s

/-- STALL_DETECT (R217). -/
def execStallDetect (b : Nat) (s : State) : Host.Outcome State Fault Refusal :=
  match (s.br b).stallFrom with
  | some t =>
    .next (if !(t + s.stallNs b ≤ s.tb) then s
      else if s.brSt b = bsRun || (s.brSt b = bsReversing && (s.eng (gdIdx b)).rev == .driving) then brStall s b else stallShow s b)
  | none => .next s

/-- VDS_FAULT (R225): switch 0 high A, 1 low A, 2 high B, 3 low B. -/
def execVdsFault (g sw : Nat) (s : State) : Host.Outcome State Fault Refusal :=
  let p := 0x54 + g
  .next (((s.set GD_FAULT_VDS p (setBit (s.get GD_FAULT_VDS p) sw)).irq p (2 + sw)).brLock (20 + g) fun x => { x with lockVds := true })

/-- CP_UNDERVOLTAGE (R224). -/
def execCpUndervoltage (s : State) : Host.Outcome State Fault Refusal :=
  .next (s.each (List.range 4) fun s g =>
    let p := 0x54 + g
    ((s.put GD_CHSTAT_CP_OK p false).brFault (20 + g) (GD_FAULT_CP_UV.loc p) 6).brLock (20 + g) fun x => { x with lockCp := true })

/-- HB_ACT_CLEAR (R215, R224). -/
def execHbActClear (m : Master) (b : Nat) (s : State) : Host.Outcome State Fault Refusal :=
  .next (accessWrite s m (brPage b) (if isGd b then 0x70 else 0x6C) 4 fun _ s => doAct (brPage b) (brClear b s))

/-- CHARGE_PUMP_READY (R223): once its start has been admitted the pump reaches regulation. -/
def execChargePumpReady (s : State) : Host.Outcome State Fault Refusal :=
  .next (if s.gate.pumpOn then s.each (List.range 4) fun s g => s.put GD_CHSTAT_CP_OK (0x54 + g) true else s)

/-- WIPER_PARK_STOP (R228): the park input's edge stops the bridge. -/
def execWiperParkStop (g : Nat) (s : State) : Host.Outcome State Fault Refusal :=
  let p := 0x54 + g
  if s.flag GD_PARK_EN p && s.brSt (20 + g) = bsRun && (s.br (20 + g)).parkDue then
    .next ((s.put GD_CHSTAT_PARKED p true).brStop (20 + g) bsStopped bsStopped)
  else .next s

/-- An accepted transition of switch input `n` to `level` is a park edge of the bridges in RUN that name it (R228). -/
def parkEdge (s : State) (n : Nat) (level : Bool) : State :=
  s.each (List.range 4) fun s g =>
    let p := 0x54 + g
    if s.flag GD_PARK_EN p && s.get GD_PARK_SWI p == n && s.flag GD_PARK_LEVEL p == level && s.brSt (20 + g) == bsRun then
      s.upBr (20 + g) fun x => { x with parkDue := true }
    else s

/-- ACT.ZERO of a gate driver (R227): rejected unless STATE is OFF. -/
def gdZero (g : Nat) (offset : Int) (s : State) : Acted :=
  if s.brSt (20 + g) = bsOff then (s.upBr (20 + g) fun x => { x with offset := offset }, false) else (s, true)

/-- GD_ACT_ZERO (R227): `offset` is the shunt amplifier's offset in mA as measured. -/
def execGdActZero (m : Master) (g : Nat) (offset : Int) (s : State) : Host.Outcome State Fault Refusal :=
  .next (accessWrite s m (0x54 + g) 0x70 32 fun _ s => doAct (0x54 + g) (gdZero g offset s))

/-- RIPPLE_COUNT (R229, R230). -/
def execRippleCount (x : Crossing) (s : State) : Host.Outcome State Fault Refusal :=
  .next (if s.counts x.eng then ripple s x.eng x.amp else s)

/-- RIPPLE_INSERT (R229, R230, R232). -/
def execRippleInsert (g : Nat) (s : State) : Host.Outcome State Fault Refusal :=
  .next (if s.counts g then rippleGap s g else s)

/-- RPE_LOW_FREQ_STALL (R230). -/
def execRpeLowFreqStall (g : Nat) (s : State) : Host.Outcome State Fault Refusal :=
  match (s.eng g).lowFrom with
  | some t => .next (if t + 50000000 < s.tb && s.brSt (20 + g) = bsRun && s.flag RPE_CFG_EN rpePage g then brStall s (20 + g) else s)
  | none => .next s

/-- ACT.NORM_NOW: normalises; a position written while the bridge runs loses NORM (R231, R232). -/
def normNow (g : Nat) (s : State) : State :=
  if s.brSt (20 + g) = bsRun then
    ((s.set RPE_POS rpePage 0 g).set RPE_STAT_INSERTED rpePage 0 g).normLost g 6
  else s.normalise g

/-- The offset of register `o` of engine `g`'s block (R240). -/
def rpeOff (g o : Nat) : Nat := 0x100 + 0x80 * g + o

/-- ACT_NORM_NOW (R231). -/
def execActNormNow (m : Master) (g : Nat) (s : State) : Host.Outcome State Fault Refusal :=
  .next (accessWrite s m rpePage (rpeOff g 0x34) 1 fun _ => normNow g)

/-- ACT_NORM_CLR (R232). -/
def execActNormClr (m : Master) (g : Nat) (s : State) : Host.Outcome State Fault Refusal :=
  .next (accessWrite s m rpePage (rpeOff g 0x34) 2 fun _ s => s.normLost g 5)

/-- A write to TARGET: with GO an automatic move starts, or is refused when closing unnormalised (R234). -/
def targetEff (g v : Nat) (s : State) : State :=
  let b := 20 + g
  let s := s.set RPE_TARGET_POS rpePage (v % 65536) g
  if v < 2 ^ 31 then s
  else
    let t : Int := (v % 65536 : Nat)
    let closing := t < s.pos g
    if closing && !s.flag RPE_STAT_NORM rpePage g then (s.put RPE_STAT_AUTO_REFUSED rpePage true g).irq rpePage (4 * g + 3)
    else if t = s.pos g || s.brSt b = bsReversing then s
    else
      let d0 := s.rd (bDrive b)
      let s := s.wr (bDrive b) (if closing then s.closeCode g else 3 - s.closeCode g)
      (brReact s b d0 (s.rd (bDuty b))).upBr b fun x => { x with auto := true }

/-- TARGET_GO (R234). -/
def execTargetGo (m : Master) (g : Nat) (v : Word) (s : State) : Host.Outcome State Fault Refusal :=
  .next (accessWrite s m rpePage (rpeOff g 0x30) (v.toNat ||| 2 ^ 31) (targetEff g))

/-- PINCH_EVALUATION (R235). -/
def execPinchEvaluation (g i vb : Nat) (s : State) : Host.Outcome State Fault Refusal := .next (pinchEval s g i vb)

/-- REVERSAL_REQUEST (R236). -/
def execReversalRequest (g : Nat) (s : State) : Host.Outcome State Fault Refusal :=
  let x := s.eng g
  if s.brSt (20 + g) = bsReversing && x.rev == .brake && x.revTb + s.get RPE_REV_DELAY rpePage g * 1000000 ≤ s.tb then
    .next ((s.upEng g fun x => { x with rev := .waiting }).queueStart (s.brEntry (20 + g)))
  else .next s

/-- A write to CFG of an engine: to disable it while its bridge drives loses NORM (R232). -/
def rpeCfgEff (g off v : Nat) (s : State) : State :=
  let s := plainWrite s rpePage off v
  let st := s.brSt (20 + g)
  if !s.flag RPE_CFG_EN rpePage g && (st = bsRun || (st = bsReversing && (s.eng g).rev == .driving)) then s.normLost g 3 else s

/-- A write to ZONE: PZ_OPEN lies at least 256 above PZ_CLOSED (R240, R596). -/
def zoneEff (off v : Nat) (s : State) : State :=
  if v / 65536 % 65536 < v % 65536 + 256 then s.reject rpePage else plainWrite s rpePage off v

/-- A write to the profile RAM or TAG of an engine (R239, R240): rejected while its bridge runs, and a profile write while
PROF_LOCK is set. -/
def profileEff (g off v : Nat) (s : State) : State :=
  if s.brSt (20 + g) = bsRun || (0x800 ≤ off && s.flag RPE_PROF_LOCK rpePage) then s.reject rpePage
  else plainWrite s rpePage off v

/-- PROFILE_WRITE (R239). -/
def execProfileWrite (m : Master) (g off : Nat) (v : Word) (s : State) : Host.Outcome State Fault Refusal :=
  .next (accessWrite s m rpePage off v.toNat (profileEff g off))

end Sys2Proof.Machine
end

