-- ==== Sys2Proof/Machine/FieldIo.lean ====
section
/-! DEFINITION. Field pins and the keepalive (R267 to R285). Pin `p` (0 to 23) is FIOp, channel index 62 + p. -/

namespace Sys2Proof.Machine

/-- The page of the keepalive registers, FLD0. -/
def fldPage : Nat := 0x62

/-- The page of pin `p`. -/
def pinPage (p : Nat) : Nat := 0x62 + p / 12

/-- Whether the 1 Hz pattern of SAFE 0b11 is on (R280). -/
def State.safeHalf (s : State) : Bool := s.tb % 1000000000 < 500000000

/-- Whether pin `p` has SAFE 0b11. -/
def State.safePattern (s : State) (p : Nat) : Bool := s.get FLD_CFG_SAFE (pinPage p) (p % 12) == 3

/-- An output pin takes the state that its safe state or its committed state calls for: `on` tells which, `k` the kind of
the request (R280, R281). A shed pin that its safe state turns on counts as P0 and is released (R15, R280). -/
def fioTake (s : State) (p : Nat) (on : Bool) (k : ReqKind) : State :=
  let c := 62 + p
  let st := s.chSt c
  if st = stOff || st = stQueued then
    let s := (s.withdraw (.chan c)).setSt c stOff
    if on then s.goQueued c k else s
  else if st = stShed then (if on && s.prioOf c = 0 then s.goQueued c k else s)
  else if conducting st then (if on then s.upCh c fun x => { x with level := true } else s.turnOff c .command)
  else if st = stRetryWait then
    if on then s else ((s.reloadRetries c).upCh c fun x => { x with retryEnd := none }).setSt c stOff
  else s

/-- An output pin enters its safe state (R279, R280). -/
def fioSafe (s : State) (p : Nat) : State :=
  let c := 62 + p
  if s.isOutput c then
    let s := (s.put FLD_STATE_SAFE_ACT (pinPage p) true (p % 12)).upPin p fun x => { x with held := conducting (s.chSt c) }
    fioTake s p (s.wanted c && !s.offHalf c) .limp
  else s

/-- The keepalive deadline passes (R279). -/
def keepExpire (s : State) : State :=
  match s.keep.deadline with
  | some t =>
    if s.flag FLD0_KA_CFG_EN fldPage && t ≤ s.tb && s.domOn 9 then
      let s := ((s.put FLD0_KA_STAT_EXPIRED fldPage true).bump FLD0_KA_STAT_EXPIRIES fldPage).irq fldPage 28
      { s with keep := {} }.each (List.range 24) fioSafe
    else s
  | none => s

/-- Set the deadline to TB + TIMEOUT (R278). -/
def State.feed (s : State) : State :=
  { s with keep := { s.keep with deadline := some (s.tb + s.get FLD0_KA_CFG_TIMEOUT fldPage * 1000000) } }

/-- A write to KA.KEEPALIVE (R278); at an expiry it counts as the first after it (R279). -/
def keepEff (v : Nat) (s : State) : State :=
  if v = 0xA55A then
    let s := (keepExpire s).feed
    { s with keep := { s.keep with fed := true } }
  else s.reject fldPage

/-- A write to KA.CFG: the timer starts when EN is set (R278). -/
def keepCfgEff (v : Nat) (s : State) : State :=
  let was := s.flag FLD0_KA_CFG_EN fldPage
  let s := plainWrite s fldPage 0x40 v
  if !was && s.flag FLD0_KA_CFG_EN fldPage then s.feed else s

/-- Pin `p` leaves its safe state for its committed OUT (R281); one that stands in the off half of its pattern is off. -/
def fioResume (s : State) (p : Nat) : State :=
  let c := 62 + p
  if s.safeAct c then
    let s := if s.chSt c = stOn && !(s.ch c).level then s.setSt c stOff else s
    let s := s.put FLD_STATE_SAFE_ACT (pinPage p) false (p % 12)
    fioTake s p (s.wanted c) .start
  else s

/-- KA.RESUME: rejected without a keepalive since the expiry (R281). -/
def keepResume (s : State) : Acted :=
  if s.flag FLD0_KA_STAT_EXPIRED fldPage && s.keep.fed then
    ((s.put FLD0_KA_STAT_EXPIRED fldPage false).each (List.range 24) fioResume, false)
  else (s, true)

/-- A half of the 1 Hz pattern begins: the first on passes the gate, later ones switch the pin (R280). -/
def fioPattern (s : State) (p : Nat) : State :=
  let c := 62 + p
  if s.isOutput c && s.safeAct c && s.safePattern p then
    if s.chSt c = stOff then s.restart c
    else if s.chSt c = stOn then s.upCh c fun x => { x with level := s.safeHalf }
    else s
  else s

/-- Whether a field output is on while the keepalive is enabled (R283). -/
def State.keepBlocks (s : State) : Bool :=
  s.flag FLD0_KA_CFG_EN fldPage && (List.range 24).any fun p => s.isOutput (62 + p) && conducting (s.chSt (62 + p))

/-- A sample of pin `p`, accepted or not (R285). -/
def fioRaw (s : State) (p : Nat) (level : Bool) : State := if s.domOn 9 then s.put FLD_STATE_RAW (pinPage p) level (p % 12) else s

/-- A field input's accepted transition (R270): level, sequence, timestamp and interrupt. `edge` is the TB of the raw edge
less the filter delay. -/
def fioAccept (s : State) (p : Nat) (level : Bool) (edge : Nat) : State :=
  let g := pinPage p
  let i := p % 12
  let s := s.put FLD_STATE_LEVEL g level i
  let s := s.set FLD_STATE_SEQ g (s.get FLD_STATE_SEQ g i + 1) i
  let s := (s.set FLD_TS_LO g edge i).set FLD_TS_HI g (edge / 2 ^ 32) i
  (s.upPin p fun x => { x with highFrom := if level then some s.tb else none }).irq g (16 + i)

/-- The start of a run of samples whose raw edge lay at `edge`: no earlier than the first sample since PD_FLD's power-up (R272; log 92). -/
def State.fioRun (s : State) (p edge : Nat) : Nat := max edge ((s.pin p).runFrom.getD 0)

/-- Whether a new level of pin `p`, held since `edge`, is accepted (R270): DEB 0 takes two samples of 1 µs. -/
def State.fioReady (s : State) (p : Nat) (level : Bool) (edge : Nat) : Bool :=
  s.domOn 9 && s.flag FLD_STATE_LEVEL (pinPage p) (p % 12) != level &&
    s.fioRun p edge + max (s.get FLD_CFG_DEB (pinPage p) (p % 12) * 100000) 1000 ≤ s.tb

/-- VFLD_UV_CHANGE (R284). -/
def execVfldUvChange (uv : Bool) (s : State) : Host.Outcome State Fault Refusal :=
  if s.domOn 9 then
    let was := s.flag FLD0_KA_STAT_VFLD_UV fldPage
    let s := s.put FLD0_KA_STAT_VFLD_UV fldPage uv
    .next (if uv && !was then s.irq fldPage 29 else s)
  else .next s

/-- KEEPALIVE_WRITE (R278, R282). -/
def execKeepaliveWrite (m : Master) (v : Word) (s : State) : Host.Outcome State Fault Refusal :=
  .next (accessWrite s m fldPage 0x44 v.toNat keepEff)

/-- KEEPALIVE_EXPIRY (R279). -/
def execKeepaliveExpiry (s : State) : Host.Outcome State Fault Refusal := .next (keepExpire s)

/-- KA_RESUME (R281). -/
def execKaResume (m : Master) (s : State) : Host.Outcome State Fault Refusal :=
  .next (accessWrite s m fldPage 0x4C 1 fun _ s => doAct fldPage (keepResume s))

/-- SAFE_PATTERN_TOGGLE (R280). -/
def execSafePatternToggle (p : Nat) (s : State) : Host.Outcome State Fault Refusal := .next (fioPattern s p)

/-- FIO_OPEN_LOAD (R276): MEAS.I below 5 mA for 20 ms in ON. -/
def execFioOpenLoad (p : Nat) (s : State) : Host.Outcome State Fault Refusal :=
  match (s.pin p).lowFrom with
  | some t => .next (if s.chSt (62 + p) = stOn && t + 20000000 ≤ s.tb then s.chFault (62 + p) (cfOlOn (62 + p)) 4 else s)
  | none => .next s

/-- FIO_EXT_HIGH (R276): a level of 1 for 20 ms in OFF. -/
def execFioExtHigh (p : Nat) (s : State) : Host.Outcome State Fault Refusal :=
  let c := 62 + p
  match (s.pin p).highFrom with
  | some t =>
    .next (if s.isOutput c && s.chSt c = stOff && t + 20000000 ≤ s.tb && (s.ch c).offFrom + 20000000 ≤ s.tb then
      s.chFault c (cfExtHigh c) 11 else s)
  | none => .next s

end Sys2Proof.Machine
end

