-- ==== Sys2Proof/Machine/Lighting.lean ====
section
/-! DEFINITION. The LED matrix and the daisy-chain port (R297 to R310). -/

namespace Sys2Proof.Machine

/-- The page of the LED matrix. -/
def ledPage : Nat := 0x67

/-- The page of the daisy-chain port. -/
def ldcPage : Nat := 0x68

/-- Whether the scan runs. -/
def State.scanOn (s : State) : Bool := s.flag LED_STAT2_SCAN_ON ledPage

/-- The gate request of the scan (R303). -/
def State.ledEntry (s : State) : GateEntry :=
  let p := s.get LED_CFG_PRIO ledPage
  { req := .led, rank := prioRank p, x := 720, h := 1, t := s.tb, prio := p }

/-- Request the scan start, or pass at once to shed while the class is shed (R190, R303). -/
def ledStart (s : State) : State :=
  if s.scanOn || s.led.shed || (s.waiting .led).isSome || !s.accepts ledPage then s
  else if s.shedding (s.get LED_CFG_PRIO ledPage) then { s with led := { s.led with shed := true } }.recordShed .led
  else s.queueStart s.ledEntry

/-- The scan is admitted (R303). -/
def ledAdmit (s : State) : State := s.put LED_STAT2_SCAN_ON ledPage true

/-- The scan is refused (R303). -/
def ledRefuse (s : State) : State := s.put LED_FAULT_REFUSED ledPage true

/-- The scan stops at the end of the current slot (R303). -/
def ledStop (s : State) : State := s.put LED_STAT2_SCAN_ON ledPage false

/-- The caldera sheds the matrix (R303). -/
def ledShed (s : State) : State :=
  let s := ledStop (s.withdraw .led)
  { s with led := { s.led with shed := true, restart := false } }

/-- On release the scan restarts through the gate at the next frame start (R303). -/
def ledUnshed (s : State) : State :=
  if s.led.shed then { s with led := { s.led with shed := false, restart := true } } else s

/-! The scan's outputs (R298). -/

/-- T_line in ns (R298). -/
def State.lineTime (s : State) : Nat := s.get LED_SCAN_PRE ledPage * 100 + 40960 * s.get LED_SCAN_DIV ledPage

/-- T_frame in ns (R298). -/
def State.frameTime (s : State) : Nat := 12 * s.lineTime

/-- The time since the last frame start, while the lines are driven (R298, R301). -/
def State.scanAt (s : State) : Option Nat :=
  if s.scanOn && !s.led.dark then s.led.frameTb.map (s.tb - ·) else none

/-- The line that conducts now (R298, R301): that of the present slot, but in its precharge and while it is locked. -/
def State.ledLine (s : State) : Option Nat :=
  match s.scanAt with
  | some t =>
    let l := t / s.lineTime
    if l < 12 && s.get LED_SCAN_PRE ledPage * 100 ≤ t % s.lineTime && !bitOf (s.get LED_STAT2_LINE_LOCK ledPage) l then some l else none
  | none => none

/-- The value of element `e` in the buffer shown (R299). -/
def State.ledValue (s : State) (e : Nat) : Nat :=
  let f := if s.flag LED_SWAP_FRONT ledPage then (if e % 2 = 0 then LED_BUF1_E else LED_BUF1_O)
    else (if e % 2 = 0 then LED_BUF0_E else LED_BUF0_O)
  s.get f ledPage (e / 2)

/-- The current in mA that the sink of column `c` regulates now (R298): COL_I for the element's value × 10 ns × DIV. -/
def State.ledSink (s : State) (c : Nat) : Nat :=
  match s.scanAt, s.ledLine with
  | some t, some l =>
    if t % s.lineTime - s.get LED_SCAN_PRE ledPage * 100 < s.ledValue (12 * l + c) * 10 * s.get LED_SCAN_DIV ledPage
    then s.get (colI c) ledPage else 0
  | _, _ => 0
where
  /-- COL_I of column `c` (R304). -/
  colI (c : Nat) : Fld :=
    [LED_COL_I0, LED_COL_I1, LED_COL_I2, LED_COL_I3, LED_COL_I4, LED_COL_I5, LED_COL_I6, LED_COL_I7, LED_COL_I8, LED_COL_I9,
      LED_COL_I10, LED_COL_I11].getD c LED_COL_I0

/-- Halfword `i` of buffer `b` of the daisy-chain RAM (R308). -/
def State.ldcWord (s : State) (b i : Nat) : Nat := tget s.ldcRam (1536 * b + i) 0

/-- Bits of a channel (R309). -/
def ldcBits (code : Nat) : Nat := if code = 0 then 8 else if code = 1 then 12 else 16

/-- The bits of a transfer (R305): the farthest driver first, the highest channel first, each value most significant bit first. -/
def State.ldcStream (s : State) : Nat :=
  let n := s.get LDC_CFG_N_DRV ldcPage + 1
  let ch := s.get LDC_CFG_CH ldcPage
  let w := ldcBits (s.get LDC_CFG_BITS ldcPage)
  let front := s.get LED_SWAP_FRONT ledPage
  (List.range n).reverse.foldl (fun acc d =>
    (List.range ch).reverse.foldl (fun acc c => acc * 2 ^ w + s.ldcWord front (48 * d + c) / 2 ^ (16 - w)) acc) 0

/-- The length of a transfer in clocks (R305). -/
def State.ldcLen (s : State) : Nat :=
  (s.get LDC_CFG_N_DRV ldcPage + 1) * s.get LDC_CFG_CH ldcPage * ldcBits (s.get LDC_CFG_BITS ldcPage)

/-- A transfer starts (R306). -/
def ldcStart (s : State) : State :=
  let s := { s with ldc := { s.ldc with bits := s.ldcStream, len := s.ldcLen, start := some s.tb, due := false } }
  s.put LDC_STAT2_BUSY ldcPage true

/-- A refresh falls due (R306). -/
def ldcRefresh (s : State) : State :=
  let r := s.get LDC_REFRESH ldcPage
  if s.accepts ldcPage && r != 0 && (match s.ldc.start with | some t => decide (t + r * 1000000 ≤ s.tb) | none => false) then
    if s.flag LDC_STAT2_BUSY ldcPage then { s with ldc := { s.ldc with due := true } } else ldcStart s
  else s

/-- The first clock, counted from 1, at which the returned bits differ from those of the previous transfer (R307). -/
def firstMismatch (len ret prev : Nat) : Option Nat :=
  ((List.range len).find? fun i => ret.testBit (len - 1 - i) != prev.testBit (len - 1 - i)).map (· + 1)

/-- A transfer and its latch complete (R306, R307): `ret` holds the returned bits, the first most significant. -/
def ldcEnd (s : State) (ret : Nat) : State :=
  if !s.flag LDC_STAT2_BUSY ldcPage then s
  else
    let x := s.ldc
    let judged := s.flag LDC_CFG_VERIFY ldcPage && s.flag LDC_STAT2_VERIFY_VALID ldcPage && x.prevLen = x.len
    let s := match (if judged then firstMismatch x.len ret x.prev else none) with
      | some k =>
        let s := ((s.put LDC_FAULT_LOOP_ERR ldcPage true).set LDC_ERR_POS ldcPage k).irq ldcPage 0
        let flat v := v % 2 ^ x.len == 0 || v % 2 ^ x.len == 2 ^ x.len - 1
        if flat ret && !flat x.prev then (s.put LDC_FAULT_RET_STUCK ldcPage true).irq ldcPage 1 else s
      | none => s
    let s := { s with ldc := { s.ldc with prev := x.bits, prevLen := x.len } }
    let s := (s.put LDC_STAT2_BUSY ldcPage false).put LDC_STAT2_VERIFY_VALID ldcPage true
    let s := (s.bump LDC_CNT_TRANSFERS ldcPage).irq ldcPage 2
    if s.ldc.due && s.accepts ldcPage then ldcStart s else s

/-- A write of FDATA at FADDR (R308). -/
def ldcDataWrite (v : Nat) (s : State) : State :=
  let i := s.get LDC_FADDR_INDEX ldcPage
  let b := s.get LDC_FADDR_BUF ldcPage
  let barred := b = s.get LED_SWAP_FRONT ledPage || s.flag LED_SWAP_PEND ledPage
  let s := if barred then s.reject ldcPage else { s with ldcRam := tput s.ldcRam (1536 * b + i) 0 (v % 65536) }
  s.set LDC_FADDR_INDEX ldcPage (if i = 1535 then 0 else i + 1)

/-- A read of FDATA at FADDR (R308): the state and the word read. -/
def ldcDataRead (s : State) : State × Nat :=
  let i := s.get LDC_FADDR_INDEX ldcPage
  let v := s.ldcWord (s.get LDC_FADDR_BUF ldcPage) i
  (s.set LDC_FADDR_INDEX ldcPage (if i = 1535 then 0 else i + 1), v)

/-- A write to CFG of the port ends the comparison with the transfer before (R307). -/
def ldcCfgEff (v : Nat) (s : State) : State := (plainWrite s ldcPage 0x40 v).put LDC_STAT2_VERIFY_VALID ldcPage false

/-- The source of sync events in force (R300): the frame timer while the daisy-chain port is enabled. -/
def State.syncSrc (s : State) : Nat := if s.accepts ldcPage then 0 else s.get LED_CFG_SYNC_SRC ledPage

/-- The swap of R300, with the transfer that R306 starts. -/
def ledSwap (s : State) : State :=
  let s := (s.put LED_SWAP_FRONT ledPage (!s.flag LED_SWAP_FRONT ledPage)).put LED_SWAP_PEND ledPage false
  let s := { s with led := { s.led with armed := false, postponed := false } }
  let s := (s.bump LED_CNT_SWAPS ledPage).irq ledPage 0
  if s.accepts ldcPage then ldcStart s else s

/-- A frame start swaps the buffers once a sync event has found PEND set (R300, R306, R310). -/
def ledTrySwap (s : State) : State :=
  if s.led.armed && s.flag LED_SWAP_PEND ledPage && !s.led.shed then
    if s.flag LDC_STAT2_BUSY ldcPage then
      if s.led.postponed then s else { s with led := { s.led with postponed := true } }.bump LDC_CNT_POSTPONED ldcPage
    else ledSwap s
  else s

/-- A sync event has found PEND set (R300): the swap is due from the next frame start on, one in this BCLK included. -/
def ledArm (s : State) : State :=
  let s := { s with led := { s.led with armed := true } }
  if s.led.frameTb = some s.tb then ledTrySwap s else s

/-- Whether a sync event of source `kind` may come now (R300): the frame timer's at the TB multiples of its period. -/
def State.syncDue (s : State) (kind : Nat) : Bool :=
  kind == s.syncSrc && (kind != 0 || s.tb % (max (s.get LED_FTIMER_PERIOD ledPage) 1 * 1000000) < 10)

/-- A sync event of source `kind` (R300). -/
def ledSync (s : State) (kind : Nat) : State :=
  if !s.syncDue kind then s
  else if s.flag LED_SWAP_PEND ledPage then ledArm s
  else { s with led := { s.led with missTb := some (s.tb, s.get LED_CNT_MISSED ledPage) } }.bump LED_CNT_MISSED ledPage

/-- Whether a frame may start now (R298, R302): at the TB multiples of T_frame, but that the neighbour test makes its four frames
longer. -/
def State.frameDue (s : State) : Bool := s.tb % max s.frameTime 1 < 10 || (s.led.diag != 0 && s.scanOn)

/-- A frame starts (R300, R301, R303, R306, R310). -/
def ledFrame (s : State) : State :=
  let s := if s.led.restart then ledStart { s with led := { s.led with restart := false } } else s
  ledTrySwap { s with led := { s.led with frameTb := some s.tb, tested := false, dark := s.led.hot } }

/-- The map word of element `e`. -/
def mapWord (l : List Fld) (e : Nat) : Fld := l.getD (e / 32) LED_OPEN_MAP0

/-- An element's test at the end of an on-time of at least 2 µs (R301). -/
def ledTest (s : State) (e : Nat) (isOpen isShort : Bool) : State :=
  let long := 2000 ≤ s.ledValue e * 10 * s.get LED_SCAN_DIV ledPage
  if s.scanOn && !s.led.dark && long && !bitOf (s.get LED_STAT2_LINE_LOCK ledPage) (e / 12) then
    let o := mapWord [LED_OPEN_MAP0, LED_OPEN_MAP1, LED_OPEN_MAP2, LED_OPEN_MAP3, LED_OPEN_MAP4] e
    let h := mapWord [LED_SHORT_MAP0, LED_SHORT_MAP1, LED_SHORT_MAP2, LED_SHORT_MAP3, LED_SHORT_MAP4] e
    let s := if isOpen then (s.set o ledPage (setBit (s.get o ledPage) (e % 32))).irq ledPage 2 else s
    if isShort then (s.set h ledPage (setBit (s.get h ledPage) (e % 32))).irq ledPage 3 else s
  else s

/-- A line that conducts trips (R301). -/
def ledTrip (s : State) (l : Nat) : State :=
  if s.scanOn && !s.led.dark && !bitOf (s.get LED_STAT2_LINE_LOCK ledPage) l then
    let s := s.set LED_STAT2_LINE_LOCK ledPage (setBit (s.get LED_STAT2_LINE_LOCK ledPage) l)
    (s.set LED_FAULT_LINE_OC ledPage (setBit (s.get LED_FAULT_LINE_OC ledPage) l)).irq ledPage 1
  else s

/-- The column latch sets or clears (R301): every line turns off, until the first frame start without it. -/
def ledHot (s : State) (hot : Bool) : State :=
  let was := s.led.hot
  let s := { s with led := { s.led with hot := hot, dark := s.led.dark || hot } }
  if hot && !was then (s.put LED_FAULT_COL_HOT ledPage true).irq ledPage 5 else s

/-- A neighbour-test slot, one at the end of each frame while the scan runs: bit n of `shorts` tells that pin n or n + 1 read against its pull (R302). -/
def ledDiagSlot (s : State) (shorts : Nat) : State :=
  let k := s.led.diag
  if k = 0 || (s.scanOn && s.led.tested) then s
  else
    let f := if k ≤ 2 then LED_NSHORT_LINE_SHORT else LED_NSHORT_COL_SHORT
    let s := s.set f ledPage (s.get f ledPage ||| shorts)
    let s := { s with led := { s.led with diag := if k = 4 then 0 else k + 1, tested := true } }
    if k = 4 then (s.put LED_NSHORT_DIAG_DONE ledPage true).irq ledPage 4 else s

/-- ACT.DIAG_RUN clears the results and starts the test (R302). -/
def ledDiagRun (s : State) : State :=
  let s := (s.set LED_NSHORT_LINE_SHORT ledPage 0).set LED_NSHORT_COL_SHORT ledPage 0
  let s := s.put LED_NSHORT_DIAG_DONE ledPage false
  { s with led := { s.led with diag := 1 } }

/-- ACT.LINE_CLEAR (R301). -/
def ledLineClear (v : Nat) (s : State) : State :=
  s.set LED_STAT2_LINE_LOCK ledPage (andNot (s.get LED_STAT2_LINE_LOCK ledPage) (v % 4096))

/-- A write to ACT of the LED page, all its bits (R304). -/
def ledActEff (v : Nat) (s : State) : State :=
  let s := ledLineClear v s
  let s := if bitOf v 16 then ledDiagRun s else s
  if bitOf v 17 then ledStart s else s

/-- A request in the same BCLK as a sync event that found PEND clear counts before it (R300). -/
def ledLate (s : State) : State :=
  match s.led.missTb with
  | some (t, cnt) => if t = s.tb then ledArm ({ s with led := { s.led with missTb := none } }.set LED_CNT_MISSED ledPage cnt) else s
  | none => s

/-- SWAP.REQ sets PEND (R300). -/
def ledReq (v : Nat) (s : State) : State := if v % 2 = 1 then ledLate (s.put LED_SWAP_PEND ledPage true) else s

/-- A write to a frame buffer (R299, R300): rejected for the buffer shown and while a swap is pending. -/
def ledBufEff (off v : Nat) (s : State) : State :=
  let b := 0x600 ≤ off
  if b == s.flag LED_SWAP_FRONT ledPage || s.flag LED_SWAP_PEND ledPage then s.reject ledPage else plainWrite s ledPage off v

/-! The meanings of the lighting commands. -/

/-- LED_FRAME_START (R298, R300). -/
def execLedFrameStart (s : State) : Host.Outcome State Fault Refusal := .next (if s.domOn 9 && s.frameDue then ledFrame s else s)

/-- LED_SYNC_EVENT (R300): `kind` 0 frame timer, 1 rising and 2 falling edge of LED_SYNC. -/
def execLedSyncEvent (kind : Nat) (s : State) : Host.Outcome State Fault Refusal := .next (if s.domOn 9 then ledSync s kind else s)

/-- SWAP_REQ (R300). -/
def execSwapReq (m : Master) (s : State) : Host.Outcome State Fault Refusal := .next (accessWrite s m ledPage 0x58 1 ledReq)

/-- LED_ELEMENT_TEST (R301). -/
def execLedElementTest (e : Nat) (isOpen isShort : Bool) (s : State) : Host.Outcome State Fault Refusal :=
  .next (ledTest s e isOpen isShort)

/-- LED_LINE_TRIP (R301). -/
def execLedLineTrip (l : Nat) (s : State) : Host.Outcome State Fault Refusal := .next (ledTrip s l)

/-- LINE_CLEAR (R301). -/
def execLineClear (m : Master) (v : Word) (s : State) : Host.Outcome State Fault Refusal :=
  .next (accessWrite s m ledPage 0x64 (v.toNat % 4096) ledLineClear)

/-- COL_HOT (R301). -/
def execColHot (hot : Bool) (s : State) : Host.Outcome State Fault Refusal := .next (ledHot s hot)

/-- DIAG_RUN (R302). -/
def execDiagRun (m : Master) (s : State) : Host.Outcome State Fault Refusal := .next (accessWrite s m ledPage 0x64 65536 fun _ => ledDiagRun)

/-- LED_DIAG_SLOT (R302). -/
def execLedDiagSlot (shorts : Nat) (s : State) : Host.Outcome State Fault Refusal := .next (ledDiagSlot s shorts)

/-- LED_RESTART (R303). -/
def execLedRestart (m : Master) (s : State) : Host.Outcome State Fault Refusal := .next (accessWrite s m ledPage 0x64 131072 fun _ => ledStart)

/-- LDC_REFRESH (R306). -/
def execLdcRefresh (s : State) : Host.Outcome State Fault Refusal := .next (ldcRefresh s)

/-- LDC_TRANSFER_END (R307). -/
def execLdcTransferEnd (ret : Nat) (s : State) : Host.Outcome State Fault Refusal := .next (ldcEnd s ret)

end Sys2Proof.Machine
end

