-- ==== Sys2Proof/Machine/Valve.lean ====
section
/-! DEFINITION. Valves and valve banks (R242 to R266). -/

namespace Sys2Proof.Machine

/-! States of R248. -/
def vsOff : Nat := 0
def vsDeferred : Nat := 1
def vsQueued : Nat := 2
def vsPeak : Nat := 3
def vsHold : Nat := 4
def vsRegulate : Nat := 5
def vsRamp : Nat := 6
def vsLocked : Nat := 7
def vsThermal : Nat := 8
def vsShed : Nat := 9
def vsPrime : Nat := 10

/-- State of valve `n` (R248). -/
def State.vSt (s : State) (n : Nat) : Nat := s.get VLV_CHSTAT_STATE (vPage n)

/-- Set a FAULT bit of valve `n` with its interrupt (R265). -/
def State.vFault (s : State) (n : Nat) (f : Fld) (b : Nat) : State := (s.put f (vPage n) true).irq (vPage n) b

/-- The bank that feeds valve `n` (R243). -/
def bankOf (n : Nat) : Nat := n / 2

/-- The other valve of the bank. -/
def sibling (n : Nat) : Nat := if n % 2 = 0 then n + 1 else n - 1

/-- States that conduct (R248). -/
def vConducts (st : Nat) : Bool := st == vsPeak || st == vsHold || st == vsRegulate || st == vsRamp || st == vsPrime

/-- States in which the loop regulates, once a peak has been reached (R244, R245). -/
def vHolds (st : Nat) : Bool := st == vsHold || st == vsRegulate

/-- Bring a bank's status bits up to date (R251, R266). -/
def State.showBank (s : State) (k : Nat) : State :=
  let t := (s.bk k).token
  let s := s.put VBK_STAT_TOKEN_BUSY bankPage t.isSome k
  let s := s.put VBK_STAT_TOKEN_ODD bankPage (t == some (2 * k + 1)) k
  s.put VBK_STAT_WAITING bankPage (s.vSt (2 * k) == vsDeferred || s.vSt (2 * k + 1) == vsDeferred) k

/-- A bank turns off when both valves are at rest and their currents have fallen (R243). -/
def State.bankCheck (s : State) (k : Nat) : State :=
  let rest n := let st := s.vSt n; (st == vsOff || st == vsLocked || st == vsThermal || st == vsShed) && !(s.vlv n).flowing
  if rest (2 * k) && rest (2 * k + 1) then s.put VBK_STAT_ON bankPage false k else s

/-- The peak target in mA (R245). -/
def State.peakTarget (s : State) (n : Nat) : Nat :=
  if s.get VLV_CFG_MODE (vPage n) = 1 then s.get VLV_PH_I_PEAK (vPage n) else s.get VLV_SET_I (vPage n)

/-- The regulated target in mA without dither (R245, R258, R264). -/
def State.baseTarget (s : State) (n : Nat) : Nat :=
  let p := vPage n
  let hold := s.get VLV_PH_I_HOLD p
  if s.vSt n = vsPrime then s.get VLV_PRIME_PRIME_I p
  else if s.get VLV_CFG_MODE p = 1 then hold
  else if s.flag VLV_CHSTAT_DERATED p then min (s.get VLV_SET_I p) hold else s.get VLV_SET_I p

/-- The slot whose commit valve `n`'s start is, as one plus its number (R251, R331); 0 for none. -/
def State.vCommit (s : State) (n : Nat) : Nat :=
  match (List.range 63).find? fun i => (s.slotH i).waits.contains (.valve n) with
  | some i => i + 1
  | none => 0

/-- The gate request of a valve start (R250); that of a commit which has waited for the token takes its rank from the slot's reservation
(R329). -/
def State.vEntry (s : State) (n : Nat) : GateEntry :=
  let p := s.get VLV_CFG_PRIO (vPage n)
  let i := s.vCommit n
  let e : GateEntry := { req := .valve n, rank := prioRank p, x := s.peakTarget n, h := 8, t := s.tb, prio := p }
  if i = 0 then e
  else { e with kind := .commit, slot := i, rank := if s.gate.reserves.any fun v => v.slot == i then min e.rank 2 else e.rank }

/-- What a valve keeps of a state it leaves: a current may still flow, DITHER_SAT goes with the regulation, the limitation and the
low-side's duty with the conduction, and the coil's quiet time and the freeze's turn-off begin anew (R243, R244, R255, R262). -/
def vEnter (s : State) (n st : Nat) : State :=
  let s := s.upVlv n fun x => { x with flowing := x.flowing || vConducts st, quiet := s.tb, forcedOff := false }
  let s := if vHolds st || st = vsRamp || st = vsPrime then s else s.put VLV_CHSTAT_DITHER_SAT (vPage n) false
  if vConducts st then s
  else (s.put VLV_CHSTAT_LIMITING (vPage n) false).upVlv n fun x => { x with limFrom := none, clearFrom := none, duty := 0 }

/-- Change the state of a valve. -/
def State.rawV (s : State) (n st : Nat) : State :=
  if s.vSt n = st then s
  else vEnter (((s.set VLV_CHSTAT_STATE (vPage n) st).put VLV_SPEC_PRIME (vPage n) (st == vsPrime)).irq (vPage n) 16) n st

/-- Take the peak token and enter QUEUED (R249, R251), or SHED while the valve's class is shed (R190). -/
def State.takeToken (s : State) (n : Nat) : State :=
  if s.shedding (s.get VLV_CFG_PRIO (vPage n)) then ((s.rawV n vsShed).recordShed (.valve n)).showBank (bankOf n)
  else
    let s := (s.upBk (bankOf n) fun x => { x with token := some n }).rawV n vsQueued
    (s.queueStart (s.vEntry n)).showBank (bankOf n)

/-- Release the token of valve `n`; it passes to the waiting valve (R251, R254). -/
def State.releaseToken (s : State) (n : Nat) : State :=
  let k := bankOf n
  if (s.bk k).token = some n then
    let s := s.upBk k fun x => { x with token := none }
    if s.vSt (sibling n) = vsDeferred then s.takeToken (sibling n) else s.showBank k
  else s.showBank k

/-- Change the state of a valve with what leaving QUEUED and PEAK releases (R251). -/
def State.setV (s : State) (n st : Nat) : State :=
  let s := s.rawV n st
  let s := if st = vsQueued || st = vsPeak then s.showBank (bankOf n)
    else (s.withdraw (.valve n)).releaseToken n
  s.bankCheck (bankOf n)

/-- A refusal for the bank's sake (R243, R252). -/
def State.overlapRefuse (s : State) (n : Nat) : State :=
  let s := (s.vFault n VLV_FAULT_OVERLAP_REFUSED 14).setV n vsOff
  (s.bump VBK_CNT_REFUSALS bankPage (bankOf n)).irq bankPage (4 * bankOf n + 3)

/-- Whether bank `k` is enabled (R243). -/
def State.bankEnabled (s : State) (k : Nat) : Bool := bitOf (s.get VBK_CFG_BANK_EN bankPage) k

/-- A start that finds the token held waits (R249, R252). -/
def State.vDefer (s : State) (n : Nat) : State :=
  let s := (s.upVlv n fun x => { x with waitFrom := s.tb }).rawV n vsDeferred
  (s.bump VBK_CNT_DEFERRALS bankPage (bankOf n)).showBank (bankOf n)

/-- Whether the odd valve of valve `n`'s bank took the token by asking in this BCLK, which the even valve `n` asks in too (R251). -/
def State.vTie (s : State) (n : Nat) : Bool :=
  n % 2 == 0 && (s.bk (bankOf n)).token == some (n + 1) && s.vSt (n + 1) == vsQueued && (s.vlv (n + 1)).askTb == s.tb

/-- A valve's start: refused by a disabled bank, QUEUED with the token, DEFERRED without; of two that ask in one BCLK the even valve
has the token (R243, R249, R251). -/
def vStart (s : State) (n : Nat) : State :=
  let k := bankOf n
  let s := s.upVlv n fun x => { x with fromPrime := s.vSt n == vsPrime, askTb := s.tb }
  if !s.bankEnabled k then s.overlapRefuse n
  else if (s.bk k).token.isNone then s.takeToken n
  else if s.vTie n then ((s.withdraw (.valve (n + 1))).takeToken n).vDefer (n + 1)
  else s.vDefer n

/-- Begin a ramp-down that ends in state `next` (R261). -/
def vRamp (s : State) (n next : Nat) : State :=
  let t := if s.vSt n = vsPeak then s.peakTarget n
    else if s.vSt n = vsDeferred || s.vSt n = vsQueued then 0 else s.baseTarget n
  (s.upVlv n fun x => { x with target := t * 20, per := 20, next := next }).setV n vsRamp

/-- OUT.ON written 0 while conducting (R261). -/
def vTurnOff (s : State) (n : Nat) : State := if s.flag VLV_CFG_DECAY (vPage n) then vRamp s n vsOff else s.setV n vsOff

/-- A write to OUT of a valve (R249). -/
def vOutEff (n v : Nat) (s : State) : State :=
  let st := s.vSt n
  let s := s.put VLV_OUT_ON (vPage n) (v % 2 == 1)
  if v % 2 = 1 then
    if (st = vsOff || st = vsPrime) && s.accepts (vPage n) then vStart s n else s
  else if st = vsDeferred || st = vsQueued then s.setV n vsOff
  else if st = vsPeak || vHolds st then vTurnOff s n
  else s


/-- Refusal of a valve's start by the gate (R202, R249). -/
def vRefuse (s : State) (n : Nat) : State := (s.vFault n VLV_FAULT_REFUSED 10).setV n vsOff

/-- The priming of a valve on an enabled bank is admitted (R243, R264). -/
def vPrime (s : State) (n : Nat) : State :=
  (s.put VBK_STAT_ON bankPage true (bankOf n)).setV n vsPrime

/-- The peak phase ends: HOLD or REGULATE by CFG.MODE, the token passes (R245, R249, R251). -/
def vPeakEnd (s : State) (n : Nat) : State :=
  let s := (s.upVlv n fun x => { x with ditherJ := 0 }).setV n (if s.get VLV_CFG_MODE (vPage n) = 1 then vsHold else vsRegulate)
  s.upVlv n fun x => { x with base := s.baseTarget n }

/-- Admission of a valve's start: with the low-side fully on until the peak target, while DERATED at its end at once, and refused where
the bank has been disabled since (R243, R245, R249, R258, R259, R263). -/
def vAdmit (s : State) (n : Nat) : State :=
  if !s.bankEnabled (bankOf n) then s.overlapRefuse n
  else
    let s := s.upVlv n fun x => { x with startTb := s.tb, reached := none, top := 0, dip := false, filt := 0, limFrom := none,
                                         clearFrom := none, vbSum := s.vbat, vbCnt := 1 }
    let s := (s.put VBK_STAT_ON bankPage true (bankOf n)).put VLV_RISE_DIP_SEEN (vPage n) false
    let s := ((s.setV n vsPeak).upVlv n fun x => { x with duty := 4095 }).logChan (82 + n) 0
    if s.flag VLV_CHSTAT_DERATED (vPage n) then vPeakEnd s n else s

/-- A valve turns off at once and locks (R249, R261); THERMAL stays while a latch holds. -/
def vLock (s : State) (n : Nat) (f : Valve → Valve) : State :=
  let s := s.upVlv n f
  if s.vSt n = vsThermal then s else s.setV n vsLocked

/-- Whether a lock cause of valve `n` stands. -/
def State.vLocked (s : State) (n : Nat) : Bool :=
  let x := s.vlv n
  x.lockTrip || x.lockDiag || x.lockCoil || x.lockBank || x.lockClamp

/-- Whether a thermal latch holds valve `n`: its own or its bank's (R254). -/
def State.vLatched (s : State) (n : Nat) : Bool := (s.vlv n).latch || (s.bk (bankOf n)).latch

/-- LOCKED and THERMAL end with their last cause (R249). -/
def vRelease (s : State) (n : Nat) : State :=
  let st := s.vSt n
  if (st = vsLocked || st = vsThermal) && !s.vLatched n then
    s.setV n (if s.vLocked n then vsLocked else vsOff)
  else s

/-- A trip of a valve (R262, R586). -/
def vTrip (s : State) (n : Nat) (f : Fld) (b k : Nat) : State :=
  vLock ((s.vFault n f b).logChan (82 + n) k) n fun x => { x with lockTrip := true }

/-- Whether the low-side of valve `n` is in the full-on rise of its peak phase (R245). -/
def State.vRises (s : State) (n : Nat) : Bool := s.vSt n == vsPeak && (s.vlv n).reached.isNone

/-- Whether the low-side of valve `n` works: a long clock freeze has not turned it off (R262). -/
def State.vDrives (s : State) (n : Nat) : Bool := vConducts (s.vSt n) && !(s.vlv n).forcedOff

/-- The filter restarts after 50 µs of conduction out of limitation without a break (R144), which only a low-side that is fully on
reaches, an on-phase being shorter (R244); the present stretch ends. -/
def vSettle (s : State) (n : Nat) : State :=
  let full := s.vRises n || (s.vlv n).duty == 4095
  match (s.vlv n).clearFrom with
  | some t => s.upVlv n fun x => { x with filt := if full && t + 50000 ≤ s.tb then 0 else x.filt, clearFrom := none }
  | none => s

/-- Limitation of a valve begins (R144, R262). -/
def vLimStart (s : State) (n : Nat) : State :=
  if s.vDrives n && (s.vlv n).limFrom.isNone then
    ((vSettle s n).put VLV_CHSTAT_LIMITING (vPage n) true).upVlv n fun x => { x with limFrom := some s.tb }
  else s

/-- Limitation of a valve ends (R144). -/
def vLimEnd (s : State) (n : Nat) : State :=
  match (s.vlv n).limFrom with
  | some t => (s.put VLV_CHSTAT_LIMITING (vPage n) false).upVlv n fun x =>
      { x with filt := x.filt + (s.tb - t), limFrom := none, clearFrom := some s.tb }
  | none => s

/-- A filtered trip of a valve after TFILT in limitation (R262). -/
def vFilteredTrip (s : State) (n : Nat) : State :=
  match (s.vlv n).limFrom with
  | some t =>
    if tfiltNs (s.get VLV_CFG_TFILT (vPage n)) ≤ (s.vlv n).filt + (s.tb - t) && !s.clk.frozen then vTrip s n VLV_FAULT_OC_TRIP 1 3 else s
  | none => s

/-- A fast trip of a valve (R262). -/
def vFastTrip (s : State) (n : Nat) : State := if s.vDrives n then vTrip s n VLV_FAULT_FAST_TRIP 0 2 else s

/-- The thermal latch of a valve sets (R249, R254). -/
def vLatchSet (s : State) (n : Nat) : State :=
  if (s.vlv n).latch then s
  else
    let s := ((s.put VLV_CHSTAT_TL_HOLD (vPage n) true).vFault n VLV_FAULT_THERMAL 2).logChan (82 + n) 4
    (s.upVlv n fun x => { x with latch := true }).setV n vsThermal

/-- The latch of a valve clears (R158, R249). -/
def vLatchClear (s : State) (n : Nat) : State :=
  vRelease ((s.put VLV_CHSTAT_TL_HOLD (vPage n) false).upVlv n fun x => { x with latch := false }) n

/-- The latch clears by itself with TL_AUTO at the release temperature (R158). -/
def vLatchAuto (s : State) (n : Nat) : State :=
  if (s.vlv n).latch && s.flag VLV_CFG_TL_AUTO (vPage n) && (s.vlv n).tj ≤ Config.releaseTemp then vLatchClear s n else s

/-- The temperature scale of the coil model: 2^-20 °C. -/
def coilUnit : Int := 1048576

/-- Whether t_c lies below T_DERATE by `d` K. -/
def State.coilBelow (s : State) (n : Nat) (d : Int) : Bool :=
  (s.vlv n).coil < ((s.get VLV_COIL_TH_T_DERATE (vPage n) : Int) - d) * coilUnit

/-- ACT.TL_CLR of a valve: the latch and the COIL_HOT cause; rejected while TJ is above the release temperature (R158, R258). -/
def vTlClr (n : Nat) (s : State) : Acted :=
  let x := s.vlv n
  if Config.releaseTemp < x.tj || (x.lockCoil && !s.coilBelow n 20) then (s, true)
  else if x.latch then (vLatchClear (s.upVlv n fun x => { x with lockCoil := false }) n, false)
  else (vRelease (s.upVlv n fun x => { x with lockCoil := false }) n, false)

/-- ACT.UNLOCK of a valve (R160, R262). -/
def vUnlock (n : Nat) (s : State) : Acted :=
  if 100 ≤ s.get VLV_CLAMP_FILL (vPage n) then (s, true)
  else (vRelease (s.upVlv n fun x => { x with lockClamp := false }) n, false)

/-- ACT.CLEAR of a valve: a trip lock once the thermal latch is clear, and a diagnostic lock (R262). -/
def vClear (n : Nat) (s : State) : Acted :=
  (vRelease (s.upVlv n fun x => { x with lockTrip := x.lockTrip && x.latch, lockDiag := false }) n, false)

/-- A full bucket locks a valve (R160, R262). -/
def vClampCheck (s : State) (n : Nat) : State :=
  if 400 ≤ s.get VLV_CLAMP_FILL (vPage n) && !(s.vlv n).lockClamp then
    vLock (s.vFault n VLV_FAULT_CLAMP_LOCK 7) n fun x => { x with lockClamp := true }
  else s

/-- Clamp energy reaches a valve's bucket (R175), which counts none while PD_OUT is not on (R176). -/
def vAddClamp (s : State) (n e : Nat) : State :=
  if !s.domOn 7 then s
  else ((s.clampHeat e).set VLV_CLAMP_FILL (vPage n) (satAdd 16 (s.get VLV_CLAMP_FILL (vPage n)) e)).upVlv n fun x => { x with pulse := x.pulse + e }

/-- A valve's turn-off ends with its current below 10 mA (R243, R262, R586). -/
def vTurnOffDone (s : State) (n energy : Nat) : State :=
  let s := vClampCheck (vAddClamp s n energy) n
  let e := (s.vlv n).pulse
  let s := s.upVlv n fun x => { x with pulse := 0, flowing := vConducts (s.vSt n) && x.flowing }
  let s := if e = 0 then s else s.logChan (82 + n) (6 + clampBin e 500)
  s.bankCheck (bankOf n)

/-- A 1 ms reading of a valve (R164, R165, R265). -/
def vSense (s : State) (n : Nat) (raw : Int) (tj : Nat) (phase limited : Bool) : State :=
  let p := vPage n
  let z := raw * s.get VLV_TRIM_GAIN p / 32768 + sgn 16 (s.get VLV_TRIM_OFFSET p)
  let i := min z.toNat (2 ^ 20 - 1)
  let valid := s.domOn 10 && phase
  let ext := s.flag VLV_CHSTAT_TRIM_BAD p || i < s.get VLV_TRIM_BAND_LO p * 100 || s.get VLV_TRIM_BAND_HI p * 100 < i
  let s := ((s.set VLV_SENSE_I p (if valid then i else s.get VLV_SENSE_I p)).put VLV_SENSE_VALID p valid).put VLV_SENSE_EXTRAPOLATED p ext
  let s := (s.put VLV_SENSE_LIMITED p limited).put VLV_SENSE_SPEC p (s.vSt n == vsPrime)
  let prime := s.vSt n == vsPrime
  let s := s.upVlv n fun x =>
    { x with tj := sgn 16 tj, lastI := if valid then i else x.lastI,
             preQ := if prime then x.preQ + i else x.preQ }
  s.logPeak (82 + n) (sgn 16 tj)

/-- The caldera sheds a valve: RAMP_DOWN, then SHED (R249, R261). -/
def vShed (s : State) (n : Nat) : State := vRamp s n vsShed

/-- Whether the caldera may shed valve `n` (R249). -/
def State.vSheddable (s : State) (n : Nat) : Bool :=
  let st := s.vSt n
  st == vsDeferred || st == vsQueued || st == vsPeak || vHolds st

/-- A valve that was shed is released: it starts again where OUT.ON is 1 (R249). -/
def vAgain (s : State) (n : Nat) : State :=
  if s.flag VLV_OUT_ON (vPage n) && s.accepts (vPage n) then vStart s n else s.setV n vsOff

/-- The caldera releases a valve, one that still ramps towards SHED at the ramp's end (R249; log 93). -/
def vUnshed (s : State) (n : Nat) : State :=
  if s.vSt n = vsShed then vAgain s n
  else if s.vSt n = vsRamp && (s.vlv n).next = vsShed then s.upVlv n fun x => { x with next := vsDeferred }
  else s

/-- The ramp of a valve has reached 50 mA (R261). -/
def vRampEnd (s : State) (n : Nat) : State :=
  if (s.vlv n).next = vsDeferred then vAgain s n else s.setV n (s.vlv n).next

/-- Clearing CTRL.EN of a valve page (R67, R249, R261). -/
def vDrain (s : State) (n : Nat) : State :=
  let st := s.vSt n
  if st = vsDeferred || st = vsQueued || st = vsShed then s.setV n vsOff
  else if st = vsPeak || vHolds st || st = vsPrime then vRamp s n vsOff
  else if st = vsRamp then s.upVlv n fun x => { x with next := vsOff }
  else s

/-- Whether a valve does not keep its page from IDLE (R261). -/
def vIdle (s : State) (n : Nat) : Bool := let st := s.vSt n; st == vsOff || st == vsLocked || st == vsThermal

/-- The cold rule of the coil model: t_c from CALD.HOT.T + 30 K (R257). -/
def coilCold (s : State) (n : Nat) : State :=
  let t := sgn 16 (s.get CALD_HOT_T 0x3F) * (coilUnit / 16) + 30 * coilUnit
  let s := (s.upVlv n fun x => { x with coil := t }).set VLV_N_MEAS (vPage n) 0
  (s.put VLV_CHSTAT_COIL_COLD (vPage n) true).set VLV_COIL_T (vPage n) (unsgn 16 (satSgn 16 (t * 16 / coilUnit)))

/-- What remains of a valve after SRST: its thermal latch; its coil is taken by the cold rule again (R68, R265). -/
def vSrst (s : State) (n : Nat) : State :=
  let x := s.vlv n
  let s := coilCold (s.upVlv n fun _ => { latch := x.latch, tj := x.tj, fillFr := x.fillFr, flowing := x.flowing }) n
  if x.latch || (s.bk (bankOf n)).latch then
    (s.set VLV_CHSTAT_STATE (vPage n) vsThermal).put VLV_CHSTAT_TL_HOLD (vPage n) x.latch
  else s

/-- SET.I, I_HOLD and AMP keep the regulated current within 2,500 mA, and I_PEAK lies at or above I_HOLD (R247). -/
def vShapeOk (set hold peak amp : Nat) : Bool :=
  set * (100 + amp) ≤ 250000 && hold * (100 + amp) ≤ 250000 && peak ≤ 2500 && hold ≤ peak

/-- A write to a valve register without a command of its own: the checks of R247, R264 and R265. -/
def vRegEff (n off v : Nat) (s : State) : State :=
  let p := vPage n
  let s1 := plainWrite s p off v
  let ok :=
    if off = 0x40 then s.vSt n = vsOff || s1.get VLV_CFG_MODE p = s.get VLV_CFG_MODE p
    else if off = 0x48 || off = 0x4C || off = 0x50 then
      vShapeOk (s1.get VLV_SET_I p) (s1.get VLV_PH_I_HOLD p) (s1.get VLV_PH_I_PEAK p) (s1.get VLV_DITHER_AMP p)
    else if off = 0x60 then s1.get VLV_PRIME_PRIME_I p ≤ s1.get VLV_PRIME_DROPOUT p
    else if off = 0x68 then s1.get VLV_COIL_TH_T_DERATE p < s1.get VLV_COIL_TH_T_OFF p && s1.get VLV_COIL_TH_T_OFF p ≤ 220
    else true
  if ok then s1 else s.reject p

/-- The results of a rise (R259, R260): `hit` tells whether the target was reached, with `i` the current now in mA. -/
def vDiagnose (s : State) (n i : Nat) (hit : Bool) : State :=
  let p := vPage n
  let x := s.vlv n
  let mean := x.vbSum / max x.vbCnt 1
  let rise := (s.tb - x.startTb) / 10000
  let judged := s.get VLV_DIAG_PEAK_TMAX p != 0 && 8000 ≤ mean && mean ≤ 32000 && !x.fromPrime
  let s := if hit && s.flag VLV_DIAG_DIP_EN p && !x.dip then s.vFault n VLV_FAULT_STUCK 12 else s
  let s := if hit && s.get VLV_DIAG_PEAK_TMAX p != 0 then s.set VLV_RISE_T_RISE p (min rise 65535) else s
  let lock := s.flag VLV_CFG_DIAG_LOCK p
  let s := if !judged then s
    else if hit then (if rise * mean < s.get VLV_DIAG_PEAK_TMIN p * 10 * 13500 then s.vFault n VLV_FAULT_SHORTED 8 else s)
    else if 10 * i < s.peakTarget n then s.vFault n VLV_FAULT_OPEN 11
    else s.vFault n VLV_FAULT_HIGH_RES 9
  let bad := judged && (!hit || rise * mean < s.get VLV_DIAG_PEAK_TMIN p * 10 * 13500)
  if bad && lock then vLock s n fun x => { x with lockDiag := true } else s

/-- The peak phase: the target is reached, T_PEAK ends or PEAK_TMAX ends it (R245, R259). -/
def vPeakStep (s : State) (n i : Nat) : State :=
  let p := vPage n
  let x := s.vlv n
  if s.vSt n != vsPeak then s
  else
    match x.reached with
    | some t => if t + s.get VLV_PH2_T_PEAK p * 1000000 ≤ s.tb then vPeakEnd s n else s
    | none =>
      if s.peakTarget n ≤ i then
        let s := vDiagnose (s.upVlv n fun x => { x with reached := some s.tb }) n i true
        if s.vSt n = vsPeak && (s.get VLV_CFG_MODE p = 0 || s.get VLV_PH2_T_PEAK p = 0) then vPeakEnd s n else s
      else if s.get VLV_DIAG_PEAK_TMAX p != 0 && x.startTb + s.get VLV_DIAG_PEAK_TMAX p * 100000 ≤ s.tb then
        let s := vDiagnose s n i false
        if s.vSt n = vsPeak then vPeakEnd s n else s
      else s

/-- N of R246: regulation periods per dither period, rounded. -/
def ditherN (freq : Nat) : Nat := (2 * 20000 + freq) / (2 * max freq 1)

/-- The dither offset of period `j` in 1/N mA (R246): only its amplitude `a` is truncated to whole mA. -/
def ditherOffset (shape a j n : Nat) : Int :=
  if shape = 1 then (a : Int) * (2 * (2 * (j : Int) - n).natAbs - n)
  else if shape = 2 then (if j < n / 2 then (a : Int) * n else -((a : Int) * n))
  else 0

/-- The target of the next regulation period as a fraction of a mA (R245, R246). -/
def State.vTarget (s : State) (n : Nat) : Int × Nat :=
  let p := vPage n
  let base := s.baseTarget n
  let st := s.vSt n
  if vHolds st then
    let per := max (ditherN (s.get VLV_DITHER_FREQ p)) 1
    (base * per + ditherOffset (s.get VLV_CFG_DITHER p) (base * s.get VLV_DITHER_AMP p / 100) ((s.vlv n).ditherJ % per) per, per)
  else if st = vsPeak then (s.peakTarget n, 1)
  else if st = vsRamp then ((s.vlv n).target - s.get VLV_PH2_RAMP p, 20)
  else (base, 1)

/-- Whether the loop of valve `n` regulates (R244, R245, R248). -/
def State.vRegulates (s : State) (n : Nat) : Bool :=
  let st := s.vSt n
  vHolds st || st == vsRamp || st == vsPrime || (st == vsPeak && (s.vlv n).reached.isSome)

/-- A regulation period of valve `n` (R244): the loop sets `duty` (0 to 4,095) for the next one; regulation that a long clock freeze
broke resumes (R262), and a new target ends the coil's quiet time (R255). -/
def vPeriod (s : State) (n duty : Nat) : State :=
  let p := vPage n
  if (s.tb % 50000 + 50000 - 6250 * n) % 50000 < 10 && s.vRegulates n && !s.clk.frozen then
    let cnt := max (ditherN (s.get VLV_DITHER_FREQ p)) 1
    let t := s.vTarget n
    let base := s.baseTarget n
    (s.put VLV_CHSTAT_DITHER_SAT p (duty = 0 || 4095 ≤ duty)).upVlv n fun x =>
      { x with duty := min duty 4095, ditherJ := if vHolds (s.vSt n) then (x.ditherJ + 1) % cnt else x.ditherJ,
               target := t.1.toNat, per := t.2, forcedOff := false,
               base := base, quiet := if x.base = base then x.quiet else s.tb }
  else s

/-- The limits on t_c (R258), with COIL_T brought up to date (R256). -/
def coilLimits (s : State) (n : Nat) : State :=
  let p := vPage n
  let c := (s.vlv n).coil
  let s := s.set VLV_COIL_T p (unsgn 16 (satSgn 16 (c * 16 / coilUnit)))
  let s := if !s.coilBelow n 0 then
      let s := s.put VLV_CHSTAT_DERATED p true
      if s.vSt n = vsPeak then vPeakEnd s n else s
    else if s.coilBelow n 10 then s.put VLV_CHSTAT_DERATED p false else s
  if (s.get VLV_COIL_TH_T_OFF p : Int) * coilUnit ≤ c && !(s.vlv n).lockCoil then
    vLock ((s.vFault n VLV_FAULT_COIL_HOT 13).logChan (82 + n) 5) n fun x => { x with lockCoil := true }
  else if (s.vlv n).lockCoil && s.coilBelow n 20 && s.flag VLV_CFG_TL_AUTO p then
    vRelease (s.upVlv n fun x => { x with lockCoil := false }) n
  else s

/-- Whether valve `n` may measure its coil: 10 ms in HOLD or REGULATE in which its target did not change (R255). -/
def State.coilQuiet (s : State) (n : Nat) : Bool :=
  vHolds (s.vSt n) && (s.vlv n).quiet + 10000000 ≤ s.tb && (s.vlv n).base == s.baseTarget n

/-- A coil measurement (R255, R257): `mv` over the coil and its mean current `ma`. -/
def coilMeasure (s : State) (n mv ma : Nat) : State :=
  let p := vPage n
  if s.coilQuiet n && 200 ≤ ma && s.domOn 10 then
    let s := s.upVlv n fun x => { x with quiet := s.tb }
    let r := mv * 1000 / ma
    let (shown, s) := if r < 65536 then (r, s) else s.fresh 65536
    let cnt := min (s.get VLV_N_MEAS p + 1) 15
    let s := (s.set VLV_COIL_R p shown).set VLV_N_MEAS p cnt
    if cnt < 3 then s
    else
      let ref : Int := s.get VLV_COIL_RES_REF p
      let t := 20 * coilUnit + ((r : Int) - ref) * coilUnit * 100000 / (393 * ref)
      let s := s.upVlv n fun x => { x with coil := t }
      let s := if s.flag VLV_CHSTAT_COIL_COLD p then (s.put VLV_CHSTAT_COIL_COLD p false).irq p 17 else s
      coilLimits s n
  else s

/-- The coil model's 1 ms step (R256). -/
def coilStep (s : State) (n : Nat) : State :=
  let p := vPage n
  let x := s.vlv n
  let r20 : Int := s.get VLV_COIL_RES_REF p
  let amb := sgn 16 (s.get CALD_AMB_T 0x3F) * (coilUnit / 16)
  let i : Int := if vConducts (s.vSt n) then x.lastI else 0
  let r := r20 * (100000 * coilUnit + 393 * (x.coil - 20 * coilUnit)) / (100000 * coilUnit)
  let heat := i * i * r * s.get VLV_COIL_TH_RTH p * coilUnit / 100000000000
  let d := (heat - (x.coil - amb)) / (1000 * max (s.get VLV_COIL_TH_TAU p : Int) 1)
  coilLimits (s.upVlv n fun y => { y with coil := x.coil + d }) n

/-! Banks. -/

/-- A bank trips: both valves lock with BANK_TRIP (R253). -/
def bankTrip (s : State) (k : Nat) (f : Fld) (b : Nat) : State :=
  let s := (s.put f bankPage true k).irq bankPage (4 * k + b)
  let s := (s.put VBK_STAT_LIMITING bankPage false k).upBk k fun x => { x with limFrom := none, filt := 0, tripped := true }
  s.each [2 * k, 2 * k + 1] fun s n =>
    vLock (s.vFault n VLV_FAULT_BANK_TRIP 15) n fun x => { x with lockBank := true }

/-- Limitation of a bank begins (R253). -/
def bankLimStart (s : State) (k : Nat) : State :=
  if s.flag VBK_STAT_ON bankPage k && (s.bk k).limFrom.isNone then
    (s.put VBK_STAT_LIMITING bankPage true k).upBk k fun x =>
      { x with limFrom := some s.tb, filt := match x.clearFrom with | some t => if t + 50000 ≤ s.tb then 0 else x.filt | none => x.filt }
  else s

/-- It ends (R144). -/
def bankLimEnd (s : State) (k : Nat) : State :=
  match (s.bk k).limFrom with
  | some t => (s.put VBK_STAT_LIMITING bankPage false k).upBk k fun x =>
      { x with filt := x.filt + (s.tb - t), limFrom := none, clearFrom := some s.tb }
  | none => s

/-- Whether a bank has spent TFILT in limitation (R253). -/
def State.bankFiltered (s : State) (k : Nat) : Bool :=
  match (s.bk k).limFrom with
  | some t => tfiltNs (s.get VBK_CFG_TFILT bankPage) ≤ (s.bk k).filt + (s.tb - t) && !s.clk.frozen
  | none => false

/-- A bank's trip, filtered or fast (R253). -/
def bankTripAs (s : State) (k : Nat) (fast : Bool) : State :=
  if fast then (if s.flag VBK_STAT_ON bankPage k then bankTrip s k VBK_FAULT_FAST_TRIP 0 else s)
  else if s.bankFiltered k then bankTrip s k VBK_FAULT_OC_TRIP 1 else s

/-- A bank's thermal latch sets: both valves enter THERMAL (R254). -/
def bankLatchSet (s : State) (k : Nat) : State :=
  if (s.bk k).latch then s
  else
    let s := ((s.put VBK_FAULT_THERMAL bankPage true k).irq bankPage (4 * k + 2)).upBk k fun x => { x with latch := true }
    s.each [2 * k, 2 * k + 1] fun s n => s.setV n vsThermal

/-- A bank's latch clears at the release temperature (R254). -/
def bankLatchAuto (s : State) (k : Nat) : State :=
  if (s.bk k).latch && sgn 16 (s.get VBK_TJ bankPage k) ≤ Config.releaseTemp then
    (s.upBk k fun x => { x with latch := false }).each [2 * k, 2 * k + 1] vRelease
  else s

/-- ACT.CLEAR of a bank: BANK_TRIP ends once the bank's latch is clear (R253). -/
def bankClear (k : Nat) (s : State) : Acted :=
  if (s.bk k).latch then (s, false)
  else
    let s := s.upBk k fun x => { x with tripped := false }
    (s.each [2 * k, 2 * k + 1] fun s n => vRelease (s.upVlv n fun x => { x with lockBank := false }) n, false)

/-- A 1 ms reading of a bank (R266). -/
def bankSense (s : State) (k : Nat) (raw : Int) (tj : Nat) : State :=
  (s.set VBK_SENSE_I bankPage (min raw.toNat (2 ^ 20 - 1)) k).set VBK_TJ bankPage tj k

/-! The meanings of the valve commands. -/

/-- OVERLAP_TIMEOUT (R252). -/
def execOverlapTimeout (n : Nat) (s : State) : Host.Outcome State Fault Refusal :=
  .next (if s.vSt n = vsDeferred && (s.vlv n).waitFrom + s.get VBK_CFG_OVERLAP_TMAX bankPage * 1000000 ≤ s.tb then
    s.overlapRefuse n else s)

/-- VALVE_PEAK_END (R245, R259): `i` is the coil current in mA. -/
def execValvePeakEnd (n i : Nat) (s : State) : Host.Outcome State Fault Refusal := .next (vPeakStep s n i)

/-- ARMATURE_DIP (R260): a sample `i` of the current during the full-on rise. -/
def execArmatureDip (n i : Nat) (s : State) : Host.Outcome State Fault Refusal :=
  let x := s.vlv n
  if s.vSt n = vsPeak && x.reached.isNone && s.flag VLV_DIAG_DIP_EN (vPage n) then
    let top := max x.top i
    let dip := i + s.get VLV_DIP_DEPTH (vPage n) ≤ top
    .next ((s.put VLV_RISE_DIP_SEEN (vPage n) (x.dip || dip)).upVlv n fun x => { x with top := top, dip := x.dip || dip })
  else .next s

/-- VALVE_REGULATION_PERIOD (R244, R246): `duty` is what the loop sets from the measured mean `mean`. -/
def execValveRegulationPeriod (n _mean duty : Nat) (s : State) : Host.Outcome State Fault Refusal := .next (vPeriod s n duty)

/-- COIL_MEASUREMENT (R255). -/
def execCoilMeasurement (n mv ma : Nat) (s : State) : Host.Outcome State Fault Refusal := .next (coilMeasure s n mv ma)

/-- COIL_MODEL_TICK (R256): it advances while PD_MVC is on. -/
def execCoilModelTick (n : Nat) (s : State) : Host.Outcome State Fault Refusal := .next (if s.domOn 8 then coilStep s n else s)

/-- RAMP_DOWN_END (R261). -/
def execRampDownEnd (n : Nat) (s : State) : Host.Outcome State Fault Refusal :=
  .next (if s.vSt n = vsRamp && (s.vlv n).target ≤ 1000 then vRampEnd s n else s)

/-- BANK_TRIP (R253). -/
def execBankTrip (k : Nat) (fast : Bool) (s : State) : Host.Outcome State Fault Refusal := .next (bankTripAs s k fast)

/-- VBK_ACT_CLEAR (R253). -/
def execVbkActClear (m : Master) (k : Nat) (s : State) : Host.Outcome State Fault Refusal :=
  .next (accessWrite s m bankPage (0x114 + 0x20 * k) 1 fun _ s => doAct bankPage (bankClear k s))

/-- VALVE_ACT_CLEAR (R262). -/
def execValveActClear (m : Master) (n : Nat) (s : State) : Host.Outcome State Fault Refusal :=
  .next (accessWrite s m (vPage n) 0x74 4 fun _ s => doAct (vPage n) (vClear n s))

/-- VALVE_FREEZE_TURN_OFF (R262): a clock freeze longer than one regulation period turns the low-side off. -/
def execValveFreezeTurnOff (n : Nat) (s : State) : Host.Outcome State Fault Refusal :=
  .next (if s.clk.frozen && s.clk.since + 50000 < s.tb && s.vDrives n then
    ((vSettle (vLimEnd s n) n).upVlv n fun x => { x with forcedOff := true }) else s)

/-- The clocks run again: a rise that a long freeze broke goes on; a valve that regulates resumes with its next period (R262). -/
def vThaw (s : State) (n : Nat) : State :=
  if s.vRises n && (s.vlv n).forcedOff then s.upVlv n fun x => { x with forcedOff := false, clearFrom := some s.tb } else s

/-- A reading of VBAT falls into the rise of a start (R259). -/
def vRiseVbat (s : State) (n vbat : Nat) : State :=
  if s.vRises n then s.upVlv n fun x => { x with vbSum := x.vbSum + vbat, vbCnt := x.vbCnt + 1 } else s

end Sys2Proof.Machine
end

