-- ==== Sys2Proof/Machine/Power.lean ====
section
/-! DEFINITION. Orders of power domains (R90 to R97, R100): when an order is refused, what an accepted one begins, and the
need that exempts a domain from a slot's restore (R334). -/

namespace Sys2Proof.Machine

/-- The page of PWR. -/
def pwrPage : Nat := 2

/-- Whether an HS or LS channel or a field output carries current (R94); `limp` tells whether one held by LIMPn counts. One that has
tripped in retention is off (R12, R49). -/
def State.chCarries (s : State) (c : Nat) (limp : Bool) : Bool :=
  let st := s.chSt c
  s.isOutput c && !(s.ch c).pendTrip && !(s.ch c).pendOff && (conducting st || st == stTurnOff) && (limp || !s.limpHolds c)

/-- Whether a valve carries current or primes (R94). -/
def State.vCarries (s : State) (n : Nat) : Bool := vConducts (s.vSt n) || (s.vlv n).flowing

/-- Whether any output of domain `n` carries current, other than one held on by LIMPn (R94). -/
def State.carries (s : State) (n : Nat) (limp : Bool) : Bool :=
  if n = 7 then (List.range 62).any fun c => s.chCarries c limp
  else if n = 8 then (List.range 24).any s.brFlows || (List.range 8).any s.vCarries
  else if n = 9 then (List.range 24).any fun p => s.chCarries (62 + p) limp
  else false

/-- Whether a block of domain `n` is in a clocked mode (R94). -/
def State.clocked (s : State) (n : Nat) : Bool :=
  if n = 7 then
    ((List.range 62).any fun c => s.rd (cMode c) != 0 && conducting (s.chSt c) && s.isOn c && s.rd (cEffDuty c) < 4095) ||
      s.get FER_RUN_MAP 0x6C != 0
  else if n = 8 then
    ((List.range 8).any fun v => vConducts (s.vSt v)) ||
      ((List.range 24).any fun b => s.brSt b == bsRun && s.rd (bMode b) == 1 && s.rd (bDuty b) < 4095)
  else if n = 9 then s.scanOn || s.flag LDC_STAT2_BUSY ldcPage
  else false

/-- Whether any simmer slot is not IDLE (R94, R323). -/
def State.anySlotBusy (s : State) : Bool := (List.range 63).any fun i => s.get AHD_CTX_CTRL_STATE 0x6A i != 0

/-- Whether a bus of the network keeper with CFG.EN at 1 is not ASLEEP (R427). -/
def State.busAwake (s : State) : Bool :=
  (List.range 8).any fun b => s.flag NMK_CFG_EN 0x7D b && s.get NMK_STAT_STATE 0x7D b != 5

/-- Whether the record engine is busy or a direct write is queued (R532). -/
def State.nvmBusy (s : State) : Bool :=
  (List.range 4).any (fun k => s.flag REC_STAT_BUSY 0x86 k) ||
    s.nvm.queue.any fun o => match o with | .direct _ _ _ => true | _ => false

/-- Whether a changeover is under way (R552). -/
def State.changing (s : State) : Bool := s.get CNVM_CHG_STAT_STATE 0x87 != 0

/-- Whether a verification, a signing or a SEC command is in progress (R552). -/
def State.secBusy (s : State) : Bool :=
  s.get CNVM_UPD_STAT_STATE 0x87 == 3 || s.flag ATT_STAT_BUSY 0x89 || s.flag SEC_CMD_STAT_BUSY 0x88

/-- The refusals of R283, R295, R323, R427, R532 and R552, for an order other than on. -/
def State.refusedElse (s : State) (n : Nat) : Bool :=
  let upd := s.get CNVM_UPD_STAT_STATE 0x87
  (n == 9 && (s.keepBlocks || (List.range 4).any fun g => s.flag GD_PARK_EN (0x54 + g) && s.brSt (20 + g) == bsRun)) ||
    (n == 7 && s.anySlotBusy) || (n == 3 && s.busAwake) || (n == 10 && s.nvmBusy) ||
    (n == 6 && ((1 ≤ upd && upd ≤ 3) || s.changing)) || (n == 4 && s.secBusy) || (n == 0 && s.changing)

/-- Whether PWR refuses the order `o` for domain `n` (R94, R100); outputs hold their state in retention, where they carry current too (R12). -/
def State.orderRefused (s : State) (n o : Nat) : Bool :=
  if o = 0 then n != 7 && s.order 7 == 3 && !s.domOn n
  else
    (s.domOn n && s.clocked n) || s.refusedElse n || (n == 0 && o == 3) || (2 ≤ o && s.carries n false) ||
      (n == 10 && ([7, 8, 9].any fun d => s.domOn d && s.carries d true))

/-- Begin the entry of a domain into retention or off (R97). -/
def State.beginEntry (s : State) (n o : Nat) : State :=
  let d := s.getDom n
  let t : Power := if o = 1 then .retention else .off
  if d.actual == .off || d.actual == t then s
  else s.putDom n { d with phase := .entering, target := t, wakeLatched := false }

/-- An accepted order takes effect (R90, R95, R97, R100). PD_HK's own entry waits for its halt. -/
def State.takeOrder (s : State) (n o : Nat) (halted : Bool) : State :=
  let was := s.order n
  let s := s.set PWR_DOMAIN_ORDER pwrPage o n
  let d := { s.getDom n with restore := none, prior := if (s.getDom n).latched.isSome then (s.getDom n).prior else was }
  if d.phase != .stable then s.putDom n { d with latched := some o }
  else if o = 0 then
    let s := s.putDom n { d with latched := none }
    if d.actual == .on then s
    else (if n != 7 && !s.domOn 7 then s.hwPowerUp 7 else s).requestUp n 6
  else if n = 0 && !halted then s.putDom n { d with latched := some o }
  else (s.putDom n d).beginEntry n o

/-- The order `o` for domain `n` reaches PWR: refused, or accepted and taken (R94). -/
def State.applyOrder (s : State) (n o : Nat) (halted : Bool := false) : State :=
  if s.orderRefused n o then (s.put PWR_DOMAIN_REFUSED pwrPage true n).irq pwrPage 1
  else s.takeOrder n o halted

/-- An order that was latched takes effect (R96); one that is refused by then leaves the order before it (R94). -/
def State.takeLatched (s : State) (n o : Nat) (halted : Bool) : State :=
  if s.orderRefused n o then
    ((s.set PWR_DOMAIN_ORDER pwrPage (s.getDom n).prior n).put PWR_DOMAIN_REFUSED pwrPage true n).irq pwrPage 1
  else s.takeOrder n o halted

/-- A request of another master enters the PWR request queue (R91, R93). -/
def State.orderRequest (s : State) (m n o : Nat) : State :=
  if s.reqs.length < 16 then
    let s1 : State := { s with reqs := s.reqs ++ [{ master := m, dom := n, order := o }] }
    (s1.set PWR_REQ_STAT_COUNT pwrPage s1.reqs.length).irq pwrPage 0
  else (s.put PWR_REQ_STAT_OVF pwrPage true).irq pwrPage 0

/-- A read of REQ removes the oldest request (R92): the state and the word read. -/
def pwrReqRead (s : State) : State × Nat :=
  match s.reqs with
  | [] => ((((s.set PWR_REQ_STATE pwrPage 0).set PWR_REQ_DOMAIN pwrPage 0).set PWR_REQ_MASTER pwrPage 0).put PWR_REQ_VALID pwrPage false, 0)
  | e :: q =>
    let s : State := { s with reqs := q }
    let s := ((s.set PWR_REQ_STATE pwrPage e.order).set PWR_REQ_DOMAIN pwrPage e.dom).set PWR_REQ_MASTER pwrPage e.master
    ((s.put PWR_REQ_VALID pwrPage true).set PWR_REQ_STAT_COUNT pwrPage q.length,
      e.order + e.dom * 2 ^ 16 + e.master * 2 ^ 24 + 2 ^ 31)

/-- A write to a DOMAIN register (R90, R91): ORDER and AUTOWAKE by the HK alone, the flags by anyone. -/
def domainEff (m : Master) (n v : Nat) (halted : Bool) (s : State) : State :=
  let w f (s : State) (b : Nat) := if bitOf v b then s.put f pwrPage false n else s
  let s := w PWR_DOMAIN_HW_WOKEN (w PWR_DOMAIN_WAKE_DENIED (w PWR_DOMAIN_REFUSED s 9) 10) 11
  if m = .hk then
    let s := (s.put PWR_DOMAIN_AUTOWAKE pwrPage (bitOf v 8) n).need n
    s.applyOrder n (v % 4) halted
  else s.orderRequest m.code n (v % 4)

/-- PWR_ORDER_REQUEST (R91): a write of ORDER by a master other than the HK. -/
def execPwrOrderRequest (m : Master) (n order : Nat) (s : State) : Host.Outcome State Fault Refusal :=
  .next (if m = .hk then s else accessWrite s m pwrPage (0x40 + 4 * n) order fun _ s => s.orderRequest m.code n order)

/-- PWR_REQ_READ (R92). -/
def execPwrReqRead (_m : Master) (s : State) : Host.Outcome State Fault Refusal :=
  let r := pwrReqRead s
  .next (r.1.answer .ok r.2)

end Sys2Proof.Machine
end

