-- ==== Sys2Proof/Machine/ActAhead.lean ====
section
/-! DEFINITION. The act-ahead engine (R311 to R339). Slot `i` (0 to 62) is simmer slot i + 1 of page AHD. -/

namespace Sys2Proof.Machine

/-- The page of the simmer slots. -/
def ahdPage : Nat := 0x6A

/-- The page of the trigger table and the reporting. -/
def ahtPage : Nat := 0x6B

/-- STATE of slot `i` (R312). -/
def State.slotSt (s : State) (i : Nat) : Nat := s.get AHD_CTX_CTRL_STATE ahdPage i

/-- ARM of slot `i`. -/
def State.armed (s : State) (i : Nat) : Bool := s.flag AHD_CTX_CTRL_ARM ahdPage i

/-! The fields of an action word (R313). -/
def actKind (w : Nat) : Nat := w % 16
def actTgt (w : Nat) : Nat := bitsOf w 4 7
def actCount (w : Nat) : Nat := bitsOf w 11 4
def actValue (w : Nat) : Nat := bitsOf w 15 12
def actDev (w : Nat) : Nat := bitsOf w 27 3

/-- PREPn of slot `i`. -/
def State.prepWord (s : State) (i n : Nat) : Nat := s.get ([AHD_PREP0, AHD_PREP1, AHD_PREP2, AHD_PREP3].getD n AHD_PREP0) ahdPage i

/-- COMMITn of slot `i`. -/
def State.commitWord (s : State) (i n : Nat) : Nat :=
  s.get ([AHD_COMMIT0, AHD_COMMIT1, AHD_COMMIT2, AHD_COMMIT3].getD n AHD_COMMIT0) ahdPage i

/-- The last code of the output kind of a target code; 0 for a reserved code (R313). -/
def lastCode (t : Nat) : Nat :=
  if t < 0x2E then 0x2D else if t < 0x3E then 0x3D else if t < 0x40 then 0 else if t < 0x54 then 0x53
  else if t < 0x58 then 0x57 else if t < 0x60 then 0x5F else 0

/-- The codes a word names: TARGET and the COUNT codes that follow it. -/
def namedCodes (w : Nat) : List Nat := (List.range (actCount w + 1)).map fun j => actTgt w + j

/-- The outputs that the COMMIT words of slot `i` name on device `d`, in order, each once. -/
def State.commitOutputs (s : State) (i d : Nat) : List Nat :=
  ((List.range 4).flatMap fun n =>
    let w := s.commitWord i n
    if 1 ≤ actKind w && actKind w ≤ 4 && actDev w = d then namedCodes w else []).eraseDups

/-- The outputs that PREPn of slot `i` names. -/
def State.prepOutputs (s : State) (i n : Nat) : List Nat :=
  let w := s.prepWord i n
  if actTgt w = 0x7F then s.commitOutputs i (actDev w) else namedCodes w

/-- The requester of an output's load start. -/
def tgtReq (t : Nat) : Req := if t < 0x3E then .chan t else if t < 0x58 then .bridge (t - 0x40) else .valve (t - 0x58)

/-- The class of an output. -/
def State.tgtPrio (s : State) (t : Nat) : Nat :=
  if t < 0x3E then s.prioOf t else if t < 0x58 then s.rd (bPrio (t - 0x40)) else s.get VLV_CFG_PRIO (vPage (t - 0x58))

/-- Whether an output is in OFF for a preparation; a valve that another slot primes counts as such (R335). -/
def State.tgtOff (s : State) (t : Nat) : Bool :=
  if t < 0x3E then s.chSt t == stOff else if t < 0x58 then s.brSt (t - 0x40) == bsOff
  else s.vSt (t - 0x58) == vsOff || s.vSt (t - 0x58) == vsPrime

/-- Whether a target code suits a preparation kind on this device (R314). -/
def State.prepSuits (s : State) (k t : Nat) (here : Bool) : Bool :=
  if k = 1 then t < 0x2E || (0x54 ≤ t && t < 0x58)
  else if k = 2 then t < 0x2E && (!here || s.get HS_CFG_PROFILE (chPage t) == 0)
  else if k = 3 then 0x40 ≤ t && t < 0x58 && (!here || s.lead (t - 0x40) == t - 0x40)
  else 0x58 ≤ t && t < 0x60

/-- Whether a target code suits a commit kind on this device (R315). -/
def State.commitSuits (s : State) (k t : Nat) (here : Bool) : Bool :=
  if k = 1 then t < 0x3E
  else if k = 2 then t < 0x3E || (0x58 ≤ t && t < 0x60)
  else if k = 3 then 0x40 ≤ t && t < 0x58 && (!here || s.lead (t - 0x40) == t - 0x40)
  else 0x58 ≤ t && t < 0x60

/-- Whether an output of this device is in act-ahead mode (R316). -/
def State.aheadMode (s : State) (t : Nat) : Bool :=
  if t < 0x3E then s.rd (cMode t) == 3 else if t < 0x58 then true else s.flag VLV_CFG_AHD (vPage (t - 0x58))

/-- Whether COUNT stays within the output kind of TARGET (R316). -/
def countOk (w : Nat) : Bool := actTgt w + actCount w ≤ lastCode (actTgt w)

/-- The check of R316 on PREPn. -/
def State.prepOk (s : State) (i n : Nat) : Bool :=
  let w := s.prepWord i n
  let k := actKind w
  let here := actDev w == 0
  if k = 6 then actValue w % 256 < 32
  else if k = 0 || (5 ≤ k && k ≤ 8) then true
  else if 9 ≤ k then false
  else (actTgt w == 0x7F || countOk w) &&
    (s.prepOutputs i n).all fun t => s.prepSuits k t here && (!here || s.aheadMode t)

/-- Whether a FRAME_STAGE of slot `i` names the controller and buffer of a FRAME_SEND (R316). -/
def State.staged? (s : State) (i w : Nat) : Bool :=
  (List.range 4).any fun n =>
    let p := s.prepWord i n
    actKind p == 6 && actDev p == actDev w && actTgt p % 8 == actTgt w % 8 && actValue p % 256 == actValue w % 256

/-- The check of R316 on COMMITn. -/
def State.commitOk (s : State) (i n : Nat) : Bool :=
  let w := s.commitWord i n
  let k := actKind w
  let here := actDev w == 0
  if k = 0 then true
  else if 6 ≤ k then false
  else if k = 5 then s.staged? i w
  else countOk w && (namedCodes w).all fun t => s.commitSuits k t here && (!here || s.aheadMode t)

/-- The satellite devices that slot `i` names, bit d − 1 for device d (R312). -/
def State.span (s : State) (i : Nat) : Nat :=
  ((List.range 4).flatMap fun n => [s.prepWord i n, s.commitWord i n]).foldl
    (fun m w => if actKind w = 0 || actDev w = 0 then m else m ||| (1 <<< (actDev w - 1))) 0

/-- The page of the Ashorn ring. -/
def ringPage : Nat := 0x84

/-- Whether satellite device `d` is mapped and locked. -/
def State.satLocked (s : State) (d : Nat) : Bool :=
  bitOf (s.get RING_MAP ringPage) (d - 1) && s.flag RING_SATSTAT_LOCKED ringPage (d - 1)

/-- The arming check (R316): `devOk` has bit d − 1 set when slot i of device d has ARM 0 and takes the actions that name it. -/
def State.armOk (s : State) (m : Master) (i devOk : Nat) : Bool :=
  let k := s.get AHD_CONFIRM_KIND ahdPage i
  s.slotSt i == 0 && s.get AHD_DEADLINE ahdPage i != 0 && (k < 6 || (k == 6 && m == .ring)) &&
    ((List.range 4).all fun n => s.prepOk i n && s.commitOk i n) &&
    (List.range 7).all fun d => !bitOf (s.span i) d || (s.satLocked (d + 1) && bitOf devOk d)

/-- Whether an armed slot names output `t` of this device (R318). -/
def State.named (s : State) (t : Nat) : Bool :=
  (List.range 63).any fun i => s.armed i &&
    ((s.commitOutputs i 0).contains t ||
      (List.range 4).any fun n => 1 ≤ actKind (s.prepWord i n) && actKind (s.prepWord i n) ≤ 4 && actDev (s.prepWord i n) == 0 &&
        (s.prepOutputs i n).contains t)

/-- Whether an armed slot preheats output `t` (R318). -/
def State.namedPreheat (s : State) (t : Nat) : Bool :=
  (List.range 63).any fun i => s.armed i &&
    (List.range 4).any fun n => actKind (s.prepWord i n) == 2 && actDev (s.prepWord i n) == 0 && (s.prepOutputs i n).contains t

/-- I_pre of an HS channel in mA (R314). -/
def State.iPre (s : State) (c : Nat) : Nat := s.get AHT_CFG_PREHEAT_LIMIT ahtPage * [12000, 4000, 1000].getD (chClass c) 0 / 100

/-! Preparations. -/

/-- Whether an active preparation of kind `k` holds output `t`. -/
def State.holds (s : State) (k t : Nat) : Bool := s.preps.any fun x => x.kind == k && x.tgt == t && x.st == 2

/-- Bring SPEC of output `t` up to date (R326). -/
def specShow (s : State) (t : Nat) : State :=
  let mine := s.preps.filter fun x => x.kind ≤ 4 && x.tgt == t && s.slotSt x.slot == 1
  let low := (mine.map fun x => x.slot + 1).foldl (fun a b => if a = 0 then b else min a b) 0
  let res := s.gate.reserves.any fun v => v.left.any fun x => x.1 == tgtReq t
  if t < 0x2E then
    let p := chPage t
    let s := ((s.put HS_SPEC_PREP p (!mine.isEmpty)).set HS_SPEC_SLOT p low).put HS_SPEC_RESERVED_SLOT p res
    (s.put HS_SPEC_PREHEAT p (s.ch t).preheat).put HS_SPEC_GATE_READY p (s.holds 1 t)
  else if t < 0x40 then s
  else if t < 0x54 then
    (((s.put HB_SPEC_PREP t (!mine.isEmpty)).set HB_SPEC_SLOT t low).put HB_SPEC_RESERVED_SLOT t res).put HB_SPEC_ARMED t (s.holds 3 t)
  else if t < 0x58 then
    let s := ((s.put GD_SPEC_PREP t (!mine.isEmpty)).set GD_SPEC_SLOT t low).put GD_SPEC_RESERVED_SLOT t res
    (s.put GD_SPEC_ARMED t (s.holds 3 t)).put GD_SPEC_GATE_READY t (s.holds 1 t)
  else if t < 0x60 then
    ((s.put VLV_SPEC_PREP t (!mine.isEmpty)).set VLV_SPEC_SLOT t low).put VLV_SPEC_RESERVED_SLOT t res
  else s

/-- Bring SPEC of every output of a list up to date. -/
def specAll (s : State) (l : List Nat) : State := s.each l specShow

/-- The gate requester of a preparation. -/
def Prep.req (p : Prep) : Req := .prep (p.slot + 1) (p.idx * 128 + p.tgt)

/-- Whether two entries are the same preparation. -/
def Prep.same (a b : Prep) : Bool := a.slot == b.slot && a.idx == b.idx && a.tgt == b.tgt

/-- Put a preparation into state `st`. -/
def State.setPrep (s : State) (p : Prep) (st q : Nat) : State :=
  { s with preps := s.preps.map fun x => if x.same p then { x with st := st, q := q } else x }

/-- The charge that an output's preheat or priming has drawn so far, in 0.1 mA·ms. -/
def State.prepCharge (s : State) (p : Prep) : Nat :=
  if p.kind = 2 then (s.ch p.tgt).preQ else if p.kind = 4 then (s.vlv (p.tgt - 0x58)).preQ else 0

/-- A preparation fails (R324); the charge it has drawn stays the slot's (R333). -/
def prepFail (s : State) (p : Prep) : State :=
  let s := if p.st = 2 then s.upSlot p.slot fun x => { x with drawn := x.drawn + (s.prepCharge p - p.q) } else s
  let s := s.set AHD_CTX_CTRL_PREP_FAIL ahdPage (setBit (s.get AHD_CTX_CTRL_PREP_FAIL ahdPage p.slot) p.idx) p.slot
  let s := ({ s with preps := s.preps.filter fun x => !x.same p }).withdraw p.req
  if p.kind ≤ 4 then specShow s p.tgt else s

/-- A preparation is active from now on. -/
def prepActive (s : State) (p : Prep) : State :=
  let s := s.setPrep p 2 (s.prepCharge p)
  if p.kind ≤ 4 then specShow s p.tgt else s

/-- The charge pump starts; every gate driver that waits for it is ready (R219, R223). -/
def pumpStart (s : State) : State :=
  let s := { s with gate := { s.gate with pumpOn := true, pumpAsked := true,
                                          queue := s.gate.queue.filter fun e => match e.req with | .pump _ => false | _ => true } }
  (s.preps.filter fun x => x.kind == 1 && 0x54 ≤ x.tgt && x.st == 1).foldl (fun s x => prepActive (s.withdraw x.req) x) s

/-- Whether a preparation may act on its output now (R243, R324). -/
def State.prepMay (s : State) (p : Prep) : Bool :=
  s.tgtOff p.tgt && !s.shedding (s.tgtPrio p.tgt) && (p.kind != 4 || s.bankEnabled (bankOf (p.tgt - 0x58)))

/-- A preparation's request is admitted, or one without a request acts (R314). -/
def prepAct (s : State) (p : Prep) : State :=
  if !s.prepMay p then prepFail s p
  else if p.kind = 1 then (if 0x54 ≤ p.tgt then prepActive (pumpStart s) p else prepActive s p)
  else if p.kind = 2 then prepActive (s.upCh p.tgt fun x => { x with preheat := true, specMs := true, check := 0 }) p
  else if p.kind = 3 then
    prepActive (s.upBr (p.tgt - 0x40) fun x => if x.armed then x else { x with armed := true, armSum := 0, armCnt := 0 }) p
  else prepActive (if s.vSt (p.tgt - 0x58) = vsPrime then s else vPrime s (p.tgt - 0x58)) p

/-- The gate request of a preparation: rank and deferral of CTX_CTRL.PRIO (R314, R324). -/
def State.prepEntry (s : State) (p : Prep) : GateEntry :=
  let c := s.get AHD_CTX_CTRL_PRIO ahdPage p.slot
  let (x, h) := if p.kind = 1 then (200, 4) else if p.kind = 2 then (s.iPre p.tgt, 1)
    else (s.get VLV_PRIME_PRIME_I (vPage (p.tgt - 0x58)), 2)
  { req := p.req, rank := prioRank c, x := x, h := h, t := s.tb, prio := c, slot := p.slot + 1 }

/-- The domain a preparation needs (R324). -/
def Prep.dom (p : Prep) : Option Nat :=
  if p.kind = 1 || p.kind = 2 then some (if p.tgt < 0x40 then 7 else 8)
  else if p.kind = 3 || p.kind = 4 then some 8
  else if p.kind = 5 then some 11 else if p.kind = 6 then some 3 else none

/-- Whether a DOMAIN_WAKE of slot `i` names domain `n`. -/
def State.slotWakes (s : State) (i n : Nat) : Bool :=
  (List.range 4).any fun k => actKind (s.prepWord i k) == 7 && actDev (s.prepWord i k) == 0 && bitOf (actValue (s.prepWord i k)) n

/-- Whether a power-up of domain `n` is denied (R95, R100). -/
def State.denied (s : State) (n : Nat) : Bool := s.order n == 3 || s.order 7 == 3

/-- A DOMAIN_WAKE powers domain `n` up for slot `i` (R314, R334): another slot's restore of it lapses. -/
def wakeOne (s : State) (i n : Nat) : State :=
  let s := { s with woken := s.woken.filter fun w => w.dom != n || w.slot == i }
  let d := s.getDom n
  let mine := (d.phase == .stable && d.actual != .on) || (d.phase == .entering && !d.wakeLatched)
  let prior := s.order n
  let s := s.hwPowerUp n
  if mine && !s.denied n then { s with woken := { slot := i, dom := n, prior := prior } :: s.woken } else s

/-- The power-ups of a DOMAIN_WAKE preparation. -/
def prepWake (s : State) (p : Prep) : State :=
  let doms := (List.range 12).filter fun n => bitOf p.tgt n
  let bad := doms.any fun n => !s.domOn n && s.denied n
  let s := s.each doms fun s n => wakeOne s p.slot n
  if bad then prepFail s p else prepActive s p

/-- X of a commit's load start; none for a commit that starts nothing (R195, R219, R250). -/
def State.commitX (s : State) (w t : Nat) : Option Nat :=
  let k := actKind w
  if k = 1 then some (s.chX t)
  else if k = 3 then (if driving (actValue w % 8) then some (s.brX (t - 0x40)) else none)
  else if k = 4 then some (s.peakTarget (t - 0x58)) else none

/-- The commits of slot `i` on this device that start a load, with their X. -/
def State.commitStarts (s : State) (i : Nat) : List (Req × Nat) :=
  (List.range 4).flatMap fun n =>
    let w := s.commitWord i n
    if 1 ≤ actKind w && actKind w ≤ 4 && actDev w = 0 then
      (namedCodes w).filterMap fun t => (s.commitX w t).map fun x => (tgtReq t, x)
    else []

/-- GATE_RESERVE (R204): refused when W would exceed RES_MAX. -/
def prepReserve (s : State) (p : Prep) : State :=
  let l := s.commitStarts p.slot
  let x := (l.map (·.2)).sum
  if s.get GOV_LIMIT_RES_MAX 0x3E * 1000 < s.withheld + x then prepFail (s.irq 0x3E 4) p
  else
    let s := if l.isEmpty then s else
      { s with gate := { s.gate with reserves := s.gate.reserves ++ [{ slot := p.slot + 1, amount := x, left := l }] } }
    specAll (prepActive s p) (s.commitOutputs p.slot 0)

/-- A waiting preparation whose domain is on acts or requests its admission (R324). -/
def prepStep (s : State) (p : Prep) : State :=
  match p.dom with
  | some n =>
    if !s.domOn n then (if s.slotWakes p.slot n && s.denied n then prepFail s p else s)
    else if p.kind = 5 then prepActive (immoRequest s { start := false, mask := p.tgt, slots := [p.slot + 1] }) p
    else if p.kind = 6 then prepActive (canStage s (p.tgt / 256) (p.tgt % 256)) p
    else if p.kind = 3 || (p.kind = 1 && p.tgt < 0x2E) || (p.kind = 1 && s.gate.pumpOn) then prepAct s p
    else (s.setPrep p 1 0).enqueue (s.prepEntry p)
  | none => if p.kind = 7 then prepWake s p else prepReserve s p

/-- The waiting preparation of slot `i`, word `n`, on its next target. -/
def prepWaiting (s : State) (i n : Nat) : List Prep := s.preps.filter fun p => p.slot == i && p.idx == n && p.st == 0

/-- The preparations that PREPn of slot `i` stands for on this device. -/
def State.newPreps (s : State) (i n : Nat) : List Prep :=
  let w := s.prepWord i n
  let k := actKind w
  if k = 0 || actDev w != 0 then []
  else if k ≤ 4 then (s.prepOutputs i n).map fun t => { slot := i, idx := n, kind := k, tgt := t }
  else if k = 5 then [{ slot := i, idx := n, kind := 5, tgt := actValue w % 64 }]
  else if k = 6 then [{ slot := i, idx := n, kind := 6, tgt := actTgt w % 8 * 256 + actValue w % 256 }]
  else if k = 7 then [{ slot := i, idx := n, kind := 7, tgt := actValue w }]
  else [{ slot := i, idx := n, kind := 8, tgt := 0 }]

/-- PREPn of slot `i` is issued (R324). -/
def prepIssue (s : State) (i n : Nat) : State :=
  let l := s.newPreps i n
  let s := { s with preps := s.preps ++ l }
  let s := specAll s ((l.filter fun p => p.kind ≤ 4).map (·.tgt))
  l.foldl prepStep s

/-- The gate admits a preparation's request. -/
def prepAdmit (s : State) (slot code : Nat) : State :=
  match s.preps.find? fun p => p.slot + 1 == slot && p.idx * 128 + p.tgt == code && p.kind ≤ 4 with
  | some p => prepAct s p
  | none => s

/-- The gate refuses it (R324). -/
def prepRefuse (s : State) (slot code : Nat) : State :=
  match s.preps.find? fun p => p.slot + 1 == slot && p.idx * 128 + p.tgt == code && p.kind ≤ 4 with
  | some p => prepFail s p
  | none => s

/-- Undo one preparation that has been taken from the list (R333): what another slot holds stays. -/
def prepUndo (s : State) (p : Prep) : State :=
  let s := s.withdraw p.req
  if p.kind ≤ 4 then
    let held := s.holds p.kind p.tgt
    let s :=
      if held || p.st != 2 then s
      else if p.kind = 1 then (if 0x54 ≤ p.tgt then pumpCheck s (p.tgt - 0x54) else s)
      else if p.kind = 2 then s.upCh p.tgt fun x => { x with preheat := false }
      else if p.kind = 3 then s.upBr (p.tgt - 0x40) fun x => { x with armed := false }
      else if s.vSt (p.tgt - 0x58) = vsPrime then s.setV (p.tgt - 0x58) vsOff else s
    specShow s p.tgt
  else if p.kind = 5 then (if p.st = 2 then immoDrop s (p.slot + 1) else s)
  else if p.kind = 6 then
    (if p.st = 2 && !s.holds 6 p.tgt then canUnstage s (p.tgt / 256) (p.tgt % 256) else s)
  else if p.kind = 8 then specAll (s.dropReserve (p.slot + 1)) (s.commitOutputs p.slot 0)
  else s

/-- The preparations of slot `i`. -/
def State.slotPreps (s : State) (i : Nat) : List Prep := s.preps.filter fun p => p.slot == i

/-- Energy in mJ that the preheat and prime currents of slot `i` drew (R333). -/
def State.prepEnergy (s : State) (i : Nat) : Nat :=
  ((((s.slotPreps i).filter fun p => p.st == 2).map fun p => s.prepCharge p - p.q).sum + (s.slotH i).drawn) * s.vbat / 10000000

/-! Simmer, boil and quench. -/

/-- Set slot `i`'s bit of a pair of report words (R339). -/
def setSlotBit (s : State) (lo hi : Fld) (i : Nat) : State :=
  if i < 31 then s.set lo ahtPage (setBit (s.get lo ahtPage) i) else s.set hi ahtPage (setBit (s.get hi ahtPage) (i - 31))

/-- Slot `i` returns to IDLE with ARM equal to REARM, unless it has been disarmed (R317, R331, R333). -/
def slotIdle (s : State) (i : Nat) : State :=
  let s := s.set AHD_CTX_CTRL_STATE ahdPage 0 i
  let arm := s.armed i && s.flag AHD_QUENCH_REARM ahdPage i
  let s := s.put AHD_CTX_CTRL_ARM ahdPage arm i
  s.upSlot i fun x => { x with boilAt := 0, applied := false, waits := [], admitted := false, unacked := 0, idleTb := some s.tb,
                               expired := false, started := 0, owed := 0, parts := if arm then x.parts else 0 }

/-- Return the domains that slot `i`'s DOMAIN_WAKE powered up and no one else needed (R334). -/
def restoreDomains (s : State) (i : Nat) : State :=
  let l := s.woken.filter fun w => w.slot == i
  let s := { s with woken := s.woken.filter fun w => w.slot != i }
  if s.flag AHD_QUENCH_RESTORE_DOMAINS ahdPage i then l.reverse.foldl (fun s w => s.applyOrder w.dom w.prior) s else s

/-- A quench of simmering slot `i` with cause `code` (R332 to R334). -/
def quench (s : State) (i code : Nat) : State :=
  if s.slotSt i != 1 then s
  else
    let e := s.prepEnergy i
    let l := s.slotPreps i
    let s := { s with preps := s.preps.filter fun p => p.slot != i }
    let s := l.foldl prepUndo s
    let s := s.set AHT_ENERGY ahtPage (satAdd 24 (s.get AHT_ENERGY ahtPage) e)
    let s := (s.set AHD_CTX_CTRL_QREASON ahdPage code i).bump AHD_CTX_STAT_QUENCHES ahdPage i
    let s := (setSlotBit s AHT_QUENCHED_LO AHT_QUENCHED_HI i).irq ahtPage 1
    restoreDomains (slotIdle s i) i

/-- T_a of a confirmation now (R329): the first slot that begins at least 1 µs later. -/
def State.boilTime (s : State) : Nat := (s.tb + 1000 + 249999) / 250000 * 250000

/-- A confirmation of slot `i` (R329); outside SIMMER it is ignored (R335). -/
def confirm (s : State) (i ta : Nat) : State :=
  if s.slotSt i != 1 then s
  else
    let was := s.get AHD_CTX_LAT_T_CONF ahdPage i
    let s := (s.set AHD_CTX_CTRL_STATE ahdPage 2 i).set AHD_CTX_LAT_T_CONF ahdPage (min ((s.tb - (s.slotH i).ts) / 10000) 65535) i
    let s := s.upSlot i fun x => { x with confTb := s.tb, confWas := was, boilAt := ta, applied := false, waits := [], admitted := false,
                                          expired := false, unacked := s.get AHD_CTX_CTRL_SPAN ahdPage i }
    specAll s (((s.slotPreps i).filter fun p => p.kind ≤ 4).map (·.tgt))

/-- The deadline of slot `i` has been reached (R332): a confirmation in the same BCLK still boils it (R335). -/
def deadline (s : State) (i : Nat) : State :=
  let t := (s.slotH i).ts + s.get AHD_DEADLINE ahdPage i * 1000
  if t + 10 ≤ s.tb then quench s i 1
  else if t ≤ s.tb && s.slotSt i = 1 then s.upSlot i fun x => { x with expired := true } else s

/-- Slots whose deadline the last BCLK has reached quench now that it has passed (R332, R335). -/
def deadlines (s : State) : State :=
  if s.slots.any (·.2.expired) then s.each (List.range 63) fun s i => if (s.slotH i).expired then deadline s i else s else s

/-- CANCEL (R332): also against a confirmation of the same BCLK (R335). -/
def cancel (s : State) (i : Nat) : State :=
  let x := s.slotH i
  if s.slotSt i = 2 && x.confTb = s.tb && !x.applied then
    quench ((s.set AHD_CTX_CTRL_STATE ahdPage 1 i).set AHD_CTX_LAT_T_CONF ahdPage x.confWas i) i 2
  else quench s i 2

/-- A confirmation of this device. -/
def confirmNow (s : State) (i : Nat) : State := confirm s i s.boilTime

/-- Confirm every simmering slot that `p` selects. -/
def confirmAll (s : State) (p : State → Nat → Bool) : State :=
  s.each (List.range 63) fun s i => if s.slotSt i = 1 && p s i then confirmNow s i else s

/-- Quench every simmering slot with MISS at 1 that `p` selects (R328, R332). -/
def missAll (s : State) (p : State → Nat → Bool) : State :=
  s.each (List.range 63) fun s i => if s.slotSt i = 1 && s.flag AHD_CONFIRM_MISS ahdPage i && p s i then quench s i 3 else s

/-- Whether slot `i` waits for input or pin `idx` by confirmation kind `kind` since `ts` or before (R328). -/
def State.waitsFor (s : State) (i kind idx ts : Nat) : Bool :=
  s.get AHD_CONFIRM_KIND ahdPage i == kind && s.get AHD_CONFIRM_IDX ahdPage i == idx && decide ((s.slotH i).ts ≤ ts)

/-- A park event of input `idx`, or a wake from pin `idx`, to `level` now, for confirmation kind `kind` (R328). -/
def eventConfirm (s : State) (kind idx : Nat) (level : Bool) : State :=
  confirmAll s fun s i => s.waitsFor i kind idx s.tb && s.flag AHD_CONFIRM_LEVEL ahdPage i == level

/-- An accepted transition of input or pin `idx` to `level` with timestamp `ts`, for confirmation kind `kind` (R328). -/
def levelConfirm (s : State) (kind idx ts : Nat) (level : Bool) : State :=
  let s := confirmAll s fun s i => s.waitsFor i kind idx ts && s.flag AHD_CONFIRM_LEVEL ahdPage i == level
  missAll s fun s i => s.waitsFor i kind idx ts && s.flag AHD_CONFIRM_LEVEL ahdPage i != level

/-- At the simmer start the engine reads the input's state and timestamp, and the park events and pin wakes since CTX_TS (R328). -/
def startConfirm (s : State) (i : Nat) : State :=
  let kind := s.get AHD_CONFIRM_KIND ahdPage i
  let idx := s.get AHD_CONFIRM_IDX ahdPage i
  let lev := s.flag AHD_CONFIRM_LEVEL ahdPage i
  let ts := (s.slotH i).ts
  let swi := swiPageOf idx
  let swiHit := s.domOn 9 && idx < 48 && s.flag SWI_STATE_LEVEL swi (idx % 16) == lev &&
    decide (ts ≤ s.get SWI_TS_LO swi (idx % 16) + 2 ^ 32 * s.get SWI_TS_HI swi (idx % 16))
  let since (t : Option Nat) : Bool := match t with | some t => decide (ts ≤ t) | none => false
  let park := idx < 48 && since (if lev then (s.sw idx).parkUp else (s.sw idx).parkDown)
  let wake := idx < 24 && since (if lev then (s.pin idx).wakeUp else (s.pin idx).wakeDown)
  let fioHit := s.domOn 9 && idx < 24 && s.flag FLD_STATE_LEVEL (pinPage idx) (idx % 12) == lev &&
    decide (ts ≤ s.get FLD_TS_LO (pinPage idx) (idx % 12) + 2 ^ 32 * s.get FLD_TS_HI (pinPage idx) (idx % 12))
  if (kind = 2 && (swiHit || park)) || (kind = 3 && (fioHit || wake)) then confirmNow s i else s
where
  /-- The page of switch input `n` (R286). -/
  swiPageOf (n : Nat) : Nat := 0x64 + n / 16

/-- The remote parts of slot `i` start with it (R337): for one whose device has left the ring, the wake pattern goes out and the start
frame is held. -/
def partsStart (s : State) (i : Nat) : State :=
  let l := (List.range 7).filter fun d => bitOf (s.slotH i).parts d
  let here := l.filter fun d => s.satLocked (d + 1)
  let gone := l.filter fun d => !s.satLocked (d + 1)
  let mask (l : List Nat) : Nat := l.foldl setBit 0
  let s := s.upSlot i fun x => { x with started := mask here, owed := mask gone }
  if gone.isEmpty then s else { s with ring := { s.ring with patterns := s.ring.patterns + 1 } }

/-- Device `d` + 1 has rejoined the ring: the start frames held for it go out (R337). -/
def partsRejoin (s : State) (d : Nat) : State :=
  s.each (List.range 63) fun s i =>
    if s.slotSt i = 1 && bitOf (s.slotH i).owed d then
      s.upSlot i fun x => { x with owed := clrBit x.owed d, started := setBit x.started d } else s

/-- Slot `i` enters SIMMER (R321, R324). -/
def simmer (s : State) (i src idx entry ts : Nat) : State :=
  let s := (s.set AHD_CTX_CTRL_STATE ahdPage 1 i).set AHD_CTX_TS ahdPage ts i
  let s := ((s.set AHD_TRIG_SRC ahdPage src i).set AHD_TRIG_IDX ahdPage idx i).set AHD_TRIG_ENTRY ahdPage entry i
  let s := (s.bump AHD_CTX_STAT_SIMMERS ahdPage i).set AHD_CTX_CTRL_PREP_FAIL ahdPage 0 i
  let s := partsStart (s.upSlot i fun x => { x with ts := ts, latched := none, drawn := 0 }) i
  startConfirm (s.each (List.range 4) fun s n => prepIssue s i n) i

/-- Whether HOLDOFF of slot `i` has passed (R321). -/
def State.holdoffOver (s : State) (i : Nat) : Bool :=
  match (s.slotH i).idleTb with
  | some t => t + s.get AHD_QUENCH_HOLDOFF ahdPage i * 1000000 ≤ s.tb
  | none => true

/-- Whether a trigger may start slot `i` (R321). -/
def State.mayStart (s : State) (i : Nat) : Bool :=
  s.accepts ahdPage && s.armed i && s.slotSt i == 0 && s.holdoffOver i

/-- A match that starts nothing (R321, R339). -/
def matchLost (s : State) (i result : Nat) : State :=
  let s := (s.set AHT_LAST_RESULT ahtPage result).bump AHT_CNT_LOST ahtPage
  (if s.domOn 7 && s.slotSt i != 0 then s.bump AHD_CTX_STAT_RETRIGS ahdPage i else s).irq ahtPage 3

/-- A match starts its slot, or is lost (R321). -/
def matchStart (s : State) (i src idx entry ts : Nat) : State :=
  if s.mayStart i then simmer (s.set AHT_LAST_RESULT ahtPage 0) i src idx entry ts
  else matchLost s i (if s.accepts ahdPage && s.armed i then 2 else 1)

/-- Whether entry `e` of the trigger table matches (R320, R321). -/
def State.entryMatches (s : State) (e src idx edge : Nat) : Bool :=
  s.flag AHT_EN ahtPage e && s.get AHT_SLOT ahtPage e != 0 && s.get AHT_SRC ahtPage e == src &&
    (s.get AHT_IDX ahtPage e == 0xFF || s.get AHT_IDX ahtPage e == idx) &&
    (!(src == 1 || src == 2 || src == 8) || (s.get AHT_EDGE ahtPage e &&& edge) != 0)

/-- One match of the trigger table (R321, R322): while PD_OUT is not on the slot is latched and PD_OUT powers up. -/
def tableMatch (s : State) (e src idx ts : Nat) : State :=
  let i := s.get AHT_SLOT ahtPage e - 1
  let s := (((s.bump AHT_CNT_TRIGGERS ahtPage).set AHT_LAST_SRC ahtPage src).set AHT_LAST_IDX ahtPage idx).set AHT_LAST_ENTRY ahtPage e
  if s.domOn 7 then matchStart s i src idx e ts
  else
    let s := s.hwPowerUp 7
    if s.order 7 = 3 then matchLost s i 1
    else if (s.slotH i).latched.isSome then matchLost s i 2
    else (s.set AHT_LAST_RESULT ahtPage 0).upSlot i fun x => { x with latched := some (ts, src, idx, e) }

/-- An event is offered to the trigger table (R319, R321): `edge` bit 0 closing or rising, bit 1 opening or falling. -/
def offer (s : State) (src idx edge : Nat) : State :=
  let hits := (List.range 32).filter fun e => s.entryMatches e src idx edge
  s.each hits fun s e => tableMatch s e src idx s.tb

/-- A slot latched while PD_OUT was not on starts now that it is (R322). -/
def latchedStart (s : State) (i : Nat) : State :=
  match (s.slotH i).latched with
  | some (ts, src, idx, e) =>
    if s.domOn 7 then matchStart (s.upSlot i fun x => { x with latched := none }) i src idx e ts else s
  | none => s

/-- The boil of slot `i` ends (R331). -/
def boilEnd (s : State) (i : Nat) : State :=
  let l := s.slotPreps i
  let s := { s with preps := s.preps.filter fun p => p.slot != i, woken := s.woken.filter fun w => w.slot != i }
  let s := l.foldl (fun s p => if p.kind = 5 then immoRelease s (i + 1) else prepUndo s p) (s.dropReserve (i + 1))
  let s := specAll s (s.commitOutputs i 0)
  slotIdle ((setSlotBit (s.bump AHD_CTX_STAT_BOILS ahdPage i) AHT_BOILED_LO AHT_BOILED_HI i).irq ahtPage 0) i

/-- The boil ends once no commit waits and every named device has acknowledged (R331). -/
def boilCheck (s : State) (i : Nat) : State :=
  let x := s.slotH i
  if s.slotSt i = 2 && x.applied && x.waits.isEmpty && x.unacked = 0 then boilEnd s i else s

/-- COMMIT_REFUSED of slot `i` sets (R312, R339). -/
def commitRefused (s : State) (i : Nat) : State := (s.put AHD_CTX_CTRL_COMMIT_REFUSED ahdPage true i).irq ahtPage 2

/-- The gate has decided a commit's request: reservation, T_COMMIT and the end of the boil (R204, R330, R331). -/
def commitDecided (s : State) (slot : Nat) (r : Req) (admitted : Bool) : State :=
  let i := slot - 1
  let s := s.settleReserve slot r
  if s.slotSt i = 2 && (s.slotH i).waits.contains r then
    let s := if admitted && !(s.slotH i).admitted then
        s.set AHD_CTX_LAT_T_COMMIT ahdPage (min ((s.tb - (s.slotH i).confTb) / 100) 65535) i
      else if admitted then s else commitRefused s i
    boilCheck (s.upSlot i fun x => { x with waits := x.waits.filter (· != r), admitted := x.admitted || admitted }) i
  else s

/-- A commit's request has gone from the queue undecided: the commit needs no admission any more (R331, log 82). -/
def commitGone (s : State) (slot : Nat) (r : Req) : State :=
  let i := slot - 1
  let s := s.settleReserve slot r
  if s.slotSt i = 2 && (s.slotH i).waits.contains r then
    boilCheck (s.upSlot i fun x => { x with waits := x.waits.filter (· != r) }) i
  else s

/-- Make the waiting request of `r` the commit of a slot: its rank is that of reserved commits while the reservation stands (R20,
R329). -/
def State.asCommit (s : State) (r : Req) (slot : Nat) : State :=
  match s.waiting r with
  | some e =>
    let held := s.gate.reserves.any fun v => v.slot == slot
    (s.withdraw r).enqueue { e with kind := .commit, slot := slot, rank := if held then min e.rank 2 else e.rank }
  | none => s

/-- The write of a commit to one output (R315): committed state as a core's write gives it. -/
def commitWrite (s : State) (w t : Nat) : State :=
  let k := actKind w
  let v := actValue w
  if t < 0x3E then
    let s := s.wr (cOn t) (b2n (k = 1))
    chReact (if k = 1 && v != 0 then s.wr (cDuty t) v else s) t
  else if t < 0x58 then
    let b := t - 0x40
    brOutEff b (if isGd b then 0x5C else 0x4C) (plainRead s (brPage b) (if isGd b then 0x5C else 0x4C) / 8 * 8 + v % 8) s
  else
    let n := t - 0x58
    if k = 4 then vOutEff n 1 (if v = 0 then s else vRegEff n 0x48 v s) else vOutEff n 0 s

/-- A commit of slot `i` on one output: a start it asks for waits as a commit; one to a domain that is not on is lost (R312,
R329). -/
def commitOutput (s : State) (i w t : Nat) : State :=
  let r := tgtReq t
  if !s.domOn (if t < 0x3E then 7 else 8) then (commitRefused s i).settleReserve (i + 1) r
  else
    let before := (s.waiting r).isSome
    let s := commitWrite s w t
    let deferred := 0x58 ≤ t && s.vSt (t - 0x58) = vsDeferred
    if (!before && (s.waiting r).isSome) || deferred then
      (s.asCommit r (i + 1)).upSlot i fun x => { x with waits := if x.waits.contains r then x.waits else x.waits ++ [r] }
    else if before then s
    else s.settleReserve (i + 1) r

/-- COMMITn of slot `i` applies (R329). -/
def commitApply (s : State) (i n : Nat) : State :=
  let w := s.commitWord i n
  let k := actKind w
  if k = 0 || actDev w != 0 then s
  else if k = 5 then
    if s.domOn 3 then canOffer s (actTgt w % 8) (actValue w % 256) else commitRefused s i
  else s.each (namedCodes w) fun s t => commitOutput s i w t

/-- Whether the commits of slot `i` are due: T_a has come and lower slots with the same T_a have applied theirs (R329). -/
def State.commitDue (s : State) (i : Nat) : Bool :=
  let x := s.slotH i
  s.slotSt i == 2 && !x.applied && x.boilAt ≤ s.tb && s.domOn 7 &&
    (List.range i).all fun j => s.slotSt j != 2 || (s.slotH j).applied || (s.slotH j).boilAt != x.boilAt

/-- The commits of slot `i` apply at T_a, in order (R329). -/
def boilApply (s : State) (i : Nat) : State :=
  if s.commitDue i then
    let s := s.upSlot i fun x => { x with applied := true }
    boilCheck (specAll (s.each (List.range 4) fun s n => commitApply s i n) (s.commitOutputs i 0)) i
  else s

/-- Commits that are due apply ahead of a software write to an output that arrives in the same BCLK (R17). -/
def State.commitsFirst (s : State) : State := s.each (List.range 63) boilApply

/-! Register writes of a slot. -/

/-- TRIGGER, CANCEL and CONFIRM of a CTX_CTRL write, in the order of R335. -/
def ctxCommands (i v : Nat) (s : State) : State :=
  let s := if bitOf v 29 then
      (if s.mayStart i then simmer s i 0xB 0 0 s.tb else if s.slotSt i != 0 then s.bump AHD_CTX_STAT_RETRIGS ahdPage i else s)
    else s
  let s := if bitOf v 30 then cancel s i else s
  if bitOf v 31 then confirmNow s i else s

/-- The body of a CTX_CTRL write (R312, R316, R317): the state and whether it was refused. A master's slot arms and disarms its remote
parts with itself (R336). -/
def ctxBody (m : Master) (i v devOk : Nat) (s : State) : Acted :=
  let arm := bitOf v 4
  if s.flag AHD_CTX_CTRL_REMOTE ahdPage i && m != .ring then (s, true)
  else if arm && !s.armed i && !s.armOk m i devOk then (s, true)
  else
    let s := if arm && !s.armed i then
        let s := (((s.set AHD_CTX_STAT_SIMMERS ahdPage 0 i).set AHD_CTX_STAT_BOILS ahdPage 0 i).set AHD_CTX_STAT_QUENCHES ahdPage 0 i)
        let s := (s.set AHD_CTX_STAT_RETRIGS ahdPage 0 i).set AHD_CTX_CTRL_PREP_FAIL ahdPage 0 i
        let s := (s.set AHD_CTX_CTRL_QREASON ahdPage 0 i).put AHD_CTX_CTRL_COMMIT_REFUSED ahdPage false i
        let s := s.put AHD_CTX_CTRL_REMOTE ahdPage (m == .ring && s.get AHD_CONFIRM_KIND ahdPage i == 6) i
        let s := s.upSlot i fun x => { x with parts := if m == .ring then 0 else s.span i }
        s.set AHD_CTX_CTRL_SPAN ahdPage (s.span i) i
      else if bitOf v 28 then s.put AHD_CTX_CTRL_COMMIT_REFUSED ahdPage false i else s
    let s := (s.put AHD_CTX_CTRL_ARM ahdPage arm i).set AHD_CTX_CTRL_PRIO ahdPage (bitsOf v 8 2) i
    let s := if arm then s else s.upSlot i fun x => { x with parts := 0 }
    (if arm then s else s.put AHD_CTX_CTRL_REMOTE ahdPage (s.flag AHD_CTX_CTRL_REMOTE ahdPage i && s.slotSt i != 0) i, false)

/-- A write to CTX_CTRL of slot `i`. -/
def ctxEff (m : Master) (i v devOk : Nat) (s : State) : State :=
  let r := ctxBody m i v devOk s
  if r.2 then r.1.reject ahdPage else ctxCommands i v r.1

/-- A write to another register of slot `i` (R317, R336): rejected while the slot is armed, busy or remote. -/
def slotRegEff (m : Master) (i off v : Nat) (s : State) : State :=
  if s.armed i || s.slotSt i != 0 || (s.flag AHD_CTX_CTRL_REMOTE ahdPage i && m != .ring) then s.reject ahdPage
  else plainWrite s ahdPage off v

/-- The offset of register `o` of slot `i`. -/
def slotOff (i o : Nat) : Nat := (i + 1) * 0x40 + o

/-- A write to CTX_CTRL as an access: while the page is held its commands act at once and its body waits (R335). -/
def ctxWrite (s : State) (m : Master) (i v devOk : Nat) : State :=
  if s.flag H_STAT_HELD ahdPage && s.domOn 7 then
    if s.flag AHD_CTX_CTRL_REMOTE ahdPage i && m != .ring then accessWrite s m ahdPage (slotOff i 0) v fun _ => id
    else ctxCommands i v (accessWrite s m ahdPage (slotOff i 0) (v % 2 ^ 29) fun _ => id)
  else accessWrite s m ahdPage (slotOff i 0) v fun v => ctxEff m i v devOk

/-- Clearing CTRL.EN quenches every simmering slot (R335). -/
def aheadDrain (s : State) : State := s.each (List.range 63) fun s i => quench s i 5

/-- A fast trip in preheat: it counts as one (R156, R159, R586) and ends the preheat for the rest of the simmer (R324, R327). -/
def preheatTrip (s : State) (c : Nat) : State :=
  if (s.ch c).preheat then
    let s := (s.chFault c (cfFast c) 0).upCh c fun x => { x with preheat := false, lastOc := some s.tb }
    let s := if c < 62 then s.logChan c 2 else s
    (s.preps.filter fun p => p.kind == 2 && p.tgt == c).foldl prepFail s
  else s

/-! The meanings of the act-ahead commands. -/

/-- SLOT_ARM (R316): a CTX_CTRL write with ARM at 1; `devOk` tells which satellite devices take their part. -/
def execSlotArm (m : Master) (i : Nat) (v : Word) (devOk : Nat) (s : State) : Host.Outcome State Fault Refusal :=
  .next (ctxWrite s m i (v.toNat ||| 16) devOk)

/-- TRIGGER_MATCH (R321): an event is offered to the trigger table. -/
def execTriggerMatch (src idx edge : Nat) (s : State) : Host.Outcome State Fault Refusal := .next (offer s src idx edge)

/-- PREP_ISSUE (R324): a preparation that waited for its domain. -/
def execPrepIssue (i n : Nat) (s : State) : Host.Outcome State Fault Refusal :=
  .next (if s.slotSt i = 1 then (prepWaiting s i n).foldl prepStep s else s)

/-- CTX_TRIGGER (R312). -/
def execCtxTrigger (m : Master) (i : Nat) (s : State) : Host.Outcome State Fault Refusal :=
  .next (ctxWrite s m i (plainRead s ahdPage (slotOff i 0) % 2 ^ 28 + 2 ^ 29) 0)

/-- CTX_CONFIRM (R328): a write of CTX_CTRL.CONFIRM. -/
def execCtxConfirm (m : Master) (i : Nat) (s : State) : Host.Outcome State Fault Refusal :=
  .next (ctxWrite s m i (plainRead s ahdPage (slotOff i 0) % 2 ^ 28 + 2 ^ 31) 0)

/-- CTX_CANCEL (R332). -/
def execCtxCancel (m : Master) (i : Nat) (s : State) : Host.Outcome State Fault Refusal :=
  .next (ctxWrite s m i (plainRead s ahdPage (slotOff i 0) % 2 ^ 28 + 2 ^ 30) 0)

/-- COMMIT_APPLY (R329). -/
def execCommitApply (i : Nat) (s : State) : Host.Outcome State Fault Refusal := .next (boilApply s i)

/-- SIMMER_DEADLINE (R332). -/
def execSimmerDeadline (i : Nat) (s : State) : Host.Outcome State Fault Refusal :=
  .next (deadline s i)

/-- REMOTE_SIMMER_START (R337): the frame carries the master's CTX_TS. -/
def execRemoteSimmerStart (i ts : Nat) (s : State) : Host.Outcome State Fault Refusal :=
  if s.accepts ahdPage && s.domOn 7 && s.armed i && s.flag AHD_CTX_CTRL_REMOTE ahdPage i && s.slotSt i = 0 then
    let s := simmer s i 0 0 0 ts
    .next (if ts + s.get AHD_DEADLINE ahdPage i * 1000 ≤ s.tb then quench s i 1 else s)
  else .next s

/-- COMMIT_BROADCAST_RECEIVE (R337): the broadcast confirms the remote part for T_a. -/
def execCommitBroadcastReceive (i ta : Nat) (s : State) : Host.Outcome State Fault Refusal :=
  .next (if s.flag AHD_CTX_CTRL_REMOTE ahdPage i && s.get AHD_CONFIRM_KIND ahdPage i = 6 then confirm s i ta else s)

/-- COMMIT_ACKNOWLEDGEMENT (R338): device `d` + 1 has acknowledged. -/
def execCommitAcknowledgement (i d : Nat) (s : State) : Host.Outcome State Fault Refusal :=
  .next (boilCheck (s.upSlot i fun x => { x with unacked := clrBit x.unacked d }) i)

/-- COMMIT_ACK_TIMEOUT (R338): 10 µs after T_a. -/
def execCommitAckTimeout (i : Nat) (s : State) : Host.Outcome State Fault Refusal :=
  let x := s.slotH i
  if s.slotSt i = 2 && x.unacked != 0 && x.boilAt + 10000 ≤ s.tb then
    .next (boilCheck ((commitRefused s i).upSlot i fun x => { x with unacked := 0 }) i)
  else .next s

end Sys2Proof.Machine
end

