-- ==== Sys2Proof/Machine/SwitchInput.lean ====
section
/-! DEFINITION. Switch inputs, active and cyclic (R286 to R296). -/

namespace Sys2Proof.Machine

/-- The page of switch input `n`. -/
def swiPage (n : Nat) : Nat := 0x64 + n / 16

/-- The page with the common fields, SWI0. -/
def swi0 : Nat := 0x64

/-- Whether PD_FLD is on, so that sensing is active (R287, R291). -/
def State.fldOn (s : State) : Bool := s.domOn 9

/-- Whether input `n` is enabled (R287). -/
def State.swiEnabled (s : State) (n : Nat) : Bool := s.flag SWI_CFG_EN (swiPage n) (n % 16)

/-- A 50 µs sample that differs from STATE.RAW (R289); the first sample of an input outside park sensing gives its LEVEL (R293). -/
def swiRaw (s : State) (n : Nat) (level : Bool) : State :=
  let p := swiPage n
  let i := n % 16
  if s.fldOn && s.swiEnabled n && s.flag H_CTRL_EN p && s.flag SWI_STATE_RAW p i != level then
    let first := match (s.sw n).firstUntil with | some t => decide (s.tb ≤ t) | none => false
    let s := s.put SWI_STATE_RAW p level i
    let s := if first then s.put SWI_STATE_LEVEL p level i else s
    s.upSw n fun x => { x with runFrom := s.tb, firstUntil := none,
                               wetEnd := if s.flag SWI_CFG_TIMED p i then some (s.tb + 20000000) else x.wetEnd }
  else s

/-- Whether the level `level` of input `n` has stood for DEB (R287). -/
def State.swiReady (s : State) (n : Nat) (level : Bool) : Bool :=
  let p := swiPage n
  let i := n % 16
  s.fldOn && s.swiEnabled n && s.flag H_CTRL_EN p && s.flag SWI_STATE_RAW p i == level && s.flag SWI_STATE_LEVEL p i != level &&
    (s.sw n).runFrom + max (s.get SWI_CFG_DEB p i * 100000) 50000 ≤ s.tb

/-- An accepted transition (R287). -/
def swiAccept (s : State) (n : Nat) (level : Bool) : State :=
  let p := swiPage n
  let i := n % 16
  let t := (s.sw n).runFrom
  let s := (s.put SWI_STATE_LEVEL p level i).set SWI_STATE_SEQ p (s.get SWI_STATE_SEQ p i + 1) i
  ((s.set SWI_TS_LO p t i).set SWI_TS_HI p (t / 2 ^ 32) i).irq p i

/-- Put an event into the park queue; a full queue loses it (R292). -/
def parkPush (s : State) (n : Nat) (level : Bool) : State :=
  if s.parkQ.length < 32 then
    let s1 : State := { s with parkQ := s.parkQ ++ [{ input := n, level := level, tb := s.tb }] }
    let s1 := s1.set SWI_EVT_STAT_COUNT swi0 s1.parkQ.length
    if s.parkQ.isEmpty then s1.irq swi0 16 else s1
  else if s.flag SWI_EVT_STAT_OVF swi0 then s
  else (s.put SWI_EVT_STAT_OVF swi0 true).irq swi0 17

/-- Whether CFG.WAKE of input `n` matches a change to `level` (R292). -/
def State.swiWakes (s : State) (n : Nat) (level : Bool) : Bool :=
  bitOf (s.get SWI_CFG_WAKE (swiPage n) (n % 16)) (if level then 0 else 1)

/-- A park sample of input `n` (R292): the state after it, and whether it was a park event. -/
def parkSample (s : State) (n : Nat) (level : Bool) : State × Bool :=
  let p := swiPage n
  let i := n % 16
  if s.flag SWI_STATE_PARK_LEVEL p i = level then (s.upSw n fun x => { x with parkCnt := 0 }, false)
  else if (s.sw n).parkCnt + 1 < s.get SWI_PARK_DEB swi0 then (s.upSw n fun x => { x with parkCnt := x.parkCnt + 1 }, false)
  else
    let s := (s.put SWI_STATE_PARK_LEVEL p level i).upSw n fun x =>
      { x with parkCnt := 0, parkUp := if level then some s.tb else x.parkUp, parkDown := if level then x.parkDown else some s.tb }
    (parkPush s n level, true)

/-- Whether cyclic sensing samples input `n` (R291). -/
def State.parkSensed (s : State) (n : Nat) : Bool := s.swiEnabled n && s.flag SWI_CFG_PARK (swiPage n) (n % 16)

/-- The period of cyclic sensing in ns: PARK.PERIOD to the nearest whole number of LF periods (R291). -/
def State.parkPeriod (s : State) : Nat := (s.get SWI_PARK_PERIOD swi0 * 32768 + 500) / 1000 * 1000000000 / 32768

/-- Whether AON-P senses: PD_FLD is not on, or its first power-up after a reset is to come (R291). -/
def State.senses (s : State) : Bool := s.sup.alive && (!s.fldOn || s.sup.cold)

/-- The present period of cyclic sensing: a new one when the last is over. -/
def senseTurn (s : State) : State :=
  let per := max s.parkPeriod 1
  if s.sense.start + per ≤ s.tb then { s with sense := { start := s.sense.start + (s.tb - s.sense.start) / per * per, done := 0 } } else s

/-- Whether group `g` is to pulse: at the g-th LF edge of the period, once (R291). -/
def State.senseDue (s : State) (g : Nat) : Bool := !bitOf s.sense.done g && s.sense.start + g * 1000000000 / 32768 ≤ s.tb

/-- Cyclic sensing begins: its first period starts (log 92), and PARK_LEVEL takes LEVEL (R293). -/
def parkBegin (s : State) : State :=
  ({ s with sense := { start := s.tb } } : State).each (List.range 48) fun s n =>
    (s.put SWI_STATE_PARK_LEVEL (swiPage n) (s.flag SWI_STATE_LEVEL (swiPage n) (n % 16)) (n % 16)).upSw n fun x => { x with parkCnt := 0 }

/-- Active sampling of input `n` begins after PD_FLD's power-up: with PARK at 0 its LEVEL is that of the first sample, which is RAW unless a
change of RAW follows within the sample period (R293). -/
def swiBegin (s : State) (n : Nat) : State :=
  let p := swiPage n
  let i := n % 16
  if (s.sw n).first && s.fldOn && s.swiEnabled n && s.flag H_CTRL_EN p then
    let park := s.flag SWI_CFG_PARK p i
    let s := s.upSw n fun x => { x with first := false, runFrom := s.tb, firstUntil := if park then none else some (s.tb + 50000) }
    if park then s else s.put SWI_STATE_LEVEL p (s.flag SWI_STATE_RAW p i) i
  else s

/-- PD_FLD powers up: LEVEL takes PARK_LEVEL, wetting starts, a supply limit met in park shows (R289, R293, R310). -/
def parkEnd (s : State) : State :=
  let s := s.each (List.range 48) fun s n =>
    let p := swiPage n
    let i := n % 16
    let lev := s.flag SWI_STATE_PARK_LEVEL p i
    let s := if s.flag SWI_CFG_PARK p i then (s.put SWI_STATE_LEVEL p lev i).put SWI_STATE_RAW p lev i else s
    swiBegin (s.upSw n fun x =>
      { first := true, runFrom := s.tb, parkUp := x.parkUp, parkDown := x.parkDown,
        wetEnd := if s.flag SWI_CFG_TIMED p i then some (s.tb + 20000000) else none }) n
  let s := if s.parkQ.isEmpty || bitOf (s.get H_IRQ_RAW swi0) 16 then s else s.irq swi0 16
  if s.ssupOc = 0 then s
  else ({ s with ssupOc := 0 }.set SWI_SSUP_OC swi0 (s.get SWI_SSUP_OC swi0 ||| s.ssupOc)).irq swi0 18

/-- A read of EVT removes the oldest event and loads its time (R296): the state and the word read. -/
def swiEvtRead (s : State) : State × Nat :=
  match s.parkQ with
  | [] => (((s.set SWI_EVT_INPUT swi0 0).put SWI_EVT_LEVEL swi0 false).put SWI_EVT_VALID swi0 false, 0)
  | e :: q =>
    let s := { s with parkQ := q }
    let s := (s.set SWI_EVT_STAT_COUNT swi0 q.length).set SWI_EVT_TS_LO swi0 e.tb
    let s := (s.set SWI_EVT_TS_HI swi0 (e.tb / 2 ^ 32)).set SWI_EVT_INPUT swi0 e.input
    ((s.put SWI_EVT_LEVEL swi0 e.level).put SWI_EVT_VALID swi0 true, e.input + 64 * b2n e.level + 2 ^ 31)

/-- Whether a value of SSUP.MODE names no reserved code (R296). -/
def ssupModeOk (v : Nat) : Bool := (List.range 4).all fun k => bitsOf v (2 * k) 2 != 3

/-- A write to the sense-supply register (R296, R596). -/
def ssupEff (v : Nat) (s : State) : State := if ssupModeOk v then plainWrite s swi0 0x44 v else s.reject swi0

/-- A write to CFG of input `n`: sampling may begin by it (R293). -/
def swiCfgEff (p off v : Nat) (s : State) : State :=
  let s := plainWrite s p off v
  if 0x100 ≤ off && off < 0x300 && off % 0x20 = 0 then swiBegin s (16 * (p - 0x64) + (off - 0x100) / 0x20) else s

/-- The wetting current of input `n` in mA: WET without TIMED or for 20 ms after a change, 2 mA otherwise (R289). It ends with active
sensing when CTRL.EN is cleared (log 92). -/
def State.wetting (s : State) (n : Nat) : Nat :=
  let p := swiPage n
  let i := n % 16
  if !(s.fldOn && s.swiEnabled n && s.flag H_CTRL_EN p) then 0
  else if s.flag SWI_CFG_TIMED p i && (s.sw n).wetEnd.isNone then 2
  else [2, 10, 20].getD (s.get SWI_CFG_WET p i) 20

/-- The dissipation of input `n` in µW (R290): Iw over what lies between the source or sink and the land. -/
def State.swiLoss (s : State) (n : Nat) : Nat :=
  let v := s.get SWI_VPIN (swiPage n) (n % 16)
  s.wetting n * (if s.flag SWI_CFG_TYPE (swiPage n) (n % 16) then v else s.vbat - v)

/-- The measured pin voltages in mV of every 1 ms (R296). -/
def swiVpins (s : State) (l : List Nat) : State :=
  if s.fldOn then (List.range 48).foldl (fun s n => s.set SWI_VPIN (swiPage n) (l.getD n 0) (n % 16)) s else s

/-- The AON fields of the switch-input pages, which SRST and PD_FLD's off leave as they are (R296). -/
def swiAonKey (k : Nat) : Bool :=
  let o := keyOff k
  let b := keyBit k
  (keyPage k == swi0 && (o == 0x40 || (o == 0x44 && b < 8) || (o == 0x54 && b == 8) || (o == 0x54 && b == 0))) ||
    (0x64 ≤ keyPage k && keyPage k < 0x67 && 0x100 ≤ o &&
      ((o % 0x20 == 0 && (b == 0 || b == 1 || b == 5 || b == 6)) || (o % 0x20 == 4 && b == 2)))

/-- WETTING_TIMER_END (R289). -/
def execWettingTimerEnd (n : Nat) (s : State) : Host.Outcome State Fault Refusal :=
  match (s.sw n).wetEnd with
  | some t => .next (if t ≤ s.tb then s.upSw n fun x => { x with wetEnd := none } else s)
  | none => .next s

/-- SWI_RAW_CHANGE (R289). -/
def execSwiRawChange (n : Nat) (level : Bool) (s : State) : Host.Outcome State Fault Refusal := .next (swiRaw s n level)

/-- SSUP_OVERCURRENT (R296, R310) of a supply that MODE lets drive: in park the bit waits for PD_FLD's power-up. -/
def execSsupOvercurrent (k : Nat) (s : State) : Host.Outcome State Fault Refusal :=
  if bitsOf (s.get SWI_SSUP_MODE swi0) (2 * k) 2 = 0 then .next s
  else if s.fldOn then
    let v := s.get SWI_SSUP_OC swi0
    .next (if bitOf v k then s else (s.set SWI_SSUP_OC swi0 (setBit v k)).irq swi0 18)
  else .next { s with ssupOc := setBit s.ssupOc k }

end Sys2Proof.Machine
end

