-- ==== Sys2Proof/Machine/Caldera.lean ====
section
/-! DEFINITION. The caldera: clamp buckets, wire models and fuses, ambient, package dissipation, derating and shedding (R174 to
R193), and the supply current that the gate counts (R197). -/

namespace Sys2Proof.Machine

/-- The page of the caldera. -/
def caldPage : Nat := 0x3F

/-- One degree in the unit of the thermal models, 2^-20 °C. -/
def degree : Int := 1048576

/-- e^(−x) × 2^30 for x in 2^-20. -/
def expNeg (x : Nat) : Nat :=
  let n := x / 726817
  let r := x % 726817
  let term (a : Int × Int) (k : Nat) : Int × Int :=
    let t := -(a.2 * r) / (((k + 1 : Nat) : Int) * 1048576)
    (a.1 + t, t)
  let y := (List.range 12).foldl term ((1073741824 : Int), (1073741824 : Int))
  if 40 < n then 0 else y.1.toNat / 2 ^ n

/-- A bucket (fill in 0.1 mJ and its 2^-20 fraction) after a decay to `num` / `den`. -/
def decayed (fill fr num den : Nat) : Nat × Nat :=
  let v := (fill * 1048576 + fr) * num / den
  (v / 1048576, v % 1048576)

/-! Clamp buckets. -/

/-- Decay the buckets of the domains that `sel` selects (R175, R176). -/
def decayBuckets (s : State) (sel : Nat → Bool) (num den : Nat) : State :=
  let s := s.each (List.range 86) fun s c =>
    if !sel (if c < 62 then 7 else 9) || (s.rd (cFill c) = 0 && (s.ch c).fillFr = 0) then s
    else
      let d := decayed (s.rd (cFill c)) (s.ch c).fillFr num den
      (s.wr (cFill c) d.1).upCh c fun x => { x with fillFr := d.2 }
  if !sel 8 then s
  else
  let s := s.each (List.range 20) fun s b =>
    let p := brPage b
    let h := decayed (s.get HB_CLAMP_FILL_HS p) (s.br b).fillFrHs num den
    let l := decayed (s.get HB_CLAMP_FILL_LS p) (s.br b).fillFrLs num den
    ((s.set HB_CLAMP_FILL_HS p h.1).set HB_CLAMP_FILL_LS p l.1).upBr b fun x => { x with fillFrHs := h.2, fillFrLs := l.2 }
  s.each (List.range 8) fun s n =>
    let d := decayed (s.get VLV_CLAMP_FILL (vPage n)) (s.vlv n).fillFr num den
    (s.set VLV_CLAMP_FILL (vPage n) d.1).upVlv n fun x => { x with fillFr := d.2 }

/-- Clamp locks that end by themselves (R160). -/
def autoUnlock (s : State) : State :=
  let s := s.each (List.range 86) fun s c =>
    if (s.ch c).lockClamp && s.cf (cAutoUnlock c) && 4 * s.rd (cFill c) < s.budget c then
      (s.upCh c fun x => { x with lockClamp := false }).unlockCheck c
    else s
  s.each (List.range 20) fun s b =>
    let p := brPage b
    let bud := s.get HB_CLAMP_CFG_BUDGET p
    if (s.br b).lockClamp && s.flag HB_CFG_AUTO_UNLOCK p && 4 * s.get HB_CLAMP_FILL_HS p < bud && 4 * s.get HB_CLAMP_FILL_LS p < bud then
      (s.upBr b fun x => { x with lockClamp := false }).brRelease (s.lead b)
    else s

/-! Ambient and die sensors. -/

/-- The hottest sensor and the lowest index that shows it (R193). -/
def hottest (l : List Int) : Int × Nat :=
  match l with
  | [] => (0, 0)
  | t :: r => (r.foldl (fun (a : (Int × Nat) × Nat) x => (if a.1.1 < x then (x, a.2) else a.1, a.2 + 1)) ((t, 0), 1)).1

/-- Insert a temperature into an ascending list. -/
def insTemp (x : Int) (l : List Int) : List Int :=
  match l with
  | [] => [x]
  | y :: r => if x ≤ y then x :: y :: r else y :: insTemp x r

/-- The mean of the four coolest sensors (R182). -/
def coolMean (l : List Int) : Int := ((l.foldr insTemp []).take 4).sum / 4

/-- The ambient estimate in 1/16 °C (R182). -/
def State.ambient (s : State) (l : List Int) : Int :=
  if s.flag CALD_CFG_AMB_SRC caldPage && !s.flag CALD_AMB_STALE caldPage then sgn 16 (s.get CALD_AMB_SET caldPage)
  else coolMean l - 16 * (s.get CALD_CFG_AMB_OFFSET caldPage : Int)

/-- Take the die temperatures: HOT, AMB.T and DERATE.HOT (R182, R193). -/
def takeTemps (s : State) (l : List Int) : State :=
  let h := hottest l
  let s := (s.set CALD_HOT_T caldPage (unsgn 16 h.1)).set CALD_HOT_IDX caldPage h.2
  let s := s.set CALD_AMB_T caldPage (unsgn 16 (s.ambient l))
  let hot := decide ((s.get CALD_CFG_TDIE_MAX caldPage : Int) * 16 < h.1)
  let was := s.flag CALD_DERATE_HOT caldPage
  let s := s.put CALD_DERATE_HOT caldPage hot
  if hot && !was then s.irq caldPage 3 else s

/-- AMB.T in 2^-20 °C. -/
def State.ambT (s : State) : Int := sgn 16 (s.get CALD_AMB_T caldPage) * (degree / 16)

/-! The wire model. -/

/-- r20 in µΩ/m, Rth in 0.1 K·m/W and τ in s by CSA (R177). -/
def wireConst (csa : Nat) : Nat × Nat × Nat :=
  [(52000, 160, 10), (37100, 135, 13), (24700, 110, 17), (18500, 95, 21), (12700, 78, 28), (7600, 60, 40), (4710, 48, 55),
   (3140, 39, 70), (1820, 29, 100)].getD csa (52000, 160, 10)

/-- Whether channel `c` carries current that its model sees: it conducts, or preheat flows (R178). -/
def State.chFlows (s : State) (c : Nat) : Bool := conducting (s.chSt c) || (s.ch c).preheat

/-- i_on of channel `c` in 0.1 mA (R178, R188): SENSE.I, and without a valid reading the last valid one (log 81). -/
def State.iOn (s : State) (c : Nat) : Nat :=
  if !s.chFlows c then 0 else if s.cf (cSenseValid c) then s.rd (cSense c) else (s.ch c).lastI

/-- The current that the wire model takes: after 100 ms of flow without a valid reading the active limit (R179). -/
def State.iWire (s : State) (c : Nat) : Nat :=
  if s.chFlows c && !s.cf (cSenseValid c) && (s.ch c).lastTb + 100000000 < s.tb then s.activeLimit c else s.iOn c

/-- d × 4,095 of channel `c` (R178). -/
def State.dOn (s : State) (c : Nat) : Nat := if (s.ch c).preheat then 4095 else s.rd (cEffDuty c)

/-- The time in µs that an estimate covers: 1 ms, and after a clock freeze what has elapsed since the last one (R85, R178). -/
def State.estUs (s : State) : Nat := if s.cald.froze then (s.tb - s.cald.estTb) / 1000 else 1000

/-- The wire's time step over `us` µs in 2^-20 °C (R178). -/
def State.wireStep (s : State) (us c : Nat) : Int :=
  let (r20, rth, tau) := wireConst (s.get HS_WIRE_CSA (chPage c))
  let len : Int := max (s.get HS_WIRE_LEN (chPage c)) 1
  let t := (s.ch c).wire
  let i : Int := s.iWire c
  let r := (r20 : Int) * (100000 * degree + 393 * (t - 20 * degree))
  let heat := i * i * (s.dOn c : Int) * r * rth / (4095 * 100000 * 1000000000000000)
  (heat - (len + 3) * (t - s.ambT) / len) * us / (1000000 * (tau : Int))

/-- The steady-state temperature of the wire at reading `i` (R181); none where no steady state exists. -/
def State.wireSteady (s : State) (c i : Nat) : Option Int :=
  let (r20, rth, _) := wireConst (s.get HS_WIRE_CSA (chPage c))
  let len : Int := max (s.get HS_WIRE_LEN (chPage c)) 1
  -- A = i² × r20 × rth / k in K, as num / den
  let num : Int := (i : Int) * i * r20 * rth * len
  let den : Int := 1000000000000000 * (len + 3)
  if den * 100000 ≤ num * 393 then none
  else some (s.ambT + num * (100000 * degree + 393 * (s.ambT - 20 * degree)) / (den * 100000 - num * 393))

/-- Take a wire to the steady state at reading `i` if that is hotter (R181). -/
def wireRaise (s : State) (c i : Nat) : State :=
  s.upCh c fun x => { x with wire := max x.wire ((s.wireSteady c i).getD ((s.tIns c : Int) * degree)) }

/-- e^(−k Δt / τ) × 2^30 of a wire over `dt` ns (R181). -/
def State.wireCool (s : State) (c dt : Nat) : Int :=
  let tau := (wireConst (s.get HS_WIRE_CSA (chPage c))).2.2
  let len := max (s.get HS_WIRE_LEN (chPage c)) 1
  expNeg ((len + 3) * dt / len * 1048576 / (tau * 1000000000))

/-- The first estimate after PD_OUT's power-up: the cold rule, or cooling over the gap (R24, R181, R182). -/
def wireFirst (s : State) : State :=
  let s1 := if s.cald.firstEst then
      s.each (List.range 46) fun s c => s.upCh c fun x => { x with wire := s.ambT + 20 * degree }
    else
      match s.cald.gap with
      | some dt => s.each (List.range 46) fun s c =>
          let s := s.upCh c fun x => { x with wire := s.ambT + (x.wire - s.ambT) * s.wireCool c dt / 1073741824 }
          match (s.ch c).gapI with
          | some i => wireRaise (s.upCh c fun x => { x with gapI := none }) c i
          | none => s
      | none => s
  { s1 with cald := { s1.cald with firstEst := false, gap := none } }

/-- Show WIRE_T, log its peak and fire the fuse of a channel that conducts, in preheat too (R156, R178, R180, R588). -/
def wireShow (s : State) (c : Nat) : State :=
  let t := (s.ch c).wire * 16 / degree
  let s := (s.wr (cWireT c) (unsgn 16 (satSgn 16 t))).logPeak c (satSgn 16 t)
  if s.cf (cFuseEn c) && s.chFlows c && (s.tIns c : Int) * 16 ≤ t then
    ((s.chFault c (cfFuse c) 8).logChan c 5).turnOff c .fuse
  else s

/-- The wires' update (R178). -/
def wireTick (s : State) (us : Nat) : State :=
  s.each (List.range 46) fun s c => wireShow (s.upCh c fun x => { x with wire := x.wire + s.wireStep us c }) c

/-! Package dissipation, in µW. -/

/-- RON(T) in mΩ × 160,000 for a typical value in mΩ and T in 1/16 °C (R189). -/
def ronT (typ : Nat) (t : Int) : Nat := ((typ : Int) * (12000 * 16 + 64 * (t - 400))).toNat

/-- Conduction loss of a current in 0.1 mA through RON(T) (R188). -/
def condLoss (i typ : Nat) (t : Int) : Nat := i * i * ronT typ t / (160000 * 100000)

/-- The switching loss of R188: frequency in Hz, VBAT in mV, current in 0.1 mA, slew in 0.1 V/µs. -/
def switchLoss (f vb i slew : Nat) : Nat := 2 * f * vb * vb * i / (6000000000 * max slew 1)

/-- Typical on-resistance of an HS or LS channel in mΩ (R135, R169). -/
def chRon (c : Nat) : Nat := [6, 25, 100, 1000].getD (chClass c) 1000

/-- Estimated dissipation of a channel (R188, R275, R327); one that is fully on in a switching mode has no switching term (log 85). -/
def State.chLoss (s : State) (c : Nat) : Nat :=
  if c < 62 then
    let i := s.iOn c
    let cond := i * i * s.dOn c / 4095 * ronT (chRon c) (sgn 16 (s.rd (cTj c))) / (160000 * 100000)
    let sw := if conducting (s.chSt c) && s.rd (cMode c) != 0 && s.rd (cEffDuty c) < 4095 then
      switchLoss (s.rd (cFreq c)) s.vbat i (slew10 (s.rd (cSlew c))) else 0
    let pre := if (s.ch c).preheat then (s.vbat - s.rd (cVout c)) * i / 10 else 0
    cond + sw + pre
  else if s.isOutput c then
    (if conducting (s.chSt c) then condLoss (s.rd (cSense c) * 10) 500 (sgn 16 (s.rd (cTj c))) else 0)
  else s.rd (cVout c) * 29

/-- The switching term of a bridge in PWM: with the SLEW of the half that switches, while the duty in effect makes it switch (R220). -/
def State.brSwitchLoss (s : State) (b : Nat) : Nat :=
  let x := s.br b
  match s.brSwitching b with
  | some h => if 0 < x.duty && x.duty < 4095 then switchLoss x.freq s.vbat x.lastI (slew10 (s.get HB_CFG_SLEW (brPage h))) else 0
  | none => 0

/-- Estimated dissipation of a bridge, seen from its lead (R220). -/
def State.brLoss (s : State) (b : Nat) : Nat :=
  let st := s.brSt b
  let pwm := st = bsRun && s.rd (bMode b) = 1
  let x := s.br b
  if isGd b then (if s.cf (bEn b) then (if pwm && 0 < x.duty && x.duty < 4095 then 150000 else 50000) else 0)
  else if s.lead b != b then 0
  else
    let i := x.lastI
    let typ := if b < 12 then 60 else 300
    let ron h := condLoss i (if h < 12 then 60 else 300) (sgn 16 (s.get HB_TJ (brPage h)))
    let cond := if (s.partner b).isSome then
        (if st = bsRun || st = bsBrake || st = bsDirBrake then ((s.halves b).map ron).sum else 0)
      else if st = bsRun then condLoss i typ (sgn 16 (s.get HB_TJ (brPage b))) else 0
    cond + (if pwm then s.brSwitchLoss b else 0)

/-- Estimated dissipation of a valve (R263); a low-side whose duty is 0 or 1 does not switch (log 93). -/
def State.vLoss (s : State) (n : Nat) : Nat :=
  if vConducts (s.vSt n) then
    let x := s.vlv n
    let d := if x.forcedOff then 0 else x.duty
    condLoss x.lastI 150 x.tj * d / 4095 + condLoss x.lastI 200 x.tj * (4095 - d) / 4095 +
      (if s.vRegulates n && 0 < d && d < 4095 then switchLoss 20000 s.vbat x.lastI 20 else 0)
  else 0

/-- The dissipation in µW of sense supplies, each with its current in 0.1 mA and the temperature of its stage in 1/16 °C (R290). -/
def ssupLoss (l : List (Nat × Int)) : Nat := (l.map fun x => condLoss x.1 5000 x.2).sum

/-- The dissipation in µW of the LED matrix (R290, R297): line currents in 0.1 mA with their temperatures, and each column's mean of
i_col × V_col in µW. -/
def ledLoss (lines : List (Nat × Int)) (cols : List Nat) : Nat := (lines.map fun x => condLoss x.1 500 x.2).sum + cols.sum

/-- P_EST (R188, R290): `other` holds the terms of sense supplies and the LF input power (R436), `led` those of the matrix. -/
def State.pEst (s : State) (other led : Nat) : Nat :=
  800000 + other + led + ((List.range 48).map s.swiLoss).sum + s.cald.clampMs * 100000000 / max s.estUs 1 + ((List.range 86).map s.chLoss).sum + ((List.range 24).map s.brLoss).sum +
    ((List.range 8).map s.vLoss).sum + (if s.gate.pumpOn then 100000 else 0) +
    (if s.flag H_CTRL_EN ldcPage then 20000 else 0) +
    ((List.range 4).map fun k => if s.flag VBK_STAT_ON bankPage k then
      condLoss (s.get VBK_SENSE_I bankPage k) 50 (sgn 16 (s.get VBK_TJ bankPage k)) else 0).sum

/-! The supply current (R197), in mA. -/

/-- The contribution of a stage's latest reading in 0.1 mA. -/
def State.chCurrent (s : State) (c : Nat) : Nat :=
  if c < 62 then (if s.cf (cSenseValid c) || s.chFlows c then (s.ch c).lastC else 0)
  else if s.isOutput c then s.rd (cSense c) * 10 else 0

/-- The contribution of a bridge: its lead's reading while it draws from VBAT. -/
def State.brCurrent (s : State) (b : Nat) : Nat :=
  if s.lead b = b && (s.brSt b = bsRun || s.brSt b = bsReversing) then
    (if isGd b then (s.br b).lastI * 10 else (s.br b).lastI) else 0

/-- I_TOTAL of R197 in mA; stages are summed in 0.1 mA and the sum is cut to whole mA once (log 85). -/
def State.iTotal (s : State) : Nat :=
  100 + s.cald.auxI + s.cald.ringI + s.get ACC_MEAS_I_VLF 0x82 +
    (((List.range 86).map s.chCurrent).sum + ((List.range 24).map s.brCurrent).sum +
      ((List.range 4).map fun k => if s.flag VBK_STAT_ON bankPage k then s.get VBK_SENSE_I bankPage k else 0).sum) / 10

/-- Show I_TOTAL; the interrupt of GOV when it comes to exceed BATT_IMAX (R206). -/
def showTotal (s : State) : State :=
  let i := s.iTotal
  let above := decide (s.get GOV_LIMIT_BATT_IMAX 0x3E * 1000 < i)
  let was := s.cald.overI
  let s := { s with cald := { s.cald with overI := above } }.set GOV_I_TOTAL 0x3E (min (i / 10) 65535)
  if above && !was then s.irq 0x3E 2 else s

/-! Derating and shedding. -/

/-- The cap register of class Pc. -/
def capFld (p : Nat) : Fld := if p = 1 then CALD_CAPS_P1 else if p = 2 then CALD_CAPS_P2 else CALD_CAPS_P3

/-- The stages that class Pc offers for shedding, in ascending page order, with their dissipation (R190). -/
def State.shedList (s : State) (p led : Nat) : List (Req × Nat) :=
  let chans (l : List Nat) := (l.filter fun c => (conducting (s.chSt c) || s.chSt c == stQueued) && s.prioOf c == p).map fun c => (Req.chan c, s.chLoss c)
  chans (List.range 46) ++
    (((List.range 24).filter fun b => s.lead b == b && (s.brSt b == bsQueued || s.brSt b == bsRun || s.brSt b == bsDirBrake) && s.rd (bPrio b) == p).map
      fun b => (Req.bridge b, s.brLoss b)) ++
    (((List.range 8).filter fun n => s.vSheddable n && s.get VLV_CFG_PRIO (vPage n) == p).map fun n => (Req.valve n, s.vLoss n)) ++
    chans ((List.range 40).map (· + 46)) ++
    (if (s.scanOn || (s.waiting .led).isSome) && s.get LED_CFG_PRIO ledPage == p then [(Req.led, led)] else [])

/-- The stage with the largest dissipation, the first of equals (R190). -/
def worst (l : List (Req × Nat)) : Option Req :=
  (l.foldl (fun (a : Option (Req × Nat)) x => match a with | some y => if y.2 < x.2 then some x else a | none => some x) none).map (·.1)

/-- Shed one stage (R190, R214, R249, R303). -/
def shedUnit (s : State) (u : Req) : State :=
  (match u with
    | .chan c => chShed s c
    | .bridge b => brShed s b
    | .valve n => vShed s n
    | .led => ledShed s
    | _ => s).recordShed u

/-- Release one stage (R192). -/
def unshedUnit (s : State) (u : Req) : State :=
  match u with
  | .chan c => chUnshed s c
  | .bridge b => brUnshed s b
  | .valve n => vUnshed s n
  | .led => ledUnshed s
  | _ => s

/-- The stage of R190 that an action belongs to. -/
def Derate.stage (s : State) (d : Derate) : Nat :=
  match d with
  | .cap cls _ => 7 - 2 * cls
  | .shed u => shedStage (match u with
      | .chan c => s.rd (cPrio c)
      | .bridge b => s.rd (bPrio b)
      | .valve n => s.get VLV_CFG_PRIO (vPage n)
      | _ => s.get LED_CFG_PRIO ledPage)

/-- Change DERATE.STAGE with the interrupts of leaving and reaching 0 (R193). -/
def setStage (s : State) (k : Nat) : State :=
  let was := s.get CALD_DERATE_STAGE caldPage
  let s := s.set CALD_DERATE_STAGE caldPage k
  if was = 0 && k != 0 then s.irq caldPage 0 else if was != 0 && k = 0 then s.irq caldPage 1 else s

/-- The action of stage `k`, or of the first later stage that has one left; P0_OVER when none has (R190, R191). -/
def derateFrom (s : State) (led : Nat) : List Nat → State
  | [] =>
    let was := s.flag CALD_DERATE_P0_OVER caldPage
    let s := (setStage s 6).put CALD_DERATE_P0_OVER caldPage true
    if was then s else s.irq caldPage 2
  | k :: r =>
    let cls := 3 - (k - 1) / 2
    if k % 2 = 1 then
      let old := s.get (capFld cls) caldPage
      let floor := s.get CALD_CFG_CAP_MIN caldPage * 16
      if floor < old then
        let s := (setStage s k).set (capFld cls) caldPage (max (old * 7 / 8) floor)
        { s with cald := { s.cald with actions := .cap cls old :: s.cald.actions } }
      else derateFrom s led r
    else
      match worst (s.shedList cls led) with
      | some u => shedUnit (setStage s k) u
      | none => derateFrom s led r

/-- One action of R190, from the stage reached. -/
def derate (s : State) (led : Nat) : State :=
  let k := max (s.get CALD_DERATE_STAGE caldPage) 1
  derateFrom s led ((List.range 6).map (· + 1) |>.filter (k ≤ ·))

/-- Undo the last action (R192). -/
def undoAction (s : State) : State :=
  match s.cald.actions with
  | [] => setStage s 0
  | .cap cls _ :: r =>
    let v := min (s.get (capFld cls) caldPage + 512) 4095
    let full := v = 4095
    let r := if full then r.filter fun d => match d with | .cap c _ => c != cls | .shed _ => true else r
    let s := { s with cald := { s.cald with actions := r, lastUndo := s.tb } }.set (capFld cls) caldPage v
    setStage s (match r with | [] => 0 | d :: _ => d.stage s)
  | .shed u :: r =>
    let k := (Derate.shed u).stage s
    let s := { s with cald := { s.cald with actions := r, lastUndo := s.tb } }
    unshedUnit (setStage s (if r.isEmpty then 0 else k - 1)) u

/-- The budget's part of a 1 ms tick (R190 to R192). -/
def budgetTick (s : State) (p led : Nat) (hot : Int) : State :=
  let bud := s.get CALD_CFG_PKG_BUDGET caldPage * 1000000
  let tmax : Int := (s.get CALD_CFG_TDIE_MAX caldPage : Int) * 16
  let s := s.set CALD_P_EST caldPage (min (p / 1000) 65535)
  let above := bud < p || tmax < hot
  let under := p * 100 < bud * 85 && hot ≤ tmax - 160
  let s := { s with cald := { s.cald with underSince := if under then some (s.cald.underSince.getD s.tb) else none } }
  let s := if above then s else s.put CALD_DERATE_P0_OVER caldPage false
  if above && s.flag H_CTRL_EN caldPage then derate s led else s

/-- e^(−1 ms / 2 s) × 10^12 (R175). -/
def decay1ms : Nat := 999500124979

/-- The caldera's 1 ms tick (R175, R178, R180, R182, R188, R190, R436): die temperatures in 1/16 °C, the dissipation of sense supplies
and of the LED matrix in µW, the supply current of inputs and lighting in mA, and VLF in mV with its current. -/
def calderaTick (s : State) (temps : List Int) (ssup led aux vlf ivlf : Nat) : State :=
  if !s.domOn 7 || s.clk.frozen then s
  else
    let us := s.estUs
    let s := autoUnlock (if s.cald.froze then decayBuckets s s.domOn (expNeg (us * 1048576 / 2000000)) 1073741824
      else decayBuckets s s.domOn decay1ms 1000000000000)
    let s := takeTemps s temps
    let s := wireTick (if s.cald.firstEst || s.cald.gap.isSome then wireFirst s else s) us
    let s := if s.domOn 11 then s.set ACC_MEAS_I_VLF 0x82 ivlf else s
    let p := s.pEst (ssup + vlf * s.get ACC_MEAS_I_VLF 0x82) led
    let s := { s with cald := { s.cald with clampMs := 0, auxI := aux, estTb := s.tb, froze := false } }
    showTotal (budgetTick s p led (hottest temps).1)

/-- A channel is capped or shed: the drain of R174 is not over. -/
def State.derated (s : State) : Bool := !s.cald.actions.isEmpty

/-- CALDERA_TICK (R188, R290), with the readings of its millisecond: pin voltages of the switch inputs in mV, sense supplies, and LED lines
and columns. -/
def execCalderaTick (temps : List Int) (inp : SwiReading) (led : LedReading) (aux vlf ivlf : Nat) (s : State) :
    Host.Outcome State Fault Refusal :=
  .next (calderaTick (swiVpins s inp.vpins) temps (ssupLoss inp.ssup) (ledLoss led.lines led.cols) aux vlf ivlf)

/-- CALDERA_RELEASE (R192). -/
def execCalderaRelease (s : State) : Host.Outcome State Fault Refusal :=
  match s.cald.underSince with
  | some t =>
    .next (if s.flag H_CTRL_EN caldPage && s.derated && t + 100000000 ≤ s.tb && s.cald.lastUndo + 10000000 ≤ s.tb && s.domOn 7
        && !s.clk.frozen then undoAction s else s)
  | none => .next s

/-- CALDERA_DRAIN_STEP (R174). -/
def execCalderaDrainStep (s : State) : Host.Outcome State Fault Refusal :=
  if s.domOn 7 && !s.flag H_CTRL_EN caldPage && s.derated && s.cald.lastUndo + 10000000 ≤ s.tb && !s.clk.frozen then
    .next (undoAction s)
  else .next s

/-- A write of AMB_SET (R182). -/
def ambSetEff (v : Nat) (s : State) : State :=
  let s := (plainWrite s caldPage 0x44 v).put CALD_AMB_STALE caldPage false
  { s with cald := { s.cald with ambTb := s.tb } }

/-- AMB_SET_WRITE (R182). -/
def execAmbSetWrite (m : Master) (v : Word) (s : State) : Host.Outcome State Fault Refusal :=
  .next (accessWrite s m caldPage 0x44 v.toNat ambSetEff)

/-- AMB_STALE (R182). -/
def execAmbStale (s : State) : Host.Outcome State Fault Refusal :=
  if s.domOn 7 && s.flag CALD_CFG_AMB_SRC caldPage && !s.flag CALD_AMB_STALE caldPage && s.cald.ambTb + 10000000000 ≤ s.tb then
    .next ((s.put CALD_AMB_STALE caldPage true).irq caldPage 5)
  else .next s

end Sys2Proof.Machine
end

