-- ==== Sys2Proof/Machine/Stages.lean ====
section
/-! DEFINITION. The events that every power stage shares: limitation, trips, turn-off, thermal latches, readings, and the ACT bits
that clear latches and clamp locks (R144 to R165, R597). -/

namespace Sys2Proof.Machine

/-- Register page and ACT offset of a stage. -/
def actPlace (u : Stage) : Nat × Nat :=
  match u with
  | .chan c => (chPage c, chActOff c)
  | .bridge b => (brPage b, if isGd b then 0x70 else 0x6C)
  | .valve n => (vPage n, 0x74)
  | .bank k => (bankPage, 0x114 + 0x20 * k)

/-- Limitation begins (R147, R216, R253, R262). -/
def limStart (s : State) (u : Stage) : State :=
  match u with
  | .chan c => chLimStart s c
  | .bridge b => brLimStart s b
  | .valve n => vLimStart s n
  | .bank k => bankLimStart s k

/-- Limitation ends (R144). -/
def limEnd (s : State) (u : Stage) (we : Nat) : State :=
  match u with
  | .chan c => chLimEnd s c we
  | .bridge b => brLimEnd s b
  | .valve n => vLimEnd s n
  | .bank k => bankLimEnd s k

/-- A filtered trip (R144, R216, R253, R262). -/
def filteredTrip (s : State) (u : Stage) (we : Nat) : State :=
  match u with
  | .chan c => chFilteredTrip s c we
  | .bridge b => brFilteredTrip s b
  | .valve n => vFilteredTrip s n
  | .bank k => bankTripAs s k false

/-- A fast trip (R145, R216, R253, R262, R327). -/
def fastTrip (s : State) (u : Stage) : State :=
  match u with
  | .chan c => if (s.ch c).preheat then preheatTrip s c else chFastTrip s c
  | .bridge b => brFastTrip s b
  | .valve n => vFastTrip s n
  | .bank k => bankTripAs s k true

/-- A turn-off ends: clamp energy in 0.1 mJ and counted wiring energy; a half-bridge's two switches have one energy each (R147,
R160, R183, R218). -/
def turnOffDone (s : State) (u : Stage) (energy we : Nat) : State :=
  match u with
  | .chan c => chTurnOffDone (s.addWe c we) c energy
  | .bridge b => brPulse s b energy we
  | .valve n => vTurnOffDone s n energy
  | .bank _ => s

/-- A thermal latch sets (R154, R214, R249, R254). -/
def latchSet (s : State) (u : Stage) : State :=
  match u with
  | .chan c => chLatchSet s c
  | .bridge b => brLatchSet s b
  | .valve n => vLatchSet s n
  | .bank k => bankLatchSet s k

/-- A thermal latch clears by itself (R158, R254). -/
def latchAuto (s : State) (u : Stage) : State :=
  match u with
  | .chan c => chLatchAuto s c
  | .bridge b => brLatchAuto s b
  | .valve n => vLatchAuto s n
  | .bank k => bankLatchAuto s k

/-- ACT.TL_CLR (R158); gate drivers and banks have none. -/
def tlClr (u : Stage) (s : State) : Acted :=
  match u with
  | .chan c => chTlClr c s
  | .bridge b => if isGd b then (s, false) else brTlClr b s
  | .valve n => vTlClr n s
  | .bank _ => (s, false)

/-- ACT.UNLOCK (R160). -/
def unlock (u : Stage) (s : State) : Acted :=
  match u with
  | .chan c => chUnlock c s
  | .bridge b => if isGd b then (s, false) else brUnlock b s
  | .valve n => vUnlock n s
  | .bank _ => (s, false)

/-- The first valid reading after PD_OUT's return from off raises the wire of a channel that conducted throughout (R181); one that comes
ahead of the first estimate waits for it. -/
def steadyRead (s : State) (c : Nat) : State :=
  if c < 46 && (s.ch c).steady && s.cf (cSenseValid c) then
    let s := s.upCh c fun x => { x with steady := false }
    if s.cald.gap.isSome then s.upCh c fun x => { x with gapI := some (s.rd (cSense c)) } else wireRaise s c (s.rd (cSense c))
  else s

/-- A 1 ms reading (R164). -/
def senseUpdate (s : State) (u : Stage) (raw : Int) (vout tj : Nat) (phase limited : Bool) : State :=
  match u with
  | .chan c => steadyRead (chSense s c raw vout tj phase limited) c
  | .bridge b => brSense s b raw vout tj phase limited
  | .valve n => vSense s n raw tj phase limited
  | .bank k => bankSense s k raw tj

/-- A full bucket locks a channel that is at rest, and turns off one that is on (R160, R597; log 85). -/
def lockAtRest (s : State) (c : Nat) : State :=
  let st := s.chSt c
  if (s.ch c).lockClamp && conducting st then s.turnOff c .command
  else if (s.ch c).lockClamp && (st = stOff || st = stQueued || st = stRetryWait || st = stShed) then
    (((s.withdraw (.chan c)).upCh c fun x => { x with retryEnd := none }).wr (cWeWait c) 0).setSt c stLocked
  else s

/-- Clamp energy while a pulse runs: in TURN_OFF it joins the pulse that TURN_OFF_COMPLETE ends (R175); the clamp of an LS or VLV land
conducts whatever the state (R597). -/
def clampConducts (s : State) (u : Stage) (e : Nat) : State :=
  match u with
  | .chan c =>
    if !s.domOn 7 then s
    else if c < 62 && s.chSt c = stTurnOff then (s.addClamp c e).clampCheck c
    else if 46 ≤ c && c < 62 then lockAtRest (((s.addClamp c e).clampCheck c).logClamp c) c
    else s
  | .valve n => if s.flag VBK_STAT_ON bankPage (bankOf n) then vClampCheck (vAddClamp s n e) n else s
  | _ => s

/-! The meanings of the commands. -/

/-- CHANNEL_OUT_WRITE (R17, R154, R202). -/
def execChannelOutWrite (m : Master) (c : Nat) (v : Word) (s : State) : Host.Outcome State Fault Refusal :=
  .next (accessWrite s.commitsFirst m (chPage c) ((cOn c).key / 32 % 4096) v.toNat (chOutEff c))

/-- HB_DRIVE_WRITE (R17, R214). -/
def execHbDriveWrite (m : Master) (b : Nat) (v : Word) (s : State) : Host.Outcome State Fault Refusal :=
  .next (accessWrite s.commitsFirst m (brPage b) (brOutOff b) v.toNat (brOutEff b (brOutOff b)))

/-- VALVE_OUT_WRITE (R17, R249). -/
def execValveOutWrite (m : Master) (n : Nat) (v : Word) (s : State) : Host.Outcome State Fault Refusal :=
  .next (accessWrite s.commitsFirst m (vPage n) 0x44 v.toNat (vOutEff n))

/-- A PWM period of a stage starts (R150, R211). -/
def pwmStart (s : State) (u : Stage) : State :=
  match u with
  | .chan c => chPwmStart s c
  | .bridge b => brPwmStart s b
  | _ => s

/-- PWM_PERIOD_START (R150, R211). -/
def execPwmPeriodStart (u : Stage) (s : State) : Host.Outcome State Fault Refusal := .next (pwmStart s u)

/-- LIMITATION_START (R147). -/
def execLimitationStart (u : Stage) (s : State) : Host.Outcome State Fault Refusal := .next (limStart s u)

/-- LIMITATION_END (R144). -/
def execLimitationEnd (u : Stage) (we : Nat) (s : State) : Host.Outcome State Fault Refusal := .next (limEnd s u we)

/-- FILTERED_TRIP (R144). -/
def execFilteredTrip (u : Stage) (we : Nat) (s : State) : Host.Outcome State Fault Refusal := .next (filteredTrip s u we)

/-- FAST_TRIP (R145). -/
def execFastTrip (u : Stage) (s : State) : Host.Outcome State Fault Refusal := .next (fastTrip s u)

/-- TURN_OFF_COMPLETE (R147). -/
def execTurnOffComplete (u : Stage) (energy we : Nat) (s : State) : Host.Outcome State Fault Refusal :=
  .next (turnOffDone s u energy we)

/-- THERMAL_LATCH_SET (R154). -/
def execThermalLatchSet (u : Stage) (s : State) : Host.Outcome State Fault Refusal := .next (latchSet s u)

/-- THERMAL_LATCH_CLEAR (R158). -/
def execThermalLatchClear (u : Stage) (s : State) : Host.Outcome State Fault Refusal := .next (latchAuto s u)

/-- ACT_TL_CLR (R158). -/
def execActTlClr (m : Master) (u : Stage) (s : State) : Host.Outcome State Fault Refusal :=
  .next (accessWrite s m (actPlace u).1 (actPlace u).2 1 fun _ s => doAct (actPlace u).1 (tlClr u s))

/-- ACT_UNLOCK (R160). -/
def execActUnlock (m : Master) (u : Stage) (s : State) : Host.Outcome State Fault Refusal :=
  .next (accessWrite s m (actPlace u).1 (actPlace u).2 2 fun _ s => doAct (actPlace u).1 (unlock u s))

/-- SENSE_UPDATE (R164). -/
def execSenseUpdate (u : Stage) (raw : Int) (vout tj : Nat) (phase limited : Bool) (s : State) : Host.Outcome State Fault Refusal :=
  .next (senseUpdate s u raw vout tj phase limited)

/-- LS_CLAMP_CONDUCTION (R175, R597). -/
def execLsClampConduction (u : Stage) (energy : Nat) (s : State) : Host.Outcome State Fault Refusal :=
  .next (clampConducts s u energy)

end Sys2Proof.Machine
end

