-- ==== Sys2Proof/Machine/Admission.lean ====
section
/-! DEFINITION. The geyser gate at work: slots, admission, refusal and promotion (R194 to R204), and the admission of domain
power-ups (R99, R100). -/

namespace Sys2Proof.Machine

/-- The page of the geyser gate. -/
def govPage : Nat := 0x3E

/-- A locked satellite device of a shared gate forwards its requests and admits nothing itself (R465). -/
def State.gateForwards (s : State) : Bool := s.flag RING_STAT_GATE_SHARED ringPage && !s.flag RING_STAT_ROLE ringPage

/-- Whether the gate works: PD_OUT on, no clock freeze (R205), this device's own gate in force. -/
def State.gateOpen (s : State) : Bool := s.domOn 7 && !s.clk.frozen && !s.gateForwards

/-- Limp-home and P0 requests (R20). -/
def GateEntry.top (e : GateEntry) : Bool := e.rank == 0

/-- Whether the request is a load start, which waits for PD_PSV (R95). -/
def Req.isLoad (r : Req) : Bool :=
  match r with
  | .dom _ | .prep _ _ | .remote _ _ _ => false
  | _ => true

/-- The budget against which a request is checked (R200); a power-up of PD_PSV that stands at rank 0 ahead of a limp-home or P0 start counts
as that start does (log 85). -/
def State.budgetOf (s : State) (e : GateEntry) : Nat := if e.top then s.inrushMax else s.bEff

/-- The slot sum that a request sees: a commit's own reservation does not count (R204). -/
def State.sumFor (s : State) (e : GateEntry) : Nat :=
  s.slotSum - (if e.kind == .commit then s.reserveOf e.slot else 0)

/-- Condition 1 of R197, or R199. -/
def State.fits (s : State) (e : GateEntry) : Bool :=
  s.sumFor e + e.x ≤ s.budgetOf e || (s.budgetOf e < e.x && s.sumC == 0)

/-- Condition 2 of R197. -/
def State.continuousOk (s : State) (x : Nat) : Bool := s.iTotal + s.recentX + x ≤ s.get GOV_LIMIT_BATT_IMAX govPage * 1000

/-- Whether a forwarded domain power-up finds one of its device's three places (R99, R465). -/
def State.placeFree (s : State) (r : Req) : Bool :=
  match r with
  | .remote d 0 _ => (s.sat (d - 1)).ups < 3
  | _ => true

/-- A forwarded domain power-up takes its place. -/
def takePlace (s : State) (r : Req) : State :=
  match r with
  | .remote d 0 _ => s.upSat (d - 1) fun x => { x with ups := x.ups + 1 }
  | _ => s

/-- Whether the gate admits a load's request that heads the queue (R36, R95, R197, R199, R200). -/
def State.admits (s : State) (e : GateEntry) : Bool :=
  !s.flag SUP_STAT_VBAT_OV 4 && (6000 ≤ s.vbat || e.top) && (!e.req.isLoad || e.top || s.domOn 10) && s.fits e && s.continuousOk e.x &&
    s.placeFree e.req

/-- Whether a preparation or a valve's start that is admitted can still act (R243, R324). -/
def State.prepStands (s : State) (r : Req) : Bool :=
  match r with
  | .prep slot code => s.preps.any fun p => p.slot + 1 == slot && p.idx * 128 + p.tgt == code && p.kind ≤ 4 && s.prepMay p
  | .valve n => s.bankEnabled (bankOf n)
  | _ => true

/-- Take a requester's waiting request out and count its contribution (R196, R197). -/
def gateTake (s : State) (e : GateEntry) : State :=
  let s := s.withdraw e.req
  if s.prepStands e.req then
    { s with gate := { s.gate with contribs := s.gate.contribs ++ [{ x := e.x, h := e.h, slot := s.gate.slot }] } }
  else s

/-- What an admission starts. -/
def gateStart (s : State) (e : GateEntry) : State :=
  match e.req with
  | .chan c => chAdmit s c (if e.kind == .commit then .start else e.kind)
  | .bridge b => brAdmit s b
  | .valve n => vAdmit s n
  | .pump _ => pumpStart s
  | .led => ledAdmit s
  | .lf => s
  | .dom _ => s
  | .prep slot code => prepAdmit s slot code
  | .remote _ _ _ => takePlace s e.req

/-- What a refusal leaves (R202). -/
def gateRefuse (s : State) (e : GateEntry) : State :=
  let s := (s.withdraw e.req).recordRefusal e
  match e.req with
  | .chan c => chRefuse s c (if e.kind == .commit then .start else e.kind)
  | .bridge b => brRefuse s b
  | .valve n => vRefuse s n
  | .pump _ => pumpAgain { s with gate := { s.gate with pumpAsked := false } }
  | .led => ledRefuse s
  | .lf => s
  | .dom _ => s
  | .prep slot code => prepRefuse s slot code
  | .remote _ _ _ => s

/-- The gate has decided a requester: every slot whose commit it was hears of it. -/
def tellSlots (s : State) (r : Req) (admitted : Bool) : State :=
  let l := (List.range 63).filter fun i => (s.slotH i).waits.contains r
  l.foldl (fun s i => commitDecided s (i + 1) r admitted) s

/-- Whether a commit's request is still undecided: it waits at the gate, or for the bank's token (R251). -/
def State.undecided (s : State) (r : Req) : Bool :=
  (s.waiting r).isSome || (match r with | .valve n => s.vSt n == vsDeferred | _ => false)

/-- Commits whose request has gone from the queue undecided need no admission (R331). -/
def boilSweep (s : State) : State :=
  s.each (List.range 63) fun s i =>
    ((s.slotH i).waits.filter fun r => !s.undecided r).foldl (fun s r => commitGone s (i + 1) r) s

/-- Admit the request that heads the queue. -/
def gateAdmit (s : State) (e : GateEntry) : State := boilSweep (tellSlots (gateStart (gateTake s e) e) e.req true)

/-- Whether domain `n`'s power-up may begin now (R36, R99, R100): PD_OUT's own stands outside the queue. -/
def State.domAdmits (s : State) (n : Nat) : Bool :=
  let d := s.getDom n
  d.phase == .queued && !s.clk.restarting && !s.clk.frozen && s.ramping.length < 3 && 6000 ≤ s.vbat &&
    (n == 7 || (s.domOn 7 && !s.gateForwards && !s.flag SUP_STAT_VBAT_OV 4 &&
      (match s.gate.queue with | e :: _ => e.req == .dom n && s.fits e | [] => false)))

/-- The request that the gate decides next (R95, R198): the head of the queue, but limp-home and P0 do not wait for a power-up
of PD_PSV ahead of them that cannot begin yet (log 79). -/
def State.gateHead (s : State) : Option GateEntry :=
  match s.gate.queue with
  | [] => none
  | [d] => some d
  | d :: e :: _ => if d.req == .dom 10 && e.top && !s.domAdmits 10 then some e else some d

/-- Domain `n`'s power-up is admitted: its rail ramp begins (R98, R99). -/
def domAdmit (s : State) (n : Nat) : State := (s.withdraw (.dom n)).putDom n { s.getDom n with phase := .ramping }

/-- A domain's waiting power-up is promoted behind limp-home and P0 (R203). -/
def domPromote (s : State) (n : Nat) : State :=
  match s.waiting (.dom n) with
  | some e =>
    if 1 < e.rank && e.t + s.get GOV_DEFER2_DOM govPage * 1000000 ≤ s.tb && s.gateOpen then
      (((s.withdraw (.dom n)).enqueue { e with rank := 1 }).bump GOV_CNT_PROMOTIONS govPage).irq govPage 1
    else s
  | none => s

/-- The request that has exceeded its deferral limit, first in queue order (R201). -/
def State.expired (s : State) : Option GateEntry :=
  s.gate.queue.find? fun e => match s.deferLimit e with | some l => e.t + l < s.tb | none => false

/-- Refuse every request that has exceeded its limit, at most `n` of them. -/
def refuseExpired (s : State) (n : Nat) : State :=
  match n with
  | 0 => s
  | k + 1 =>
    match s.expired with
    | some e => refuseExpired (tellSlots (gateRefuse s e) e.req false) k
    | none => s

/-- GATE_SLOT_START (R194, R196): contributions that count no more are dropped. -/
def slotStart (s : State) : State :=
  let k := s.tb / 250000
  boilSweep { s with gate := { s.gate with slot := k, begun := true, contribs := s.gate.contribs.filter fun c => c.now k != 0 || k < c.slot + 4 } }

/-- GATE_SLOT_START (R194). -/
def execGateSlotStart (s : State) : Host.Outcome State Fault Refusal :=
  .next (if s.gate.slot < s.tb / 250000 then slotStart s else s)

/-- GATE_ADMIT (R197): a domain power-up that heads the queue is admitted under R99. -/
def execGateAdmit (s : State) : Host.Outcome State Fault Refusal :=
  match s.gateHead with
  | none => .next s
  | some e =>
    match e.req with
    | .dom n => .next (if s.domAdmits n then domAdmit s n else s)
    | _ => .next (if s.gateOpen && s.admits e then gateAdmit s e else s)

/-- GATE_DEFER_EXPIRY (R201). -/
def execGateDeferExpiry (s : State) : Host.Outcome State Fault Refusal :=
  .next (if s.gateOpen then boilSweep (refuseExpired s s.gate.queue.length) else s)

/-- DOMAIN_POWER_UP_ADMIT (R99). -/
def execDomainPowerUpAdmit (n : Nat) (s : State) : Host.Outcome State Fault Refusal :=
  .next (if s.domAdmits n then domAdmit s n else s)

/-- DOMAIN_PROMOTION (R203). -/
def execDomainPromotion (n : Nat) (s : State) : Host.Outcome State Fault Refusal := .next (domPromote s n)

end Sys2Proof.Machine
end

