-- ==== Sys2Proof/Machine/Keeper.lean ====
section
/-! DEFINITION. The NM keeper: votes, the states of a bus, the keeper table and the awake ceiling (R419 to R422, R429). -/

namespace Sys2Proof.Machine

/-- The page of the NM keeper. -/
def nmkPage : Nat := 0x7D

/-- STATE of bus `b`: 0 OFF, 1 AWAKE, 2 READY, 3 PREPARE, 4 AGREED, 5 ASLEEP (R421). -/
def State.nmSt (s : State) (b : Nat) : Nat := s.get NMK_STAT_STATE nmkPage b

/-- Enter a state. -/
def State.setNm (s : State) (b st : Nat) : State := s.set NMK_STAT_STATE nmkPage st b

/-- Whether bus `b`'s transceiver is in NORMAL; the external ones of CAN6 and CAN7 count as such. -/
def State.busNormal (s : State) (b : Nat) : Bool := 6 ≤ b || s.get CTRX_STAT_MODE_ACT ctrxPage b == 1

/-- The keeper event of bus `b` ends: its time goes to KEEP_MS (R422). -/
def keepEnd (s : State) (b : Nat) : State :=
  match (s.bus b).kev with
  | some (k, t) =>
    (s.set NMK_KEEP_MS nmkPage (satAdd 32 (s.get NMK_KEEP_MS nmkPage b k) ((s.tb - t) / 1000000)) b k).upBus b fun x => { x with kev := none }
  | none => s

/-- Whether entry `j` gives way before entry `k`: least KEEP_MS, then lower COUNT, then higher number (R422). -/
def State.keepWorse (s : State) (b j k : Nat) : Bool :=
  let a := s.get NMK_KEEP_MS nmkPage b j
  let c := s.get NMK_KEEP_MS nmkPage b k
  let m := s.get NMK_KEEP_COUNT nmkPage b j
  let n := s.get NMK_KEEP_COUNT nmkPage b k
  a < c || (a == c && (m < n || (m == n && k < j)))

/-- A keeper event of `node` begins (R422). -/
def keepBegin (s : State) (b node : Nat) : State :=
  let l := List.range 16
  let start (s : State) (k : Nat) : State := s.upBus b fun x => { x with kev := some (k, s.tb) }
  let fill (s : State) (k : Nat) : State :=
    let s := (s.set NMK_KEEP_NODE nmkPage node b k).put NMK_KEEP_VALID nmkPage true b k
    start ((s.set NMK_KEEP_COUNT nmkPage 1 b k).set NMK_KEEP_MS nmkPage 0 b k) k
  match l.find? fun k => s.flag NMK_KEEP_VALID nmkPage b k && s.get NMK_KEEP_NODE nmkPage b k == node with
  | some k => start (s.bump NMK_KEEP_COUNT nmkPage b k) k
  | none =>
    match l.find? fun k => !s.flag NMK_KEEP_VALID nmkPage b k with
    | some k => fill s k
    | none =>
      let k := l.foldl (fun k j => if s.keepWorse b j k then j else k) 0
      fill (s.put NMK_STAT_OVF nmkPage true b) k

/-- The keeper requests bus `b`'s own NM message (R421). -/
def nmSend (s : State) (b : Nat) : State :=
  (canReq s b (1 <<< s.get NMK_CFG_TX_BUF nmkPage b)).upBus b fun x => { x with cycle := s.tb + s.get NMK_CYCLE nmkPage b * 1000000 }

/-- An agreement is withdrawn (R421). -/
def nmCancel (s : State) (b : Nat) : State :=
  if s.nmSt b = 4 then (s.put NMK_STAT_CANCEL nmkPage true b).irq nmkPage (8 + b) else s

/-- VOTE_EFF of bus `b` has changed to `v` (R421, R422). -/
def voteTurn (s : State) (b : Nat) (v : Bool) : State :=
  let s := s.put NMK_STAT_VOTE_EFF nmkPage v b
  let st := s.nmSt b
  if v then
    let s := keepEnd s b
    if (2 ≤ st && st ≤ 4) || (st = 5 && s.busNormal b) then nmSend ((nmCancel s b).setNm b 1) b else s
  else if st = 1 then s.setNm b 2
  else s

/-- Whether any bus votes. -/
def State.anyVote (s : State) : Bool := (List.range 8).any fun b => s.flag NMK_STAT_VOTE_EFF nmkPage b

/-- The ceiling timer has counted down until now (R429). -/
def ceilCount (s : State) : State :=
  let left := match s.nm.ceilFrom with | some t => s.nm.ceilLeft - (s.tb - t) | none => s.nm.ceilLeft
  { s with nm := { s.nm with ceilLeft := left, ceilFrom := none } }

/-- The ceiling timer counts while EN is 1 and a bus votes (R429). -/
def ceilGo (s : State) : State :=
  let run := s.flag NMK_CEIL_EN nmkPage && s.anyVote
  { s with nm := { s.nm with ceilFrom := if run then some (s.nm.ceilFrom.getD s.tb) else none } }

/-- Bring VOTE_EFF of every bus up to date (R420). -/
def voteAll (s : State) : State :=
  let block := s.flag NMK_CEIL_STAT_BLOCK nmkPage
  ceilGo ((ceilCount s).each (List.range 8) fun s b =>
    let v := s.flag NMK_NEED_VOTE nmkPage b && !block
    if v == s.flag NMK_STAT_VOTE_EFF nmkPage b then s else voteTurn s b v)

/-- BLOCK clears and the ceiling timer reloads (R429). -/
def ceilReload (s : State) : State :=
  let s := s.put NMK_CEIL_STAT_BLOCK nmkPage false
  voteAll { s with nm := { s.nm with ceilLeft := s.get NMK_CEIL_TIME nmkPage * 60000000000, ceilFrom := none } }

/-- What an expiry of the ceiling changes in the register page. -/
def ceilRegs : List Fld := [NMK_CEIL_STAT_EXPIRIES, H_IRQ_RAW, H_EVT_CNT_EVENTS]

/-- What stands before an expiry of the ceiling. -/
def ceilKeep (s : State) : State :=
  let votes := (List.range 8).filterMap fun b => if s.flag NMK_STAT_VOTE_EFF nmkPage b then some (b, s.nmSt b) else none
  { s with nm := { s.nm with expiry := some { tb := s.tb, regs := ceilRegs.map fun f => s.get f nmkPage, votes := votes } } }

/-- A local wake event acts before an expiry of the ceiling in its BCLK, which then does not come (R431). -/
def ceilUndo (s : State) : State :=
  match s.nm.expiry with
  | some e =>
    if e.tb = s.tb then
      let s := (ceilRegs.zip e.regs).foldl (fun s x => s.set x.1 nmkPage x.2) s
      let s := e.votes.foldl (fun s x => (s.put NMK_STAT_VOTE_EFF nmkPage true x.1).setNm x.1 x.2) s
      { s.put NMK_CEIL_STAT_BLOCK nmkPage false with nm := { s.nm with expiry := none } }
    else s
  | none => s

/-- A local wake event (R420, R429); one that finds PD_NET leaving or not on acts when it is on again (log 98). -/
def localWake (s : State) : State :=
  if !s.domRuns 3 then { s with nm := { s.nm with localDue := true } }
  else
    let s := ceilUndo { s with nm := { s.nm with localDue := false } }
    let s := s.each (List.range 8) fun s b =>
      if s.flag NMK_CFG_WAKE_VOTE nmkPage b then s.put NMK_NEED_VOTE nmkPage true b else s
    ceilReload s

/-- The keeper at a return of PD_NET: a local wake event of its absence acts (R420). -/
def nmReturn (s : State) : State := if s.nm.localDue then localWake s else s

/-- The ceiling expires (R429). -/
def ceilExpire (s : State) : State :=
  let s := ceilCount s
  if s.nm.ceilLeft = 0 && s.flag NMK_CEIL_EN nmkPage && s.anyVote then
    let s := ((ceilKeep s).put NMK_CEIL_STAT_BLOCK nmkPage true).bump NMK_CEIL_STAT_EXPIRIES nmkPage
    voteAll (s.irq nmkPage 16)
  else ceilGo s

/-- A write to CEIL (R429, R430). -/
def ceilEff (v : Nat) (s : State) : State :=
  let was := s.flag NMK_CEIL_EN nmkPage
  let s := plainWrite (ceilCount s) nmkPage 0x40 v
  if bitOf v 17 || was != s.flag NMK_CEIL_EN nmkPage then ceilReload s else ceilGo s

/-- A write of NEED.VOTE of bus `b` (R420). -/
def needEff (b v : Nat) (s : State) : State := voteAll (s.put NMK_NEED_VOTE nmkPage (bitOf v 0) b)

/-- Start bus `b`'s bus-awake timer (R419). -/
def nmTimer (s : State) (b : Nat) : State :=
  s.upBus b fun x => { x with timer := s.tb + s.get NMK_TIMING_NM_TIMEOUT nmkPage b * 1000000 }

/-- Where an enabled bus starts (R421). -/
def nmStart (s : State) (b : Nat) : State :=
  if !s.flag NMK_CFG_EN nmkPage b then s.setNm b 0
  else
    let m := s.get CTRX_MODE ctrxPage b
    if b < 6 && (m == 3 || m == 4) then s.setNm b 5
    else
      let s := nmTimer (s.setNm b 2) b
      if s.flag NMK_STAT_VOTE_EFF nmkPage b then nmSend (s.setNm b 1) b else s

/-- A write to CFG of bus `b` (R421, R430). -/
def nmCfgEff (b v : Nat) (s : State) : State :=
  let was := s.flag NMK_CFG_EN nmkPage b
  let s := plainWrite s nmkPage (0x100 + 0x40 * b) v
  if was != s.flag NMK_CFG_EN nmkPage b then nmStart (keepEnd s b) b else s

/-- Bus `b`'s transceiver is written to NORMAL while the bus sleeps (R421). -/
def nmNormal (s : State) (b : Nat) : State :=
  if s.domOn 3 && s.nmSt b = 5 then
    let s := nmTimer s b
    if s.flag NMK_STAT_VOTE_EFF nmkPage b then nmSend (s.setNm b 1) b else s.setNm b 2
  else s

/-- Whether a frame is an NM message of bus `b` (R419); `buf` is the transmit slot of a frame that was sent. -/
def State.isNm (s : State) (b : Nat) (f : CanFrame) (buf : Option Nat) : Bool :=
  s.flag NMK_CFG_EN nmkPage b && f.xtd == s.flag NMK_CFG_XTD nmkPage b && s.get NMK_ID_LO nmkPage b ≤ f.id &&
    f.id ≤ s.get NMK_ID_HI nmkPage b && s.get NMK_CFG_SRC_BYTE nmkPage b < f.data.length &&
    (match buf with | some k => k == s.get NMK_CFG_TX_BUF nmkPage b | none => true)

/-- The node identifier of an NM message. -/
def State.nmNode (s : State) (b : Nat) (f : CanFrame) : Nat := (f.data.getD (s.get NMK_CFG_SRC_BYTE nmkPage b) 0).toNat

/-- An NM message restarts the bus-awake timer (R419, R421, R422). -/
def nmMessage (s : State) (b : Nat) (f : CanFrame) (sent : Bool) : State :=
  let st := s.nmSt b
  let s := keepEnd (nmTimer s b) b
  if 2 ≤ st && st ≤ 4 then
    let s := if sent then s else keepBegin s b (s.nmNode b f)
    (nmCancel s b).setNm b 2
  else s

/-- Whether entry `j` ranks before entry `k`: KEEP_MS, then COUNT, then the lower node identifier (R422). -/
def State.keepBefore (s : State) (b j k : Nat) : Bool :=
  let a := s.get NMK_KEEP_MS nmkPage b j
  let c := s.get NMK_KEEP_MS nmkPage b k
  let m := s.get NMK_KEEP_COUNT nmkPage b j
  let n := s.get NMK_KEEP_COUNT nmkPage b k
  c < a || (a == c && (n < m || (m == n && s.get NMK_KEEP_NODE nmkPage b j < s.get NMK_KEEP_NODE nmkPage b k)))

/-- Put entry `j` into a list of entries in their rank. -/
def State.keepInsert (s : State) (b j : Nat) (l : List Nat) : List Nat :=
  match l with
  | [] => [j]
  | k :: r => if s.keepBefore b j k then j :: k :: r else k :: s.keepInsert b j r

/-- The top 8 entries of bus `b`'s keeper table (R422). -/
def State.keepTop (s : State) (b : Nat) : List Nat :=
  (((List.range 16).filter fun k => s.flag NMK_KEEP_VALID nmkPage b k).foldr (fun k l => s.keepInsert b k l) []).take 8

end Sys2Proof.Machine
end

