-- ==== Sys2Proof/Machine/Can.lean ====
section
/-! DEFINITION. The CAN controllers and transceivers: filtering, receive queues and slots, frame ends, error counters, transmit
timestamps (R347 to R368, R376) and time-triggered schedules (R369 to R373). -/

namespace Sys2Proof.Machine

/-! Transceivers. -/

/-- The mode that takes effect (R350). -/
def State.modeAct (s : State) (t : Nat) : Nat :=
  let m := s.get CTRX_MODE ctrxPage t
  if s.vcc5Low && (m == 1 || m == 2) then 3 else m

/-- Bring MODE_ACT of transceiver `t` up to date (R350, R352). -/
def ctrxShow (s : State) (t : Nat) : State :=
  if s.modeAct t = s.get CTRX_STAT_MODE_ACT ctrxPage t then s
  else (s.set CTRX_STAT_MODE_ACT ctrxPage (s.modeAct t) t).irq ctrxPage (4 * t + 3)

/-- Bring SWK_STAT.CFG_ERR of transceiver `t` up to date (R415). -/
def swkShow (s : State) (t : Nat) : State :=
  s.put CTRX_SWK_STAT_CFG_ERR ctrxPage (s.get CTRX_MODE ctrxPage t == 4 && 8 < s.get CTRX_SWK_CTRL_DLC ctrxPage t) t

/-- Transceiver `t` takes mode `v`, however asked for (R350, R415): FEC clears at each entry into SELECTIVE. -/
def ctrxTake (s : State) (t v : Nat) : State :=
  let was := s.get CTRX_MODE ctrxPage t
  let s := s.set CTRX_MODE ctrxPage v t
  let s := if v = 4 && was != 4 then s.set CTRX_SWK_STAT_FEC ctrxPage 0 t else s
  swkShow (ctrxShow (s.upXcv t fun x => { x with armed := x.armed && v == 4 && was == 4 }) t) t

/-- A write of MODE (R350, R421, R596). -/
def ctrxModeEff (t v : Nat) (s : State) : State :=
  let s := ctrxTake s t (v % 8)
  if v % 8 = 1 then nmNormal s t else s

/-- A write to SWK_CTRL (R415, R418). -/
def swkCtrlEff (t v : Nat) (s : State) : State := swkShow (plainWrite s ctrxPage (0x118 + 0x40 * t) v) t

/-- VCC5 leaves or regains regulation (R350, R352). -/
def vcc5Turn (s : State) (low : Bool) : State :=
  { s with vcc5Low := low }.each (List.range 6) fun s t => ctrxShow (s.put CTRX_STAT_VCC5_LOW ctrxPage low t) t

/-- Valid communication on CAN bus `t` closes its false-wake window (R416). -/
def fwComm (s : State) (t : Nat) : State :=
  if (s.xcv t).window.isSome then (s.set CTRX_FW_CONSEC ctrxPage 0 t).upXcv t fun x => { x with window := none } else s

/-! Error counters. -/

/-- The time-triggered error level becomes `l` (R372). -/
def ttLevel (s : State) (c l : Nat) : State :=
  let p := canPage c
  let s := if l = s.get CAN_SCHED_STAT_ERR_LEVEL p then s else (s.set CAN_SCHED_STAT_ERR_LEVEL p l).irq p 19
  let s := s.upTt c fun x => { x with valid := 0, lost := l == 2 }
  if l = 3 then s.upTt c fun x => { x with running := false, window := none, awd := none } else s

/-- A time-triggered error of level `l`; a level already higher stays (R372). -/
def ttError (s : State) (c l : Nat) : State :=
  if s.ttOn c && (s.canH c).tt.running && s.get CAN_SCHED_STAT_ERR_LEVEL (canPage c) < l then ttLevel s c l else s

/-- The attempt of the slot in transmission has failed (R364, R365, R376). -/
def canAttempt (s : State) (c : Nat) : State :=
  let x := s.canH c
  let s1 := s.upCan c fun x => { x with cur := none, cancel := false, frame := none }
  match x.cur with
  | some b => if b < 32 && (x.cancel || s.flag CAN_CFG_ONE_SHOT (canPage c) || s.flag H_STAT_DRAINING (canPage c)) then canNotSent s1 c (2 ^ b) else s1
  | none => s1

/-- A status flag changes and raises its bit (R374). -/
def canFlag (s : State) (c : Nat) (f : Fld) (v : Bool) (bit : Nat) : State :=
  if s.flag f (canPage c) == v then s else (s.put f (canPage c) v).irq (canPage c) bit

/-- Give the error counters new values (R374; ISO 11898-1): what a counter past its field shows is not stated (log 3). -/
def canCounts (s : State) (c te re : Nat) : State :=
  let p := canPage c
  let s := s.upCan c fun x => { x with te := te, re := re }
  let r := if te < 256 then (te, s) else s.fresh 256
  let s := r.2.set CAN_ERRCNT_TX p r.1
  let r := if re < 128 then (re, s) else s.fresh 128
  let s := (r.2.set CAN_ERRCNT_RX p r.1).put CAN_ERRCNT_RX_PASSIVE p (128 ≤ re)
  let s := canFlag s c CAN_BUSSTAT_WARNING (96 ≤ te || 96 ≤ re) 13
  let s := canFlag s c CAN_BUSSTAT_PASSIVE (128 ≤ te || 128 ≤ re) 14
  if 256 ≤ te && !s.flag CAN_BUSSTAT_BUSOFF p then
    let s := (s.put CAN_BUSSTAT_BUSOFF p true).irq p 15
    ttError ((canAttempt s c).set CAN_BUSSTAT_ACTIVITY p 0) c 3
  else s

/-- A frame ended without error: the last errors return to 0 (R374). -/
def canGood (s : State) (c : Nat) : State :=
  (s.set CAN_BUSSTAT_ARB_ERR (canPage c) 0).set CAN_BUSSTAT_DATA_ERR (canPage c) 0

/-- Whether controller `c` takes part in frames: enabled or draining, integrated, not bus-off. -/
def State.canAlive (s : State) (c : Nat) : Bool :=
  let p := canPage c
  s.domOn 3 && !s.clk.frozen && (s.flag H_CTRL_EN p || s.flag H_STAT_DRAINING p) && s.get CAN_BUSSTAT_ACTIVITY p != 0 && !s.flag CAN_BUSSTAT_BUSOFF p

/-! Receiving. -/

/-- The receive delay in ns (R367). -/
def State.rxDelay (s : State) (c : Nat) : Nat :=
  (if c < 6 then s.get CTRX_DELAY_RXDLY ctrxPage c else 0) + s.get CAN_TSCOMP (canPage c)

/-- The timestamp of a frame whose SOF reached the controller at TB `edge`, its synchroniser delay taken off (R367). -/
def State.sof (s : State) (c edge : Nat) : Nat := (edge + 2 ^ 64 - s.rxDelay c) % 2 ^ 64

/-- Word `w` of filter element `e` (R358). -/
def State.filterWord (s : State) (c e w : Nat) : Nat := s.msgGet (s.get CAN_FILTERS_BASE (canPage c) + 3 * e + w)

/-- Whether filter element `e` matches a frame (R358). -/
def State.filterHit (s : State) (c : Nat) (f : CanFrame) (e : Nat) : Bool :=
  let h := s.filterWord c e 0
  let a := s.filterWord c e 1 % 2 ^ 29
  let b := s.filterWord c e 2 % 2 ^ 29
  bitOf h 2 == f.xtd && (bitOf h 2 || (a < 2 ^ 11 && b < 2 ^ 11)) &&
    (if h % 4 = 1 then a ≤ f.id && f.id ≤ b
     else if h % 4 = 2 then f.id == a || f.id == b
     else if h % 4 = 3 then f.id &&& b == a &&& b
     else false)

/-- Word 0 of a receive element (R357). -/
def rxHead (f : CanFrame) (trunc lone : Bool) (filter : Nat) : Nat :=
  f.dlc + 16 * b2n f.fdf + 32 * b2n f.brs + 64 * b2n f.esi + 128 * b2n f.rtr + 256 * b2n f.xtd + 512 * b2n trunc +
    1024 * b2n lone + 65536 * filter

/-- Bytes as a number, least significant first. -/
def bytesNat (l : List Byte) : Nat := l.foldr (fun b n => b.toNat + 256 * n) 0

/-- Write a receive element of `words` data words at word address `a` (R357). -/
def canElement (s : State) (a words : Nat) (f : CanFrame) (lone : Bool) (filter ts : Nat) : State :=
  let s := s.msgPut a (rxHead f (4 * words < f.data.length) lone filter)
  let s := ((s.msgPut (a + 1) f.id).msgPut (a + 2) ts).msgPut (a + 3) (ts / 2 ^ 32)
  let n := min f.data.length (4 * words)
  let r := s.padBytes (f.data.take n) ((n + 3) / 4 * 4)
  (List.range ((n + 3) / 4)).foldl (fun s k => s.msgPut (a + 4 + k) (bytesNat (r.1.drop (4 * k) |>.take 4))) r.2

/-! The fields of receive queue `q`. -/
def rxBase (q : Nat) : Fld := if q = 0 then CAN_RXQ0_CFG_BASE else CAN_RXQ1_CFG_BASE
def rxDepth (q : Nat) : Fld := if q = 0 then CAN_RXQ0_CFG_DEPTH else CAN_RXQ1_CFG_DEPTH
def rxLevel (q : Nat) : Fld := if q = 0 then CAN_RXQ0_CFG_LEVEL else CAN_RXQ1_CFG_LEVEL
def rxOver (q : Nat) : Fld := if q = 0 then CAN_RXQ0_CFG_OVERWRITE else CAN_RXQ1_CFG_OVERWRITE
def rxUsed (q : Nat) : Fld := if q = 0 then CAN_RXQ0_STAT_USED else CAN_RXQ1_STAT_USED
def rxRd (q : Nat) : Fld := if q = 0 then CAN_RXQ0_STAT_RD else CAN_RXQ1_STAT_RD
def rxWr (q : Nat) : Fld := if q = 0 then CAN_RXQ0_STAT_WR else CAN_RXQ1_STAT_WR
def rxFull (q : Nat) : Fld := if q = 0 then CAN_RXQ0_STAT_FULL else CAN_RXQ1_STAT_FULL
def rxLost (q : Nat) : Fld := if q = 0 then CAN_LOST_Q0 else CAN_LOST_Q1
def rxSize (q : Nat) : Fld := if q = 0 then CAN_DSIZE_Q0 else CAN_DSIZE_Q1

/-- Store a frame in receive queue `q` (R361, R362). -/
def canQueue (s : State) (c q : Nat) (f : CanFrame) (lone : Bool) (filter ts : Nat) : State :=
  let p := canPage c
  let depth := s.get (rxDepth q) p
  let used := s.get (rxUsed q) p
  let words := dsizeWords (s.get (rxSize q) p)
  let at_ (k : Nat) : Nat := s.get (rxBase q) p + k * (4 + words)
  if used < depth then
    let wr := s.get (rxWr q) p
    let s := canElement s (at_ wr) words f lone filter ts
    let s := (s.set (rxWr q) p ((wr + 1) % depth)).set (rxUsed q) p (used + 1)
    let s := s.irq p (4 * q)
    let s := if used + 1 = s.get (rxLevel q) p then s.irq p (4 * q + 1) else s
    if used + 1 = depth then (s.put (rxFull q) p true).irq p (4 * q + 2) else s
  else
    let s := s.upCan c fun x => { x with loss := some { tb := s.tb, queue := q, frame := f, lone := lone, filter := filter, ts := ts,
                                                        seen := bitOf (s.get H_IRQ_RAW p) (4 * q + 3) } }
    let s := (s.bump (rxLost q) p).irq p (4 * q + 3)
    if s.flag (rxOver q) p && depth != 0 then
      let rd := s.get (rxRd q) p
      let s := canElement s (at_ rd) words f lone filter ts
      ((s.set (rxRd q) p ((rd + 1) % depth)).set (rxWr q) p ((rd + 1) % depth)).irq p (4 * q)
    else s

/-- Store a frame in fixed receive slot `b` (R363). -/
def canSlot (s : State) (c b : Nat) (f : CanFrame) (filter ts : Nat) : State :=
  let p := canPage c
  if b < s.get CAN_RXSLOT_COUNT p then
    let words := dsizeWords (s.get CAN_DSIZE_RXSLOT p)
    let s := canElement s (s.get CAN_RXSLOT_BASE p + b * (4 + words)) words f false filter ts
    let nf := if b < 32 then CAN_RXSLOT_NEW0 else CAN_RXSLOT_NEW1
    let s := if bitOf (s.get nf p) (b % 32) then s.bump CAN_SLOT_OVW p else s
    ((s.set nf p (setBit (s.get nf p) (b % 32))).upTt c fun x => { x with seen := setBit x.seen b }).irq p 8
  else s

/-- What filter element `e` does with a frame (R358, R328). -/
def canAction (s : State) (c e : Nat) (f : CanFrame) (ts : Nat) : State :=
  let h := s.filterWord c e 0
  let act := bitsOf h 4 3
  let s := if 4 ≤ act then s.irq (canPage c) 22 else s
  let s := if act % 4 = 1 then canQueue s c 0 f false e ts else if act % 4 = 2 then canQueue s c 1 f false e ts
    else if act % 4 = 3 then canSlot s c (bitsOf h 8 6) f e ts else s
  confirmAll s fun s i => s.get AHD_CONFIRM_KIND ahdPage i == 4 && s.get AHD_CONFIRM_CAN ahdPage i == c && s.get AHD_CONFIRM_IDX ahdPage i == e

/-- Filter a valid frame and store or reject it (R359). -/
def canFilter (s : State) (c : Nat) (f : CanFrame) (ts : Nat) : State :=
  let p := canPage c
  if f.rtr && !s.flag (if f.xtd then CAN_NOMATCH_REM_EXT else CAN_NOMATCH_REM_BASE) p then s
  else
    match (List.range (s.get CAN_FILTERS_COUNT p)).find? (s.filterHit c f) with
    | some e => canAction s c e f ts
    | none =>
      let a := s.get (if f.xtd then CAN_NOMATCH_EXT_ACT else CAN_NOMATCH_BASE_ACT) p
      if a = 1 then canQueue s c 0 f true 0 ts else if a = 2 then canQueue s c 1 f true 0 ts else s

/-- The bus is idle again and the next frame is offered. -/
def canIdle (s : State) (c : Nat) : State :=
  let p := canPage c
  let s := if s.get CAN_BUSSTAT_ACTIVITY p = 0 || s.flag CAN_BUSSTAT_BUSOFF p then s else s.set CAN_BUSSTAT_ACTIVITY p 1
  canArb s c

/-- A frame received without error (R359, R364, R367, R416). -/
def canReceive (s : State) (c : Nat) (f : CanFrame) (edge : Nat) : State :=
  let s := canGood (canAttempt s c) c
  let x := s.canH c
  let r := if 127 < x.re then s.fresh 9 else (0, s)
  let s := canCounts r.2 c x.te (if 127 < x.re then 119 + r.1 else x.re - 1)
  let s := canFilter s c f (s.sof c edge)
  let s := if c < 6 && !s.flag CTRX_FW_NM_ONLY ctrxPage c then fwComm s c else s
  canIdle s c

/-- The transmit timestamp registers show the oldest entry (R368). -/
def txtsShow (s : State) (c : Nat) : State :=
  let p := canPage c
  let q := (s.canH c).tsq
  let e := q.headD (0, 0)
  let s := ((s.set CAN_TXTS_HEAD_TAG p e.1).set CAN_TXTS_HEAD_FILL p q.length).put CAN_TXTS_HEAD_VALID p (!q.isEmpty)
  (s.set CAN_TXTS_LO p e.2).set CAN_TXTS_HI p (e.2 / 2 ^ 32)

/-- A transmit timestamp arrives at its queue (R368). -/
def txtsPush (s : State) (c tag ts : Nat) : State :=
  let p := canPage c
  if (s.canH c).tsq.length < 16 then (txtsShow (s.upCan c fun x => { x with tsq := x.tsq ++ [(tag, ts)] }) c).irq p 11
  else
    let s := s.bump CAN_TXTS_DROPS p
    if s.flag CAN_TXTS_HEAD_OVF p then s else (s.put CAN_TXTS_HEAD_OVF p true).irq p 12

/-- TXTS_POP (R368): rejected while the queue is empty. -/
def txtsPop (c : Nat) (s : State) : Acted :=
  if (s.canH c).tsq.isEmpty then (s, true) else (txtsShow (s.upCan c fun x => { x with tsq := x.tsq.tail }) c, false)

/-- Release the `n` oldest elements of a receive queue (R361). -/
def rxFree (s : State) (c q n : Nat) : State :=
  let p := canPage c
  let used := s.get (rxUsed q) p
  let s := (s.set (rxRd q) p ((s.get (rxRd q) p + n) % s.get (rxDepth q) p)).set (rxUsed q) p (used - n)
  s.put (rxFull q) p (n = 0 && s.flag (rxFull q) p)

/-- A release in the BCLK in which a frame met the full queue acts first (R378): no frame is lost, and a frame that overwrote the oldest
element has taken the place of one that is released. -/
def rxFreeFirst (s : State) (c q n : Nat) (l : CanLoss) : State :=
  let p := canPage c
  let s := (s.set (rxLost q) p (s.get (rxLost q) p - 1)).upCan c fun x => { x with loss := none }
  let s := if l.seen then s else s.set H_IRQ_RAW p (clrBit (s.get H_IRQ_RAW p) (4 * q + 3))
  if s.flag (rxOver q) p then rxFree s c q (n - 1) else canQueue (rxFree s c q n) c q l.frame l.lone l.filter l.ts

/-- A write of N to RXQn_REL (R361, R378). -/
def rxRelease (c q v : Nat) (s : State) : Acted :=
  let n := v % 128
  if n = 0 || s.get (rxUsed q) (canPage c) < n then (s, true)
  else
    match (s.canH c).loss with
    | some l => (if l.tb = s.tb && l.queue = q then rxFreeFirst s c q n l else rxFree s c q n, false)
    | none => (rxFree s c q n, false)

/-! Time-triggered operation. -/

/-- Word `w` of trigger element `e` (R371). -/
def State.trigWord (s : State) (c e w : Nat) : Nat := s.msgGet (s.get CAN_TRIGLIST_BASE (canPage c) + 2 * e + w)

/-! The fields of a trigger element's first word. -/
def trigMark (w : Nat) : Nat := w % 65536
def trigRepeat (w : Nat) : Nat := bitsOf w 16 3
def trigOffset (w : Nat) : Nat := bitsOf w 20 6
def trigAction (w : Nat) : Nat := bitsOf w 28 3

/-- Whether the trigger list is in order and legal (R371, R372). -/
def State.trigOk (s : State) (c : Nat) : Bool :=
  (List.range (s.get CAN_TRIGLIST_COUNT (canPage c))).all fun e =>
    let w := s.trigWord c e 0
    let a := trigAction w
    a != 0 && a != 7 && trigRepeat w < 7 && trigOffset w < 2 ^ trigRepeat w && (e == 0 || trigMark (s.trigWord c (e - 1) 0) ≤ trigMark w)

/-- The message-status count increments (R371, R372). -/
def ttMiss (s : State) (c : Nat) : State :=
  let s := s.upTt c fun x => { x with msc := x.msc + 1, bad := true }
  if s.get CAN_SCHED_CFG_MSC_LIM (canPage c) < (s.canH c).tt.msc then ttError s c 1 else s

/-- MSTATE becomes `v` (R374). -/
def ttMstate (s : State) (c v : Nat) : State :=
  let p := canPage c
  if s.get CAN_SCHED_STAT_MSTATE p = v then s else (s.set CAN_SCHED_STAT_MSTATE p v).irq p 20

/-- The schedule stops (R374, R376). -/
def ttStop (s : State) (c : Nat) : State :=
  let s := s.upTt c fun x => { x with running := false, stop := false, window := none, refDue := false, cycle := false, awd := none }
  ttMstate (s.put CAN_SCHED_STAT_SYNC (canPage c) false) c 0

/-- SCHED_CTRL.START (R372): a wrong trigger list gives level S3. -/
def ttStart (s : State) (c : Nat) : State :=
  let p := canPage c
  if !s.ttOn c || !s.flag H_CTRL_EN p then s
  else
    let ms := s.get CAN_SCHED_CFG_AWD p
    let s := s.upTt c fun _ => { running := true, start := s.tb, awd := if ms = 0 then none else some (s.tb + ms * 1000000) }
    let s := ttMstate (ttLevel s c 0) c (b2n (s.flag CAN_SCHED_CFG_MASTER p))
    if s.trigOk c then s else ttLevel s c 3

/-- AWD_SERVE (R373). -/
def awdServe (s : State) (c : Nat) : State :=
  let ms := s.get CAN_SCHED_CFG_AWD (canPage c)
  if (s.canH c).tt.running && ms != 0 then s.upTt c fun x => { x with awd := some (s.tb + ms * 1000000) } else s

/-- A write to SCHED_CTRL (R374). -/
def schedEff (c v : Nat) (s : State) : State :=
  let s := if bitOf v 0 then ttStart s c else s
  let s := if bitOf v 1 then s.upTt c fun x => { x with stop := x.running } else s
  if bitOf v 2 then awdServe s c else s

/-- The window that is open ends: a frame that has not started counts as missed (R371). -/
def ttWindowEnd (s : State) (c : Nat) : State :=
  match (s.canH c).tt.window with
  | some b =>
    let s1 := s.upTt c fun x => { x with window := none, began := false }
    if bitOf (s.get CAN_TX_PEND (canPage c)) b && !(s.canH c).tt.began then ttMiss s1 c else s1
  | none => s

/-- The basic cycle ends (R371, R372, R374): two valid ones in a row return levels S1 and S2 to S0. -/
def ttCycleEnd (s : State) (c : Nat) : State :=
  let x := (s.canH c).tt
  let n := if x.bad then 0 else x.valid + 1
  let l := s.get CAN_SCHED_STAT_ERR_LEVEL (canPage c)
  let s := if (l = 1 || l = 2) && 2 ≤ n then (ttLevel s c 0).upTt c fun x => { x with msc := 0 } else s
  let s := s.upTt c fun x => { x with valid := n, bad := false, cycle := false }
  if x.stop then ttStop s c else s

/-- What trigger element `e` does at its time mark (R371). -/
def ttAct (s : State) (c e : Nat) : State :=
  let p := canPage c
  let a := trigAction (s.trigWord c e 0)
  let slot := s.trigWord c e 1 % 64
  let s := ttWindowEnd s c
  if a = 1 then
    (if s.flag CAN_SCHED_CFG_MASTER p then canArb (s.upTt c fun x => { x with refDue := true }) c else s)
  else if a = 2 || a = 3 then
    (if bitOf (s.get CAN_TX_STAGED p) slot && slot < 32 then ttMiss s c
     else if bitOf (s.get CAN_TX_PEND p) slot && slot < 32 then canArb (s.upTt c fun x => { x with window := some slot, began := false }) c
     else s)
  else if a = 4 then (if bitOf (s.canH c).tt.seen slot then s else ttMiss s c)
  else if a = 5 then ttError s c 2
  else ttCycleEnd s c

/-- Trigger element `e` comes to its time mark (R371, R372). -/
def ttMark (s : State) (c e : Nat) : State :=
  let p := canPage c
  let x := (s.canH c).tt
  let w := s.trigWord c e 0
  if s.domOn 3 && s.ttOn c && x.running && x.next ≤ e && e < s.get CAN_TRIGLIST_COUNT p && trigMark w ≤ s.cycleTime c then
    let s := s.upTt c fun x => { x with next := e + 1 }
    if s.get CAN_SCHED_STAT_CYCLE p % 2 ^ trigRepeat w = trigOffset w then ttAct s c e else s
  else s

/-- A basic cycle starts at a reference with timestamp `ts` (R369, R372, R374); it ends one that no CYCLE_END has ended. -/
def ttCycle (s : State) (c ts cyc mark : Nat) : State :=
  let p := canPage c
  let s := if (s.canH c).tt.cycle then ttCycleEnd s c else s
  let s := ((s.set CAN_SCHED_STAT_CYCLE p cyc).put CAN_SCHED_STAT_SYNC p true).upTt c fun x =>
    { x with start := ts, mark := mark, next := 0, seen := 0, window := none, began := false, refDue := false, lost := false,
             cycle := x.running }
  s.irq p 18

/-- Whether a frame is the reference message of controller `c` (R370). -/
def State.isRef (s : State) (c : Nat) (f : CanFrame) : Bool :=
  let p := canPage c
  !f.rtr && f.xtd == s.flag CAN_REFMSG_XTD p && f.id / 8 == s.get CAN_REFMSG_ID p / 8 &&
    (if s.flag CAN_SCHED_CFG_LEVEL2 p then 4 ≤ f.data.length else 1 ≤ f.data.length)

/-- A slave at level 2 sets TUR after a pair of reference messages (R369). -/
def ttTur (s : State) (c ts mark : Nat) : State :=
  let p := canPage c
  match (s.canH c).tt.prev with
  | some (m, t) =>
    let d := ts - t
    if s.flag CAN_SCHED_CFG_LEVEL2 p && d != 0 then
      let v := (mark + 65536 - m) % 65536 * s.get CAN_NTU_CFG_NTU p * 4294967296 / d
      if 4273492460 ≤ v && v ≤ 4316442132 then
        (s.set CAN_SCHED_TUR p (v / 65536)).upTt c fun x => { x with tur := v }
      else ttError s c 2
    else s
  | none => s

/-- A valid reference message arrives (R369, R370). -/
def ttReference (s : State) (c : Nat) (f : CanFrame) (edge : Nat) : State :=
  let p := canPage c
  if s.domOn 3 && s.ttOn c && (s.canH c).tt.running && s.isRef c f then
    let ts := s.sof c edge
    let mark := (f.data.getD 2 0).toNat + 256 * (f.data.getD 3 0).toNat
    let s := ttWindowEnd (ttMstate s c (b2n (s.flag CAN_SCHED_CFG_MASTER p))) c
    let s := (ttTur s c ts mark).upTt c fun x => { x with prev := some (mark, ts) }
    ttCycle s c ts ((f.data.getD 0 0).toNat % 64) (if s.flag CAN_SCHED_CFG_LEVEL2 p then mark else 0)
  else s

/-- The controller's own reference message has been sent: it is the current time master (R369, R370). -/
def ttSent (s : State) (c ts : Nat) : State :=
  let p := canPage c
  let x := (s.canH c).tt
  let ntu := max (s.get CAN_NTU_CFG_NTU p) 1
  let cyc := s.nextCycle c
  let s := ((ttMstate s c 2).set CAN_SCHED_TUR p 65536).upTt c fun x => { x with tur := 4294967296 }
  ttCycle s c ts cyc ((x.mark + (ts - x.start) / ntu) % 65536)

/-! Frame ends. -/

/-- The frame in transmission has been sent (R364, R368). -/
def canSent (s : State) (c edge : Nat) : State :=
  match (s.canH c).cur with
  | none => s
  | some b =>
    let p := canPage c
    let ts := s.sof c edge
    let h := (s.canH c).head
    let s := canGood (s.upCan c fun x => { x with cur := none, cancel := false, frame := none }) c
    let s := canCounts s c ((s.canH c).te - 1) (s.canH c).re
    let s :=
      if b = 32 then ttSent s c ts
      else
        let s := (s.set CAN_TX_PEND p (clrBit (s.get CAN_TX_PEND p) b)).set CAN_TX_DONE p (setBit (s.get CAN_TX_DONE p) b)
        let s := (s.irq p 9).upTt c fun x => { x with window := if x.window == some b then none else x.window }
        if bitOf h 9 then txtsPush s c (bitsOf h 16 8) ts else s
    canIdle (if c < 6 then s.upXcv c fun x => { x with toOff := false } else s) c

/-- An error, a lost arbitration (0) or a protocol exception (6) ends a frame (R347, R364, R374); an own frame that does not switch its bit
rate has no data phase (R86). -/
def canFail (s : State) (c kind : Nat) (fast : Bool) (te re : Nat) : State :=
  let p := canPage c
  let fast := fast && ((s.canH c).cur.isNone || (s.canH c).brs)
  let s := if c < 6 then s.upXcv c fun x => { x with toOff := false } else s
  if kind = 0 then (canAttempt s c).set CAN_BUSSTAT_ACTIVITY p 2
  else if kind = 6 && !s.flag CAN_CFG_PROTEX_ERR p then
    ((canAttempt s c).put CAN_BUSSTAT_PROTEX p true).set CAN_BUSSTAT_ACTIVITY p 0
  else
    let k := if kind = 6 then 4 else kind
    let s := (canAttempt s c).set (if fast then CAN_BUSSTAT_DATA_ERR else CAN_BUSSTAT_ARB_ERR) p k
    let s := s.irq p (if fast then 17 else 16)
    canIdle (canCounts s c ((s.canH c).te + te) (min ((s.canH c).re + re) 128)) c

/-- A clock freeze loses the frame in progress and takes a schedule to S2 (R85, R378). -/
def canFreeze (s : State) : State :=
  s.each (List.range 8) fun s c =>
    let s := if (s.canH c).cur.isSome then (canAttempt s c).set CAN_BUSSTAT_ACTIVITY (canPage c) 1 else s
    ttError s c 2

/-- Clearing CTRL.EN cancels what is pending and stops the schedule (R376). -/
def canDrain (s : State) (c : Nat) : State :=
  let p := canPage c
  let cur := match (s.canH c).cur with | some b => if b < 32 then 2 ^ b else 0 | none => 0
  let s := canNotSent s c (andNot (s.get CAN_TX_PEND p) cur)
  if c < 4 then ttStop s c else s

/-- Setting CTRL.EN starts bus integration (R376). -/
def canEnable (s : State) (c : Nat) : State :=
  (s.set CAN_BUSSTAT_ACTIVITY (canPage c) 0).upCan c fun x => { x with recov := s.flag CAN_BUSSTAT_BUSOFF (canPage c) }

/-! The meanings of the CAN commands. -/

/-- CAN_FRAME_RECEIVED (R359): SOF reached the controller at TB `edge`; a controller with FD_EN 0 receives no FD frame. -/
def execCanFrameReceived (c : Nat) (f : CanFrame) (edge : Nat) (s : State) : Host.Outcome State Fault Refusal :=
  .next (if s.canAlive c && (6 ≤ c || s.modeAct c == 1 || s.modeAct c == 2) && (!f.fdf || s.flag CAN_CFG_FD_EN (canPage c)) then
    canReceive s c f edge else s)

/-- Whether the frames of controller `c` reach a bus, or its own loop-back (R350, R351, R374); TXD of a sleeping CAN6 or CAN7 is held
recessive (R423). -/
def State.canDrives (s : State) (c : Nat) : Bool :=
  s.flag CAN_CFG_LOOPBACK (canPage c) || (6 ≤ c && s.nmSt c != 5) || (s.modeAct c == 1 && !(s.xcv c).toOff && !(s.xcv c).thermOff)

/-- CAN_FRAME_SENT (R364, R378). -/
def execCanFrameSent (c edge : Nat) (s : State) : Host.Outcome State Fault Refusal :=
  .next (if s.canAlive c && s.canDrives c then canSent s c edge else s)

/-- CAN_FRAME_ERROR (R347): `te` and `re` are what ISO 11898-1 adds to the counters. -/
def execCanFrameError (c kind : Nat) (fast : Bool) (te re : Nat) (s : State) : Host.Outcome State Fault Refusal :=
  .next (if s.canAlive c then canFail s c kind fast te re else s)

/-- CAN_TX_REQ (R364). -/
def execCanTxReq (m : Master) (c : Nat) (v : Word) (s : State) : Host.Outcome State Fault Refusal :=
  .next (accessWrite s m (canPage c) 0x8C v.toNat fun _ s => canReq s c v.toNat)

/-- CAN_TX_ABORT (R365). -/
def execCanTxAbort (m : Master) (c : Nat) (v : Word) (s : State) : Host.Outcome State Fault Refusal :=
  .next (accessWrite s m (canPage c) 0x90 v.toNat fun _ s => canAbort s c v.toNat)

/-- CAN_RXQ_REL (R361). -/
def execCanRxqRel (m : Master) (c q : Nat) (v : Word) (s : State) : Host.Outcome State Fault Refusal :=
  .next (accessWrite s m (canPage c) (if q = 0 then 0x64 else 0x70) v.toNat fun _ s => doAct (canPage c) (rxRelease c q v.toNat s))

/-- CAN_RXSLOT_NEW_CLEAR (R363). -/
def execCanRxslotNewClear (m : Master) (c w : Nat) (v : Word) (s : State) : Host.Outcome State Fault Refusal :=
  let off := if w = 0 then 0x80 else 0x84
  .next (accessWrite s m (canPage c) off v.toNat fun v s => plainWrite s (canPage c) off v)

/-- CAN_TXTS_POP (R368). -/
def execCanTxtsPop (m : Master) (c : Nat) (s : State) : Host.Outcome State Fault Refusal :=
  .next (accessWrite s m (canPage c) 0xB4 1 fun _ s => doAct (canPage c) (txtsPop c s))

/-- CAN_BUSOFF_RECOVERY (R374): with BUSOFF_AUTO, or after EN was set again. -/
def execCanBusoffRecovery (c : Nat) (s : State) : Host.Outcome State Fault Refusal :=
  let p := canPage c
  if s.domOn 3 && s.flag H_CTRL_EN p && s.flag CAN_BUSSTAT_BUSOFF p && (s.flag CAN_CFG_BUSOFF_AUTO p || (s.canH c).recov) then
    .next ((canCounts (s.put CAN_BUSSTAT_BUSOFF p false) c 0 0).upCan c fun x => { x with recov := false })
  else .next s

/-- CAN_INTEGRATION_COMPLETE (R376). -/
def execCanIntegrationComplete (c : Nat) (s : State) : Host.Outcome State Fault Refusal :=
  let p := canPage c
  .next (if s.domOn 3 && s.flag H_CTRL_EN p && s.get CAN_BUSSTAT_ACTIVITY p = 0 && !s.flag CAN_BUSSTAT_BUSOFF p then
    canArb (s.set CAN_BUSSTAT_ACTIVITY p 1) c else s)

/-- CAN_TXD_TIMEOUT (R351). -/
def execCanTxdTimeout (t : Nat) (s : State) : Host.Outcome State Fault Refusal :=
  .next (if s.modeAct t = 1 then ((s.put CTRX_STAT_TXD_TO ctrxPage true t).upXcv t fun x => { x with toOff := true }).irq ctrxPage (4 * t) else s)

/-- CAN_BUS_DOMINANT_TIMEOUT (R352). -/
def execCanBusDominantTimeout (t : Nat) (s : State) : Host.Outcome State Fault Refusal :=
  .next ((s.put CTRX_STAT_BUS_DOM ctrxPage true t).irq ctrxPage (4 * t + 1))

/-- CAN_THERMAL_SHUTDOWN (R351). -/
def execCanThermalShutdown (t : Nat) (s : State) : Host.Outcome State Fault Refusal :=
  .next (((s.put CTRX_STAT_THERMAL ctrxPage true t).upXcv t fun x => { x with thermOff := true }).irq ctrxPage (4 * t + 2))

/-- CAN_THERMAL_RECOVERY (R351). -/
def execCanThermalRecovery (t : Nat) (s : State) : Host.Outcome State Fault Refusal :=
  .next (s.upXcv t fun x => { x with thermOff := false })

/-- VCC5_REGULATION_CHANGE (R350). -/
def execVcc5RegulationChange (low : Bool) (s : State) : Host.Outcome State Fault Refusal := .next (vcc5Turn s low)

/-- CTRX_MODE_WRITE (R350). -/
def execCtrxModeWrite (m : Master) (t : Nat) (v : Word) (s : State) : Host.Outcome State Fault Refusal :=
  .next (accessWrite s m ctrxPage (0x100 + 0x40 * t) v.toNat (ctrxModeEff t))

/-- SCHED_START (R372). -/
def execSchedStart (m : Master) (c : Nat) (s : State) : Host.Outcome State Fault Refusal :=
  .next (accessWrite s m (canPage c) 0x110 1 (schedEff c))

/-- SCHED_STOP (R374). -/
def execSchedStop (m : Master) (c : Nat) (s : State) : Host.Outcome State Fault Refusal :=
  .next (accessWrite s m (canPage c) 0x110 2 (schedEff c))

/-- AWD_SERVE (R373). -/
def execAwdServe (m : Master) (c : Nat) (s : State) : Host.Outcome State Fault Refusal :=
  .next (accessWrite s m (canPage c) 0x110 4 (schedEff c))

/-- AWD_EXPIRY (R373): not while the page is held. -/
def execAwdExpiry (c : Nat) (s : State) : Host.Outcome State Fault Refusal :=
  match (s.canH c).tt.awd with
  | some t => .next (if s.domOn 3 && t ≤ s.tb && !s.flag H_STAT_HELD (canPage c) then ttLevel s c 3 else s)
  | none => .next s

/-- TIME_MARK (R371): trigger element `e`. -/
def execTimeMark (c e : Nat) (s : State) : Host.Outcome State Fault Refusal := .next (ttMark s c e)

end Sys2Proof.Machine
end

