-- ==== Sys2Proof/Machine/TimeBase.lean ====
section
/-! DEFINITION. The time base: increments, ticks, handovers and uncertainty (R114 to R123), captures (R129, R130) and the cascade
counters (R131 to R134). -/

namespace Sys2Proof.Machine

/-- The page of the time base. -/
def tbPage : Nat := 5

/-- The page of CLK. -/
def clkPage : Nat := 1

/-- Whether TB counts on LFCLK. -/
def State.onLf (s : State) : Bool := s.flag TB_STAT_SRC tbPage

/-- Growth of UNCERT in 1/64 ns for each ns of TB (R122). -/
def State.uncRate (s : State) : Nat :=
  if s.onLf then (if s.flag CLK_STAT_LF_ON_RC clkPage then 4 else 0) else if s.flag CLK_STAT_REF_ACT clkPage then 1 else 0

/-- Bring STAT.UNCERT_GROW up to date; a start of growth raises bit 2 (R117, R122). -/
def uncShow (s : State) : State :=
  let grow := s.uncRate != 0
  let was := s.flag TB_STAT_UNCERT_GROW tbPage
  let s := s.put TB_STAT_UNCERT_GROW tbPage grow
  if grow && !was then s.irq tbPage 2 else s

/-- UNCERT has reached its largest value (R122). -/
def uncSat (s : State) : State :=
  let s := (s.set TB_UNCERT tbPage 4294967295).put TB_STAT_COARSE tbPage true
  if s.flag TB_STAT_UNCERT_SAT tbPage then s else (s.put TB_STAT_UNCERT_SAT tbPage true).irq tbPage 3

/-- UNCERT takes the value `v` µs, or saturates (R122). -/
def uncPut (s : State) (v : Nat) : State :=
  if v < 4294967295 then (s.set TB_UNCERT tbPage v).put TB_STAT_COARSE tbPage (v != 0) else uncSat s

/-- UNCERT grows with `el` ns of TB added by ticks, and saturates (R122). -/
def uncAdd (s : State) (el : Nat) : State :=
  if s.uncRate = 0 then s
  else
    let u := s.tbHid.unc + el * s.uncRate
    uncPut { s with tbHid := { s.tbHid with unc := u % 64000 } } (s.get TB_UNCERT tbPage + u / 64000)

/-- Add a 32.32 increment to TB (R114). -/
def tbAdd (s : State) (int frac : Nat) : State :=
  let f := s.tbFrac + frac
  let el := int + f / 2 ^ 32
  uncAdd { s with tb := (s.tb + el) % 2 ^ 64, tbFrac := f % 2 ^ 32 } el

/-- An increment pair from TB.INC takes effect (R115). -/
def incApply (s : State) : State :=
  { s with tbHid := { s.tbHid with incInt := s.get TB_INC_INT tbPage, incFrac := s.get TB_INC_FRAC tbPage } }

/-- Whether an increment lies within 250 ppm of 5 ns (R115). -/
def incOk (int frac : Nat) : Bool := 21469467771 ≤ int * 2 ^ 32 + frac && int * 2 ^ 32 + frac ≤ 21480205189

/-- The page of network time. -/
def ntPage : Nat := 0x80

/-- Whether network time owns TB.INC, so that writes to it are rejected (R404). -/
def State.ntOwns (s : State) : Bool := s.domOn 3 && s.flag H_CTRL_EN ntPage && s.get NTIME_CFG_SRC ntPage != 0

/-- A write of INC_FRAC: staged until INC_INT is written (R115). -/
def incFracEff (v : Nat) (s : State) : State := if s.ntOwns then s.reject tbPage else s.set TB_INC_FRAC tbPage v

/-- A write of INC_INT (R115). -/
def incIntEff (v : Nat) (s : State) : State :=
  if !s.ntOwns && incOk (v % 65536) (s.get TB_INC_FRAC tbPage) then incApply (s.set TB_INC_INT tbPage v) else s.reject tbPage

/-- A measurement of LFINC under way is discarded (R116). -/
def trimDrop (s : State) : State := { s with tbHid := { s.tbHid with trimFrom := none } }

/-- TB with its fraction, in 2^-32 ns. -/
def State.tbFull (s : State) : Nat := s.tb * 2 ^ 32 + s.tbFrac

/-- The end of a run of 1,024 LF periods (R116): the quotient goes to LFINC and the next run begins. -/
def lfTrim (s : State) : State :=
  if s.onLf || s.tbHid.hold || s.flag CLK_STAT_REF_ACT clkPage || !s.flag CLK_STAT_PLL_LOCK clkPage then s
  else
    let s1 : State := match s.tbHid.trimFrom with
      | some t =>
        let q := (s.tbFull - t) / 1024
        ((s.set TB_LFINC_INT tbPage (q / 2 ^ 32)).set TB_LFINC_FRAC tbPage q).put TB_STAT_TRIM_VALID tbPage true
      | none => s
    { s1 with tbHid := { s1.tbHid with trimFrom := some s1.tbFull } }

/-- A handover to LFCLK is requested: TB holds its value (R120). -/
def holdBegin (s : State) : State :=
  if s.onLf || s.tbHid.hold then s else trimDrop { s with tbHid := { s.tbHid with hold := true, holdCnt := 0 } }

/-- The LF edge after the request: TB adds LFINC and the hold goes to HANDOVER_RESID, rounded down to whole ns (R120; log 84). -/
def tbToLf (s : State) : State :=
  if s.tbHid.hold && !s.onLf then
    let r := s.tbHid.holdCnt * (s.tbHid.incInt * 2 ^ 32 + s.tbHid.incFrac) / 2 ^ 32
    let s := s.set TB_HANDOVER_RESID tbPage (satAdd 32 (s.get TB_HANDOVER_RESID tbPage) r)
    let s := s.put TB_STAT_RESID_PEND tbPage (s.get TB_HANDOVER_RESID tbPage != 0)
    let s : State := { s with tbHid := { s.tbHid with hold := false, holdCnt := 0 } }
    uncShow ((s.put TB_STAT_SRC tbPage true).irq tbPage 0)
  else s

/-- The first LF edge after PLL lock: TB adds CCLK increments again (R120). -/
def tbToCclk (s : State) : State :=
  if s.onLf && s.flag CLK_STAT_PLL_LOCK clkPage && !s.clk.frozen then
    uncShow ((s.put TB_STAT_SRC tbPage false).irq tbPage 1)
  else s

/-- ACT.UNCERT_CLR (R117, R122). -/
def uncClear (s : State) : State :=
  let s := ((s.set TB_UNCERT tbPage 0).put TB_STAT_UNCERT_SAT tbPage false).put TB_STAT_COARSE tbPage false
  { s with tbHid := { s.tbHid with unc := 0 } }

/-! Captures and cascade counters. -/

/-- The page of compare channel `g`. -/
def cmpPage (g : Nat) : Nat := 6 + g / 16

/-- The page of the cascade counters. -/
def cascPage : Nat := 0x0A

/-- Whether an edge setting of R126 takes an edge; 0b00, which R126 does not list, takes none (log 80). -/
def edgeTakes (cfg : Nat) (rising : Bool) : Bool := cfg == 3 || cfg == (if rising then 1 else 2)

/-- Channel `g` takes the capture of an edge at TB `t` (R130). -/
def captureAt (s : State) (g t : Nat) : State :=
  let p := cmpPage g
  let i := g % 16
  let s := if s.flag CMP_STAT_CAPT p i then s.put CMP_STAT_OVR p true i else s
  let s := (s.put CMP_STAT_CAPT p true i).set CMP_STAT_SEQ p (s.get CMP_STAT_SEQ p i + 1) i
  ((s.set CMP_CAP_LO p t i).set CMP_CAP_HI p (t / 2 ^ 32) i).irq p i

/-- Channel `g` takes a capture now. -/
def captureNow (s : State) (g : Nat) : State := captureAt s g s.tb

/-- Whether channel `g` captures source `src` (R126, R129). -/
def State.captures (s : State) (g src : Nat) : Bool :=
  s.get CMP_CFG_MODE (cmpPage g) (g % 16) == 2 && src != 0 && s.get CMP_CFG_SRC (cmpPage g) (g % 16) == src

/-- Counter `k` adds one count; a wrap raises its bit and leaves a carry for its linked odd counter (R131, R132). -/
def cascInc (s : State) (k : Nat) : State :=
  let v := s.get CASC_CNT cascPage k + 1
  let s := s.set CASC_CNT cascPage v k
  if v < 2 ^ 32 then s
  else
    let s := s.irq cascPage k
    if k % 2 = 0 && s.flag CASC_CFG_LINK cascPage (k + 1) then s.setCasc (k + 1) { s.cascH (k + 1) with carry := true } else s

/-- Whether the KV1 is in park: every domain is off or in retention. -/
def State.inPark (s : State) : Bool := !s.sup.inReset && (List.range 12).all fun n => !s.domOn n

/-- Whether a source counts in park (R131). -/
def parkSource (src : Nat) : Bool := src == 0xE1 || (1 ≤ src && src < 0x31) || (0x49 ≤ src && src < 0x4D)

/-- Whether counter `k` counts source `src` now (R131). -/
def State.cascTakes (s : State) (k src : Nat) : Bool :=
  s.flag CASC_CFG_RUN cascPage k && !(k % 2 == 1 && s.flag CASC_CFG_LINK cascPage k) && src != 0 &&
    s.get CASC_CFG_SRC cascPage k == src && (!s.inPark || (s.flag CASC_CFG_PARK cascPage k && parkSource src))

/-- One count of counter `k`; lost while a write waits for the counter clock (R134). -/
def cascCount (s : State) (k : Nat) : State := if (s.cascH k).write.isSome then s else cascInc s k

/-- An event inside the KV1 reaches the capture channels and cascade counters that name it, whatever their edge (R129, R131). -/
def srcEvent (s : State) (src : Nat) : State :=
  let s := s.each (List.range 64) fun s g => if s.captures g src then captureNow s g else s
  s.each (List.range 16) fun s k => if s.cascTakes k src then cascCount s k else s

/-- A level's edge of TB `t` inside the KV1 reaches the capture channels and cascade counters that name it and take the edge (R126, R129,
R131, R270, R287). -/
def levelEventAt (s : State) (src : Nat) (rising : Bool) (t : Nat) : State :=
  let s := s.each (List.range 64) fun s g =>
    if s.captures g src && edgeTakes (s.get CMP_CFG_EDGE (cmpPage g) (g % 16)) rising then captureAt s g t else s
  s.each (List.range 16) fun s k =>
    if s.cascTakes k src && edgeTakes (s.get CASC_CFG_EDGE cascPage k) rising then cascCount s k else s

/-- A level's edge now. -/
def levelEvent (s : State) (src : Nat) (rising : Bool) : State := levelEventAt s src rising s.tb

/-- Network time's base (R401). -/
def State.ntBase (s : State) : Nat := s.get NTIME_NT_BASE_LO ntPage + 2 ^ 32 * s.get NTIME_NT_BASE_HI ntPage

/-- Network time (R401). -/
def State.ntNow (s : State) : Nat := (s.tb + s.ntBase) % 2 ^ 64

/-- Network time stands at a second from which the next pulse counts. -/
def ntSecond (s : State) : State := { s with nt := { s.nt with sec := s.ntNow / 1000000000 } }

/-- One pulse when network time has passed whole seconds (R410). -/
def ntPulse (s : State) : State :=
  if s.domOn 3 && s.get NTIME_STAT_STATE ntPage != 0 && s.nt.sec < s.ntNow / 1000000000 then srcEvent (ntSecond s) 0x52 else ntSecond s

/-- The carry waiting for linked counter `k` lands (R132); it is lost where the counter does not run or holds its count in park (log 84). -/
def cascLand (s : State) (k : Nat) : State :=
  if (s.cascH k).carry then
    let s := s.setCasc k { s.cascH k with carry := false }
    if k % 2 = 1 && s.flag CASC_CFG_LINK cascPage k && s.flag CASC_CFG_RUN cascPage k &&
        (!s.inPark || s.flag CASC_CFG_PARK cascPage k) then cascCount s k else s
  else s

/-- A counter clock for counter `k`: a waiting write or carry, or a count of the counter clock itself (R131 to R134). -/
def cascClock (s : State) (k : Nat) : State :=
  match (s.cascH k).write with
  | some v => (s.set CASC_CNT cascPage v k).setCasc k {}
  | none => if (s.cascH k).carry then cascLand s k else if s.cascTakes k 0xE0 then cascInc s k else s

/-- A write to CNT (R134): it discards a carry that waits for the same counter clock. -/
def cntEff (k v : Nat) (s : State) : State := s.setCasc k { write := some v, carry := false }

/-- The cascade counters from the highest: an odd one takes the carry of the clock before its even neighbour leaves one (R132). -/
def downward : List Nat := (List.range 16).reverse

/-- One tick of TB: a CCLK, or an LF edge while TB counts on LFCLK (R114, R120, R131). The counter clock is one in eight CCLK, and the LF tick
wherever TB counts on LFCLK, also outside park (log 84). -/
def tbTick (s : State) : State :=
  if s.tbHid.hold then { s with tbHid := { s.tbHid with holdCnt := s.tbHid.holdCnt + 1 } }
  else if s.onLf then
    let s := tbAdd s (s.get TB_LFINC_INT tbPage) (s.get TB_LFINC_FRAC tbPage)
    let s := s.each downward cascClock
    s.each (List.range 16) fun s k => if s.cascTakes k 0xE1 then cascCount s k else s
  else
    let s := tbAdd s s.tbHid.incInt s.tbHid.incFrac
    if s.cascPhase = 7 then { s with cascPhase := 0 }.each downward cascClock
    else { s with cascPhase := s.cascPhase + 1 }

/-! The meanings. -/

/-- INC_INT_WRITE (R115). -/
def execIncIntWrite (m : Master) (v : Word) (s : State) : Host.Outcome State Fault Refusal :=
  .next (accessWrite s m tbPage 0x4C v.toNat incIntEff)

/-- LFINC_TRIM (R116). -/
def execLfincTrim (s : State) : Host.Outcome State Fault Refusal := .next (lfTrim s)

/-- TB_HANDOVER_TO_LF (R120). -/
def execTbHandoverToLf (s : State) : Host.Outcome State Fault Refusal := .next (tbToLf s)

/-- TB_HANDOVER_TO_CCLK (R120). -/
def execTbHandoverToCclk (s : State) : Host.Outcome State Fault Refusal := .next (tbToCclk s)

/-- UNCERT_CLR (R117). -/
def execUncertClr (m : Master) (s : State) : Host.Outcome State Fault Refusal :=
  .next (accessWrite s m tbPage 0x68 2 fun _ => uncClear)

/-- UNCERT_SATURATION (R122). -/
def execUncertSaturation (s : State) : Host.Outcome State Fault Refusal :=
  .next (if s.uncRate = 0 then s else uncSat s)

/-- CAPTURE (R130): an edge of source `src` at channel `g`. -/
def execCapture (g src : Nat) (rising : Bool) (s : State) : Host.Outcome State Fault Refusal :=
  .next (if s.captures g src && edgeTakes (s.get CMP_CFG_EDGE (cmpPage g) (g % 16)) rising then captureNow s g else s)

/-- CASC_COUNT (R131). -/
def execCascCount (k src : Nat) (rising : Bool) (s : State) : Host.Outcome State Fault Refusal :=
  .next (if s.cascTakes k src && (0xE0 ≤ src || edgeTakes (s.get CASC_CFG_EDGE cascPage k) rising) then cascCount s k else s)

/-- CASC_CARRY (R132). -/
def execCascCarry (k : Nat) (s : State) : Host.Outcome State Fault Refusal := .next (cascLand s k)

/-- CASC_CNT_WRITE (R134). -/
def execCascCntWrite (m : Master) (k : Nat) (v : Word) (s : State) : Host.Outcome State Fault Refusal :=
  .next (accessWrite s m cascPage (0x40 + 8 * k) v.toNat (cntEff k))

end Sys2Proof.Machine
end

