-- ==== Sys2Proof/Machine/Wake.lean ====
section
/-! DEFINITION. The wake controller: wake events, their acceptance and their deferral (R107 to R109, R425, R428), and the events of
switch inputs and field pins that reach it (R272, R287, R292, R319, R328). -/

namespace Sys2Proof.Machine

/-- The page of the wake controller. -/
def wakePage : Nat := 0x81

/-- Whether wake source `src` is enabled (R108). -/
def State.wakeOn (s : State) (src : Nat) : Bool := bitOf (s.get WAKE_SRC_EN wakePage) (src - 1)

/-- Whether a source code's events are local wake events (R420). -/
def localSrc (src : Nat) : Bool := src == 1 || src == 2 || 5 ≤ src

/-- Whether a source is offered to the trigger table only as a wake in park (R319). -/
def parkOnly (src : Nat) : Bool := src == 3 || src == 4 || src == 9

/-- Power up the domains of a mask for the wake controller (R95, R108). -/
def actionUp (s : State) (mask : Nat) : State :=
  s.each ((List.range 12).filter fun n => bitOf mask n) fun s n => (s.need n).hwPowerUp n

/-- A bus wake opens its false-wake window (R416, R417). -/
def fwOpen (s : State) (src idx ts : Nat) : State :=
  if src = 3 && idx < 6 then s.upXcv idx fun x => { x with window := some (s.tb, ts) }
  else if src = 4 then { s with nm := { s.nm with linWin := (idx, s.tb) :: s.nm.linWin.filter fun e => e.1 != idx } }
  else s

/-- With CFG.WAKE_TX at 1 a device of the ring sends an accepted wake to the others (R469); one that came over the ring goes no
further (log 95). -/
def wakeSend (s : State) (src : Nat) : State :=
  if src != 6 && s.flag H_CTRL_EN ringPage && s.flag RING_CFG_WAKE_TX ringPage && (s.flag RING_STAT_ROLE ringPage || s.ring.sync.isSome) then
    { s with ring := { s.ring with wakes := s.ring.wakes + 1 } }
  else s

/-- A wake is accepted (R44, R108, R109): CAUSE and PEND, WAKE_OUT in park, the power-ups of ACTION. -/
def wakeAccept (s : State) (src idx ts : Nat) (park : Bool) : State :=
  let s :=
    if s.get WAKE_CAUSE_SRC wakePage = 0 then
      let s := (s.set WAKE_CAUSE_SRC wakePage src).set WAKE_CAUSE_IDX wakePage idx
      (s.set WAKE_CAUSE_TS_LO wakePage ts).set WAKE_CAUSE_TS_HI wakePage (ts / 2 ^ 32)
    else s
  let s := s.set WAKE_PEND wakePage (setBit (s.get WAKE_PEND wakePage) (src - 1))
  let s := if park then s.put WAKE_WAKE_OUT wakePage true else s
  let s := wakeSend (srcEvent (fwOpen (s.logDev (23 + src)) src idx ts) 0x50) src
  let s := if src = 9 then { (s.need 5).hwPowerUp 5 with wake := { s.wake with hcs := true } } else s
  let mask := s.get WAKE_ACTION wakePage
  if (List.range 63).any fun i => match (s.slotH i).latched with | some (t, a, b, _) => t == ts && a == src && b == idx | none => false then
    { s with wake := { s.wake with late := s.wake.late ||| mask } }
  else actionUp s mask

/-- A wake in defer mode is recorded (R425, R428). -/
def wakeDefer (s : State) (src idx : Nat) : State :=
  let s := s.bump WAKE_DEFER_CNT wakePage
  if s.flag WAKE_DEFER_PEND wakePage then s.set WAKE_PEND wakePage (setBit (s.get WAKE_PEND wakePage) (src - 1))
  else
    let s := ((s.put WAKE_DEFER_PEND wakePage true).set WAKE_DEFER_SRC wakePage src).set WAKE_DEFER_IDX wakePage idx
    { s with wake := { s.wake with deferTb := s.tb } }

/-- The trigger table sees an event with timestamp `ts`. -/
def offerAt (s : State) (src idx edge ts : Nat) : State :=
  let hits := (List.range 32).filter fun e => s.entryMatches e src idx edge
  s.each hits fun s e => tableMatch s e src idx ts

/-- A wake event of source `src` (R107, R108, R319, R420, R425): `edge` bit 0 closing, rising or active, bit 1 the other way. -/
def wakeEvent (s : State) (src idx edge : Nat) : State :=
  let en := s.wakeOn src
  let s := if en && localSrc src then localWake s else s
  if en && s.flag WAKE_DEFER_ACTIVE wakePage then wakeDefer s src idx
  else
    let park := s.inPark
    let s := if !parkOnly src || (en && park) then offerAt s src idx edge s.tb else s
    if en then wakeAccept s src idx s.tb park else s

/-- Defer mode ends: the first deferred wake is accepted (R425). -/
def deferEnd (s : State) : State :=
  let s := s.put WAKE_DEFER_ACTIVE wakePage false
  if s.flag WAKE_DEFER_PEND wakePage then
    let s := s.put WAKE_DEFER_PEND wakePage false
    let src := s.get WAKE_DEFER_SRC wakePage
    let idx := s.get WAKE_DEFER_IDX wakePage
    let ts := s.wake.deferTb
    let park := s.inPark
    let s := if !parkOnly src || park then offerAt s src idx 3 ts else s
    wakeAccept s src idx ts park
  else s

/-- The power-ups of ACTION that wait behind a latched slot's preparations (R322). -/
def actionLate (s : State) : State :=
  if s.wake.late != 0 && (List.range 63).all fun i => (s.slotH i).latched.isNone then
    let m := s.wake.late
    actionUp { s with wake := { s.wake with late := 0 } } m
  else s

/-- CAUSE.CLR (R108). -/
def causeClear (s : State) : State :=
  ((s.set WAKE_CAUSE_SRC wakePage 0).set WAKE_CAUSE_IDX wakePage 0).set WAKE_PEND wakePage 0

/-- A write to WAKE.DEFER (R428). -/
def deferEff (v : Nat) (s : State) : State := if bitOf v 2 && s.flag WAKE_DEFER_ACTIVE wakePage then deferEnd s else s

/-! Events of switch inputs and field pins. -/

/-- The edge code of a change to `level`. -/
def edgeOf (level : Bool) : Nat := if level then 1 else 2

/-- A park event of input `n` (R130, R131, R292, R319, R328). -/
def swiParkEvent (s : State) (n : Nat) (level : Bool) : State :=
  let s := levelEvent s (1 + n) level
  let s := if s.swiWakes n level then wakeEvent s 1 n (edgeOf level) else s
  eventConfirm s 2 n level

/-- A group's pulse (R291): its inputs are compared in ascending order. -/
def parkPulse (s : State) (g levels : Nat) : State :=
  s.each (List.range 12) fun s j =>
    let n := 12 * g + j
    let lev := bitOf levels j
    if s.parkSensed n then
      let r := parkSample s n lev
      if r.2 then swiParkEvent r.1 n lev else r.1
    else s

/-- An accepted transition of input `n` (R129, R228, R287, R319, R328, R420). -/
def swiTransition (s : State) (n : Nat) (level : Bool) : State :=
  let p := swiPage n
  let s := parkEdge (levelEventAt (swiAccept s n level) (1 + n) level (s.sw n).runFrom) n level
  let s := if s.wakeOn 1 && s.swiWakes n level then localWake s else s
  let s := offerAt s 1 n (edgeOf level) s.tb
  levelConfirm s 2 n (s.get SWI_TS_LO p (n % 16) + 2 ^ 32 * s.get SWI_TS_HI p (n % 16)) level

/-- An accepted transition of pin `p` (R129, R270, R319, R328, R420). -/
def fioTransition (s : State) (p : Nat) (level : Bool) (edge : Nat) : State :=
  let s := levelEventAt (fioAccept s p level edge) (0x31 + p) level edge
  let s := if s.wakeOn 2 && s.flag FLD_CFG_WAKE_EN (pinPage p) (p % 12) then localWake s else s
  levelConfirm (offerAt s 2 p (edgeOf level) s.tb) 3 p edge level

/-! The meanings. -/

/-- LATCHED_SIMMER_START (R322). -/
def execLatchedSimmerStart (i : Nat) (s : State) : Host.Outcome State Fault Refusal := .next (actionLate (latchedStart s i))

/-- WAKE_CAUSE_CLR (R108). -/
def execWakeCauseClr (m : Master) (s : State) : Host.Outcome State Fault Refusal :=
  .next (accessWrite s m wakePage 0x44 (2 ^ 31) fun _ => causeClear)

/-- WAKE_OUT_WRITE (R44). -/
def execWakeOutWrite (m : Master) (v : Bool) (s : State) : Host.Outcome State Fault Refusal :=
  .next (accessWrite s m wakePage 0x58 (b2n v) fun v s => plainWrite s wakePage 0x58 v)

/-- HCS_N_WAKE (R109): only while PD_ETH is not on. -/
def execHcsNWake (s : State) : Host.Outcome State Fault Refusal := .next (if s.domOn 5 then s else wakeEvent s 9 0 1)

/-- DEFER_RELEASE (R428). -/
def execDeferRelease (m : Master) (s : State) : Host.Outcome State Fault Refusal :=
  .next (accessWrite s m wakePage 0x5C 4 deferEff)

/-- CYCLIC_SENSE_PULSE (R291): `levels` holds the inputs of group `g`, which pulses once in each period. -/
def execCyclicSensePulse (g levels : Nat) (s : State) : Host.Outcome State Fault Refusal :=
  let t := senseTurn s
  .next (if s.senses && t.senseDue g then parkPulse { t with sense := { t.sense with done := setBit t.sense.done g } } g levels else s)

/-- SWI_TRANSITION_ACCEPT (R287). -/
def execSwiTransitionAccept (n : Nat) (level : Bool) (s : State) : Host.Outcome State Fault Refusal :=
  .next (if s.swiReady n level then swiTransition s n level else s)

/-- SWI_EVT_READ (R296). -/
def execSwiEvtRead (m : Master) (s : State) : Host.Outcome State Fault Refusal :=
  if s.clk.frozen then .next s
  else if s.domOn 9 then
    let r := swiEvtRead (s.need 9)
    .next (r.1.answer .ok r.2)
  else .next (domainOffAccess (s.need 9) m swi0 0x48 none)

/-- FIO_TRANSITION_ACCEPT (R270, R285): the samples show `level` since `edge`. -/
def execFioTransitionAccept (p : Nat) (level : Bool) (edge : Nat) (s : State) : Host.Outcome State Fault Refusal :=
  let t := fioRaw s p level
  .next (if s.fioReady p level edge then fioTransition t p level (s.fioRun p edge) else t)

/-- FIO_WAKE (R272): PD_FLD in retention, the pin an input with WAKE_EN. -/
def execFioWake (p : Nat) (level : Bool) (s : State) : Host.Outcome State Fault Refusal :=
  .next (if (s.getDom 9).actual == .retention && !s.isOutput (62 + p) && s.flag FLD_CFG_WAKE_EN (pinPage p) (p % 12) then
    let s := s.upPin p fun x => if level then { x with wakeUp := some s.tb } else { x with wakeDown := some s.tb }
    eventConfirm (wakeEvent s 2 p (edgeOf level)) 3 p level else s)

end Sys2Proof.Machine
end

