-- ==== Sys2Proof/Machine/Immobiliser.lean ====
section
/-! DEFINITION. Passive entry search and immobiliser (R432 to R453): tuning and faults of the LF drivers, what an exchange's outcome
confirms, polling, and the release engine. -/

namespace Sys2Proof.Machine

/-! LF drivers (R433 to R435). -/

/-- Set bits of an ACC FAULT field; a bit that sets raises IRQ_RAW bit 0 (R453). -/
def lfFault (s : State) (f : Fld) (m : Nat) : State :=
  if m = 0 then s else (s.set f accPage (s.get f accPage ||| m)).irq accPage 0

/-- The antennas of a telegram that VLF cannot feed fully set LF_SAT (R433). -/
def lfSat (s : State) (mask sat : Nat) : State := lfFault s ACC_FAULT_LF_SAT (andNot (mask &&& sat) s.lfOff)

/-- Whether a telegram of the exchange is being sent. -/
def State.immoSending (s : State) : Bool := s.get IMMO_XSTAT_STATE immoPage == 1 || s.get IMMO_XSTAT_STATE immoPage == 4

/-- What the end of an exchange means to simmering slots with confirmation kind 1 (R328, R443): a grant confirms, DENIED and FAULT
are the opposite outcome. `o` is the state before. -/
def immoOutcome (o s : State) : State :=
  if o.immo.run.isSome && s.immo.run.isNone then
    let r := s.get IMMO_RESULT_OUTCOME immoPage
    if r = 1 then confirmAll s fun s i => s.get AHD_CONFIRM_KIND ahdPage i == 1
    else if r = 2 || r = 4 then missAll s fun s i => s.get AHD_CONFIRM_KIND ahdPage i == 1
    else s
  else s

/-- The exchange ends with outcome FAULT when its telegram has lost every antenna (R435). -/
def lfLost (s : State) : State :=
  if s.immo.run.isSome && s.immoSending && andNot (s.get IMMO_XSTAT_MASK immoPage) s.lf.lost = 0 then
    immoOutcome s (immoEnd s 4 0 0)
  else s

/-- The present telegram loses the antennas of `m`. -/
def lfLose (s : State) (m : Nat) : State := lfLost { s with lf := { s.lf with lost := s.lf.lost ||| m } }

/-- Tuning of every fitted antenna begins, or waits for the end of a telegram (R434). -/
def lfTune (s : State) : State := { s with lf := { s.lf with tune := true } }

/-- TUNE of antenna `n` (R453). -/
def tuneField (n : Nat) : Fld := [ACC_TUNE0, ACC_TUNE1, ACC_TUNE2, ACC_TUNE3, ACC_TUNE4].getD n ACC_TUNE5

/-- The end of tuning (R434): the codes found, and the antennas found open or shorted, which keep their codes. -/
def lfTuned (s : State) (tune opn shorted : Nat) : State :=
  let fit := s.get ACC_LF_MASK_EN accPage
  let keep := opn ||| shorted ||| s.lfOff
  let s := s.each ((List.range 6).filter fun n => bitOf (andNot fit keep) n) fun s n => s.set (tuneField n) accPage (bitsOf tune (5 * n) 5)
  let s := lfFault (lfFault s ACC_FAULT_OPEN (opn &&& fit)) ACC_FAULT_SHORT (shorted &&& fit)
  ({ s with lf := { s.lf with tune := false } } : State).irq accPage 2

/-- The thermal latch of the LF drivers sets (R435). -/
def lfHot (s : State) : State :=
  let s : State := { s with lf := { s.lf with latch := true, hot := true } }
  lfLose (lfFault s ACC_FAULT_THERMAL 1) 63

/-- The sensor has cooled to the release temperature: with TL_AUTO the latch clears (R158, R435). -/
def lfCool (s : State) : State :=
  { s with lf := { s.lf with hot := false, latch := s.lf.latch && !s.flag ACC_LF_TL_AUTO accPage } }

/-- A write to FAULT (R435, R453): clearing SHORT re-enables the antenna, clearing THERMAL the drivers once they have cooled. -/
def accFaultEff (v : Nat) (s : State) : State :=
  let s := plainWrite s accPage 0x48 v
  if bitOf v 24 && !s.lf.hot then { s with lf := { s.lf with latch := false } } else s

/-! Exchanges (R440 to R445). -/

/-- The registers that the end of an exchange changes. -/
def immoRegs : List Fld :=
  [IMMO_RESULT_OUTCOME, IMMO_RESULT_KEY, IMMO_RESULT_PURPOSE, IMMO_RESULT_ABORT_CAUSE, IMMO_XSTAT_STATE, H_IRQ_RAW, H_EVT_CNT_EVENTS]

/-- The running exchange stands in State until the next BCLK (R452). -/
def immoKeep (s : State) : State :=
  let x := s.immo
  let u : ImmoUndo := { tb := s.tb, run := x.run, tp := x.tp, endTb := x.endTb, await := x.await, regs := immoRegs.map fun f => s.get f immoPage }
  s.upImmo fun y => { y with undo := if x.run.isSome then some u else none }

/-- A verdict in the BCLK of CMD.ABORT: a grant goes before the abort (R452). -/
def beforeAbort (act : State → Acted) (s : State) : Acted :=
  match s.immo.undo with
  | some u =>
    if u.tb = s.tb && s.immo.run.isNone then
      let t := (immoRegs.zip u.regs).foldl (fun s x => s.set x.1 immoPage x.2) s
      let r := act (t.upImmo fun y => { y with run := u.run, tp := u.tp, endTb := u.endTb, await := u.await, undo := none })
      if r.1.immo.run.isSome then (immoAbort r.1 1, r.2) else r
    else act s
  | none => act s

/-- A write to CMD (R443 to R445): GO 3 is rejected; ABORT ends the running exchange, GO and TP_READ request one. -/
def immoCmdEff (v : Nat) (s : State) : State :=
  if v % 4 = 3 then s.reject immoPage
  else
    let s := if bitOf v 2 then immoAbort (immoKeep s) 1 else s
    let s := if v % 4 = 0 then s else immoRequest s { start := v % 4 == 2, mask := bitsOf v 8 6, cmd := true }
    if bitOf v 3 then immoRequest s { start := true, tp := true, mask := 32, cmd := true } else s

/-- A write to VERDICT (R441): the SE's alone. -/
def verdictEff (m : Master) (v : Nat) (s : State) : State :=
  if m = .se then
    doAct immoPage (beforeAbort (fun s =>
      let r := immoVerdict s (v % 8) (bitOf v 8)
      (immoOutcome s r.1, r.2)) s)
  else s.reject immoPage

/-- A telegram has ended: the antennas that saturated, a telegram that lost all its antennas, and listening (R433, R435, R440). -/
def telegramEnd (s : State) (sat : Nat) : State :=
  if s.immo.run.isSome && s.get IMMO_XSTAT_STATE immoPage = 1 && s.telegramDue ≤ s.tb then immoListen (lfLost (lfSat s (s.get IMMO_XSTAT_MASK immoPage) sat)) else s

/-- Whether slot `k` may close (R440, R441): no higher slot has closed, and its first 0.2 ms have passed. -/
def State.slotTurn (s : State) (k : Nat) : Bool :=
  s.slotAt k + 200000 ≤ s.tb && (List.range 8).all fun j => j ≤ k || !bitOf s.immo.closed j

/-- The end of the transponder's answer (R445): field and telegram take 28.552 ms, then it sends INDEX and a response; a clean one awaits its
verdict as that slot, any other ends the exchange DENIED. -/
def transponderEnd (s : State) (viol : Bool) (l : List Nat) : State :=
  if s.immo.run.isSome && s.get IMMO_XSTAT_STATE immoPage = 4 && s.immo.closed = 0 && s.immo.since + 28552000 ≤ s.tb then
    let k := l.getD 0 0 % 8
    let cls := answerClass viol (l.drop 1)
    let hi := answerWord (l.drop 1)
    let lo := answerWord (l.drop 5)
    if andNot (s.get IMMO_XSTAT_MASK immoPage) s.lf.lost = 0 then lfLost s
    else
      let t := immoSlotClose s k cls hi lo
      if t.slotClass k = 1 then t else immoOutcome s (immoNoGrant t)
  else s

/-- Whether a transponder's answer has been judged. -/
def State.tpDone (s : State) : Bool := s.immo.closed != 0 && s.immo.judged == s.immo.closed

/-- A repeat's telegram begins; above VBAT_OV the exchange is aborted (R36, R442). -/
def repeatTelegram (s : State) : State := if s.flag SUP_STAT_VBAT_OV 4 then immoAbort s 4 else immoTelegram s 1

/-! Polling (R447, R448). -/

/-- The polling period in force in ns: that of the first stage whose END_MIN exceeds the standing time; 0 is off (R448). -/
def State.pollPeriod (s : State) : Nat :=
  match (List.range 6).find? fun j => s.get ACC_STAND_MIN accPage < s.get ACC_STAGE_END_MIN accPage j with
  | some j => s.get ACC_STAGE_PERIOD accPage j * 250000000
  | none => 0

/-- The next poll falls one period after `t`; a period of 0 stops polling (R448). -/
def pollAfter (s : State) (t : Nat) : State :=
  { s with lf := { s.lf with pollNext := if s.flag ACC_POLL_EN accPage && s.pollPeriod != 0 then some (t + s.pollPeriod) else none } }

/-- The next poll falls one period from now. -/
def pollArm (s : State) : State := pollAfter s s.tb

/-- A write to POLL (R448): setting EN starts the period. -/
def pollEff (v : Nat) (s : State) : State :=
  let was := s.flag ACC_POLL_EN accPage
  let s := plainWrite s accPage 0x54 v
  if s.flag ACC_POLL_EN accPage then (if was then s else pollArm s) else { s with lf := { s.lf with pollNext := none } }

/-- The number of set bits among the low `n` of `v`. -/
def popCount (n v : Nat) : Nat := ((List.range n).filter fun i => bitOf v i).length

/-- The time that a poll takes from its first telegram: one telegram of 36 bit times on each antenna, the gap and a slot for each learnt
index (R438, R447). -/
def State.pollTime (s : State) : Nat :=
  popCount 6 (s.get ACC_POLL_MASK accPage) * (36 * s.lfBit) + s.get IMMO_TIMING_T_GAP immoPage * 10000 +
    popCount 8 (s.get IMMO_KEYS_LEARNT immoPage) * (s.get IMMO_TIMING_POLL_SLOT immoPage * 100000)

/-- The poll in progress sends from now on: PD_ACC is on. -/
def pollSends (s : State) : State :=
  if s.lf.polling && s.lf.pollFrom.isNone then { s with lf := { s.lf with pollFrom := some s.tb } } else s

/-- Whether the poll in progress has ended: its time has passed, or PD_ACC has not come on. -/
def State.pollOver (s : State) : Bool :=
  s.lf.polling && (match s.lf.pollFrom with
    | some t => decide (t + s.pollTime ≤ s.tb)
    | none => !s.domOn 11 && (s.getDom 11).phase == .stable)

/-- A poll that falls due at TB `t` (R447, R448): skipped during an exchange, above VBAT_OV or while PD_ACC is forced off. -/
def lfPoll (s : State) (t sat : Nat) : State :=
  let s := pollAfter s t
  if s.immo.run.isSome || s.flag SUP_STAT_VBAT_OV 4 || s.order 11 = 3 || s.order 7 = 3 then
    let s := if s.order 11 = 3 || s.order 7 = 3 then s.pollUp else s
    s.bump ACC_CNT_POLL_SKIPPED accPage
  else
    let s := (s.pollUp.bump ACC_CNT_POLLS accPage).set ACC_LAST_POLL accPage 0
    let s : State := { s with lf := { s.lf with polling := true, pollFrom := if s.domOn 11 then some s.tb else none } }
    lfSat s (s.get ACC_POLL_MASK accPage) sat

/-- A poll ends: the domains that it powered up return to their orders before (R11, R22). -/
def pollEnd (s : State) : State :=
  let s : State := { s with lf := { s.lf with polling := false, pollFrom := none }, immo := { s.immo with endTb := s.tb } }
  s.each [11, 7] fun s n =>
    match (s.getDom n).restore with
    | some o => s.applyOrder n o
    | none => s

/-- A presence answer that a poll accepts (R437, R438, R447): PD_ACC on, the decoder enabled, a correct CRC-8, a learnt INDEX and this
vehicle's VID [4:0] in its byte `head`. -/
def State.pollHears (s : State) (head crc : Nat) : Bool :=
  s.lf.polling && s.domOn 11 && s.accepts accPage && s.flag ACC_UHF_EN accPage && crc8 [head] == crc &&
    bitOf (s.get IMMO_KEYS_LEARNT immoPage) (head / 32) && s.get IMMO_VID immoPage % 32 == head % 32

/-- A presence answer of key `k` (R447). -/
def pollAnswer (s : State) (k : Nat) : State :=
  let s := (s.set ACC_LAST_POLL accPage (setBit (s.get ACC_LAST_POLL accPage) k)).irq accPage 1
  wakeEvent s 7 k 1

/-- A write to ACT of ACC (R434, R448). -/
def accActEff (v : Nat) (s : State) : State :=
  let s := if bitOf v 0 then lfTune s else s
  if bitOf v 1 then
    let s : State := { s.set ACC_STAND_MIN accPage 0 with lf := { s.lf with standTb := s.tb } }
    if s.lf.pollNext.isNone then pollArm s else s
  else s

/-- A whole minute of standing time (R448). -/
def standMinute (s : State) : State := s.bump ACC_STAND_MIN accPage

/-! Release (R450). -/

/-- Controller and transmit buffer of the release. -/
def State.relCan (s : State) : Nat := s.get IMMO_REL_CFG_CAN immoPage
def State.relBuf (s : State) : Nat := s.get IMMO_REL_CFG_BUF immoPage

/-- Request a transmission of the release (R450). -/
def relRequest (s : State) : State :=
  let s := (canReq s s.relCan (1 <<< s.relBuf)).bump IMMO_REL_STAT_SENT immoPage
  s.upImmo fun x => { x with relTb := s.tb }

/-- Whether REL.SEND is accepted from master `m` (R450). -/
def State.relOk (s : State) (m : Master) : Bool :=
  m = .se && s.get IMMO_RESULT_OUTCOME immoPage == 1 && s.flag IMMO_RESULT_PURPOSE immoPage &&
    (match s.immo.grantTb with | some t => s.tb ≤ t + 10000000000 | none => false) && !s.immo.relSent &&
    !s.flag IMMO_REL_STAT_ACTIVE immoPage && s.domOn 3 && s.accepts (canPage s.relCan)

/-- Release repetition ends; a pending repetition is cancelled (R450, R451). -/
def relEnd (s : State) : State :=
  if s.flag IMMO_REL_STAT_ACTIVE immoPage then
    let s := s.put IMMO_REL_STAT_ACTIVE immoPage false
    if s.domOn 3 then canAbort s s.relCan (1 <<< s.relBuf) else s
  else s

/-- A write to REL (R450). -/
def relEff (m : Master) (v : Nat) (s : State) : State :=
  let s := if bitOf v 1 then relEnd s else s
  if bitOf v 0 then
    if s.relOk m then
      let s := (s.put IMMO_REL_STAT_ACTIVE immoPage true).upImmo fun x => { x with relSent := true }
      relRequest ((s.set IMMO_REL_STAT_SENT immoPage 0).set IMMO_REL_STAT_SKIPPED immoPage 0)
    else s.reject immoPage
  else s

/-- Whether 100 ms have passed since the last request or repetition (R450). -/
def State.relDue (s : State) : Bool := s.domOn 11 && s.flag IMMO_REL_STAT_ACTIVE immoPage && decide (s.immo.relTb + 100000000 ≤ s.tb)

/-- The release stands in State until the next BCLK (R452). -/
def relKeep (s : State) : State :=
  let u : RelUndo := { tb := s.tb, sent := s.get IMMO_REL_STAT_SENT immoPage, skipped := s.get IMMO_REL_STAT_SKIPPED immoPage,
                       done := bitOf (s.get CAN_TX_DONE (canPage s.relCan)) s.relBuf }
  s.upImmo fun x => { x with relUndo := some u }

/-- A repetition, 100 ms after the one before (R450): one that finds the buffer pending requests nothing, and so does one that finds PD_NET
away (log 99). -/
def relRepeat (s : State) : State :=
  let next := s.immo.relTb + 100000000
  let s := relKeep s
  let s := if !s.domOn 3 || bitOf (s.get CAN_TX_PEND (canPage s.relCan)) s.relBuf then s.bump IMMO_REL_STAT_SKIPPED immoPage
    else relRequest s
  s.upImmo fun x => { x with relTb := next }

/-- A repetition in the BCLK of the acknowledgement requests nothing (R452). -/
def relUndo (s : State) : State :=
  match s.immo.relUndo with
  | some u =>
    if u.tb = s.tb then
      let asked := u.sent != s.get IMMO_REL_STAT_SENT immoPage
      let s := (s.set IMMO_REL_STAT_SENT immoPage u.sent).set IMMO_REL_STAT_SKIPPED immoPage u.skipped
      let s := s.upImmo fun x => { x with relUndo := none }
      if asked then canForget s s.relCan s.relBuf u.done else s
    else s
  | none => s

/-- Whether the first transmission of the release has begun (R450). -/
def State.relBegan (s : State) : Bool :=
  s.domOn 11 && s.flag IMMO_REL_STAT_ACTIVE immoPage && ((s.canH s.relCan).cur == some s.relBuf || s.get IMMO_REL_STAT_SENT immoPage > 1 ||
    bitOf (s.get CAN_TX_DONE (canPage s.relCan)) s.relBuf)

/-- IMMO reaches its safe point: the exchange is aborted with cause 2 and repetition ends (R67, R451). -/
def immoDrain (s : State) : State := relEnd ((immoAbort s 2).upImmo fun x => { x with pend := none })

/-- ACC reaches its safe point: polls, telegrams and the exchange end (R451). -/
def accDrain (s : State) : State :=
  let s := if s.lf.polling then pollEnd s else s
  let s : State := { s with lf := { s.lf with tune := false } }
  (immoAbort s 2).upImmo fun x => { x with pend := none }

/-- A full reset clears POLL.EN and keeps the other AON fields (R448). -/
def accReset (s : State) : State :=
  { s.put ACC_POLL_EN accPage false with lf := { standTb := s.lf.standTb, latch := s.lf.latch, hot := s.lf.hot } }

/-- The ACC fields held in AON-L (R453). -/
def accAonKey (k : Nat) : Bool := keyPage k == accPage && decide (0x54 ≤ keyOff k) && decide (keyOff k < 0x7C)

/-! Commands. -/

/-- ACT_TUNE_NOW (R434). -/
def execActTuneNow (m : Master) (s : State) : Host.Outcome State Fault Refusal := .next (accessWrite s m accPage 0x4C 1 accActEff)

/-- TUNING_COMPLETE (R434): tuning waits while a telegram is being sent, and above VBAT_OV (R36). -/
def execTuningComplete (tune opn shorted : Nat) (s : State) : Host.Outcome State Fault Refusal :=
  .next (if s.lf.tune && s.domOn 11 && !s.immoSending && !s.lf.polling && !s.flag SUP_STAT_VBAT_OV 4 then lfTuned s tune opn shorted else s)

/-- LF_SHORT (R435). -/
def execLfShort (n : Nat) (s : State) : Host.Outcome State Fault Refusal :=
  .next (if s.domOn 11 then lfLose (lfFault s ACC_FAULT_SHORT (1 <<< n)) (1 <<< n) else s)

/-- LF_OPEN (R435). -/
def execLfOpen (n : Nat) (s : State) : Host.Outcome State Fault Refusal :=
  .next (if s.domOn 11 then lfLose (lfFault s ACC_FAULT_OPEN (1 <<< n)) (1 <<< n) else s)

/-- LF_THERMAL (R435): the sensor of the drivers passes its threshold, or cools to the release temperature. -/
def execLfThermal (hot : Bool) (s : State) : Host.Outcome State Fault Refusal :=
  .next (if !s.domOn 11 then s else if hot then lfHot s else lfCool s)

/-- IMMO_CMD_GO (R444). -/
def execImmoCmdGo (m : Master) (go mask : Nat) (s : State) : Host.Outcome State Fault Refusal :=
  .next (accessWrite s m immoPage 0x4C (go + mask * 256) immoCmdEff)

/-- IMMO_CMD_ABORT (R443). -/
def execImmoCmdAbort (m : Master) (s : State) : Host.Outcome State Fault Refusal :=
  .next (accessWrite s m immoPage 0x4C 4 immoCmdEff)

/-- IMMO_TP_READ (R445). -/
def execImmoTpRead (m : Master) (s : State) : Host.Outcome State Fault Refusal :=
  .next (accessWrite s m immoPage 0x4C 8 immoCmdEff)

/-- TELEGRAM_END (R440): the antennas of `sat` could not reach their current. -/
def execTelegramEnd (sat : Nat) (s : State) : Host.Outcome State Fault Refusal := .next (if s.domOn 11 then telegramEnd s sat else s)

/-- ANSWER_SLOT_CLOSE (R441): slots close in ascending order; without the decoder nothing is heard. -/
def execAnswerSlotClose (k : Nat) (viol : Bool) (resp crc : List Byte) (s : State) : Host.Outcome State Fault Refusal :=
  let l := (resp ++ crc).map BitVec.toNat
  .next (if s.domOn 11 && s.get IMMO_XSTAT_STATE immoPage = 2 && s.slotTurn k then
    immoSlotClose s k (if s.flag ACC_UHF_EN accPage then answerClass viol l else 0) (answerWord l) (answerWord (l.drop 4)) else s)

/-- IMMO_VERDICT (R441). -/
def execImmoVerdict (m : Master) (k : Nat) (valid : Bool) (s : State) : Host.Outcome State Fault Refusal :=
  .next (accessWrite s m immoPage 0xA4 (k + 256 * b2n valid) (verdictEff m))

/-- VERIFY_TIMEOUT (R441). -/
def execVerifyTimeout (k : Nat) (s : State) : Host.Outcome State Fault Refusal :=
  .next (if s.domOn 11 then immoOutcome s (immoLate s k) else s)

/-- LISTENING_END (R442): the last learnt slot has closed and no verdict is awaited. -/
def execListeningEnd (s : State) : Host.Outcome State Fault Refusal :=
  let st := s.get IMMO_XSTAT_STATE immoPage
  .next (if s.domOn 11 && s.immo.run.isSome && ((st = 2 && s.immoDone) || (st = 4 && s.tpDone)) then immoOutcome s (immoNoGrant s) else s)

/-- REPEAT_TELEGRAM (R442). -/
def execRepeatTelegram (s : State) : Host.Outcome State Fault Refusal :=
  .next (if s.domOn 11 && s.immo.run.isSome && s.get IMMO_XSTAT_STATE immoPage = 3 && s.immo.await.isNone &&
    s.immo.since + 1000000 ≤ s.tb then repeatTelegram s else s)

/-- PENDING_EXCHANGE_START (R444). -/
def execPendingExchangeStart (s : State) : Host.Outcome State Fault Refusal :=
  match s.immo.pend with
  | some x =>
    .next (if s.domOn 11 && s.immo.run.isNone && !s.lf.polling && s.immo.endTb + 1000000 ≤ s.tb then
      immoStart (s.upImmo fun y => { y with pend := none }) x else s)
  | none => .next s

/-- TRANSPONDER_END (R445). -/
def execTransponderEnd (viol : Bool) (head resp crc : List Byte) (s : State) : Host.Outcome State Fault Refusal :=
  .next (if s.domOn 11 then transponderEnd s viol ((head ++ resp ++ crc).map BitVec.toNat) else s)

/-- LF_POLL (R447). -/
def execLfPoll (sat : Nat) (s : State) : Host.Outcome State Fault Refusal :=
  match s.lf.pollNext with
  | some t => .next (if t ≤ s.tb && !s.lf.polling then lfPoll s t sat else s)
  | none => .next s

/-- LF_POLL_END (R22). -/
def execLfPollEnd (s : State) : Host.Outcome State Fault Refusal := .next (if s.pollOver then pollEnd s else s)

/-- POLL_ANSWER (R447). -/
def execPollAnswer (head crc : Nat) (s : State) : Host.Outcome State Fault Refusal :=
  .next (if s.pollHears head crc then pollAnswer s (head / 32) else s)

/-- STANDING_MINUTE (R448). -/
def execStandingMinute (s : State) : Host.Outcome State Fault Refusal :=
  .next (if s.lf.standTb + (s.get ACC_STAND_MIN accPage + 1) * 60000000000 ≤ s.tb then standMinute s else s)

/-- ACT_STAND_CLR (R448). -/
def execActStandClr (m : Master) (s : State) : Host.Outcome State Fault Refusal := .next (accessWrite s m accPage 0x4C 2 accActEff)

/-- REL_SEND (R450). -/
def execRelSend (m : Master) (s : State) : Host.Outcome State Fault Refusal := .next (accessWrite s m immoPage 0xAC 1 (relEff m))

/-- REL_REPEAT (R450). -/
def execRelRepeat (s : State) : Host.Outcome State Fault Refusal :=
  .next (if s.relDue && s.get IMMO_REL_STAT_SENT immoPage < s.get IMMO_REL_CFG_REPEAT immoPage then relRepeat s else s)

/-- REL_ACK (R450): a frame of the controller matched filter element ACK_FIDX. -/
def execRelAck (s : State) : Host.Outcome State Fault Refusal :=
  .next (if s.relBegan then ((relEnd (relUndo s)).put IMMO_REL_STAT_ACKED immoPage true).irq immoPage 3 else s)

/-- REL_GIVE_UP (R450). -/
def execRelGiveUp (s : State) : Host.Outcome State Fault Refusal :=
  .next (if s.relDue && s.get IMMO_REL_CFG_REPEAT immoPage ≤ s.get IMMO_REL_STAT_SENT immoPage then
    ((relEnd s).put IMMO_REL_STAT_GIVEN_UP immoPage true).irq immoPage 4 else s)

/-- REL_STOP (R450). -/
def execRelStop (m : Master) (s : State) : Host.Outcome State Fault Refusal := .next (accessWrite s m immoPage 0xAC 2 (relEff m))

end Sys2Proof.Machine
end

