-- ==== Sys2Proof/Machine/Integrity.lean ====
section
/-! DEFINITION. Scrubbing and repair of the memories (R583, R584) and the delta area of the sinter log (R586 to R589). -/

namespace Sys2Proof.Machine

/-- The power domain of memory `m` of core `c` (R584); the rind is always on. -/
def memDomain (m c : Nat) : Option Nat :=
  if m < 2 then targetDomain c else if m = 3 then some 3 else if m = 4 then none else some 6

/-- Store 0 in the codeword at byte `a` of memory `m` (R583). -/
def fillWord (s : State) (m c a : Nat) : State :=
  if m = 0 then { s with iram := tput s.iram c [] (mputN (tget s.iram c []) 0 a 8 0) }
  else if m = 1 then { s with dram := tput s.dram c [] (mputN (tget s.dram c []) 0 a 8 0) }
  else if m = 2 then { s with sram := mputN s.sram 0 a 8 0 }
  else if m = 3 then { s with msgRam := tput (tput s.msgRam (a / 4 % 16384) 0 0) ((a / 4 + 1) % 16384) 0 0 }
  else if m = 4 then { s with rind := mputN s.rind 0 a 8 0 }
  else if m = 5 then { s with cnvm := mputN s.cnvm 0xFF a 8 0 }
  else s

/-- ACT.FILL (R583): rejected while the page is locked, without effect on a memory whose domain is not on. The core whose I-RAM or D-RAM is meant is a free value (log 3). -/
def eccFill (s : State) : State :=
  if s.flag H_LOCKSTAT_UNLOCKED eccPage then
    let m := s.get ECC_FILL_MEM eccPage
    let a := s.get ECC_FILL_ADDR eccPage / 8 * 8
    let (c, s) := if m < 2 then s.fresh 12 else (0, s)
    if (memDomain m c).any (!s.domOn ·) then s
    else fillWord { s with eccBad := s.eccBad.filter fun e => e != (m, c, a) } m c a
  else s.reject eccPage

/-- A write to ACT of ECC. -/
def eccActEff (v : Nat) (s : State) : State := if bitOf v 0 then eccFill s else s

/-- A codeword is added to those that cannot be corrected. -/
def markBad (s : State) (m c a : Nat) : State :=
  if s.isBad m c a then s else { s with eccBad := (m, c, a / 8 * 8) :: s.eccBad }

/-- The flipped bits of codeword `k` of a row among the row's flipped columns: its bit b lies in column 16 × b + k (R581, R582). -/
def flipsOf (cols : List Nat) (k : Nat) : Nat := (List.range 72).countP fun b => cols.contains (16 * b + k)

/-- What the SEC-DED code makes of `n` flipped bits of a codeword (R581, R582): 0 nothing, 1 a correction, 2 a detection; of three or
more the spec states no result, and it is a free value (log 94). -/
def State.eccDecode (s : State) (n : Nat) : Nat × State := if n < 3 then (n, s) else s.fresh 3

/-- Codeword `k` of the row of byte `a` stays uncorrectable where its flipped bits are detected (R582, R583). -/
def rowMark (s : State) (m c a : Nat) (cols : List Nat) (k : Nat) : State :=
  let f := s.eccDecode (flipsOf cols k)
  if f.1 = 2 then markBad f.2 m c (a / 128 * 128 + 8 * k) else f.2

/-- A scrubber reads the codeword of byte `a` (R584), which the flipped columns of its row leave clean, corrected and written back, or
uncorrectable. -/
def scrubRead (s : State) (m c a : Nat) (cols : List Nat) : State :=
  let f := if s.isBad m c a then (2, s) else s.eccDecode (flipsOf cols (a / 8 % 16))
  if f.1 = 1 then eccCorr f.2 m else if f.1 = 2 then eccUe (markBad f.2 m c a) m c a true else f.2

/-- One step of a scrubber (R584) in a row whose flipped columns are `cols`, which meet the row's other codewords too (R582); `last`
ends a pass. -/
def scrubStep (s : State) (m c a : Nat) (cols : List Nat) (last : Bool) : State :=
  let s := (scrubRead s m c a cols).each ((List.range 16).filter (· != a / 8 % 16)) fun s k => rowMark s m c a cols k
  if last && s.domOn 6 then
    if m = 2 then s.bump ECC_PASSES_SRAM eccPage else if m = 5 then s.bump ECC_PASSES_CNVM eccPage else s
  else s

/-! The delta area. -/

/-- A write to halfword `h` of the delta area (R588): counts subtract, a PEAK clears while it equals the value written. -/
def deltaWrite (s : State) (h v : Nat) : State :=
  if h < 1440 && h % 16 = 15 then s
  else if h < 1440 && h % 16 = 14 then (if s.rd (deltaLoc h) = v then s.wr (deltaLoc h) 0x8000 else s)
  else if h < 1482 then s.wr (deltaLoc h) (s.rd (deltaLoc h) - v)
  else s

/-- A word written to the delta area at page offset `off` (R588). -/
def deltaEff (off v : Nat) (s : State) : State :=
  let h := (off - 0x400) / 2
  deltaWrite (deltaWrite s h (v % 65536)) (h + 1) (v / 65536)

/-- Bin of the hottest die temperature in 1/16 °C (R587). -/
def tempBin (t : Int) : Nat := if t < -480 then 0 else if 1760 ≤ t then 15 else 1 + ((t + 480) / 160).toNat

/-- Bin of VBAT in mV (R587). -/
def vbatBin (v : Nat) : Nat :=
  if v < 6000 then 0 else if v < 9000 then 1 else if v < 12000 then 2 else if v < 16000 then 3 else if v < 20000 then 4
  else if v < 28000 then 5 else if v < 32000 then 6 else 7

/-- A minute of TB has passed (R587): `hot` is the hottest die sensor in 1/16 °C. -/
def logMinute (s : State) (hot : Int) : State :=
  let s := if s.domOn 10 then s.logDev (tempBin hot) else s
  { s.logDev (16 + vbatBin s.vbat) with logMin := s.tb / 60000000000 }

/-! Commands. -/

/-- ECC_FILL (R583). -/
def execEccFill (m : Master) (s : State) : Host.Outcome State Fault Refusal := .next (accessWrite s m eccPage 0x70 1 eccActEff)

/-- SCRUB_STEP (R582, R584). -/
def execScrubStep (m c a : Nat) (cols : List Nat) (last : Bool) (s : State) : Host.Outcome State Fault Refusal :=
  .next (match memDomain m c with
    | some n => if s.domOn n then scrubStep s m c a cols last else s
    | none => scrubStep s m c a cols last)

/-- LOG_DELTA_WRITE (R588). -/
def execLogDeltaWrite (m : Master) (i : Nat) (v : Word) (s : State) : Host.Outcome State Fault Refusal :=
  .next (accessWrite s m logPage (0x400 + 4 * i) v.toNat (deltaEff (0x400 + 4 * i)))

/-- LOG_MINUTE_TICK (R587). -/
def execLogMinuteTick (hot : Int) (s : State) : Host.Outcome State Fault Refusal :=
  .next (if s.logMin < s.tb / 60000000000 then logMinute s hot else s)

end Sys2Proof.Machine
end

