-- ==== Sys2Proof/Machine/Sirham.lean ====
section
/-! DEFINITION. The Sirham cores: registers and windows (R479 to R483), landing of results (R476, R477), traps and interrupts (R498 to
R503), loops and repetitions (R494 to R497), and accesses to D-space (R488, R490). One command issues one instruction of one core. -/

namespace Sys2Proof.Machine

/-- The page of IRQ. -/
def irqPage : Nat := 0x0B

/-- The page of MON. -/
def monPage : Nat := 0x0E

/-- Core `c`, coded as IRQ_ROUTE.TARGET. -/
def State.cr (s : State) (c : Nat) : Core := tget s.core c {}
/-- Replace core `c`; CORESTAT.HALTED shows it (R502, R503, R577). -/
def State.setCr (s : State) (c : Nat) (k : Core) : State :=
  let h := s.get IRQ_CORESTAT_HALTED irqPage
  let s : State := { s with core := tput s.core c {} k }
  s.set IRQ_CORESTAT_HALTED irqPage (if k.halt || k.held then setBit h c else clrBit h c)

/-! Registers and windows (R479, R480). -/

/-- The physical register of windowed register `w` in the frame at `base`. -/
def winIdx (base w : Nat) : Nat := (base + w) % 248

/-- The value that register code `r` reads (R479). -/
def Core.reg (k : Core) (r : Nat) : Nat :=
  if r = 0 then 0 else if r < 8 then tget k.glob r 0 else tget k.win (winIdx k.base (r - 8)) 0

/-- Where a result for register code `r` lands; `none` for g0. -/
def Core.dest (k : Core) (r : Nat) : Option Dest :=
  if r = 0 then none else if r < 8 then some (.glob r) else some (.win (winIdx k.base (r - 8)))

/-- The window slides to a callee's or handler's frame; FRAMES past 15 has no stated value (log 76). -/
def Core.slideIn (k : Core) : Core :=
  { k with base := (k.base + 16) % 248, frames := if k.frames < 15 then k.frames + 1 else 1 + Config.framesPast k.frames % 15 }

/-- The window slides back; FRAMES below 1 has no stated value (log 76). -/
def Core.slideOut (k : Core) : Core :=
  { k with base := (k.base + 232) % 248, frames := if 1 < k.frames then k.frames - 1 else 1 + Config.framesPast k.frames % 15 }

/-! Control registers (R482). -/

/-- The value that MFC of index `i` reads on core `c`. -/
def Core.ctl (k : Core) (c i : Nat) : Nat :=
  match i with
  | 0 => b2n k.ie + 2 * b2n k.pie + 4 * b2n k.exl + 8 * b2n k.wt
  | 1 => k.epc
  | 2 => k.ecause
  | 3 => k.eval
  | 4 => k.vbase
  | 5 => k.spillp
  | 6 => k.frames
  | 7 => k.wepc
  | 0x08 | 0x09 | 0x0A => tget k.lstart (i - 8) 0
  | 0x0C | 0x0D | 0x0E => tget k.lend (i - 0xC) 0
  | 0x10 | 0x11 | 0x12 => tget k.lcount (i - 0x10) 0
  | 0x14 => k.rpt
  | 0x18 => c
  | 0x1C => k.ibank
  | _ => 0

/-- A word with the low two bits clear. -/
def align4 (v : Nat) : Nat := v / 4 * 4

/-- What an MTC of `v` to index `i` leaves once it lands; read-only and unassigned ones have no effect. IBANK is written by the
HK alone, and its MTC names 0x1D here. -/
def Core.mtc (k : Core) (i v : Nat) : Core :=
  match i with
  | 0 => { k with ie := bitOf v 0, pie := bitOf v 1, exl := bitOf v 2 }
  | 1 => { k with epc := v }
  | 4 => { k with vbase := v % 65536 / 2048 * 2048 }
  | 5 => { k with spillp := align4 v }
  | 7 => { k with wepc := v }
  | 0x08 | 0x09 | 0x0A => { k with lstart := tput k.lstart (i - 8) 0 (align4 (v % 65536)) }
  | 0x0C | 0x0D | 0x0E => { k with lend := tput k.lend (i - 0xC) 0 (align4 (v % 65536)) }
  | 0x10 | 0x11 | 0x12 => { k with lcount := tput k.lcount (i - 0x10) 0 (v % 65536) }
  | 0x14 => { k with rpt := v % 65536 }
  | 0x1D => { k with ibank := v % 2 }
  | _ => k

/-! Landing (R476, R477). -/

/-- A result lands. -/
def Core.land (k : Core) (d : Dest) (v : Nat) : Core :=
  match d with
  | .glob n => { k with glob := tput k.glob n 0 v }
  | .win p => { k with win := tput k.win p 0 v }
  | .ctl i => k.mtc i v

/-- The control register that a result lands in, when a loop register. -/
def Dest.loopReg : Dest → Option Nat
  | .ctl i => if 8 ≤ i ∧ i ≤ 0x12 then some i else none
  | _ => none

/-- What the end test of the instruction that now issues sees of the loop registers when the results `due` change them (R506; log 100). -/
def Core.loopSeen (k : Core) (due : List Landing) : Option LoopOld :=
  let l := due.filterMap fun p => p.dest.loopReg
  if l.isEmpty then none else some { lstart := k.lstart, lend := k.lend, lcount := k.lcount, landed := l }

/-- An instruction issues: results that it is the first to see land, in order of issue. -/
def Core.tick (k : Core) : Core :=
  let due := k.pend.filter fun p => p.left ≤ 1
  let rest := (k.pend.filter fun p => 1 < p.left).map fun p => { p with left := p.left - 1 }
  due.foldl (fun k p => k.land p.dest p.val) { k with pend := rest, loopOld := k.loopSeen due }

/-- Every pending result lands, each in its turn (R499). -/
def Core.flush (k : Core) : Core := (List.range 13).foldl (fun k _ => k.tick) k

/-- Issue a result for register code `r`, seen by the `n`-th instruction. -/
def Core.result (k : Core) (n r v : Nat) : Core :=
  match k.dest r with
  | some d => { k with pend := k.pend ++ [{ left := n, dest := d, val := v % 2 ^ 32 }] }
  | none => k

/-! Traps (R498 to R500). -/

/-- The core faults and stops (R500). -/
def coreFault (s : State) (c : Nat) (k : Core) : State :=
  let s := s.setCr c { k with faulted := true }
  (s.set IRQ_CORESTAT_FAULTED irqPage (setBit (s.get IRQ_CORESTAT_FAULTED irqPage) c)).irq irqPage c

/-- The vector of cause `v` (R498). -/
def Core.vector (k : Core) (v : Nat) : Nat := (k.vbase + 16 * v) % 65536

/-- A window trap (R480, R499); `back` is where RETI returns to. -/
def windowTrap (s : State) (c : Nat) (k : Core) (v back : Nat) : State :=
  if k.wt then coreFault s c k
  else
    let k := k.flush
    s.setCr c { k with wepc := back, wt := true, slot := none, rep := none, pc := k.vector v }

/-- The address that EPC or WEPC holds for the instruction at PC: in a delay slot its branch (R498). -/
def Core.here (k : Core) : Nat := match k.slot with | some d => d.addr | none => k.pc

/-- A trap of cause `v` at the instruction at PC (R498 to R500); SYS returns to the next instruction. A trap while EXL is 1 faults the core
whatever FRAMES holds, since it is not entered (log 100). -/
def coreTrap (s : State) (c : Nat) (k : Core) (v ev : Nat) (next : Bool := false) : State :=
  if k.wt || k.exl then coreFault s c k
  else if k.frames = 15 then windowTrap s c k 4 k.here
  else
    let back := match k.slot with | some d => d.addr | none => if next then (k.pc + 4) % 65536 else k.pc
    let cause := v + 256 * b2n k.slot.isSome + 512 * b2n k.rep.isSome
    let k := k.flush.slideIn
    s.setCr c { k with epc := back, ecause := cause, eval := ev, pie := k.ie, ie := false, exl := true, slot := none, rep := none,
                       pc := k.vector v }

/-- The illegal-instruction trap; the spec gives EVAL no value (log 3). -/
def illegal (s : State) (c : Nat) (k : Core) : State :=
  let (ev, s) := s.fresh (2 ^ 32)
  coreTrap s c k 0 ev

/-! The end of an instruction: loops, repetitions, delay slots. -/

/-- The highest-numbered active loop level (R495). -/
def Core.level (k : Core) : Option Nat := [2, 1, 0].find? fun l => tget k.lcount l 0 != 0

/-- The core with the loop registers that the end test sees (R495, R506). -/
def Core.atTest (k : Core) : Core :=
  match k.loopOld with
  | some o => { k with lstart := o.lstart, lend := o.lend, lcount := o.lcount }
  | none => k

/-- The loop-end test at address `a`: the core and the next address (R495). An LCOUNT that has landed at this instruction stays (R506; log 100). -/
def Core.loopEnd (k : Core) (a : Nat) : Core :=
  let v := k.atTest
  let go : Core := { k with pc := (a + 4) % 65536, loopOld := none }
  match v.level with
  | some l =>
    if tget v.lend l 0 = a then
      let n := tget v.lcount l 0
      let wrote := match k.loopOld with | some o => o.landed.contains (0x10 + l) | none => false
      { go with lcount := if wrote then k.lcount else tput k.lcount l 0 (n - 1), pc := if 1 < n then tget v.lstart l 0 else go.pc }
    else go
  | none => go

/-- LOOP, LOOPI and LBRK set registers of level `l` at once (R494). -/
def Core.setLoop (k : Core) (l start last count : Nat) : Core :=
  { k with lstart := tput k.lstart l 0 start, lend := tput k.lend l 0 last, lcount := tput k.lcount l 0 count,
           loopOld := k.loopOld.map fun o =>
             { o with lstart := tput o.lstart l 0 start, lend := tput o.lend l 0 last, lcount := tput o.lcount l 0 count } }

/-- LBRK (R494). -/
def Core.breakLoop (k : Core) (l : Nat) : Core := k.setLoop l (tget k.lstart l 0) (tget k.lend l 0) 0

/-- A monitor's step is over (R577). -/
def Core.stepped (k : Core) : Core := if k.held then { k with steps := k.steps - 1 } else k

/-- Control passes after the delay slot of `d` (R492, R493). -/
def Core.transfer (k : Core) (d : Slot) : Core :=
  let k : Core := { k with pc := d.target, slot := none }
  let k := if d.call then
      let k := k.slideIn
      { k with pend := k.pend ++ [{ left := 1, dest := .win (winIdx k.base 15), val := (d.addr + 8) % 2 ^ 32 }] }
    else if d.ret then k.slideOut else k
  k.stepped

/-- The instruction at PC has issued (R492, R495, R496). -/
def Core.finish (k : Core) : Core :=
  match k.rep with
  | some n =>
    if 1 < n then { k with rep := some (n - 1) } else ({ k with rep := none }.loopEnd k.pc).stepped
  | none =>
    match k.slot with
    | some d => k.transfer d
    | none => (k.loopEnd k.pc).stepped

/-! Issue. -/

/-- Whether core `c` issues (R475, R478, R500, R503, R577): started, its domain on, not stopped and no access freezing it. -/
def State.canIssue (s : State) (c : Nat) : Bool :=
  let k := s.cr c
  k.run && !k.faulted && !k.halt && (!k.held || k.steps != 0) && !s.clk.frozen && !s.pllStopped &&
    (match targetDomain c with | some n => s.domOn n | none => false) && (s.stall.find? fun e => e.1 == c).isNone

/-- What an instruction does: it completes, takes a trap, or freezes the core before it has done anything. -/
inductive Res where
  | ok (s : State) (k : Core)
  | trap (s : State) (v ev : Nat)
  | stall (s : State)

/-- The byte address of PC within the core's I-RAM. -/
def Core.fetchAt (k : Core) : Nat := k.pc + 65536 * k.ibank

/-- The word at PC of core `c` has an uncorrectable error: results land and cause 6 is taken, whatever the word was (R498, R583). -/
def fetchTrap (s : State) (c : Nat) : State :=
  coreTrap (eccUe s 0 c (s.cr c).fetchAt false) c (s.cr c).tick 6 (s.cr c).pc

/-- Issue an instruction other than a branch on core `c`: results land, `f` acts, and PC moves on. -/
def coreIssue (s : State) (c : Nat) (f : State → Core → Res) : State :=
  if !s.canIssue c then s
  else
    let k0 := s.cr c
    let k := k0.tick
    if s.isBad 0 c k0.fetchAt then fetchTrap s c
    else
      match f s k with
      | .ok s k => s.setCr c k.finish
      | .trap s v ev => coreTrap s c k v ev
      | .stall s => s

/-- An instruction that writes `f` to register `rd`, seen by the `n`-th instruction. -/
def coreAlu (s : State) (c n rd : Nat) (f : Core → Nat) : State := coreIssue s c fun s k => .ok s (k.result n rd (f k))

/-- The branch family (R476, R492): operands are read before the results that land now. `goal` is the target, `none` for a branch
that is not taken. -/
def coreBranch (s : State) (c : Nat) (goal : Core → Option Nat) (call ret : Bool) : State :=
  if !s.canIssue c then s
  else
    let k0 := s.cr c
    let k := k0.tick
    if s.isBad 0 c k0.fetchAt then fetchTrap s c
    else if k.slot.isSome then illegal s c k
    else if call && k.frames = 15 then windowTrap s c k 4 k.pc
    else if ret && k.frames = 1 then windowTrap s c k 5 k.pc
    else
      let t := match goal k0 with | some a => align4 (a % 65536) | none => (k.pc + 8) % 65536
      let slides := (goal k0).isSome
      s.setCr c { k with slot := some { addr := k.pc, target := t, call := call && slides, ret := ret && slides }, pc := (k.pc + 4) % 65536 }

/-! Arithmetic (R486). -/

/-- The signed value of a word. -/
def si (v : Nat) : Int := sgn 32 v

/-- Bitwise complement of a word. -/
def not32 (v : Nat) : Nat := 2 ^ 32 - 1 - v % 2 ^ 32

/-- Arithmetic shift right. -/
def sra (v n : Nat) : Nat := unsgn 32 (si v / (2 ^ n : Nat))

/-- Leading zeros of a word. -/
def clz (v : Nat) : Nat := ((List.range 32).find? fun i => bitOf v (31 - i)).getD 32

/-- The bytes of a word in reverse order. -/
def bswap (v : Nat) : Nat := v % 256 * 2 ^ 24 + v / 256 % 256 * 2 ^ 16 + v / 65536 % 256 * 256 + v / 2 ^ 24 % 256

/-- Division of DIV: truncating; by 0 all ones (R486). -/
def divS (a b : Nat) : Nat := if b = 0 then 2 ^ 32 - 1 else unsgn 32 ((si a).tdiv (si b))

/-- Remainder of REM: by 0 the dividend (R486). -/
def remS (a b : Nat) : Nat := if b = 0 then a else unsgn 32 ((si a).tmod (si b))

/-- Sign extension of a 16-bit immediate to a word (R487). -/
def sx16 (v : Nat) : Nat := unsgn 32 (sgn 16 v)

/-- Sum of two words. -/
def add32 (a b : Nat) : Nat := (a + b) % 2 ^ 32

/-! D-space (R58, R59, R488). -/

/-- Whether core `c` reaches address `a` of D-space, for a write if `w`: `none` when it does, the cause of a trap, or 0 when the
access has to wait for PD_MEM (R75). -/
def State.dReach (s : State) (c a : Nat) (w : Bool) : Option Nat :=
  let mem := (0x10000000 ≤ a && a < 0x10200000) || (0x30000000 ≤ a && a < 0x31000000 && !w && (c == 0 || c == 11))
  if a < 0x8000 then none
  else if mem then
    if s.domOn 6 then none
    else if s.flag PWR_DOMAIN_AUTOWAKE 2 6 && s.order 6 != 3 && s.order 7 != 3 then some 0 else some 2
  else if 0x20000000 ≤ a && a < 0x20004000 then (if w && !(c == 0 && 0x20003200 ≤ a) then some 2 else none)
  else some 2

/-- Memory code of R585, and byte address within that memory, of address `a` of D-space. -/
def dPlace (a : Nat) : Nat × Nat :=
  if a < 0x8000 then (1, a) else if a < 0x20000000 then (2, a - 0x10000000) else if a < 0x30000000 then (4, a - 0x20000000)
  else (5, a - 0x30000000)

/-- The core that owns the memory with code `m`, as `isBad` names it. -/
def ownerOf (m c : Nat) : Nat := if m = 1 then c else 0

/-- The `n` bytes at address `a` of core `c`'s D-space. -/
def State.dGet (s : State) (c a n : Nat) : Nat :=
  let p := dPlace a
  if p.1 = 1 then mgetN (tget s.dram c []) 0 p.2 n else if p.1 = 2 then mgetN s.sram 0 p.2 n
  else if p.1 = 4 then mgetN s.rind 0 p.2 n else mgetN s.cnvm 0xFF p.2 n

/-- Store `n` bytes at address `a` of core `c`'s D-space. -/
def State.dPut (s : State) (c a n v : Nat) : State :=
  let p := dPlace a
  if p.1 = 1 then { s with dram := tput s.dram c [] (mputN (tget s.dram c []) 0 p.2 n v) }
  else if p.1 = 2 then { s with sram := mputN s.sram 0 p.2 n v }
  else if p.1 = 4 then { s with rind := mputN s.rind 0 p.2 n v }
  else s

/-- An access to D-space waits for PD_MEM (R75, R478): the instruction issues again once the domain is on. -/
def dStall (s : State) (c a : Nat) : State :=
  let s := (s.need 6).hwPowerUp 6
  { s with stall := tput s.stall c {} { page := 0x100, off := a, since := s.tb, retry := true } }

/-- Core `c` accesses `n` bytes at `a`: misalignment, reach and uncorrectable codewords come first (R488, R583). -/
def dAccess (s : State) (c a n : Nat) (w : Bool) (go : State → Res) : Res :=
  if a % n != 0 then .trap s 3 a
  else
    match s.dReach c a w with
    | some 0 => .stall (dStall s c a)
    | some v => .trap s v a
    | none =>
      let p := dPlace a
      if s.isBad p.1 (ownerOf p.1 c) p.2 && !(w && n = 8) then
        .trap (eccUe s p.1 (ownerOf p.1 c) p.2 false) (if p.1 = 1 then 6 else 2) a
      else go s

/-- A load of `n` bytes, `f` extending them (R488); `inc` adds to the base register. -/
def coreLoad (s : State) (c rd ra off n : Nat) (f : Nat → Nat) (inc : Option Nat) : State :=
  coreIssue s c fun s k =>
    let a := add32 (k.reg ra) off
    dAccess s c a n false fun s =>
      let k := k.result 2 rd (f (s.dGet c a n))
      .ok s (match inc with | some d => k.result 1 ra (add32 (k.reg ra) d) | none => k)

/-- A store of the `n` low bytes of `rs` (R488). -/
def coreStore (s : State) (c rs ra off n : Nat) (inc : Option Nat) : State :=
  coreIssue s c fun s k =>
    let a := add32 (k.reg ra) off
    dAccess s c a n true fun s =>
      .ok (s.dPut c a n (k.reg rs)) (match inc with | some d => k.result 1 ra (add32 (k.reg ra) d) | none => k)

/-- SWP (R490): in shared SRAM or the core's own D-RAM. -/
def coreSwap (s : State) (c rd ra rb : Nat) : State :=
  coreIssue s c fun s k =>
    let a := k.reg ra
    if a % 4 = 0 && !(a < 0x8000 || (0x10000000 ≤ a && a < 0x10200000)) then .trap s 2 a
    else dAccess s c a 4 true fun s => .ok (s.dPut c a 4 (k.reg rb)) (k.result 2 rd (s.dGet c a 4))

/-- The base of the oldest resident frame (R481). -/
def Core.oldest (k : Core) : Nat := (k.base + 248 * 16 - 16 * (k.frames - 1)) % 248

/-- The words of a SPILL or FILL lie in the core's own D-RAM or shared SRAM (R481). -/
def spillOk (a : Nat) : Bool := a + 64 ≤ 0x8000 || (0x10000000 ≤ a && a + 64 ≤ 0x10200000)

/-- The accesses of a SPILL or FILL: the first word that cannot be reached decides. -/
def spillReach (s : State) (c a : Nat) (w : Bool) (go : State → Res) : Res :=
  match (List.range 16).find? fun i => (s.dReach c (a + 4 * i) w).isSome || s.isBad (dPlace (a + 4 * i)).1 (ownerOf (dPlace a).1 c) (dPlace (a + 4 * i)).2 with
  | some i => dAccess s c (a + 4 * i) 4 w go
  | none => go s

/-- SPILL (R481). -/
def coreSpill (s : State) (c : Nat) : State :=
  coreIssue s c fun s k =>
    if k.frames = 1 then .ok s k
    else if !spillOk k.spillp then .trap s 2 k.spillp
    else spillReach s c k.spillp true fun s =>
      let s := s.each (List.range 16) fun s i => s.dPut c (k.spillp + 4 * i) 4 (tget k.win (winIdx k.oldest i) 0)
      .ok s { k with spillp := add32 k.spillp 64, frames := k.frames - 1 }

/-- FILL (R481). -/
def coreFill (s : State) (c : Nat) : State :=
  coreIssue s c fun s k =>
    if k.frames = 15 then .ok s k
    else
      let a := add32 k.spillp (2 ^ 32 - 64)
      if !spillOk a then .trap s 2 a
      else spillReach s c a false fun s =>
        let b := (k.oldest + 232) % 248
        let win := (List.range 16).foldl (fun w i => tput w (winIdx b i) 0 (s.dGet c (a + 4 * i) 4)) k.win
        .ok s { k with win := win, spillp := a, frames := k.frames + 1 }

/-! Loops, repetitions and control registers. -/

/-- LOOP and LOOPI (R494). -/
def coreLoop (s : State) (c lvl len : Nat) (count : Core → Nat) : State :=
  coreIssue s c fun s k =>
    let n := count k % 65536
    let e := (k.pc + 4 * len) % 65536
    let k1 := k.setLoop lvl ((k.pc + 4) % 65536) e n
    if n = 0 && k.slot.isNone then .ok s { k1 with slot := some { addr := k.pc, target := (e + 4) % 65536 } } else .ok s k1

/-- REP (R496, R497): `ok` tells whether the next instruction may be repeated. -/
def coreRep (s : State) (c : Nat) (ok : Bool) : State :=
  if !s.canIssue c then s
  else
    let k0 := s.cr c
    let k := k0.tick
    if s.isBad 0 c k0.fetchAt then fetchTrap s c
    else if !ok || k.slot.isSome then illegal s c k
    else
      let k := k.loopEnd k.pc
      s.setCr c (if k.rpt = 0 then { k with pc := (k.pc + 4) % 65536 }.stepped else { k with rep := some k.rpt })

/-- RETI (R499). -/
def coreReti (s : State) (c : Nat) : State :=
  if !s.canIssue c then s
  else
    let k0 := s.cr c
    let k := k0.tick
    if s.isBad 0 c k0.fetchAt then fetchTrap s c
    else if k.slot.isSome then illegal s c k
    else if k.wt then s.setCr c { k with wt := false, pc := align4 (k.wepc % 65536) }.stepped
    else if k.frames = 1 then windowTrap s c k 5 k.pc
    else s.setCr c ({ k with ie := k.pie, exl := false, pc := align4 (k.epc % 65536) }.slideOut).stepped

/-- SYS (R498, R499). -/
def coreSys (s : State) (c imm : Nat) : State :=
  if !s.canIssue c then s
  else if s.isBad 0 c (s.cr c).fetchAt then fetchTrap s c
  else coreTrap s c (s.cr c).tick 7 imm true

/-- ILL (R485). -/
def coreIll (s : State) (c : Nat) : State :=
  if !s.canIssue c then s
  else if s.isBad 0 c (s.cr c).fetchAt then fetchTrap s c
  else illegal s c (s.cr c).tick

/-- BRK (R498, R577): in debug mode the core stops at it. -/
def coreBrk (s : State) (c imm : Nat) : State :=
  if !s.canIssue c then s
  else if s.isBad 0 c (s.cr c).fetchAt then fetchTrap s c
  else if bitOf (s.get MON_STAT_DEBUG monPage) c then
    ((s.setCr c { (s.cr c).tick with held := true, steps := 0 }).wdgHold c).irq monPage 1
  else coreTrap s c (s.cr c).tick 8 imm

/-! Interrupts (R501 to R503). -/

/-- The lines pending at core `c`, as a mask of 64 bits: pages routed to it, mailboxes and soft bits (R501, R504). -/
def State.lines (s : State) (c : Nat) : Nat :=
  let l := (List.range 139).foldl (fun m p =>
    if s.get H_IRQ_ROUTE_TARGET p = c && s.get H_IRQ_ROUTE_LINE p < 64 && s.irqActive p then setBit m (s.get H_IRQ_ROUTE_LINE p) else m)
    (tget s.soft c 0)
  (List.range 32).foldl (fun m b =>
    if s.flag MBOX_CFG_EN 0x0C b && s.get MBOX_CFG_DEST 0x0C b = c && !(tget s.mbox b []).isEmpty then setBit m (s.get MBOX_CFG_LINE 0x0C b)
    else m) l

/-- The lines enabled at core `c` (R502). -/
def State.lineEn (s : State) (c : Nat) : Nat := s.get IRQ_EN_LO irqPage c + 2 ^ 32 * s.get IRQ_EN_HI irqPage c

/-- The lowest-numbered pending line whose EN bit is set (R501). -/
def State.lineUp (s : State) (c : Nat) : Option Nat := (List.range 64).find? fun i => bitOf (s.lines c &&& s.lineEn c) i

/-- Whether core `c` would take an interrupt, results still pending aside (R501, R577). -/
def State.irqReady (s : State) (c : Nat) : Bool :=
  let k := s.cr c
  s.canIssue c && !k.held && !bitOf (s.get MON_STAT_DEBUG monPage) c && k.ie && !k.exl && !k.wt && k.slot.isNone && k.rep.isNone &&
    (s.lineUp c).isSome

/-- Entry to the interrupt of line `l` (R499, R501): EVAL has no stated value (log 3). -/
def coreInterrupt (s : State) (c l : Nat) : State :=
  let k := s.cr c
  if k.frames = 15 then windowTrap s c k 4 k.pc
  else
    let (ev, s) := s.fresh (2 ^ 32)
    let v := 16 + l
    let k := k.slideIn
    s.setCr c { k with epc := k.pc, ecause := v, eval := ev, pie := k.ie, ie := false, exl := true, pc := k.vector v }

/-! Start (R483). -/

/-- Core `c` starts at `entry` (R483). -/
def coreStart (s : State) (c entry : Nat) : State :=
  let s := (s.set IRQ_EN_LO irqPage 0 c).set IRQ_EN_HI irqPage 0 c
  let s := s.set MON_STAT_DEBUG monPage (clrBit (s.get MON_STAT_DEBUG monPage) c)
  s.setCr c { run := true, pc := align4 (entry % 65536) }

/-- The access that core `c` is frozen on goes on without it, under key 16 + `c`: it completes at its page and its result is
discarded (R506). -/
def orphan (s : State) (c : Nat) : State :=
  match s.stall.find? fun e => e.1 == c && !e.2.retry && e.2.window == 0 with
  | some e => { s with stall := tput (tdel s.stall c) (16 + c) {} { e.2 with io := none } }
  | none => { s with stall := tdel s.stall c }

/-- Core `c` stops and loses its state: its domain goes off, or it waits for its reload. -/
def coreStop (s : State) (c : Nat) : State := (orphan s c).setCr c {}

/-- The cores of domain `n` (R89). -/
def coresOf (n : Nat) : List Nat := (List.range 12).filter fun c => targetDomain c == some n

/-! Mailboxes (R504). -/

/-- The page of MBOX. -/
def mboxPage : Nat := 0x0C

/-- The words of mailbox `b` change. -/
def mboxSet (s : State) (b : Nat) (l : List Nat) : State :=
  ({ s with mbox := tput s.mbox b [] l } : State).set MBOX_STAT_COUNT mboxPage l.length b

/-- A push to mailbox `b`. -/
def mboxPush (s : State) (b v : Nat) : State :=
  let l := tget s.mbox b []
  if l.length < 8 then mboxSet s b (l ++ [v])
  else ((s.put MBOX_STAT_OVF mboxPage true b).irq mboxPage b).reject mboxPage

/-- A pop of mailbox `b`: the state after it and the word read. -/
def mboxPop (s : State) (b : Nat) : State × Nat :=
  match tget s.mbox b [] with
  | w :: q => (mboxSet s b q, w)
  | [] => (((s.put MBOX_STAT_UNDF mboxPage true b).irq mboxPage b).reject mboxPage, 0)

/-- A write of SOFT_SET or SOFT_CLR of core `c`: `hi` names lines 32 to 63 (R502). -/
def softEff (c : Nat) (set hi : Bool) (v : Nat) (s : State) : State :=
  let b := tget s.soft c 0
  let v := if hi then v % 2 ^ 32 * 2 ^ 32 else v % 2 ^ 32
  { s with soft := tput s.soft c 0 (if set then b ||| v else andNot b v) }

/-! Reserved encodings (R505). -/

/-- One alteration that a reserved encoding may make, chosen by free values: a general register, a control register or a word of
the core's D-RAM. -/
def reservedAlter (s : State) (c : Nat) (k : Core) : State × Core :=
  let (kind, s) := s.fresh 3
  let (at', s) := s.fresh 8192
  let (v, s) := s.fresh (2 ^ 32)
  if kind = 0 then (s, if at' < 8 then (if at' = 0 then k else k.land (.glob at') v) else k.land (.win (at' % 248)) v)
  else if kind = 2 then (s.dPut c (at' * 4) 4 v, k)
  else
    match at' % 32 with
    | 0 => (s, { k with ie := bitOf v 0, pie := bitOf v 1, exl := bitOf v 2, wt := bitOf v 3 })
    | 2 => (s, { k with ecause := v % 1024 })
    | 3 => (s, { k with eval := v })
    | 6 => (s, { k with frames := 1 + v % 15 })
    | 0x1C => (s, if c = 0 then { k with ibank := v % 2 } else k)
    | i => (s, k.mtc i v)

/-- A reserved encoding (R505): up to 64 alterations and then perhaps a trap, as free values choose. -/
def coreReserved (s : State) (c : Nat) : State :=
  if !s.canIssue c then s
  else if s.isBad 0 c (s.cr c).fetchAt then fetchTrap s c
  else
    let (n, s) := s.fresh 65
    let r := (List.range n).foldl (fun r _ => reservedAlter r.1 c r.2) (s, (s.cr c).tick)
    let (v, s) := r.1.fresh 81
    let (ev, s) := s.fresh (2 ^ 32)
    if v = 80 || (9 ≤ v && v < 16) then s.setCr c r.2.finish
    else if v = 4 || v = 5 then windowTrap s c r.2 v r.2.here
    else coreTrap s c r.2 v ev

end Sys2Proof.Machine
end

