-- ==== Sys2Proof/Machine/Nvm.lean ====
section
/-! DEFINITION. The data EEPROM (R507 to R537): reads through the word ECC, protection and passwords, direct page writes, pail records,
churn counters, the record engine, skimming and torn writes. -/

namespace Sys2Proof.Machine

/-- The page of NVM. -/
def nvmPage : Nat := 0x85

/-- The page of REC. -/
def recPage : Nat := 0x86

/-- Change the macro's hidden state. -/
def State.upNvm (s : State) (f : Nvm → Nvm) : State := { s with nvm := f s.nvm }

/-! Reading (R509, R515). -/

/-- The raw byte `a` of the EEPROM. -/
def State.eeByte (s : State) (a : Nat) : Nat := (mget s.eeprom 0xFF a).toNat

/-- Word `i` of the EEPROM as a read returns it. -/
def State.eeWord (s : State) (i : Nat) : Nat :=
  match s.torn.find? fun e => e.1 == i with
  | some e => e.2.2
  | none => mgetN s.eeprom 0xFF (4 * i) 4

/-- Whether word `i` has an uncorrectable error. -/
def State.eeUe (s : State) (i : Nat) : Bool := s.torn.any fun e => e.1 == i && e.2.1

/-- Whether a read of word `i` corrects an error. -/
def State.eeFixed (s : State) (i : Nat) : Bool := s.torn.any fun e => e.1 == i && !e.2.1

/-- A read meets uncorrectable word `i` (R515). -/
def eeUeSeen (s : State) (i : Nat) : State :=
  ((s.set NVM_UE_ADDR nvmPage (4 * i)).put NVM_ECC_UE_SEEN nvmPage true).irq nvmPage 2

/-- `n` words have been corrected (R515). -/
def eeCorr (s : State) (n : Nat) : State := s.set NVM_ECC_CORR nvmPage (satAdd 16 (s.get NVM_ECC_CORR nvmPage) n)

/-- A read of word `i` shows in ECC (R515). -/
def eeSeen (s : State) (i : Nat) : State := if s.eeUe i then eeUeSeen s i else if s.eeFixed i then eeCorr s 1 else s

/-- Read word `i`: the state after it and the word. -/
def eeRead (s : State) (i : Nat) : State × Nat := (eeSeen s i, s.eeWord i)

/-- The record engine reads every word of page `p`. -/
def pageSeen (s : State) (p : Nat) : State := s.each ((List.range 16).map (16 * p + ·)) eeSeen

/-- The 64 bytes of page `p` as reads return them. -/
def State.eePage (s : State) (p : Nat) : List Nat :=
  (List.range 64).map fun j => s.eeWord (16 * p + j / 4) / 2 ^ (8 * (j % 4)) % 256

/-- Little-endian value of `n` bytes of `l` from `i`. -/
def leOf (l : List Nat) (i n : Nat) : Nat :=
  match n with
  | 0 => 0
  | k + 1 => l.getD i 0 + 256 * leOf l (i + 1) k

/-- The `n` bytes of `v`, least significant first. -/
def leBytes (v n : Nat) : List Nat := (List.range n).map fun j => v / 256 ^ j % 256

/-! Writing (R511, R515). -/

/-- Store bytes in page `p` from offset `o`, modulo 64 (R511); the check bits of every touched word are rewritten (R515). -/
def eeStore (s : State) (p o : Nat) (data : List Byte) : State :=
  match data with
  | [] => s
  | b :: r =>
    let a := 64 * p + o % 64
    eeStore { s with eeprom := mput s.eeprom 0xFF a b, torn := s.torn.filter fun e => e.1 != a / 4 } p (o + 1) r

/-! Protection (R507, R512, R517 to R522). -/

/-- Whether PROT or the factory protection covers page `p` of P0 to P5 (R507, R517). -/
def State.bpCovers (s : State) (p : Nat) : Bool :=
  let bp := bitsOf s.nvm.bp (2 * (p / 256)) 2
  let i := p % 256
  p < 1536 && ((1280 ≤ p && p < 1344) || bp == 3 || (bp == 2 && 128 ≤ i) || (bp == 1 && 192 ≤ i))

/-- Whether master code `m` has opened kind `kind` (0 read, 1 write) of partition `part` (R518). -/
def State.pwOpen (s : State) (part kind m : Nat) : Bool := s.nvm.opens.contains (part, kind, m)

/-- Whether `m` may read page `p` (R507, R521, R522). -/
def State.mayRead (s : State) (p m : Nat) : Bool :=
  p < 1536 || (1792 ≤ p && p < 1808) || s.pwOpen (p / 256) 0 m

/-- Whether `m` holds the password a write to page `p` needs (R518, R521, R522): `free` tells that the operation needs none there. -/
def State.mayWrite (s : State) (p m : Nat) (free : Bool) : Bool :=
  if p < 1024 then true else if p < 1280 then free || s.pwOpen 7 1 m else if p < 1536 then true
  else if p < 1792 then s.pwOpen 6 1 m else free || s.pwOpen 7 1 m

/-- A direct write of page `p` is protected (R512, R521). -/
def State.wcmdBlocked (s : State) (p m : Nat) : Bool := s.bpCovers p || !s.mayWrite p m false

/-! Pail records and churn counters (R523 to R529). -/

/-- Whether page `p` holds a valid copy whose SEQ has parity `par` (R524). -/
def State.copyOk (s : State) (p par : Nat) : Bool :=
  let l := s.eePage p
  l.getD 1 0 == 0xC5 && l.getD 0 0 ≤ 56 && leOf l 2 2 % 2 == par && leOf l 60 4 == crc32c (l.take 60) &&
    (List.range 16).all fun w => !s.eeUe (16 * p + w)

/-- The copy that holds a record's value (R524): 0 A, 1 B; none when the record is absent. -/
def State.recSlot (s : State) (a b : Nat) : Option Nat :=
  let va := s.copyOk a 0
  let vb := s.copyOk b 1
  if va && vb then
    let d := (leOf (s.eePage a) 2 2 + 65536 - leOf (s.eePage b) 2 2) % 65536
    some (if 1 ≤ d && d ≤ 32767 then 0 else 1)
  else if va then some 0 else if vb then some 1 else none

/-- Whether word `i` of counter page `p` is valid (R527). -/
def State.cntOk (s : State) (p i : Nat) : Bool :=
  let w := s.eeWord (16 * p + i)
  w != 0xFFFFFFFF && w / 2 ^ 24 == crc8 (leBytes w 3) && w % 16 == i && !s.eeUe (16 * p + i)

/-- The valid words of a counter page. -/
def State.cntWords (s : State) (p : Nat) : List Nat :=
  ((List.range 16).filter fun i => s.cntOk p i).map fun i => s.eeWord (16 * p + i) % 2 ^ 24

/-- A churn counter's value (R527). -/
def State.cntValue (s : State) (p : Nat) : Nat := (s.cntWords p).foldl max 0

/-- Whether a churn counter is empty. -/
def State.cntEmpty (s : State) (p : Nat) : Bool := (s.cntWords p).isEmpty

/-- The write of value `v` to counter page `p` (R528, R529). -/
def cntWrite (p v : Nat) : NvWrite :=
  { page := p, off := 4 * (v % 16), data := (leBytes v 3 ++ [crc8 (leBytes v 3)]).map fun b => BitVec.ofNat 8 b }

/-- The write of a record's next copy (R525). -/
def recWrite (s : State) (a b len : Nat) (data : List Byte) : NvWrite :=
  let seq := match s.recSlot a b with
    | some k => (leOf (s.eePage (if k = 0 then a else b)) 2 2 + 1) % 65536
    | none => 0
  let body := [len, 0xC5] ++ leBytes seq 2 ++ (List.range 56).map fun j => if j < len then (data.getD j 0).toNat else 0
  { page := if seq % 2 = 0 then a else b, off := 0, data := (body ++ leBytes (crc32c body) 4).map fun x => BitVec.ofNat 8 x }

/-! The record engine (R530, R531, R592). -/

/-- Whether a page of the pair lies in `lo` to `hi` of P4. -/
def inP4 (r : RecCmd) (lo hi : Nat) : Bool :=
  (1024 + lo ≤ r.a && r.a ≤ 1024 + hi) || (1024 + lo ≤ r.b && r.b ≤ 1024 + hi)

/-- The payload that a record holds. -/
def State.recPayload (s : State) (a b : Nat) : Option (List Nat) :=
  (s.recSlot a b).map fun k =>
    let l := s.eePage (if k = 0 then a else b)
    (List.range 56).map fun j => if j < l.getD 0 0 then l.getD (4 + j) 0 else 0

/-- Sum of the KEEP_MS fields of a keeper record (R590). -/
def keepSum (l : List Nat) : Nat := ((List.range 8).map fun e => leOf l (7 * e + 3) 4).sum

/-- Whether a REC_WRITE would lower a count of the sinter log (R592). -/
def State.lowers (s : State) (r : RecCmd) : Bool :=
  match s.recPayload r.a r.b with
  | none => false
  | some old =>
    let new := (List.range 56).map fun j => if j < r.len then (r.data.getD j 0).toNat else 0
    (inP4 r 58 237 && ((List.range 14).any (fun i => leOf new (3 * i) 3 < leOf old (3 * i) 3) ||
      sgn 16 (leOf new 42 2) < sgn 16 (leOf old 42 2))) ||
    (inP4 r 42 57 && keepSum new < keepSum old)

/-- Whether an operation needs no password at page `p` (R521, R522). -/
def recFree (r : RecCmd) (p : Nat) : Bool :=
  ((r.op == 2 || r.op == 4 || r.op == 5) && 1024 ≤ p && p < 1280) || (r.op == 4 && p == 1792 && r.m == 0) ||
    (r.op == 5 && p == 1793 && r.m == 0)

/-- The pages that a command names. -/
def recPages (r : RecCmd) : List Nat := if r.op = 1 || r.op = 2 || r.op = 7 then [r.a, r.b] else [r.a]

/-- The result that ends a command without its effect (R521, R528, R530, R592). -/
def recError (s : State) (r : RecCmd) : Option Nat :=
  let pair := r.op = 1 || r.op = 2 || r.op = 7
  if r.op = 2 && 56 < r.len then some 4
  else if pair && (r.a / 256 != r.b / 256 || (r.a < r.b + 2 && r.b < r.a + 2)) then some 4
  else if (r.op = 1 || r.op = 3) && (recPages r).any fun p => !s.mayRead p r.m then some 3
  else if r.op != 1 && r.op != 3 && (recPages r).any fun p => !s.mayWrite p r.m (recFree r p) then some 3
  else if r.op != 1 && r.op != 3 && (recPages r).any fun p => s.bpCovers p then some 2
  else if r.op = 2 && !s.pwOpen 7 1 r.m && s.lowers r then some 4
  else if r.op = 4 && s.cntValue r.a = 0xFFFFFF then some 6
  else none

/-- Sixty-four erased bytes. -/
def erased64 : List Byte := List.replicate 64 0xFF

/-- The page write that a command makes at stage `n`. -/
def recPlan (s : State) (r : RecCmd) (n : Nat) : Option NvWrite :=
  if n = 0 && (recError s r).isSome then none
  else if r.op = 2 && n = 0 then some (recWrite s r.a r.b r.len r.data)
  else if r.op = 4 && n = 0 then some (cntWrite r.a (s.cntValue r.a + 1))
  else if r.op = 5 && n = 0 then (if s.cntValue r.a < r.raise then some (cntWrite r.a r.raise) else none)
  else if r.op = 6 && n = 0 then some ⟨r.a, 0, erased64⟩
  else if r.op = 7 && n < 2 then some ⟨if n = 0 then r.b else r.a, 0, erased64⟩
  else none

/-- The journal entry of a refresh (R533). -/
def journalOf (page word val : Nat) : List Nat :=
  let b := leBytes page 2 ++ [word, 0x5A] ++ leBytes val 4
  b ++ leBytes (crc32c b) 4

/-- The page write of an operation at stage `n`; none when it has no more (R510, R517, R519, R525, R533). -/
def nvPlan (s : State) (o : NvOp) (n : Nat) : Option NvWrite :=
  match o with
  | .direct p off d => if n = 0 then some ⟨p, off, d⟩ else none
  | .prot _ | .tries _ | .pass _ _ _ => if n = 0 then some ⟨0, 0, []⟩ else none
  | .cmd r => recPlan s r n
  | .refresh p w v =>
    if n = 0 then some ⟨1795, 0, (journalOf p w v).map fun b => BitVec.ofNat 8 b⟩
    else if n = 1 then some ⟨p, 4 * w, (leBytes v 4).map fun b => BitVec.ofNat 8 b⟩
    else if n = 2 then some ⟨1795, 3, [0]⟩ else none
  | .skimInc => if n = 0 then some (cntWrite 1794 (s.cntValue 1794 + 1)) else none
  | .replay p w v =>
    if n = 0 then some ⟨p, 4 * w, (leBytes v 4).map fun b => BitVec.ofNat 8 b⟩ else if n = 1 then some ⟨1795, 3, [0]⟩ else none
  | .tail p off d => if n = 0 then some ⟨p, off, d⟩ else none

/-- Whether an operation belongs to skimming, which goes after every other (R530). -/
def NvOp.skims (o : NvOp) : Bool := match o with | .refresh _ _ _ | .skimInc => true | _ => false

/-- BUSY_SHADOW shows the macro (R537). -/
def nvShow (s : State) : State :=
  let w := s.nvm.run.isSome
  let sk := w && (match s.nvm.queue with | o :: _ => o.skims | [] => false)
  let s := ((s.put REC_BUSY_SHADOW_BUSY recPage w).put REC_BUSY_SHADOW_WRITE recPage w).put REC_BUSY_SHADOW_SKIM recPage sk
  s.set REC_BUSY_SHADOW_QUEUED recPage (min (s.nvm.queue.length - b2n w) 15)

/-- Operations at the head of the queue that keep their place: one that has begun, and a journal replay with what it has gone ahead of. -/
def State.nvBegun (s : State) : Nat :=
  if s.nvm.cutOff.isSome then 2 else b2n (s.nvm.run.isSome || s.nvm.stage != 0 || s.nvm.result.isSome)

/-- Whether an operation is a command of the record engine that was accepted in this BCLK. -/
def NvOp.cmdAt (o : NvOp) (tb : Nat) : Bool := match o with | .cmd r => r.tb == tb | _ => false

/-- Whether an operation is a direct write. -/
def NvOp.isDirect (o : NvOp) : Bool := match o with | .direct _ _ _ => true | _ => false

/-- Queue an operation in the order of acceptance (R530); a direct write goes before a command accepted in its BCLK (R535). -/
def nvQueue (s : State) (o : NvOp) : State :=
  let head := s.nvm.queue.take s.nvBegun
  let rest := s.nvm.queue.drop s.nvBegun
  let main := rest.filter fun x => !x.skims
  let now (x : NvOp) : Bool := o.isDirect && x.cmdAt s.tb
  let q := if o.skims then rest ++ [o] else main.filter (fun x => !now x) ++ [o] ++ main.filter now ++ rest.filter NvOp.skims
  nvShow (s.upNvm fun x => { x with queue := head ++ q })

/-- The head operation is over; one that a replay has gone ahead of stands where it stood. -/
def nvPop (s : State) : State :=
  let o := s.nvm.cutOff.getD (0, none)
  nvShow (s.upNvm fun x => { x with queue := x.queue.drop 1, stage := o.1, run := none, result := o.2, cutOff := none, waitFrom := none })

/-- A write is dropped for want of VBAT (R513). -/
def nvLowv (s : State) : State := (s.put NVM_WSTAT_LOWV nvmPage true).irq nvmPage 3

/-! Passwords (R518 to R520). -/

/-- The passwords of partition `part`. -/
def State.pwPart (s : State) (part : Nat) : PwPart := if part = 6 then s.nvm.p6 else s.nvm.p7

/-- Change the passwords of a partition. -/
def State.upPw (s : State) (part : Nat) (f : PwPart → PwPart) : State :=
  s.upNvm fun x => if part = 6 then { x with p6 := f x.p6 } else { x with p7 := f x.p7 }

/-- Length of lockout `k` in ns of TB (R519). -/
def lockoutNs (k : Nat) : Nat := 600000000000 * 2 ^ (min k 10 - 1)

/-- What the page write of an operation leaves in the hidden rows: PROT, a password, or a wrong try, the eighth of which locks the
partition out (R517 to R519). -/
def nvHidden (s : State) (o : NvOp) : State :=
  match o with
  | .prot v => s.upNvm fun x => { x with bp := v }
  | .pass part kind v => s.upPw part fun x => if kind = 0 then { x with rd := v } else { x with wr := v }
  | .tries part =>
    let s := s.upPw part fun x => { x with tries := min (x.tries + 1) 15 }
    if (s.pwPart part).tries = 8 then
      s.upPw part fun x => { x with lockouts := min (x.lockouts + 1) 15, lockEnd := some (s.tb + lockoutNs (x.lockouts + 1)) }
    else s
  | _ => s

/-- A wrong try has been written (R519). -/
def pwWrong (s : State) (part : Nat) : State :=
  let s := (nvHidden s (.tries part)).irq nvmPage 4
  if (s.pwPart part).tries = 8 then s.irq nvmPage 5 else s

/-- A lockout whose time has run ends, and TRIES with it (R519). -/
def lockoutEnd (s : State) (part : Nat) : State :=
  match (s.pwPart part).lockEnd with
  | some t => if t ≤ s.tb then s.upPw part fun x => { x with lockEnd := none, tries := 0 } else s
  | none => s

/-- PW_CMD present (R518, R519); one in the BCLK at which a lockout ends comes after it (R535). -/
def pwPresent (s : State) (m part kind : Nat) : State :=
  let s := lockoutEnd s part
  let x := s.pwPart part
  if x.lockEnd.isSome then s.reject nvmPage
  else if (if kind = 0 then x.rd else x.wr) = s.nvm.pwLo + 2 ^ 32 * s.nvm.pwHi then
    let s := s.upPw part fun y => { y with tries := 0, lockouts := 0 }
    s.upNvm fun y => { y with opens := if y.opens.contains (part, kind, m) then y.opens else (part, kind, m) :: y.opens }
  else nvQueue s (.tries part)

/-- PW_CMD (R518 to R520): a partition other than 6 and 7 or OP 0 is rejected. -/
def pwCmdEff (m : Master) (v : Nat) (s : State) : State :=
  let part := v % 8
  let kind := bitsOf v 4 1
  let op := bitsOf v 8 2
  if part < 6 || op = 0 || (op < 3 && !s.accepts nvmPage) then s.reject nvmPage
  else if op = 1 then pwPresent s m.code part kind
  else if op = 2 then
    (if s.pwOpen part kind m.code then nvQueue s (.pass part kind (s.nvm.pwLo + 2 ^ 32 * s.nvm.pwHi)) else s.reject nvmPage)
  else s.upNvm fun x => { x with opens := x.opens.filter fun o => o != (part, kind, m.code) }

/-! Direct writes (R510 to R512, R514, R517). -/

/-- Whether `m` may use WBUF, which another master owns otherwise (R510). -/
def State.wbufMine (s : State) (m : Master) : Bool :=
  s.get NVM_WSTAT_WOWNER nvmPage == 15 || s.get NVM_WSTAT_WOWNER nvmPage == m.code

/-- A write of WBUF (R510). -/
def wbufEff (m : Master) (off v : Nat) (s : State) : State :=
  if s.wbufMine m then (plainWrite s nvmPage off v).set NVM_WSTAT_WOWNER nvmPage m.code else s.reject nvmPage

/-- The bytes of WBUF. -/
def State.wbuf (s : State) (j : Nat) : Byte := BitVec.ofNat 8 (s.get NVM_WBUF nvmPage (j % 64 / 4) / 2 ^ (8 * (j % 4)))

/-- A write of WCMD (R510 to R512): byte j of WBUF goes to byte j of the page. -/
def wcmdEff (m : Master) (v : Nat) (s : State) : State :=
  let p := v % 2048
  let off := bitsOf v 16 6
  let len := bitsOf v 24 7
  if !s.accepts nvmPage || !s.wbufMine m then s.reject nvmPage
  else if s.wcmdBlocked p m.code then
    let s := s.reject nvmPage
    let s := (s.put NVM_WSTAT_PROT_ERR nvmPage true).irq nvmPage 1
    if 12 ≤ m.code then s.answer .guarded else s
  else
    let d := (List.range len).map fun j => s.wbuf (off + j)
    nvQueue (s.set NVM_WSTAT_WOWNER nvmPage 15) (.direct p off d)

/-- A write of PROT (R517): a page write, unless the lock keeps the value (R4). -/
def protEff (v : Nat) (s : State) : State :=
  if !s.flag H_LOCKSTAT_UNLOCKED nvmPage then s else if s.accepts nvmPage then nvQueue s (.prot (v % 4096)) else s.reject nvmPage

/-- A write of WBUF_REL (R510). -/
def wbufRel (m : Master) (v : Nat) (s : State) : State :=
  if !s.wbufMine m then s.reject nvmPage else if bitOf v 0 then s.set NVM_WSTAT_WOWNER nvmPage 15 else s

/-- Whether the macro holds off accesses to the NVM page (R514). -/
def State.macroBusy (s : State) : Bool := s.nvm.run.isSome && s.domOn 10

/-- An access to the NVM page while the macro is busy (R514): a core freezes, the host port and the ring are answered at once. -/
def nvWait (s : State) (m : Master) (off : Nat) (w : Option Nat) : State :=
  if m.code < 12 then
    { s.answer .none with stall := tput s.stall m.code {} { page := nvmPage, off := off, write := w, since := s.tb, nvm := true } }
  else s.answer .busy

/-- A write to the NVM page (R514). -/
def nvmWrite (s : State) (m : Master) (off v : Nat) (eff : Nat → State → State) : State :=
  if s.macroBusy then nvWait s m off (some v) else accessWrite s m nvmPage off v eff

/-! The macro at work. -/

/-- Whether a page write of the operation waits for VBAT (R513): of WCMD, the record engine, skimming and PROT; those of passwords and
tries do not (log 101). -/
def NvOp.waitsVbat (o : NvOp) : Bool := match o with | .tries _ | .pass _ _ _ | .tail _ _ _ => false | _ => true

/-- The operation as it comes to its turn: a refresh takes the word as it then is (R533; log 101). -/
def NvOp.atTurn (o : NvOp) (s : State) : NvOp :=
  match o with
  | .refresh p w _ => if s.nvm.stage = 0 then .refresh p w (s.eeWord (16 * p + w)) else o
  | _ => o

/-- What the record engine reads before its first write: both copies of a record, the word of a counter (R515, R525, R528). -/
def turnReads (s : State) (o : NvOp) : State :=
  match o with
  | .cmd r => if s.nvm.stage != 0 then s else if r.op = 2 then pageSeen (pageSeen s r.a) r.b else if r.op = 4 || r.op = 5 then pageSeen s r.a else s
  | _ => s

/-- The head operation's next page write starts, or waits for VBAT (R513). -/
def nvStart (s : State) : State :=
  match s.nvm.queue with
  | [] => s
  | o :: q =>
    if s.nvm.run.isSome || s.nvm.result.isSome then s
    else
      let o := o.atTurn s
      match nvPlan s o s.nvm.stage with
      | none => s
      | some w =>
        if 6000 ≤ s.vbat || !o.waitsVbat then
          nvShow ((turnReads s o).upNvm fun x => { x with queue := o :: q, run := some w, start := s.tb, waitFrom := none })
        else s.upNvm fun x => { x with waitFrom := some (x.waitFrom.getD s.tb) }

/-- The operation's own effect once its last write has ended. -/
def nvEnd (s : State) (o : NvOp) : State :=
  match o with
  | .direct _ _ _ => (nvPop s).irq nvmPage 0
  | .prot _ | .pass _ _ _ => nvHidden (nvPop s) o
  | .tries part => pwWrong (nvPop s) part
  | .cmd _ => s.upNvm fun x => { x with result := some 0 }
  | .refresh _ _ _ => s.upNvm fun x => { x with result := some 0 }
  | .skimInc | .tail _ _ _ => nvPop s
  | .replay _ _ _ => ((nvPop s).put REC_JOURNAL_REPLAYED recPage true).irq recPage 5

/-- The page write in progress completes (R508). -/
def nvComplete (s : State) : State :=
  match s.nvm.run, s.nvm.queue with
  | some w, o :: _ =>
    let s := nvShow ((eeStore s w.page w.off w.data).upNvm fun x => { x with run := none, stage := x.stage + 1 })
    if (nvPlan s o s.nvm.stage).isSome then s else nvEnd s o
  | _, _ => s

/-- A write that has waited for VBAT is dropped (R513). -/
def nvDrop (s : State) : State :=
  match s.nvm.queue with
  | [] => s
  | o :: _ =>
    match o with
    | .cmd _ => s.upNvm fun x => { x with result := some 5, waitFrom := none }
    | _ => nvLowv (nvPop s)

/-! Commands of the record engine. -/

/-- The payload registers of block `k`. -/
def State.recData (s : State) (k : Nat) : List Byte :=
  (List.range 56).map fun j => BitVec.ofNat 8 (s.get REC_PAYLOAD recPage k (j / 4) / 2 ^ (8 * (j % 4)))

/-- A write of CMD.OP (R530). -/
def recCmdEff (m : Master) (k v : Nat) (s : State) : State :=
  let op := v % 16
  if s.flag REC_STAT_BUSY recPage k || !s.accepts recPage || op = 0 || 7 < op then s.reject recPage
  else
    let s := s.put REC_STAT_BUSY recPage true k
    let a := s.get REC_ARG_PAGE_A recPage k
    let b := s.get REC_ARG_PAGE_B recPage k
    nvQueue s (.cmd ⟨k, op, m.code, a, b, s.get REC_LEN recPage k, s.get REC_RAISE recPage k, s.recData k, s.tb⟩)

/-- Block `k` ends its command with a result (R530, R531). -/
def recDone (s : State) (k res : Nat) : State :=
  ((s.put REC_STAT_BUSY recPage false k).put REC_STAT_DONE recPage true k).set REC_STAT_RESULT recPage res k |>.irq recPage k

/-- The result fields of a record (R530). -/
def recShow (s : State) (r : RecCmd) : State :=
  match s.recSlot r.a r.b with
  | none => s
  | some x => (s.set REC_STAT_SLOT recPage x r.k).set REC_STAT_SEQ recPage (leOf (s.eePage (if x = 0 then r.a else r.b)) 2 2) r.k

/-- REC_READ at its turn (R524, R526): the state and the result. -/
def recRead (s : State) (r : RecCmd) : State × Nat :=
  let va := s.copyOk r.a 0
  let vb := s.copyOk r.b 1
  let s := pageSeen (pageSeen s r.a) r.b
  let s := (s.put REC_STAT_VALID_A recPage va r.k).put REC_STAT_VALID_B recPage vb r.k
  match s.recSlot r.a r.b with
  | none => (((s.bump REC_CNT_ABSENT recPage).irq recPage 4).logDev 41, 1)
  | some x =>
    let s := if va && vb then s else s.bump REC_CNT_ONE_COPY recPage
    let l := s.eePage (if x = 0 then r.a else r.b)
    let s := (recShow s r).set REC_LEN recPage (l.getD 0 0) r.k
    (s.each (List.range 14) fun s j => s.set REC_PAYLOAD recPage (leOf l (4 + 4 * j) 4) r.k j, 0)

/-- The counter's value is shown (R530). -/
def cntShow (s : State) (r : RecCmd) : State :=
  (s.set REC_VALUE recPage (s.cntValue r.a) r.k).put REC_VALUE_EMPTY recPage (s.cntEmpty r.a) r.k

/-- A command at the head has no write left: its result (R530, R531). -/
def recFinish (s : State) (r : RecCmd) : State :=
  match s.nvm.result with
  | some res =>
    let s := if res = 0 then (if r.op = 2 then recShow s r else if r.op = 4 || r.op = 5 then cntShow s r else s) else s
    recDone (nvPop s) r.k res
  | none =>
    match recError s r with
    | some e => recDone (nvPop s) r.k e
    | none =>
      let t := if r.op = 1 then recRead s r else if r.op = 3 || r.op = 5 then (cntShow (pageSeen s r.a) r, 0) else (s, 0)
      recDone (nvPop t.1) r.k t.2

/-- Clearing REC's EN: queued commands end ABORTED; one whose page write has started completes (R532). -/
def recDrain (s : State) : State :=
  let head := s.nvm.queue.take s.nvBegun
  let rest := s.nvm.queue.drop s.nvBegun
  let gone := rest.filterMap fun o => match o with | .cmd r => some r.k | _ => none
  let first := s.nvBegun = 0 && (match rest with | .cmd _ :: _ => true | _ => false)
  let s := s.upNvm fun x =>
    { x with queue := head ++ rest.filter fun o => match o with | .cmd _ => false | _ => true
             waitFrom := if first then none else x.waitFrom }
  nvShow (s.each gone fun s k => recDone s k 7)

/-! Skimming and the journal (R533, R534). -/

/-- The time with PD_PSV on that is left to the next margin read. -/
def State.skimDue (s : State) : Bool :=
  match s.nvm.skimFrom with
  | some t => decide (t + s.nvm.skimLeft ≤ s.tb)
  | none => false

/-- A margin read of one page (R533): weak words, and words in which it finds an uncorrectable error. A word whose normal read needs a
correction is weak as well. -/
def skimRead (s : State) (weak ue : List Nat) (corr : Nat) : State :=
  let p := s.cntValue 1794 % 2048
  let s := s.upNvm fun x => { x with skimFrom := some s.tb, skimLeft := 1265625000000 }
  let bad := (ue.filter (· < 16)).map (16 * p + ·)
  let s : State := { s with torn := bad.foldl (fun l i => tins (tdel l i) i (true, s.eeWord i)) s.torn }
  let s := eeCorr (pageSeen s p) corr
  let l := (List.range 16).filter fun w => (weak.contains w || s.eeFixed (16 * p + w)) && !s.eeUe (16 * p + w)
  let s := l.foldl (fun s w => nvQueue s (.refresh p w (s.eeWord (16 * p + w)))) s
  if s.cntValue 1794 < 0xFFFFFF then nvQueue s .skimInc else s

/-- The time to the next margin read stops while PD_PSV is not on. -/
def skimPause (s : State) : State :=
  s.upNvm fun x => { x with skimLeft := x.skimLeft - (s.tb - x.skimFrom.getD s.tb), skimFrom := none }

/-- A pending journal entry is replayed at a power-up of PD_PSV before any other operation (R534). -/
def nvReplay (s : State) : State :=
  let s := s.put REC_JOURNAL_REPLAYED recPage false
  let going := match s.nvm.queue with | .replay _ _ _ :: _ => true | _ => false
  let l := (List.range 12).map fun j => s.eeByte (64 * 1795 + j)
  if !going && l.getD 3 0 != 0 && leOf l 8 4 == crc32c (l.take 3 ++ [0x5A] ++ (l.drop 4).take 4) then
    let o := NvOp.replay (leOf l 0 2 % 2048) (l.getD 2 0 % 16) (leOf l 4 4)
    let kept := if s.nvm.stage != 0 || s.nvm.result.isSome then some (s.nvm.stage, s.nvm.result) else none
    nvShow (s.upNvm fun x => { x with queue := o :: x.queue, stage := 0, result := none, cutOff := kept })
  else s

/-! Torn writes (R516). -/

/-- A torn byte: `old` to `new`, failing in the erase phase or, if `prog`, in the program phase; `f` supplies the open bits. -/
def tornByte (old new f : Nat) (prog : Bool) : Nat :=
  if prog then (new ||| (f &&& (255 - new))) % 256 else (old ||| (f &&& (255 - old))) % 256

/-- The bytes of a page write that VBAT interrupts (R516). -/
def tearBytes (s : State) (p o : Nat) (data : List Byte) (prog : Bool) : State :=
  match data with
  | [] => s
  | b :: r =>
    let a := 64 * p + o % 64
    let (f, s) := s.fresh 256
    let v := tornByte (s.eeByte a) b.toNat f prog
    tearBytes { s with eeprom := mput s.eeprom 0xFF a (BitVec.ofNat 8 v) } p (o + 1) r prog

/-- The ECC of a touched word after a torn write (R515, R516): no error, uncorrectable, or one bit corrected, of the word or of its check
bits. -/
def tearWord (s : State) (i : Nat) : State :=
  let (k, s) := s.fresh 3
  let raw := mgetN s.eeprom 0xFF (4 * i) 4
  let (b, s) := s.fresh 33
  let fixed := if b = 32 then raw else raw ^^^ 2 ^ b
  if k = 0 then { s with torn := s.torn.filter fun e => e.1 != i }
  else { s with torn := tins (tdel s.torn i) i (k == 1, if k = 1 then raw else fixed) }

/-- A value of `w` bits in the hidden rows after a torn write (R516, R517; log 101). -/
def tornBits (s : State) (w old new : Nat) (prog : Bool) : Nat × State :=
  let (f, s) := s.fresh (2 ^ w)
  let v := if prog then new else old
  ((v ||| (f &&& (2 ^ w - 1 - v % 2 ^ w))) % 2 ^ w, s)

/-- The hidden row whose write VBAT interrupts: PROT, a password or TRIES. -/
def tearHidden (s : State) (o : NvOp) (prog : Bool) : State :=
  match o with
  | .prot v =>
    let (x, s) := tornBits s 12 s.nvm.bp v prog
    s.upNvm fun y => { y with bp := x }
  | .pass part kind v =>
    let (x, s) := tornBits s 64 (if kind = 0 then (s.pwPart part).rd else (s.pwPart part).wr) v prog
    s.upPw part fun y => if kind = 0 then { y with rd := x } else { y with wr := x }
  | .tries part =>
    let (x, s) := tornBits s 4 (s.pwPart part).tries (min ((s.pwPart part).tries + 1) 15) prog
    s.upPw part fun y => { y with tries := x }
  | _ => s

/-- VBAT falls below the undervoltage threshold during a page write (R516); queued operations are lost. -/
def nvTear (s : State) (prog : Bool) : State :=
  let s := match s.nvm.run with
    | some w =>
      let s := tearBytes s w.page w.off w.data prog
      let s := s.each (((List.range w.data.length).map fun j => (64 * w.page + (w.off + j) % 64) / 4).eraseDups) tearWord
      match s.nvm.queue.head? with
      | some o => tearHidden s o prog
      | none => s
    | none => s
  s.upNvm fun x => { x with queue := [], stage := 0, run := none, result := none, cutOff := none, waitFrom := none, opens := [] }

/-- A start of core `c` frees WBUF and closes its openings (R510, R518). -/
def nvCoreStart (s : State) (c : Nat) : State :=
  let s := if s.get NVM_WSTAT_WOWNER nvmPage = c then s.set NVM_WSTAT_WOWNER nvmPage 15 else s
  s.upNvm fun x => { x with opens := x.opens.filter fun o => o.2.2 != c }

/-- A lockout that was running starts again at its full length (R519). -/
def lockoutAgain (s : State) : State :=
  s.each [6, 7] fun s p => s.upPw p fun x => { x with lockEnd := x.lockEnd.map fun _ => s.tb + lockoutNs x.lockouts }

/-- Minutes of lockout left (R536). -/
def State.lockLeft (s : State) (part : Nat) : Nat :=
  match (s.pwPart part).lockEnd with
  | some t => (t - s.tb + 59999999999) / 60000000000
  | none => 0

/-- PW_STAT as master `m` reads it (R518, R536). -/
def State.pwStat (s : State) (m : Nat) : Nat :=
  let half (part : Nat) : Nat :=
    b2n (s.pwOpen part 0 m) + 2 * b2n (s.pwOpen part 1 m) + 4 * b2n (s.pwPart part).lockEnd.isSome + 16 * (s.pwPart part).tries +
      256 * (s.pwPart part).lockouts
  half 6 + 65536 * half 7

/-! Commands. -/

/-- WBUF_WRITE (R510). -/
def execWbufWrite (m : Master) (j : Nat) (v : Word) (s : State) : Host.Outcome State Fault Refusal :=
  .next (nvmWrite s m (0x100 + 4 * j) v.toNat (wbufEff m (0x100 + 4 * j)))

/-- WCMD (R511). -/
def execWcmd (m : Master) (page off len : Nat) (s : State) : Host.Outcome State Fault Refusal :=
  let v := page + off * 2 ^ 16 + len * 2 ^ 24
  .next (nvmWrite s m 0x48 v (wcmdEff m))

/-- WBUF_REL (R510). -/
def execWbufRel (m : Master) (s : State) : Host.Outcome State Fault Refusal := .next (nvmWrite s m 0x4C 1 (wbufRel m))

/-- PAGE_WRITE_START (R513). -/
def execPageWriteStart (s : State) : Host.Outcome State Fault Refusal := .next (if s.domRuns 10 then nvStart s else s)

/-- LOWV_WAIT_EXPIRY (R513). -/
def execLowvWaitExpiry (s : State) : Host.Outcome State Fault Refusal :=
  match s.nvm.waitFrom with
  | some t =>
    .next (if s.domOn 10 && s.vbat < 6000 && t + s.get NVM_CFG_LOWV_WAIT nvmPage * 1000000 ≤ s.tb then nvDrop s else s)
  | none => .next s

/-- PROT_WRITE (R517). -/
def execProtWrite (m : Master) (bp : Nat) (s : State) : Host.Outcome State Fault Refusal :=
  .next (nvmWrite s m 0x50 bp protEff)

/-- PW_PRESENT (R519). -/
def execPwPresent (m : Master) (part : Nat) (kind : Bool) (s : State) : Host.Outcome State Fault Refusal :=
  let v := part + 16 * b2n kind + 256
  .next (nvmWrite s m 0x5C v (pwCmdEff m))

/-- PW_CHANGE (R520). -/
def execPwChange (m : Master) (part : Nat) (kind : Bool) (s : State) : Host.Outcome State Fault Refusal :=
  let v := part + 16 * b2n kind + 512
  .next (nvmWrite s m 0x5C v (pwCmdEff m))

/-- PW_CLOSE (R518). -/
def execPwClose (m : Master) (part : Nat) (kind : Bool) (s : State) : Host.Outcome State Fault Refusal :=
  let v := part + 16 * b2n kind + 768
  .next (nvmWrite s m 0x5C v (pwCmdEff m))

/-- LOCKOUT_END (R519). -/
def execLockoutEnd (part : Nat) (s : State) : Host.Outcome State Fault Refusal := .next (lockoutEnd s part)

/-- A write of CMD of block `k` as an access (R530). -/
def recAccess (s : State) (m : Master) (k op : Nat) : State :=
  accessWrite s m recPage (0x100 + 0x80 * k) op (recCmdEff m k)

/-- REC_READ (R530). -/
def execRecRead (m : Master) (k : Nat) (s : State) : Host.Outcome State Fault Refusal := .next (recAccess s m k 1)

/-- REC_WRITE (R525, R530). -/
def execRecWrite (m : Master) (k : Nat) (s : State) : Host.Outcome State Fault Refusal := .next (recAccess s m k 2)

/-- CNT_READ (R527, R530). -/
def execCntRead (m : Master) (k : Nat) (s : State) : Host.Outcome State Fault Refusal := .next (recAccess s m k 3)

/-- CNT_INC (R528, R530). -/
def execCntInc (m : Master) (k : Nat) (s : State) : Host.Outcome State Fault Refusal := .next (recAccess s m k 4)

/-- CNT_RAISE (R529, R530). -/
def execCntRaise (m : Master) (k : Nat) (s : State) : Host.Outcome State Fault Refusal := .next (recAccess s m k 5)

/-- CNT_CLEAR (R529, R530). -/
def execCntClear (m : Master) (k : Nat) (s : State) : Host.Outcome State Fault Refusal := .next (recAccess s m k 6)

/-- REC_ERASE (R530). -/
def execRecErase (m : Master) (k : Nat) (s : State) : Host.Outcome State Fault Refusal := .next (recAccess s m k 7)

/-- REC_COMMAND_DONE (R530): the command at the head has no write left. -/
def execRecCommandDone (k : Nat) (s : State) : Host.Outcome State Fault Refusal :=
  match s.nvm.queue with
  | .cmd r :: _ =>
    .next (if s.domOn 10 && r.k = k && s.nvm.run.isNone && (s.nvm.result.isSome || (nvPlan s (.cmd r) s.nvm.stage).isNone) then
      recFinish s r else s)
  | _ => .next s

/-- SKIM_MARGIN_READ (R533). -/
def execSkimMarginRead (weak ue : List Nat) (corr : Nat) (s : State) : Host.Outcome State Fault Refusal :=
  .next (if s.domOn 10 && s.flag NVM_CFG_SKIM_EN nvmPage && s.skimDue && s.nvm.queue.isEmpty then skimRead s weak ue corr else s)

/-- SKIM_REFRESH (R533): the third write of a refresh has ended. -/
def execSkimRefresh (s : State) : Host.Outcome State Fault Refusal :=
  match s.nvm.queue with
  | .refresh _ _ _ :: _ =>
    .next (if s.nvm.result.isSome then (((nvPop s).bump REC_SKIM_REFRESHED recPage).irq recPage 6).logDev 36 else s)
  | _ => .next s

end Sys2Proof.Machine
end

