-- ==== Sys2Proof/Machine/Ferlys.lean ====
section
/-! DEFINITION. Ferlys table mode (R340 to R346). -/

namespace Sys2Proof.Machine

/-- The page of Ferlys table mode. -/
def ferPage : Nat := 0x6C

/-- Whether group `g` runs or waits for its start tick. -/
def State.ferRuns (s : State) (g : Nat) : Bool := s.flag FER_GSTAT_RUNNING ferPage g

/-- The channel of MAP entry `k` of group `g`; none for an unused entry (R346). -/
def State.ferMap (s : State) (g k : Nat) : Option Nat :=
  let c := s.get FER_MAP_CODE ferPage g k
  if c < 62 then some c else none

/-- Whether group `g` maps channel `c`. -/
def State.ferHas (s : State) (g c : Nat) : Bool := (List.range 16).any fun k => s.ferMap g k == some c

/-- Whether a running group maps channel `c` (R340). -/
def State.ferOwns (s : State) (c : Nat) : Bool := (List.range 6).any fun g => s.ferRuns g && s.ferHas g c

/-- Whether every channel that group `g` maps lets it run (R340). -/
def State.ferMapOk (s : State) (g : Nat) : Bool :=
  (List.range 16).all fun k =>
    match s.ferMap g k with
    | some c => s.rd (cMode c) == 2 && (List.range 6).all fun h => h == g || !(s.ferRuns h && s.ferHas h c)
    | none => true

/-- The first grid tick at or after `t` (R342). -/
def tickFrom (t : Nat) : Nat := (t + 99999) / 100000 * 100000

/-- The grid tick after TB value `t`. -/
def tickAfter (t : Nat) : Nat := (t / 100000 + 1) * 100000

/-- A write of 1 to RUN (R345). -/
def ferRun (g : Nat) (s : State) : Acted :=
  let len := s.get FER_GCFG_LEN ferPage g
  if s.ferRuns g || len = 0 || 768 < s.get FER_GCFG_START ferPage g + len || !s.ferMapOk g || !s.accepts ferPage then (s, true)
  else
    let s := (s.put FER_GSTAT_RUNNING ferPage true g).put FER_GSTAT_WAIT_TRIG ferPage true g
    let s := (s.put FER_GCTRL_RUN ferPage true g).set FER_RUN_MAP ferPage (setBit (s.get FER_RUN_MAP ferPage) g)
    (s.upFer g fun _ => { runTb := s.tb }, false)

/-- A stop request takes effect at the next tick (R344). -/
def ferStopReq (g : Nat) (s : State) : State :=
  if s.ferRuns g then s.upFer g fun x => { x with asked := some (x.asked.getD (tickAfter s.tb)) } else s

/-- A write to GCTRL (R344, R345). -/
def ferCtrlEff (g v : Nat) (s : State) : State :=
  let s := if bitOf v 0 then doAct ferPage (ferRun g s) else s
  if bitOf v 1 then ferStopReq g s else s

/-- Clearing CTRL.EN stops every group (R345). -/
def ferDrain (s : State) : State := s.each (List.range 6) fun s g => ferStopReq g s

/-- A fire of a compare channel starts the groups that wait for it (R342). -/
def ferFire (s : State) (ch : Nat) : State :=
  s.each (List.range 6) fun s g =>
    if s.flag FER_GSTAT_WAIT_TRIG ferPage g && s.get FER_GCFG_TRIG ferPage g = ch + 1 && (s.ferH g).fired.isNone && s.domOn 7 then
      s.upFer g fun x => { x with fired := some s.tb }
    else s

/-- The start tick of group `g`, once it is known (R342). -/
def State.ferStart (s : State) (g : Nat) : Option Nat :=
  if s.get FER_GCFG_TRIG ferPage g = 0 then some (tickFrom ((s.ferH g).runTb + 1000)) else (s.ferH g).fired.map tickFrom

/-- Write the committed state of channel `c` from the table (R343, R344). -/
def ferWrite (s : State) (c on duty : Nat) : State := chReact ((s.wr (cOn c) on).wr (cDuty c) duty) c

/-- Group `g` stops (R344): flag 0 END, 1 BAD_OP, 2 BURST. -/
def ferStop (s : State) (g flag : Nat) : State :=
  let s := s.put (if flag = 0 then FER_GSTAT_END else if flag = 1 then FER_GSTAT_BAD_OP else FER_GSTAT_BURST) ferPage true g
  let s := (s.put FER_GSTAT_RUNNING ferPage false g).put FER_GSTAT_WAIT_TRIG ferPage false g
  let s := (s.put FER_GCTRL_RUN ferPage false g).set FER_RUN_MAP ferPage (clrBit (s.get FER_RUN_MAP ferPage) g)
  let s := (s.set FER_GSTAT_LOOP_LEFT ferPage 0 g).upFer g fun _ => {}
  let s := if s.flag FER_GCFG_STOP ferPage g then
      s.each (List.range 16) fun s k =>
        match s.ferMap g k with
        | some c => ferWrite s c (s.get FER_MAP_STOP_ON ferPage g k) (s.get FER_MAP_STOP_DUTY ferPage g k)
        | none => s
    else s
  s.irq ferPage g

/-- Group `g` is to stop at the next tick with a flag. -/
def ferFail (s : State) (g flag : Nat) : State :=
  s.upFer g fun x => { x with stop := some (x.stop.getD ((s.ferH g).tick + 100000, flag)) }

/-- A JUMP word at `pos` acts (R341, R343, R344). -/
def ferJump (s : State) (g pos w : Nat) : State :=
  let start := s.get FER_GCFG_START ferPage g
  let tgt := bitsOf w 20 10
  let cnt := bitsOf w 13 7
  let go (s : State) : State := s.set FER_GSTAT_POS ferPage tgt g
  let next (s : State) : State := s.set FER_GSTAT_POS ferPage (pos + 1) g
  if tgt < start || start + s.get FER_GCFG_LEN ferPage g ≤ tgt then ferFail s g 1
  else if cnt = 0 then go s
  else
    match (s.ferH g).jump with
    | some p =>
      if p != pos then ferFail s g 1
      else
        let left := s.get FER_GSTAT_LOOP_LEFT ferPage g - 1
        let s := s.set FER_GSTAT_LOOP_LEFT ferPage left g
        if left = 0 then next (s.upFer g fun x => { x with jump := none }) else go s
    | none => go ((s.set FER_GSTAT_LOOP_LEFT ferPage cnt g).upFer g fun x => { x with jump := some pos })

/-- The word at POS acts (R341, R343, R344). -/
def ferWord (s : State) (g : Nat) : State :=
  let pos := s.get FER_GSTAT_POS ferPage g
  let w := s.get FER_TABLE ferPage pos
  let op := w / 2 ^ 30
  if op = 0 then
    match s.ferMap g (bitsOf w 13 4) with
    | some c => ferWrite (s.set FER_GSTAT_POS ferPage (pos + 1) g) c (bitsOf w 17 1) (bitsOf w 18 12)
    | none => ferFail s g 1
  else if op = 1 then ferJump s g pos w
  else ferFail s g (if op = 2 then 0 else 1)

/-- The tick of group `g`'s next word (R342); one tick on, past its last word (R344). -/
def State.ferNext (s : State) (g : Nat) : Nat :=
  let pos := s.get FER_GSTAT_POS ferPage g
  (s.ferH g).tick + 100000 *
    (if s.get FER_GCFG_START ferPage g + s.get FER_GCFG_LEN ferPage g ≤ pos then 1 else s.get FER_TABLE ferPage pos % 8192)

/-- The tick and the flag of group `g`'s stop, when one is to come (R344): of a stop of its own and a request the earlier. -/
def State.ferEnds (s : State) (g : Nat) : Option (Nat × Nat) :=
  let x := s.ferH g
  match x.stop, x.asked with
  | some (t, f), some a => if a < t then some (a, 0) else some (t, f)
  | some e, none => some e
  | none, some a => some (a, 0)
  | none, none => none

/-- Whether group `g` has a word to act that no stop comes before (R344). -/
def State.ferGoes (s : State) (g : Nat) : Bool :=
  (s.ferH g).stop.isNone && !s.flag FER_GSTAT_WAIT_TRIG ferPage g &&
    match (s.ferH g).asked with | some a => decide (s.ferNext g < a) | none => true

/-- Whether group `g` is to act or to stop now (R342, R344). -/
def State.ferDue (s : State) (g : Nat) : Bool :=
  s.ferRuns g && (if s.ferGoes g then decide (s.ferNext g ≤ s.tb) else match s.ferEnds g with | some e => decide (e.1 ≤ s.tb) | none => false)

/-- The next word of group `g`, or its stop, when the tick has come; groups act in ascending order (R342, R344). -/
def ferAct (s : State) (g : Nat) : State :=
  if !s.ferDue g || (List.range g).any s.ferDue then s
  else if s.ferGoes g then
    let pos := s.get FER_GSTAT_POS ferPage g
    let d := s.get FER_TABLE ferPage pos % 8192
    if s.get FER_GCFG_START ferPage g + s.get FER_GCFG_LEN ferPage g ≤ pos then ferStop s g 1
    else
      let b := if d = 0 then (s.ferH g).burst + 1 else 1
      let s := s.upFer g fun x => { x with tick := x.tick + d * 100000, burst := b }
      if 64 < b then ferFail s g 2 else ferWord s g
  else match s.ferEnds g with
    | some e => ferStop s g e.2
    | none => s

/-! The meanings of the Ferlys commands. -/

/-- The offset of GCTRL of group `g`. -/
def ferCtrlOff (g : Nat) : Nat := 0x84 + 0x80 * g

/-- FER_RUN (R345). -/
def execFerRun (m : Master) (g : Nat) (s : State) : Host.Outcome State Fault Refusal :=
  .next (accessWrite s m ferPage (ferCtrlOff g) 1 (ferCtrlEff g))

/-- FER_STOP_REQ (R344). -/
def execFerStopReq (m : Master) (g : Nat) (s : State) : Host.Outcome State Fault Refusal :=
  .next (accessWrite s m ferPage (ferCtrlOff g) 2 (ferCtrlEff g))

/-- FER_START_TICK (R342). -/
def execFerStartTick (g : Nat) (s : State) : Host.Outcome State Fault Refusal :=
  match s.ferStart g with
  | some t =>
    if s.ferRuns g && s.flag FER_GSTAT_WAIT_TRIG ferPage g && (match s.ferEnds g with | some e => decide (t < e.1) | none => true) && t ≤ s.tb then
      let s := (s.put FER_GSTAT_WAIT_TRIG ferPage false g).set FER_GSTAT_POS ferPage (s.get FER_GCFG_START ferPage g) g
      let s := (s.set FER_GSTART_LO ferPage t g).set FER_GSTART_HI ferPage (t / 2 ^ 32) g
      .next ((s.upFer g fun x => { x with tick := t, burst := 0, fired := none }).irq ferPage (8 + g))
    else .next s
  | none => .next s

/-- FER_WORD_ACT (R343, R344): the group's next word, or its stop. -/
def execFerWordAct (g : Nat) (s : State) : Host.Outcome State Fault Refusal := .next (ferAct s g)

end Sys2Proof.Machine
end

