-- ==== Sys2Proof/Machine/Compare.lean ====
section
/-! DEFINITION. Compare channels and steps of TB (R121, R125 to R128). -/

namespace Sys2Proof.Machine

/-- Whether a compare value has passed (R127). -/
def State.cmpPassed (s : State) (v : Nat) : Bool := (s.tb + 2 ^ 64 - v % 2 ^ 64) % 2 ^ 64 < 2 ^ 63

/-- Whether channel `g` is armed. -/
def State.cmpArmed (s : State) (g : Nat) : Bool := s.flag CMP_STAT_ARMED (cmpPage g) (g % 16)

/-- Disarm channel `g`. -/
def cmpDisarm (s : State) (g : Nat) : State := s.put CMP_STAT_ARMED (cmpPage g) false (g % 16)

/-- Give channel `g` a new compare value; CMP_LO keeps a staged word (R126). -/
def cmpValue (s : State) (g v : Nat) (late : Bool) : State :=
  let x := s.cmpH g
  let s := s.setCmp g { x with val := v % 2 ^ 64, late := late }
  if x.staged then s
  else (s.set CMP_CMP_LO (cmpPage g) v (g % 16)).set CMP_CMP_HI (cmpPage g) (v % 2 ^ 64 / 2 ^ 32) (g % 16)

/-- The compare value in force is reloaded by PERIOD, or the channel disarms (R128). -/
def cmpReload (s : State) (g : Nat) : State :=
  let per := s.get CMP_PERIOD (cmpPage g) (g % 16)
  if per = 0 then cmpDisarm s g
  else
    let v := ((s.cmpH g).val + per) % 2 ^ 64
    cmpValue s g v (s.cmpPassed v)

/-- What a fire of channel `g` sets off: wake source 0x5, the trigger table, confirmations, Ferlys groups, captures and counters
(R126, R129, R319, R328, R342). -/
def cmpEvents (s : State) (g : Nat) : State :=
  let p := cmpPage g
  let s := if s.flag CMP_CFG_WAKE p (g % 16) then wakeEvent s 5 g 1 else s
  let s := if s.flag CMP_CFG_TRIG p (g % 16) then offer s 0xA g 1 else s
  let s := confirmAll s fun s i => s.get AHD_CONFIRM_KIND ahdPage i == 5 && s.get AHD_CONFIRM_IDX ahdPage i == g
  srcEvent (ferFire s g) (0x60 + g)

/-- Channel `g` fires (R126 to R128). -/
def cmpFire (s : State) (g : Nat) (late : Bool) : State :=
  let p := cmpPage g
  let i := g % 16
  let s := if s.flag CMP_STAT_FIRED p i then s.put CMP_STAT_OVR p true i else s
  let s := s.put CMP_STAT_FIRED p true i
  let s := if late then s.put CMP_STAT_LATE p true i else s
  cmpEvents (cmpReload (s.irq p i) g) g

/-- A write of CMP_LO: staged (R126). -/
def cmpLoEff (g v : Nat) (s : State) : State :=
  (s.set CMP_CMP_LO (cmpPage g) v (g % 16)).setCmp g { s.cmpH g with staged := true }

/-- A fire that is due at a write of CMP_HI is recorded before the new value arms (R128). -/
def cmpDue (s : State) (g : Nat) : State :=
  if s.cmpArmed g && s.cmpPassed (s.cmpH g).val then cmpFire s g (s.cmpH g).late else s

/-- A write of CMP_HI: it stores the value, and arms the channel while MODE is compare (R127, R128). -/
def cmpHiEff (g v : Nat) (s : State) : State :=
  let p := cmpPage g
  let i := g % 16
  let s := ((cmpDue s g).set CMP_CMP_LO p (s.get CMP_CMP_LO p i) i).set CMP_CMP_HI p v i
  let c := s.get CMP_CMP_LO p i + 2 ^ 32 * s.get CMP_CMP_HI p i
  let s := s.setCmp g { val := c, late := s.cmpPassed c, staged := false }
  if s.get CMP_CFG_MODE p i = 1 then s.put CMP_STAT_ARMED p true i else s

/-- A write of CFG of channel `g`: a MODE other than compare disarms it (R128). -/
def cmpCfgEff (g v : Nat) (s : State) : State :=
  let s := plainWrite s (cmpPage g) (0x48 + 0x20 * (g % 16)) v
  if s.get CMP_CFG_MODE (cmpPage g) (g % 16) = 1 then s else cmpDisarm s g

/-- TB moves forward by `d` ns at once (R125): armed compares whose value the step passes or reaches fire late (log 84); a measurement of LFINC
is discarded (R116). -/
def tbMove (s : State) (d : Nat) : State :=
  let old := s.tb
  let s := trimDrop { s with tb := (s.tb + d) % 2 ^ 64 }
  let hits := (List.range 64).filter fun g =>
    s.cmpArmed g && decide (0 < ((s.cmpH g).val + 2 ^ 64 - old) % 2 ^ 64) && decide (((s.cmpH g).val + 2 ^ 64 - old) % 2 ^ 64 ≤ d)
  s.each hits fun s g => cmpFire s g true

/-- TB steps forward by `d` ns, and network time with it (R407). -/
def tbStep (s : State) (d : Nat) : State := ntPulse (tbMove s d)

/-- ACT.RESID_APPLY (R121). -/
def residApply (s : State) : State :=
  let r := s.get TB_HANDOVER_RESID tbPage
  tbStep ((s.set TB_HANDOVER_RESID tbPage 0).put TB_STAT_RESID_PEND tbPage false) r

/-- A write to TB.ACT (R117). -/
def tbActEff (v : Nat) (s : State) : State :=
  let s := if bitOf v 0 then residApply s else s
  if bitOf v 1 then uncClear s else s

/-! The meanings. -/

/-- RESID_APPLY (R121). -/
def execResidApply (m : Master) (s : State) : Host.Outcome State Fault Refusal :=
  .next (accessWrite s m tbPage 0x68 1 tbActEff)

/-- CMP_HI_WRITE (R127). -/
def execCmpHiWrite (m : Master) (g : Nat) (v : Word) (s : State) : Host.Outcome State Fault Refusal :=
  .next (accessWrite s m (cmpPage g) (0x44 + 0x20 * (g % 16)) v.toNat (cmpHiEff g))

/-- CMP_MODE_WRITE (R128): CFG with a new MODE. -/
def execCmpModeWrite (m : Master) (g mode : Nat) (s : State) : Host.Outcome State Fault Refusal :=
  let off := 0x48 + 0x20 * (g % 16)
  let v := plainRead s (cmpPage g) off / 4 * 4 + mode
  .next (accessWrite s m (cmpPage g) off v (cmpCfgEff g))

/-- COMPARE_FIRE (R127, R128). -/
def execCompareFire (g : Nat) (s : State) : Host.Outcome State Fault Refusal :=
  .next (cmpDue s g)

end Sys2Proof.Machine
end

