-- ==== Sys2Proof/Machine/NetworkTime.lean ====
section
/-! DEFINITION. Network time: samples, the jump rule, slewing and the rate of TB (R401 to R412). -/

namespace Sys2Proof.Machine

/-- RATE_ACT in ppb. -/
def State.rateAct (s : State) : Int := sgn 32 (s.get NTIME_RATE_ACT ntPage)

/-- `a / b` rounded to the nearest integer, halves upwards. -/
def divRound (a b : Int) : Int := (2 * a + b) / (2 * b)

/-- TB.INC for a rate in ppb, as a 32.32 number (R404). -/
def incOfRate (ppb : Int) : Nat := (divRound (5 * (1000000000 + ppb) * 4294967296) 1000000000).toNat

/-- The sign of the slew in force. -/
def State.slewSign (s : State) : Int := if s.nt.slew = 0 then 0 else if 0 < s.nt.slew then 1 else -1

/-- The slew's part of the rate in ppb (R404). -/
def State.slewPpb (s : State) : Int := s.slewSign * (s.get NTIME_CFG2_SLEW_PPM ntPage * 1000 : Nat)

/-- TB.INC takes the rate of RATE_ACT and the slew (R404). -/
def ntRate (s : State) : State :=
  let v := incOfRate (s.rateAct + s.slewPpb)
  incApply ((s.set TB_INC_INT tbPage (v / 2 ^ 32)).set TB_INC_FRAC tbPage v)

/-- Whether network time sets TB.INC: not on a satellite device whose ring is locked (R404, R408). -/
def State.ntSets (s : State) : Bool := s.ntOwns && !s.flag NTIME_STAT_RING_OWNED ntPage

/-- Give TB.INC the rate that network time asks for (R404). -/
def ntInc (s : State) : State := if s.ntSets then ntRate s else s

/-- STATE becomes `v`; a change raises bit 1 (R411). -/
def ntState (s : State) (v : Nat) : State :=
  if s.get NTIME_STAT_STATE ntPage = v then s else (ntSecond (s.set NTIME_STAT_STATE ntPage v)).irq ntPage 1

/-- Give the slew a new value in 2^-32 ns and show it (R404, R411). -/
def ntSlew (s : State) (v : Int) : State :=
  let s : State := { s with nt := { s.nt with slew := v } }
  (s.set NTIME_SLEW_LEFT ntPage (unsgn 32 (Int.tdiv v 4294967296))).put NTIME_STAT_SLEWING ntPage (v != 0)

/-- NT_BASE changes by `e` ns (R401). -/
def ntRebase (s : State) (e : Int) : State :=
  let v := unsgn 64 ((s.ntBase : Int) + e)
  let s := (s.set NTIME_NT_BASE_LO ntPage v).set NTIME_NT_BASE_HI ntPage (v / 2 ^ 32)
  s.set NTIME_STAT_BASE_SEQ ntPage (s.get NTIME_STAT_BASE_SEQ ntPage + 1)

/-- RATE_ACT composed with a ratio of 2^-32 units, in ppb (R402, R403). -/
def State.composed (s : State) (num den : Int) : Int := divRound ((1000000000 + s.rateAct) * num) den - 1000000000

/-- Whether a rate lies within the limits of R403. -/
def rateOk (r : Int) : Bool := decide (-200000 ≤ r) && decide (r ≤ 200000)

/-- A rate outside the limits: the sample is discarded (R403). -/
def ntRateBad (s : State) : State := (s.put NTIME_STAT_RATE_BAD ntPage true).irq ntPage 2

/-- A sample is applied: rate, STATE, tag and the time of the last sample (R403, R405). -/
def ntApplied (s : State) (rate : Int) (tag : Nat) : State :=
  let s := (s.set NTIME_RATE_ACT ntPage (unsgn 32 rate)).set NTIME_MASTER_ACT ntPage tag
  ntState { s with nt := { s.nt with last := some s.tb, sync := s.tb } } 1

/-- A sample is refused under the jump rule (R403). HOLD_T counts from the first refusal where no sample has been applied (log 96). -/
def ntRefuse (s : State) (e : Int) (tag : Nat) : State :=
  let v := unsgn 64 e
  let s := (s.set NTIME_PEND_LO ntPage v).set NTIME_PEND_HI ntPage (v / 2 ^ 32)
  let s := (s.put NTIME_STAT_JUMP_REFUSED ntPage true).bump NTIME_CNT_REFUSED ntPage
  let s := ntSlew { s with nt := { s.nt with tag := tag, last := some (s.nt.last.getD s.tb) } } 0
  ntState (s.irq ntPage 0) 2

/-- The pending refusal is over (R403, R406). -/
def ntSettle (s : State) : State :=
  ((s.put NTIME_STAT_JUMP_REFUSED ntPage false).set NTIME_PEND_LO ntPage 0).set NTIME_PEND_HI ntPage 0

/-- The registers that a sample may change. -/
def ntRegs : List Fld :=
  [NTIME_STAT_STATE, NTIME_STAT_SLEWING, NTIME_STAT_JUMP_REFUSED, NTIME_STAT_RATE_BAD, NTIME_STAT_MASTER_CHANGED, NTIME_STAT_BASE_SEQ,
   NTIME_NT_BASE_LO, NTIME_NT_BASE_HI, NTIME_MASTER_ACT, NTIME_BASE_VALID, NTIME_RATE_ACT, NTIME_SLEW_LEFT, NTIME_PEND_LO, NTIME_PEND_HI,
   NTIME_CNT_SAMPLES, NTIME_CNT_REFUSED, H_IRQ_RAW, H_EVT_CNT_EVENTS]

/-- What a sample is handled against stands in State until the next BCLK (R412). -/
def ntKeep (s : State) : State :=
  { s with nt := { s.nt with
      before := some { tb := s.tb, regs := ntRegs.map fun f => s.get f ntPage, slew := s.nt.slew, tag := s.nt.tag, last := s.nt.last } } }

/-- A sample that this BCLK has taken is undone, so that an ACCEPT acts first (R412); the flag tells whether there was one. -/
def ntUndo (s : State) : State × Bool :=
  match s.nt.before with
  | some b =>
    if b.tb = s.tb then
      let s := (ntRegs.zip b.regs).foldl (fun s x => s.set x.1 ntPage x.2) s
      ({ s with nt := { s.nt with slew := b.slew, tag := b.tag, last := b.last, before := none } }, true)
    else (s, false)
  | none => (s, false)

/-- The sample in SAMPLE_OFF, SAMPLE_RATE and SAMPLE_CTRL is handled (R403). -/
def ntTake (s : State) : State :=
  let e := sgn 64 (s.get NTIME_SAMPLE_OFF_LO ntPage + 2 ^ 32 * s.get NTIME_SAMPLE_OFF_HI ntPage)
  let tag := s.get NTIME_SAMPLE_CTRL_MASTER ntPage
  let s := s.bump NTIME_CNT_SAMPLES ntPage
  let s := if tag = s.get NTIME_MASTER_ACT ntPage then s
    else (s.put NTIME_STAT_MASTER_CHANGED ntPage true).irq ntPage 3
  let rate := s.composed (1000000000 + sgn 32 (s.get NTIME_SAMPLE_RATE ntPage)) 1000000000
  if !rateOk rate then ntRateBad s
  else if !s.flag NTIME_BASE_VALID ntPage then
    ntInc (ntApplied ((ntRebase s e).put NTIME_BASE_VALID ntPage true) rate tag)
  else if e.natAbs ≤ s.get NTIME_CFG_JUMP_MAX ntPage * 1000 then
    ntInc (ntApplied (ntSlew (ntSettle s) (e * 4294967296)) rate tag)
  else ntInc (ntRefuse s e tag)

/-- SAMPLE_CTRL.COMMIT takes one sample (R403). -/
def ntSample (s : State) : State := ntTake (ntKeep s)

/-- A write to SAMPLE_CTRL (R402, R403, R408): COMMIT is rejected while SRC is not 1 or the ring owns TB. -/
def sampleEff (v : Nat) (s : State) : State :=
  if bitOf v 31 && (s.get NTIME_CFG_SRC ntPage != 1 || s.flag NTIME_STAT_RING_OWNED ntPage) then s.reject ntPage
  else
    let s := s.set NTIME_SAMPLE_CTRL_MASTER ntPage v
    if bitOf v 31 && s.accepts ntPage then ntSample s else s

/-- ACCEPT acts on the pending refusal (R406, R408): a STEP moves TB at the next tick, a REBASE moves NT_BASE. -/
def ntAgree (code : Nat) (s : State) : Acted :=
  let pend := sgn 64 (s.get NTIME_PEND_LO ntPage + 2 ^ 32 * s.get NTIME_PEND_HI ntPage)
  if s.flag NTIME_STAT_RING_OWNED ntPage || !s.flag NTIME_STAT_JUMP_REFUSED ntPage || code = 0 || code = 3 || (code = 1 && pend < 0) then
    (s, true)
  else
    let s := ntSettle (s.set NTIME_MASTER_ACT ntPage s.nt.tag)
    let s := ntState { s with nt := { s.nt with sync := s.tb } } 1
    if code = 1 then ({ s with nt := { s.nt with step := some pend.toNat } }, false)
    else (ntPulse (ntRebase s pend), false)

/-- A write to ACCEPT: it acts before a sample of the same BCLK, which is then handled against the new state (R406, R412). -/
def ntAccept (code : Nat) (s : State) : Acted :=
  let u := ntUndo s
  let r := ntAgree code u.1
  if u.2 then (ntTake r.1, r.2) else r

/-- A slew in progress ends and its remainder is dropped (R404). -/
def slewEnd (s : State) : State :=
  if s.flag NTIME_STAT_SLEWING ntPage then ntInc ((ntSlew s 0).irq ntPage 4) else s

/-- The time that one tick adds for the slew, in 2^-32 ns (R404). -/
def State.slewExtra (s : State) : Int := (incOfRate (s.rateAct + s.slewPpb) : Int) - incOfRate s.rateAct

/-- Whether the slew ends at this tick: SLEW_LEFT would reach 0 or change its sign (R404). -/
def State.slewDue (s : State) : Bool :=
  let left := s.nt.slew - s.slewExtra
  left = 0 || (0 < left) != (0 < s.nt.slew)

/-- A tick has added its increment: the slew shrinks by the extra time (R404). -/
def slewTick (s : State) : State :=
  if s.nt.slew = 0 || !s.ntSets || s.onLf then s
  else if s.slewDue then slewEnd s
  else ntSlew s (s.nt.slew - s.slewExtra)

/-- An accepted STEP moves TB at the tick that follows it (R406). -/
def ntStep (s : State) : State :=
  match s.nt.step with
  | some d => tbMove { s with nt := { s.nt with step := none } } d
  | none => s

/-- The clock goes on by one tick (R114, R335, R404, R410): what a step on an empty queue does (log 9). Without supply TB stands (R36). -/
def clockTick (s : State) : State :=
  if !s.sup.alive then s else ntPulse (ntStep (slewTick (deadlines (tbTick s))))

/-- NTIME acts on a reference message that controller `c` received as time slave (R402). -/
def ntCan (s : State) (c : Nat) : State :=
  let p := canPage c
  if s.domOn 3 && s.accepts ntPage && s.get NTIME_CFG_SRC ntPage = c + 2 && !s.flag NTIME_STAT_RING_OWNED ntPage &&
      s.flag CAN_SCHED_CFG_LEVEL2 p && s.get CAN_SCHED_STAT_MSTATE p = 0 && s.flag CAN_SCHED_STAT_SYNC p then
    let rate := s.composed (s.canH c).tt.tur 4294967296
    if rateOk rate then ntInc (ntApplied s rate (s.get NTIME_MASTER_ACT ntPage)) else ntRateBad s
  else s

/-- Network time is UNSYNC: a slew in progress stops and TB runs at RATE_ACT, which `own` tells that network time sets (R405). -/
def ntUnsync (s : State) (own : Bool) : State :=
  let s := ntState (if s.nt.slew = 0 then s else ntSlew s 0) 0
  if own then ntRate s else s

/-- A write to CFG (R405): network time returns to UNSYNC. -/
def ntCfgEff (v : Nat) (s : State) : State :=
  let t := plainWrite s ntPage 0x40 v
  ntUnsync t (s.ntSets || t.ntSets)

/-- A write to CFG2 (R404, R411). -/
def ntCfg2Eff (v : Nat) (s : State) : State := ntInc (plainWrite s ntPage 0x44 v)

/-- Clearing CTRL.EN (R405). -/
def ntDrain (s : State) : State := ntUnsync s (s.get NTIME_CFG_SRC ntPage != 0 && !s.flag NTIME_STAT_RING_OWNED ntPage)

/-- PD_NET enters retention or off (R409): slewing ends, TB.INC keeps the rate. -/
def ntPark (s : State) : State := if s.nt.slew = 0 then s else ntInc (ntSlew s 0)

/-- HOLD_T: seconds since the last applied sample (R405). -/
def State.holdT (s : State) : Nat :=
  match s.nt.last with
  | some t => min ((s.tb - t) / 1000000000) 65535
  | none => 0

/-! The meanings. -/

/-- SAMPLE_COMMIT (R403): a write of SAMPLE_CTRL with COMMIT. -/
def execSampleCommit (m : Master) (tag : Nat) (s : State) : Host.Outcome State Fault Refusal :=
  let v := 2 ^ 31 + tag
  .next (accessWrite s m ntPage 0x54 v sampleEff)

/-- ACCEPT_STEP (R406). -/
def execAcceptStep (m : Master) (s : State) : Host.Outcome State Fault Refusal :=
  .next (accessWrite s m ntPage 0x78 1 fun _ s => doAct ntPage (ntAccept 1 s))

/-- ACCEPT_REBASE (R406). -/
def execAcceptRebase (m : Master) (s : State) : Host.Outcome State Fault Refusal :=
  .next (accessWrite s m ntPage 0x78 2 fun _ s => doAct ntPage (ntAccept 2 s))

/-- SLEW_END (R404). -/
def execSlewEnd (s : State) : Host.Outcome State Fault Refusal := .next (if s.domOn 3 && s.slewDue then slewEnd s else s)

/-- SAMPLE_TIMEOUT (R405). -/
def execSampleTimeout (s : State) : Host.Outcome State Fault Refusal :=
  .next (if s.domOn 3 && s.get NTIME_STAT_STATE ntPage = 1 && s.nt.sync + s.get NTIME_CFG2_SAMPLE_TO ntPage * 1000000000 ≤ s.tb then
    ntState s 2 else s)

/-- HOLDOVER_EXPIRY (R405). -/
def execHoldoverExpiry (s : State) : Host.Outcome State Fault Refusal :=
  .next (if s.domOn 3 && s.get NTIME_STAT_STATE ntPage = 2 && s.get NTIME_CFG2_HOLDOVER_MAX ntPage ≤ s.holdT then ntState s 0 else s)

/-- NT_SRC_WRITE (R405): a write of CFG. -/
def execNtSrcWrite (m : Master) (v : Word) (s : State) : Host.Outcome State Fault Refusal :=
  .next (accessWrite s m ntPage 0x40 v.toNat ntCfgEff)

/-- NT_SECOND_PULSE (R410). -/
def execNtSecondPulse (s : State) : Host.Outcome State Fault Refusal :=
  .next (ntPulse s)

/-- REFERENCE_MESSAGE (R369, R402). -/
def execReferenceMessage (c : Nat) (f : CanFrame) (edge : Nat) (s : State) : Host.Outcome State Fault Refusal :=
  if s.domOn 3 && s.ttOn c && (s.canH c).tt.running && s.isRef c f then .next (ntCan (ttReference s c f edge) c) else .next s

end Sys2Proof.Machine
end

