-- ==== Sys2Proof/Machine/Ring.lean ====
section
/-! DEFINITION. The Ashorn ring (R455 to R474): synchronisation and lock, the bypass, status, breaks, wakes, forwarded interrupts, the
shared gate and satellite windows (R78). -/

namespace Sys2Proof.Machine

/-- Whether this device is the ring master (R458). -/
def State.isMaster (s : State) : Bool := s.flag RING_STAT_ROLE ringPage

/-- Whether the ring port runs: CTRL.EN at 1 and the clocks running (R461). -/
def State.ringOn (s : State) : Bool := s.flag H_CTRL_EN ringPage && !s.clk.frozen && !s.pllStopped

/-- Change the ring's hidden state. -/
def State.upRing (s : State) (f : Ring → Ring) : State := { s with ring := f s.ring }

/-- Set a STAT field whose change raises an interrupt (R474). -/
def ringFlag (s : State) (f : Fld) (b : Bool) (bit : Nat) : State :=
  if s.flag f ringPage = b then s else (s.put f ringPage b).irq ringPage bit

/-! Lock (R463, R464, R466). -/

/-- The shared gate and the ring's ownership of TB.INC follow LOCKED (R408, R465). -/
def ringOwn (s : State) (shared : Bool) : State :=
  let l := s.flag RING_STAT_LOCKED ringPage && !s.isMaster
  let s := s.put RING_STAT_GATE_SHARED ringPage (l && shared)
  s.put NTIME_STAT_RING_OWNED ntPage l

/-- A satellite device loses LOCKED (R338, R463, R466): its requests wait at its own gate, remote parts quench with code 4. -/
def ringUnlock (s : State) : State :=
  if s.flag RING_STAT_LOCKED ringPage && !s.isMaster then
    let s := (ringFlag s RING_STAT_LOCKED false 2).bump RING_CNT_UNLOCKS ringPage
    let s := ringOwn s false
    s.each (List.range 63) fun s i => if s.flag AHD_CTX_CTRL_REMOTE ahdPage i then quench s i 4 else s
  else s

/-- A forward step of TB by `d` ns that the ring makes (R464). -/
def ringStep (s : State) (d : Nat) : State :=
  let s := (tbStep s d).set RING_STEP ringPage (min d 4294967295)
  if s.flag RING_STAT_STEPPED ringPage then s else (s.put RING_STAT_STEPPED ringPage true).irq ringPage 6

/-- TB.INC follows the ring, within the range of R115 (R463). -/
def ringInc (s : State) (int frac : Nat) : State :=
  if incOk int frac then incApply ((s.set TB_INC_FRAC tbPage frac).set TB_INC_INT tbPage int) else s

/-- The next whole millisecond of TB (R464). -/
def State.nextMs (s : State) : Nat := (s.tb / 1000000 + 1) * 1000000

/-- A synchronisation at a satellite device (R463, R464): `delta` is the master's TB less this device's, `int` and `frac` the increment
that the ring finds, `tell` what the frame tells of the master (log 61). -/
def ringSync (s : State) (delta : Int) (int frac dly hops : Nat) (tell : RingTell) : State :=
  let s := (s.set RING_TB_ERR ringPage (unsgn 16 (satSgn 16 delta))).set RING_LINK_DLY ringPage dly
  let s := (s.set RING_LINK_HOPS ringPage hops).upRing fun x =>
    { x with sync := some s.tb, owed := tell.owed, owedAt := if tell.owed = x.owed then x.owedAt else s.nextMs }
  if s.flag RING_STAT_LOCKED ringPage then
    if 100 < delta || delta < -100 then ringUnlock s else ringOwn (ringInc s int frac) tell.shared
  else if delta < -10 then s
  else
    let s := if 0 < delta then ringStep s delta.toNat else s
    ringOwn (ringInc (ringFlag s RING_STAT_LOCKED true 2) int frac) tell.shared

/-- At each whole millisecond of TB a locked device fires capture source 0x51 (R463). -/
def ringTick (s : State) : State :=
  let t := clockTick s
  if s.tb / 1000000 != t.tb / 1000000 && t.flag RING_STAT_LOCKED ringPage then srcEvent t 0x51 else t

/-! The master's side (R459, R460, R465, R468, R471). -/

/-- What the other devices of a shared gate draw (R465). -/
def ringTotal (s : State) : State :=
  let l := (List.range 7).map fun d => if s.satLocked (d + 1) && s.flag RING_CFG_SHARED_GATE ringPage then (s.sat d).total else 0
  { s with cald := { s.cald with ringI := l.sum } }

/-- MAP bit `d` + 1 takes a value (R459, R460, R474). -/
def ringMap (s : State) (d : Nat) (b : Bool) : State :=
  let m := s.get RING_MAP ringPage
  if bitOf m d = b then s else (s.set RING_MAP ringPage (if b then setBit m d else clrBit m d)).irq ringPage 4

/-- A satellite device that is no longer LOCKED takes back its requests that have not been admitted (R466). -/
def satBack (s : State) (d : Nat) : State :=
  { s with gate := { s.gate with queue := s.gate.queue.filter fun e => match e.req with | .remote a _ _ => a != d + 1 | _ => true } }

/-- A satellite device locks: its own contributions still in force, each with its X and the slots left, count in the master's sum (R466),
and the start frames held for it go out (R337). -/
def satLock (s : State) (d : Nat) (own : List (Nat × Nat)) : State :=
  let l : List Contrib := if s.flag RING_CFG_SHARED_GATE ringPage then own.map fun c => { x := c.1, h := c.2, slot := s.gate.slot } else []
  partsRejoin { s with gate := { s.gate with contribs := s.gate.contribs ++ l } } d

/-- A satellite device drops out: its window closes and simmering slots that name it quench with code 4 (R338, R460). -/
def satGone (s : State) (d : Nat) : State :=
  let s := ringTotal (ringMap (satBack s d) d false)
  s.each (List.range 63) fun s i => if bitOf (s.span i) d then quench s i 4 else s

/-- The status of device `d` + 1 (R459, R464 to R466, R468): `ahead` is how far its TB runs ahead of the master's while it cannot lock,
`own` its contributions in force, and `clash` the address of the other device concerned where its address is not distinct or does not rise
downstream (0 otherwise). -/
def ringStatus (s : State) (d limp : Nat) (low derating p0 locked : Bool) (total ups ahead : Nat) (own : List (Nat × Nat)) (clash : Nat) :
    State :=
  let was := s.satLocked (d + 1)
  let s := s.upSat d fun _ => { seen := some s.tb, total := total, ups := ups }
  let s := (s.set RING_SATSTAT_LIMP_ACT ringPage limp d).put RING_SATSTAT_VBAT_LOW ringPage low d
  let s := (s.put RING_SATSTAT_DERATING ringPage derating d).put RING_SATSTAT_P0_OVER ringPage p0 d
  let s := s.put RING_SATSTAT_LOCKED ringPage locked d
  let s := if s.ring.owed < ahead then s.upRing fun x => { x with owed := ahead, owedAt := s.nextMs } else s
  if clash = 0 then
    let s := ringTotal (ringMap s d true)
    if locked && !was then satLock s d own else if locked then s else satBack s d
  else
    let s := if s.flag RING_STAT_ADDR_ERR ringPage then s else (s.put RING_STAT_ADDR_ERR ringPage true).irq ringPage 5
    satGone (satGone s d) (clash - 1)

/-- SATSTATn.AGE (R468): milliseconds since the last status of device `d` + 1. -/
def State.satAge (s : State) (d : Nat) : Nat :=
  match (s.sat d).seen with
  | some t => min ((s.tb - t) / 1000000) 65535
  | none => 65535

/-- The master records a break upstream of device `d`; a receive pair of its own is lost as `port` says (R471). -/
def ringBreak (s : State) (d port : Nat) : State :=
  let s := if port = 1 then s.put RING_STAT_LINK_A ringPage false else if port = 2 then s.put RING_STAT_LINK_B ringPage false else s
  if s.isMaster then
    ((ringFlag s RING_STAT_BROKEN true 3).set RING_STAT_BREAK_AT ringPage d).bump RING_CNT_BREAKS ringPage
  else s

/-- Every link has stayed aligned for 10 ms (R471). -/
def ringWhole (s : State) : State := (ringFlag s RING_STAT_BROKEN false 3).set RING_STAT_BREAK_AT ringPage 15

/-- The ports' alignment changes (R461). -/
def ringAlign (s : State) (a b broken : Bool) : State :=
  let s := (s.put RING_STAT_LINK_A ringPage a).put RING_STAT_LINK_B ringPage b
  let ok := (a && b) || (broken && (a || b))
  s.upRing fun x => { x with aligned := if ok then some (x.aligned.getD s.tb) else none }

/-- The ports stop (R461, R472): the links are lost, and a satellite device its lock. -/
def ringStop (s : State) : State :=
  let s := ringUnlock ((s.put RING_STAT_LINK_A ringPage false).put RING_STAT_LINK_B ringPage false)
  s.upRing fun x => { x with aligned := none, sync := none }

/-- The bypass closes (R461). -/
def ringBypass (s : State) : State := (ringStop s).upRing fun x => { x with bypass := true }

/-- Clearing CTRL.EN ends the port and unmaps every satellite device (R473). -/
def ringDrain (s : State) : State :=
  let s := s.each (List.range 7) fun s d => if bitOf (s.get RING_MAP ringPage) d then satGone s d else s
  let s := ringBypass s
  if s.isMaster then ringFlag s RING_STAT_LOCKED false 2 else s

/-- Setting CTRL.EN: a master counts as locked (R474). -/
def ringEnable (s : State) : State := if s.isMaster then ringFlag s RING_STAT_LOCKED true 2 else s

/-- A write to CFG (R459, R474): address 0 is reserved on a satellite device. -/
def ringCfgEff (v : Nat) (s : State) : State :=
  if !s.isMaster && v % 8 = 0 then s.reject ringPage else ringTotal (plainWrite s ringPage 0x40 v)

/-! Forwarded interrupts (R467). -/

/-- A forwarded interrupt of device `d` + 1 arrives. -/
def fwdPush (s : State) (d page : Nat) : State :=
  if s.ring.fwd.length < 32 then
    let first := s.ring.fwd.isEmpty
    let s := s.upRing fun x => { x with fwd := x.fwd ++ [(d + 1, page)] }
    let s := s.set RING_FWD_STAT_COUNT ringPage s.ring.fwd.length
    if first then s.irq ringPage 0 else s
  else if s.flag RING_FWD_STAT_OVF ringPage then s
  else (s.put RING_FWD_STAT_OVF ringPage true).irq ringPage 1

/-- A read of FWD: the state after it and the word read. -/
def fwdPop (s : State) : State × Nat :=
  match s.ring.fwd with
  | [] => (((s.set RING_FWD_SAT ringPage 0).set RING_FWD_PAGE ringPage 0).put RING_FWD_VALID ringPage false, 0)
  | e :: q =>
    let s := (s.upRing fun x => { x with fwd := q }).set RING_FWD_STAT_COUNT ringPage q.length
    (((s.set RING_FWD_SAT ringPage e.1).set RING_FWD_PAGE ringPage e.2).put RING_FWD_VALID ringPage true,
      e.1 + e.2 * 256 + 2 ^ 31)

/-! The shared gate (R465, R466). -/

/-- Whether the master's gate takes requests of device `d` + 1. -/
def State.gateTakes (s : State) (d : Nat) : Bool :=
  s.isMaster && s.flag H_CTRL_EN ringPage && s.flag RING_CFG_SHARED_GATE ringPage && s.satLocked (d + 1)

/-- A request of this device by the page and channel that name it. -/
def State.asked (s : State) (page chan : Nat) : Option GateEntry := s.gate.queue.find? fun e => e.req.place == (page, chan)

/-- The master's decision reaches this device (R465, R466). -/
def sharedApply (s : State) (page chan : Nat) (ok : Bool) : State :=
  match s.asked page chan with
  | none => s
  | some e =>
    if ok then
      match e.req with
      | .dom n => domAdmit s n
      | r => boilSweep (tellSlots (gateStart (s.withdraw r) e) r true)
    else boilSweep (tellSlots (gateRefuse s e) e.req false)

/-! Satellite windows (R78). -/

/-- An access through window `d` + 1; `kind` tells how it is answered: 0 not yet, 1 done, 2 unmapped, 3 domain off,
4 protected (R512), 5 EEPROM busy (R514), 6 the satellite device's own stall limit (R76). -/
def windowAccess (s : State) (m : Master) (d p off : Nat) (w : Option Nat) (kind ans : Nat) : State :=
  if !s.isMaster || !bitOf (s.get RING_MAP ringPage) d then s.answer .unmapped
  else if kind = 1 then { s.answer .ok ans with stall := tdel s.stall m.key }
  else if kind = 2 then { s.answer .unmapped with stall := tdel s.stall m.key }
  else if kind = 3 then { s.answer .domainOff domainOffWord with stall := tdel s.stall m.key }
  else if kind = 4 then { s.answer .guarded with stall := tdel s.stall m.key }
  else if kind = 5 then { s.answer .busy with stall := tdel s.stall m.key }
  else if kind = 6 then { s.answer .timeout with stall := tdel s.stall m.key }
  else { s.answer .none with stall := tput s.stall m.key {} { page := p, off := off, write := w, since := s.tb, window := d + 1 } }

/-! Commands. -/

/-- RING_SYNC_FRAME (R463). -/
def execRingSyncFrame (delta : Int) (int : Nat) (frac : Word) (dly hops : Nat) (tell : RingTell) (s : State) :
    Host.Outcome State Fault Refusal :=
  .next (if s.ringOn && !s.isMaster then ringSync s delta int frac.toNat dly hops tell else s)

/-- RING_MASTER_STEP (R464): the master steps by what it owes, and every LOCKED satellite device with it. -/
def execRingMasterStep (s : State) : Host.Outcome State Fault Refusal :=
  .next (if s.ringOn && (s.isMaster || s.flag RING_STAT_LOCKED ringPage) && s.ring.owed != 0 && s.ring.owedAt ≤ s.tb then
    (ringStep s s.ring.owed).upRing fun x => { x with owed := 0 } else s)

/-- RING_SYNC_TIMEOUT (R463). -/
def execRingSyncTimeout (s : State) : Host.Outcome State Fault Refusal :=
  .next (match s.ring.sync with
    | some t => if t + 64000 ≤ s.tb then ringUnlock s else s
    | none => ringUnlock s)

/-- RING_ALIGNMENT (R461). -/
def execRingAlignment (a b broken : Bool) (s : State) : Host.Outcome State Fault Refusal :=
  .next (if s.ringOn then ringAlign s a b broken else s)

/-- BYPASS_OPEN (R461). -/
def execBypassOpen (s : State) : Host.Outcome State Fault Refusal :=
  match s.ring.aligned with
  | some t => .next (if s.ringOn && t + 20000 ≤ s.tb then s.upRing fun x => { x with bypass := false } else s)
  | none => .next s

/-- RING_STATUS (R468). -/
def execRingStatus (d limp : Nat) (low derating p0 locked : Bool) (total ups ahead : Nat) (share : RingShare) (s : State) :
    Host.Outcome State Fault Refusal :=
  .next (if s.ringOn && s.isMaster then ringStatus s d limp low derating p0 locked total ups ahead share.own share.clash else s)

/-- RING_STATUS_TIMEOUT (R460). -/
def execRingStatusTimeout (d : Nat) (s : State) : Host.Outcome State Fault Refusal :=
  match (s.sat d).seen with
  | some t => .next (if bitOf (s.get RING_MAP ringPage) d && t + 3000000 ≤ s.tb then satGone s d else s)
  | none => .next s

/-- RING_BREAK (R471): `d` is the device downstream of the broken link, `port` this device's own receive pair on it (0 none). -/
def execRingBreak (d port : Nat) (s : State) : Host.Outcome State Fault Refusal := .next (if s.ringOn then ringBreak s d port else s)

/-- RING_BROKEN_CLEAR (R471): the master's own two links among them. -/
def execRingBrokenClear (s : State) : Host.Outcome State Fault Refusal :=
  .next (if s.isMaster && s.flag RING_STAT_LINK_A ringPage && s.flag RING_STAT_LINK_B ringPage then ringWhole s else s)

/-- RING_WAKE_PATTERN (R469): in park, with the wake detector armed. -/
def execRingWakePattern (s : State) : Host.Outcome State Fault Refusal :=
  .next (if s.inPark && s.flag H_CTRL_EN ringPage && s.flag RING_CFG_PARK_WAKE ringPage then wakeEvent s 6 0xFF 1 else s)

/-- RING_WAKE_FRAME (R469): `d` is the sender's address. -/
def execRingWakeFrame (d : Nat) (s : State) : Host.Outcome State Fault Refusal :=
  .next (if s.ringOn then wakeEvent s 6 d 1 else s)

/-- RING_IRQ_FORWARD (R467). -/
def execRingIrqForward (d page : Nat) (s : State) : Host.Outcome State Fault Refusal :=
  .next (if s.ringOn && s.isMaster then fwdPush s d page else s)

/-- RING_FWD_READ (R467). -/
def execRingFwdRead (_m : Master) (s : State) : Host.Outcome State Fault Refusal :=
  let r := fwdPop s
  .next (r.1.answer .ok r.2)

/-- SHARED_GATE_FORWARD (R465): the master's gate takes the request of device `d` + 1, which has waited there since `t`. -/
def execSharedGateForward (d page chan rank x h prio t : Nat) (s : State) : Host.Outcome State Fault Refusal :=
  .next (if s.gateTakes d then
    s.enqueue { req := .remote (d + 1) page chan, rank := rank, x := x, h := h, prio := prio, t := t } else s)

/-- SHARED_ADMISSION_APPLY (R465): the master has admitted or refused a request of this device. -/
def execSharedAdmissionApply (page chan : Nat) (ok : Bool) (s : State) : Host.Outcome State Fault Refusal :=
  .next (if s.isMaster then s else sharedApply s page chan ok)

end Sys2Proof.Machine
end

