-- ==== Sys2Proof/Machine/Boot.lean ====
section
/-! DEFINITION. Image slots, manifests and boot (R538 to R545), the reload of a core (R10, R544), and the core restart (R27, R52, R113). -/

namespace Sys2Proof.Machine

/-- The page of CNVM. -/
def cnvmPage : Nat := 0x87

/-- The page of SEC. -/
def secPage : Nat := 0x88

/-- The page of ATT. -/
def attPage : Nat := 0x89

/-- The page of SUP. -/
def supPage : Nat := 4

/-- Change the hidden state of boot, update and changeover. -/
def State.upBoot (s : State) (f : Boot → Boot) : State := { s with boot := f s.boot }

/-! Slots (R538). -/

/-- First byte of slot `k` in the code NVM. -/
def slotBase (k : Nat) : Nat := k * 0x800000

/-- The `n` bytes at offset `o` of slot `k`, least significant first. -/
def State.cn (s : State) (k o n : Nat) : Nat := mgetN s.cnvm 0xFF (slotBase k + o) n

/-- The `n` bytes at offset `o` of slot `k`. -/
def State.cnBytes (s : State) (k o n : Nat) : List Nat := (mgetBytes s.cnvm 0xFF (slotBase k + o) n).map BitVec.toNat

/-- First byte of a slot's status block. -/
def statusAt : Nat := 2047 * 4096

/-- The code of STATE that a status word stands for. -/
def stateCode (w : Nat) : Nat := if 1 ≤ w && w ≤ 5 then w else 0

/-- STATE of slot `k`: 0 EMPTY, 1 STAGED, 2 TRIAL, 3 TRYING, 4 COMMITTED, 5 REJECTED; a status block whose CRC fails is EMPTY. -/
def State.slotState (s : State) (k : Nat) : Nat :=
  if crc32c (s.cnBytes k statusAt 8) = s.cn k (statusAt + 8) 4 then stateCode (s.cn k (statusAt + 4) 4) else 0

/-- GEN of slot `k`. -/
def State.slotGen (s : State) (k : Nat) : Nat := s.cn k statusAt 4

/-- The registers show the status blocks and the active slot (R557). -/
def cnvmShow (s : State) : State :=
  let s := (s.set CNVM_STATE_A cnvmPage (s.slotState 0)).set CNVM_STATE_B cnvmPage (s.slotState 1)
  let s := (s.set CNVM_GEN_A cnvmPage (s.slotGen 0)).set CNVM_GEN_B cnvmPage (s.slotGen 1)
  match s.boot.active with
  | some k => ((s.set CNVM_BOOT_ACTIVE cnvmPage k).put CNVM_BOOT_TRYING cnvmPage s.boot.trying).set CNVM_UPD_SLOT cnvmPage (1 - k)
  | none => s

/-- The controller writes a status block. -/
def putSlot (s : State) (k st gen : Nat) : State :=
  let w := if st = 0 then 0xFFFFFFFF else st
  let c := crc32c (leBytes gen 4 ++ leBytes w 4)
  let a := slotBase k + statusAt
  cnvmShow (({ s with cnvm := mputN (mputN (mputN s.cnvm 0xFF a 4 gen) 0xFF (a + 4) 4 w) 0xFF (a + 8) 4 c } : State).upBoot fun x =>
    { x with wrote := some (k, s.tb) })

/-- A total power loss in the BCLK of a status block's write tears it: its CRC fails (R553). The word left is a free value that differs. -/
def statusTear (s : State) : State :=
  match s.boot.wrote with
  | some (k, t) =>
    if t = s.tb then
      let (f, s) := s.fresh (2 ^ 32 - 1)
      let a := slotBase k + statusAt + 8
      { s with cnvm := mputN s.cnvm 0xFF a 4 ((mgetN s.cnvm 0xFF a 4 + 1 + f) % 2 ^ 32) }
    else s
  | none => s

/-- The Keccak engine is asked for `x`: it serves one request at a time, in order (R553). -/
def State.keccakAsk (s : State) (x : Nat) : State := s.upBoot fun b => { b with keccak := b.keccak.filter (· != x) ++ [x] }

/-- Request `x` is over. -/
def State.keccakDone (s : State) (x : Nat) : State := s.upBoot fun b => { b with keccak := b.keccak.filter (· != x) }

/-- Whether the Keccak engine serves request `x`. -/
def State.keccakAt (s : State) (x : Nat) : Bool := s.boot.keccak.head? == some x

/-- The controller changes a slot's STATE. -/
def putSlotState (s : State) (k st : Nat) : State := putSlot s k st (s.slotGen k)

/-! The manifest (R539 to R541). -/

/-- A component entry (R540). -/
structure Component where
  target : Nat
  off : Nat
  ilen : Nat
  dlen : Nat
  entry : Nat
  chgEntry : Nat
  deriving DecidableEq, Repr

/-- Entry `i` of the component table of slot `k`. -/
def State.comp (s : State) (k i : Nat) : Component :=
  let f (o n : Nat) : Nat := s.cn k (0x20 + 96 * i + o) n
  ⟨f 0 1, f 4 4, f 8 4, f 0xC 4, f 0x10 4, f 0x14 4⟩

/-- The components of slot `k` with their place in the table. -/
def State.comps (s : State) (k : Nat) : List (Nat × Component) :=
  ((List.range 16).map fun i => (i, s.comp k i)).filter fun e => e.2.target != 0xFF

/-- Blocks in the image of slot `k`. -/
def State.nblk (s : State) (k : Nat) : Nat := s.cn k 0x10 2

/-- SECVER of slot `k`. -/
def State.secver (s : State) (k : Nat) : Nat := s.cn k 8 4

/-- Whether entry `i` follows R539 and R540 and its component lies within blocks 10 to NBLK − 1. -/
def State.entryOk (s : State) (k i : Nat) : Bool :=
  let c := s.comp k i
  let zero (o n : Nat) : Bool := s.cn k (0x20 + 96 * i + o) n == 0
  if c.target = 0xFF then zero 1 95
  else
    (c.target < 12 || c.target == 0xE) && zero 1 3 && zero 0x18 8 && c.off % 4 == 0 && c.ilen % 4 == 0 && c.dlen % 4 == 0 &&
      c.ilen ≤ 65536 && c.dlen ≤ 32768 && 40960 ≤ c.off && c.off + c.ilen + c.dlen ≤ 4096 * s.nblk k &&
      (c.target == 0xE || c.entry < c.ilen) && (if c.target = 0 then decide (c.chgEntry < c.ilen) else c.chgEntry == 0)

/-- Whether the components of slot `k` are laid out as R541 asks. -/
def State.layoutOk (s : State) (k : Nat) : Bool :=
  ((List.range 16).all fun i => s.entryOk k i) &&
    (List.range 12).all fun c => ((s.comps k).filter fun e => e.2.target == c).length == 1

/-- The state of root-key slot `r` (R545). -/
def State.rootState (s : State) (r : Nat) : Nat := s.fuse.root.getD r 0

/-- The signature check of R541, R554 and R578 under root-key slot `r`. -/
def State.verify (s : State) (r : Nat) (ctx : String) (msg sig : List Nat) : Bool :=
  s.rootState r == 1 && Config.slhVerify (tget s.fuse.keys r []) (ctx.toList.map Char.toNat) msg sig

/-- The first check that the manifest of slot `k` fails (R541): 1 FORMAT, 2 ROOT, 3 SIGNATURE, 4 ROLLBACK, 5 LAYOUT. -/
def State.manifestError (s : State) (k : Nat) : Option Nat :=
  let r := s.cn k 0x12 1
  if s.cn k 0 4 != 0x4D31564B || s.cn k 4 2 != 1 then some 1
  else if 4 ≤ r || s.rootState r != 1 || bitOf (s.cn k 0x13 1) r then some 2
  else if !s.verify r "KV1-IMG" (s.cnBytes k 0 0x2620) (s.cnBytes k 0x2620 29792) then some 3
  else if s.secver k < s.cntValue 1793 then some 4
  else if !s.layoutOk k then some 5
  else none

/-- Whether the digest of entry `i` of slot `k` matches (R540). -/
def State.digestOk (s : State) (k i : Nat) : Bool :=
  let c := s.comp k i
  shake512 (s.cnBytes k c.off (c.ilen + c.dlen)) == s.cnBytes k (0x20 + 96 * i + 0x20) 64

/-- Whether every component digest of slot `k` matches. -/
def State.digestsOk (s : State) (k : Nat) : Bool := (s.comps k).all fun e => s.digestOk k e.1

/-- Whether block `b` of slot `k` passes its check against the block table (R539, R583). -/
def State.blockOk (s : State) (k b : Nat) : Bool :=
  crc32c (s.cnBytes k (4096 * b) 4096) == s.cn k (0x620 + 4 * b) 4 &&
    !s.eccBad.any fun e => e.1 == 5 && slotBase k + 4096 * b ≤ e.2.2 && e.2.2 < slotBase k + 4096 * (b + 1)

/-- Whether every block that a component touches passes its check. -/
def State.compBlocksOk (s : State) (k : Nat) (c : Component) : Bool :=
  let n := c.ilen + c.dlen
  n == 0 || (List.range ((c.off + n - 1) / 4096 - c.off / 4096 + 1)).all fun j => s.blockOk k (c.off / 4096 + j)

/-- The error code of a candidate at boot (R542): the manifest, the digests, and the blocks they are read from. -/
def State.candidateError (s : State) (k : Nat) : Option Nat :=
  match s.manifestError k with
  | some e => some e
  | none =>
    if !s.digestsOk k then some 8
    else if (s.comps k).all fun e => s.compBlocksOk k e.2 then none
    else some 6

/-! Loading cores (R10, R542, R544). -/

/-- The component of core `c` in slot `k`. -/
def State.coreComp (s : State) (k c : Nat) : Option Component := ((s.comps k).find? fun e => e.2.target == c).map (·.2)

/-- The I-RAM image of a component goes to half `bank` of core `c`. -/
def loadIram (s : State) (k c bank : Nat) (x : Component) : State :=
  let l := mgetBytes s.cnvm 0xFF (slotBase k + x.off) x.ilen
  { s with iram := tput s.iram c [] (mputBytes (tget s.iram c []) 0 (65536 * bank) l),
           eccBad := s.eccBad.filter fun e => !(e.1 == 0 && e.2.1 == c && 65536 * bank ≤ e.2.2 && e.2.2 < 65536 * bank + x.ilen) }

/-- The D-RAM image of a component goes to core `c`; the rest of its D-RAM reads 0. -/
def loadDram (s : State) (k c : Nat) (x : Component) : State :=
  let l := mgetBytes s.cnvm 0xFF (slotBase k + x.off + x.ilen) x.dlen
  { s with dram := tput s.dram c [] (mputBytes [] 0 0 l), eccBad := s.eccBad.filter fun e => !(e.1 == 1 && e.2.1 == c) }

/-- A core starts: its registers of R483, and what ends at every start of a core (R510, R518, R577). -/
def startAt (s : State) (c entry : Nat) : State := nvCoreStart (coreStart s c entry) c

/-- Core `c` no longer waits for its reload. -/
def startDone (s : State) (c : Nat) : State := s.upBoot fun x => { x with start := x.start.filter (· != c) }

/-- Reload core `c` from slot `k` and start it; a block that fails its check leaves it faulted (R544). -/
def reloadCore (s : State) (k c : Nat) : State :=
  let s := startDone (coreStop s c) c
  match s.coreComp k c with
  | none => s
  | some x =>
    if s.compBlocksOk k x then startAt (loadDram (loadIram s k c 0 x) k c x) c x.entry
    else coreFault (s.irq cnvmPage 1) c {}

/-! Boot (R542, R543, R551). -/

/-- Whether churn counter page `p` is unreadable: no word is valid and not every word is erased (R124, log 13). -/
def State.cntBad (s : State) (p : Nat) : Bool := s.cntEmpty p && (List.range 16).any fun i => s.eeWord (16 * p + i) != 0xFFFFFFFF

/-- Step 2: the epoch increments once after a total power loss (R124). -/
def bootEpoch (s : State) : State :=
  if !s.sup.pon then s
  else
    let s : State := { s with sup := { s.sup with pon := false } }
    if s.cntBad 1792 then (s.set TB_EPOCH tbPage 0).put TB_STAT_EPOCH_BAD tbPage true
    else
      let v := min (s.cntValue 1792 + 1) 0xFFFFFF
      let w := cntWrite 1792 v
      ((eeStore s w.page w.off w.data).set TB_EPOCH tbPage v).put TB_STAT_EPOCH_BAD tbPage false

/-- Step 3: in RETURNED every page of P6 is written to 0xFF until P6 reads erased (R554). -/
def bootErase (s : State) : State :=
  if s.fuse.lc != 2 then s
  else (s.each (List.range 256) fun s i => eeStore s (1536 + i) 0 erased64).put SEC_LC_P6_ERASED secPage true

/-- Step 4 at slot `k`: a TRYING slot is rejected, which is a change back (R551); a TRIAL slot is tried. -/
def bootTrial (s : State) (k : Nat) : State :=
  if s.slotState k = 3 then
    let s := (putSlotState s k 5).set CNVM_BOOT_CAUSE cnvmPage 1
    (s.bump CNVM_CNT_CHANGEBACKS cnvmPage).logDev 38
  else if s.slotState k = 2 then putSlotState s k 3
  else s

/-- Step 5: the candidates in their order. -/
def State.candidates (s : State) : List Nat :=
  let tr := (List.range 2).filter fun k => s.slotState k == 3
  let co := (List.range 2).filter fun k => s.slotState k == 4
  tr ++ (if co.length = 2 && s.slotGen 0 < s.slotGen 1 then [1, 0] else co)

/-- Steps 5 and 6: the first candidate that passes; a failing one sets FELL_BACK, and one on trial is rejected. -/
def bootPick (s : State) (l : List Nat) : State × Option Nat :=
  match l with
  | [] => (s, none)
  | k :: r =>
    match s.candidateError k with
    | none => (s, some k)
    | some e =>
      let s := (s.put CNVM_BOOT_FELL_BACK cnvmPage true).set CNVM_BOOT_CAUSE cnvmPage e
      bootPick (if s.slotState k = 3 then putSlotState s k 5 else s) r

/-- CNT_RAISE of the anti-rollback counter to SECVER of a COMMITTED slot (R529, R542). -/
def bootRaise (s : State) (k : Nat) : State :=
  if s.slotState k = 4 && s.cntValue 1793 < s.secver k then
    let w := cntWrite 1793 (s.secver k % 2 ^ 24)
    eeStore s w.page w.off w.data
  else s

/-- CHG_STAT.STATE changes. -/
def chgState (s : State) (n : Nat) : State := s.set CNVM_CHG_STAT_STATE cnvmPage n

/-- HOLD clears in page `p`; HELD clears once its shadow has been applied (R70). -/
def holdClear (s : State) (p : Nat) : State :=
  let s := s.put H_CTRL_HOLD p false
  if 0x70 ≤ p && p < 0x74 then awdServe s (p - 0x70) else s

/-- Every page that HOLD_ALL held is released (R549, R550). -/
def releaseHeld (s : State) : State :=
  (s.each (s.boot.held.filter fun p => s.pageOn p) holdClear).upBoot fun x => { x with held := [] }

/-- Step 8: the active image is loaded and its cores start. -/
def bootRun (s : State) (k : Nat) : State :=
  let s := s.upBoot fun x => { x with active := some k, trying := s.slotState k == 3, measured := shake512 (s.cnBytes k 0 0x2620) }
  let s := (bootRaise (cnvmShow s) k).put CNVM_BOOT_RECOVERY cnvmPage false
  let s := match s.coreComp k 0 with
    | some x => startAt (loadDram (loadIram s k 0 0 x) k 0 x) 0 x.entry
    | none => s
  let s := s.each (List.range 12) fun s c =>
    if c = 0 then s
    else match targetDomain c with
      | some n => if s.domOn n then reloadCore s k c else s
      | none => s
  if s.boot.trying then chgState (s.upBoot fun x => { x with healthFrom := s.tb }) 3 else s

/-- No candidate passes: the HK stays in the ROM, and the host port runs (R543). The slot that the registers name as active is then a free
value (log 3). -/
def bootRecover (s : State) : State :=
  let (k, s) := s.fresh 2
  let s := s.upBoot fun x => { x with active := none, trying := false, measured := [] }
  let s := ((cnvmShow s).set CNVM_BOOT_ACTIVE cnvmPage k).put CNVM_BOOT_TRYING cnvmPage false
  let s := if s.domOn 5 then (s.put H_CTRL_EN 0x0D true).put H_STAT_IDLE 0x0D false else s
  (s.set CNVM_UPD_SLOT cnvmPage (1 - k)).put CNVM_BOOT_RECOVERY cnvmPage true

/-- The ROM's steps at a start of the HK (R542). A changeover that the restart has cut off ends here, and HOLD of the pages that HOLD_ALL
held with it (log 86). -/
def romBoot (s : State) : State :=
  let s := ({ s.wdgRestart with wdgAlt := false } : State).upBoot fun x => { x with due := false }
  let s := releaseHeld (chgState s 0)
  let s := bootErase (bootEpoch s)
  let s := cnvmShow (bootTrial (bootTrial s 0) 1)
  match bootPick s s.candidates with
  | (s, some k) => bootRun s k
  | (s, none) => bootRecover s

/-- Whether the clocks run and the part is out of reset, so that the ROM and the code-NVM controller can work. -/
def State.clocksRun (s : State) : Bool :=
  s.sup.alive && !s.sup.reversed && !s.sup.inReset && !s.clk.frozen && s.flag CLK_STAT_PLL_LOCK clkPage

/-- The domains that the ROM needs besides PD_HK: the code NVM, and the EEPROM unless PD_PSV is forced off (log 14). -/
def State.romReady (s : State) : Bool := s.domOn 6 && (s.domOn 10 || s.order 10 == 3)

/-! Restarts (R27, R52, R113). -/

/-- All twelve cores restart, and the watchdog's count with the HK (R111); every block keeps its state. `cause` goes to SUP.STAT.LAST_RESET (R55). -/
def coreRestart (s : State) (cause : Nat) : State :=
  let s := ((s.each (List.range 12) coreStop).set SUP_STAT_LAST_RESET supPage cause).wdgRestart
  s.upBoot fun x => { x with due := true, start := (List.range 12).drop 1 }

/-! The meanings. -/

/-- HK_ROM_BOOT (R542): a start of the HK waits; PD_MEM and PD_PSV power up for it first. -/
def execHkRomBoot (s : State) : Host.Outcome State Fault Refusal :=
  .next (if s.boot.due && s.clocksRun && s.domOn 0 then
    (if s.romReady then romBoot s else ((s.need 6).hwPowerUp 6 |>.need 10).hwPowerUp 10) else s)

/-- CORE_RELOAD (R10, R544): core `c` waits for its start and its domain is on. -/
def execCoreReload (c : Nat) (s : State) : Host.Outcome State Fault Refusal :=
  match s.boot.active with
  | some k =>
    .next (if s.boot.start.contains c && c != 0 && !s.boot.due && s.clocksRun && (targetDomain c).any (s.domOn ·) then
      (if s.domOn 6 then reloadCore s k c else (s.need 6).hwPowerUp 6) else s)
  | none => .next s

end Sys2Proof.Machine
end

