-- ==== Sys2Proof/Machine/Ethernet.lean ====
section
/-! DEFINITION. The Ethernet MACs and the T1S PHY (R393 to R400). MAC 0 is T1S, MAC 1 the EMAC. -/

namespace Sys2Proof.Machine

/-- The page of MAC `k`. -/
def macPage (k : Nat) : Nat := 0x7E + k

/-- Whether a D-space range lies in shared SRAM (R58). -/
def inSram (a n : Nat) : Bool := 0x10000000 ≤ a && a + n ≤ 0x10200000

/-- A 32-bit word of shared SRAM. -/
def State.sramWord (s : State) (a : Nat) : Nat := mgetN s.sram 0 (a - 0x10000000) 4

/-- Store a 32-bit word of shared SRAM. -/
def State.sramPut (s : State) (a v : Nat) : State := { s with sram := mputN s.sram 0 (a - 0x10000000) 4 v }

/-- The address of transmit descriptor `n` of MAC `k`. -/
def State.txDesc (s : State) (k n : Nat) : Nat := s.get MAC_TXR_BASE (macPage k) + 16 * n

/-- The address of receive descriptor `n`. -/
def State.rxDesc (s : State) (k n : Nat) : Nat := s.get MAC_RXR_BASE (macPage k) + 16 * n

/-- Word 1 of a descriptor with ERR and OWN clear. -/
def descBare (w : Nat) : Nat := w % 2 ^ 25 + (w / 2 ^ 28 % 8) * 2 ^ 28

/-- Return a descriptor with code `err` and its timestamp (R397). -/
def descBack (s : State) (a w err : Nat) (ts : Option Nat) : State :=
  let s := match ts with
    | some t => (s.sramPut (a + 8) t).sramPut (a + 12) (t / 2 ^ 32)
    | none => s
  s.sramPut (a + 4) (descBare w + err * 2 ^ 25)

/-- Whether a buffer can be used (R397). -/
def bufOk (buf n : Nat) : Bool := buf % 4 == 0 && inSram buf n

/-- Whether MAC `k` may take up a frame: enabled and not draining (R66), PD_ETH on, PLL on the crystal (R86, R394). -/
def State.macUp (s : State) (k : Nat) : Bool :=
  s.domRuns 5 && s.accepts (macPage k) && !s.flag CLK_STAT_REF_ACT 1

/-- The transmit HEAD moves on. -/
def txAdvance (s : State) (k : Nat) : State :=
  s.set MAC_HEAD_TX (macPage k) ((s.get MAC_HEAD_TX (macPage k) + 1) % max (s.get MAC_TXR_SIZE (macPage k)) 1)

/-- Take up the descriptor at the transmit HEAD, returning those with a bad buffer, at most `n` of them (R397). -/
def macNext (s : State) (k n : Nat) : State :=
  match n with
  | 0 => s.upMac k fun x => { x with kicked := false }
  | j + 1 =>
    let a := s.txDesc k (s.get MAC_HEAD_TX (macPage k))
    let w := s.sramWord (a + 4)
    if !bitOf w 31 then s.upMac k fun x => { x with kicked := false }
    else if bufOk (s.sramWord a) (w % 2048) then
      s.upMac k fun x => { x with sending := true, frame := mgetBytes s.sram 0 (s.sramWord a - 0x10000000) (w % 2048) }
    else
      let s := txAdvance (descBack s a w 4 none) k
      macNext ((s.bump MAC_CNT_TX_ERRORS (macPage k)).irq (macPage k) 3) k j

/-- A MAC with a KICK in force sends its next frame. -/
def macGo (s : State) (k : Nat) : State :=
  let x := s.macH k
  if x.kicked && !x.sending && s.macUp k && s.flag MAC_MCFG_TX_EN (macPage k) then macNext s k (s.get MAC_TXR_SIZE (macPage k)) else s

/-- KICK (R397); a MAC that accepts no work takes none (R66). -/
def macKick (k v : Nat) (s : State) : State :=
  if bitOf v 0 && s.accepts (macPage k) then macGo (s.upMac k fun x => { x with kicked := true }) k else s

/-- The code of a frame that ends with code `err` after `tries` collisions: on T1S without PLCA the MAC gives it up after 16 attempts
(R395); the EMAC's full duplex knows no collision. -/
def State.txErr (s : State) (k err tries : Nat) : Nat :=
  if k = 0 then (if !s.flag MAC_PLCA_EN 0x7E && 16 ≤ tries then 5 else err) else 0

/-- The frame in transmission ends with code `err` at TB `ts`, after `tries` collisions (R397 to R399). -/
def macSent (s : State) (k err ts tries : Nat) : State :=
  let p := macPage k
  let a := s.txDesc k (s.get MAC_HEAD_TX p)
  let w := s.sramWord (a + 4)
  let err := s.txErr k err tries
  let s := descBack s a w err (if bitOf w 24 then some ((ts + s.get MAC_LAT_TX_LAT p) % 2 ^ 64) else none)
  let s := (txAdvance s k).upMac k fun x => { x with sending := false, frame := [] }
  let s := if k = 0 then s.set MAC_CNT_COLLISIONS p (satAdd 16 (s.get MAC_CNT_COLLISIONS p) tries) else s
  let s := if err = 0 then (s.bump MAC_CNT_TX_FRAMES p).irq p 1 else (s.bump MAC_CNT_TX_ERRORS p).irq p 3
  macGo s k

/-- An address as its low and high word (R399): octet 0, sent first, in bits 7 to 0. -/
def octets (data : List Byte) : Nat × Nat := (bytesOf (data.take 4), bytesOf ((data.drop 4).take 2))
where
  /-- Bytes as a number, least significant first. -/
  bytesOf (l : List Byte) : Nat := l.foldr (fun b n => b.toNat + 256 * n) 0

/-- Two bytes of a frame, the first sent in the high byte. -/
def be16 (data : List Byte) (i : Nat) : Nat := (data.getD i 0).toNat * 256 + (data.getD (i + 1) 0).toNat

/-- Four bytes of a frame, the first sent in the high byte. -/
def be32 (data : List Byte) (i : Nat) : Nat := be16 data i * 65536 + be16 data (i + 2)

/-- Where the payload of a frame begins, after one VLAN tag at most (R393). -/
def etherAt (data : List Byte) : Nat := if be16 data 12 = 0x8100 then 18 else 14

/-- Whether a frame is one that the MACs support: not longer than 1,522 bytes with its FCS, and no pause frame, which is discarded
(R393; log 97). -/
def etherOk (data : List Byte) : Bool := data.length ≤ 1518 && be16 data (etherAt data - 2) != 0x8808

/-- The page of HOST. -/
def hostPage : Nat := 0x0D

/-- Whether the host port takes a datagram (R569). -/
def State.udpTakes (s : State) (k dst src dport : Nat) (plain : Bool) : Bool :=
  s.macUp k && !s.clk.frozen && s.accepts hostPage && s.flag HOST_CFG_UDP_EN hostPage && s.get HOST_IP hostPage != 0 && plain &&
    dst == s.get HOST_IP hostPage && dport == s.get HOST_UDP_PORT hostPage &&
    (s.flag HOST_CFG_ALLOW_ANY hostPage || src == s.get HOST_ALLOW hostPage)

/-- Whether a frame carries a datagram that the host port takes before the rings (R396, R569): unfragmented IPv4 without options, protocol
17. -/
def State.hostTakes (s : State) (k : Nat) (data : List Byte) : Bool :=
  let i := etherAt data
  s.udpTakes k (be32 data (i + 16)) (be32 data (i + 12)) (be16 data (i + 22))
    (be16 data (i - 2) == 0x0800 && (data.getD i 0).toNat == 0x45 && be16 data (i + 6) % 16384 == 0 && (data.getD (i + 9) 0).toNat == 17)

/-- Whether MAC `k` accepts the destination address of a frame (R396). -/
def State.macTakes (s : State) (k : Nat) (data : List Byte) : Bool :=
  let p := macPage k
  let a := octets data
  a == (s.get MAC_ADDR_LO p, s.get MAC_ADDR_HI p) || (s.flag MAC_MCFG_BCAST p && a == (0xFFFFFFFF, 0xFFFF)) ||
    ((List.range (s.get MAC_MCFG_MCAST_N p)).any fun j => a == (s.get MAC_MCAST_LO p j, s.get MAC_MCAST_HI p j)) ||
    (s.flag MAC_MCFG_PTP_EN p && a == (0x00C28001, 0x0E00)) || s.flag MAC_MCFG_PROMISC p

/-- An accepted frame goes to the descriptor at the receive HEAD, or is dropped (R397, R398). -/
def macStore (s : State) (k err ts : Nat) (data : List Byte) : State :=
  let p := macPage k
  let a := s.rxDesc k (s.get MAC_HEAD_RX p)
  let w := s.sramWord (a + 4)
  if !bitOf w 31 then (s.bump MAC_CNT_RX_DROPS p).irq p 2
  else
    let size := w % 2048
    let buf := s.sramWord a
    let ok := bufOk buf size
    let s := if ok then { s with sram := mputBytes s.sram 0 (buf - 0x10000000) (data.take size) } else s
    let e := if !ok then 4 else if size < data.length then 2 else err
    let t := (ts + 2 ^ 64 - s.get MAC_LAT_RX_LAT p) % 2 ^ 64
    let s := descBack s a (setBit (w - size + data.length % 2048) 24) e (some t)
    let s := s.set MAC_HEAD_RX p ((s.get MAC_HEAD_RX p + 1) % max (s.get MAC_RXR_SIZE p) 1)
    (s.bump MAC_CNT_RX_FRAMES p).irq p 0

/-- Clearing CTRL.EN returns every transmit descriptor owned by the MAC but that in transmission (R400). -/
def macDrain (s : State) (k : Nat) : State :=
  let p := macPage k
  let busy := (s.macH k).sending
  let hits := (List.range (s.get MAC_TXR_SIZE p)).filter fun n =>
    bitOf (s.sramWord (s.txDesc k n + 4)) 31 && !(busy && n == s.get MAC_HEAD_TX p)
  let s := s.each hits fun s n =>
    ((descBack s (s.txDesc k n) (s.sramWord (s.txDesc k n + 4)) 6 none).bump MAC_CNT_TX_ERRORS p).irq p 3
  s.upMac k fun x => { x with kicked := false }

/-- Whether a write of `v` at offset `off` gives a ring a legal place and PLCA a node identifier (R395, R397, R399). -/
def macRegOk (k off v : Nat) : Bool :=
  if off = 0x8C || off = 0x94 then v % 16 == 0 && inSram v 16
  else if off = 0x100 && k = 0 then !(bitOf v 0 && bitsOf v 8 8 == 255)
  else true

/-- A write to MDIO (R399): a code that starts a frame is rejected while BUSY. -/
def mdioEff (v : Nat) (s : State) : State :=
  let op := bitsOf v 10 2
  if op = 1 || op = 2 then
    (if s.flag MAC_MDIO_BUSY 0x7F then s.reject 0x7F else (plainWrite s 0x7F 0x104 v).put MAC_MDIO_BUSY 0x7F true)
  else plainWrite s 0x7F 0x104 v

/-! The meanings. -/

/-- MAC_KICK (R397). -/
def execMacKick (m : Master) (k : Nat) (s : State) : Host.Outcome State Fault Refusal :=
  .next (accessWrite s m (macPage k) 0xA0 1 (macKick k))

/-- MAC_FRAME_SENT (R397). -/
def execMacFrameSent (k err ts tries : Nat) (s : State) : Host.Outcome State Fault Refusal :=
  .next (if s.domOn 5 && (s.macH k).sending then macSent s k err ts tries else s)

/-- MAC_FRAME_RECEIVED (R396): `err` is 1 for a bad FCS, 3 for a symbol error. -/
def execMacFrameReceived (k err ts : Nat) (data : List Byte) (s : State) : Host.Outcome State Fault Refusal :=
  .next (if s.macUp k && s.flag MAC_MCFG_RX_EN (macPage k) && err != 1 && etherOk data && !s.hostTakes k data &&
    s.macTakes k data then macStore s k err ts data else s)

/-- MDIO_START (R399). -/
def execMdioStart (m : Master) (v : Word) (s : State) : Host.Outcome State Fault Refusal :=
  .next (accessWrite s m 0x7F 0x104 v.toNat mdioEff)

/-- MDIO_COMPLETE (R399). -/
def execMdioComplete (rdata : Nat) (s : State) : Host.Outcome State Fault Refusal :=
  if s.domOn 5 && s.flag MAC_MDIO_BUSY 0x7F then
    let s := s.put MAC_MDIO_BUSY 0x7F false
    .next ((if s.get MAC_MDIO_OP 0x7F = 2 then s.set MAC_MDIO_RDATA 0x7F rdata else s).irq 0x7F 4)
  else .next s

/-- PLCA_BEACON_LOST (R395). -/
def execPlcaBeaconLost (s : State) : Host.Outcome State Fault Refusal :=
  .next (if s.domOn 5 && s.flag MAC_PHYSTAT_BEACON 0x7E then
    ((s.put MAC_PHYSTAT_BEACON 0x7E false).bump MAC_CNT_BEACON_LOST 0x7E).irq 0x7E 4 else s)

/-- PLCA_BEACON_SEEN (R395). -/
def execPlcaBeaconSeen (s : State) : Host.Outcome State Fault Refusal :=
  .next (if s.domOn 5 && s.flag H_CTRL_EN 0x7E then s.put MAC_PHYSTAT_BEACON 0x7E true else s)

end Sys2Proof.Machine
end

