-- ==== Sys2Proof/Machine/Clock.lean ====
section
/-! DEFINITION. Clock failures, freezes and restarts, and the stop of the PLL (R82 to R87). -/

namespace Sys2Proof.Machine

/-- Ethernet frames in progress are dropped; their descriptors stay with the MAC (R85; log 15). -/
def macFreeze (s : State) : State := s.each [0, 1] fun s k => s.upMac k fun x => { x with kicked := x.kicked || x.sending, sending := false }

/-- The MACs go on with what a KICK has given them. -/
def macResume (s : State) : State := s.each [0, 1] macGo

/-- A clock freeze begins, the PLL relocking on `ref` (R84, R85). A freeze in progress goes on with the new cause. -/
def freezeBegin (s : State) (cause ref : Nat) : State :=
  if s.clk.frozen then { s with clk := { s.clk with newRef := ref } }
  else
    let s := (s.put CLK_STAT_PLL_LOCK clkPage false).bump CLK_STAT_FREEZES clkPage
    let s : State := { s with clk := { s.clk with frozen := true, cause := cause, since := s.tb, newRef := ref } }
    immoAbort (macFreeze (canFreeze (ringStop (holdBegin s)))) 3

/-- The reference in use changes (R83, R122). -/
def refTake (s : State) (ref : Nat) : State := uncShow (s.set CLK_STAT_REF_ACT clkPage ref)

/-- The 20 MHz crystal fails (R84): the PLL relocks on the RC. A crystal that the PLL does not use has no part in it. -/
def xtalFail (s : State) : State :=
  if s.flag CLK_STAT_REF_ACT clkPage || (s.pllStopped && !s.clk.restarting) then s
  else
    let s := (s.put CLK_STAT_XTAL_FAIL clkPage true).put CLK_CFG_REF_SEL clkPage true
    if s.clk.restarting then s else refTake (freezeBegin s 1 1) 1

/-- The PLL loses its lock (R84). -/
def lockLoss (s : State) : State :=
  if s.clk.frozen || !s.flag CLK_STAT_PLL_LOCK clkPage then s else freezeBegin s 2 (s.get CLK_STAT_REF_ACT clkPage)

/-- No lock within 200 µs of its loss: the PLL relocks on the RC (R84). -/
def relockTimeout (s : State) : State :=
  if s.clk.frozen && s.clk.cause = 2 && s.clk.since + 200000 ≤ s.tb then
    refTake { s with clk := { s.clk with newRef := 1 } } 1
  else s

/-- CLK.CFG takes the word `v` (R82, R84): a reference selected anew, by `sel`, freezes the clocks; LFXTAL_EN chooses the source of
LFCLK. -/
def clkCfgTake (v : Nat) (sel : Bool) (s : State) : State :=
  let lf := s.flag CLK_CFG_LFXTAL_EN clkPage
  let s := plainWrite s clkPage 0x40 v
  let s := if lf != bitOf v 2 then uncShow (s.put CLK_STAT_LF_ON_RC clkPage (!bitOf v 2)) else s
  if sel && v % 2 != s.get CLK_STAT_REF_ACT clkPage && s.flag CLK_STAT_PLL_LOCK clkPage then refTake (freezeBegin s 3 (v % 2)) (v % 2) else s

/-- A write to CLK.CFG (R84, R87): REF_SEL selects a reference that the PLL does not run on, also where REF_SEL already reads so. -/
def clkCfgEff (v : Nat) (s : State) : State := clkCfgTake v (s.flag H_LOCKSTAT_UNLOCKED clkPage) s

/-- The PLL has locked again: the freeze ends (R85). -/
def freezeEnd (s : State) : State :=
  if s.clk.frozen then
    let s : State := { s with clk := { s.clk with frozen := false, cause := 0 }, cald := { s.cald with froze := true } }
    let s := s.each (List.range 8) vThaw
    (macResume ((refTake s s.clk.newRef).put CLK_STAT_PLL_LOCK clkPage true)).each (List.range 8) canArb
  else s

/-- The 32.768 kHz crystal fails: LFCLK runs from the RC (R84, R123). While TB is on LFCLK its bound takes in the 122 µs of the detection,
and TRIM_VALID stays as it was (log 84). -/
def lfFail (s : State) : State :=
  if s.flag CLK_STAT_LF_ON_RC clkPage || !s.flag CLK_CFG_LFXTAL_EN clkPage then s
  else
    let s := (s.put CLK_STAT_LF_FAIL clkPage true).put CLK_STAT_LF_ON_RC clkPage true
    uncShow (if s.onLf then uncPut ((s.set TB_LFINC_INT tbPage 0x7A12).set TB_LFINC_FRAC tbPage 0) (s.get TB_UNCERT tbPage + 122) else s)

/-- Whether no domain is on and none is on its way up (R87). -/
def State.allDown (s : State) : Bool := (List.range 12).all fun n => !s.domOn n && (s.getDom n).phase == .stable

/-- The PLL and the oscillator stop (R87): TB goes over to LFCLK, and the ring's frames stop (R461). -/
def pllStop (s : State) : State :=
  if s.allDown && !s.pllStopped then
    let s := (s.put CLK_STAT_PLL_STOPPED clkPage true).put CLK_STAT_PLL_LOCK clkPage false
    let s : State := { s with clk := { s.clk with frozen := false, restarting := false } }
    ringBypass (holdBegin s)
  else s

/-- Oscillator and PLL run again: on the RC when REF_SEL says so, after park also when PARK_RC_START does (R87, R594). -/
def restartDone (s : State) : State :=
  if s.clk.restarting && s.sup.alive && !s.sup.inReset then
    let s : State := { s with clk := { s.clk with restarting := false } }
    let park := s.pllStopped && !s.sup.cold
    let s := (s.put CLK_STAT_PLL_STOPPED clkPage false).put CLK_STAT_PLL_LOCK clkPage true
    let rc := s.flag CLK_CFG_REF_SEL clkPage || (park && s.flag CLK_CFG_PARK_RC_START clkPage)
    pllStop (macResume (refTake s (b2n rc)))
  else s

/-! The meanings. -/

/-- XTAL_FAIL (R84). -/
def execXtalFail (s : State) : Host.Outcome State Fault Refusal := .next (xtalFail s)

/-- PLL_LOCK_LOSS (R84). -/
def execPllLockLoss (s : State) : Host.Outcome State Fault Refusal := .next (lockLoss s)

/-- PLL_RELOCK_TIMEOUT (R84). -/
def execPllRelockTimeout (s : State) : Host.Outcome State Fault Refusal := .next (relockTimeout s)

/-- REF_SEL_WRITE (R84): a write of CLK.CFG. -/
def execRefSelWrite (m : Master) (v : Word) (s : State) : Host.Outcome State Fault Refusal :=
  .next (accessWrite s m clkPage 0x40 v.toNat clkCfgEff)

/-- CLOCK_FREEZE_END (R85). -/
def execClockFreezeEnd (s : State) : Host.Outcome State Fault Refusal := .next (freezeEnd s)

/-- LF_XTAL_FAIL (R84). -/
def execLfXtalFail (s : State) : Host.Outcome State Fault Refusal := .next (lfFail s)

end Sys2Proof.Machine
end

