-- ==== Sys2Proof/Machine/Instructions.lean ====
section
/-! DEFINITION. The instructions of the Sirham cores that stay within the core and D-space (R484 to R499): each issues on core `c`. -/

namespace Sys2Proof.Machine

/-- The target of a branch with a `w`-bit word offset (R487). -/
def branchTo (k : Core) (off w : Nat) : Nat := unsgn 16 ((k.pc : Int) + 4 * sgn w off)

/-- Issue an MTC (R476, R482): its effect is seen by the second instruction. Only the HK has IBANK. -/
def Core.control (k : Core) (c idx v : Nat) : Core :=
  let i := if idx = 0x1C then (if c = 0 then 0x1D else 0x1F) else if idx = 0x1D then 0x1F else idx
  { k with pend := k.pend ++ [{ left := 2, dest := .ctl i, val := v }] }

/-- ADD (R486). -/
def execIAdd (c rd ra rb : Nat) (s : State) : Host.Outcome State Fault Refusal :=
  .next (coreAlu s c 1 rd fun k => add32 (k.reg ra) (k.reg rb))

/-- SUB (R486). -/
def execISub (c rd ra rb : Nat) (s : State) : Host.Outcome State Fault Refusal :=
  .next (coreAlu s c 1 rd fun k => add32 (k.reg ra) (2 ^ 32 - k.reg rb))

/-- AND (R486). -/
def execIAnd (c rd ra rb : Nat) (s : State) : Host.Outcome State Fault Refusal :=
  .next (coreAlu s c 1 rd fun k => k.reg ra &&& k.reg rb)

/-- OR (R486). -/
def execIOr (c rd ra rb : Nat) (s : State) : Host.Outcome State Fault Refusal :=
  .next (coreAlu s c 1 rd fun k => k.reg ra ||| k.reg rb)

/-- XOR (R486). -/
def execIXor (c rd ra rb : Nat) (s : State) : Host.Outcome State Fault Refusal :=
  .next (coreAlu s c 1 rd fun k => k.reg ra ^^^ k.reg rb)

/-- NOR (R486). -/
def execINor (c rd ra rb : Nat) (s : State) : Host.Outcome State Fault Refusal :=
  .next (coreAlu s c 1 rd fun k => not32 (k.reg ra ||| k.reg rb))

/-- SLL (R486). -/
def execISll (c rd ra rb : Nat) (s : State) : Host.Outcome State Fault Refusal :=
  .next (coreAlu s c 1 rd fun k => k.reg ra * 2 ^ (k.reg rb % 32))

/-- SRL (R486). -/
def execISrl (c rd ra rb : Nat) (s : State) : Host.Outcome State Fault Refusal :=
  .next (coreAlu s c 1 rd fun k => k.reg ra / 2 ^ (k.reg rb % 32))

/-- SRA (R486). -/
def execISra (c rd ra rb : Nat) (s : State) : Host.Outcome State Fault Refusal :=
  .next (coreAlu s c 1 rd fun k => sra (k.reg ra) (k.reg rb % 32))

/-- SLLI (R486). -/
def execISlli (c rd ra sh : Nat) (s : State) : Host.Outcome State Fault Refusal :=
  .next (coreAlu s c 1 rd fun k => k.reg ra * 2 ^ sh)

/-- SRLI (R486). -/
def execISrli (c rd ra sh : Nat) (s : State) : Host.Outcome State Fault Refusal :=
  .next (coreAlu s c 1 rd fun k => k.reg ra / 2 ^ sh)

/-- SRAI (R486). -/
def execISrai (c rd ra sh : Nat) (s : State) : Host.Outcome State Fault Refusal :=
  .next (coreAlu s c 1 rd fun k => sra (k.reg ra) sh)

/-- MIN (R486). -/
def execIMin (c rd ra rb : Nat) (s : State) : Host.Outcome State Fault Refusal :=
  .next (coreAlu s c 1 rd fun k => if si (k.reg ra) ≤ si (k.reg rb) then k.reg ra else k.reg rb)

/-- MAX (R486). -/
def execIMax (c rd ra rb : Nat) (s : State) : Host.Outcome State Fault Refusal :=
  .next (coreAlu s c 1 rd fun k => if si (k.reg ra) ≤ si (k.reg rb) then k.reg rb else k.reg ra)

/-- MINU (R486). -/
def execIMinu (c rd ra rb : Nat) (s : State) : Host.Outcome State Fault Refusal :=
  .next (coreAlu s c 1 rd fun k => min (k.reg ra) (k.reg rb))

/-- MAXU (R486). -/
def execIMaxu (c rd ra rb : Nat) (s : State) : Host.Outcome State Fault Refusal :=
  .next (coreAlu s c 1 rd fun k => max (k.reg ra) (k.reg rb))

/-- CLZ (R486). -/
def execIClz (c rd ra : Nat) (s : State) : Host.Outcome State Fault Refusal := .next (coreAlu s c 1 rd fun k => clz (k.reg ra))

/-- BSWAP (R486). -/
def execIBswap (c rd ra : Nat) (s : State) : Host.Outcome State Fault Refusal := .next (coreAlu s c 1 rd fun k => bswap (k.reg ra))

/-- ADDS (R486). -/
def execIAdds (c rd ra rb : Nat) (s : State) : Host.Outcome State Fault Refusal :=
  .next (coreAlu s c 1 rd fun k => unsgn 32 (satSgn 32 (si (k.reg ra) + si (k.reg rb))))

/-- SUBS (R486). -/
def execISubs (c rd ra rb : Nat) (s : State) : Host.Outcome State Fault Refusal :=
  .next (coreAlu s c 1 rd fun k => unsgn 32 (satSgn 32 (si (k.reg ra) - si (k.reg rb))))

/-- MUL (R486). -/
def execIMul (c rd ra rb : Nat) (s : State) : Host.Outcome State Fault Refusal :=
  .next (coreAlu s c 3 rd fun k => k.reg ra * k.reg rb)

/-- MULH (R486). -/
def execIMulh (c rd ra rb : Nat) (s : State) : Host.Outcome State Fault Refusal :=
  .next (coreAlu s c 3 rd fun k => unsgn 32 (si (k.reg ra) * si (k.reg rb) / 2 ^ 32))

/-- MULHU (R486). -/
def execIMulhu (c rd ra rb : Nat) (s : State) : Host.Outcome State Fault Refusal :=
  .next (coreAlu s c 3 rd fun k => k.reg ra * k.reg rb / 2 ^ 32)

/-- MAC (R486). -/
def execIMac (c rd ra rb : Nat) (s : State) : Host.Outcome State Fault Refusal :=
  .next (coreAlu s c 3 rd fun k => k.reg rd + k.reg ra * k.reg rb)

/-- DIV (R486). -/
def execIDiv (c rd ra rb : Nat) (s : State) : Host.Outcome State Fault Refusal :=
  .next (coreAlu s c 12 rd fun k => divS (k.reg ra) (k.reg rb))

/-- DIVU (R486). -/
def execIDivu (c rd ra rb : Nat) (s : State) : Host.Outcome State Fault Refusal :=
  .next (coreAlu s c 12 rd fun k => if k.reg rb = 0 then 2 ^ 32 - 1 else k.reg ra / k.reg rb)

/-- REM (R486). -/
def execIRem (c rd ra rb : Nat) (s : State) : Host.Outcome State Fault Refusal :=
  .next (coreAlu s c 12 rd fun k => remS (k.reg ra) (k.reg rb))

/-- REMU (R486). -/
def execIRemu (c rd ra rb : Nat) (s : State) : Host.Outcome State Fault Refusal :=
  .next (coreAlu s c 12 rd fun k => k.reg ra % k.reg rb)

/-- CEQ (R486). -/
def execICeq (c rd ra rb : Nat) (s : State) : Host.Outcome State Fault Refusal :=
  .next (coreAlu s c 1 rd fun k => b2n (k.reg ra == k.reg rb))

/-- CNE (R486). -/
def execICne (c rd ra rb : Nat) (s : State) : Host.Outcome State Fault Refusal :=
  .next (coreAlu s c 1 rd fun k => b2n (k.reg ra != k.reg rb))

/-- CLT (R486). -/
def execIClt (c rd ra rb : Nat) (s : State) : Host.Outcome State Fault Refusal :=
  .next (coreAlu s c 1 rd fun k => b2n (decide (si (k.reg ra) < si (k.reg rb))))

/-- CLTU (R486). -/
def execICltu (c rd ra rb : Nat) (s : State) : Host.Outcome State Fault Refusal :=
  .next (coreAlu s c 1 rd fun k => b2n (decide (k.reg ra < k.reg rb)))

/-- CLE (R486). -/
def execICle (c rd ra rb : Nat) (s : State) : Host.Outcome State Fault Refusal :=
  .next (coreAlu s c 1 rd fun k => b2n (decide (si (k.reg ra) ≤ si (k.reg rb))))

/-- CLEU (R486). -/
def execICleu (c rd ra rb : Nat) (s : State) : Host.Outcome State Fault Refusal :=
  .next (coreAlu s c 1 rd fun k => b2n (decide (k.reg ra ≤ k.reg rb)))

/-- SEL (R486). -/
def execISel (c rd ra rb rc : Nat) (s : State) : Host.Outcome State Fault Refusal :=
  .next (coreAlu s c 1 rd fun k => if k.reg ra != 0 then k.reg rb else k.reg rc)

/-- ADDI (R487). -/
def execIAddi (c rd ra imm : Nat) (s : State) : Host.Outcome State Fault Refusal :=
  .next (coreAlu s c 1 rd fun k => add32 (k.reg ra) (sx16 imm))

/-- ANDI (R487). -/
def execIAndi (c rd ra imm : Nat) (s : State) : Host.Outcome State Fault Refusal :=
  .next (coreAlu s c 1 rd fun k => k.reg ra &&& imm)

/-- ORI (R487). -/
def execIOri (c rd ra imm : Nat) (s : State) : Host.Outcome State Fault Refusal :=
  .next (coreAlu s c 1 rd fun k => k.reg ra ||| imm)

/-- XORI (R487). -/
def execIXori (c rd ra imm : Nat) (s : State) : Host.Outcome State Fault Refusal :=
  .next (coreAlu s c 1 rd fun k => k.reg ra ^^^ imm)

/-- LUI (R487). -/
def execILui (c rd imm : Nat) (s : State) : Host.Outcome State Fault Refusal := .next (coreAlu s c 1 rd fun _ => imm * 65536)

/-- CLTI (R487). -/
def execIClti (c rd ra imm : Nat) (s : State) : Host.Outcome State Fault Refusal :=
  .next (coreAlu s c 1 rd fun k => b2n (decide (si (k.reg ra) < sgn 16 imm)))

/-- CLTIU (R487). -/
def execICltiu (c rd ra imm : Nat) (s : State) : Host.Outcome State Fault Refusal :=
  .next (coreAlu s c 1 rd fun k => b2n (decide (k.reg ra < sx16 imm)))

/-- CEQI (R487). -/
def execICeqi (c rd ra imm : Nat) (s : State) : Host.Outcome State Fault Refusal :=
  .next (coreAlu s c 1 rd fun k => b2n (k.reg ra == sx16 imm))

/-- LDW (R488). -/
def execILdw (c rd ra imm : Nat) (s : State) : Host.Outcome State Fault Refusal := .next (coreLoad s c rd ra (sx16 imm) 4 (id) none)

/-- LDH (R488). -/
def execILdh (c rd ra imm : Nat) (s : State) : Host.Outcome State Fault Refusal :=
  .next (coreLoad s c rd ra (sx16 imm) 2 (fun v => unsgn 32 (sgn 16 v)) none)

/-- LDHU (R488). -/
def execILdhu (c rd ra imm : Nat) (s : State) : Host.Outcome State Fault Refusal :=
  .next (coreLoad s c rd ra (sx16 imm) 2 (id) none)

/-- LDB (R488). -/
def execILdb (c rd ra imm : Nat) (s : State) : Host.Outcome State Fault Refusal :=
  .next (coreLoad s c rd ra (sx16 imm) 1 (fun v => unsgn 32 (sgn 8 v)) none)

/-- LDBU (R488). -/
def execILdbu (c rd ra imm : Nat) (s : State) : Host.Outcome State Fault Refusal :=
  .next (coreLoad s c rd ra (sx16 imm) 1 (id) none)

/-- STW (R488). -/
def execIStw (c rs ra imm : Nat) (s : State) : Host.Outcome State Fault Refusal := .next (coreStore s c rs ra (sx16 imm) 4 none)

/-- STH (R488). -/
def execISth (c rs ra imm : Nat) (s : State) : Host.Outcome State Fault Refusal := .next (coreStore s c rs ra (sx16 imm) 2 none)

/-- STB (R488). -/
def execIStb (c rs ra imm : Nat) (s : State) : Host.Outcome State Fault Refusal := .next (coreStore s c rs ra (sx16 imm) 1 none)

/-- LDWP (R488). -/
def execILdwp (c rd ra imm : Nat) (s : State) : Host.Outcome State Fault Refusal :=
  .next (coreLoad s c rd ra 0 4 id (some (sx16 imm)))

/-- STWP (R488). -/
def execIStwp (c rs ra imm : Nat) (s : State) : Host.Outcome State Fault Refusal :=
  .next (coreStore s c rs ra 0 4 (some (sx16 imm)))

/-- SWP (R490). -/
def execISwp (c rd ra rb : Nat) (s : State) : Host.Outcome State Fault Refusal := .next (coreSwap s c rd ra rb)

/-- BZ (R492). -/
def execIBz (c rc off : Nat) (s : State) : Host.Outcome State Fault Refusal :=
  .next (coreBranch s c (fun k => if k.reg rc = 0 then some (branchTo k off 21) else none) false false)

/-- BNZ (R492). -/
def execIBnz (c rc off : Nat) (s : State) : Host.Outcome State Fault Refusal :=
  .next (coreBranch s c (fun k => if k.reg rc = 0 then none else some (branchTo k off 21)) false false)

/-- JUMP (R492). -/
def execIJump (c off : Nat) (s : State) : Host.Outcome State Fault Refusal :=
  .next (coreBranch s c (fun k => some (branchTo k off 26)) false false)

/-- CALL (R493). -/
def execICall (c off : Nat) (s : State) : Host.Outcome State Fault Refusal :=
  .next (coreBranch s c (fun k => some (branchTo k off 26)) true false)

/-- JR (R492). -/
def execIJr (c ra : Nat) (s : State) : Host.Outcome State Fault Refusal :=
  .next (coreBranch s c (fun k => some (k.reg ra)) false false)

/-- CALLR (R493). -/
def execICallr (c ra : Nat) (s : State) : Host.Outcome State Fault Refusal :=
  .next (coreBranch s c (fun k => some (k.reg ra)) true false)

/-- RET (R493). -/
def execIRet (c : Nat) (s : State) : Host.Outcome State Fault Refusal :=
  .next (coreBranch s c (fun k => some (k.reg 23)) false true)

/-- RETI (R499). -/
def execIReti (c : Nat) (s : State) : Host.Outcome State Fault Refusal := .next (coreReti s c)

/-- LOOP (R494). -/
def execILoop (c lvl ra len : Nat) (s : State) : Host.Outcome State Fault Refusal := .next (coreLoop s c lvl len fun k => k.reg ra)

/-- LOOPI (R494). -/
def execILoopi (c lvl count len : Nat) (s : State) : Host.Outcome State Fault Refusal := .next (coreLoop s c lvl len fun _ => count)

/-- LBRK (R494). -/
def execILbrk (c lvl : Nat) (s : State) : Host.Outcome State Fault Refusal :=
  .next (coreIssue s c fun s k => .ok s (k.breakLoop lvl))

/-- REP (R496). -/
def execIRep (c : Nat) (ok : Bool) (s : State) : Host.Outcome State Fault Refusal := .next (coreRep s c ok)

/-- MFC (R482). -/
def execIMfc (c rd idx : Nat) (s : State) : Host.Outcome State Fault Refusal := .next (coreAlu s c 1 rd fun k => k.ctl c idx)

/-- MTC (R482). -/
def execIMtc (c ra idx : Nat) (s : State) : Host.Outcome State Fault Refusal :=
  .next (coreIssue s c fun s k => .ok s (k.control c idx (k.reg ra)))

/-- SYS (R498). -/
def execISys (c imm : Nat) (s : State) : Host.Outcome State Fault Refusal := .next (coreSys s c imm)

/-- BRK (R498). -/
def execIBrk (c imm : Nat) (s : State) : Host.Outcome State Fault Refusal := .next (coreBrk s c imm)

/-- SPILL (R481). -/
def execISpill (c : Nat) (s : State) : Host.Outcome State Fault Refusal := .next (coreSpill s c)

/-- FILL (R481). -/
def execIFill (c : Nat) (s : State) : Host.Outcome State Fault Refusal := .next (coreFill s c)

/-- ILL (R485). -/
def execIIll (c : Nat) (s : State) : Host.Outcome State Fault Refusal :=
  .next (coreIll s c)

/-- RESERVED_ENCODING (R505). -/
def execReservedEncoding (c : Nat) (s : State) : Host.Outcome State Fault Refusal := .next (coreReserved s c)

/-- Whether core `c` has its clock: its domain is on and CCLK runs. -/
def State.coreClocked (s : State) (c : Nat) : Bool :=
  !s.clk.frozen && !s.pllStopped && (targetDomain c).any fun n => s.domOn n

/-- RESULT_LANDING (R477): a clock in which nothing issues, while the core is halted or about to take an interrupt. -/
def execResultLanding (c : Nat) (s : State) : Host.Outcome State Fault Refusal :=
  .next (if (s.cr c).halt && s.coreClocked c || s.irqReady c then s.setCr c (s.cr c).tick else s)

/-- INTERRUPT_ENTRY (R501). -/
def execInterruptEntry (c : Nat) (s : State) : Host.Outcome State Fault Refusal :=
  match s.lineUp c with
  | some l => .next (if s.irqReady c && (s.cr c).pend.isEmpty then coreInterrupt s c l else s)
  | none => .next s

/-- HALT_RESUME (R503). -/
def execHaltResume (c : Nat) (s : State) : Host.Outcome State Fault Refusal :=
  .next (if (s.cr c).halt && (s.lineUp c).isSome && s.coreClocked c then
    s.setCr c { s.cr c with halt := false } else s)

/-- MBOX_PUSH (R504). -/
def execMboxPush (m : Master) (b : Nat) (v : Word) (s : State) : Host.Outcome State Fault Refusal :=
  .next (accessWrite s m mboxPage (0x104 + 16 * b) v.toNat fun _ s => mboxPush s b v.toNat)

/-- MBOX_POP (R504). -/
def execMboxPop (m : Master) (b : Nat) (s : State) : Host.Outcome State Fault Refusal :=
  if s.clk.frozen then .next s
  else if s.domOn 6 then
    let r := mboxPop (s.need 6) b
    .next (r.1.answer .ok r.2)
  else .next (domainOffAccess (s.need 6) m mboxPage (0x104 + 16 * b) none)

/-- IRQ_SOFT_SET (R502). -/
def execIrqSoftSet (m : Master) (c : Nat) (hi : Bool) (v : Word) (s : State) : Host.Outcome State Fault Refusal :=
  let off := 0x110 + 0x20 * c + 4 * b2n hi
  .next (accessWrite s m irqPage off v.toNat (softEff c true hi))

/-- IRQ_SOFT_CLR (R502). -/
def execIrqSoftClr (m : Master) (c : Nat) (hi : Bool) (v : Word) (s : State) : Host.Outcome State Fault Refusal :=
  let off := 0x118 + 0x20 * c + 4 * b2n hi
  .next (accessWrite s m irqPage off v.toNat (softEff c false hi))

end Sys2Proof.Machine
end

