-- ==== Sys2Proof/Machine/Secure.lean ====
section
/-! DEFINITION. Lifecycle and root keys (R545, R554, R558), attestation (R555, R556, R559). -/

namespace Sys2Proof.Machine

/-! Lifecycle and root keys. -/

/-- CMD_STAT.RESULT of SEC. -/
def secResult (s : State) (r : Nat) : State := s.set SEC_CMD_STAT_RESULT secPage r

/-- The 16 bytes of the unique ID (R559). -/
def uidBytes : List Nat := (List.range 4).flatMap fun i => leBytes (Config.uid i % 2 ^ 32) 4

/-- The key in KEYBUF. -/
def State.keybuf (s : State) : List Nat := (List.range 16).flatMap fun i => leBytes (s.get SEC_KEYBUF secPage i) 4

/-- ROOT_CMD PROGRAM (R545): `ok` tells whether the fuse write succeeds. -/
def rootProgram (s : State) (r : Nat) (ok : Bool) : State :=
  if s.fuse.lc != 0 then secResult s 1
  else if s.rootState r != 0 then secResult s 2
  else if !ok then secResult s 4
  else
    let key := s.keybuf
    secResult { s with fuse := { s.fuse with root := s.fuse.root.set r 1, keys := tput s.fuse.keys r [] key } } 0

/-- ROOT_CMD SEAL (R554): rejected while no root-key slot is active. -/
def rootSeal (s : State) (ok : Bool) : State :=
  if (List.range 4).all fun r => s.rootState r != 1 then s.reject secPage
  else if s.fuse.lc != 0 then secResult s 1
  else if !ok then secResult s 4
  else secResult { s with fuse := { s.fuse with lc := 1 } } 0

/-- The `n` bytes at address `a` of shared SRAM. -/
def State.sramBytes (s : State) (a n : Nat) : List Nat := (mgetBytes s.sram 0 (a - 0x10000000) n).map BitVec.toNat

/-- Whether the return token at TOKEN_ADDR verifies (R554). -/
def State.tokenOk (s : State) : Bool :=
  let a := s.get SEC_TOKEN_ADDR secPage
  let t := s.sramBytes a 24
  let r := t.getD 4 0
  0x10000000 ≤ a && a + 29816 ≤ 0x10200000 && t.take 4 == [0x4B, 0x56, 0x31, 0x52] && r < 4 && leOf t 5 3 == 0 &&
    t.drop 8 == uidBytes && s.verify r "KV1-RET" t (s.sramBytes (a + 24) 29792)

/-- ROOT_CMD RETURN (R554). -/
def rootReturn (s : State) (ok : Bool) : State :=
  if s.fuse.lc != 1 then secResult s 1
  else if !s.tokenOk then secResult s 3
  else if !ok then secResult s 4
  else secResult { s with fuse := { s.fuse with lc := 2 } } 0

/-- A write to ROOT_CMD (R558): accepted from the HK or the host while the page is unlocked and enabled (R66), otherwise rejected. -/
def rootEff (m : Master) (ok : Bool) (v : Nat) (s : State) : State :=
  if (m != .hk && m.code != 12) || !s.flag H_LOCKSTAT_UNLOCKED secPage || !s.accepts secPage then s.reject secPage
  else match bitsOf v 8 2 with
    | 1 => rootProgram s (v % 4) ok
    | 2 => rootSeal s ok
    | 3 => rootReturn s ok
    | _ => s

/-- A write to ROOT_CMD whose fuse write the command does not tell about: its success is a free value (log 3). -/
def rootEffFree (m : Master) (v : Nat) (s : State) : State :=
  let (f, s) := s.fresh 2
  rootEff m (f == 0) v s

/-- A write to KEYBUF. -/
def keybufEff (j v : Nat) (s : State) : State := s.set SEC_KEYBUF secPage v j

/-! Attestation. -/

/-- Room that a report takes at ATT.BUF (R556). -/
def attRoom : Nat := 50176

/-- ATT.CMD.GO (R556): from the SE, the HK or the host. -/
def attGo (m : Master) (s : State) : State :=
  let a := s.get ATT_BUF attPage
  if (m != .se && m != .hk && m.code != 12) || !s.accepts attPage then s
  else if s.flag ATT_STAT_BUSY attPage then s.reject attPage
  else if a < 0x10000000 || 0x10200000 < a + attRoom || a % 16 != 0 then (s.set ATT_STAT_RESULT attPage 1).reject attPage
  else ({ s.put ATT_STAT_BUSY attPage true with att := { buf := a, tb := s.tb } } : State).keccakAsk 2

/-- A write to CMD of ATT. -/
def attEff (m : Master) (v : Nat) (s : State) : State := if bitOf v 0 then attGo m s else s

/-- The four words of the active manifest that a report shows (R556). -/
def State.attImage (s : State) : List Nat :=
  match s.boot.active with
  | some k => leBytes (s.secver k) 4 ++ leBytes (s.cntValue 1793) 4 ++ leBytes (s.cn k 0xC 4) 4 ++ leBytes (s.slotGen k) 4
  | none => leBytes 0 4 ++ leBytes (s.cntValue 1793) 4 ++ leBytes 0 8

/-- The digest of the inactive slot's manifest when it is STAGED, COMMITTED or TRIAL (R556). -/
def State.attOther (s : State) : List Nat :=
  match s.boot.active with
  | some k =>
    let st := s.slotState (1 - k)
    if st = 1 || st = 4 || st = 2 then shake512 (s.cnBytes (1 - k) 0 0x2620) else List.replicate 64 0
  | none => List.replicate 64 0

/-- ROOT.STATE as the register shows it (R558). -/
def State.rootWord (s : State) : Nat := ((List.range 4).map fun r => s.rootState r * 4 ^ r).sum

/-- The bytes before the nonce, between nonce and user data (R556). -/
def State.attHead (s : State) : List Nat :=
  [0x4B, 0x56, 0x31, 0x41] ++ leBytes 1 2 ++ leBytes 0x140 2 ++
    [s.fuse.lc, s.boot.active.getD 0 + 128 * b2n s.boot.trying, s.rootWord, 0] ++ leBytes 0x000100A1 4 ++ uidBytes

/-- Bytes 0x040 to 0x0FF of a report (R556). -/
def State.attBody (s : State) : List Nat :=
  leBytes (s.get TB_EPOCH tbPage) 4 ++ leBytes 0 4 ++ leBytes s.att.tb 8 ++ s.attImage ++
    (if s.boot.measured.isEmpty then List.replicate 64 0 else s.boot.measured) ++ s.attOther ++
    leBytes (s.get CNVM_CNT_CHANGEOVERS cnvmPage) 4 ++ leBytes (s.get CNVM_CNT_CHANGEBACKS cnvmPage) 4 ++
    leBytes (s.get WDG_STAT_EXPIRIES wdgPage) 4 ++ leBytes (s.get ATT_CNT_REPORTS attPage) 4 ++
    leBytes s.nvm.p6.lockouts 4 ++ leBytes s.nvm.p7.lockouts 4 ++ leBytes (s.get CNVM_BOOT_CAUSE cnvmPage) 4 ++ leBytes 0 4

/-- Store bytes in shared SRAM at address `a`. -/
def sramPut (s : State) (a : Nat) (l : List Byte) : State := { s with sram := mputBytes s.sram 0 (a - 0x10000000) l }

/-- The report is filled and signed (R556): the signature's bytes are free values (log 3). -/
def attDone (s : State) (t : Nat) : State :=
  let b := s.att.buf
  let ofN (l : List Nat) : List Byte := l.map fun v => BitVec.ofNat 8 v
  let s := sramPut (sramPut s b (ofN s.attHead)) (b + 0x40) (ofN s.attBody)
  let (sig, s) := s.padBytes [] 49856
  let s := (sramPut s (b + 0x140) sig).set ATT_T_SIGN attPage t
  let s := (((s.keccakDone 2).put ATT_STAT_BUSY attPage false).put ATT_STAT_DONE attPage true).set ATT_STAT_RESULT attPage 0
  (s.bump ATT_CNT_REPORTS attPage).irq attPage 0

/-- Clearing EN aborts a report (R559). -/
def attDrain (s : State) : State :=
  if s.flag ATT_STAT_BUSY attPage then
    ((((s.keccakDone 2).put ATT_STAT_BUSY attPage false).put ATT_STAT_DONE attPage true).set ATT_STAT_RESULT attPage 2).irq attPage 0
  else s

/-! The meanings. -/

/-- A write of `v` to ROOT_CMD as an access. -/
def rootAccess (s : State) (m : Master) (ok : Bool) (v : Nat) : State := accessWrite s m secPage 0x48 v (rootEff m ok)

/-- ROOT_PROGRAM (R545). -/
def execRootProgram (m : Master) (r : Nat) (ok : Bool) (s : State) : Host.Outcome State Fault Refusal :=
  .next (rootAccess s m ok (256 + r))

/-- ROOT_SEAL (R554). -/
def execRootSeal (m : Master) (ok : Bool) (s : State) : Host.Outcome State Fault Refusal := .next (rootAccess s m ok 512)

/-- ROOT_RETURN (R554). -/
def execRootReturn (m : Master) (ok : Bool) (s : State) : Host.Outcome State Fault Refusal := .next (rootAccess s m ok 768)

/-- ATT_GO (R556). -/
def execAttGo (m : Master) (s : State) : Host.Outcome State Fault Refusal := .next (accessWrite s m attPage 0x40 1 (attEff m))

/-- ATT_REPORT_DONE (R556): `t` is the signing time in ms. The Keccak engine has come to the report (R553), and its buffer lies in PD_MEM. -/
def execAttReportDone (t : Nat) (s : State) : Host.Outcome State Fault Refusal :=
  .next (if s.domOn 4 && s.domOn 6 && s.flag ATT_STAT_BUSY attPage && s.keccakAt 2 then attDone s t else s)

end Sys2Proof.Machine
end

