-- ==== Sys2Proof/Machine/Lin.lean ====
section
/-! DEFINITION. LIN channels: schedule tables, headers, frame ends and errors (R379 to R392). Channel `l` (0 to 11). -/

namespace Sys2Proof.Machine

/-- The page of LIN channel `l`. -/
def linPage (l : Nat) : Nat := 0x7A + l / 4

/-- Read a field of LIN channel `l`. -/
def State.lg (s : State) (f : Fld) (l : Nat) : Nat := s.get f (linPage l) (l % 4)

/-- Write a field of LIN channel `l`. -/
def State.ls (s : State) (f : Fld) (l v : Nat) : State := s.set f (linPage l) v (l % 4)

/-- Event bit `b` of LIN channel `l` (R390). -/
def State.linIrq (s : State) (l b : Nat) : State := s.irq (linPage l) (8 * (l % 4) + b)

/-- Word `w` of frame descriptor `d` (R384). -/
def State.descWord (s : State) (l d w : Nat) : Nat := s.get LIN_RAM (linPage l) (l % 4) (4 * d + w)

/-- Write a word of a frame descriptor. -/
def State.setDesc (s : State) (l d w v : Nat) : State := s.set LIN_RAM (linPage l) v (l % 4) (4 * d + w)

/-- Schedule entry `e` (R385). -/
def State.schedEntry (s : State) (l e : Nat) : Nat := s.get LIN_RAM (linPage l) (l % 4) (128 + e)

/-! The fields of a schedule entry and of a descriptor's first word. -/
def entDelay (w : Nat) : Nat := w % 4096
def entDesc (w : Nat) : Nat := bitsOf w 12 5
def entType (w : Nat) : Nat := bitsOf w 17 3
def entTarget (w : Nat) : Nat := bitsOf w 20 6
def descId (w : Nat) : Nat := w % 64
def descDir (w : Nat) : Nat := bitsOf w 8 2

def descLen (w : Nat) : Nat := bitsOf w 16 4

/-- Set an ERR bit (R388, R390). -/
def linErr (s : State) (l : Nat) (f : Fld) : State := (s.ls f l 1).linIrq l 1

/-- An error in a frame counts (R388, R390). -/
def linFail (s : State) (l : Nat) (f : Fld) : State := linErr (s.bump LIN_CNT_ERRORS (linPage l) (l % 4)) l f

/-- Activity on the bus of channel `l` (R389). -/
def linTouch (s : State) (l : Nat) : State := s.upLin l fun x => { x with active := s.tb, idle := false }

/-- The table stops with STATE `st` (R385, R390). -/
def linStop (s : State) (l st : Nat) : State :=
  let s := s.upLin l fun x => { x with slotAt := none, switch := none, stop := false, sleep := false, collide := none, branch := none, header := none, sleepDue := false }
  (s.ls LIN_STAT_STATE l st).linIrq l 2

/-- Whether channel `l` is a commander. -/
def State.commander (s : State) (l : Nat) : Bool := s.lg LIN_CFG_ROLE l == 1

/-- Whether channel `l` takes up work: PD_NET on and not leaving, page enabled and not draining (R66, R97). -/
def State.linOn (s : State) (l : Nat) : Bool := s.domRuns 3 && s.accepts (linPage l)

/-- CMD.RUN (R386). -/
def linRun (s : State) (l : Nat) : State :=
  if !s.commander l || !s.linOn l then s
  else if s.lg LIN_STAT_STATE l = 1 then s.upLin l fun x => { x with switch := some (s.lg LIN_SCHED_NEXT l) }
  else
    (s.ls LIN_STAT_STATE l 1).upLin l fun x =>
      { x with slotAt := some ((s.tb + 10000 + 99999) / 100000 * 100000), next := s.lg LIN_SCHED_NEXT l, branch := none, collide := none }

/-- CMD.WAKE drives the bus dominant for 1.0 ms, after a frame in progress (R389). -/
def linPulse (s : State) (l : Nat) : State :=
  if (s.linH l).cur.isSome then s.upLin l fun x => { x with pulse := true }
  else (linTouch s l).upLin l fun x => { x with pulse := false, pulseTb := some s.tb }

/-- A write to CMD (R386, R389, R392): with STOP the table does not start. -/
def linCmdEff (l v : Nat) (s : State) : State :=
  let run := s.lg LIN_STAT_STATE l = 1
  let s := if bitOf v 0 && !bitOf v 1 then linRun s l else s
  let s := if bitOf v 1 && run then s.upLin l fun x => { x with stop := true } else s
  let s := if bitOf v 2 && s.commander l && s.lg LIN_STAT_STATE l = 1 then s.upLin l fun x => { x with sleep := true } else s
  if bitOf v 3 && s.linOn l then linPulse s l else s

/-- Put a frame in progress. -/
def linBegin (s : State) (l : Nat) (f : LinFrame) : State := (linTouch s l).upLin l fun x => { x with cur := some f }

/-- The go-to-sleep command: identifier 0x3C, 0x00 and seven bytes of 0xFF (R389). -/
def linSleepFrame : LinFrame := { id := 0x3C, sleep := true, lo := 0xFFFFFF00, hi := 0xFFFFFFFF }

/-- Whether the slot of entry `e` sends a header (R385): a sporadic one only with new data to publish. -/
def State.linSends (s : State) (l e : Nat) : Bool :=
  let h := s.descWord l (entDesc (s.schedEntry l e)) 0
  entType (s.schedEntry l e) != 2 || (descDir h == 1 && bitOf h 24)

/-- The header of schedule entry `e` goes out (R385). -/
def linHeader (s : State) (l e : Nat) : State :=
  let w := s.schedEntry l e
  let d := entDesc w
  let h := s.descWord l d 0
  if !s.linSends l e then s
  else linBegin s l { desc := some d, id := descId h, event := if entType w = 1 then some (entTarget w, e) else none,
                      lo := s.descWord l d 1, hi := s.descWord l d 2 }

/-- Where a table goes next from entry `e` (R385): a frame-carrying entry, the end, or a bad table. -/
inductive LinNext where
  | slot (e : Nat)
  | finish
  | bad
  deriving DecidableEq, Repr

/-- Follow JUMP and RETURN entries, at most `n` of them (R385). -/
def linFollow (s : State) (l e n : Nat) : LinNext :=
  match n with
  | 0 => .bad
  | k + 1 =>
    let w := s.schedEntry l (e % 64)
    if entType w < 3 then .slot (e % 64)
    else if entType w = 3 then linFollow s l (entTarget w) k
    else if entType w = 4 then
      match (s.linH l).branch with
      | some b => linFollow s l ((b + 1) % 64) k
      | none => .bad
    else if entType w = 5 then .finish
    else .bad

/-- A slot starts at entry `e` (R386). -/
def linSlot (s : State) (l e at_ : Nat) : State :=
  let s := (s.ls LIN_STAT_POS l e).upLin l fun x =>
    { x with slotAt := some (at_ + entDelay (s.schedEntry l e) * 100000), next := (e + 1) % 64 }
  if !s.linSends l e then s
  else if (s.linH l).cur.isSome then (linErr s l LIN_ERR_OVERRUN).upLin l fun x => { x with header := some e }
  else linHeader s l e

/-- A scheduled slot start (R385, R386, R389, R390). -/
def linTurn (s : State) (l at_ : Nat) : State :=
  let x := s.linH l
  if x.sleep then
    let s := s.upLin l fun x => { x with slotAt := none, sleep := false, header := none }
    if x.cur.isSome then (linErr s l LIN_ERR_OVERRUN).upLin l fun x => { x with sleepDue := true } else linBegin s l linSleepFrame
  else if x.stop then linStop s l 0
  else
    let s := match x.collide with
      | some (_, e) => s.upLin l fun y => { y with branch := some e, collide := none }
      | none => s
    let start := match x.switch with
      | some e => e
      | none => match x.collide with | some (t, _) => t | none => x.next
    let s := s.upLin l fun y => { y with switch := none }
    match linFollow s l start 64 with
    | .slot e => linSlot s l e at_
    | .finish => linStop s l 0
    | .bad => linStop (linErr s l LIN_ERR_BAD_TABLE) l 0

/-- The lowest descriptor in use that carries identifier `id` (R384). -/
def State.descOf (s : State) (l id : Nat) : Option Nat :=
  (List.range 32).find? fun d => descId (s.descWord l d 0) == id && descDir (s.descWord l d 0) != 0

/-- Whether a measured rate lies within the tolerance of R387. -/
def State.linSyncOk (s : State) (l baud : Nat) : Bool :=
  let b := s.lg LIN_CFG_BAUD l
  let t := if s.lg LIN_CFG_AUTOBAUD l = 1 then 14 else 2
  b * (100 - t) ≤ baud * 100 && baud * 100 ≤ b * (100 + t)

/-- A responder receives a header (R387, R388). -/
def linHeaderIn (s : State) (l id : Nat) (parity : Bool) (baud : Nat) : State :=
  let s := linTouch (s.ls LIN_STAT2_BAUD_MEAS l baud) l
  if !s.linSyncOk l baud then linFail s l LIN_ERR_SYNC
  else if !parity then linFail s l LIN_ERR_PID_PARITY
  else
    let d := s.descOf l id
    linBegin s l { desc := d, id := id, lo := match d with | some k => s.descWord l k 1 | none => 0,
                   hi := match d with | some k => s.descWord l k 2 | none => 0 }

/-- LAST and its timestamp show the frame that ended (R390). -/
def linLast (s : State) (l : Nat) (f : LinFrame) (ok : Bool) (ts : Nat) : State :=
  let s := match f.desc with | some d => s.ls LIN_LAST_DESC l d | none => s
  let s := (s.ls LIN_LAST_ID l f.id).ls LIN_LAST_OK l (b2n ok)
  (s.ls LIN_LAST_TS_LO l ts).ls LIN_LAST_TS_HI l (ts / 2 ^ 32)

/-- The frame in progress is over: a wake pulse that waits is driven, the table stops after the go-to-sleep command, a delayed header
follows (R386, R389). -/
def linOver (s : State) (l : Nat) (f : LinFrame) : State :=
  let x := s.linH l
  let s := (linTouch s l).upLin l fun x => { x with cur := none, header := none, sleepDue := false, toOff := false }
  let s := if x.pulse then linPulse s l else s
  if s.lg LIN_STAT_STATE l = 1 then
    if f.sleep then linStop s l 2
    else if x.sleepDue then linBegin s l linSleepFrame
    else match x.header with | some e => linHeader s l e | none => s
  else s

/-- Whether the response of frame `f` is watched: its descriptor publishes or subscribes it (R384, R388; log 96). -/
def State.linWatches (s : State) (l : Nat) (f : LinFrame) : Bool :=
  match f.desc with
  | some d => descDir (s.descWord l d 0) == 1 || descDir (s.descWord l d 0) == 2
  | none => f.sleep

/-- Valid communication on LIN channel `l` closes its false-wake window (R417). -/
def linComm (s : State) (l : Nat) : State :=
  if s.nm.linWin.any fun e => e.1 == l then
    { s.set NMK_LINFW_CONSEC nmkPage 0 l with nm := { s.nm with linWin := s.nm.linWin.filter fun e => e.1 != l } }
  else s

/-- The frame end changes word 0 of descriptor `d`; a master write of it in the same BCLK takes effect after it (R384). -/
def linWord0 (s : State) (l d v : Nat) : State :=
  match (s.linH l).wrote with
  | some (t, k, w) => s.setDesc l d 0 (if t = s.tb && k = d then w else v)
  | none => s.setDesc l d 0 v

/-- A write to the RAM of a LIN page (R384). -/
def linRamEff (p off v : Nat) (s : State) : State :=
  let l := 4 * (p - 0x7A) + (off - 0x400) / 0x300
  let o := (off - 0x400) % 0x300
  let s := plainWrite s p off v
  if o < 0x200 && o % 16 = 0 then s.upLin l fun x => { x with wrote := some (s.tb, o / 16, v) } else s

/-- A frame ends without error (R384, R389, R390). -/
def linGood (s : State) (l : Nat) (f : LinFrame) (ts : Nat) (data : List Byte) : State :=
  let s := match f.desc with
    | some d =>
      let w := s.descWord l d 0
      if descDir w = 1 then linWord0 s l d (clrBit w 24)
      else if descDir w = 2 then
        let r := s.padBytes (data.take (min (descLen w) 8)) 8
        let s := (r.2.setDesc l d 1 (bytesNat (r.1.take 4))).setDesc l d 2 (bytesNat (r.1.drop 4))
        linWord0 (s.setDesc l d 3 ts) l d (setBit w 25)
      else s
    | none => s
  let s := ((linLast s l f true ts).bump LIN_CNT_FRAMES (linPage l) (l % 4)).linIrq l 0
  let s :=
    if f.id = 0x3C && !f.sleep && !s.commander l && bytesNat data = 0xFFFFFFFFFFFFFF00 then
      (s.ls LIN_STAT_GOTO_SLEEP l 1).linIrq l 3
    else s
  linOver (linComm s l) l f

/-- A frame ends with an error; in an EVENT slot CS, FRAMING and an incomplete response are a collision (R385, R388). An error in a
response that no descriptor watches is none of this channel's. -/
def linBad (s : State) (l : Nat) (f : LinFrame) (e : Fld) (ts : Nat) (bit : Bool) : State :=
  if !bit && !s.linWatches l f then linOver s l f
  else
    let s := linLast s l f false ts
    let s := match f.event with
      | some t => if bit then linFail s l e else (linFail s l LIN_ERR_COLLISION).upLin l fun x => { x with collide := some t }
      | none => linFail s l e
    linOver s l f

/-- Whether the deadline of a response has passed (R388): 1.4 × (34 + 10 × (LEN + 1)) bit times after the break start at `ts`, at the
configured rate or the one measured on the frame's sync field (R387). -/
def State.linLate (s : State) (l : Nat) (f : LinFrame) (ts : Nat) : Bool :=
  let len := match f.desc with | some d => descLen (s.descWord l d 0) | none => 8
  let baud := if s.commander l || s.lg LIN_CFG_AUTOBAUD l = 0 then s.lg LIN_CFG_BAUD l else s.lg LIN_STAT2_BAUD_MEAS l
  14 * (34 + 10 * (len + 1)) * 1000000000 ≤ (s.tb - ts) * baud * 10

/-! What the channel sends. -/

/-- Sum of bytes with the carry added back (R380). -/
def linSum (l : List Nat) : Nat := l.foldl (fun a b => if a + b < 256 then a + b else a + b - 255) 0

/-- The protected identifier: the two parity bits over the six identifier bits (R380). -/
def linPid (id : Nat) : Nat :=
  let b (k : Nat) : Nat := bitsOf id k 1
  id + 64 * ((b 0 + b 1 + b 2 + b 4) % 2) + 128 * (1 - (b 1 + b 3 + b 4 + b 5) % 2)

/-- The response that channel `l` sends in frame `f`: the data that stood in the descriptor at the PID, then the classic or enhanced
checksum, always classic for 0x3C and 0x3D (R380, R384, R389). -/
def State.linResponse (s : State) (l : Nat) (f : LinFrame) : List Nat :=
  let w := match f.desc with | some d => s.descWord l d 0 | none => 0
  let data := ((List.range 8).map fun i => bitsOf (f.lo + 2 ^ 32 * f.hi) (8 * i) 8).take (if f.sleep then 8 else descLen w)
  let cs := linSum (if bitOf w 20 && f.id != 0x3C && f.id != 0x3D then linPid f.id :: data else data)
  if f.sleep || descDir w = 1 then data ++ [255 - cs] else []

/-- Whether TXD of channel `l` is held recessive (R383). -/
def State.linSilent (s : State) (l : Nat) : Bool :=
  !s.domOn 3 || !s.flag H_CTRL_EN (linPage l) || s.lg LIN_TRX_MODE l != 1 || (s.linH l).toOff

/-- Whether a wake pulse is driven (R389). -/
def State.linPulsing (s : State) (l : Nat) : Bool :=
  match (s.linH l).pulseTb with
  | some t => !s.linSilent l && s.tb < t + 1000000
  | none => false

/-- Clearing CTRL.EN, or an order for PD_NET, stops the tables of page `p` (R391). -/
def linDrain (s : State) (p : Nat) : State :=
  s.each (List.range 4) fun s i =>
    let l := 4 * (p - 0x7A) + i
    let st := s.lg LIN_STAT_STATE l
    if st = 1 then linStop s l 0 else if st = 3 then s.ls LIN_STAT_STATE l 0 else s

/-- Setting CTRL.EN makes the responders of page `p` active (R387, R390). -/
def linEnable (s : State) (p : Nat) : State :=
  s.each (List.range 4) fun s i =>
    let l := 4 * (p - 0x7A) + i
    let s := linTouch s l
    if s.commander l then s else s.ls LIN_STAT_STATE l 3

/-- The AON fields of the LIN pages, which PD_NET's off leaves as they are (R383). -/
def linAonKey (k : Nat) : Bool :=
  0x7A ≤ keyPage k && keyPage k < 0x7D && 0x100 ≤ keyOff k && keyOff k < 0x300 && keyOff k % 0x80 == 4

/-! The meanings. -/

/-- The offset of CMD of channel `l`. -/
def linCmdOff (l : Nat) : Nat := 0x10C + 0x80 * (l % 4)

/-- A write to CMD of channel `l`. -/
def linCmdWrite (s : State) (m : Master) (l v : Nat) : State := accessWrite s m (linPage l) (linCmdOff l) v (linCmdEff l)

/-- LIN_CMD_RUN (R386). -/
def execLinCmdRun (m : Master) (l : Nat) (s : State) : Host.Outcome State Fault Refusal := .next (linCmdWrite s m l 1)

/-- LIN_CMD_STOP (R390). -/
def execLinCmdStop (m : Master) (l : Nat) (s : State) : Host.Outcome State Fault Refusal := .next (linCmdWrite s m l 2)

/-- LIN_CMD_SLEEP (R389). -/
def execLinCmdSleep (m : Master) (l : Nat) (s : State) : Host.Outcome State Fault Refusal := .next (linCmdWrite s m l 4)

/-- LIN_CMD_WAKE (R389). -/
def execLinCmdWake (m : Master) (l : Nat) (s : State) : Host.Outcome State Fault Refusal := .next (linCmdWrite s m l 8)

/-- LIN_SLOT_START (R386). -/
def execLinSlotStart (l : Nat) (s : State) : Host.Outcome State Fault Refusal :=
  match (s.linH l).slotAt with
  | some t => .next (if s.linOn l && s.lg LIN_STAT_STATE l = 1 && t ≤ s.tb then linTurn s l t else s)
  | none => .next s

/-- LIN_HEADER_RECEIVED (R387): identifier, PID parity and measured bit rate. -/
def execLinHeaderReceived (l id : Nat) (parity : Bool) (baud : Nat) (s : State) : Host.Outcome State Fault Refusal :=
  .next (if s.linOn l && !s.commander l && s.lg LIN_TRX_MODE l = 1 then linHeaderIn s l id parity baud else s)

/-- LIN_FRAME_END (R384): error 0 none, 1 BIT, 2 CS, 3 FRAMING; `ts` is the TB of the break start. -/
def execLinFrameEnd (l err ts : Nat) (data : List Byte) (s : State) : Host.Outcome State Fault Refusal :=
  match (s.linH l).cur with
  | some f =>
    .next (if !s.domOn 3 then s
      else if err = 0 then linGood s l f ts data
      else linBad s l f (if err = 1 then LIN_ERR_BIT else if err = 2 then LIN_ERR_CS else LIN_ERR_FRAMING) ts (err == 1))
  | none => .next s

/-- LIN_NO_RESPONSE (R388): `part` tells whether a part of the response came. -/
def execLinNoResponse (l : Nat) (part : Bool) (ts : Nat) (s : State) : Host.Outcome State Fault Refusal :=
  match (s.linH l).cur with
  | some f =>
    .next (if !s.domOn 3 || !s.linLate l f ts then s
      else if f.event.isSome && !part then linOver s l f else linBad s l f LIN_ERR_NO_RESP ts false)
  | none => .next s

/-- LIN_BUS_IDLE (R389): 4 s without bus activity. -/
def execLinBusIdle (l : Nat) (s : State) : Host.Outcome State Fault Refusal :=
  let x := s.linH l
  .next (if s.linOn l && x.cur.isNone && !x.idle && x.active + 4000000000 ≤ s.tb then
    ((s.ls LIN_STAT_BUS_IDLE l 1).upLin l fun x => { x with idle := true }).linIrq l 3 else s)

/-- LIN_TXD_TIMEOUT (R383). -/
def execLinTxdTimeout (l : Nat) (s : State) : Host.Outcome State Fault Refusal :=
  .next (if s.linOn l && s.lg LIN_TRX_MODE l = 1 then
    ((s.ls LIN_TRX_TXD_TO l 1).upLin l fun x => { x with toOff := true }).linIrq l 4 else s)

/-- LIN_BUS_WAKE (R383). -/
def execLinBusWake (l : Nat) (s : State) : Host.Outcome State Fault Refusal :=
  .next (if s.lg LIN_TRX_MODE l = 2 then wakeEvent s 4 l 1 else s)

end Sys2Proof.Machine
end

