-- ==== Sys2Proof/Machine/Sleep.lean ====
section
/-! DEFINITION. Bus wakes, selective wake, false wakes, the NM keeper's events and the commit point (R413 to R431). -/

namespace Sys2Proof.Machine

/-- Whether the data of a frame meet the data mask (R414). -/
def State.swkData (s : State) (t : Nat) (f : CanFrame) : Bool :=
  let mask (k : Nat) : Nat := bitsOf (s.get (if k < 4 then CTRX_DMASK_LO else CTRX_DMASK_HI) ctrxPage t) (8 * (k % 4)) 8
  f.dlc == 0 || ((List.range f.dlc).all fun k => mask k == 0) || (List.range f.dlc).any fun k => mask k &&& (f.data.getD k 0).toNat != 0

/-- Whether a frame wakes transceiver `t` (R414). -/
def State.swkMatch (s : State) (t : Nat) (f : CanFrame) : Bool :=
  !f.rtr && f.xtd == s.flag CTRX_SWK_ID_XTD ctrxPage t &&
    (f.id ^^^ s.get CTRX_SWK_ID_ID ctrxPage t) &&& s.get CTRX_SWK_IDM ctrxPage t == 0 &&
    f.dlc == s.get CTRX_SWK_CTRL_DLC ctrxPage t && s.swkData t f

/-- The wake-up pattern at transceiver `t` (R413, R415): a wake in WAKE_DET, the decoder's arming in SELECTIVE. -/
def swkPattern (s : State) (t : Nat) : State :=
  let m := s.get CTRX_STAT_MODE_ACT ctrxPage t
  if m = 3 || (m = 4 && s.flag CTRX_SWK_STAT_CFG_ERR ctrxPage t) then wakeEvent s 3 t 1
  else if m = 4 then s.upXcv t fun x => { x with armed := true, heard := s.tb }
  else s

/-- The decoder of transceiver `t` sees activity on its bus (R413). -/
def swkHear (s : State) (t : Nat) : State := s.upXcv t fun x => { x with heard := s.tb }

/-- A frame with an error reaches the armed decoder (R415). -/
def swkError (s : State) (t : Nat) : State :=
  let s := swkHear s t
  let n := s.get CTRX_SWK_STAT_FEC ctrxPage t
  if 32 ≤ n then s
  else
    let s := s.set CTRX_SWK_STAT_FEC ctrxPage (n + 1) t
    if n + 1 = 32 then wakeEvent (s.put CTRX_SWK_STAT_FEC_OVF ctrxPage true t) 3 t 1 else s

/-- A correct frame reaches the armed decoder (R414, R415). -/
def swkFrame (s : State) (t : Nat) (f : CanFrame) : State :=
  let s := swkHear s t
  if f.fdf then (if s.flag CTRX_SWK_CTRL_FD_TOL ctrxPage t then s else swkError s t)
  else
    let s := s.set CTRX_SWK_STAT_FEC ctrxPage (s.get CTRX_SWK_STAT_FEC ctrxPage t - 1) t
    if s.swkMatch t f then wakeEvent (s.put CTRX_SWK_STAT_MATCH ctrxPage true t) 3 t 1 else s

/-- Whether the decoder of transceiver `t` is armed (R413). -/
def State.swkArmed (s : State) (t : Nat) : Bool := (s.xcv t).armed && s.get CTRX_STAT_MODE_ACT ctrxPage t == 4

/-- A false wake of transceiver `t` (R416, R418). -/
def fwCount (s : State) (t ts : Nat) : State :=
  let s := ((s.bump CTRX_FW_COUNT ctrxPage t).bump CTRX_FW_CONSEC ctrxPage t).upXcv t fun x => { x with window := none }
  let s := (s.set CTRX_FW_TS_LO ctrxPage ts t).set CTRX_FW_TS_HI ctrxPage (ts / 2 ^ 32) t
  (s.logDev 33).irq ctrxPage (24 + t)

/-- A false wake of LIN channel `l` (R417, R430). -/
def linFwCount (s : State) (l : Nat) : State :=
  let s := (s.bump NMK_LINFW_COUNT nmkPage l).bump NMK_LINFW_CONSEC nmkPage l
  let s := { s with nm := { s.nm with linWin := s.nm.linWin.filter fun e => e.1 != l } }.logDev 33
  if s.domOn 3 then s.irq nmkPage 17 else s

/-- Whether COMMIT with value `v` is accepted (R423). -/
def State.commitOkNm (s : State) (v : Nat) : Bool :=
  (List.range 8).all fun b =>
    (!bitOf v b || s.nmSt b == 4) && (!bitOf v 31 || bitOf v b || s.nmSt b == 5 || !s.flag NMK_CFG_EN nmkPage b)

/-- The fields that an accepted COMMIT changes. -/
def commitLocs : List Loc :=
  (List.range 8).map (fun b => NMK_STAT_STATE.loc nmkPage b) ++
    (List.range 6).flatMap (fun t => [CTRX_MODE.loc ctrxPage t, CTRX_STAT_MODE_ACT.loc ctrxPage t, CTRX_SWK_STAT_FEC.loc ctrxPage t]) ++
    (List.range 12).map (fun l => LIN_TRX_MODE.loc (linPage l) (l % 4)) ++
    [H_IRQ_RAW.loc ctrxPage, H_EVT_CNT_EVENTS.loc ctrxPage, WAKE_DEFER_ACTIVE.loc wakePage]

/-- What stands before a COMMIT of value `v`. -/
def commitKeep (s : State) (v : Nat) : NmCommit :=
  { tb := s.tb, val := v, regs := commitLocs.map s.rd, armed := (List.range 6).map fun t => (s.xcv t).armed,
    watch := (s.nm.watchEnd, s.nm.watchCan, s.nm.watchLin) }

/-- A COMMIT is undone. -/
def commitUndo (s : State) (u : NmCommit) : State :=
  let s := (commitLocs.zip u.regs).foldl (fun s x => s.wr x.1 x.2) s
  let s := s.each (List.range 6) fun s t => s.upXcv t fun x => { x with armed := u.armed.getD t false }
  { s with nm := { s.nm with watchEnd := u.watch.1, watchCan := u.watch.2.1, watchLin := u.watch.2.2, commit := none } }

/-- A write to COMMIT (R423, R425): it acts as a whole, or is rejected as a whole. -/
def nmCommit (v : Nat) (s : State) : Acted :=
  if !s.commitOkNm v then (s, true)
  else
    let u := commitKeep s v
    let s := s.each ((List.range 8).filter fun b => bitOf v b) fun s b =>
      (if b < 6 then ctrxTake s b (if s.flag NMK_CFG_SLEEP_MODE nmkPage b then 4 else 3) else s).setNm b 5
    let s := s.each ((List.range 12).filter fun l => bitOf v (8 + l)) fun s l => s.ls LIN_TRX_MODE l 2
    let s := { s with nm := { s.nm with watchEnd := s.tb + 50000, watchCan := v % 64, watchLin := bitsOf v 8 12, commit := some u } }
    (if bitOf v 31 then s.put WAKE_DEFER_ACTIVE wakePage true else s, false)

/-- A vote or an NM message, `act`, in the BCLK of a COMMIT acts first; the COMMIT then meets what it has left (R431). -/
def beforeCommit (act : State → State) (s : State) : State :=
  match s.nm.commit with
  | some u => if u.tb = s.tb then doAct nmkPage (nmCommit u.val (act (commitUndo s u))) else act s
  | none => act s

/-- A write of NEED.VOTE of bus `b` (R420, R431). -/
def needWrite (b v : Nat) (s : State) : State := if bitOf v 0 then beforeCommit (needEff b v) s else needEff b v s

/-- A dominant phase during a commit's transition is latched as a bus wake (R425): `t` is a CAN transceiver, or 6 plus a LIN channel. -/
def deferLatch (s : State) (t : Nat) : State :=
  if s.nm.watchEnd < s.tb then s
  else if t < 6 then
    (if bitOf s.nm.watchCan t then wakeEvent { s with nm := { s.nm with watchCan := clrBit s.nm.watchCan t } } 3 t 1 else s)
  else if bitOf s.nm.watchLin (t - 6) then
    wakeEvent { s with nm := { s.nm with watchLin := clrBit s.nm.watchLin (t - 6) } } 4 (t - 6) 1
  else s

/-- KEEP_CLR (R422). -/
def keepClear (b v : Nat) (s : State) : State :=
  if bitOf v 0 then
    let s := s.each (List.range 16) fun s k =>
      let s := (s.set NMK_KEEP_NODE nmkPage 0 b k).set NMK_KEEP_COUNT nmkPage 0 b k
      (s.put NMK_KEEP_VALID nmkPage false b k).set NMK_KEEP_MS nmkPage 0 b k
    s.upBus b fun x => { x with kev := none }
  else s

/-- A write to CEIL as an access: while the page is held RESTART acts at once and the rest waits (R431). -/
def ceilWrite (s : State) (m : Master) (v : Nat) : State :=
  if s.flag H_STAT_HELD nmkPage && s.domOn 3 && bitOf v 17 then ceilReload (accessWrite s m nmkPage 0x40 (v % 2 ^ 17) fun _ => id)
  else accessWrite s m nmkPage 0x40 v ceilEff

/-! The meanings. -/

/-- CAN_WAKE_PATTERN (R413). -/
def execCanWakePattern (t : Nat) (s : State) : Host.Outcome State Fault Refusal := .next (swkPattern s t)

/-- SELECTIVE_WAKE_FRAME (R414). -/
def execSelectiveWakeFrame (t : Nat) (f : CanFrame) (s : State) : Host.Outcome State Fault Refusal :=
  .next (if s.swkArmed t then swkFrame s t f else s)

/-- SWK_FRAME_ERROR (R415). -/
def execSwkFrameError (t : Nat) (s : State) : Host.Outcome State Fault Refusal := .next (if s.swkArmed t then swkError s t else s)

/-- SWK_DECODER_TIMEOUT (R413): 0.6 to 1.2 s without bus activity. -/
def execSwkDecoderTimeout (t : Nat) (s : State) : Host.Outcome State Fault Refusal :=
  .next (if (s.xcv t).heard + 600000000 ≤ s.tb then s.upXcv t fun x => { x with armed := false } else s)

/-- FALSE_WAKE_WINDOW_END (R416). -/
def execFalseWakeWindowEnd (t : Nat) (s : State) : Host.Outcome State Fault Refusal :=
  match (s.xcv t).window with
  | some (a, ts) => .next (if a + s.get CTRX_FW_WINDOW ctrxPage t * 1000000 ≤ s.tb then fwCount s t ts else s)
  | none => .next s

/-- LIN_FALSE_WAKE_WINDOW_END (R417). -/
def execLinFalseWakeWindowEnd (l : Nat) (s : State) : Host.Outcome State Fault Refusal :=
  match s.nm.linWin.find? fun e => e.1 == l with
  | some (_, a) => .next (if a + s.get NMK_LIN_FW_WINDOW nmkPage * 1000000 ≤ s.tb then linFwCount s l else s)
  | none => .next s

/-- NM_MESSAGE (R419): a frame received, or sent from transmit slot `buf`. -/
def execNmMessage (b : Nat) (f : CanFrame) (buf : Option Nat) (s : State) : Host.Outcome State Fault Refusal :=
  if s.domOn 3 && s.isNm b f buf then
    let s := beforeCommit (nmMessage · b f buf.isSome) s
    .next (if b < 6 && s.flag CTRX_FW_NM_ONLY ctrxPage b then fwComm s b else s)
  else .next s

/-- NM_TIMEOUT (R421). -/
def execNmTimeout (b : Nat) (s : State) : Host.Outcome State Fault Refusal :=
  if s.domOn 3 && s.nmSt b = 2 && (s.bus b).timer ≤ s.tb then
    .next (((keepEnd s b).setNm b 3).upBus b fun x => { x with wbs := s.tb + s.get NMK_TIMING_WBS nmkPage b * 1000000 })
  else .next s

/-- WBS_EXPIRY (R421). -/
def execWbsExpiry (b : Nat) (s : State) : Host.Outcome State Fault Refusal :=
  .next (if s.domOn 3 && s.nmSt b = 3 && (s.bus b).wbs ≤ s.tb then (s.setNm b 4).irq nmkPage b else s)

/-- NEED_VOTE_WRITE (R420). -/
def execNeedVoteWrite (m : Master) (b : Nat) (v : Word) (s : State) : Host.Outcome State Fault Refusal :=
  .next (accessWrite s m nmkPage (0x114 + 0x40 * b) v.toNat (needWrite b))

/-- NM_CYCLE (R421). -/
def execNmCycle (b : Nat) (s : State) : Host.Outcome State Fault Refusal :=
  .next (if s.domOn 3 && s.nmSt b = 1 && (s.bus b).cycle ≤ s.tb then nmSend s b else s)

/-- NM_COMMIT (R423). -/
def execNmCommit (m : Master) (v : Word) (s : State) : Host.Outcome State Fault Refusal :=
  .next (accessWrite s m nmkPage 0x48 v.toNat fun _ s => doAct nmkPage (nmCommit v.toNat s))

/-- DEFER_LATCH (R425). -/
def execDeferLatch (t : Nat) (s : State) : Host.Outcome State Fault Refusal := .next (deferLatch s t)

/-- CEIL_EXPIRY (R429). -/
def execCeilExpiry (s : State) : Host.Outcome State Fault Refusal := .next (if s.domOn 3 then ceilExpire s else s)

/-- CEIL_RESTART (R429). -/
def execCeilRestart (m : Master) (s : State) : Host.Outcome State Fault Refusal :=
  .next (ceilWrite s m (plainRead s nmkPage 0x40 ||| 2 ^ 17))

/-- KEEP_CLR (R422). -/
def execKeepClr (m : Master) (b : Nat) (s : State) : Host.Outcome State Fault Refusal :=
  .next (accessWrite s m nmkPage (0x11C + 0x40 * b) 1 (keepClear b))

end Sys2Proof.Machine
end

