-- ==== Sys2Proof/Machine/Update.lean ====
section
/-! DEFINITION. Receiving an update (R546, R547), activation and changeover (R548 to R553). -/

namespace Sys2Proof.Machine

/-! Receiving an update. -/

/-- UPD.STATE: 0 IDLE, 1 RECEIVING, 2 MANIFEST_OK, 3 VERIFYING, 4 STAGED, 5 FAILED. -/
def State.updState (s : State) : Nat := s.get CNVM_UPD_STAT_STATE cnvmPage

/-- UPD.STATE changes; STAGED and FAILED raise an interrupt (R557). -/
def updGo (s : State) (n : Nat) : State :=
  let s := s.set CNVM_UPD_STAT_STATE cnvmPage n
  if n = 4 || n = 5 then s.irq cnvmPage 0 else s

/-- The update fails with error `e`. -/
def updFail (s : State) (e : Nat) : State := updGo (s.set CNVM_UPD_STAT_ERR cnvmPage e) 5

/-- The slot that an update writes (R543): the inactive one, or the one that UPD.SLOT chooses in recovery. -/
def State.updSlot (s : State) : Nat :=
  match s.boot.active with
  | some k => 1 - k
  | none => s.get CNVM_UPD_SLOT cnvmPage

/-- Forget what has been received. -/
def updForget (s : State) : State :=
  ((s.keccakDone 1).upBoot fun x => { x with got := [], bufs := [] }).set CNVM_UPD_STAT_RECEIVED cnvmPage 0

/-- Whether a slot is TRIAL or TRYING. -/
def State.onTrial (s : State) : Bool := (List.range 2).any fun k => s.slotState k == 2 || s.slotState k == 3

/-- UPD.CMD START (R547). -/
def updStart (s : State) : State :=
  if s.onTrial || s.changing || !s.accepts cnvmPage then s.reject cnvmPage
  else if s.updState = 0 || s.updState = 4 || s.updState = 5 then
    let s := updForget (putSlotState s s.updSlot 0)
    updGo (s.set CNVM_UPD_STAT_ERR cnvmPage 0) 1
  else s

/-- UPD.CMD FINISH (R547). -/
def updFinish (s : State) : State :=
  if s.updState != 2 then s
  else if (List.range (s.nblk s.updSlot)).all fun b => b < 10 || s.boot.got.contains b then updGo (s.keccakAsk 1) 3
  else updFail s 7

/-- UPD.CMD ABORT (R547). -/
def updAbort (s : State) : State :=
  if s.updState = 0 then s else updGo (updForget (putSlotState s s.updSlot 0)) 0

/-- A write to UPD (R543, R547, R557): SLOT takes effect in recovery alone, CMD from the host and the HK alone. -/
def updEff (m : Master) (v : Nat) (s : State) : State :=
  let s := if s.flag CNVM_BOOT_RECOVERY cnvmPage then s.set CNVM_UPD_SLOT cnvmPage (bitsOf v 8 1) else s
  if m != .hk && m.code != 12 then s
  else match v % 4 with
    | 1 => updStart s
    | 2 => updFinish s
    | 3 => updAbort s
    | _ => s

/-- The bytes of a full block buffer. -/
def BlkBuf.bytes (b : BlkBuf) : List Byte := (List.range 4).flatMap fun q => tget b.quarters q []

/-- The code NVM with block `b` of slot `k` programmed. -/
def program (s : State) (k b : Nat) (l : List Byte) : State :=
  let a := slotBase k + 4096 * b
  { s with cnvm := mputBytes s.cnvm 0xFF a l, eccBad := s.eccBad.filter fun e => !(e.1 == 5 && a ≤ e.2.2 && e.2.2 < a + 4096) }

/-- The slot as it will be once every block that has passed is programmed. -/
def State.settled (s : State) : State := (s.boot.bufs.filter (·.full)).foldl (fun s b => program s s.updSlot b.blk b.bytes) s

/-- Blocks 0 to 9 have arrived: the manifest is verified (R547). -/
def updManifest (s : State) : State :=
  if (List.range 10).all s.boot.got.contains then
    match s.settled.manifestError s.updSlot with
    | none => updGo s 2
    | some e => updFail s e
  else s

/-- A block that has passed its check counts as received (R546, R547). -/
def blockGot (s : State) (b : Nat) : State :=
  let s := s.upBoot fun x => { x with got := if x.got.contains b then x.got else b :: x.got }
  let s := s.set CNVM_UPD_STAT_RECEIVED cnvmPage s.boot.got.length
  if b < 10 then updManifest s else s

/-- The fourth quarter of a block has landed: the block is checked (R546, R547). Blocks of the manifest have no entry in the block
table (R541). -/
def blockCheck (s : State) (x : BlkBuf) : State :=
  let others := s.boot.bufs.filter fun y => y.blk != x.blk
  let good := x.blk < 10 || crc32c (x.bytes.map BitVec.toNat) == s.settled.cn s.updSlot (0x620 + 4 * x.blk) 4
  if good then (blockGot (s.upBoot fun y => { y with bufs := { x with full := true } :: others }) x.blk).answer .ok
  else
    let s := (s.upBoot fun y => { y with bufs := others }).set CNVM_UPD_STAT_BLK_BAD cnvmPage x.blk
    (s.irq cnvmPage 1).answer .refused

/-- Whether a quarter of block `b` may be received now (R546, R547, R553). -/
def State.takesBlock (s : State) (b : Nat) : Bool :=
  let st := s.updState
  b ≤ 2046 && !s.changing && ((st == 1 && b < 10) || (st == 2 && (b < 10 || b < s.settled.nblk s.updSlot)))

/-- A write of `l` at byte offset `a` of the image space (R546): a quarter of a block, or refused. -/
def imageWrite (s : State) (a : Nat) (l : List Word) : State :=
  let b := a / 4096
  if l.length != 256 || a % 1024 != 0 || !s.takesBlock b then s.answer .refused
  else
    let old := s.boot.bufs.find? fun x => x.blk == b && !x.full
    match old, decide (2 ≤ s.boot.bufs.length) with
    | none, true => s.answer .refused
    | _, _ =>
      let x : BlkBuf := old.getD { blk := b }
      let bytes := (l.flatMap fun w => leBytes w.toNat 4).map fun v => BitVec.ofNat 8 v
      let x := { x with quarters := tput x.quarters (a / 1024 % 4) [] bytes }
      let others := s.boot.bufs.filter fun y => y.blk != b || y.full
      let s := s.upBoot fun y => { y with bufs := x :: others }
      if x.quarters.length = 4 then blockCheck s x else s.answer .ok

/-- A block that has passed is programmed (R546). -/
def blockProgrammed (s : State) (b : Nat) : State :=
  match s.boot.bufs.find? fun x => x.blk == b && x.full with
  | some x => (program s s.updSlot b x.bytes).upBoot fun y => { y with bufs := y.bufs.filter fun z => z.blk != b || !z.full }
  | none => s

/-- The digests have been checked (R547): GEN of a recovery, which has no active slot, is a free value (log 3). -/
def digestDone (s : State) : State :=
  let s := s.keccakDone 1
  let t := s.settled
  let k := s.updSlot
  if t.digestsOk k then
    let (g, s) := match s.boot.active with
      | some a => ((s.slotGen a + 1) % 2 ^ 32, s)
      | none => s.fresh (2 ^ 32)
    updGo (putSlot s k 1 g) 4
  else updFail s 8

/-! Activation and changeover. -/

/-- CHG_STAT.STATE: 0 IDLE, 1 HELD, 2 SWITCHED, 3 HEALTH_WAIT. -/
def State.chg (s : State) : Nat := s.get CNVM_CHG_STAT_STATE cnvmPage

/-- The inactive slot (R538). -/
def State.inactive (s : State) : Option Nat := s.boot.active.map (1 - ·)

/-- CHG.CMD TRIAL_NEXT (R548). -/
def trialNext (s : State) : State :=
  match s.inactive with
  | some k => if s.slotState k = 1 && s.chg = 0 && s.accepts cnvmPage then putSlotState s k 2 else s
  | none => s

/-- The pages that HOLD_ALL holds (R549). -/
def State.holdPages (s : State) : List Nat :=
  (List.range 139).filter fun p => 0x10 ≤ p && p != wdgPage && p != cnvmPage && p != secPage && p != attPage && p != logPage &&
    s.pageOn p && !s.flag H_CTRL_HOLD p

/-- HOLD takes effect in page `p` (R69). -/
def holdSet (s : State) (p : Nat) : State := (s.put H_CTRL_HOLD p true).put H_STAT_HELD p true

/-- CHG.CMD HOLD_ALL (R549): the new slot is the active one from here on. -/
def holdAll (s : State) : State :=
  match s.inactive with
  | some k =>
    if s.slotState k = 1 && s.chg = 0 && s.accepts cnvmPage then
      let l := s.holdPages
      let s := (putSlotState s k 3).upBoot fun x => { x with active := some k, trying := true, holdFrom := s.tb, held := l }
      chgState ((cnvmShow s).each l holdSet) 1
    else s
  | none => s

/-- The slot that new components come from: the one on trial, otherwise the inactive one (R549). -/
def State.newSlot (s : State) : Option Nat := if s.boot.trying then s.boot.active else s.inactive

/-- RELOAD bit 0: the new HK component goes to the half not in use (R549). -/
def reloadHk (s : State) : State :=
  match s.newSlot with
  | some k =>
    (match s.coreComp k 0 with
    | some x => if s.compBlocksOk k x then loadIram s k 0 (1 - (s.cr 0).ibank) x else s.irq cnvmPage 1
    | none => s)
  | none => s

/-- RELOAD of core `c`: it stops and waits for its start; debug mode and its READY bit end (R549, R577). -/
def reloadAsk (s : State) (c : Nat) : State :=
  let s := (coreStop s c).upBoot fun x => { x with start := c :: x.start.filter (· != c) }
  let s := s.set MON_STAT_DEBUG monPage (clrBit (s.get MON_STAT_DEBUG monPage) c)
  s.set CNVM_CHG_READY cnvmPage (clrBit (s.get CNVM_CHG_READY cnvmPage) (c - 1))

/-- A write to CHG.RELOAD (R26, R549): by the HK alone. -/
def reloadEff (m : Master) (v : Nat) (s : State) : State :=
  if m != .hk then s
  else
    let s := if bitOf v 0 then reloadHk s else s
    s.each ((List.range 12).drop 1) fun s c => if bitOf v c then reloadAsk s c else s

/-- A write to CHG.READY (R549, R557). -/
def readyEff (v : Nat) (s : State) : State :=
  let old := s.get CNVM_CHG_READY cnvmPage
  let new := old ||| bitsOf v 1 11
  let s := s.set CNVM_CHG_READY cnvmPage new
  if old = new then s else s.irq cnvmPage 2

/-- CHG.CMD SWITCH (R549): IBANK flips and the HK goes on at CHG_ENTRY. This is a start of the HK under R9, in which the general registers
and the D-RAM stay as they are (log 68). -/
def chgSwitch (s : State) : State :=
  match s.boot.active with
  | some k =>
    if s.chg = 1 then
      match s.coreComp k 0 with
      | some x =>
        let h := (s.cr 0).flush
        let s := nvCoreStart (coreStart { s.wdgRestart with wdgAlt := false } 0 x.chgEntry) 0
        let s := s.setCr 0 { s.cr 0 with ibank := 1 - h.ibank, glob := h.glob, win := h.win, base := h.base }
        chgState (s.upBoot fun b => { b with measured := shake512 (s.cnBytes k 0 0x2620) }) 2
      | none => s
    else s
  | none => s

/-- CHG.CMD RELEASE_ALL (R549): the health window opens. -/
def releaseAll (s : State) : State :=
  if s.chg = 1 || s.chg = 2 then chgState ((releaseHeld s).upBoot fun x => { x with healthFrom := s.tb }) 3 else s

/-- The revocations of an image that becomes COMMITTED (R545). -/
def revoke (s : State) (v : Nat) : State :=
  { s with fuse := { s.fuse with
      root := (List.range 4).map fun r => if bitOf v r && s.rootState r == 1 then 2 else s.rootState r } }

/-- TB at which the health window ends (R550). -/
def State.healthEnd (s : State) : Nat := s.boot.healthFrom + 5000000000

/-- CHG.CMD HEALTH_OK (R545, R550); in the BCLK in which the window ends it counts (R553). -/
def healthOk (s : State) : State :=
  match s.boot.active with
  | some k =>
    if s.chg = 3 && s.tb ≤ s.healthEnd then
      let s := putSlotState (revoke s (s.cn k 0x13 1)) k 4
      let s := cnvmShow (s.upBoot fun x => { x with trying := false })
      chgState (((s.bump CNVM_CNT_CHANGEOVERS cnvmPage).logDev 37).irq cnvmPage 4) 0
    else s
  | none => s

/-- A write to CHG.CMD (R548 to R550): by the HK alone. -/
def chgCmdEff (m : Master) (v : Nat) (s : State) : State :=
  if m != .hk then s
  else match v % 16 with
    | 1 => trialNext s
    | 2 => holdAll s
    | 3 => chgSwitch s
    | 4 => releaseAll s
    | 5 => healthOk s
    | 6 => coreRestart s 5
    | _ => s

/-- The hold has lasted 150 ms (R550). -/
def holdExpire (s : State) : State :=
  if (s.chg = 1 || s.chg = 2) && s.boot.holdFrom + 150000000 ≤ s.tb then
    coreRestart (((releaseHeld s).put CNVM_CHG_STAT_HOLD_EXPIRED cnvmPage true).irq cnvmPage 3) 5
  else s

/-- The health window has ended (R550), once HEALTH_OK can no longer come in its last BCLK (R553). -/
def healthExpire (s : State) : State :=
  if s.chg = 3 && s.healthEnd < s.tb && !s.boot.due then coreRestart s 5 else s

/-- CHG_STAT.HOLD_MS (R557). -/
def State.holdMs (s : State) : Nat := if s.chg = 1 || s.chg = 2 then min ((s.tb - s.boot.holdFrom) / 1000000) 255 else 0

/-- CHG_STAT.HEALTH_LEFT (R557). -/
def State.healthLeft (s : State) : Nat := if s.chg = 3 then (s.healthEnd - s.tb + 999999) / 1000000 else 0

/-! The meanings. -/

/-- A write of `v` to UPD as an access. -/
def updAccess (s : State) (m : Master) (v : Nat) : State := accessWrite s m cnvmPage 0x50 v (updEff m)

/-- A write of `v` to CHG.CMD as an access. -/
def chgAccess (s : State) (m : Master) (v : Nat) : State := accessWrite s m cnvmPage 0x60 v (chgCmdEff m)

/-- UPD_START (R547). -/
def execUpdStart (m : Master) (slot : Bool) (s : State) : Host.Outcome State Fault Refusal := .next (updAccess s m (1 + 256 * b2n slot))

/-- UPD_FINISH (R547). -/
def execUpdFinish (m : Master) (slot : Bool) (s : State) : Host.Outcome State Fault Refusal := .next (updAccess s m (2 + 256 * b2n slot))

/-- UPD_ABORT (R547). -/
def execUpdAbort (m : Master) (slot : Bool) (s : State) : Host.Outcome State Fault Refusal := .next (updAccess s m (3 + 256 * b2n slot))

/-- IMAGE_QUARTER_WRITE (R546). -/
def execImageQuarterWrite (a : Nat) (l : List Word) (s : State) : Host.Outcome State Fault Refusal :=
  .next (if s.domOn 6 then imageWrite s a l else s)

/-- IMAGE_BLOCK_PROGRAMMED (R546). -/
def execImageBlockProgrammed (b : Nat) (s : State) : Host.Outcome State Fault Refusal :=
  .next (if s.domOn 6 then blockProgrammed s b else s)

/-- DIGEST_VERIFY_COMPLETE (R547). -/
def execDigestVerifyComplete (s : State) : Host.Outcome State Fault Refusal :=
  .next (if s.domOn 6 && s.updState = 3 && s.keccakAt 1 then digestDone s else s)

/-- CHG_TRIAL_NEXT (R548). -/
def execChgTrialNext (m : Master) (s : State) : Host.Outcome State Fault Refusal := .next (chgAccess s m 1)

/-- CHG_HOLD_ALL (R549). -/
def execChgHoldAll (m : Master) (s : State) : Host.Outcome State Fault Refusal := .next (chgAccess s m 2)

/-- CHG_SWITCH (R549). -/
def execChgSwitch (m : Master) (s : State) : Host.Outcome State Fault Refusal := .next (chgAccess s m 3)

/-- CHG_RELEASE_ALL (R549). -/
def execChgReleaseAll (m : Master) (s : State) : Host.Outcome State Fault Refusal := .next (chgAccess s m 4)

/-- CHG_HEALTH_OK (R550). -/
def execChgHealthOk (m : Master) (s : State) : Host.Outcome State Fault Refusal := .next (chgAccess s m 5)

/-- CHG_RESTART (R548). -/
def execChgRestart (m : Master) (s : State) : Host.Outcome State Fault Refusal := .next (chgAccess s m 6)

/-- CHG_RELOAD (R549). -/
def execChgReload (m : Master) (v : Nat) (s : State) : Host.Outcome State Fault Refusal :=
  .next (accessWrite s m cnvmPage 0x64 v (reloadEff m))

/-- CHG_READY (R549). -/
def execChgReady (m : Master) (v : Nat) (s : State) : Host.Outcome State Fault Refusal :=
  .next (accessWrite s m cnvmPage 0x68 v readyEff)

/-- CHG_HOLD_EXPIRY (R550). -/
def execChgHoldExpiry (s : State) : Host.Outcome State Fault Refusal := .next (holdExpire s)

/-- HEALTH_WINDOW_EXPIRY (R550). -/
def execHealthWindowExpiry (s : State) : Host.Outcome State Fault Refusal := .next (healthExpire s)

end Sys2Proof.Machine
end

