-- ==== Sys2Proof/Machine/Views.lean ====
section
/-! DEFINITION. What a read of a register returns (R4, R5, R61, R64): stored fields, values formed at the read, reads that
act on a queue, and the apertures of the message RAM (R354) and the EEPROM (R509). -/

namespace Sys2Proof.Machine

/-! The capability words (R60 to R62). -/

/-- The offsets of a field's instances. -/
def Fld.offs (f : Fld) : List Nat :=
  (List.range f.blk.n1).flatMap fun i => (List.range f.blk.n2).map fun j => f.pos i j

/-- Insert an offset into a rising list, once. -/
def insOff (x : Nat) (l : List Nat) : List Nat :=
  match l with
  | [] => [x]
  | a :: r => if x < a then x :: a :: r else if x = a then a :: r else a :: insOff x r

/-- The offsets of the kept registers of page `p`, rising (R61, R103). -/
def keptOffs (p : Nat) : List Nat :=
  if (pageDomain p).isNone then []
  else (((fieldsHDR ++ pageFields p).filter (·.kept)).flatMap Fld.offs).foldr insOff []

/-- The PID word (R60, R62). -/
def pidWord (p : Nat) : Nat := pageType p * 65536 + pageInstance p * 256 + (if p = 0 then 0xA1 else 1)

/-- The block-specific part of CAP: classes of channels and half-bridges, and the number of blocks of a page. -/
def capLow (p : Nat) : Nat :=
  match pageType p with
  | 0x10 => hsClass p
  | 0x13 => hbClass p
  | 0x17 => 16
  | 0x18 => 12
  | 0x33 => 4
  | _ => 0

/-- The CAP word (R61). -/
def capWord (p : Nat) : Nat := (keptOffs p).length * 2 ^ 24 + capLow p

/-! Values formed at the read. -/

/-- The channels whose page is `p`. -/
def pageChans (p : Nat) : List Nat :=
  if 0x10 ≤ p && p < 0x3E then [p - 0x10] else if p = 0x61 then (List.range 16).map (46 + ·)
  else if p = 0x62 || p = 0x63 then (List.range 12).map (62 + 12 * (p - 0x62) + ·) else []

/-- Bridges and valves of page `p`. -/
def pageBridges (p : Nat) : List Nat :=
  if 0x40 ≤ p && p < 0x54 then [p - 0x40] else if 0x54 ≤ p && p < 0x58 then [20 + (p - 0x54)] else []

/-- Whether the block of page `p` has reached its safe point (R67). -/
def State.drained (s : State) (p : Nat) : Bool :=
  match pageType p with
  | 0xB => s.host.run.isNone
  | 0x10 | 0x17 | 0x18 => (pageChans p).all (chIdle s)
  | 0x12 => !s.derated
  | 0x13 | 0x14 => (pageBridges p).all (brIdle s)
  | 0x15 => vIdle s (p - 0x58)
  | 0x1A => !s.scanOn
  | 0x1B => !s.flag LDC_STAT2_BUSY ldcPage
  | 0x1D => !s.anySlotBusy
  | 0x1F => s.get FER_RUN_MAP ferPage == 0
  | 0x30 => (s.canH (p - 0x70)).cur.isNone
  | 0x33 => (List.range 4).all fun i => (s.linH (4 * (p - 0x7A) + i)).cur.isNone
  | 0x35 => !(s.macH 0).sending
  | 0x36 => !(s.macH 1).sending && !s.flag MAC_MDIO_BUSY 0x7F
  | 0x3A => s.immo.run.isNone
  | 0x3C => s.nvm.run.isNone && !s.nvm.queue.any fun o => match o with | .direct _ _ _ | .prot _ | .pass _ _ _ | .tries _ => true | _ => false
  | 0x3D => (List.range 4).all (fun k => !s.flag REC_STAT_BUSY recPage k) && !s.flag REC_BUSY_SHADOW_SKIM recPage
  | 0x3E => !s.changing && !(1 ≤ s.updState && s.updState ≤ 3)
  | 0x40 => !s.flag ATT_STAT_BUSY attPage
  | _ => true

/-- STAT.IDLE as it reads (R64): EN is 0, no drain runs and no work is in flight, such as a page write or a limp-home channel that turns off. -/
def State.idle (s : State) (p : Nat) : Bool := s.flag H_STAT_IDLE p && s.drained p

/-- The gate's figures (R206). -/
def govView (s : State) : State :=
  let p := govPage
  let s' := if s.gate.begun then s.set GOV_SLOT_USED p (min (s.slotSum / 10) 65535) else s
  let s' := if s.gate.seen then s'.set GOV_SLOT_BUDGET p (min (s.bEff / 10) 65535) else s'
  let s' := (s'.set GOV_WITHHELD p (s.withheld / 10)).set GOV_QUEUE_LEN p (min s.gate.queue.length 255)
  (s'.set GOV_QUEUE_DOM_ACTIVE p s.ramping.length).put GOV_QUEUE_OV_HOLD p (s.flag SUP_STAT_VBAT_OV supPage)

/-- The wiring-energy figures of the selected channel (R193). -/
def caldView (s : State) : State :=
  let c := s.get CALD_WE_SEL caldPage
  (s.set CALD_WE_SUM caldPage (min (s.sW c) 65535)).set CALD_WE_LAST caldPage (min (s.ch c).weLast 65535)

/-- The pending lines of every core (R502). -/
def irqView (s : State) : State :=
  s.each (List.range 12) fun t c =>
    (t.set IRQ_PEND_LO irqPage (s.lines c) c).set IRQ_PEND_HI irqPage (s.lines c / 2 ^ 32) c

/-- The time left of the ceiling, in seconds rounded up (R429). -/
def State.ceilSeconds (s : State) : Nat :=
  let used := match s.nm.ceilFrom with | some t => s.tb - t | none => 0
  (s.nm.ceilLeft - used + 999999999) / 1000000000

/-- The microseconds left of a page write, an upper bound (R508, R537). -/
def State.writeLeft (s : State) : Nat :=
  if s.nvm.run.isSome then min ((s.nvm.start + 6000000 - s.tb + 999) / 1000) 65535 else 0

/-- Request bits of a CAN controller as they read (R4; log 88): TX_REQ while its slot is pending, TX_ABORT while a cancelled slot completes its
attempt. -/
def canView (s : State) (c : Nat) : State :=
  let p := canPage c
  let x := s.canH c
  (s.set CAN_TX_REQ p (s.get CAN_TX_PEND p)).set CAN_TX_ABORT p (match x.cur with | some b => if x.cancel then 2 ^ b else 0 | none => 0)

/-- The state in which every value of page `p` that is formed at the read stands in its field. -/
def State.live (s : State) (p : Nat) : State :=
  match pageType p with
  | 6 => (s.set TB_TB_LO tbPage s.tb).set TB_TB_HI tbPage (s.tb / 2 ^ 32)
  | 9 => irqView s
  | 0x11 => govView s
  | 0x12 => caldView s
  | 0x1A => s.put LED_SWAP_REQ p (s.flag LED_SWAP_PEND p)
  | 0x30 => canView ((s.set CAN_SCHED_STAT_CYCLE_TIME p (s.cycleTime (p - 0x70))).set CAN_GLOBAL_TIME p (s.globalTime (p - 0x70))) (p - 0x70)
  | 0x34 => s.set NMK_CEIL_STAT_LEFT p s.ceilSeconds
  | 0x37 => ((s.set NTIME_NT_LO p s.ntNow).set NTIME_NT_HI p (s.ntNow / 2 ^ 32)).set NTIME_HOLD_T p s.holdT
  | 0x3B => s.each (List.range 7) fun t d => t.set RING_SATSTAT_AGE p (s.satAge d) d
  | 0x3C => ((s.set NVM_PROT_BP p s.nvm.bp).set NVM_LOCK_LEFT_P6 p (s.lockLeft 6)).set NVM_LOCK_LEFT_P7 p (s.lockLeft 7)
  | 0x3D => (s.set REC_BUSY_SHADOW_LEFT p s.writeLeft).set REC_SKIM_POS p (s.cntValue 1794)
  | 0x3E => (s.set CNVM_CHG_STAT_HOLD_MS p s.holdMs).set CNVM_CHG_STAT_HEALTH_LEFT p s.healthLeft
  | 0x3F => (s.set SEC_LC_STATE p s.fuse.lc).set SEC_ROOT_STATE p s.rootWord
  | 0x40 =>
    let s := s.each (List.range 4) fun s i => s.set ATT_UID p (Config.uid i) i
    s.each (List.range 16) fun s i => s.set ATT_ID_PUB p (Config.idPub i) i
  | _ => s

/-- The word at offset `off` of page `p`, without any effect of reading it. -/
def State.word (s : State) (m : Master) (p off : Nat) : Nat :=
  if off = 0 then pidWord p
  else if off = 4 then capWord p
  else if off = 0xC then
    plainRead ((s.set H_STAT_DOMAIN_STATE p (match pageDomain p with | some n => s.order n | none => 0)).put H_STAT_IDLE p (s.idle p)) p off
  else if off < 0x40 then plainRead s p off
  else if p = nvmPage && off = 0x60 then s.pwStat m.code
  else plainRead (s.live p) p off

/-! Apertures. -/

/-- The page of MSG. -/
def msgPage : Nat := 0x79

/-- The word address in the message RAM that master `m` reaches at aperture offset `off` (R354). -/
def State.msgAt (s : State) (m : Master) (off : Nat) : Nat := (s.get MSG_WIN_BASE msgPage m.code * 512 + (off - 0x800) / 4) % 16384

/-- A read of the message RAM (R354, R583). -/
def msgRead (s : State) (m : Master) (off : Nat) : State :=
  let a := s.msgAt m off
  if s.isBad 3 0 (4 * a) then (eccUe s 3 0 (4 * a) false).answer .unmapped else s.answer .ok (s.msgGet a)

/-- A write of the message RAM (R354, R583). -/
def msgWrite (s : State) (m : Master) (off v : Nat) : State :=
  let a := s.msgAt m off
  if s.isBad 3 0 (4 * a) then (eccUe s 3 0 (4 * a) false).answer .unmapped else s.msgPut a v

/-- A read of the EEPROM (R509, R521). -/
def nvmRead (s : State) (m : Master) (off : Nat) : State :=
  let w := s.get NVM_WIN_BLOCK nvmPage m.code * 512 + (off - 0x800) / 4
  if s.mayRead (w / 16) m.code then
    let r := eeRead s w
    r.1.answer .ok r.2
  else s.answer .unmapped

/-! Reads. -/

/-- A read that acts on a queue: the state and the word. -/
def givePair (r : State × Nat) : State := r.1.answer .ok r.2

/-- A read of a register whose page can be reached. The voltage of a switch input is a free value each time (log 3). -/
def regRead (s : State) (m : Master) (p off : Nat) : State :=
  match pageType p with
  | 3 => if off = 0x70 then givePair (pwrReqRead s) else s.answer .ok (s.word m p off)
  | 0xA =>
    if 0x100 ≤ off && off < 0x300 && off % 16 = 4 then givePair (mboxPop s ((off - 0x100) / 16)) else s.answer .ok (s.word m p off)
  | 0x19 =>
    if p = 0x64 && off = 0x48 then givePair (swiEvtRead s) else s.answer .ok (s.word m p off)
  | 0x1B => if off = 0x4C then givePair (ldcDataRead s) else s.answer .ok (s.word m p off)
  | 0x32 => if 0x800 ≤ off then msgRead s m off else s.answer .ok (s.word m p off)
  | 0x3B => if off = 0x58 then givePair (fwdPop s) else s.answer .ok (s.word m p off)
  | 0x3C => if 0x800 ≤ off then nvmRead s m off else s.answer .ok (s.word m p off)
  | _ => s.answer .ok (s.word m p off)

/-- A register read by master `m` (R59, R75, R334, R514); in a clock freeze the bus stands still (R85). -/
def accessRead (s : State) (m : Master) (p off : Nat) : State :=
  if s.clk.frozen then s
  else if !pageUsed p then s.answer .unmapped
  else if !s.pageOn p then domainOffAccess (s.needPage p) m p off none
  else if p = nvmPage && s.macroBusy then nvWait s m off none
  else regRead (s.needPage p) m p off

end Sys2Proof.Machine
end

