-- ==== Sys2Proof/Machine/Registers.lean ====
section
/-! DEFINITION. What a write to each block-specific register does once it has passed the checks that all writes share: one
function per page kind, over the effects that the chapters give. -/

namespace Sys2Proof.Machine

/-- The actions of an ACT register, in bit order; one write counts one rejection at most (R65). -/
def acts (v : Nat) (l : List (Nat × (State → Acted))) (s : State) : Acted :=
  l.foldl (fun r a => if bitOf v a.1 then
    let x := a.2 r.1
    (x.1, r.2 || x.2) else r) (s, false)

/-! System pages. -/

/-- A write to PWR (R90, R93). -/
def pwrEff (m : Master) (off v : Nat) (s : State) : State :=
  if off < 0x70 then domainEff m ((off - 0x40) / 4) v false s else plainWrite s pwrPage off v

/-- A write to RIND.STAT: only the HK's has an effect (R105). -/
def rindEff (m : Master) (off v : Nat) (s : State) : State := if m = .hk then plainWrite s 3 off v else s

/-- A write to TB (R115, R117). -/
def tbEff (off v : Nat) (s : State) : State :=
  if off = 0x48 then incFracEff v s else if off = 0x4C then incIntEff v s else if off = 0x68 then tbActEff v s
  else plainWrite s tbPage off v

/-- A write to a compare page (R126, R127). -/
def cmpEff (p off v : Nat) (s : State) : State :=
  let g := 16 * (p - 6) + (off - 0x40) / 0x20
  let o := (off - 0x40) % 0x20
  if 0x240 ≤ off then s
  else if o = 0 then cmpLoEff g v s else if o = 4 then cmpHiEff g v s else if o = 8 then cmpCfgEff g v s
  else plainWrite s p off v

/-- A write to CASC (R131, R134). -/
def cascEff (off v : Nat) (s : State) : State :=
  if off < 0xC0 && off % 8 = 0 then cntEff ((off - 0x40) / 8) v s else plainWrite s cascPage off v

/-- A write to IRQ (R502). -/
def irqEff (off v : Nat) (s : State) : State :=
  let o := off % 0x20
  if 0x100 ≤ off && off < 0x280 && 0x10 ≤ o && o % 4 = 0 then
    softEff ((off - 0x100) / 0x20) (o < 0x18) (o % 8 = 4) v s
  else plainWrite s irqPage off v

/-- A write to MBOX (R504). -/
def mboxEff (off v : Nat) (s : State) : State :=
  if 0x100 ≤ off && off < 0x300 && off % 16 = 4 then mboxPush s ((off - 0x100) / 16) v else plainWrite s mboxPage off v

/-- A write to ECC (R585). -/
def eccEff (off v : Nat) (s : State) : State := if off = 0x70 then eccActEff v s else plainWrite s eccPage off v

/-- A write to CLK (R82). -/
def clkEff (off v : Nat) (s : State) : State := if off = 0x40 then clkCfgEff v s else plainWrite s clkPage off v

/-! Power stages. -/

/-- A write to ACT of channel `c` (R158 to R162): FUSE_RESET exists on HS channels, DIAG_NOW on HS and LS channels. -/
def chActEff (c v : Nat) (s : State) : State :=
  doAct (chPage c) (acts v ([(0, chTlClr c), (1, chUnlock c), (2, chRetryReset c)] ++ (if c < 46 then [(3, chFuseReset c)] else []) ++
    (if c < 62 then [(4, chDiagNow c)] else [])) s)

/-- A write to CFG of channel `c`: the checks of R318 and R340 come before those of R139. -/
def chCfgWrite (c off v : Nat) (s : State) : State :=
  let mode := c < 62 && v % 4 != s.rd (cMode c)
  let prof := c < 46 && bitsOf v 4 3 != s.get HS_CFG_PROFILE (chPage c)
  if (mode && (s.named c || s.ferOwns c)) || (prof && s.namedPreheat c) then s.reject (chPage c) else chCfgEff c off v s

/-- A write to a register of channel `c`, at offset `o` of its block: `cfg`, `out`, `pwm` and `act` are the offsets of these. -/
def chEff (c off o cfg out pwm act v : Nat) (s : State) : State :=
  if o = cfg then chCfgWrite c off v s else if o = out then chOutEff c v s else if o = act then chActEff c v s
  else
    let s := plainWrite s (chPage c) off v
    if o = pwm then s.showDuty c else s

/-- A write to an HS page (R137). -/
def hsEff (p off v : Nat) (s : State) : State := chEff (p - 0x10) off off 0x40 0x48 0x4C 0x70 v s

/-- A write to LSW (R170). -/
def lswEff (off v : Nat) (s : State) : State :=
  if 0x100 ≤ off && off < 0x500 then chEff (46 + (off - 0x100) / 0x40) off (off % 0x40) 0 4 8 0x24 v s
  else plainWrite s 0x61 off v

/-- A write to a FLD page (R285): page 0x62 holds the keepalive registers. -/
def fldEff (p off v : Nat) (s : State) : State :=
  if 0x100 ≤ off && off < 0x400 then chEff (62 + 12 * (p - 0x62) + (off - 0x100) / 0x40) off (off % 0x40) 0 4 0x1000 0x10 v s
  else if p = 0x62 && off = 0x40 then keepCfgEff v s
  else if p = 0x62 && off = 0x44 then keepEff v s
  else if p = 0x62 && off = 0x4C then (if bitOf v 0 then doAct p (keepResume s) else s)
  else plainWrite s p off v

/-- A write to GOV (R206). -/
def govEff (off v : Nat) (s : State) : State :=
  if off = 0x40 && bitsOf v 8 7 < bitsOf v 16 7 then s.reject govPage else plainWrite s govPage off v

/-- A write to CALD (R182, R193). -/
def caldEff (off v : Nat) (s : State) : State := if off = 0x44 then ambSetEff v s else plainWrite s caldPage off v

/-- A write to an HB page (R212). -/
def hbEff (p off v : Nat) (s : State) : State :=
  let b := p - 0x40
  if off = 0x40 && v % 2 != s.rd (bMode b) && s.named p then s.reject p
  else if off = 0x44 then pairCheck (plainWrite s p off v) b
  else if off = 0x4C then brOutEff b off v s
  else if off = 0x6C then doAct p (acts v [(0, brTlClr b), (1, brUnlock b), (2, brClear b)] s)
  else plainWrite s p off v

/-- A write to a GD page (R227). The offset that ACT.ZERO measures is a free value (log 3). -/
def gdEff (p off v : Nat) (s : State) : State :=
  let b := p - 0x40
  if off = 0x40 && v % 2 != s.rd (bMode b) && s.named p then s.reject p
  else if off = 0x5C then brOutEff b off v s
  else if off = 0x70 then
    let r := s.fresh 65536
    doAct p (acts v [(2, brClear b), (5, gdZero (p - 0x54) (sgn 16 r.1))] (if bitOf v 5 then r.2 else s))
  else plainWrite s p off v

/-- A write to a VLV page (R247, R264, R265, R318). -/
def vlvEff (p off v : Nat) (s : State) : State :=
  let n := p - 0x58
  if off = 0x40 && s.named p && (v % 4 != s.get VLV_CFG_MODE p || (s.flag VLV_CFG_AHD p && !bitOf v 2)) then s.reject p
  else if off = 0x44 then vOutEff n v s
  else if off = 0x74 then doAct p (acts v [(0, vTlClr n), (1, vUnlock n), (2, vClear n)] s)
  else vRegEff n off v s

/-- A write to VBK (R266). -/
def vbkEff (off v : Nat) (s : State) : State :=
  if 0x100 ≤ off && off < 0x180 && off % 0x20 = 0x14 then
    (if bitOf v 0 then doAct bankPage (bankClear ((off - 0x100) / 0x20) s) else s)
  else plainWrite s bankPage off v

/-- A write to RPE (R239, R240). -/
def rpeEff (off v : Nat) (s : State) : State :=
  if 0x800 ≤ off then profileEff ((off - 0x800) / 0x200) off v s
  else if 0x100 ≤ off && off < 0x300 then
    let g := (off - 0x100) / 0x80
    let o := off % 0x80
    if o = 0 then rpeCfgEff g off v s
    else if o = 0x10 then zoneEff off v s
    else if o = 0x28 then profileEff g off v s
    else if o = 0x30 then targetEff g v s
    else if o = 0x34 then
      let s := if bitOf v 0 then normNow g s else s
      if bitOf v 1 then s.normLost g 5 else s
    else plainWrite s rpePage off v
  else plainWrite s rpePage off v

/-! Inputs and lighting. -/

/-- A write to a SWI page (R296). -/
def swiEff (p off v : Nat) (s : State) : State := if p = swi0 && off = 0x44 then ssupEff v s else swiCfgEff p off v s

/-- A write to LED (R299, R300, R304). -/
def ledEff (off v : Nat) (s : State) : State :=
  if off = 0x58 then ledReq v s else if off = 0x64 then ledActEff v s else if 0x400 ≤ off then ledBufEff off v s
  else plainWrite s ledPage off v

/-- A write to LDC (R308, R309). -/
def ldcEff (off v : Nat) (s : State) : State :=
  if off = 0x40 then ldcCfgEff v s else if off = 0x4C then ldcDataWrite v s else plainWrite s ldcPage off v

/-! Act-ahead. -/

/-- A write to AHD (R313, R317, R336). Whether the devices that a slot names take their parts is a free value (log 3). -/
def ahdEff (m : Master) (off v : Nat) (s : State) : State :=
  let i := off / 0x40 - 1
  let o := off % 0x40
  if o = 0 then
    let r := s.fresh 128
    ctxEff m i v r.1 r.2
  else if 8 ≤ o && o ≤ 0x30 then slotRegEff m i off v s
  else plainWrite s ahdPage off v

/-- A write to FER (R345, R346). -/
def ferEff (off v : Nat) (s : State) : State :=
  if 0x80 ≤ off && off < 0x380 && off % 0x80 = 4 then ferCtrlEff ((off - 0x80) / 0x80) v s else plainWrite s ferPage off v

/-! Networks. -/

/-- Whether a register holds a kept field (R374). -/
def keptAt (p off : Nat) : Bool := (fieldsAt p off).any fun x => x.1.kept

/-- Whether no region of controller `c` passes word 0x3FFF (R356). -/
def State.regionsOk (s : State) (c : Nat) : Bool :=
  let p := canPage c
  let fits (base count words : Nat) : Bool := count == 0 || base + count * words ≤ 16384
  fits (s.get CAN_FILTERS_BASE p) (s.get CAN_FILTERS_COUNT p) 3 &&
    fits (s.get CAN_RXQ0_CFG_BASE p) (s.get CAN_RXQ0_CFG_DEPTH p) (4 + dsizeWords (s.get CAN_DSIZE_Q0 p)) &&
    fits (s.get CAN_RXQ1_CFG_BASE p) (s.get CAN_RXQ1_CFG_DEPTH p) (4 + dsizeWords (s.get CAN_DSIZE_Q1 p)) &&
    fits (s.get CAN_RXSLOT_BASE p) (s.get CAN_RXSLOT_COUNT p) (4 + dsizeWords (s.get CAN_DSIZE_RXSLOT p)) &&
    fits (s.get CAN_TXSLOT_BASE p) (s.get CAN_TXSLOT_COUNT p) (2 + dsizeWords (s.get CAN_DSIZE_TXSLOT p)) &&
    (4 ≤ c || fits (s.get CAN_TRIGLIST_BASE p) (s.get CAN_TRIGLIST_COUNT p) 2)

/-- Whether the timing registers of controller `c` may stand together (R353): no field is 0, and TDC_EN needs FAST_PRESC 1 or 2. -/
def State.timingOk (s : State) (c off : Nat) : Bool :=
  let p := canPage c
  (off != 0x4C || s.get CAN_SCALE_TDC_MIN p != 0) && (!s.flag CAN_FAST_TIMING_TDC_EN p || s.get CAN_SCALE_FAST_PRESC p ≤ 2)

/-- A write to a configuration register of controller `c` (R353, R356, R374). -/
def canCfgEff (c off v : Nat) (s : State) : State :=
  let p := canPage c
  let t := plainWrite s p off v
  if (off != 0x54 && !s.idle p) || !t.regionsOk c || ((off = 0x48 || off = 0x4C) && !t.timingOk c off) then s.reject p
  else t

/-- A write to a CAN page (R361, R364, R368, R369, R374). -/
def canEff (p off v : Nat) (s : State) : State :=
  let c := p - 0x70
  if off = 0x8C then canReq s c v else if off = 0x90 then canAbort s c v
  else if off = 0x64 || off = 0x70 then doAct p (rxRelease c (if off = 0x64 then 0 else 1) v s)
  else if off = 0xB4 then (if bitOf v 0 then doAct p (txtsPop c s) else s)
  else if off = 0x100 && 4 ≤ c then (if bitOf v 0 then s.reject p else s)
  else if off = 0x110 && c < 4 then schedEff c v s
  else if keptAt p off then canCfgEff c off v s
  else plainWrite s p off v

/-- A write to CTRX (R350, R415, R418). -/
def ctrxEff (off v : Nat) (s : State) : State :=
  if 0x100 ≤ off && off < 0x280 then
    let t := (off - 0x100) / 0x40
    if off % 0x40 = 0 then ctrxModeEff t v s else if off % 0x40 = 0x18 then swkCtrlEff t v s else plainWrite s ctrxPage off v
  else plainWrite s ctrxPage off v

/-- A write to MSG (R354, R375). -/
def msgEff (m : Master) (off v : Nat) (s : State) : State := if 0x800 ≤ off then msgWrite s m off v else plainWrite s msgPage off v

/-- A write to a LIN page (R384, R392). -/
def linEff (p off v : Nat) (s : State) : State :=
  if 0x400 ≤ off then linRamEff p off v s
  else if 0x100 ≤ off && off < 0x300 && off % 0x80 = 0xC then linCmdEff (4 * (p - 0x7A) + (off - 0x100) / 0x80) v s
  else plainWrite s p off v

/-- A write to NMK (R423, R426, R429, R430). -/
def nmkEff (off v : Nat) (s : State) : State :=
  let b := (off - 0x100) / 0x40
  if off = 0x40 then ceilEff v s
  else if off = 0x48 then doAct nmkPage (nmCommit v s)
  else if 0x100 ≤ off && off < 0x300 then
    if off % 0x40 = 0 then nmCfgEff b v s else if off % 0x40 = 0x14 then needWrite b v s
    else if off % 0x40 = 0x1C then keepClear b v s else plainWrite s nmkPage off v
  else plainWrite s nmkPage off v

/-- A write to a MAC page (R395, R397, R399). -/
def macEff (p off v : Nat) (s : State) : State :=
  let k := p - 0x7E
  if !macRegOk k off v then s.reject p
  else if off = 0xA0 then macKick k v s
  else if k = 1 && off = 0x104 then mdioEff v s
  else if off = 0x40 then macGo (plainWrite s p off v) k
  else plainWrite s p off v

/-- A write to NTIME (R403, R406, R411). -/
def ntEff (off v : Nat) (s : State) : State :=
  if off = 0x40 then ntCfgEff v s else if off = 0x44 then ntCfg2Eff v s else if off = 0x54 then sampleEff v s
  else if off = 0x78 then doAct ntPage (ntAccept (v % 4) s) else plainWrite s ntPage off v

/-- A write to WAKE (R108, R425). -/
def wakeEff (off v : Nat) (s : State) : State :=
  if off = 0x44 then (if bitOf v 31 then causeClear s else s) else if off = 0x5C then deferEff v s else plainWrite s wakePage off v

/-- A write to ACC (R435, R447, R453). -/
def accEff (off v : Nat) (s : State) : State :=
  if off = 0x48 then accFaultEff v s else if off = 0x4C then accActEff v s else if off = 0x54 then pollEff v s
  else plainWrite s accPage off v

/-- A write to IMMO (R444, R450, R454): KEYS is the SE's alone. -/
def immoEff (m : Master) (off v : Nat) (s : State) : State :=
  if off = 0x44 && m != .se then s.reject immoPage
  else if off = 0x4C then immoCmdEff v s else if off = 0xA4 then verdictEff m v s else if off = 0xAC then relEff m v s
  else plainWrite s immoPage off v

/-- A write to RING (R459, R474). -/
def ringEff (off v : Nat) (s : State) : State := if off = 0x40 then ringCfgEff v s else plainWrite s ringPage off v

/-! Non-volatile memory, security and the log. -/

/-- A write to NVM (R509 to R520, R536). -/
def nvmEff (m : Master) (off v : Nat) (s : State) : State :=
  if 0x800 ≤ off then s.reject nvmPage
  else if off = 0x48 then wcmdEff m v s
  else if off = 0x4C then wbufRel m v s
  else if off = 0x50 then protEff v s
  else if off = 0x54 then s.upNvm fun x => { x with pwLo := v }
  else if off = 0x58 then s.upNvm fun x => { x with pwHi := v }
  else if off = 0x5C then pwCmdEff m v s
  else if 0x100 ≤ off && off < 0x140 then wbufEff m off v s
  else plainWrite s nvmPage off v

/-- A write to REC (R530, R537). -/
def recEff (m : Master) (off v : Nat) (s : State) : State :=
  if 0x100 ≤ off && off < 0x300 && off % 0x80 = 0 then recCmdEff m ((off - 0x100) / 0x80) v s else plainWrite s recPage off v

/-- A write to CNVM (R547 to R551, R557). -/
def cnvmEff (m : Master) (off v : Nat) (s : State) : State :=
  if off = 0x50 then updEff m v s else if off = 0x60 then chgCmdEff m v s else if off = 0x64 then reloadEff m v s
  else if off = 0x68 then readyEff v s else plainWrite s cnvmPage off v

/-- A write to SEC (R545, R558). -/
def secEff (m : Master) (off v : Nat) (s : State) : State :=
  if off = 0x48 then rootEffFree m v s else if 0x80 ≤ off && off < 0xC0 then keybufEff ((off - 0x80) / 4) v s
  else plainWrite s secPage off v

/-- A write to ATT (R556, R559). -/
def attPageEff (m : Master) (off v : Nat) (s : State) : State := if off = 0x40 then attEff m v s else plainWrite s attPage off v

/-- A write to LOG (R588, R589). -/
def logEff (off v : Nat) (s : State) : State :=
  if 0x400 ≤ off && off < 0x400 + 4 * 741 then deltaEff off v s else plainWrite s logPage off v

/-- What a write to a block-specific register of page `p` does; the watchdog's is `wdgEff`. -/
def blockEff (m : Master) (p off v : Nat) (s : State) : State :=
  match pageType p with
  | 2 => clkEff off v s | 3 => pwrEff m off v s | 4 => rindEff m off v s | 6 => tbEff off v s | 7 => cmpEff p off v s
  | 8 => cascEff off v s | 9 => irqEff off v s | 0xA => mboxEff off v s | 0xD => eccEff off v s
  | 0x10 => hsEff p off v s | 0x11 => govEff off v s | 0x12 => caldEff off v s | 0x13 => hbEff p off v s | 0x14 => gdEff p off v s
  | 0x15 => vlvEff p off v s | 0x16 => vbkEff off v s | 0x17 => lswEff off v s | 0x18 => fldEff p off v s
  | 0x19 => swiEff p off v s | 0x1A => ledEff off v s | 0x1B => ldcEff off v s | 0x1D => ahdEff m off v s
  | 0x1F => ferEff off v s | 0x20 => rpeEff off v s | 0x30 => canEff p off v s | 0x31 => ctrxEff off v s
  | 0x32 => msgEff m off v s | 0x33 => linEff p off v s | 0x34 => nmkEff off v s | 0x35 => macEff p off v s | 0x36 => macEff p off v s
  | 0x37 => ntEff off v s | 0x38 => wakeEff off v s | 0x39 => accEff off v s | 0x3A => immoEff m off v s | 0x3B => ringEff off v s
  | 0x3C => nvmEff m off v s | 0x3D => recEff m off v s | 0x3E => cnvmEff m off v s | 0x3F => secEff m off v s
  | 0x40 => attPageEff m off v s | 0x41 => logEff off v s
  | _ => plainWrite s p off v

end Sys2Proof.Machine
end

