-- ==== Sys2Proof/Machine/Rind.lean ====
section
/-! DEFINITION. The rind (R7, R101 to R105): what a domain saves when it goes off and what a power-up from off restores. -/

namespace Sys2Proof.Machine

/-- The page of RIND. -/
def rindPage : Nat := 3

/-- Byte offset of a domain's region (R101). -/
def rindBase (n : Nat) : Nat :=
  [0x100, 0x200, 0x400, 0x600, 0xE00, 0xF00, 0x1100, 0x1200, 0x2200, 0x2A00, 0x2E00, 0x3000].getD n 0x3000

/-- The pages of domain `n`, rising (R60). -/
def domPages (n : Nat) : List Nat := (List.range 139).filter fun p => pageDomain p == some n

/-- The kept registers of domain `n` in the order of R103. -/
def keptPlaces (n : Nat) : List (Nat × Nat) := (domPages n).flatMap fun p => (keptOffs p).map fun o => (p, o)

/-- The kept fields at offset `off` of page `p`. -/
def keptFields (p off : Nat) : List (Fld × Nat × Nat) := (fieldsAt p off).filter fun x => x.1.kept

/-- The word that the rind keeps of a register: its kept fields, all else 0 (R7; log 17). -/
def State.keptWord (s : State) (x : Nat × Nat) : Nat :=
  ((keptFields x.1 x.2).map fun f => s.get f.1 x.1 f.2.1 f.2.2 <<< f.1.lo).sum

/-- The kept fields of a register take a word's bits. -/
def keptPut (s : State) (x : Nat × Nat) (v : Nat) : State :=
  (keptFields x.1 x.2).foldl (fun s f => s.set f.1 x.1 (f.1.of v) f.2.1 f.2.2) s

/-- The descriptor of a region of `n` words (R103). -/
def rindDesc (n : Nat) : Nat := 2 ^ 31 + n

/-- Word `i` of the rind, by byte offset. -/
def State.rindWord (s : State) (a : Nat) : Nat := mgetN s.rind 0 a 4

/-- Store a word of the rind. -/
def rindPut (s : State) (a v : Nat) : State := { s with rind := mputN s.rind 0 a 4 v }

/-- The codewords of `n` bytes from `a` are written whole and hold no error any more. -/
def rindClean (s : State) (a n : Nat) : State :=
  { s with eccBad := s.eccBad.filter fun e => !(e.1 == 4 && a ≤ e.2.2 && e.2.2 < a + n) }

/-- VALID of region `n` and of its directory entry clears (R103, R104). -/
def rindInvalid (s : State) (n : Nat) : State :=
  let d := s.rindWord (rindBase n) % 2 ^ 31
  rindPut (rindPut s (rindBase n) d) (4 * n) d

/-- Domain `n` goes off: its kept registers go to its region (R97, R103). -/
def rindSave (s : State) (n : Nat) : State :=
  let ws := (keptPlaces n).map s.keptWord
  let l := rindDesc ws.length :: ws
  let c := crc32c (l.flatMap fun w => leBytes w 4)
  let b := rindBase n
  let s := (l ++ [c]).zipIdx.foldl (fun s x => rindPut s (b + 4 * x.2) x.1) s
  rindClean (rindPut s (4 * n) (rindDesc ws.length)) b (4 * (ws.length + 2))

/-- Whether region `n` can be restored (R104). -/
def State.rindOk (s : State) (n : Nat) : Bool :=
  let k := (keptPlaces n).length
  let b := rindBase n
  let l := (List.range (k + 1)).map fun i => s.rindWord (b + 4 * i)
  s.rindWord b == rindDesc k && s.rindWord (b + 4 * (k + 1)) == crc32c (l.flatMap fun w => leBytes w 4) &&
    !s.eccBad.any fun e => e.1 == 4 && b / 8 * 8 ≤ e.2.2 && e.2.2 < b + 4 * (k + 2)

/-- A block whose EN has been restored is not idle (R64). -/
def showIdle (s : State) (n : Nat) : State := s.each (domPages n) fun s p => s.put H_STAT_IDLE p (!s.flag H_CTRL_EN p)

/-- A power-up of domain `n` from off: its region is restored whole, or not at all, which sets BAD; either way it is valid no
more (R104). The flag tells whether it was restored. -/
def rindRestore (s : State) (n : Nat) : State × Bool :=
  let ok := s.rindOk n
  let b := rindBase n
  let bad := s.get RIND_STAT_BAD rindPage
  let s := s.set RIND_STAT_BAD rindPage (if ok then clrBit bad n else setBit bad n)
  let s := if ok then
      showIdle ((keptPlaces n).zipIdx.foldl (fun s x => keptPut s x.1 (s.rindWord (b + 4 * (x.2 + 1)))) s) n
    else s
  (rindInvalid s n, ok)

/-- A full reset invalidates every region, and the software area with it (R105). -/
def rindReset (s : State) : State :=
  let s := s.each (List.range 12) rindInvalid
  (s.set RIND_STAT_BAD rindPage 0).put RIND_STAT_SW_VALID rindPage false

/-! The meanings. -/

/-- RIND_SW_VALID_WRITE (R105). -/
def execRindSwValidWrite (m : Master) (s : State) : Host.Outcome State Fault Refusal :=
  .next (accessWrite s m rindPage 0x40 (2 ^ 12) fun _ s => if m = .hk then plainWrite s rindPage 0x40 (2 ^ 12) else s)

end Sys2Proof.Machine
end

