-- ==== Sys2Proof/Machine/Lifecycle.lean ====
section
/-! DEFINITION. What leaving on, an entry into off, and a return to on do to the blocks of a domain (R24, R25, R97, R98, R205), and the
first power-up after a reset (R54, R595). -/

namespace Sys2Proof.Machine

/-! Leaving on. -/

/-- Fields that the always-on islands hold for pages of switched domains (R296, R383, R417, R453, R586). -/
def aonKey (k : Nat) : Bool :=
  swiAonKey k || linAonKey k || accAonKey k || (keyPage k == nmkPage && (keyOff k == 0x4C || (0x80 ≤ keyOff k && keyOff k < 0xB0))) ||
    (keyPage k == logPage && 0x400 ≤ keyOff k)

/-- What ends when domain `n` leaves on, into retention or off. -/
def leaveOn (s : State) (n : Nat) : State :=
  let s := s.each (domPages n) relock
  match n with
  | 0 => s.put MON_STAT_OPEN monPage false
  | 3 => ([0x7A, 0x7B, 0x7C].foldl linDrain (ntPark (ceilCount s)))
  | 7 => s.each (List.range 62) fun s c => s.upCh c fun x =>
      { x with wasOn := s.chFlows c, limpOn := s.limpHolds c && conducting (s.chSt c) }
  | 9 => parkBegin s
  | 10 => (skimPause s).upNvm fun x => { x with opens := [] }
  | _ => s

/-- The memories of a core that goes off hold nothing any more (log 8). -/
def ramLost (s : State) (c : Nat) : State :=
  { s with dram := tdel s.dram c, iram := tdel s.iram c, eccBad := s.eccBad.filter fun e => !(e.1 < 2 && e.2.1 == c) }

/-- The hidden state that goes with domain `n`; the power stages keep their thermal latches, and AON-P the channels it holds. -/
def hiddenLost (s : State) (n : Nat) : State :=
  let s := s.each (coresOf n) fun s c => ramLost (coreStop s c) c
  let chans (s : State) (l : List Nat) : State := s.each l fun s c =>
    s.upCh c fun x => { latch := x.latch, limpOn := x.limpOn, limpTrip := x.limpTrip, wasOn := x.wasOn, droopLow := x.droopLow }
  match n with
  | 0 => { s with mon := {} }
  | 3 =>
    let s := s.each (List.range 12) fun s l => s.upLin l fun x => { toOff := x.toOff }
    { s with can := [], msgRam := [], nmBus := [], nt := {}, eccBad := s.eccBad.filter (·.1 != 3),
             nm := { watchEnd := s.nm.watchEnd, watchCan := s.nm.watchCan, watchLin := s.nm.watchLin, linWin := s.nm.linWin,
                     localDue := s.nm.localDue } }
  | 4 => { s.keccakDone 2 with att := {} }
  | 5 => { s with mac := [], host := {} }
  | 6 => { updForget s with sram := [], mbox := [], eccBad := s.eccBad.filter (·.1 != 2) }
  | 7 =>
    let q := s.gate.queue.filter fun e => match e.req with | .dom _ => true | _ => false
    chans { s with gate := { queue := q, slot := s.gate.slot, pumpOn := s.gate.pumpOn, pumpAsked := s.gate.pumpOn }, cald := {}, fer := [], slots := [], preps := [], woken := [] } (List.range 62)
  | 8 =>
    let s := s.each (List.range 24) fun s b => s.upBr b fun x => { latch := x.latch }
    let s := s.each (List.range 8) fun s v => s.upVlv v fun x => { latch := x.latch }
    { s.each (List.range 4) fun s k => s.upBk k fun x => { latch := x.latch } with
      rpe := [], gate := { s.gate with pumpOn := false, pumpAsked := false } }
  | 9 => chans { s with fio := [], keep := {}, led := { hot := s.led.hot, dark := s.led.hot }, ldc := {}, ldcRam := [] } ((List.range 24).map (62 + ·))
  | 10 => s.upNvm fun x => { x with pwLo := 0, pwHi := 0 }
  | 11 => { s with immo := {}, lf := { latch := s.lf.latch, hot := s.lf.hot, pollNext := s.lf.pollNext, standTb := s.lf.standTb } }
  | _ => s

/-- Domain `n` is off: every register of its pages but the always-on fields reads its reset value again, its shadows are gone. -/
def clearDomain (s : State) (n : Nat) : State :=
  let s := hiddenLost s n
  { s.clearRegs fun k => pageDomain (keyPage k) == some n && !aonKey k with shadow := s.shadow.filter fun e => pageDomain e.1 != some n }

/-! Enabling a block (R66). -/

/-- The block of page `p` starts. -/
def enableHook (s : State) (p : Nat) : State :=
  match pageType p with
  | 0x10 | 0x17 | 0x18 => s.each (pageChans p) chEnable
  | 0x14 => pumpCheck s (p - 0x54)
  | 0x19 => s.each ((List.range 16).map (16 * (p - 0x64) + ·)) swiBegin
  | 0x1A => ledStart s
  | 0x1B => s.put LDC_STAT2_VERIFY_VALID ldcPage false
  | 0x30 => canEnable s (p - 0x70)
  | 0x33 => linEnable s p
  | 0x37 => ntInc s
  | 0x3B => ringEnable s
  | _ => s

/-- The blocks of domain `n` that the rind has enabled again start; bridges and valves wait for a write to OUT (log 18). -/
def enableAll (s : State) (n : Nat) : State :=
  s.each ((domPages n).filter fun p => s.flag H_CTRL_EN p) enableHook

/-! Channels at a return of PD_OUT or PD_FLD (R173, R205). -/

/-- Whether bit `b` of the kept FAULT word of channel `c` is set: 7 CLAMP_LOCK, 8 FUSE, 9 RETRY_EXH. -/
def State.keptFault (s : State) (c b : Nat) : Bool := s.cf (if b = 7 then cfClamp c else if b = 8 then cfFuse c else cfRetry c)

/-- A channel that AON-P has held on goes on in LIMP, without the gate; one that a LIMPn input maps otherwise asks for its start. -/
def chLimpReturn (s : State) (c : Nat) : State :=
  if c < 62 then
    let s := s.wr (cLimp c) (b2n (s.limpHolds c))
    if (s.ch c).limpOn || (s.limpHolds c && conducting (s.chSt c)) then
      ((s.upCh c fun x => { x with limpOn := false, onFrom := s.tb }).setSt c stLimp).loadPeriod c
    else if s.limpHolds c && s.chSt c = stOff then s.goQueued c .limp else s
  else s

/-- A channel's state after a power-up from off (R205): THERMAL, LOCKED with its kept causes, or OFF. With both a latch and a kept lock it is
LOCKED with TL_HOLD (log 85). -/
def chReturn (s : State) (c : Nat) : State :=
  let x := s.ch c
  let lc := s.keptFault c 7
  let lf := c < 46 && s.keptFault c 8
  let lr := s.keptFault c 9
  let s := s.wr (cRetries c) (s.rd (cRetryMax c))
  let s := s.upCh c fun y => { y with lockClamp := lc, lockFuse := lf, lockRetry := lr }
  let s := if c < 46 then s.upCh c fun y => { y with wire := sgn 16 (s.rd (cWireT c)) * 65536 } else s
  if lc || lf || lr then (s.wr (cState c) stLocked).wr (cTlHold c) (b2n x.latch)
  else if x.latch then (s.wr (cState c) stThermal).wr (cTlHold c) 1
  else s

/-- A channel's return from retention: what the stage did meanwhile is taken over (R12, R49). -/
def chResume (s : State) (c : Nat) : State :=
  let s := if (s.ch c).latch && !s.cf (cTlHold c) then chLatchSet (s.upCh c fun x => { x with latch := false }) c else s
  let s := if (s.ch c).pendTrip then
      let s := s.upCh c fun x => { x with pendTrip := false }
      if conducting (s.chSt c) then chTrip s c (cfFast c) 0 2 else s
    else s
  let s := if (s.ch c).pendOff then (s.upCh c fun x => { x with pendOff := false }).afterOff c else s
  chLimpReturn s c

/-- Factory trims of a page's TRIM and TRIM_BAND (R165): trim points `lo` and `hi` in 10 mA; an invalid record sets TRIM_BAD. -/
def trimLoad (s : State) (u : Nat) (gain offset bandLo bandHi bad : Loc) (lo hi : Nat) : State :=
  match Config.factoryTrim u ((mgetBytes s.eeprom 0xFF (64 * 1280) 4096).map BitVec.toNat) with
  | some (g, o) => (((s.wr gain g).wr offset o).wr bandLo lo).wr bandHi hi
  | none => s.wr bad 1

/-- The trims of every channel of domain `n` (R165): power stages 0 to 61 channels, 62 to 81 half-bridges, 82 to 89 valves. -/
def trimAll (s : State) (n : Nat) : State :=
  if n = 7 then
    s.each (List.range 62) fun s c =>
      let k := if c < 46 then chClass c else 3
      trimLoad s c (cGain c) (cOffset c) (cBandLo c) (cBandHi c) (cTrimBad c) ([25, 10, 2, 2].getD k 2) ([1200, 400, 100, 50].getD k 50)
  else if n = 8 then
    let s := s.each (List.range 20) fun s b =>
      let p := brPage b
      trimLoad s (62 + b) (HB_TRIM_GAIN.loc p) (HB_TRIM_OFFSET.loc p) (HB_TRIM_BAND_LO.loc p) (HB_TRIM_BAND_HI.loc p)
        (HB_CHSTAT_TRIM_BAD.loc p) (if hbClass p = 0 then 10 else 2) (if hbClass p = 0 then 600 else 100)
    s.each (List.range 8) fun s v =>
      let p := vPage v
      trimLoad s (82 + v) (VLV_TRIM_GAIN.loc p) (VLV_TRIM_OFFSET.loc p) (VLV_TRIM_BAND_LO.loc p) (VLV_TRIM_BAND_HI.loc p)
        (VLV_CHSTAT_TRIM_BAD.loc p) 5 250
  else s

/-- TRIM_BAD of restored trims: bands that stand at their reset value were never loaded (R165). -/
def trimMark (s : State) (n : Nat) : State :=
  if n = 7 then s.each (List.range 62) fun s c => if s.rd (cBandHi c) = 0 then s.wr (cTrimBad c) 1 else s
  else if n = 8 then
    let s := s.each (List.range 20) fun s b =>
      if s.get HB_TRIM_BAND_HI (brPage b) = 0 then s.put HB_CHSTAT_TRIM_BAD (brPage b) true else s
    s.each (List.range 8) fun s v => if s.get VLV_TRIM_BAND_HI (vPage v) = 0 then s.put VLV_CHSTAT_TRIM_BAD (vPage v) true else s
  else s

/-- Buckets of domain `n` decay over `dt` ns of TB with the 2 s constant (R175, R176). -/
def bucketGap (s : State) (n dt : Nat) : State :=
  decayBuckets s (fun k => k == n || (n == 7 && s.domOn k)) (expNeg (dt * 1048576 / 2000000000)) 1073741824

/-- Thermal latches that bridges, valves and banks still hold at PD_MVC's power-up from off (log 18). -/
def mvcLatches (s : State) : State :=
  let s := s.each (List.range 20) fun s b =>
    if s.brLatched b then (s.wr (bState b) bsThermal).put HB_CHSTAT_TL_HOLD (brPage b) (s.br b).latch else s
  s.each (List.range 8) fun s v =>
    if s.vLatched v then (s.set VLV_CHSTAT_STATE (vPage v) vsThermal).put VLV_CHSTAT_TL_HOLD (vPage v) (s.vlv v).latch else s

/-! Return to on. -/

/-- What every return of domain `n` to on does, from retention or off. -/
def comeOn (s : State) (n : Nat) : State :=
  match n with
  | 0 => (s.set MON_BAUD monPage 115200).wdgRestart
  | 3 => (nmReturn (voteAll (s.each (List.range 8) nmStart))).each (List.range 8) canArb
  | 5 => s.each [0, 1] macGo
  | 7 => pumpAgain s
  | 6 => cnvmShow s
  | 9 => ((parkEnd s).each (List.range 24) fun s p => s.upPin p fun x => { x with runFrom := some s.tb }).feed.put LDC_STAT2_VERIFY_VALID ldcPage false
  | 10 => (nvReplay s).upNvm fun x => { x with skimFrom := some s.tb }
  | 4 => immoServe s
  | 11 =>
    let s := pollSends s
    if s.flag ACC_LF_AUTOTUNE accPage then lfTune s else s
  | _ => s

/-- Whether channel `c` conducted both when PD_OUT left on and at its return (R181). -/
def State.conductedThrough (s : State) (c : Nat) : Bool := (s.ch c).wasOn && s.chFlows c

/-- PD_OUT returns from retention after `dt` ns (R176, R181). -/
def outResume (s : State) (dt : Nat) : State :=
  let s := (bucketGap s 7 dt).each (List.range 62) chResume
  let s := s.each (List.range 46) fun s c => if s.conductedThrough c then s.upCh c fun x => { x with gapI := some x.lastI } else s
  { s with cald := { s.cald with gap := some dt, estTb := s.tb } }

/-- PD_OUT returns from off, its region restored or not; it left on at TB `gone` (R165, R176, R181, R182, R187, R205). -/
def outReturn (s : State) (ok : Bool) (gone : Nat) : State :=
  let off := s.get CALD_OFF_TS_LO caldPage + 2 ^ 32 * s.get CALD_OFF_TS_HI caldPage
  let s := if ok then trimMark (bucketGap s 7 (s.tb - gone)) 7 else trimAll s 7
  let full := if ok then (if s.tb - off < 1062500000 then off + 1062500000 else 0) else s.tb + 1062500000
  let s : State := { s with cald := { ambTb := s.tb, weFullUntil := full, firstEst := !ok, gap := if ok then some (s.tb - gone) else none,
                                      estTb := s.tb, auxI := s.cald.auxI, ringI := s.cald.ringI } }
  let s := s.each (List.range 62) fun s c => chLimpReturn (chReturn s c) c
  if ok then s.each (List.range 46) fun s c => if s.conductedThrough c then s.upCh c fun x => { x with steady := true } else s else s

/-- Domain `n` returns from off: its region comes back or its cold rules apply (R24, R25, R98, R104). -/
def fromOff (s : State) (n : Nat) : State :=
  let gone := (s.getDom n).since
  let r := rindRestore s n
  let s := r.1
  let s := match n with
    | 0 => s.upBoot fun x => { x with due := true }
    | 3 => if s.flag NMK_CEIL_EN nmkPage then ceilReload s else s
    | 7 => outReturn s r.2 gone
    | 8 =>
      let s := pairShow (if r.2 then trimMark (bucketGap s 8 (s.tb - gone)) 8 else trimAll s 8)
      mvcLatches (s.each (List.range 8) coilCold)
    | 9 => (if r.2 then bucketGap s 9 (s.tb - gone) else s).each ((List.range 24).map (62 + ·)) chReturn
    | _ => s
  let s := if n = 0 then s else s.upBoot fun x => { x with start := x.start ++ (coresOf n).filter fun c => !x.start.contains c }
  enableAll (comeOn s n) n

/-- Domain `n` returns from retention. -/
def fromRetention (s : State) (n : Nat) : State :=
  let gone := (s.getDom n).since
  let s := match n with
    | 7 => outResume s (s.tb - gone)
    | 8 => bucketGap s 8 (s.tb - gone)
    | 9 => (bucketGap s 9 (s.tb - gone)).each ((List.range 24).map (62 + ·)) chResume
    | _ => s
  comeOn s n

/-- The domains come on for the first time after a power-up or a full reset (R54, R595): registers stand at their reset values, trims
load, cold rules apply, AON-P's channels go on in LIMP, and RING_MASTER is sampled (R33). A wake that defer mode had recorded is
accepted (R425). -/
def coldStart (s : State) : State :=
  let s : State := { s with sup := { s.sup with cold := false } }
  let s := s.put RING_STAT_ROLE ringPage s.sup.strapMaster
  let s := (trimAll (trimAll s 7) 8).each (List.range 8) coilCold
  let s : State := { s with cald := { ambTb := s.tb, estTb := s.tb } }
  let s := mvcLatches (s.each (List.range 62) fun s c => chLimpReturn (chReturn s c) c)
  let s := s.each ((List.range 24).map (62 + ·)) chReturn
  let s := (s.each [3, 6, 9, 10, 11] comeOn).wdgRestart
  if s.flag WAKE_DEFER_PEND wakePage then deferEnd s else s

end Sys2Proof.Machine
end

