-- ==== Sys2Proof/Machine/Reset.lean ====
section
/-! DEFINITION. Full resets (R53, R54, R594, R595) and total power losses (R36, R38). -/

namespace Sys2Proof.Machine

/-- Pages of the always-on islands that a full reset returns to their reset values as a whole (R594). -/
def resetPages : List Nat := [0x02, 0x06, 0x07, 0x08, 0x09, 0x0A, 0x0B, 0x6B, 0x84]

/-- Fields of other always-on pages, and of pages of switched domains, that a full reset returns to their reset values (R594): WDG.EXPIRIES,
CTRX.MODE and its false-wake fields, WAKE.SRC_EN, ACTION and WAKE_OUT, TB.INC, LIN TRX.MODE and NMK.LINFWl. -/
def resetField (k : Nat) : Bool :=
  let p := keyPage k
  let o := keyOff k
  let t := o % 0x40
  (p == wdgPage && o == 0x48 && keyBit k == 0) ||
    (p == ctrxPage && 0x100 ≤ o && o < 0x280 && (t == 0 || t == 0x2C || t == 0x30 || t == 0x34)) ||
    (p == wakePage && (o == 0x40 || o == 0x54 || o == 0x58)) || (p == tbPage && (o == 0x48 || o == 0x4C)) ||
    (linAonKey k && keyBit k == 0) || (p == nmkPage && 0x80 ≤ o && o < 0xB0)

/-- What still lands of an operation whose page write `w` has started: its bytes, or the hidden row that it writes (R53). -/
def landing (w : NvWrite) (o : Option NvOp) : NvOp :=
  match o with
  | some (.prot v) => .prot v
  | some (.tries part) => .tries part
  | some (.pass part kind v) => .pass part kind v
  | some (.direct _ _ _) => .direct w.page w.off w.data
  | _ => .tail w.page w.off w.data

/-- The EEPROM macro at a full reset: a page write that has started completes, queued operations are lost (R53). -/
def nvReset (s : State) : State :=
  let s := lockoutAgain (skimPause s)
  s.upNvm fun x =>
    { x with queue := match x.run with | some w => [landing w (x.queue.head?)] | none => []
             stage := 0, result := none, cutOff := none, waitFrom := none, opens := [], pwLo := 0, pwHi := 0 }

/-- Every switched domain goes off and loses its registers (R595). -/
def allOff (s : State) : State :=
  s.each (List.range 12) fun s n =>
    let s := if (s.getDom n).actual == .on then leaveOn s n else s
    (clearDomain s n).setDom n { actual := .off, target := .off, since := s.tb }

/-- The state of the always-on islands at a full reset (R594). -/
def aonReset (s : State) : State :=
  let s := (s.each ((List.range 139).filter pageUsed) relock).clearRegs fun k => resetPages.contains (keyPage k) || resetField k
  let s : State := { s with reqs := [], stall := [], gate := {}, cald := {}, cmp := [], casc := [], soft := [], ring := {}, nm := {},
                            wdgAlt := false, shadow := s.shadow.filter fun e => !resetPages.contains e.1 }
  let s := s.each (List.range 6) fun s t => ctrxShow (s.upXcv t fun x => { x with window := none }) t
  let s := (accReset s).put WAKE_DEFER_ACTIVE wakePage false
  trimDrop (incApply s)

/-- The clocks stop as in park (R595). -/
def clocksStop (s : State) : State :=
  let s := (s.put CLK_STAT_PLL_STOPPED clkPage true).put CLK_STAT_PLL_LOCK clkPage false
  holdBegin { s with clk := { s.clk with frozen := false, restarting := false } }

/-- A full reset begins with cause `cause`; one that lasts already keeps its first cause (R55). -/
def fullResetBegin (s : State) (cause : Nat) : State :=
  if s.sup.inReset then s
  else
    let s := s.set SUP_STAT_LAST_RESET supPage cause
    let s : State := { s with sup := { s.sup with inReset := true } }
    let s := nvReset (aonReset (allOff (rindReset s)))
    let s := s.each (List.range 12) fun s n => s.putDom n (s.getDom n)
    (clocksStop s).upBoot fun x => { x with due := false, start := [], got := [], bufs := [], held := [], keccak := [] }

/-- Whether nothing holds the full reset any more (R54, R112): after a watchdog's, RESET_N has to be high too. -/
def State.resetMayEnd (s : State) : Bool :=
  !s.sup.uv && !s.sup.rst && !s.wdgReset && (s.get SUP_STAT_LAST_RESET supPage != 3 || s.sup.lowSince.isNone)

/-- The full reset ends: every domain comes on at its reset values, the clocks start, and the HK and the other cores wait for their
start (R54, R595). -/
def fullResetEnd (s : State) : State :=
  if s.sup.inReset && s.resetMayEnd then
    let s : State := { s with sup := { s.sup with inReset := false, cold := true }, clk := { s.clk with restarting := true } }
    let s := s.each (List.range 12) fun s n => s.putDom n { since := s.tb }
    s.upBoot fun x => { x with due := true, start := (List.range 12).drop 1 }
  else s

/-- A total power loss (R36): what only the EEPROM, the code NVM and the fuses hold survives, with the pins' levels. -/
def powerLoss (s : State) : State :=
  let s := match s.nvm.run with
    | some _ =>
      let (f, s) := s.fresh 2
      nvTear s (f == 1)
    | none => s
  let s := statusTear s
  { State.reset with
    eeprom := s.eeprom, torn := s.torn, cnvm := s.cnvm, fuse := s.fuse, free := s.free, pending := s.pending
    eccBad := s.eccBad.filter (·.1 == 5), nvm := { bp := s.nvm.bp, p6 := s.nvm.p6, p7 := s.nvm.p7 }
    sup := { alive := false, strapMaster := s.sup.strapMaster, lowSince := s.sup.lowSince.map fun _ => 0, limpPin := s.sup.limpPin } }

/-! The meanings. -/

/-- The stages that a reversed battery turns on (R38): HS00 to HS21. -/
def revShow (s : State) : State := s.each (List.range 22) fun s c => s.upCh c fun x => { x with revOn := s.sup.reversed }

/-- RESET_N_FALL (R50). -/
def execResetNFall (s : State) : Host.Outcome State Fault Refusal :=
  .next { s with sup := { s.sup with lowSince := some (s.sup.lowSince.getD s.tb) } }

/-- The low time that a rise of RESET_N ends (R50): ignored below 1 µs, a core restart below 10 ms, else a full reset. -/
def resetLow (s : State) (dt : Nat) : State :=
  if dt < 1000 || s.sup.inReset then s
  else if dt < 10000000 then (coreRestart s 4).put SUP_STAT_CORE_RESTART supPage true
  else fullResetBegin s 1

/-- RESET_N_RISE (R50 to R52, R54). -/
def execResetNRise (s : State) : Host.Outcome State Fault Refusal :=
  match s.sup.lowSince with
  | none => .next s
  | some t =>
    let was := s.sup.rst
    let s : State := { s with sup := { s.sup with lowSince := none, rst := false } }
    .next (if s.sup.alive then fullResetEnd (if was then s else resetLow s (s.tb - t)) else s)

/-- RESET_N_LONG_LOW (R50): the low time reaches 10 ms. -/
def execResetNLongLow (s : State) : Host.Outcome State Fault Refusal :=
  match s.sup.lowSince with
  | none => .next s
  | some t =>
    .next (if t + 10000000 ≤ s.tb && s.sup.alive then fullResetBegin { s with sup := { s.sup with rst := true } } 1 else s)

/-- UNDERVOLTAGE (R36, R516): a page write in progress is torn in a phase that no rule fixes (log 3). -/
def execUndervoltage (s : State) : Host.Outcome State Fault Refusal :=
  if s.sup.uv || !s.sup.alive then .next s
  else
    let (f, s) := s.fresh 2
    .next (fullResetBegin (nvTear { s with sup := { s.sup with uv := true } } (f == 1)) 2)

/-- TOTAL_POWER_LOSS (R36). -/
def execTotalPowerLoss (s : State) : Host.Outcome State Fault Refusal := .next (if s.sup.alive then powerLoss s else s)

/-- POWER_UP (R36, R54): VBAT rises through the power-on threshold; `strap` is the level of RING_MASTER (R33). -/
def execPowerUp (strap : Bool) (s : State) : Host.Outcome State Fault Refusal :=
  let s : State := { s with sup := { s.sup with strapMaster := strap } }
  .next (if s.sup.alive then fullResetEnd { s with sup := { s.sup with uv := false } }
    else lockoutAgain (revShow { s with sup := { s.sup with alive := true, reversed := false } }))

/-- REVERSE_BATTERY (R38): reversed, the logic is unpowered, HS00 to HS21 turn fully on and every other stage is off. -/
def execReverseBattery (reversed : Bool) (s : State) : Host.Outcome State Fault Refusal :=
  let s := if reversed && s.sup.alive then powerLoss s else s
  .next (revShow { s with sup := { s.sup with reversed := reversed } })

end Sys2Proof.Machine
end

