-- ==== Sys2Proof/Machine/Watchdog.lean ====
section
/-! DEFINITION. The watchdog (R110 to R112). Its RC is ±10 % off: within that tolerance of TB its points are free, and the expiry is an
event that comes no earlier than it can (log 89). -/

namespace Sys2Proof.Machine

/-- An expiry: EXPIRIES counts, and a core restart or the full reset of ESCALATE follows (R112). -/
def wdgExpire (s : State) : State :=
  let s := s.bump WDG_STAT_EXPIRIES wdgPage
  let e := s.get WDG_CFG_ESCALATE wdgPage
  if e != 0 && s.get WDG_STAT_EXPIRIES wdgPage = e then
    fullResetBegin { s.set WDG_STAT_LAST wdgPage 2 with wdgReset := true } 3
  else coreRestart (s.set WDG_STAT_LAST wdgPage 1) 3

/-- The value that the next valid kick writes (R111). -/
def State.kickValue (s : State) : Nat := if s.wdgAlt then 0x3CA5 else 0xC35A

/-- The WINDOW point in ns of the watchdog's RC. -/
def State.kickPoint (s : State) : Nat := s.get WDG_CFG_WINDOW wdgPage * s.wdgMs * 250000

/-- Whether a kick may lie before or after the WINDOW point, the RC being up to 10 % off. -/
def State.kickOpen (s : State) : Bool := 9 * s.kickPoint ≤ 10 * s.wdgElapsed && 10 * s.wdgElapsed < 11 * s.kickPoint

/-- Whether a kick is early; `free` decides where the RC's tolerance leaves it open. -/
def State.kickEarly (s : State) (free : Bool) : Bool := if s.kickOpen then free else 10 * s.wdgElapsed < 9 * s.kickPoint

/-- A write of KICK (R111): a valid kick clears EXPIRIES and restarts the count, any other acts as an expiry. -/
def kickEff (m : Master) (v : Nat) (free : Bool) (s : State) : State :=
  if m = .hk && v = s.kickValue && !s.kickEarly free then
    { (s.set WDG_STAT_EXPIRIES wdgPage 0).wdgRestart with wdgAlt := !s.wdgAlt }
  else wdgExpire (s.put WDG_STAT_BAD_KICK wdgPage true)

/-- A write of KICK through the bus (log 3). -/
def kickFree (m : Master) (v : Nat) (s : State) : State :=
  if s.kickOpen then
    let (e, s) := s.fresh 2
    kickEff m v (e == 1) s
  else kickEff m v false s

/-- A write to WDG. -/
def wdgEff (m : Master) (off v : Nat) (s : State) : State := if off = 0x44 then kickFree m v s else plainWrite s wdgPage off v

/-! The meanings. -/

/-- WDG_KICK (R111): `early` decides where the RC's tolerance leaves it open. -/
def execWdgKick (m : Master) (v : Word) (early : Bool) (s : State) : Host.Outcome State Fault Refusal :=
  .next (accessWrite s m wdgPage 0x44 v.toNat fun v => kickEff m v early)

/-- Whether the count can have come to its end, at the earliest 10 % before TIMEOUT. -/
def State.wdgCanExpire (s : State) : Bool := 900000 * s.wdgMs ≤ s.wdgElapsed

/-- WDG_EXPIRY (R111, R112, R577): the count runs while PD_HK is on and the monitor does not hold the HK. -/
def execWdgExpiry (s : State) : Host.Outcome State Fault Refusal :=
  .next (if s.sup.alive && s.domOn 0 && s.wdgPause.isNone && s.wdgCanExpire then wdgExpire s else s)

/-- WDG_FULL_RESET_END (R112): the reset lasts on while RESET_N is low or VBAT too low. -/
def execWdgFullResetEnd (s : State) : Host.Outcome State Fault Refusal :=
  .next (if s.wdgReset then fullResetEnd { s with wdgReset := false } else s)

end Sys2Proof.Machine
end

