-- ==== Sys2Proof/Machine/Header.lean ====
section
/-! DEFINITION. The register header of every page (R61 to R74): enable and drain, soft reset, hold, interrupt registers and locks; and
what a write that reaches its page does (`regEff`). -/

namespace Sys2Proof.Machine

/-! Drains (R66, R67). -/

/-- A drain of page `p` begins. -/
def drainHook (s : State) (p : Nat) : State :=
  match pageType p with
  | 0x10 | 0x17 | 0x18 => s.each (pageChans p) chDrain
  | 0x13 => s.each (pageBridges p) brDrain
  | 0x14 => pumpCheck (s.each (pageBridges p) brDrain) (p - 0x54)
  | 0x15 => vDrain s (p - 0x58)
  | 0x1A => ledStop (s.withdraw .led)
  | 0x1D => aheadDrain s
  | 0x1F => ferDrain s
  | 0x30 => canDrain s (p - 0x70)
  | 0x33 => linDrain s p
  | 0x35 | 0x36 => macDrain s (p - 0x7E)
  | 0x37 => ntDrain s
  | 0x39 => accDrain s
  | 0x3A => immoDrain s
  | 0x3B => ringDrain s
  | 0x3D => recDrain s
  | 0x40 => attDrain s
  | _ => s

/-- The block of page `p` starts with EN at 1. -/
def blockStart (s : State) (p : Nat) : State := enableHook (s.put H_STAT_IDLE p false) p

/-- A write gives EN the value `en` (R66). -/
def enWrite (s : State) (p : Nat) (en : Bool) : State :=
  let draining := s.flag H_STAT_DRAINING p
  if s.flag H_CTRL_EN p = en then s
  else
    let s := s.put H_CTRL_EN p en
    if draining then s else if en then blockStart s p else drainHook (s.put H_STAT_DRAINING p true) p

/-- The drain of page `p` ends; with EN stored meanwhile the block starts again (R66). -/
def drainEnd (s : State) (p : Nat) : State :=
  if s.flag H_STAT_DRAINING p && s.drained p then
    let s := (s.put H_STAT_DRAINING p false).put H_STAT_IDLE p true
    if s.flag H_CTRL_EN p then blockStart s p else s
  else s

/-! Soft reset (R68). -/

/-- Fields that show live status, or that only their own event writes, and that a soft reset therefore leaves. -/
def liveKey (k : Nat) : Bool :=
  let p := keyPage k
  let o := keyOff k
  let b := keyBit k
  (p == clkPage && o == 0x44 && (b < 2 || b == 4 || b == 5)) || (p == pwrPage && o < 0x70 && b == 4) || (p == rindPage && b == 12) ||
    (p == supPage && ((o == 0x40 && (b < 2 || b == 4 || b == 8)) || o == 0x44)) || (p == tbPage && o == 0x58 && (b == 0 || b == 2)) ||
    (p == irqPage && k == (IRQ_CORESTAT_HALTED.loc irqPage).key) || (p == ringPage && k == (RING_STAT_ROLE.loc ringPage).key) ||
    (p == wakePage && o == 0x5C && b == 0) || (p == monPage && o == 0x44) || swiAonKey k

/-- Whether a soft reset of page `p` returns the field to its reset value. -/
def srstKey (p k : Nat) : Bool := keyPage k == p && (0x40 ≤ keyOff k || keyOff k == 0x10 || keyOff k == 0x28) && !liveKey k

/-- The thermal latch that a bridge keeps through a soft reset shows again. -/
def brSrst (s : State) (b : Nat) : State :=
  let s := s.upBr b fun x => { latch := x.latch }
  if (s.br b).latch then (s.wr (bState b) bsThermal).wr (bTlHold b) 1 else s

/-- The hidden state of page `p` at a soft reset: latches of power stages stay, and so do memories; `limp` lists the channels that stood in LIMP. -/
def srstHook (s : State) (p : Nat) (limp : List Nat) : State :=
  match pageType p with
  | 2 => clkCfgTake 4 (s.flag CLK_CFG_REF_SEL clkPage) s
  | 3 => { s with reqs := [] }
  | 6 => trimDrop (incApply { s with tbHid := { s.tbHid with unc := 0 } })
  | 7 => { s with cmp := s.cmp.filter fun e => e.1 / 16 != p - 6 }
  | 8 => { s with casc := [] }
  | 9 => { s with soft := [] }
  | 0xA => { s with mbox := [] }
  | 0xB => { s with host := {} }
  | 0x10 | 0x17 => s.each (pageChans p) fun s c => chSrst s c (limp.contains c)
  | 0x13 | 0x14 => pairShow (s.each (pageBridges p) brSrst)
  | 0x15 => vSrst s (p - 0x58)
  | 0x16 => s.each (List.range 4) fun s k => (s.upBk k fun x => { latch := x.latch, token := x.token }).showBank k
  | 0x18 => { (s.each (pageChans p) fun s c => chSrst s c false).each (pageChans p) (fun s c => s.upPin (c - 62) fun _ => {}) with
              keep := if p = 0x62 then {} else s.keep }
  | 0x19 => s.each ((List.range 16).map (16 * (p - 0x64) + ·)) fun s n => s.upSw n fun x => { parkCnt := x.parkCnt, parkUp := x.parkUp, parkDown := x.parkDown }
  | 0x1A => { s with led := { hot := s.led.hot, dark := s.led.hot } }
  | 0x1B => { s with ldc := {} }
  | 0x1D => { s with slots := [], preps := [], woken := [] }
  | 0x1F => { s with fer := [] }
  | 0x20 => { s with rpe := [] }
  | 0x30 => s.upCan (p - 0x70) fun _ => {}
  | 0x31 => s.each (List.range 6) fun s t => ctrxShow (s.upXcv t fun x => { x with window := none }) t
  | 0x33 => s.each (List.range 4) fun s i => s.upLin (4 * (p - 0x7A) + i) fun x => { toOff := x.toOff }
  | 0x34 => voteAll (({ s with nmBus := [], nm := { watchEnd := s.nm.watchEnd, watchCan := s.nm.watchCan, watchLin := s.nm.watchLin } } : State).each (List.range 8) nmStart)
  | 0x35 | 0x36 => s.upMac (p - 0x7E) fun _ => {}
  | 0x37 => { s with nt := {} }
  | 0x39 => { s with lf := { latch := s.lf.latch, hot := s.lf.hot, standTb := s.tb } }
  | 0x3A => { s with immo := {} }
  | 0x3B => { s with ring := {} }
  | 0x3C => s.upNvm fun x => { x with pwLo := 0, pwHi := 0 }
  | 0x3E => cnvmShow (updForget s)
  | 0x40 => { s.keccakDone 2 with att := {} }
  | _ => s

/-- A soft reset of page `p` (R68): HOLD, IRQ_EN, IRQ_ROUTE and the lock stay as they are. -/
def softReset (s : State) (p : Nat) : State :=
  let limp := (pageChans p).filter fun c => s.chSt c == stLimp
  if p = clkPage then (srstHook s p limp).clearRegs (srstKey p) else srstHook (s.clearRegs (srstKey p)) p limp

/-! CTRL (R63, R65, R69). -/

/-- Whether a write of CTRL is rejected as a whole: the gate cannot be disabled (R206), and the EMAC needs its reference clock (R394). -/
def State.ctrlBarred (s : State) (p : Nat) (en : Bool) : Bool :=
  (p == govPage && !en) || (p == 0x7F && en && !s.flag H_CTRL_EN p && !s.flag CLK_CFG_REFCLK_OUT clkPage)

/-- HOLD takes the other value `h` (R69, R70). -/
def holdWrite (s : State) (p : Nat) (h : Bool) : State := if h then holdSet s p else holdClear s p

/-- A write to CTRL: soft reset first, then EN, then HOLD; what is refused counts once. -/
def ctrlEff (m : Master) (p v : Nat) (s : State) : State :=
  let en := bitOf v 0
  let srst := bitOf v 1
  let hold := bitOf v 2
  if s.ctrlBarred p en then s.reject p
  else
    let badSrst := srst && (p == govPage || !s.idle p)
    let newHold := hold != s.flag H_CTRL_HOLD p
    let badHold := newHold && m.code != 0 && m.code != 12
    let s := if badSrst || badHold then s.reject p else s
    let s := if srst && !badSrst then softReset s p else s
    let s := enWrite s p en
    if newHold && !badHold then holdWrite s p hold else s

/-! Every register. -/

/-- A write to a header register. -/
def headerEff (m : Master) (p off v : Nat) (s : State) : State :=
  if off = 0x08 then ctrlEff m p v s
  else if off = 0x18 then s.risen p (s.set H_IRQ_RAW p (s.get H_IRQ_RAW p ||| v))
  else if off = 0x20 then lockKey s m p v
  else s.risen p (plainWrite s p off v)

/-- What a write that has passed the checks of its page does. -/
def regEff (m : Master) (p off v : Nat) (s : State) : State :=
  if off < 0x40 then headerEff m p off v s else if p = wdgPage then wdgEff m off v s else blockEff m p off v s

/-- The shadow of page `p` is applied in write order, then HELD clears (R70). -/
def shadowApply (s : State) (p : Nat) : State :=
  let l := tget s.shadow p []
  let s : State := { s with shadow := tdel s.shadow p }
  let s := l.foldl (fun s e => checkedWrite s p e.off e.val (regEff (Master.ofCode e.master) p e.off)) s
  s.put H_STAT_HELD p false

end Sys2Proof.Machine
end

