-- ==== Sys2Proof/Machine/Bus.lean ====
section
/-! DEFINITION. The register bus: what an access to an I/O address does (R57, R59, R75, R78), and the header's commands. -/

namespace Sys2Proof.Machine

/-- The pages of power stages. -/
def stagePage (p : Nat) : Bool := 0x10 ≤ p && p < 0x64 && p != govPage && p != caldPage

/-- The state an access to page `p` meets: commits due at an output go ahead of it (R17). -/
def State.busAt (s : State) (p : Nat) : State := if stagePage p then s.commitsFirst else s

/-- What a register write does once the commits due are out. -/
def regPut (s : State) (m : Master) (p off v : Nat) : State :=
  if p = nvmPage && s.pageOn p then nvmWrite s m off v (regEff m p off)
  else if p = ahdPage && 0x40 ≤ off && off % 0x40 = 0 then
    let (d, s) := s.fresh 128
    ctxWrite s m (off / 0x40 - 1) v d
  else if p = nmkPage && off = 0x40 then ceilWrite s m v
  else accessWrite s m p off v (regEff m p off)

/-- A register write by master `m`. -/
def regWrite (s : State) (m : Master) (p off v : Nat) : State := regPut (s.busAt p) m p off v

/-- A register read or write by master `m`. -/
def regAccess (s : State) (m : Master) (p off : Nat) (w : Option Nat) : State :=
  match w with
  | some v => regWrite s m p off v
  | none => accessRead s m p off

/-- An access to I/O address `a`: a local page, a satellite window, whose answer `kind` and `ans` give, or nothing. -/
def ioAccess (s : State) (m : Master) (a : Nat) (w : Option Nat) (kind ans : Nat) : State :=
  if a % 4 != 0 then s.answer .misaligned
  else if a < 0xA0000 then regAccess s m (a / 4096) (a % 4096) w
  else if 0x1100000 ≤ a && a < 0x1800000 && a % 0x100000 < 0xA0000 then
    windowAccess s m (a / 0x100000 - 0x11) (a % 0x100000 / 4096) (a % 4096) w kind ans
  else s.answer .unmapped

/-! The meanings. -/

/-- REGISTER_WRITE (R4). -/
def execRegisterWrite (m : Master) (page off : Nat) (v : Word) (s : State) : Host.Outcome State Fault Refusal :=
  .next (regWrite s m page off v.toNat)

/-- A write of CTRL of page `p` with EN, SRST and HOLD as `f` gives them for the state that the access meets. -/
def ctrlWrite (s : State) (m : Master) (p : Nat) (f : State → Bool × Bool × Bool) : State :=
  let b := s.busAt p
  regPut b m p 0x08 (b2n (f b).1 + 2 * b2n (f b).2.1 + 4 * b2n (f b).2.2)

/-- CTRL_EN_CLEAR (R66): HOLD keeps its value. -/
def execCtrlEnClear (m : Master) (page : Nat) (s : State) : Host.Outcome State Fault Refusal :=
  .next (ctrlWrite s m page fun b => (false, false, b.flag H_CTRL_HOLD page))

/-- CTRL_EN_SET (R66). -/
def execCtrlEnSet (m : Master) (page : Nat) (s : State) : Host.Outcome State Fault Refusal :=
  .next (ctrlWrite s m page fun b => (true, false, b.flag H_CTRL_HOLD page))

/-- CTRL_SRST (R68). -/
def execCtrlSrst (m : Master) (page : Nat) (s : State) : Host.Outcome State Fault Refusal :=
  .next (ctrlWrite s m page fun b => (b.flag H_CTRL_EN page, true, b.flag H_CTRL_HOLD page))

/-- CTRL_HOLD_SET (R69). -/
def execCtrlHoldSet (m : Master) (page : Nat) (s : State) : Host.Outcome State Fault Refusal :=
  .next (ctrlWrite s m page fun b => (b.flag H_CTRL_EN page, false, true))

/-- CTRL_HOLD_CLEAR (R70). -/
def execCtrlHoldClear (m : Master) (page : Nat) (s : State) : Host.Outcome State Fault Refusal :=
  .next (ctrlWrite s m page fun b => (b.flag H_CTRL_EN page, false, false))

/-- DRAIN_COMPLETE (R66). -/
def execDrainComplete (page : Nat) (s : State) : Host.Outcome State Fault Refusal := .next (if s.pageOn page then drainEnd s page else s)

/-- SHADOW_APPLY_COMPLETE (R70). -/
def execShadowApplyComplete (page : Nat) (s : State) : Host.Outcome State Fault Refusal :=
  .next (if s.pageOn page && s.flag H_STAT_HELD page && !s.flag H_CTRL_HOLD page then shadowApply s page else s)

/-- SHADOW_WRITE (R70). -/
def execShadowWrite (m : Master) (page off : Nat) (v : Word) (s : State) : Host.Outcome State Fault Refusal :=
  .next (regWrite s m page off v.toNat)

/-- LOCKKEY_WRITE (R71). -/
def execLockkeyWrite (m : Master) (page : Nat) (v : Word) (s : State) : Host.Outcome State Fault Refusal :=
  .next (regWrite s m page 0x20 v.toNat)

/-- IRQ_SET_WRITE (R61). -/
def execIrqSetWrite (m : Master) (page : Nat) (v : Word) (s : State) : Host.Outcome State Fault Refusal :=
  .next (regWrite s m page 0x18 v.toNat)

/-- IRQ_RAW_CLEAR (R73): a bit whose event falls in the same BCLK stays set. -/
def execIrqRawClear (m : Master) (page : Nat) (v event : Word) (s : State) : Host.Outcome State Fault Refusal :=
  .next (accessWrite s m page 0x10 v.toNat fun v s =>
    if event = 0 then headerEff m page 0x10 v s else s.risen page ((headerEff m page 0x10 v s).raiseMask page event.toNat))

/-- UNMAPPED_ACCESS (R59): an access to I/O address `addr`. -/
def execUnmappedAccess (m : Master) (addr : Word) (wr : Option Word) (s : State) : Host.Outcome State Fault Refusal :=
  .next (ioAccess s m addr.toNat (wr.map BitVec.toNat) 0 0)

/-- DOMAIN_OFF_ACCESS (R75). -/
def execDomainOffAccess (m : Master) (page off : Nat) (wr : Option Word) (s : State) : Host.Outcome State Fault Refusal :=
  .next (regAccess s m page off (wr.map BitVec.toNat))

end Sys2Proof.Machine
end

