-- ==== Sys2Proof/Machine/CoreIo.lean ====
section
/-! DEFINITION. The instructions of the Sirham cores that reach I/O space (R489), and HALT (R503). An access that has to wait freezes the
core: its results have landed, PC stays, and the access completes when it is served (R478). -/

namespace Sys2Proof.Machine

/-- The end of an IN or OUT of core `k`: its result is seen by the fourth instruction, an updated base by the next (R476). -/
def Core.ioDone (k : Core) (rd ra : Nat) (inc : Option Nat) (v : Nat) : Core :=
  let k := k.result 4 rd v
  (match inc with | some d => k.result 1 ra (add32 (k.reg ra) d) | none => k).finish

/-- The access of core `c` at address `a` has been answered: the instruction ends, takes an I/O-fault trap, or waits. An access that has
stopped or restarted the core ends with it; `k` is the core as it stood at the access. -/
def ioAnswer (s : State) (c : Nat) (k : Core) (a rd ra : Nat) (inc : Option Nat) : State :=
  if s.cr c != k then s
  else
    match s.resp.kind with
    | .ok => s.setCr c (k.ioDone rd ra inc s.resp.data)
    | .none => { s with stall := tput s.stall c {} { tget s.stall c {} with io := some (rd, ra, inc) } }
    | _ => coreTrap s c k 1 a

/-- An IN or OUT of core `c`: a write of register `w`, or a read into `rd` (R489). `kind` and `ans` are the answer of a satellite
window. -/
def coreIo (s : State) (c rd ra off : Nat) (w inc : Option Nat) (kind ans : Nat) : State :=
  if !s.canIssue c then s
  else
    let k0 := s.cr c
    let k := k0.tick
    if s.isBad 0 c k0.fetchAt then fetchTrap s c
    else
      let a := add32 (k.reg ra) off
      if a % 4 != 0 then coreTrap s c k 1 a
      else ioAnswer (ioAccess (s.setCr c k) (Master.ofCode c) a (w.map k.reg) kind ans) c k a rd ra inc

/-- The I/O address of a stalled access. -/
def Stall.addr (r : Stall) : Nat := r.page * 4096 + r.off + (if r.window = 0 then 0 else 0x1000000 + r.window * 0x100000)

/-- The stalled IN or OUT of core `c` has been answered. -/
def ioServed (s : State) (c : Nat) (r : Stall) : State :=
  match r.io with
  | some (rd, ra, inc) => ioAnswer s c (s.cr c) r.addr rd ra inc
  | none => s

/-- HALT (R503): an order that waits for the HK's halt takes effect. -/
def coreHalt (s : State) (c : Nat) : State :=
  if !s.canIssue c then s
  else
    let k0 := s.cr c
    let k := k0.tick
    if s.isBad 0 c k0.fetchAt then fetchTrap s c
    else
      let s := s.setCr c { k.finish with halt := true }
      match (s.getDom 0).latched, decide (c = 0 && (s.getDom 0).phase = .stable) with
      | some o, true => (s.setDom 0 { s.getDom 0 with latched := none }).takeLatched 0 o true
      | _, _ => s

/-! The meanings. -/

/-- IN (R489). -/
def execIIn (c rd ra imm kind : Nat) (ans : Word) (s : State) : Host.Outcome State Fault Refusal :=
  .next (coreIo s c rd ra (sx16 imm) none none kind ans.toNat)

/-- OUT (R489). -/
def execIOut (c rs ra imm kind : Nat) (s : State) : Host.Outcome State Fault Refusal :=
  .next (coreIo s c 0 ra (sx16 imm) (some rs) none kind 0)

/-- INP (R489). -/
def execIInp (c rd ra imm kind : Nat) (ans : Word) (s : State) : Host.Outcome State Fault Refusal :=
  .next (coreIo s c rd ra 0 none (some (sx16 imm)) kind ans.toNat)

/-- OUTP (R489). -/
def execIOutp (c rs ra imm kind : Nat) (s : State) : Host.Outcome State Fault Refusal :=
  .next (coreIo s c 0 ra 0 (some rs) (some (sx16 imm)) kind 0)

/-- HALT (R503). -/
def execIHalt (c : Nat) (s : State) : Host.Outcome State Fault Refusal := .next (coreHalt s c)

end Sys2Proof.Machine
end

