-- ==== Sys2Proof/Machine/HostPort.lean ====
section
/-! DEFINITION. The host port (R560 to R573): transactions, and their carriage over SPI, UDP and the ring. -/

namespace Sys2Proof.Machine

/-- Change the host port's hidden state. -/
def State.upHost (s : State) (f : HostPort → HostPort) : State := { s with host := f s.host }

/-! Headers and checks (R560 to R562). -/

/-- The bytes of words in the order sent. -/
def sentBytes (l : List Nat) : List Nat := l.flatMap fun w => [w / 2 ^ 24 % 256, w / 65536 % 256, w / 256 % 256, w % 256]

/-- The CRC over words (R561). -/
def hostCrc (l : List Nat) : Nat := crc32 (sentBytes l)

/-- Words that COUNT stands for; a NOP has none. -/
def wordCount (op count : Nat) : Nat := if op = 0 then 0 else if count = 0 then 256 else count

/-- Whether OP reads or writes. -/
def opWrites (op : Nat) : Bool := op == 2 || op == 4

/-- Address of the first word not completed (R560, R562). -/
def HostReq.next (r : HostReq) : Nat := if r.op = 1 || r.op = 2 then (r.addr + 4 * r.done) % 2 ^ 32 else r.addr

/-- A response (R562). -/
def respWords (op tag status done next : Nat) (out : List Nat) : List Nat :=
  let l := (op * 2 ^ 28 + tag * 2 ^ 20 + status * 65536 + done * 128) :: next :: out
  l ++ [hostCrc l]

/-- The response of a NOP with TAG 0, which the first frame carries (R565). -/
def nopResponse : List Nat := respWords 0 0 0 0 0 []

/-- The response of a request that executes nothing. -/
def HostReq.refusal (r : HostReq) (status : Nat) : List Nat := respWords r.op r.tag status 0 r.addr []

/-- STATUS of an answer (R563). -/
def answerStatus : Answer → Nat
  | .none | .ok => 0
  | .domainOff => 1
  | .timeout => 2
  | .guarded => 3
  | .busy => 5
  | .refused | .unmapped | .misaligned => 6

/-- The request whose header is `a`, `b`; words beyond the header stand in `l`. -/
def reqOf (src a b : Nat) (l : List Nat) (wins : List (Nat × Nat)) : HostReq :=
  { src := src, op := a / 2 ^ 28 % 16, tag := a / 2 ^ 20 % 256, count := a / 4096 % 256, space := a / 1024 % 4, addr := b, words := l,
    wins := wins }

/-- Words that a request takes, header and CRC included. -/
def HostReq.size (r : HostReq) : Nat := 3 + (if opWrites r.op then wordCount r.op r.count else 0)

/-- What a payload of words holds: a request, or none when it is too short or its CRC fails (R561, R566). -/
inductive Parsed where
  | bad (op tag : Nat)
  | req (r : HostReq)

/-- Parse a frame; `exact` asks for exactly one request. -/
def parse (src : Nat) (l : List Nat) (exact : Bool) (wins : List (Nat × Nat)) : Parsed :=
  let a := l.getD 0 0
  let r := reqOf src a (l.getD 1 0) ((l.drop 2).take (wordCount (a / 2 ^ 28 % 16) (a / 4096 % 256))) wins
  let n := r.size
  if l.length < n || (exact && l.length != n) || hostCrc (l.take (n - 1)) != l.getD (n - 1) 0 then .bad r.op r.tag
  else .req { r with crc := l.getD (n - 1) 0, bad := a % 1024 != 0 }

/-! Words (R563). -/

/-- An access of the host or the monitor to D-space (R58, R75). -/
def hostD (s : State) (m : Master) (a : Nat) (w : Option Nat) : State :=
  let p := dPlace a
  if a % 4 != 0 then s.answer .misaligned
  else if !((0x10000000 ≤ a && a < 0x10200000) || (0x20000000 ≤ a && a < 0x20004000 && w.isNone)) then s.answer .unmapped
  else if p.1 = 2 && !s.domOn 6 then
    if !s.flag PWR_DOMAIN_AUTOWAKE pwrPage 6 then s.answer .domainOff
    else
      let s := (s.need 6).hwPowerUp 6
      if s.order 6 = 3 || s.order 7 = 3 then s.answer .domainOff
      else { s.answer .none with stall := tput s.stall m.key {} { page := 0x100, off := a, write := w, since := s.tb } }
  else if s.isBad p.1 0 p.2 then (eccUe s p.1 0 p.2 false).answer .refused
  else
    match w with
    | some v => (s.dPut 0 a 4 v).answer .ok
    | none => s.answer .ok (s.dGet 0 a 4)

/-- The monitor's access to a memory of core `c` (R576): I-RAM for `m` 0, D-RAM for `m` 1, while the core is halted. -/
def coreMem (s : State) (c m a : Nat) (w : Option Nat) : State :=
  let k := s.cr c
  let size := if m = 1 then 0x8000 else if c = 0 then 0x20000 else 0x10000
  let on := (targetDomain c).any (s.domOn ·)
  if a % 4 != 0 || size ≤ a || !(k.halt || k.held) || !on then s.answer .refused
  else if s.isBad m c a then (eccUe s m c a false).answer .refused
  else
    match w, m with
    | some v, 0 => ({ s with iram := tput s.iram c [] (mputN (tget s.iram c []) 0 a 4 v) } : State).answer .ok
    | some v, _ => (s.dPut c a 4 v).answer .ok
    | none, 0 => s.answer .ok (mgetN (tget s.iram c []) 0 a 4)
    | none, _ => s.answer .ok (s.dGet c a 4)

/-- Words that one access moves: the image space takes quarters of a block (R546). -/
def HostReq.unit (r : HostReq) : Nat := if r.space = 2 then min 256 (r.words.length - r.done) else 1

/-- Access word `done` of a request. -/
def hostWord (s : State) (m : Master) (r : HostReq) : State :=
  let a := r.next
  let w := if opWrites r.op then some (r.words.getD r.done 0) else none
  match r.space with
  | 0 =>
    let x := r.wins.getD r.done (0, 0)
    ioAccess s m a w x.1 x.2
  | 1 => hostD s m a w
  | 2 =>
    if r.op != 2 then s.answer .refused
    else if s.domOn 6 then imageWrite s a (((r.words.drop r.done).take 256).map fun v => BitVec.ofNat 32 v)
    else hostD s m 0x10000000 none
  | n => if n < 15 then coreMem s (n - 3) 0 a w else coreMem s (n - 15) 1 a w

/-- Execute the words that are left, at most `fuel`: the state, the request, and its STATUS unless it waits. -/
def hostRun (fuel : Nat) (m : Master) (s : State) (r : HostReq) : State × HostReq × Option Nat :=
  match fuel with
  | 0 => (s, r, some 0)
  | n + 1 =>
    let t := hostWord s m r
    match t.resp.kind with
    | .ok =>
      let r' := { r with done := r.done + r.unit, out := if opWrites r.op then r.out else r.out ++ [t.resp.data] }
      if r'.done < wordCount r.op r.count then hostRun n m t r' else (t, r', some 0)
    | .none => (t, r, none)
    | k => (t, r, some (answerStatus k))

/-! Transactions (R571). -/

/-- Whether the ring carries a request to a satellite device (R572). -/
def State.forwards (s : State) (r : HostReq) : Bool :=
  s.isMaster && s.get HOST_CFG_RING_TGT hostPage != 0 && (r.space == 1 || r.space == 2) && r.op != 0

/-- A transaction ends with a response. -/
def hostEnd (s : State) (r : HostReq) (l : List Nat) : State :=
  let s := (s.bump HOST_CNT_TRANS hostPage).set HOST_STAT_STATE hostPage 0
  let s := s.upHost fun x =>
    match r.src with
    | 0 => { x with run := none, resp := some l }
    | 1 => { x with run := none, sent := some (r.mac, r.ip, r.port, l), last := some (r.ip, r.port, r.tag, r.crc, l) }
    | _ => { x with run := none, ringResp := l }
  s.irq hostPage 0

/-- A transaction has run as far as it can: it ends, or waits. One whose own effect has taken PD_ETH away is lost. -/
def hostDone (x : State × HostReq × Option Nat) : State :=
  if !x.1.domOn 5 then x.1
  else match x.2.2 with
  | some st => hostEnd x.1 x.2.1 (respWords x.2.1.op x.2.1.tag st x.2.1.done x.2.1.next x.2.1.out)
  | none => x.1.upHost fun y => { y with run := some x.2.1 }

/-- The stored response to a UDP request whose source, TAG and CRC equal those of the last executed one (R570). -/
def State.retried (s : State) (r : HostReq) : Option (List Nat) :=
  match s.host.last with
  | some (i, q, t, c, l) => if r.src = 1 && i = r.ip && q = r.port && t = r.tag && c = r.crc then some l else none
  | none => none

/-- A request is answered without executing anything. -/
def hostAnswer (s : State) (r : HostReq) (l : List Nat) : State :=
  s.upHost fun x =>
    match r.src with
    | 0 => { x with resp := some l }
    | 1 => { x with sent := some (r.mac, r.ip, r.port, l) }
    | _ => { x with ringResp := l }

/-- A transaction executes (R563, R572); a retried UDP request acts once (R570), and one that has waited into a drain is answered REFUSED
(R573; log 97). -/
def hostExec (s : State) (r : HostReq) : State :=
  if !s.accepts hostPage then hostAnswer s r (r.refusal 6)
  else match s.retried r with
  | some l => hostAnswer s r l
  | none =>
  let s := (s.set HOST_STAT_STATE hostPage 1).set HOST_STAT_SRC hostPage r.src
  if r.bad || 4 < r.op || r.space = 3 then hostDone (s, r, some 6)
  else if s.forwards r then
    (s.set HOST_STAT_STATE hostPage 2).upHost fun x => { x with run := some { r with since := s.tb } }
  else hostDone (hostRun (wordCount r.op r.count) .host s r)

/-- Waiting requests execute in their order. -/
def hostServe (fuel : Nat) (s : State) : State :=
  match fuel with
  | 0 => s
  | n + 1 =>
    match s.host.run, s.host.queue with
    | none, r :: q => if s.domOn 5 then hostServe n (hostExec (s.upHost fun x => { x with queue := q }) r) else s
    | _, _ => s

/-- A request starts, and those that wait follow it. -/
def hostStart (s : State) (r : HostReq) : State :=
  let s := hostExec s r
  hostServe (s.host.queue.length + 1) s

/-- The transaction that waits for an access goes on (R75, R78). -/
def hostResume (s : State) : State :=
  match s.host.run with
  | some r =>
    if s.get HOST_STAT_STATE hostPage = 2 then s
    else
      let s := hostDone (hostRun (wordCount r.op r.count - r.done) .host s r)
      hostServe (s.host.queue.length + 1) s
  | none => s

/-- The access that the transaction waits for ends with `status`. -/
def hostFail (s : State) (status : Nat) : State :=
  match s.host.run with
  | some r =>
    let s := hostDone (s, r, some status)
    hostServe (s.host.queue.length + 1) s
  | none => s

/-- A request that executes nothing is answered BAD_CRC. -/
def badCrc (s : State) : State := (s.bump HOST_CNT_BAD_CRC hostPage).irq hostPage 1

/-! SPI (R564 to R567). -/

/-- A frame begins: HSDO carries the previous response, or PENDING. The flag tells whether the frame's request counts. -/
def frameBegin (s : State) : State × Bool :=
  let s : State := { s with wake := { s.wake with hcs := false } }
  match s.host.run with
  | some r =>
    ((s.bump HOST_CNT_PENDING hostPage).upHost fun x => { x with hsdo := respWords 0xF r.tag 0 0 r.addr [] }, false)
  | none => (s.upHost fun x => { x with hsdo := x.resp.getD nopResponse, resp := some nopResponse }, true)

/-- The request of a frame (R566). -/
def frameTake (s : State) (p : Parsed) : State :=
  let respond (s : State) (l : List Nat) : State := s.upHost fun x => { x with resp := some l }
  match p with
  | .bad op tag =>
    if s.accepts hostPage then respond (badCrc s) (respWords op tag 4 0 0 []) else respond s (respWords op tag 6 0 0 [])
  | .req r =>
    if !s.accepts hostPage then respond s (r.refusal 6)
    else hostStart s r

/-- A frame with PD_ETH on; otherwise it is ignored (R109). -/
def spiFrame (s : State) (p : Parsed) : State :=
  if !s.domOn 5 || s.clk.frozen then s
  else
    let x := frameBegin s
    if x.2 then frameTake x.1 p else x.1

/-- A transaction commanded as a whole, in a frame with a good CRC. -/
def spiRequest (s : State) (op tag count space addr : Nat) (l : List Nat) (wins : List (Nat × Nat)) : State :=
  let r : HostReq := { op := op, tag := tag, count := count, space := space, addr := addr, words := l, wins := wins }
  spiFrame s (if opWrites op && l.length < wordCount op count then .bad op tag else .req { r with words := l.take (wordCount op count) })

/-! UDP (R569, R570). -/

/-- A datagram is dropped. -/
def udpDrop (s : State) : State := (s.bump HOST_CNT_DROPS hostPage).irq hostPage 2

/-- A datagram is sent back to where its request came from. -/
def udpSend (s : State) (k ip port : Nat) (l : List Nat) : State := s.upHost fun x => { x with sent := some (k, ip, port, l) }

/-- A datagram that the port takes. -/
def udpTake (s : State) (k src port : Nat) (p : Parsed) : State :=
  match p with
  | .bad op tag => udpSend (badCrc s) k src port (respWords op tag 4 0 0 [])
  | .req r =>
    let r := { r with ip := src, port := port, mac := k }
    match s.retried r with
    | some l => udpSend s k src port l
    | none =>
      if s.host.run.isNone then hostStart s r
      else if (s.host.queue.filter (·.src == 1)).length < 4 then s.upHost fun x => { x with queue := x.queue ++ [r] }
      else udpDrop s

/-! The ring (R572). -/

/-- A request that the master forwards reaches this satellite device; PD_ETH powers up for it under R75. -/
def ringRequest (s : State) (p : Parsed) : State :=
  let respond (s : State) (l : List Nat) : State := s.upHost fun x => { x with ringResp := l }
  match p with
  | .bad op tag => respond (badCrc s) (respWords op tag 4 0 0 [])
  | .req r =>
    if s.domOn 5 then
      if !s.accepts hostPage then respond s (r.refusal 6)
      else if s.host.run.isNone then hostStart s r
      else s.upHost fun x => { x with queue := x.queue ++ [r] }
    else
      let s := domainOffAccess (s.need 5) .ring hostPage 0x50 none
      if s.resp.kind = .none then s.upHost fun x => { x with queue := x.queue ++ [r] } else respond s (r.refusal 1)

/-- The response to the forwarded request returns unchanged. -/
def ringResponse (s : State) (l : List Nat) : State :=
  match s.host.run with
  | some r =>
    if s.get HOST_STAT_STATE hostPage = 2 then
      let s := hostEnd s r l
      hostServe (s.host.queue.length + 1) s
    else s
  | none => s

/-- HIRQ_N is pulled low (R109, R568); in a full reset and without supply it is released (R42). -/
def State.hirqLow (s : State) : Bool :=
  s.sup.alive && !s.sup.inReset &&
    (s.wake.hcs && s.domOn 5 || (List.range 139).any fun p => s.get H_IRQ_ROUTE_TARGET p == 12 && s.irqActive p)

/-! The meanings. -/

/-- SPI_FRAME (R565, R566): the words of the frame and the bits beyond them. -/
def execSpiFrame (words : List Word) (extra : Nat) (wins : List (Nat × Nat)) (s : State) : Host.Outcome State Fault Refusal :=
  let l := words.map BitVec.toNat
  .next (spiFrame s (if extra != 0 then .bad (l.getD 0 0 / 2 ^ 28) (l.getD 0 0 / 2 ^ 20 % 256) else parse 0 l false wins))

/-- UDP_REQUEST (R569, R570): `plain` tells that the datagram is unfragmented UDP over IPv4 without options, `sum` that its checksum is
right or 0. -/
def execUdpRequest (k : Nat) (dst src : Word) (port dport : Nat) (plain sum : Bool) (words : List Word) (wins : List (Nat × Nat))
    (s : State) : Host.Outcome State Fault Refusal :=
  .next (if !s.udpTakes k dst.toNat src.toNat dport plain then s
    else if !sum then udpDrop s
    else udpTake s k src.toNat port (parse 1 (words.map BitVec.toNat) true wins))

/-- RING_HOST_REQUEST (R572): on a satellite device the words of a forwarded request, on the master those of its response. -/
def execRingHostRequest (words : List Word) (s : State) : Host.Outcome State Fault Refusal :=
  let l := words.map BitVec.toNat
  .next (if !s.ringOn then s else if s.isMaster then ringResponse s l else ringRequest s (parse 2 l true []))

/-- RING_REQUEST_TIMEOUT (R572). -/
def execRingRequestTimeout (s : State) : Host.Outcome State Fault Refusal :=
  match s.host.run with
  | some r => .next (if s.get HOST_STAT_STATE hostPage = 2 && r.since + 2000000 ≤ s.tb then hostFail s 2 else s)
  | none => .next s

/-- HOST_NOP (R560). -/
def execHostNop (tag : Nat) (s : State) : Host.Outcome State Fault Refusal := .next (spiRequest s 0 tag 0 0 0 [] [])

/-- HOST_READ (R560). -/
def execHostRead (tag count space : Nat) (addr : Word) (wins : List (Nat × Nat)) (s : State) : Host.Outcome State Fault Refusal :=
  .next (spiRequest s 1 tag count space addr.toNat [] wins)

/-- HOST_WRITE (R560). -/
def execHostWrite (tag count space : Nat) (addr : Word) (words : List Word) (wins : List (Nat × Nat)) (s : State) :
    Host.Outcome State Fault Refusal :=
  .next (spiRequest s 2 tag count space addr.toNat (words.map BitVec.toNat) wins)

/-- HOST_READ_FIX (R560). -/
def execHostReadFix (tag count space : Nat) (addr : Word) (wins : List (Nat × Nat)) (s : State) : Host.Outcome State Fault Refusal :=
  .next (spiRequest s 3 tag count space addr.toNat [] wins)

/-- HOST_WRITE_FIX (R560). -/
def execHostWriteFix (tag count space : Nat) (addr : Word) (words : List Word) (wins : List (Nat × Nat)) (s : State) :
    Host.Outcome State Fault Refusal :=
  .next (spiRequest s 4 tag count space addr.toNat (words.map BitVec.toNat) wins)

end Sys2Proof.Machine
end

