-- ==== Sys2Proof/Machine/Monitor.lean ====
section
/-! DEFINITION. The Utmond monitor (R574 to R580, R593): its commands as they stand on its line, and what each prints. -/

namespace Sys2Proof.Machine

/-- Change the monitor's hidden state. -/
def State.upMon (s : State) (f : Mon → Mon) : State := { s with mon := f s.mon }

/-- A command ends: what it printed, and how it ended (0 OK, 1 to 6 a name of R562, 7 SYNTAX, 8 CLOSED). -/
def monEnd (s : State) (err : Nat) (out : List Nat) : State :=
  let s := (s.put MON_STAT_BUSY monPage false).upMon fun x => { x with run := none, err := err, out := out, stepOf := none }
  if err = 0 then s else s.bump MON_CNT_ERRS monPage

/-- Whether the monitor takes a command line: PD_HK is on and no command executes. -/
def State.monUp (s : State) : Bool := s.sup.alive && s.domOn 0 && s.mon.run.isNone

/-- A command line (R578): it counts, and a closed monitor answers CLOSED unless `always`. -/
def monCommand (s : State) (always : Bool) (f : State → State) : State :=
  if !s.monUp || s.clk.frozen then s
  else
    let s := s.bump MON_CNT_CMDS monPage
    if !always && s.fuse.lc = 1 && !s.flag MON_STAT_OPEN monPage then monEnd s 8 [] else f s

/-! Accesses (R575, R576). -/

/-- An access command has run as far as it can. -/
def monDone (x : State × HostReq × Option Nat) : State :=
  if !x.1.domOn 0 then x.1
  else match x.2.2 with
    | some st => monEnd x.1 (if st = 0 && !x.2.1.crcOk then 4 else st) x.2.1.out
    | none => (x.1.put MON_STAT_BUSY monPage true).upMon fun y => { y with run := some x.2.1 }

/-- An access command executes: words in their order by master code 0xC. -/
def monAccess (s : State) (r : HostReq) : State := monDone (hostRun (wordCount r.op r.count) .mon s r)

/-- The access that the monitor waits for may go on. -/
def monResume (s : State) : State :=
  match s.mon.run with
  | some r => monDone (hostRun (wordCount r.op r.count - r.done) .mon s r)
  | none => s

/-- The access that the monitor waits for ends with `status`. -/
def monFail (s : State) (status : Nat) : State :=
  match s.mon.run with
  | some r => monDone (s, r, some status)
  | none => s

/-- A read of `n` words, 1 to `most`. -/
def monRead (s : State) (space addr n most : Nat) (wins : List (Nat × Nat)) : State :=
  monCommand s false fun s =>
    if n = 0 || most < n then monEnd s 7 []
    else monAccess s { src := 3, op := 1, count := n, space := space, addr := addr, wins := wins }

/-- A write of words, 1 to `most` of them; `crc` is the line after a block load. -/
def monWrite (s : State) (space addr most : Nat) (l : List Nat) (crc : Option Nat) (wins : List (Nat × Nat)) : State :=
  monCommand s false fun s =>
    if l.isEmpty || most < l.length then monEnd s 7 []
    else monAccess s { src := 3, op := 2, count := l.length, space := space, addr := addr, words := l, wins := wins,
                       crcOk := match crc with | some v => v == hostCrc l | none => true }

/-! Cores (R577). -/

/-- Whether core `c` is in debug mode. -/
def State.debugging (s : State) (c : Nat) : Bool := bitOf (s.get MON_STAT_DEBUG monPage) c

/-- H: the core stops between instructions; a repetition, a delay slot or a frozen instruction completes first. -/
def monHalt (s : State) (c : Nat) : State :=
  let k := s.cr c
  let busy := k.slot.isSome || k.rep.isSome || (s.stall.any fun e => e.1 == c && e.2.retry)
  let s := s.set MON_STAT_DEBUG monPage (setBit (s.get MON_STAT_DEBUG monPage) c)
  monEnd ((s.setCr c { k with held := true, steps := if k.held then k.steps else b2n busy }).wdgHold c) 0 []

/-- S: the core takes `n` steps; its PC is printed once they are done. -/
def monStep (s : State) (c n : Nat) : State :=
  let k := s.cr c
  if !k.held then monEnd s 6 []
  else (monEnd (s.setCr c { k with steps := k.steps + n }) 0 []).upMon fun x => { x with stepOf := some c }

/-- G: the core goes on in debug mode. -/
def monGo (s : State) (c : Nat) : State :=
  if !s.debugging c then monEnd s 6 [] else monEnd ((s.setCr c { s.cr c with held := false, steps := 0 }).wdgGo c) 0 []

/-- D: debug mode ends. -/
def monDebugEnd (s : State) (c : Nat) : State :=
  let s := s.set MON_STAT_DEBUG monPage (clrBit (s.get MON_STAT_DEBUG monPage) c)
  monEnd ((s.setCr c { s.cr c with held := false, steps := 0 }).wdgGo c) 0 []

/-- What Q prints: PC, g0 to g7, w0 to w23, FRAMES, PSR, EPC, ECAUSE. -/
def Core.dump (k : Core) (c : Nat) : List Nat := k.pc :: (List.range 32).map k.reg ++ [k.frames, k.ctl c 0, k.ctl c 1, k.ctl c 2]

/-- What the last command has printed: after S, the PC once the steps are done. -/
def State.monPrint (s : State) : List Nat :=
  match s.mon.stepOf with
  | some c => if (s.cr c).steps = 0 then [(s.cr c).pc] else []
  | none => s.mon.out

/-! The sinter log (R590, R593). -/

/-- A record as T prints it: its payload bytes, or 2^32 for ABSENT. -/
def State.recPrint (s : State) (a b : Nat) : List Nat :=
  match s.recSlot a b with
  | none => [2 ^ 32]
  | some x =>
    let l := s.eePage (if x = 0 then a else b)
    (l.drop 4).take (l.getD 0 0)

/-- What T prints: the counters, the keeper records and the channel records. -/
def State.logPrint (s : State) : List Nat :=
  ((List.range 42).map fun p => s.cntValue (1024 + p)) ++ ((List.range 8).flatMap fun b => s.recPrint (1066 + b) (1074 + b)) ++
    (List.range 90).flatMap fun c => s.recPrint (1082 + c) (1172 + c)

/-! Access control (R578). -/

/-- `n` bytes that no one can foresee (log 3). -/
def freshBytes (n : Nat) (s : State) : List Nat × State :=
  (List.range n).foldl (fun r _ =>
    let x := r.2.fresh 256
    (r.1 ++ [x.1], x.2)) ([], s)

/-- C: a challenge of 32 bytes from the DRBG of PD_SEC. -/
def monChallenge (s : State) : State :=
  if !s.domOn 4 then monEnd s 1 []
  else
    let r := freshBytes 32 s
    (monEnd r.2 0 r.1).upMon fun x => { x with chal := some r.1 }

/-- A: the answer to a challenge, which serves once. -/
def monAnswer (s : State) (slot : Nat) (sig : List Nat) : State :=
  match s.mon.chal with
  | none => monEnd s 6 []
  | some c =>
    let s := s.upMon fun x => { x with chal := none }
    if s.verify slot "KV1-MON" ([0x4B, 0x56, 0x31, 0x4D] ++ uidBytes ++ c) sig then
      monEnd ((s.put MON_STAT_OPEN monPage (s.fuse.lc == 1)).irq monPage 0) 0 []
    else monEnd (s.irq monPage 2) 6 []

/-! The meanings. -/

/-- MON_READ (R575): command R. -/
def execMonRead (space : Nat) (addr : Word) (n : Nat) (wins : List (Nat × Nat)) (s : State) : Host.Outcome State Fault Refusal :=
  .next (monRead s space addr.toNat n 100 wins)

/-- MON_WRITE (R575): command W. -/
def execMonWrite (space : Nat) (addr : Word) (words : List Word) (wins : List (Nat × Nat)) (s : State) : Host.Outcome State Fault Refusal :=
  .next (monWrite s space addr.toNat 16 (words.map BitVec.toNat) none wins)

/-- MON_DUMP (R575): command M. -/
def execMonDump (space : Nat) (addr : Word) (n : Nat) (wins : List (Nat × Nat)) (s : State) : Host.Outcome State Fault Refusal :=
  .next (monRead s space addr.toNat n 10000 wins)

/-- MON_BLOCK_LOAD (R576): command L, its words and the line with their CRC. -/
def execMonBlockLoad (space : Nat) (addr : Word) (words : List Word) (crc : Word) (s : State) : Host.Outcome State Fault Refusal :=
  .next (monWrite s space addr.toNat 100000 (words.map BitVec.toNat) (some crc.toNat) [])

/-- MON_HALT (R577): command H. -/
def execMonHalt (c : Nat) (s : State) : Host.Outcome State Fault Refusal := .next (monCommand s false (monHalt · c))

/-- MON_STEP (R577): command S. -/
def execMonStep (c n : Nat) (s : State) : Host.Outcome State Fault Refusal := .next (monCommand s false (monStep · c n))

/-- MON_RESUME (R575): command G. -/
def execMonResume (c : Nat) (s : State) : Host.Outcome State Fault Refusal := .next (monCommand s false (monGo · c))

/-- MON_END_DEBUG (R575): command D. -/
def execMonEndDebug (c : Nat) (s : State) : Host.Outcome State Fault Refusal := .next (monCommand s false (monDebugEnd · c))

/-- MON_PRINT_STATE (R575): command Q. -/
def execMonPrintState (c : Nat) (s : State) : Host.Outcome State Fault Refusal :=
  .next (monCommand s false fun s => if (s.cr c).halt || (s.cr c).held then monEnd s 0 ((s.cr c).dump c) else monEnd s 6 [])

/-- MON_PRINT_LOG (R593): command T. -/
def execMonPrintLog (s : State) : Host.Outcome State Fault Refusal :=
  .next (monCommand s false fun s => if s.domOn 10 then monEnd s 0 s.logPrint else monEnd s 1 [])

/-- MON_SET_RATE (R575): command B. -/
def execMonSetRate (r : Nat) (s : State) : Host.Outcome State Fault Refusal :=
  .next (monCommand s true fun s =>
    if 9600 ≤ r && r ≤ 3000000 then monEnd (s.set MON_BAUD monPage r) 0 [] else monEnd s 7 [])

/-- MON_CHALLENGE (R578): command C. -/
def execMonChallenge (s : State) : Host.Outcome State Fault Refusal := .next (monCommand s true monChallenge)

/-- MON_ANSWER (R578): command A. -/
def execMonAnswer (slot : Nat) (sig : List Byte) (s : State) : Host.Outcome State Fault Refusal :=
  .next (monCommand s true (monAnswer · slot (sig.map BitVec.toNat)))

/-- MON_CLOSE (R578): command E. -/
def execMonClose (s : State) : Host.Outcome State Fault Refusal :=
  .next (monCommand s true fun s => monEnd (s.put MON_STAT_OPEN monPage false) 0 [])

end Sys2Proof.Machine
end

