-- ==== Sys2Proof/Machine/Domains.lean ====
section
/-! DEFINITION. Power domains in transition (R87, R96 to R100) and the accesses that wait: for a domain (R75, R76), for the EEPROM (R514) and
for a satellite device (R78). -/

namespace Sys2Proof.Machine

/-! Stalled accesses. -/

/-- A stalled access of key `c` is served: an IN or OUT ends, a transaction goes on, an instruction of D-space issues again. Keys from 16
stand for accesses whose core has gone; past their limit they are lost (R76, R506). -/
def serveStall (s : State) (c : Nat) (r : Stall) : State :=
  let s : State := { s with stall := tdel s.stall c }
  if r.retry then s
  else if 16 ≤ c then (if !r.nvm && r.since + 200000 ≤ s.tb then s else regAccess s (Master.ofCode (c - 16)) r.page r.off r.write)
  else if c = 12 && s.host.run.isSome then hostResume s
  else if c = 14 then monResume s
  else if r.page = 0x100 then s
  else
    let s := regAccess s (Master.ofCode c) r.page r.off r.write
    if c < 12 then ioServed s c r else s

/-- Serve the stalled accesses that `sel` selects, lowest master first. -/
def serveAll (s : State) (sel : Stall → Bool) : State := (s.stall.filter fun e => sel e.2).foldl (fun s e => serveStall s e.1 e.2) s

/-- Whether a stalled access waits for domain `n`. -/
def Stall.waitsFor (r : Stall) (n : Nat) : Bool := r.window == 0 && (if r.page = 0x100 then some 6 else pageDomain r.page) == some n

/-- The stalled access of key `c` ends with an error response: a trap at a core, STATUS `status` at the host port and the monitor (R76). -/
def stallEnd (s : State) (c : Nat) (kind : Answer) (status : Nat) : State :=
  let r := tget s.stall c {}
  let s : State := ({ s with stall := tdel s.stall c } : State).answer kind
  if c = 12 then hostFail s status
  else if c = 14 then monFail s status
  else if r.retry then coreTrap s c (s.cr c).tick 2 r.off
  else ioServed s c r

/-- A stalled access of master `m` ends with TIMEOUT (R76, R78). -/
def stallFail (s : State) (m : Master) : State := stallEnd s m.key .timeout 2

/-- An answer arrives for a stalled access through a window. -/
def windowAnswer (s : State) (m : Master) (d p off : Nat) (w : Option Nat) (kind ans : Nat) : State :=
  let r := tget s.stall m.key {}
  if r.window = d + 1 && r.page = p && r.off = off && kind != 0 then
    let give (q : HostReq) : HostReq := { q with wins := List.replicate q.done (0, 0) ++ (kind, ans) :: q.wins.drop (q.done + 1) }
    if m.key = 12 && s.host.run.isSome then hostResume (s.upHost fun x => { x with run := x.run.map give })
    else if m.key = 14 && s.mon.run.isSome then monResume (s.upMon fun x => { x with run := x.run.map give })
    else ioServed (windowAccess s m d p off w kind ans) m.key r
  else windowAccess s m d p off w kind ans

/-! Entry (R97). -/

/-- Whether the blocks of domain `n` have reached the safe point of R97. Its cores stop between two instructions (R503), except that a domain
which goes off leaves an access to complete without its core (R506). -/
def State.entryRest (s : State) (n : Nat) : Bool :=
  let still := (s.getDom n).target == .off || (coresOf n).all fun c => !s.stall.any (·.1 == c)
  match n with
  | 0 => (s.cr 0).halt
  | 3 => still && ((List.range 8).all fun c => (s.canH c).cur.isNone) && (List.range 12).all fun l => (s.linH l).cur.isNone
  | 5 => ([0, 1] : List Nat).all fun k => !(s.macH k).sending
  | 10 => s.nvm.run.isNone
  | 11 => !s.immoSending && !s.lf.polling
  | _ => still

/-- TB from which the absence of domain `n` counts: what PD_OUT's absence has already held stands still since then (R176). -/
def State.leftAt (s : State) (n : Nat) : Nat := if (n = 8 || n = 9) && !s.domOn 7 then (s.getDom 7).since else s.tb

/-- Domain `n` goes off: its kept registers go to the rind, the rest is lost. -/
def goOff (s : State) (n : Nat) : State :=
  let s := if n = 7 then (s.set CALD_OFF_TS_LO caldPage s.tb).set CALD_OFF_TS_HI caldPage (s.tb / 2 ^ 32) else s
  clearDomain (rindSave s n) n

/-- Domain power-ups that wait at PD_OUT's gate. -/
def State.waitingDoms (s : State) : List Nat := s.gate.queue.filterMap fun e => match e.req with | .dom n => some n | _ => none

/-- A power-up of domain `n` is denied while PD_OUT is forced off: accesses stalled for it end at once (R100). -/
def denyUp (s : State) (n : Nat) : State :=
  let s := (s.put PWR_DOMAIN_WAKE_DENIED pwrPage true 7).put PWR_DOMAIN_WAKE_DENIED pwrPage true n
  (s.stall.filter fun e => e.2.waitsFor n).foldl (fun s e => stallEnd s e.1 .domainOff 1) s

/-- PD_OUT has left on while power-ups wait: it powers up again at once, or denies them while it is forced off (R96, R100). -/
def gateAgain (s : State) : State :=
  if s.waitingDoms.isEmpty then s
  else if s.order 7 = 3 then
    s.each s.waitingDoms fun s n => denyUp ((s.withdraw (.dom n)).putDom n { s.getDom n with phase := .stable }) n
  else (s.markHw 7).startPowerUp 7 6

/-- The wake that domain `n` latched during its entry: it powers up at once and `l`, an order written since, stands until it is on (R96).
While PD_OUT is forced off the wake is denied (R100). -/
def State.wakeAfter (s : State) (n rank : Nat) (l : Option Nat) : State :=
  if n != 7 && s.order 7 = 3 && !s.domOn 7 then denyUp s n else (s.setDom n { s.getDom n with latched := l }).startPowerUp n rank

/-- The entry of domain `n` completes; a wake or an order that it has latched follows (R96). -/
def entryDone (s : State) (n : Nat) : State :=
  let d := s.getDom n
  let left := s.leftAt n
  let s := if d.actual == .on then leaveOn s n else s
  let s := if d.target == .off then goOff s n else s
  let d' : Dom := { s.getDom n with actual := d.target, phase := .stable, wakeLatched := false, latched := none,
                                    since := if d.actual == .on then left else d.since }
  let s := s.putDom n d'
  let s := match d.wakeLatched, d.latched with
    | true, l => s.wakeAfter n d.wakeRank l
    | false, some o => s.takeLatched n o false
    | false, none => s
  let s := if n = 7 && (s.getDom 7).phase == .stable then gateAgain s else s
  let s := pllStop s
  if s.inPark && s.flag WAKE_DEFER_ACTIVE wakePage then deferEnd s else s

/-! Power-up (R98). -/

/-- Domain `n` reaches STATE on: its blocks return, stalled accesses are served, and an order that it has latched takes effect (R96). -/
def powerUpDone (s : State) (n : Nat) : State :=
  let d := s.getDom n
  let s := s.putDom n { d with actual := .on, phase := .stable, latched := none }
  let s := if d.actual == .off then fromOff s n else fromRetention s n
  let s := serveAll s (·.waitsFor n)
  let s := if n = 5 then hostServe (s.host.queue.length + 1) s else s
  match d.latched with
  | some o => s.takeLatched n o false
  | none => s

/-! The meanings. -/

/-- PWR_ORDER (R94): the HK writes ORDER and AUTOWAKE of domain `n`. -/
def execPwrOrder (n order : Nat) (autowake : Bool) (s : State) : Host.Outcome State Fault Refusal :=
  .next (regWrite s .hk pwrPage (0x40 + 4 * n) (order + 256 * b2n autowake))

/-- DOMAIN_ENTRY_COMPLETE (R97). -/
def execDomainEntryComplete (n : Nat) (s : State) : Host.Outcome State Fault Refusal :=
  .next (if (s.getDom n).phase = .entering && s.entryRest n then entryDone s n else s)

/-- DOMAIN_POWER_UP_COMPLETE (R98). -/
def execDomainPowerUpComplete (n : Nat) (s : State) : Host.Outcome State Fault Refusal :=
  .next (if (s.getDom n).phase = .ramping && !s.pllStopped then powerUpDone s n else s)

/-- CLOCK_RESTART_COMPLETE (R54, R87). -/
def execClockRestartComplete (s : State) : Host.Outcome State Fault Refusal :=
  let s := restartDone s
  .next (if s.sup.cold && s.clocksRun then coldStart s else s)

/-- STALL_TIMEOUT (R76): an EEPROM freeze has no such limit (R514). -/
def execStallTimeout (m : Master) (s : State) : Host.Outcome State Fault Refusal :=
  let r := tget s.stall m.key {}
  .next (if (s.stall.any fun e => e.1 == m.key) && r.window = 0 && !r.nvm && r.since + 200000 ≤ s.tb then stallFail s m else s)

/-- WINDOW_TIMEOUT (R78). -/
def execWindowTimeout (m : Master) (s : State) : Host.Outcome State Fault Refusal :=
  let r := tget s.stall m.key {}
  .next (if r.window != 0 && r.since + 250000 ≤ s.tb then stallFail s m else s)

/-- SATELLITE_WINDOW_ACCESS (R78): an access through window `d` + 1, or the answer to one that waits. -/
def execSatelliteWindowAccess (m : Master) (d p off : Nat) (w : Option Word) (kind : Nat) (ans : Word) (s : State) :
    Host.Outcome State Fault Refusal :=
  .next (windowAnswer s m d p off (w.map BitVec.toNat) kind ans.toNat)

/-- PAGE_WRITE_COMPLETE (R508, R514): accesses that wait for the macro come next. In a full reset the bytes or the hidden row land (R53). -/
def execPageWriteComplete (s : State) : Host.Outcome State Fault Refusal :=
  match s.nvm.run with
  | none => .next s
  | some w =>
    .next (if s.domOn 10 then serveAll (nvComplete s) (·.nvm)
      else
        let o := s.nvm.queue.head?
        let s := (eeStore s w.page w.off w.data).upNvm fun x => { x with run := none, queue := [], stage := 0, result := none, cutOff := none }
        match o with | some o => nvHidden s o | none => s)

/-- LDC_FDATA_ACCESS (R308). -/
def execLdcFdataAccess (m : Master) (wr : Option Word) (s : State) : Host.Outcome State Fault Refusal :=
  .next (regAccess s m ldcPage 0x4C (wr.map BitVec.toNat))

end Sys2Proof.Machine
end

