-- ==== Sys2Proof/Machine/Supply.lean ====
section
/-! DEFINITION. Supply monitoring (R35 to R37, R55, R56) and limp-home (R45 to R49, R172, R173). -/

namespace Sys2Proof.Machine

/-! The limp-home map (R45, R46, R172). -/

/-- The pages of the map's record, copies A and B (R507). -/
def mapPages : Nat × Nat := (1344, 1346)

/-- Whether the copy on page `p` follows R172: 34 bytes, no reserved bit. -/
def State.mapOk (s : State) (p : Nat) : Bool :=
  let l := s.eePage p
  l.getD 0 0 == 34 && (List.range 4).all fun n => l.getD (4 + 8 * n + 7) 0 / 64 == 0

/-- The copy that gives the map (R46). -/
def State.mapCopy (s : State) : Option Nat :=
  let a := mapPages.1
  let b := mapPages.2
  let va := s.copyOk a 0 && s.mapOk a
  let vb := s.copyOk b 1 && s.mapOk b
  if va && vb then (s.recSlot a b).map fun x => if x = 0 then a else b
  else if va then some a else if vb then some b else none

/-- The read of the map (R45, R46): without a valid copy no LIMPn input acts. -/
def mapRead (s : State) : State :=
  match s.mapCopy with
    | some p =>
      let l := s.eePage p
      { s with sup := { s.sup with limpRead := true, limpMap := (List.range 4).map fun n => leOf l (4 + 8 * n) 8, mapId := leOf l 36 2 } }
    | none => ({ s with sup := { s.sup with limpRead := true, limpMap := [0, 0, 0, 0] } } : State).put SUP_STAT_LIMP_MAP_BAD supPage true

/-- The channels that LIMPn input `n` maps. -/
def State.limpSet (s : State) (n : Nat) : List Nat := (List.range 62).filter fun c => bitOf (s.sup.limpMap.getD n 0) c

/-- Whether LIMPn input `n` is active. -/
def State.limpAct (s : State) (n : Nat) : Bool := bitOf (s.get SUP_STAT_LIMP_ACT supPage) n

/-- What a change of input `n` does beyond SUP.STAT (R45, R129, R107, R319): a capture event, a wake, a trigger event, and the channels. -/
def limpEvent (s : State) (n : Nat) : State :=
  let on := s.limpAct n
  let s := wakeEvent (levelEvent s (0x49 + n) on) 8 n (if on then 1 else 2)
  s.each (s.limpSet n) fun s c =>
    if s.limpMapped c then chLimpOn s c
    else
      let s := s.upCh c fun x => { x with limpTrip := false, limpOn := false }
      chLimpOff s c

/-- A LIMPn input changes once the map has been read (R45, R47). -/
def limpChange (s : State) (n : Nat) (active : Bool) : State :=
  let m := s.get SUP_STAT_LIMP_ACT supPage
  limpEvent (s.set SUP_STAT_LIMP_ACT supPage (if active then setBit m n else clrBit m n)) n

/-! AON-P's own starts (R48, R49). -/

/-- Whether AON-P is to start channel `c`: mapped, not tripped, its latch clear, not locked (R154) and not yet on. -/
def State.limpDue (s : State) (c : Nat) : Bool :=
  let x := s.ch c
  s.limpHolds c && !x.limpOn && !x.latch && s.chSt c != stLocked && (!conducting (s.chSt c) || x.pendTrip)

/-- The next limp-home start in a slot of 250 µs. -/
def limpStart (s : State) : State :=
  match (List.range 62).find? s.limpDue with
  | some c => ({ s with sup := { s.sup with limpSlot := s.tb / 250000 + 1 } } : State).upCh c fun x => { x with limpOn := true }
  | none => s

/-! The meanings. -/

/-- LIMP_MAP_READ (R45): once at each power-up of the power die; an input that is active at its end changes to active. -/
def execLimpMapRead (s : State) : Host.Outcome State Fault Refusal :=
  .next (if s.sup.limpRead || !s.sup.alive then s
    else (mapRead s).each ((List.range 4).filter fun n => bitOf s.sup.limpPin n) fun s n => limpChange s n true)

/-- LIMP_INPUT_CHANGE (R45, R47): every input counts as inactive until the map has been read. -/
def execLimpInputChange (n : Nat) (active : Bool) (s : State) : Host.Outcome State Fault Refusal :=
  let s : State := { s with sup := { s.sup with limpPin := if active then setBit s.sup.limpPin n else clrBit s.sup.limpPin n } }
  .next (if s.limpAct n = active || !s.sup.alive || !s.sup.limpRead then s else limpChange s n active)

/-- LIMP_HOME_START (R48). -/
def execLimpHomeStart (s : State) : Host.Outcome State Fault Refusal :=
  .next (if s.sup.alive && s.sup.limpRead && !s.domOn 7 && s.sup.limpSlot ≤ s.tb / 250000 then limpStart s else s)

/-- The gate takes VBAT (R200, R206): below 6 V and below 9 V show in QUEUE, and a budget that becomes scaled raises bit 3. -/
def gateVbat (s : State) : State :=
  let was := s.flag GOV_QUEUE_SCALED govPage
  let s := (s.put GOV_QUEUE_LOW_V govPage (s.vbat < 6000)).put GOV_QUEUE_SCALED govPage (s.vbat < 9000)
  let s : State := { s with gate := { s.gate with seen := true } }
  if s.flag GOV_QUEUE_SCALED govPage && !was then s.irq govPage 3 else s

/-- VBAT_MEASUREMENT (R56, R259): in mV. -/
def execVbatMeasurement (vbat vfld : Nat) (s : State) : Host.Outcome State Fault Refusal :=
  let s := (s.set SUP_VBAT_VBAT_MV supPage vbat).set SUP_VBAT_VFLD_MV supPage vfld
  let s := s.each (List.range 8) fun s n => vRiseVbat s n vbat
  .next (if s.domOn 7 then gateVbat s else s)

/-- VBAT_LOW_CHANGE (R35, R55). -/
def execVbatLowChange (low : Bool) (s : State) : Host.Outcome State Fault Refusal := .next (s.put SUP_STAT_VBAT_LOW supPage low)

/-- The LF drivers are suspended above VBAT_OV (R36, R443; log 83): an exchange is aborted with cause 4 and a poll ends. -/
def lfSuspend (s : State) : State :=
  let s := if s.lf.polling then pollEnd s else s
  if s.domOn 11 then immoAbort s 4 else s

/-- VBAT_OV_CHANGE (R35 to R37, R55): off-state checks in progress end too (R36; log 83). -/
def execVbatOvChange (ov : Bool) (s : State) : Host.Outcome State Fault Refusal :=
  let s := s.put SUP_STAT_VBAT_OV supPage ov
  .next (if ov then (lfSuspend (s.put SUP_STAT_LD_SEEN supPage true)).each (List.range 62) State.dropCheck else s)

end Sys2Proof.Machine
end

