-- ==== Sys2Proof/Machine/Dispatch.lean ====
section
/-! DEFINITION. One arm per command: the call of its meaning. -/

namespace Sys2Proof.Machine

/-- The effect of a command on everything but the queue of waiting commands. -/
def exec (i : Instr) (s : State) : Host.Outcome State Fault Refusal :=
  match i with
  | .powerUp strap => Sys2Proof.Machine.execPowerUp strap s
  | .limpMapRead => Sys2Proof.Machine.execLimpMapRead s
  | .totalPowerLoss => Sys2Proof.Machine.execTotalPowerLoss s
  | .undervoltage => Sys2Proof.Machine.execUndervoltage s
  | .vbatLowChange low => Sys2Proof.Machine.execVbatLowChange low s
  | .vbatOvChange ov => Sys2Proof.Machine.execVbatOvChange ov s
  | .reverseBattery reversed => Sys2Proof.Machine.execReverseBattery reversed s
  | .resetNRise => Sys2Proof.Machine.execResetNRise s
  | .resetNLongLow => Sys2Proof.Machine.execResetNLongLow s
  | .limpInputChange n active => Sys2Proof.Machine.execLimpInputChange n active s
  | .limpHomeStart => Sys2Proof.Machine.execLimpHomeStart s
  | .vbatMeasurement vbat vfld => Sys2Proof.Machine.execVbatMeasurement vbat vfld s
  | .vfldUvChange uv => Sys2Proof.Machine.execVfldUvChange uv s
  | .registerWrite m page off v => Sys2Proof.Machine.execRegisterWrite m page off v s
  | .ctrlEnClear m page => Sys2Proof.Machine.execCtrlEnClear m page s
  | .ctrlEnSet m page => Sys2Proof.Machine.execCtrlEnSet m page s
  | .drainComplete page => Sys2Proof.Machine.execDrainComplete page s
  | .ctrlSrst m page => Sys2Proof.Machine.execCtrlSrst m page s
  | .ctrlHoldSet m page => Sys2Proof.Machine.execCtrlHoldSet m page s
  | .ctrlHoldClear m page => Sys2Proof.Machine.execCtrlHoldClear m page s
  | .shadowApplyComplete page => Sys2Proof.Machine.execShadowApplyComplete page s
  | .shadowWrite m page off v => Sys2Proof.Machine.execShadowWrite m page off v s
  | .lockkeyWrite m page v => Sys2Proof.Machine.execLockkeyWrite m page v s
  | .irqSetWrite m page v => Sys2Proof.Machine.execIrqSetWrite m page v s
  | .irqRawClear m page v event => Sys2Proof.Machine.execIrqRawClear m page v event s
  | .unmappedAccess m addr wr => Sys2Proof.Machine.execUnmappedAccess m addr wr s
  | .domainOffAccess m page off wr => Sys2Proof.Machine.execDomainOffAccess m page off wr s
  | .stallTimeout m => Sys2Proof.Machine.execStallTimeout m s
  | .satelliteWindowAccess m d p off w kind ans => Sys2Proof.Machine.execSatelliteWindowAccess m d p off w kind ans s
  | .windowTimeout m => Sys2Proof.Machine.execWindowTimeout m s
  | .xtalFail => Sys2Proof.Machine.execXtalFail s
  | .pllLockLoss => Sys2Proof.Machine.execPllLockLoss s
  | .pllRelockTimeout => Sys2Proof.Machine.execPllRelockTimeout s
  | .refSelWrite m v => Sys2Proof.Machine.execRefSelWrite m v s
  | .clockFreezeEnd => Sys2Proof.Machine.execClockFreezeEnd s
  | .lfXtalFail => Sys2Proof.Machine.execLfXtalFail s
  | .clockRestartComplete => Sys2Proof.Machine.execClockRestartComplete s
  | .tbHandoverToLf => Sys2Proof.Machine.execTbHandoverToLf s
  | .tbHandoverToCclk => Sys2Proof.Machine.execTbHandoverToCclk s
  | .lfincTrim => Sys2Proof.Machine.execLfincTrim s
  | .incIntWrite m v => Sys2Proof.Machine.execIncIntWrite m v s
  | .residApply m => Sys2Proof.Machine.execResidApply m s
  | .uncertClr m => Sys2Proof.Machine.execUncertClr m s
  | .cmpHiWrite m g v => Sys2Proof.Machine.execCmpHiWrite m g v s
  | .cmpModeWrite m g mode => Sys2Proof.Machine.execCmpModeWrite m g mode s
  | .compareFire g => Sys2Proof.Machine.execCompareFire g s
  | .capture g src rising => Sys2Proof.Machine.execCapture g src rising s
  | .cascCount k src rising => Sys2Proof.Machine.execCascCount k src rising s
  | .cascCarry k => Sys2Proof.Machine.execCascCarry k s
  | .cascCntWrite m k v => Sys2Proof.Machine.execCascCntWrite m k v s
  | .pwrOrder n order autowake => Sys2Proof.Machine.execPwrOrder n order autowake s
  | .pwrOrderRequest m n order => Sys2Proof.Machine.execPwrOrderRequest m n order s
  | .pwrReqRead m => Sys2Proof.Machine.execPwrReqRead m s
  | .domainEntryComplete n => Sys2Proof.Machine.execDomainEntryComplete n s
  | .domainPowerUpAdmit n => Sys2Proof.Machine.execDomainPowerUpAdmit n s
  | .domainPowerUpComplete n => Sys2Proof.Machine.execDomainPowerUpComplete n s
  | .domainPromotion n => Sys2Proof.Machine.execDomainPromotion n s
  | .rindSwValidWrite m => Sys2Proof.Machine.execRindSwValidWrite m s
  | .wakeCauseClr m => Sys2Proof.Machine.execWakeCauseClr m s
  | .wakeOutWrite m v => Sys2Proof.Machine.execWakeOutWrite m v s
  | .hcsNWake => Sys2Proof.Machine.execHcsNWake s
  | .wdgKick m v early => Sys2Proof.Machine.execWdgKick m v early s
  | .wdgExpiry => Sys2Proof.Machine.execWdgExpiry s
  | .wdgFullResetEnd => Sys2Proof.Machine.execWdgFullResetEnd s
  | .channelOutWrite m c v => Sys2Proof.Machine.execChannelOutWrite m c v s
  | .gateSlotStart => Sys2Proof.Machine.execGateSlotStart s
  | .gateAdmit => Sys2Proof.Machine.execGateAdmit s
  | .gateDeferExpiry => Sys2Proof.Machine.execGateDeferExpiry s
  | .inrushWindowClose c => Sys2Proof.Machine.execInrushWindowClose c s
  | .droopChange c below => Sys2Proof.Machine.execDroopChange c below s
  | .droopCapReached c => Sys2Proof.Machine.execDroopCapReached c s
  | .limWrite m c v => Sys2Proof.Machine.execLimWrite m c v s
  | .limitationStart u => Sys2Proof.Machine.execLimitationStart u s
  | .filteredTrip u we => Sys2Proof.Machine.execFilteredTrip u we s
  | .fastTrip u => Sys2Proof.Machine.execFastTrip u s
  | .turnOffComplete u energy we => Sys2Proof.Machine.execTurnOffComplete u energy we s
  | .retryTimerExpiry c => Sys2Proof.Machine.execRetryTimerExpiry c s
  | .retriesReload c => Sys2Proof.Machine.execRetriesReload c s
  | .thermalLatchSet u => Sys2Proof.Machine.execThermalLatchSet u s
  | .thermalLatchClear u => Sys2Proof.Machine.execThermalLatchClear u s
  | .actTlClr m u => Sys2Proof.Machine.execActTlClr m u s
  | .actUnlock m u => Sys2Proof.Machine.execActUnlock m u s
  | .actFuseReset m c => Sys2Proof.Machine.execActFuseReset m c s
  | .actRetryReset m c => Sys2Proof.Machine.execActRetryReset m c s
  | .actDiagNow m c => Sys2Proof.Machine.execActDiagNow m c s
  | .offStateCheckStart c => Sys2Proof.Machine.execOffStateCheckStart c s
  | .offStateCheckSample c high => Sys2Proof.Machine.execOffStateCheckSample c high s
  | .senseUpdate u raw vout tj phase limited => Sys2Proof.Machine.execSenseUpdate u raw vout tj phase limited s
  | .pwmPeriodStart u => Sys2Proof.Machine.execPwmPeriodStart u s
  | .lsClampConduction u energy => Sys2Proof.Machine.execLsClampConduction u energy s
  | .calderaTick temps inp led aux vlf ivlf => Sys2Proof.Machine.execCalderaTick temps inp led aux vlf ivlf s
  | .calderaRelease => Sys2Proof.Machine.execCalderaRelease s
  | .calderaDrainStep => Sys2Proof.Machine.execCalderaDrainStep s
  | .ambSetWrite m v => Sys2Proof.Machine.execAmbSetWrite m v s
  | .ambStale => Sys2Proof.Machine.execAmbStale s
  | .weBinBoundary => Sys2Proof.Machine.execWeBinBoundary s
  | .wiringEnergyCut c energy => Sys2Proof.Machine.execWiringEnergyCut c energy s
  | .hbDriveWrite m b v => Sys2Proof.Machine.execHbDriveWrite m b v s
  | .dirBrakeEnd b => Sys2Proof.Machine.execDirBrakeEnd b s
  | .brakeTimerEnd b => Sys2Proof.Machine.execBrakeTimerEnd b s
  | .stallDetect b => Sys2Proof.Machine.execStallDetect b s
  | .vdsFault g sw => Sys2Proof.Machine.execVdsFault g sw s
  | .cpUndervoltage => Sys2Proof.Machine.execCpUndervoltage s
  | .hbActClear m b => Sys2Proof.Machine.execHbActClear m b s
  | .chargePumpReady => Sys2Proof.Machine.execChargePumpReady s
  | .wiperParkStop g => Sys2Proof.Machine.execWiperParkStop g s
  | .gdActZero m g offset => Sys2Proof.Machine.execGdActZero m g offset s
  | .rippleCount x => Sys2Proof.Machine.execRippleCount x s
  | .rippleInsert g => Sys2Proof.Machine.execRippleInsert g s
  | .rpeLowFreqStall g => Sys2Proof.Machine.execRpeLowFreqStall g s
  | .actNormNow m g => Sys2Proof.Machine.execActNormNow m g s
  | .actNormClr m g => Sys2Proof.Machine.execActNormClr m g s
  | .targetGo m g v => Sys2Proof.Machine.execTargetGo m g v s
  | .pinchEvaluation g index vb => Sys2Proof.Machine.execPinchEvaluation g index vb s
  | .reversalRequest g => Sys2Proof.Machine.execReversalRequest g s
  | .profileWrite m g off v => Sys2Proof.Machine.execProfileWrite m g off v s
  | .valveOutWrite m n v => Sys2Proof.Machine.execValveOutWrite m n v s
  | .overlapTimeout n => Sys2Proof.Machine.execOverlapTimeout n s
  | .valvePeakEnd n index => Sys2Proof.Machine.execValvePeakEnd n index s
  | .armatureDip n index => Sys2Proof.Machine.execArmatureDip n index s
  | .valveRegulationPeriod n mean duty => Sys2Proof.Machine.execValveRegulationPeriod n mean duty s
  | .coilMeasurement n mv ma => Sys2Proof.Machine.execCoilMeasurement n mv ma s
  | .coilModelTick n => Sys2Proof.Machine.execCoilModelTick n s
  | .rampDownEnd n => Sys2Proof.Machine.execRampDownEnd n s
  | .bankTrip k fast => Sys2Proof.Machine.execBankTrip k fast s
  | .vbkActClear m k => Sys2Proof.Machine.execVbkActClear m k s
  | .valveActClear m n => Sys2Proof.Machine.execValveActClear m n s
  | .valveFreezeTurnOff n => Sys2Proof.Machine.execValveFreezeTurnOff n s
  | .fioTransitionAccept p level edge => Sys2Proof.Machine.execFioTransitionAccept p level edge s
  | .fioWake p level => Sys2Proof.Machine.execFioWake p level s
  | .keepaliveWrite m v => Sys2Proof.Machine.execKeepaliveWrite m v s
  | .keepaliveExpiry => Sys2Proof.Machine.execKeepaliveExpiry s
  | .kaResume m => Sys2Proof.Machine.execKaResume m s
  | .safePatternToggle p => Sys2Proof.Machine.execSafePatternToggle p s
  | .fioOpenLoad p => Sys2Proof.Machine.execFioOpenLoad p s
  | .fioExtHigh p => Sys2Proof.Machine.execFioExtHigh p s
  | .swiTransitionAccept n level => Sys2Proof.Machine.execSwiTransitionAccept n level s
  | .wettingTimerEnd n => Sys2Proof.Machine.execWettingTimerEnd n s
  | .cyclicSensePulse g levels => Sys2Proof.Machine.execCyclicSensePulse g levels s
  | .swiEvtRead m => Sys2Proof.Machine.execSwiEvtRead m s
  | .ssupOvercurrent k => Sys2Proof.Machine.execSsupOvercurrent k s
  | .ledFrameStart => Sys2Proof.Machine.execLedFrameStart s
  | .ledSyncEvent kind => Sys2Proof.Machine.execLedSyncEvent kind s
  | .swapReq m => Sys2Proof.Machine.execSwapReq m s
  | .ledElementTest e isOpen isShort => Sys2Proof.Machine.execLedElementTest e isOpen isShort s
  | .ledLineTrip l => Sys2Proof.Machine.execLedLineTrip l s
  | .lineClear m v => Sys2Proof.Machine.execLineClear m v s
  | .colHot hot => Sys2Proof.Machine.execColHot hot s
  | .diagRun m => Sys2Proof.Machine.execDiagRun m s
  | .ledDiagSlot shorts => Sys2Proof.Machine.execLedDiagSlot shorts s
  | .ledRestart m => Sys2Proof.Machine.execLedRestart m s
  | .ldcRefresh => Sys2Proof.Machine.execLdcRefresh s
  | .ldcTransferEnd ret => Sys2Proof.Machine.execLdcTransferEnd ret s
  | .ldcFdataAccess m wr => Sys2Proof.Machine.execLdcFdataAccess m wr s
  | .slotArm m index v devOk => Sys2Proof.Machine.execSlotArm m index v devOk s
  | .triggerMatch src idx edge => Sys2Proof.Machine.execTriggerMatch src idx edge s
  | .latchedSimmerStart index => Sys2Proof.Machine.execLatchedSimmerStart index s
  | .prepIssue index n => Sys2Proof.Machine.execPrepIssue index n s
  | .ctxTrigger m index => Sys2Proof.Machine.execCtxTrigger m index s
  | .ctxConfirm m index => Sys2Proof.Machine.execCtxConfirm m index s
  | .ctxCancel m index => Sys2Proof.Machine.execCtxCancel m index s
  | .commitApply index => Sys2Proof.Machine.execCommitApply index s
  | .simmerDeadline index => Sys2Proof.Machine.execSimmerDeadline index s
  | .remoteSimmerStart index ts => Sys2Proof.Machine.execRemoteSimmerStart index ts s
  | .commitBroadcastReceive index ta => Sys2Proof.Machine.execCommitBroadcastReceive index ta s
  | .commitAckTimeout index => Sys2Proof.Machine.execCommitAckTimeout index s
  | .ferRun m g => Sys2Proof.Machine.execFerRun m g s
  | .ferStopReq m g => Sys2Proof.Machine.execFerStopReq m g s
  | .ferStartTick g => Sys2Proof.Machine.execFerStartTick g s
  | .ferWordAct g => Sys2Proof.Machine.execFerWordAct g s
  | .canFrameReceived c f edge => Sys2Proof.Machine.execCanFrameReceived c f edge s
  | .canFrameSent c edge => Sys2Proof.Machine.execCanFrameSent c edge s
  | .canFrameError c kind fast te re => Sys2Proof.Machine.execCanFrameError c kind fast te re s
  | .canTxReq m c v => Sys2Proof.Machine.execCanTxReq m c v s
  | .canTxAbort m c v => Sys2Proof.Machine.execCanTxAbort m c v s
  | .canRxqRel m c q v => Sys2Proof.Machine.execCanRxqRel m c q v s
  | .canRxslotNewClear m c w v => Sys2Proof.Machine.execCanRxslotNewClear m c w v s
  | .canTxtsPop m c => Sys2Proof.Machine.execCanTxtsPop m c s
  | .canBusoffRecovery c => Sys2Proof.Machine.execCanBusoffRecovery c s
  | .canTxdTimeout t => Sys2Proof.Machine.execCanTxdTimeout t s
  | .canThermalShutdown t => Sys2Proof.Machine.execCanThermalShutdown t s
  | .ctrxModeWrite m t v => Sys2Proof.Machine.execCtrxModeWrite m t v s
  | .schedStart m c => Sys2Proof.Machine.execSchedStart m c s
  | .schedStop m c => Sys2Proof.Machine.execSchedStop m c s
  | .awdServe m c => Sys2Proof.Machine.execAwdServe m c s
  | .awdExpiry c => Sys2Proof.Machine.execAwdExpiry c s
  | .timeMark c e => Sys2Proof.Machine.execTimeMark c e s
  | .referenceMessage c f edge => Sys2Proof.Machine.execReferenceMessage c f edge s
  | .linCmdRun m l => Sys2Proof.Machine.execLinCmdRun m l s
  | .linCmdStop m l => Sys2Proof.Machine.execLinCmdStop m l s
  | .linCmdSleep m l => Sys2Proof.Machine.execLinCmdSleep m l s
  | .linCmdWake m l => Sys2Proof.Machine.execLinCmdWake m l s
  | .linSlotStart l => Sys2Proof.Machine.execLinSlotStart l s
  | .linHeaderReceived l id parity baud => Sys2Proof.Machine.execLinHeaderReceived l id parity baud s
  | .linFrameEnd l err ts data => Sys2Proof.Machine.execLinFrameEnd l err ts data s
  | .linNoResponse l part ts => Sys2Proof.Machine.execLinNoResponse l part ts s
  | .linBusIdle l => Sys2Proof.Machine.execLinBusIdle l s
  | .linTxdTimeout l => Sys2Proof.Machine.execLinTxdTimeout l s
  | .linBusWake l => Sys2Proof.Machine.execLinBusWake l s
  | .macKick m k => Sys2Proof.Machine.execMacKick m k s
  | .macFrameSent k err ts tries => Sys2Proof.Machine.execMacFrameSent k err ts tries s
  | .macFrameReceived k err ts data => Sys2Proof.Machine.execMacFrameReceived k err ts data s
  | .mdioStart m v => Sys2Proof.Machine.execMdioStart m v s
  | .mdioComplete rdata => Sys2Proof.Machine.execMdioComplete rdata s
  | .plcaBeaconLost => Sys2Proof.Machine.execPlcaBeaconLost s
  | .sampleCommit m tag => Sys2Proof.Machine.execSampleCommit m tag s
  | .acceptStep m => Sys2Proof.Machine.execAcceptStep m s
  | .acceptRebase m => Sys2Proof.Machine.execAcceptRebase m s
  | .slewEnd => Sys2Proof.Machine.execSlewEnd s
  | .sampleTimeout => Sys2Proof.Machine.execSampleTimeout s
  | .holdoverExpiry => Sys2Proof.Machine.execHoldoverExpiry s
  | .ntSrcWrite m v => Sys2Proof.Machine.execNtSrcWrite m v s
  | .ntSecondPulse => Sys2Proof.Machine.execNtSecondPulse s
  | .canWakePattern t => Sys2Proof.Machine.execCanWakePattern t s
  | .selectiveWakeFrame t f => Sys2Proof.Machine.execSelectiveWakeFrame t f s
  | .swkFrameError t => Sys2Proof.Machine.execSwkFrameError t s
  | .swkDecoderTimeout t => Sys2Proof.Machine.execSwkDecoderTimeout t s
  | .falseWakeWindowEnd t => Sys2Proof.Machine.execFalseWakeWindowEnd t s
  | .linFalseWakeWindowEnd l => Sys2Proof.Machine.execLinFalseWakeWindowEnd l s
  | .nmMessage b f buf => Sys2Proof.Machine.execNmMessage b f buf s
  | .nmTimeout b => Sys2Proof.Machine.execNmTimeout b s
  | .wbsExpiry b => Sys2Proof.Machine.execWbsExpiry b s
  | .needVoteWrite m b v => Sys2Proof.Machine.execNeedVoteWrite m b v s
  | .nmCycle b => Sys2Proof.Machine.execNmCycle b s
  | .nmCommit m v => Sys2Proof.Machine.execNmCommit m v s
  | .deferLatch t => Sys2Proof.Machine.execDeferLatch t s
  | .deferRelease m => Sys2Proof.Machine.execDeferRelease m s
  | .ceilExpiry => Sys2Proof.Machine.execCeilExpiry s
  | .ceilRestart m => Sys2Proof.Machine.execCeilRestart m s
  | .keepClr m b => Sys2Proof.Machine.execKeepClr m b s
  | .actTuneNow m => Sys2Proof.Machine.execActTuneNow m s
  | .tuningComplete tune opn shorted => Sys2Proof.Machine.execTuningComplete tune opn shorted s
  | .lfShort n => Sys2Proof.Machine.execLfShort n s
  | .lfOpen n => Sys2Proof.Machine.execLfOpen n s
  | .lfThermal hot => Sys2Proof.Machine.execLfThermal hot s
  | .immoCmdGo m go mask => Sys2Proof.Machine.execImmoCmdGo m go mask s
  | .immoCmdAbort m => Sys2Proof.Machine.execImmoCmdAbort m s
  | .immoTpRead m => Sys2Proof.Machine.execImmoTpRead m s
  | .telegramEnd sat => Sys2Proof.Machine.execTelegramEnd sat s
  | .answerSlotClose k viol resp crc => Sys2Proof.Machine.execAnswerSlotClose k viol resp crc s
  | .immoVerdict m k valid => Sys2Proof.Machine.execImmoVerdict m k valid s
  | .verifyTimeout k => Sys2Proof.Machine.execVerifyTimeout k s
  | .listeningEnd => Sys2Proof.Machine.execListeningEnd s
  | .repeatTelegram => Sys2Proof.Machine.execRepeatTelegram s
  | .pendingExchangeStart => Sys2Proof.Machine.execPendingExchangeStart s
  | .transponderEnd viol head resp crc => Sys2Proof.Machine.execTransponderEnd viol head resp crc s
  | .lfPoll sat => Sys2Proof.Machine.execLfPoll sat s
  | .pollAnswer head crc => Sys2Proof.Machine.execPollAnswer head crc s
  | .standingMinute => Sys2Proof.Machine.execStandingMinute s
  | .actStandClr m => Sys2Proof.Machine.execActStandClr m s
  | .relSend m => Sys2Proof.Machine.execRelSend m s
  | .relRepeat => Sys2Proof.Machine.execRelRepeat s
  | .relAck => Sys2Proof.Machine.execRelAck s
  | .relGiveUp => Sys2Proof.Machine.execRelGiveUp s
  | .relStop m => Sys2Proof.Machine.execRelStop m s
  | .ringSyncFrame delta int frac dly hops tell => Sys2Proof.Machine.execRingSyncFrame delta int frac dly hops tell s
  | .ringMasterStep => Sys2Proof.Machine.execRingMasterStep s
  | .ringSyncTimeout => Sys2Proof.Machine.execRingSyncTimeout s
  | .ringAlignment a b broken => Sys2Proof.Machine.execRingAlignment a b broken s
  | .bypassOpen => Sys2Proof.Machine.execBypassOpen s
  | .ringStatus d limp low derating p0 locked total ups ahead share => Sys2Proof.Machine.execRingStatus d limp low derating p0 locked total ups ahead share s
  | .ringStatusTimeout d => Sys2Proof.Machine.execRingStatusTimeout d s
  | .ringBreak d port => Sys2Proof.Machine.execRingBreak d port s
  | .ringBrokenClear => Sys2Proof.Machine.execRingBrokenClear s
  | .ringWakePattern => Sys2Proof.Machine.execRingWakePattern s
  | .ringWakeFrame d => Sys2Proof.Machine.execRingWakeFrame d s
  | .ringIrqForward d page => Sys2Proof.Machine.execRingIrqForward d page s
  | .ringFwdRead m => Sys2Proof.Machine.execRingFwdRead m s
  | .sharedGateForward d page chan rank x h prio t => Sys2Proof.Machine.execSharedGateForward d page chan rank x h prio t s
  | .sharedAdmissionApply page chan ok => Sys2Proof.Machine.execSharedAdmissionApply page chan ok s
  | .interruptEntry c => Sys2Proof.Machine.execInterruptEntry c s
  | .haltResume c => Sys2Proof.Machine.execHaltResume c s
  | .resultLanding c => Sys2Proof.Machine.execResultLanding c s
  | .iIll c => Sys2Proof.Machine.execIIll c s
  | .iAdd c rd ra rb => Sys2Proof.Machine.execIAdd c rd ra rb s
  | .iSub c rd ra rb => Sys2Proof.Machine.execISub c rd ra rb s
  | .iAnd c rd ra rb => Sys2Proof.Machine.execIAnd c rd ra rb s
  | .iOr c rd ra rb => Sys2Proof.Machine.execIOr c rd ra rb s
  | .iXor c rd ra rb => Sys2Proof.Machine.execIXor c rd ra rb s
  | .iNor c rd ra rb => Sys2Proof.Machine.execINor c rd ra rb s
  | .iSll c rd ra rb => Sys2Proof.Machine.execISll c rd ra rb s
  | .iSrl c rd ra rb => Sys2Proof.Machine.execISrl c rd ra rb s
  | .iSra c rd ra rb => Sys2Proof.Machine.execISra c rd ra rb s
  | .iSlli c rd ra sh => Sys2Proof.Machine.execISlli c rd ra sh s
  | .iSrli c rd ra sh => Sys2Proof.Machine.execISrli c rd ra sh s
  | .iSrai c rd ra sh => Sys2Proof.Machine.execISrai c rd ra sh s
  | .iMin c rd ra rb => Sys2Proof.Machine.execIMin c rd ra rb s
  | .iMax c rd ra rb => Sys2Proof.Machine.execIMax c rd ra rb s
  | .iMinu c rd ra rb => Sys2Proof.Machine.execIMinu c rd ra rb s
  | .iMaxu c rd ra rb => Sys2Proof.Machine.execIMaxu c rd ra rb s
  | .iClz c rd ra => Sys2Proof.Machine.execIClz c rd ra s
  | .iBswap c rd ra => Sys2Proof.Machine.execIBswap c rd ra s
  | .iAdds c rd ra rb => Sys2Proof.Machine.execIAdds c rd ra rb s
  | .iSubs c rd ra rb => Sys2Proof.Machine.execISubs c rd ra rb s
  | .iMul c rd ra rb => Sys2Proof.Machine.execIMul c rd ra rb s
  | .iMulh c rd ra rb => Sys2Proof.Machine.execIMulh c rd ra rb s
  | .iMulhu c rd ra rb => Sys2Proof.Machine.execIMulhu c rd ra rb s
  | .iMac c rd ra rb => Sys2Proof.Machine.execIMac c rd ra rb s
  | .iDiv c rd ra rb => Sys2Proof.Machine.execIDiv c rd ra rb s
  | .iDivu c rd ra rb => Sys2Proof.Machine.execIDivu c rd ra rb s
  | .iRem c rd ra rb => Sys2Proof.Machine.execIRem c rd ra rb s
  | .iRemu c rd ra rb => Sys2Proof.Machine.execIRemu c rd ra rb s
  | .iCeq c rd ra rb => Sys2Proof.Machine.execICeq c rd ra rb s
  | .iCne c rd ra rb => Sys2Proof.Machine.execICne c rd ra rb s
  | .iClt c rd ra rb => Sys2Proof.Machine.execIClt c rd ra rb s
  | .iCltu c rd ra rb => Sys2Proof.Machine.execICltu c rd ra rb s
  | .iCle c rd ra rb => Sys2Proof.Machine.execICle c rd ra rb s
  | .iCleu c rd ra rb => Sys2Proof.Machine.execICleu c rd ra rb s
  | .iSel c rd ra rb rc => Sys2Proof.Machine.execISel c rd ra rb rc s
  | .iAddi c rd ra imm => Sys2Proof.Machine.execIAddi c rd ra imm s
  | .iAndi c rd ra imm => Sys2Proof.Machine.execIAndi c rd ra imm s
  | .iOri c rd ra imm => Sys2Proof.Machine.execIOri c rd ra imm s
  | .iXori c rd ra imm => Sys2Proof.Machine.execIXori c rd ra imm s
  | .iLui c rd imm => Sys2Proof.Machine.execILui c rd imm s
  | .iClti c rd ra imm => Sys2Proof.Machine.execIClti c rd ra imm s
  | .iCltiu c rd ra imm => Sys2Proof.Machine.execICltiu c rd ra imm s
  | .iCeqi c rd ra imm => Sys2Proof.Machine.execICeqi c rd ra imm s
  | .iLdw c rd ra imm => Sys2Proof.Machine.execILdw c rd ra imm s
  | .iLdh c rd ra imm => Sys2Proof.Machine.execILdh c rd ra imm s
  | .iLdhu c rd ra imm => Sys2Proof.Machine.execILdhu c rd ra imm s
  | .iLdb c rd ra imm => Sys2Proof.Machine.execILdb c rd ra imm s
  | .iLdbu c rd ra imm => Sys2Proof.Machine.execILdbu c rd ra imm s
  | .iStw c rs ra imm => Sys2Proof.Machine.execIStw c rs ra imm s
  | .iSth c rs ra imm => Sys2Proof.Machine.execISth c rs ra imm s
  | .iStb c rs ra imm => Sys2Proof.Machine.execIStb c rs ra imm s
  | .iLdwp c rd ra imm => Sys2Proof.Machine.execILdwp c rd ra imm s
  | .iStwp c rs ra imm => Sys2Proof.Machine.execIStwp c rs ra imm s
  | .iSwp c rd ra rb => Sys2Proof.Machine.execISwp c rd ra rb s
  | .iIn c rd ra imm kind ans => Sys2Proof.Machine.execIIn c rd ra imm kind ans s
  | .iOut c rs ra imm kind => Sys2Proof.Machine.execIOut c rs ra imm kind s
  | .iInp c rd ra imm kind ans => Sys2Proof.Machine.execIInp c rd ra imm kind ans s
  | .iOutp c rs ra imm kind => Sys2Proof.Machine.execIOutp c rs ra imm kind s
  | .iBz c rc off => Sys2Proof.Machine.execIBz c rc off s
  | .iBnz c rc off => Sys2Proof.Machine.execIBnz c rc off s
  | .iJump c off => Sys2Proof.Machine.execIJump c off s
  | .iCall c off => Sys2Proof.Machine.execICall c off s
  | .iJr c ra => Sys2Proof.Machine.execIJr c ra s
  | .iCallr c ra => Sys2Proof.Machine.execICallr c ra s
  | .iRet c => Sys2Proof.Machine.execIRet c s
  | .iReti c => Sys2Proof.Machine.execIReti c s
  | .iLoop c lvl ra len => Sys2Proof.Machine.execILoop c lvl ra len s
  | .iLoopi c lvl count len => Sys2Proof.Machine.execILoopi c lvl count len s
  | .iLbrk c lvl => Sys2Proof.Machine.execILbrk c lvl s
  | .iRep c ok => Sys2Proof.Machine.execIRep c ok s
  | .iMfc c rd idx => Sys2Proof.Machine.execIMfc c rd idx s
  | .iMtc c ra idx => Sys2Proof.Machine.execIMtc c ra idx s
  | .iSys c imm => Sys2Proof.Machine.execISys c imm s
  | .iBrk c imm => Sys2Proof.Machine.execIBrk c imm s
  | .iHalt c => Sys2Proof.Machine.execIHalt c s
  | .iSpill c => Sys2Proof.Machine.execISpill c s
  | .iFill c => Sys2Proof.Machine.execIFill c s
  | .reservedEncoding c => Sys2Proof.Machine.execReservedEncoding c s
  | .mboxPush m b v => Sys2Proof.Machine.execMboxPush m b v s
  | .mboxPop m b => Sys2Proof.Machine.execMboxPop m b s
  | .irqSoftSet m c hi v => Sys2Proof.Machine.execIrqSoftSet m c hi v s
  | .irqSoftClr m c hi v => Sys2Proof.Machine.execIrqSoftClr m c hi v s
  | .wbufWrite m j v => Sys2Proof.Machine.execWbufWrite m j v s
  | .wcmd m page off len => Sys2Proof.Machine.execWcmd m page off len s
  | .wbufRel m => Sys2Proof.Machine.execWbufRel m s
  | .pageWriteStart => Sys2Proof.Machine.execPageWriteStart s
  | .pageWriteComplete => Sys2Proof.Machine.execPageWriteComplete s
  | .lowvWaitExpiry => Sys2Proof.Machine.execLowvWaitExpiry s
  | .protWrite m bp => Sys2Proof.Machine.execProtWrite m bp s
  | .pwPresent m part kind => Sys2Proof.Machine.execPwPresent m part kind s
  | .pwChange m part kind => Sys2Proof.Machine.execPwChange m part kind s
  | .pwClose m part kind => Sys2Proof.Machine.execPwClose m part kind s
  | .lockoutEnd part => Sys2Proof.Machine.execLockoutEnd part s
  | .recRead m k => Sys2Proof.Machine.execRecRead m k s
  | .recWrite m k => Sys2Proof.Machine.execRecWrite m k s
  | .cntRead m k => Sys2Proof.Machine.execCntRead m k s
  | .cntInc m k => Sys2Proof.Machine.execCntInc m k s
  | .cntRaise m k => Sys2Proof.Machine.execCntRaise m k s
  | .cntClear m k => Sys2Proof.Machine.execCntClear m k s
  | .recErase m k => Sys2Proof.Machine.execRecErase m k s
  | .recCommandDone k => Sys2Proof.Machine.execRecCommandDone k s
  | .skimMarginRead weak ue corr => Sys2Proof.Machine.execSkimMarginRead weak ue corr s
  | .skimRefresh => Sys2Proof.Machine.execSkimRefresh s
  | .hkRomBoot => Sys2Proof.Machine.execHkRomBoot s
  | .coreReload c => Sys2Proof.Machine.execCoreReload c s
  | .updStart m slot => Sys2Proof.Machine.execUpdStart m slot s
  | .updFinish m slot => Sys2Proof.Machine.execUpdFinish m slot s
  | .updAbort m slot => Sys2Proof.Machine.execUpdAbort m slot s
  | .imageQuarterWrite a l => Sys2Proof.Machine.execImageQuarterWrite a l s
  | .imageBlockProgrammed b => Sys2Proof.Machine.execImageBlockProgrammed b s
  | .digestVerifyComplete => Sys2Proof.Machine.execDigestVerifyComplete s
  | .chgTrialNext m => Sys2Proof.Machine.execChgTrialNext m s
  | .chgHoldAll m => Sys2Proof.Machine.execChgHoldAll m s
  | .chgReload m v => Sys2Proof.Machine.execChgReload m v s
  | .chgReady m v => Sys2Proof.Machine.execChgReady m v s
  | .chgSwitch m => Sys2Proof.Machine.execChgSwitch m s
  | .chgReleaseAll m => Sys2Proof.Machine.execChgReleaseAll m s
  | .chgHealthOk m => Sys2Proof.Machine.execChgHealthOk m s
  | .chgRestart m => Sys2Proof.Machine.execChgRestart m s
  | .chgHoldExpiry => Sys2Proof.Machine.execChgHoldExpiry s
  | .healthWindowExpiry => Sys2Proof.Machine.execHealthWindowExpiry s
  | .rootProgram m r ok => Sys2Proof.Machine.execRootProgram m r ok s
  | .rootSeal m ok => Sys2Proof.Machine.execRootSeal m ok s
  | .rootReturn m ok => Sys2Proof.Machine.execRootReturn m ok s
  | .attGo m => Sys2Proof.Machine.execAttGo m s
  | .attReportDone t => Sys2Proof.Machine.execAttReportDone t s
  | .spiFrame words extra wins => Sys2Proof.Machine.execSpiFrame words extra wins s
  | .udpRequest k dst src port dport plain sum words wins => Sys2Proof.Machine.execUdpRequest k dst src port dport plain sum words wins s
  | .ringHostRequest words => Sys2Proof.Machine.execRingHostRequest words s
  | .ringRequestTimeout => Sys2Proof.Machine.execRingRequestTimeout s
  | .hostNop tag => Sys2Proof.Machine.execHostNop tag s
  | .hostRead tag count space addr wins => Sys2Proof.Machine.execHostRead tag count space addr wins s
  | .hostWrite tag count space addr words wins => Sys2Proof.Machine.execHostWrite tag count space addr words wins s
  | .hostReadFix tag count space addr wins => Sys2Proof.Machine.execHostReadFix tag count space addr wins s
  | .hostWriteFix tag count space addr words wins => Sys2Proof.Machine.execHostWriteFix tag count space addr words wins s
  | .monRead space addr n wins => Sys2Proof.Machine.execMonRead space addr n wins s
  | .monWrite space addr words wins => Sys2Proof.Machine.execMonWrite space addr words wins s
  | .monDump space addr n wins => Sys2Proof.Machine.execMonDump space addr n wins s
  | .monBlockLoad space addr words crc => Sys2Proof.Machine.execMonBlockLoad space addr words crc s
  | .monHalt c => Sys2Proof.Machine.execMonHalt c s
  | .monStep c n => Sys2Proof.Machine.execMonStep c n s
  | .monResume c => Sys2Proof.Machine.execMonResume c s
  | .monEndDebug c => Sys2Proof.Machine.execMonEndDebug c s
  | .monPrintState c => Sys2Proof.Machine.execMonPrintState c s
  | .monPrintLog => Sys2Proof.Machine.execMonPrintLog s
  | .monSetRate r => Sys2Proof.Machine.execMonSetRate r s
  | .monChallenge => Sys2Proof.Machine.execMonChallenge s
  | .monAnswer slot sig => Sys2Proof.Machine.execMonAnswer slot sig s
  | .monClose => Sys2Proof.Machine.execMonClose s
  | .eccFill m => Sys2Proof.Machine.execEccFill m s
  | .scrubStep m c a cols last => Sys2Proof.Machine.execScrubStep m c a cols last s
  | .logDeltaWrite m index v => Sys2Proof.Machine.execLogDeltaWrite m index v s
  | .logMinuteTick hot => Sys2Proof.Machine.execLogMinuteTick hot s
  | .resetNFall => Sys2Proof.Machine.execResetNFall s
  | .uncertSaturation => Sys2Proof.Machine.execUncertSaturation s
  | .limitationEnd u we => Sys2Proof.Machine.execLimitationEnd u we s
  | .swiRawChange n level => Sys2Proof.Machine.execSwiRawChange n level s
  | .lfPollEnd => Sys2Proof.Machine.execLfPollEnd s
  | .commitAcknowledgement index d => Sys2Proof.Machine.execCommitAcknowledgement index d s
  | .canThermalRecovery t => Sys2Proof.Machine.execCanThermalRecovery t s
  | .canBusDominantTimeout t => Sys2Proof.Machine.execCanBusDominantTimeout t s
  | .vcc5RegulationChange low => Sys2Proof.Machine.execVcc5RegulationChange low s
  | .canIntegrationComplete c => Sys2Proof.Machine.execCanIntegrationComplete c s
  | .plcaBeaconSeen => Sys2Proof.Machine.execPlcaBeaconSeen s

end Sys2Proof.Machine
end

