-- ==== Sys2Proof/Machine/Step.lean ====
section
/-! DEFINITION. A step: the oldest waiting command takes effect, or a clock passes. -/

namespace Sys2Proof.Machine

/-- Take the command at the front of the queue; on an empty queue one clock of the running source of TB passes (log 9). -/
def step (s : State) : Host.Outcome State Fault Refusal :=
  match s.pending with
  | [] => .next (ringTick s)
  | c :: q => exec c { s with pending := q }

/-- `s` with the command that a table word spells at the front of its queue; no word spells one (log 1). -/
def State.withFetchWord (s : State) (nbits w : Nat) : State :=
  match decodeTableWord nbits w with
  | some c => { s with pending := c :: s.pending }
  | none => s

end Sys2Proof.Machine
end

