-- ==== Sys2Proof/Safety.lean ====
section
/-! DEFINITION. What the claims mean by a well-formed state, a safe step and a step that keeps a property. -/

namespace Sys2Proof

/-- Rising keys, the form in which every sparse table and memory is kept. -/
def Machine.rising {α : Type} (t : Table α) : Prop := t.Pairwise fun a b => a.1 < b.1

/-- A step that ends in a next state, which has property `P`. -/
def Machine.Completes (o : Host.Outcome Machine.State Machine.Fault Machine.Refusal) (P : Machine.State → Prop) : Prop :=
  ∃ t, o = .next t ∧ P t

/-- Whether a write of `v` at offset `off` of page `p` reaches its register: the clocks run, the page is used and its domain on, no page write keeps the EEPROM's
page waiting, no HOLD puts the write into the shadow, no stored first key is broken, no locked field would change and every value is
legal (R59, R65, R70, R71, R75, R85, R514, R596). -/
def Machine.State.takes (s : Machine.State) (p off v : Nat) : Bool :=
  !s.clk.frozen && Machine.pageUsed p && s.pageOn p && !(p == Machine.nvmPage && s.macroBusy) && !(s.flag Machine.H_STAT_HELD p && !Machine.holdExempt p off) && !Machine.breaksKey s p off &&
    !Machine.lockBroken s p off v && Machine.rangeOk p off v

/-- The state in which a write that reaches page `p` takes effect: the access is answered, and the page's domain has another requester. -/
def Machine.State.reached (s : Machine.State) (p : Nat) : Machine.State := (s.needPage p).answer .ok

/-- Core `c` issues an instruction in `s`: nothing holds it back and the word at its PC is correctable (R475, R478, R583). -/
def Machine.State.issues (s : Machine.State) (c : Nat) : Bool := s.canIssue c && !s.isBad 0 c (s.cr c).fetchAt

/-- Core `c` as the instruction that it issues in `s` sees it: the results that are due have landed (R476). -/
def Machine.State.seen (s : Machine.State) (c : Nat) : Machine.Core := (s.cr c).tick

/-- General register `r` of core `k` as a word. -/
def Machine.Core.word (k : Machine.Core) (r : Nat) : BitVec 32 := BitVec.ofNat 32 (k.reg r)

/-- A 16-bit immediate as a sign-extended word (R487). -/
def Machine.immWord (imm : Nat) : BitVec 32 := (BitVec.ofNat 16 imm).signExtend 32

/-- On every state in which core `c` issues, and whose registers `src` hold words, instruction `i` completes, writes `v` to register `rd`, to be
seen by the `n`-th instruction after it, and changes nothing else but what the end of an instruction changes in the core. -/
def Machine.Computes (i : Instr) (c n rd : Nat) (src : List Nat) (v : Machine.Core → Nat) : Prop :=
  ∀ s : Machine.State, s.issues c = true → (∀ r ∈ src, (s.seen c).reg r < 2 ^ 32) →
    Machine.exec i s = .next (s.setCr c (((s.seen c).result n rd (v (s.seen c))).finish))

/-- The core that an instruction or core event names when it stays within the core and D-space: every Sirham command but IN, OUT, INP, OUTP
and HALT. -/
def Instr.coreOf : Instr → Option Nat
  | .interruptEntry c | .haltResume c | .resultLanding c | .iIll c | .iAdd c _ _ _ | .iSub c _ _ _ | .iAnd c _ _ _ | .iOr c _ _ _
  | .iXor c _ _ _ | .iNor c _ _ _ | .iSll c _ _ _ | .iSrl c _ _ _ | .iSra c _ _ _ | .iSlli c _ _ _ | .iSrli c _ _ _ | .iSrai c _ _ _
  | .iMin c _ _ _ | .iMax c _ _ _ | .iMinu c _ _ _ | .iMaxu c _ _ _ | .iClz c _ _ | .iBswap c _ _ | .iAdds c _ _ _ | .iSubs c _ _ _
  | .iMul c _ _ _ | .iMulh c _ _ _ | .iMulhu c _ _ _ | .iMac c _ _ _ | .iDiv c _ _ _ | .iDivu c _ _ _ | .iRem c _ _ _ | .iRemu c _ _ _
  | .iCeq c _ _ _ | .iCne c _ _ _ | .iClt c _ _ _ | .iCltu c _ _ _ | .iCle c _ _ _ | .iCleu c _ _ _ | .iSel c _ _ _ _ | .iAddi c _ _ _
  | .iAndi c _ _ _ | .iOri c _ _ _ | .iXori c _ _ _ | .iLui c _ _ | .iClti c _ _ _ | .iCltiu c _ _ _ | .iCeqi c _ _ _ | .iLdw c _ _ _
  | .iLdh c _ _ _ | .iLdhu c _ _ _ | .iLdb c _ _ _ | .iLdbu c _ _ _ | .iStw c _ _ _ | .iSth c _ _ _ | .iStb c _ _ _ | .iLdwp c _ _ _
  | .iStwp c _ _ _ | .iSwp c _ _ _ | .iBz c _ _ | .iBnz c _ _ | .iJump c _ | .iCall c _ | .iJr c _ | .iCallr c _ | .iRet c | .iReti c
  | .iLoop c _ _ _ | .iLoopi c _ _ _ | .iLbrk c _ | .iRep c _ | .iMfc c _ _ | .iMtc c _ _ | .iSys c _ | .iBrk c _ | .iSpill c
  | .iFill c | .reservedEncoding c => some c
  | _ => none

/-- Whether a command of a core may store to D-space. -/
def Instr.storesD : Instr → Bool
  | .iStw _ _ _ _ | .iSth _ _ _ _ | .iStb _ _ _ _ | .iStwp _ _ _ _ | .iSwp _ _ _ _ | .iSpill _ | .reservedEncoding _ => true
  | _ => false

/-- What holds of core `k` at every time: FRAMES from 1 to 15, the window at a multiple of 8 within the file, PC and every address that it can
take at a multiple of 4 within I-space, and every value within its width (R475, R479, R480, R482). -/
structure Machine.Core.Ok (k : Machine.Core) : Prop where
  frames : 1 ≤ k.frames ∧ k.frames ≤ 15
  base : k.base < 248 ∧ k.base % 8 = 0
  pc : k.pc < 65536 ∧ k.pc % 4 = 0
  slot : ∀ d, k.slot = some d → d.target < 65536 ∧ d.target % 4 = 0
  loops : ∀ l, Machine.tget k.lstart l 0 < 65536 ∧ Machine.tget k.lstart l 0 % 4 = 0 ∧ Machine.tget k.lend l 0 < 65536 ∧
    Machine.tget k.lend l 0 % 4 = 0 ∧ Machine.tget k.lcount l 0 < 65536
  vbase : k.vbase < 65536 ∧ k.vbase % 2048 = 0
  spillp : k.spillp < 2 ^ 32 ∧ k.spillp % 4 = 0
  rpt : k.rpt < 65536
  ibank : k.ibank ≤ 1
  regs : (∀ r, Machine.tget k.glob r 0 < 2 ^ 32) ∧ ∀ r, Machine.tget k.win r 0 < 2 ^ 32
  pend : ∀ p ∈ k.pend, p.val < 2 ^ 32

/-- Every core is as it must be. -/
def Machine.CoresOk (s : Machine.State) : Prop := ∀ c, (s.cr c).Ok

/-- The memories that cores reach stand in their canonical form. -/
def Machine.MemoriesOk (s : Machine.State) : Prop :=
  Machine.Memory.wf 0 s.sram = true ∧ Machine.Memory.wf 0 s.rind = true ∧ Machine.Memory.wf 0xFF s.cnvm = true ∧ Machine.Memory.wf 0xFF s.eeprom = true ∧
    ∀ c, Machine.Memory.wf 0 (Machine.tget s.dram c []) = true ∧ Machine.Memory.wf 0 (Machine.tget s.iram c []) = true

end Sys2Proof
end

