-- ==== Sys2Proof/Certificates/Slice0/Obligations.lean ====
section
/-! DEFINITION. The statements about the KV1 that are to be proved. -/

open Sys2Proof Sys2Proof.Machine

/-- For every command c, queue q and state s, a step of s with c in front of q is exec of c on s with the queue q. On an empty queue a step is
one clock of the time base; that reading of an idle step is the model's own choice (log 9). -/
def Obligations.StepRunsFront : Prop :=
  (∀ (c : Instr) (q : List Instr) (s : State), step { s with pending := c :: q } = exec c { s with pending := q }) ∧
  (∀ (s : State), s.pending = [] → step s = .next (ringTick s))

/-- Each command of the register header and the bus completes with its effect. A write that reaches its register does what the register does (a
write of CTX_CTRL with its device fact free, log 47); one to a held page goes to the end of the shadow. EN cleared begins the drain,
EN set starts the block, a drain that is complete clears DRAINING and sets IDLE. SRST at rest resets the page. HOLD set by the HK or
the host sets HELD, HOLD cleared starts the shadow's application, which then clears HELD. LOCKKEY acts as the unlock sequence. IRQ_SET
sets raw bits, and a raw bit whose event falls in the same clock stays set (log 19). An access to an address that is not used is
answered as unmapped. An access to a domain that is off without AUTOWAKE returns 0xD0FF_D0FF. An access of a core that has waited 200
µs for a domain, or 250 µs for a satellite device, ends with a timeout, and an answer through a window is what the satellite device
gave. As its conclusion exec answers a next state, under conditions on the state and the operands alone, for each of the constructors:
registerWrite, shadowWrite, ctrlEnClear, ctrlEnSet, drainComplete, ctrlSrst, ctrlHoldSet, ctrlHoldClear, shadowApplyComplete,
lockkeyWrite, irqSetWrite, irqRawClear, unmappedAccess, domainOffAccess, stallTimeout, windowTimeout, satelliteWindowAccess. -/
def Obligations.BusCommands : Prop :=
  (∀ (s b : State) (m : Master) (page off : Nat) (v : Word), s.busAt page = b → b.takes page off v.toNat = true → (page ≠ ahdPage ∨ off < 0x40 ∨ off %
      0x40 ≠ 0) → exec (.registerWrite m page off v) s = .next (regEff m page off v.toNat (b.reached page))) ∧
  (∀ (s : State) (m : Master) (i : Nat) (v : Word), s.takes ahdPage (slotOff i 0) v.toNat = true → s.flag H_STAT_HELD ahdPage = false → exec
      (.registerWrite m ahdPage (slotOff i 0) v) s = .next (ctxEff m i v.toNat (Config.freeNat s.free % 128) (({ s with free := s.free + 1 } :
      State).reached ahdPage))) ∧
  (∀ (s b : State) (m : Master) (page off : Nat) (v : Word), s.busAt page = b → b.clk.frozen = false → pageUsed page = true → b.pageOn page = true → page
      ≠ nvmPage → (page ≠ ahdPage ∨ off % 0x40 ≠ 0) → (page ≠ nmkPage ∨ off ≠ 0x40) → b.flag H_STAT_HELD page = true → holdExempt page off = false →
      breaksKey b page off = false → (tget b.shadow page []).length < 64 → exec (.shadowWrite m page off v) s = .next
      { b.reached page with shadow := tput b.shadow page [] (tget b.shadow page [] ++ [⟨m.code, off, v.toNat⟩]) }) ∧
  (∀ (s b : State) (m : Master) (page : Nat), s.busAt page = b → b.takes page 8 (4 * b2n (b.flag H_CTRL_HOLD page)) = true → b.flag H_CTRL_EN page = true
      → b.flag H_STAT_DRAINING page = false → page ≠ govPage → exec (.ctrlEnClear m page) s = .next (drainHook (((b.reached page).put H_CTRL_EN page
      false).put H_STAT_DRAINING page true) page)) ∧
  (∀ (s b : State) (m : Master) (page : Nat), s.busAt page = b → b.takes page 8 (1 + 4 * b2n (b.flag H_CTRL_HOLD page)) = true → b.flag H_CTRL_EN page =
      false → b.flag H_STAT_DRAINING page = false → (page ≠ 0x7F ∨ b.flag CLK_CFG_REFCLK_OUT clkPage = true) → exec (.ctrlEnSet m page) s = .next
      (enableHook (((b.reached page).put H_CTRL_EN page true).put H_STAT_IDLE page false) page)) ∧
  (∀ (s : State) (page : Nat), s.pageOn page = true → s.flag H_STAT_DRAINING page = true → s.drained page = true → s.flag H_CTRL_EN page = false → exec
      (.drainComplete page) s = .next ((s.put H_STAT_DRAINING page false).put H_STAT_IDLE page true)) ∧
  (∀ (s b : State) (m : Master) (page : Nat), s.busAt page = b → b.takes page 8 (b2n (b.flag H_CTRL_EN page) + 2 + 4 * b2n (b.flag H_CTRL_HOLD page)) =
      true → b.flag H_CTRL_EN page = false → b.flag H_STAT_IDLE page = true → (b.reached page).drained page = true → page ≠ govPage → (softReset
      (b.reached page) page).flag H_CTRL_EN page = false → exec (.ctrlSrst m page) s = .next (softReset (b.reached page) page)) ∧
  (∀ (s b : State) (m : Master) (page : Nat), s.busAt page = b → b.takes page 8 (b2n (b.flag H_CTRL_EN page) + 4) = true → (m = .hk ∨ m = .host) → b.flag
      H_CTRL_HOLD page = false → (page ≠ govPage ∨ b.flag H_CTRL_EN page = true) → exec (.ctrlHoldSet m page) s = .next (((b.reached page).put
      H_CTRL_HOLD page true).put H_STAT_HELD page true)) ∧
  (∀ (s b : State) (m : Master) (page : Nat), s.busAt page = b → b.takes page 8 (b2n (b.flag H_CTRL_EN page)) = true → (m = .hk ∨ m = .host) → b.flag
      H_CTRL_HOLD page = true → (page ≠ govPage ∨ b.flag H_CTRL_EN page = true) → (page < 0x70 ∨ 0x74 ≤ page) → exec (.ctrlHoldClear m page) s = .next
      ((b.reached page).put H_CTRL_HOLD page false)) ∧
  (∀ (s : State) (page : Nat), s.pageOn page = true → s.flag H_STAT_HELD page = true → s.flag H_CTRL_HOLD page = false → exec (.shadowApplyComplete page)
      s = .next (((tget s.shadow page []).foldl (fun t e => checkedWrite t page e.off e.val (regEff (.ofCode e.master) page e.off))
      { s with shadow := tdel s.shadow page }).put H_STAT_HELD page false)) ∧
  (∀ (s b : State) (m : Master) (page : Nat) (v : Word), s.busAt page = b → b.clk.frozen = false → pageUsed page = true → b.pageOn page = true → (page ≠
      nvmPage ∨ b.macroBusy = false) → exec (.lockkeyWrite m page v) s = .next (lockKey (b.reached page) m page v.toNat)) ∧
  (∀ (s b : State) (m : Master) (page : Nat) (v : Word), s.busAt page = b → b.takes page 0x18 v.toNat = true → exec (.irqSetWrite m page v) s = .next
      ((b.reached page).risen page ((b.reached page).set H_IRQ_RAW page (b.get H_IRQ_RAW page ||| v.toNat)))) ∧
  (∀ (s : State) (m : Master) (page : Nat) (v : Word), s.takes page 0x10 v.toNat = true → exec (.irqRawClear m page v 0) s = .next ((s.reached
      page).risen page ((s.reached page).set H_IRQ_RAW page (andNot (s.get H_IRQ_RAW page) v.toNat)))) ∧
  (∀ (s : State) (m : Master) (page : Nat) (v event : Word), s.takes page 0x10 v.toNat = true → event ≠ 0 → exec (.irqRawClear m page v event) s = .next
      ((s.reached page).risen page (((s.reached page).risen page ((s.reached page).set H_IRQ_RAW page (andNot (s.get H_IRQ_RAW page)
      v.toNat))).raiseMask page event.toNat))) ∧
  (∀ (s : State) (m : Master) (addr : Word) (wr : Option Word), s.clk.frozen = false → addr.toNat % 4 = 0 → 0x8B000 ≤ addr.toNat → (addr.toNat <
      0x1100000 ∨ 0x1800000 ≤ addr.toNat ∨ 0xA0000 ≤ addr.toNat % 0x100000) → exec (.unmappedAccess m addr wr) s = .next (s.answer .unmapped)) ∧
  (∀ (s : State) (m : Master) (page off n : Nat), s.clk.frozen = false → pageDomain page = some n → pageUsed page = true → s.domOn n = false → s.flag
      PWR_DOMAIN_AUTOWAKE 2 n = false → exec (.domainOffAccess m page off none) s = .next ((s.need n).answer .domainOff 0xD0FFD0FF)) ∧
  (∀ (s : State) (c : Nat) (r : Stall), c < 12 → s.stall = [(c, r)] → r.window = 0 → r.nvm = false → r.retry = false → r.since + 200000 ≤ s.tb → exec
      (.stallTimeout (.ofCode c)) s = .next (ioServed (({ s with stall := [] } : State).answer .timeout) c r)) ∧
  (∀ (s : State) (c n : Nat) (r : Stall), c < 12 → s.stall = [(c, r)] → r.window = n + 1 → r.retry = false → r.since + 250000 ≤ s.tb → exec
      (.windowTimeout (.ofCode c)) s = .next (ioServed (({ s with stall := [] } : State).answer .timeout) c r)) ∧
  (∀ (s : State) (m : Master) (d p off : Nat) (wr : Option Word) (ans : Word), (tget s.stall m.key {}).window = 0 → s.isMaster = true → bitOf (s.get
      RING_MAP ringPage) d = true → exec (.satelliteWindowAccess m d p off wr 1 ans) s = .next
      { s.answer .ok ans.toNat with stall := tdel s.stall m.key })

/-- Power-up brings a dead device alive with RING_MASTER sampled; after an undervoltage it ends the full reset where nothing else holds it.
Power loss keeps the EEPROM, the code NVM, the fuses and the pins' levels and nothing else. An undervoltage begins a full reset with
cause 2, RESET_N low for 10 ms one with cause 1; a RESET_N pulse below 1 µs is ignored, and one below 10 ms restarts the cores.
Reverse battery and its end show in the supply state. The limp-home map is read once, from the copy that R46 chooses, and LIMP_MAP_BAD
sets without one. A LIMPn change shows in LIMP_ACT and acts once the map is read. AON-P marks the next due channel on and waits for
the next slot. VBAT measurements and threshold changes show in SUP. That an idle macro draws a free value at an undervoltage is the
model's choice (log 33). As its conclusion exec answers a next state, under conditions on the state and the operands alone, for each
of the constructors: powerUp, totalPowerLoss, undervoltage, reverseBattery, resetNFall, resetNRise, resetNLongLow, limpMapRead,
limpInputChange, limpHomeStart, vbatMeasurement, vbatLowChange, vbatOvChange. -/
def Obligations.SupplyCommands : Prop :=
  (∀ (strap : Bool) (s : State), s.sup.alive = false → exec (.powerUp strap) s = .next (lockoutAgain (revShow
      { s with sup := { s.sup with strapMaster := strap, alive := true, reversed := false } }))) ∧
  (∀ (strap : Bool) (s : State), s.sup.alive = true → exec (.powerUp strap) s = .next (fullResetEnd
      { s with sup := { s.sup with strapMaster := strap, uv := false } })) ∧
  (∀ (s : State), s.sup.alive = true → s.nvm.run = none → (∀ k, s.boot.wrote ≠ some (k, s.tb)) → exec .totalPowerLoss s = .next
      { State.reset with eeprom := s.eeprom, torn := s.torn, cnvm := s.cnvm, fuse := s.fuse, free := s.free, pending := s.pending, eccBad := s.eccBad.filter (·.1 == 5), nvm := { bp := s.nvm.bp, p6 := s.nvm.p6, p7 := s.nvm.p7 }, sup := { alive := false, strapMaster := s.sup.strapMaster, lowSince := s.sup.lowSince.map fun _ => 0, limpPin := s.sup.limpPin } }) ∧
  (∀ (s : State), s.sup.alive = true → s.sup.uv = false → exec .undervoltage s = .next (fullResetBegin (nvTear
      { s with free := s.free + 1, sup := { s.sup with uv := true } } (Config.freeNat s.free % 2 == 1)) 2)) ∧
  (∀ (s : State), s.sup.alive = true → exec (.reverseBattery true) s = .next (revShow
      { powerLoss s with sup := { (powerLoss s).sup with reversed := true } })) ∧
  (∀ (s : State), exec (.reverseBattery false) s = .next (revShow { s with sup := { s.sup with reversed := false } })) ∧
  (∀ (s : State) (c : Nat), s.sup.alive = true → c < 22 → Completes (exec (.reverseBattery true) s) fun t => (t.ch c).revOn = true) ∧
  (∀ (s : State) (k : Nat), s.sup.alive = true → s.nvm.run = none → s.boot.wrote = some (k, s.tb) → exec .totalPowerLoss s = .next
      { State.reset with eeprom := s.eeprom, torn := s.torn, cnvm := (statusTear s).cnvm, fuse := s.fuse, free := s.free + 1, pending := s.pending, eccBad := s.eccBad.filter (·.1 == 5), nvm := { bp := s.nvm.bp, p6 := s.nvm.p6, p7 := s.nvm.p7 }, sup := { alive := false, strapMaster := s.sup.strapMaster, lowSince := s.sup.lowSince.map fun _ => 0, limpPin := s.sup.limpPin } }) ∧
  (∀ (s : State), s.sup.alive = true → Completes (exec .totalPowerLoss s) fun t => t.sup.alive = false ∧ t.tb = 0 ∧ t.reg = State.reset.reg ∧ t.dom = []
      ∧ t.fuse = s.fuse) ∧
  (∀ (s : State), exec .resetNFall s = .next { s with sup := { s.sup with lowSince := some (s.sup.lowSince.getD s.tb) } }) ∧
  (∀ (s : State) (t : Nat), s.sup.lowSince = some t → s.sup.rst = false → s.sup.alive = true → s.sup.inReset = false → s.tb - t < 1000 → exec .resetNRise
      s = .next { s with sup := { s.sup with lowSince := none, rst := false } }) ∧
  (∀ (s : State) (t : Nat), s.sup.lowSince = some t → s.sup.rst = false → s.sup.alive = true → s.sup.inReset = false → 1000 ≤ s.tb - t → s.tb - t <
      10000000 → exec .resetNRise s = .next (fullResetEnd ((coreRestart { s with sup := { s.sup with lowSince := none, rst := false } } 4).put
      SUP_STAT_CORE_RESTART supPage true))) ∧
  (∀ (s : State) (t : Nat), s.sup.lowSince = some t → s.sup.rst = true → s.sup.alive = true → exec .resetNRise s = .next (fullResetEnd
      { s with sup := { s.sup with lowSince := none, rst := false } })) ∧
  (∀ (s : State) (t : Nat), s.sup.lowSince = some t → t + 10000000 ≤ s.tb → s.sup.alive = true → exec .resetNLongLow s = .next (fullResetBegin
      { s with sup := { s.sup with rst := true } } 1)) ∧
  (∀ (s : State) (p : Nat), s.sup.alive = true → s.sup.limpRead = false → s.mapCopy = some p → exec .limpMapRead s = .next
      ((({ s with sup := { s.sup with limpRead := true, limpMap := (List.range 4).map fun n => leOf (s.eePage p) (4 + 8 * n) 8, mapId := leOf (s.eePage p) 36 2 } }
      : State)).each ((List.range 4).filter fun n => bitOf s.sup.limpPin n) fun u n => limpChange u n true)) ∧
  (∀ (s : State), s.sup.alive = true → s.sup.limpRead = false → s.mapCopy = none → exec .limpMapRead s = .next
      (((({ s with sup := { s.sup with limpRead := true, limpMap := [0, 0, 0, 0] } } : State)).put SUP_STAT_LIMP_MAP_BAD supPage true).each
      ((List.range 4).filter fun n => bitOf s.sup.limpPin n) fun u n => limpChange u n true)) ∧
  (∀ (n : Nat) (active : Bool) (s : State), s.sup.limpRead = false → exec (.limpInputChange n active) s = .next
      ({ s with sup := { s.sup with limpPin := if active then setBit s.sup.limpPin n else clrBit s.sup.limpPin n } } : State)) ∧
  (∀ (n : Nat) (active : Bool) (s : State), s.sup.alive = true → s.limpAct n = !active → s.sup.limpRead = true → exec (.limpInputChange n active) s =
      .next (limpEvent (({ s with sup := { s.sup with limpPin := if active then setBit s.sup.limpPin n else clrBit s.sup.limpPin n } } : State).set
      SUP_STAT_LIMP_ACT supPage (if active then setBit (s.get SUP_STAT_LIMP_ACT supPage) n else clrBit (s.get SUP_STAT_LIMP_ACT supPage) n)) n)) ∧
  (∀ (s : State) (c : Nat), s.sup.alive = true → s.sup.limpRead = true → s.domOn 7 = false → s.sup.limpSlot ≤ s.tb / 250000 → (List.range 62).find?
      s.limpDue = some c → exec .limpHomeStart s = .next (({ s with sup := { s.sup with limpSlot := s.tb / 250000 + 1 } } : State).upCh c fun x =>
      { x with limpOn := true })) ∧
  (∀ (vbat vfld : Nat) (s : State), ((((s.set SUP_VBAT_VBAT_MV supPage vbat).set SUP_VBAT_VFLD_MV supPage vfld).each (List.range 8) fun u n => vRiseVbat
      u n vbat).domOn 7 = false) → exec (.vbatMeasurement vbat vfld) s = .next (((s.set SUP_VBAT_VBAT_MV supPage vbat).set SUP_VBAT_VFLD_MV supPage
      vfld).each (List.range 8) fun u n => vRiseVbat u n vbat)) ∧
  (∀ (vbat vfld : Nat) (s : State), ((((s.set SUP_VBAT_VBAT_MV supPage vbat).set SUP_VBAT_VFLD_MV supPage vfld).each (List.range 8) fun u n => vRiseVbat
      u n vbat).domOn 7 = true) → exec (.vbatMeasurement vbat vfld) s = .next (gateVbat (((s.set SUP_VBAT_VBAT_MV supPage vbat).set SUP_VBAT_VFLD_MV
      supPage vfld).each (List.range 8) fun u n => vRiseVbat u n vbat))) ∧
  (∀ (s : State), s.flag GOV_QUEUE_SCALED govPage = false → s.vbat < 9000 → gateVbat s =
      ({ (s.put GOV_QUEUE_LOW_V govPage (s.vbat < 6000)).put GOV_QUEUE_SCALED govPage (s.vbat < 9000) with gate := { s.gate with seen := true } } :
      State).irq govPage 3) ∧
  (∀ (s : State), (s.flag GOV_QUEUE_SCALED govPage = true ∨ 9000 ≤ s.vbat) → gateVbat s =
      ({ (s.put GOV_QUEUE_LOW_V govPage (s.vbat < 6000)).put GOV_QUEUE_SCALED govPage (s.vbat < 9000) with gate := { s.gate with seen := true } } :
      State)) ∧
  (∀ (low : Bool) (s : State), exec (.vbatLowChange low) s = .next (s.put SUP_STAT_VBAT_LOW supPage low)) ∧
  (∀ (s : State), exec (.vbatOvChange true) s = .next ((lfSuspend ((s.put SUP_STAT_VBAT_OV supPage true).put SUP_STAT_LD_SEEN supPage true)).each
      (List.range 62) State.dropCheck)) ∧
  (∀ (s : State), exec (.vbatOvChange false) s = .next (s.put SUP_STAT_VBAT_OV supPage false))

/-- A valid kick of the HK, at its turn's value and not early where a window is set, clears EXPIRIES and turns the parity. Any other kick sets
BAD_KICK and acts as an expiry. An expiry counts, and restarts the cores with cause 3 where ESCALATE is 0; the escalated reset ends
when nothing else holds it. A failure of a crystal in use sets XTAL_FAIL and REF_SEL and freezes the clocks while the PLL relocks on
the RC; a lock loss freezes them on the present reference, and no lock within 200 µs takes the RC; a new REF_SEL freezes them on the
new one, and a write of CLK.CFG that changes neither REF_SEL nor LFXTAL_EN only stores its fields; at lock the freeze ends with the
reference taken; a failing 32 kHz crystal puts LFCLK on the RC with its nominal increment while TB counts on it; a restart ends with
PLL_LOCK set and PLL_STOPPED clear. As its conclusion exec answers a next state, under conditions on the state and the operands alone,
for each of the constructors: wdgKick, wdgExpiry, wdgFullResetEnd, xtalFail, pllLockLoss, pllRelockTimeout, refSelWrite,
clockFreezeEnd, lfXtalFail, clockRestartComplete. -/
def Obligations.WatchdogAndClockCommands : Prop :=
  (∀ (s : State) (m : Master) (v : Word) (early : Bool), s.takes wdgPage 0x44 v.toNat = true → m = .hk → v.toNat = s.kickValue → (11 * s.kickPoint ≤ 10 *
      s.wdgElapsed ∨ (9 * s.kickPoint ≤ 10 * s.wdgElapsed ∧ early = false)) → exec (.wdgKick m v early) s = .next
      { ((s.reached wdgPage).set WDG_STAT_EXPIRIES wdgPage 0) with wdgAlt := !s.wdgAlt, wdgFrom := s.tb, wdgPause := none, wdgMs := s.get WDG_CFG_TIMEOUT wdgPage }) ∧
  (∀ (s : State) (m : Master) (v : Word) (early : Bool), s.takes wdgPage 0x44 v.toNat = true → (m ≠ .hk ∨ v.toNat ≠ s.kickValue ∨ 10 * s.wdgElapsed < 9 *
      s.kickPoint ∨ (10 * s.wdgElapsed < 11 * s.kickPoint ∧ early = true)) → exec (.wdgKick m v early) s = .next (wdgExpire ((s.reached wdgPage).put
      WDG_STAT_BAD_KICK wdgPage true))) ∧
  (∀ (s : State), s.sup.alive = true → s.domOn 0 = true → s.wdgPause = none → 900000 * s.wdgMs ≤ s.wdgElapsed → s.get WDG_CFG_ESCALATE wdgPage = 0 → exec
      .wdgExpiry s = .next (coreRestart ((s.bump WDG_STAT_EXPIRIES wdgPage).set WDG_STAT_LAST wdgPage 1) 3)) ∧
  (∀ (s : State), (s.wdgElapsed < 900000 * s.wdgMs ∨ s.wdgPause ≠ none) → exec .wdgExpiry s = .next s) ∧
  (∀ (s : State), s.wdgReset = true → exec .wdgFullResetEnd s = .next (fullResetEnd { s with wdgReset := false })) ∧
  (∀ (s : State), s.flag CLK_STAT_REF_ACT clkPage = false → s.pllStopped = false → s.clk.restarting = false → exec .xtalFail s = .next (refTake
      (freezeBegin ((s.put CLK_STAT_XTAL_FAIL clkPage true).put CLK_CFG_REF_SEL clkPage true) 1 1) 1)) ∧
  (∀ (s : State), s.clk.frozen = false → s.flag CLK_STAT_PLL_LOCK clkPage = true → exec .pllLockLoss s = .next (freezeBegin s 2 (s.get CLK_STAT_REF_ACT
      clkPage))) ∧
  (∀ (s : State), s.clk.frozen = true → s.clk.cause = 2 → s.clk.since + 200000 ≤ s.tb → exec .pllRelockTimeout s = .next (refTake
      { s with clk := { s.clk with newRef := 1 } } 1)) ∧
  (∀ (s : State) (m : Master) (v : Word), s.takes clkPage 0x40 v.toNat = true → (s.flag H_LOCKSTAT_UNLOCKED clkPage = false ∨ v.toNat % 2 = s.get
      CLK_STAT_REF_ACT clkPage ∨ s.flag CLK_STAT_PLL_LOCK clkPage = false) → bitOf v.toNat 2 = s.flag CLK_CFG_LFXTAL_EN clkPage → exec (.refSelWrite m
      v) s = .next (plainWrite (s.reached clkPage) clkPage 0x40 v.toNat)) ∧
  (∀ (s : State) (m : Master) (v : Word), s.takes clkPage 0x40 v.toNat = true → s.flag H_LOCKSTAT_UNLOCKED clkPage = true → v.toNat % 2 ≠ s.get
      CLK_STAT_REF_ACT clkPage → bitOf v.toNat 2 = s.flag CLK_CFG_LFXTAL_EN clkPage → s.flag CLK_STAT_PLL_LOCK clkPage = true → exec (.refSelWrite m
      v) s = .next (refTake (freezeBegin (plainWrite (s.reached clkPage) clkPage 0x40 v.toNat) 3 (v.toNat % 2)) (v.toNat % 2))) ∧
  (∀ (s u : State), s.clk.frozen = true → u = ({ s with clk := { s.clk with frozen := false, cause := 0 }, cald := { s.cald with froze := true } } :
      State).each (List.range 8) vThaw → exec .clockFreezeEnd s = .next ((macResume ((refTake u u.clk.newRef).put CLK_STAT_PLL_LOCK clkPage
      true)).each (List.range 8) canArb)) ∧
  (∀ (s : State), s.flag CLK_STAT_LF_ON_RC clkPage = false → s.flag CLK_CFG_LFXTAL_EN clkPage = true → s.onLf = false → exec .lfXtalFail s = .next
      (uncShow ((s.put CLK_STAT_LF_FAIL clkPage true).put CLK_STAT_LF_ON_RC clkPage true))) ∧
  (∀ (s : State), s.flag CLK_STAT_LF_ON_RC clkPage = false → s.flag CLK_CFG_LFXTAL_EN clkPage = true → s.onLf = true → exec .lfXtalFail s = .next
      (uncShow (uncPut ((((s.put CLK_STAT_LF_FAIL clkPage true).put CLK_STAT_LF_ON_RC clkPage true).set TB_LFINC_INT tbPage 0x7A12).set TB_LFINC_FRAC
      tbPage 0) (s.get TB_UNCERT tbPage + 122)))) ∧
  (∀ (s : State), s.clk.restarting = true → s.sup.alive = true → s.sup.inReset = false → (restartDone s).sup.cold = true → (restartDone s).clocksRun =
      true → exec .clockRestartComplete s = .next (coldStart (pllStop (macResume (refTake ((({ s with clk := { s.clk with restarting := false } } :
      State).put CLK_STAT_PLL_STOPPED clkPage false).put CLK_STAT_PLL_LOCK clkPage true) (b2n (s.flag CLK_CFG_REF_SEL clkPage || (s.pllStopped &&
      !s.sup.cold && s.flag CLK_CFG_PARK_RC_START clkPage))))))))

/-- A legal INC pair takes effect with the write of INC_INT and an illegal one is rejected; a run of 1,024 LF periods gives LFINC as the
quotient; a handover to LFCLK adds the held time to HANDOVER_RESID and one to CCLK ends it; RESID_APPLY steps TB by the residue;
UNCERT_CLR clears UNCERT; saturation sets it to its largest value; CMP_HI arms a compare channel and CFG with another MODE disarms it;
an armed compare whose value has passed fires, with OVR when FIRED was still set; a capture stores TB with OVR when CAPT was still
set; a cascade counter counts, raises its bit at a wrap and hands a carry to its linked neighbour; a CNT write waits for the counter
clock (log 41). As its conclusion exec answers a next state, under conditions on the state and the operands alone, for each of the
constructors: incIntWrite, lfincTrim, tbHandoverToLf, tbHandoverToCclk, residApply, uncertClr, uncertSaturation, cmpHiWrite,
cmpModeWrite, compareFire, capture, cascCount, cascCarry, cascCntWrite. -/
def Obligations.TimeBaseCommands : Prop :=
  (∀ (s : State) (m : Master) (v : Word), s.takes tbPage 0x4C v.toNat = true → s.ntOwns = false → incOk (v.toNat % 65536) (s.get TB_INC_FRAC tbPage) =
      true → (s.reached tbPage).ntOwns = false → exec (.incIntWrite m v) s = .next (incApply ((s.reached tbPage).set TB_INC_INT tbPage v.toNat))) ∧
  (∀ (s : State) (m : Master) (v : Word), s.takes tbPage 0x4C v.toNat = true → incOk (v.toNat % 65536) (s.get TB_INC_FRAC tbPage) = false → exec
      (.incIntWrite m v) s = .next ((s.reached tbPage).reject tbPage)) ∧
  (∀ (s : State) (t : Nat), s.onLf = false → s.tbHid.hold = false → s.flag CLK_STAT_REF_ACT clkPage = false → s.flag CLK_STAT_PLL_LOCK clkPage = true →
      s.tbHid.trimFrom = some t → exec .lfincTrim s = .next
      { ((s.set TB_LFINC_INT tbPage ((s.tbFull - t) / 1024 / 2 ^ 32)).set TB_LFINC_FRAC tbPage ((s.tbFull - t) / 1024)).put TB_STAT_TRIM_VALID tbPage true with tbHid := { s.tbHid with trimFrom := some s.tbFull } }) ∧
  (∀ (s : State), s.tbHid.hold = true → s.onLf = false → satAdd 32 (s.get TB_HANDOVER_RESID tbPage) (s.tbHid.holdCnt * (s.tbHid.incInt * 2 ^ 32 +
      s.tbHid.incFrac) / 2 ^ 32) ≠ 0 → exec .tbHandoverToLf s = .next (uncShow
      ((({ (s.set TB_HANDOVER_RESID tbPage (satAdd 32 (s.get TB_HANDOVER_RESID tbPage) (s.tbHid.holdCnt * (s.tbHid.incInt * 2 ^ 32 + s.tbHid.incFrac) / 2 ^ 32))).put TB_STAT_RESID_PEND tbPage true with tbHid := { s.tbHid with hold := false, holdCnt := 0 } }
      : State).put TB_STAT_SRC tbPage true).irq tbPage 0))) ∧
  (∀ (s : State), s.onLf = true → s.flag CLK_STAT_PLL_LOCK clkPage = true → s.clk.frozen = false → exec .tbHandoverToCclk s = .next (uncShow ((s.put
      TB_STAT_SRC tbPage false).irq tbPage 1))) ∧
  (∀ (s : State) (m : Master), s.takes tbPage 0x68 1 = true → exec (.residApply m) s = .next (tbStep (((s.reached tbPage).set TB_HANDOVER_RESID tbPage
      0).put TB_STAT_RESID_PEND tbPage false) (s.get TB_HANDOVER_RESID tbPage))) ∧
  (∀ (s : State) (m : Master), s.takes tbPage 0x68 2 = true → exec (.uncertClr m) s = .next
      { (((s.reached tbPage).set TB_UNCERT tbPage 0).put TB_STAT_UNCERT_SAT tbPage false).put TB_STAT_COARSE tbPage false with tbHid := { s.tbHid with unc := 0 } }) ∧
  (∀ (s : State), s.uncRate ≠ 0 → s.flag TB_STAT_UNCERT_SAT tbPage = false → exec .uncertSaturation s = .next ((((s.set TB_UNCERT tbPage 0xFFFFFFFF).put
      TB_STAT_COARSE tbPage true).put TB_STAT_UNCERT_SAT tbPage true).irq tbPage 3)) ∧
  (∀ (s : State) (m : Master) (g : Nat) (v : Word), g < 64 → s.takes (cmpPage g) (0x44 + 0x20 * (g % 16)) v.toNat = true → s.get CMP_CFG_MODE (cmpPage g)
      (g % 16) = 1 → Completes (exec (.cmpHiWrite m g v) s) fun t => t.cmpArmed g = true ∧ (t.cmpH g).val = s.get CMP_CMP_LO (cmpPage g) (g % 16) + 2
      ^ 32 * v.toNat ∧ (t.cmpH g).staged = false) ∧
  (∀ (s : State) (m : Master) (g mode : Nat), g < 64 → mode ≠ 1 → mode < 3 → s.takes (cmpPage g) (0x48 + 0x20 * (g % 16)) (plainRead s (cmpPage g) (0x48
      + 0x20 * (g % 16)) / 4 * 4 + mode) = true → Completes (exec (.cmpModeWrite m g mode) s) fun t => t.get CMP_CFG_MODE (cmpPage g) (g % 16) = mode
      ∧ t.cmpArmed g = false) ∧
  (∀ (s : State) (g : Nat), s.cmpArmed g = true → s.cmpPassed (s.cmpH g).val = true → (s.cmpH g).late = false → s.flag CMP_STAT_FIRED (cmpPage g) (g %
      16) = false → exec (.compareFire g) s = .next (cmpEvents (cmpReload ((s.put CMP_STAT_FIRED (cmpPage g) true (g % 16)).irq (cmpPage g) (g % 16))
      g) g)) ∧
  (∀ (s : State) (g : Nat), s.cmpArmed g = true → s.cmpPassed (s.cmpH g).val = true → (s.cmpH g).late = false → s.flag CMP_STAT_FIRED (cmpPage g) (g %
      16) = true → exec (.compareFire g) s = .next (cmpEvents (cmpReload (((s.put CMP_STAT_OVR (cmpPage g) true (g % 16)).put CMP_STAT_FIRED (cmpPage
      g) true (g % 16)).irq (cmpPage g) (g % 16)) g) g)) ∧
  (∀ (s : State) (g src : Nat) (rising : Bool), s.captures g src = true → edgeTakes (s.get CMP_CFG_EDGE (cmpPage g) (g % 16)) rising = true → s.flag
      CMP_STAT_CAPT (cmpPage g) (g % 16) = false → exec (.capture g src rising) s = .next ((((((s).put CMP_STAT_CAPT (cmpPage g) true (g % 16)).set
      CMP_STAT_SEQ (cmpPage g) (s.get CMP_STAT_SEQ (cmpPage g) (g % 16) + 1) (g % 16)).set CMP_CAP_LO (cmpPage g) s.tb (g % 16)).set CMP_CAP_HI
      (cmpPage g) (s.tb / 2 ^ 32) (g % 16)).irq (cmpPage g) (g % 16))) ∧
  (∀ (s : State) (g src : Nat) (rising : Bool), s.captures g src = true → edgeTakes (s.get CMP_CFG_EDGE (cmpPage g) (g % 16)) rising = true → s.flag
      CMP_STAT_CAPT (cmpPage g) (g % 16) = true → exec (.capture g src rising) s = .next ((((((s.put CMP_STAT_OVR (cmpPage g) true (g % 16)).put
      CMP_STAT_CAPT (cmpPage g) true (g % 16)).set CMP_STAT_SEQ (cmpPage g) (s.get CMP_STAT_SEQ (cmpPage g) (g % 16) + 1) (g % 16)).set CMP_CAP_LO
      (cmpPage g) s.tb (g % 16)).set CMP_CAP_HI (cmpPage g) (s.tb / 2 ^ 32) (g % 16)).irq (cmpPage g) (g % 16))) ∧
  (∀ (s : State) (k src : Nat) (rising : Bool), s.cascTakes k src = true → (0xE0 ≤ src ∨ edgeTakes (s.get CASC_CFG_EDGE cascPage k) rising = true) →
      (s.cascH k).write = none → s.get CASC_CNT cascPage k + 1 < 2 ^ 32 → exec (.cascCount k src rising) s = .next (s.set CASC_CNT cascPage (s.get
      CASC_CNT cascPage k + 1) k)) ∧
  (∀ (s : State) (k : Nat), k % 2 = 1 → (s.cascH k).carry = true → (s.cascH k).write = none → s.flag CASC_CFG_LINK cascPage k = true → s.flag
      CASC_CFG_RUN cascPage k = true → s.inPark = false → s.get CASC_CNT cascPage k + 1 < 2 ^ 32 → exec (.cascCarry k) s = .next ((s.setCasc k
      { s.cascH k with carry := false }).set CASC_CNT cascPage (s.get CASC_CNT cascPage k + 1) k)) ∧
  (∀ (s : State) (m : Master) (k : Nat) (v : Word), s.takes cascPage (0x40 + 8 * k) v.toNat = true → exec (.cascCntWrite m k v) s = .next ((s.reached
      cascPage).setCasc k { write := some v.toNat, carry := false }))

/-- An ORDER of the HK that PWR does not refuse is taken, with AUTOWAKE stored; a refused one leaves ORDER and sets REFUSED with IRQ 1. Another
master's ORDER goes to the end of the request queue with IRQ 0, or sets OVF when sixteen wait. A read of REQ gives the oldest request
with VALID and removes it, and reads 0 when none waits. A domain at rest completes its entry, a ramping one its power-up, an
admissible one starts its ramp, and one that has waited longer than DEFER2.DOM is promoted. Only the HK sets RIND.SW_VALID. As its
conclusion exec answers a next state, under conditions on the state and the operands alone, for each of the constructors: pwrOrder,
pwrOrderRequest, pwrReqRead, domainEntryComplete, domainPowerUpComplete, domainPowerUpAdmit, domainPromotion, rindSwValidWrite. -/
def Obligations.PowerDomainCommands : Prop :=
  (∀ (s : State) (n order : Nat) (aw : Bool), n < 12 → order < 4 → s.takes pwrPage (0x40 + 4 * n) (order + 256 * b2n aw) = true → ((((s.reached
      pwrPage).put PWR_DOMAIN_AUTOWAKE pwrPage aw n).need n).orderRefused n order) = false → exec (.pwrOrder n order aw) s = .next ((((s.reached
      pwrPage).put PWR_DOMAIN_AUTOWAKE pwrPage aw n).need n).takeOrder n order false)) ∧
  (∀ (s : State) (n order : Nat) (aw : Bool), n < 12 → order < 4 → s.takes pwrPage (0x40 + 4 * n) (order + 256 * b2n aw) = true → ((((s.reached
      pwrPage).put PWR_DOMAIN_AUTOWAKE pwrPage aw n).need n).orderRefused n order) = true → exec (.pwrOrder n order aw) s = .next (((((s.reached
      pwrPage).put PWR_DOMAIN_AUTOWAKE pwrPage aw n).need n).put PWR_DOMAIN_REFUSED pwrPage true n).irq pwrPage 1)) ∧
  (∀ (s : State) (m : Master) (n order : Nat), m ≠ .hk → s.takes pwrPage (0x40 + 4 * n) order = true → s.reqs.length < 16 → exec (.pwrOrderRequest m n
      order) s = .next (({ (s.reached pwrPage) with reqs := s.reqs ++ [⟨m.code, n, order⟩] } : State).set PWR_REQ_STAT_COUNT pwrPage (s.reqs.length +
      1) |>.irq pwrPage 0)) ∧
  (∀ (s : State) (m : Master) (n order : Nat), m ≠ .hk → s.takes pwrPage (0x40 + 4 * n) order = true → 16 ≤ s.reqs.length → exec (.pwrOrderRequest m n
      order) s = .next (((s.reached pwrPage).put PWR_REQ_STAT_OVF pwrPage true).irq pwrPage 0)) ∧
  (∀ (s : State) (m : Master) (e : PwrReq) (q : List PwrReq), s.reqs = e :: q → Completes (exec (.pwrReqRead m) s) fun t => t.reqs = q ∧ t.resp = ⟨.ok,
      e.order + e.dom * 2 ^ 16 + e.master * 2 ^ 24 + 2 ^ 31⟩ ∧ t.get PWR_REQ_STAT_COUNT pwrPage = q.length % 32) ∧
  (∀ (s : State) (m : Master), s.reqs = [] → Completes (exec (.pwrReqRead m) s) fun t => t.reqs = [] ∧ t.resp = ⟨.ok, 0⟩ ∧ t.flag PWR_REQ_VALID pwrPage =
      false) ∧
  (∀ (s : State) (n : Nat), (s.getDom n).phase = .entering → s.entryRest n = true → exec (.domainEntryComplete n) s = .next (entryDone s n)) ∧
  (∀ (s : State) (n : Nat), (s.getDom n).phase = .ramping → s.pllStopped = false → (s.getDom n).actual = .off → (s.getDom n).latched = none → n ≠ 5 →
      exec (.domainPowerUpComplete n) s = .next (serveAll (fromOff (s.putDom n { s.getDom n with actual := .on, phase := .stable, latched := none })
      n) (·.waitsFor n))) ∧
  (∀ (s : State) (n : Nat), s.domAdmits n = true → exec (.domainPowerUpAdmit n) s = .next ((s.withdraw (.dom n)).putDom n
      { s.getDom n with phase := .ramping })) ∧
  (∀ (s : State) (n : Nat) (e : GateEntry), s.waiting (.dom n) = some e → 1 < e.rank → e.t + s.get GOV_DEFER2_DOM govPage * 1000000 ≤ s.tb → s.gateOpen =
      true → exec (.domainPromotion n) s = .next ((((s.withdraw (.dom n)).enqueue { e with rank := 1 }).bump GOV_CNT_PROMOTIONS govPage).irq govPage
      1)) ∧
  (∀ (s : State), s.takes rindPage 0x40 (2 ^ 12) = true → exec (.rindSwValidWrite .hk) s = .next (plainWrite (s.reached rindPage) rindPage 0x40 (2 ^ 12))) ∧
  (∀ (s : State) (m : Master), m ≠ .hk → s.takes rindPage 0x40 (2 ^ 12) = true → exec (.rindSwValidWrite m) s = .next (s.reached rindPage))

/-- CAUSE.CLR clears the cause and PEND; WAKE_OUT is written through; a HCS_N edge with PD_ETH away is a wake event of source 9: with the source
enabled and nothing deferred it is accepted, with defer mode active it is recorded; DEFER.RELEASE ends defer mode, and the first
deferred wake is then accepted; a latched slot starts, and the power-ups that wait behind it follow. A new 250 µs slot drops the
contributions that count no more; the request that the gate decides next, the head of the queue but for a power-up of PD_PSV that a P0
request passes over (log 79, the model's reading), is admitted when it fits, and is then taken out, counted and started; every request
past its deferral limit is refused. As its conclusion exec answers a next state, under conditions on the state and the operands alone,
for each of the constructors: wakeCauseClr, wakeOutWrite, hcsNWake, deferRelease, latchedSimmerStart, gateSlotStart, gateAdmit,
gateDeferExpiry. -/
def Obligations.WakeAndGateCommands : Prop :=
  (∀ (s : State) (m : Master), s.takes wakePage 0x44 (2 ^ 31) = true → exec (.wakeCauseClr m) s = .next ((((s.reached wakePage).set WAKE_CAUSE_SRC
      wakePage 0).set WAKE_CAUSE_IDX wakePage 0).set WAKE_PEND wakePage 0)) ∧
  (∀ (s : State) (m : Master) (v : Bool), s.takes wakePage 0x58 (b2n v) = true → exec (.wakeOutWrite m v) s = .next ((s.reached wakePage).put
      WAKE_WAKE_OUT wakePage v)) ∧
  (∀ (s : State), s.domOn 5 = false → s.wakeOn 9 = true → (localWake s).flag WAKE_DEFER_ACTIVE wakePage = false → (localWake s).inPark = false → exec
      .hcsNWake s = .next (wakeAccept (localWake s) 9 0 (localWake s).tb false)) ∧
  (∀ (s : State), s.domOn 5 = false → s.wakeOn 9 = true → (localWake s).flag WAKE_DEFER_ACTIVE wakePage = true → exec .hcsNWake s = .next (wakeDefer
      (localWake s) 9 0)) ∧
  (∀ (s : State) (m : Master), s.takes wakePage 0x5C 4 = true → s.flag WAKE_DEFER_ACTIVE wakePage = true → exec (.deferRelease m) s = .next (deferEnd
      (s.reached wakePage))) ∧
  (∀ (s : State) (i : Nat), exec (.latchedSimmerStart i) s = .next (actionLate (latchedStart s i))) ∧
  (∀ (s : State), s.gate.slot < s.tb / 250000 → exec .gateSlotStart s = .next (boilSweep
      { s with gate := { s.gate with slot := s.tb / 250000, begun := true, contribs := s.gate.contribs.filter fun c => c.now (s.tb / 250000) != 0 || s.tb / 250000 < c.slot + 4 } })) ∧
  (∀ (s : State) (e : GateEntry) (c : Nat), s.gateHead = some e → e.req = .chan c → s.gateOpen = true → s.admits e = true → exec .gateAdmit s = .next
      (boilSweep (tellSlots (chAdmit (gateTake s e) c (if e.kind == .commit then .start else e.kind)) e.req true))) ∧
  (∀ (s : State) (e : GateEntry), s.gateHead = some e → e.req.isLoad = true → s.gateOpen = true → s.admits e = false → exec .gateAdmit s = .next s) ∧
  (∀ (s : State), s.gateOpen = true → exec .gateDeferExpiry s = .next (boilSweep (refuseExpired s s.gate.queue.length))) ∧
  (∀ (s : State), s.gateHead = none → exec .gateAdmit s = .next s)

/-- An OUT write that switches an enabled channel on from OFF requests its start, one that switches it off from ON turns it off, and in Ferlys
table mode it is rejected. A LIM write is stored. The inrush window pauses when VBAT droops below its threshold and resumes after it,
sets DROOP_CAP when its pauses reach twice TINR, and when it closes INRUSH passes to ON. A retry timer that ends takes one retry and
requests a start, or waits in WE_WAIT while the wiring-energy window forbids it; after one second on, the retries reload. ACT requests
whose cause is gone release their lock and the others are rejected. Off-state checks run in their two phases. As its conclusion exec
answers a next state, under conditions on the state and the operands alone, for each of the constructors: channelOutWrite, limWrite,
inrushWindowClose, droopChange, droopCapReached, retryTimerExpiry, retriesReload, actFuseReset, actRetryReset, actDiagNow,
offStateCheckStart, offStateCheckSample, pwmPeriodStart, wiringEnergyCut, weBinBoundary. -/
def Obligations.ChannelCommands : Prop :=
  (∀ (s z s1 : State) (m : Master) (c : Nat) (v : Word), z = s.commitsFirst → z.takes (chPage c) ((cOn c).key / 32 % 4096) v.toNat = true → ((c < 62 ∧
      (z.reached (chPage c)).rd (cMode c) = 2) = False) → s1 = plainWrite (z.reached (chPage c)) (chPage c) ((cOn c).key / 32 % 4096) v.toNat →
      s1.limpHolds c = false → s1.safeAct c = false → s1.chSt c = stOff → (s1.isOn c && s1.accepts (chPage c)) = true → exec (.channelOutWrite m c v)
      s = .next (s1.goQueued c .start)) ∧
  (∀ (s z s1 : State) (m : Master) (c : Nat) (v : Word), z = s.commitsFirst → z.takes (chPage c) ((cOn c).key / 32 % 4096) v.toNat = true → ((c < 62 ∧
      (z.reached (chPage c)).rd (cMode c) = 2) = False) → s1 = plainWrite (z.reached (chPage c)) (chPage c) ((cOn c).key / 32 % 4096) v.toNat →
      s1.limpHolds c = false → s1.safeAct c = false → s1.chSt c = stOn → (s1.isOn c && s1.accepts (chPage c)) = false → exec (.channelOutWrite m c v)
      s = .next (s1.turnOff c .command)) ∧
  (∀ (s z : State) (m : Master) (c : Nat) (v : Word), z = s.commitsFirst → c < 62 → z.takes (chPage c) ((cOn c).key / 32 % 4096) v.toNat = true →
      (z.reached (chPage c)).rd (cMode c) = 2 → exec (.channelOutWrite m c v) s = .next ((z.reached (chPage c)).reject (chPage c))) ∧
  (∀ (s : State) (m : Master) (c : Nat) (v : Word), s.takes (chPage c) 0x44 v.toNat = true → exec (.limWrite m c v) s = .next (plainWrite (s.reached
      (chPage c)) (chPage c) 0x44 v.toNat)) ∧
  (∀ (s : State) (c : Nat), s.cf (cInrush c) = true → (s.ch c).pauseFrom = none → s.get HS_LIM_TINR (chPage c) * 100000 ≤ (s.ch c).winUsed + (s.tb -
      (s.ch c).winFrom) → (s.closeWin c).chSt c = stInrush → exec (.inrushWindowClose c) s = .next (((s.closeWin c).upCh c fun y =>
      { y with onFrom := (s.closeWin c).tb }).setSt c stOn)) ∧
  (∀ (s : State) (c : Nat), s.cf (cInrush c) = true → (s.ch c).pauseFrom = none → (s.ch c).capped = false → exec (.droopChange c true) s = .next
      (((s.upCh c fun y => { y with droopLow := true }).wr (cDroop c) 1).upCh c fun y =>
      { y with pauseFrom := some s.tb, winUsed := y.winUsed + (s.tb - y.winFrom) })) ∧
  (∀ (s : State) (c t : Nat), s.cf (cInrush c) = true → (s.ch c).pauseFrom = some t → exec (.droopChange c false) s = .next (((s.upCh c fun y =>
      { y with droopLow := false }).wr (cDroop c) 0).upCh c fun y => { y with pauseFrom := none, paused := y.paused + (s.tb - t), winFrom := s.tb })) ∧
  (∀ (s : State) (c t : Nat), (s.ch c).pauseFrom = some t → s.cf (cInrush c) = true → 2 * s.get HS_LIM_TINR (chPage c) * 100000 ≤ (s.ch c).paused + (s.tb
      - t) → exec (.droopCapReached c) s = .next (((s.wr (cDroop c) 0).upCh c fun y =>
      { y with pauseFrom := none, paused := y.paused + (s.tb - t), winFrom := s.tb, capped := true }).chFault c (cfDroopCap c) 11)) ∧
  (∀ (s u : State) (c t : Nat), c < 86 → u = (s.wr (cRetries c) 31).wr (cWeWait c) 0 → (s.ch c).retryEnd = some t → s.chSt c = stRetryWait → t ≤ s.tb →
      ((c < 62 ∧ (s.tb < s.cald.weFullUntil ∨ s.eWe c < s.sW c + (s.ch c).weLast)) = False) → s.pageOn (chPage c) = true → s.rd (cRetries c) = 31 →
      exec (.retryTimerExpiry c) s = .next ((u.upCh c fun x => { x with retryEnd := none, decd := false, uncounted := false }).goQueued c (if
      u.safeAct c && u.safeWants c then .limp else .retry))) ∧
  (∀ (s u : State) (c t n : Nat), c < 86 → u = (s.wr (cRetries c) n).wr (cWeWait c) 0 → (s.ch c).retryEnd = some t → s.chSt c = stRetryWait → t ≤ s.tb →
      ((c < 62 ∧ (s.tb < s.cald.weFullUntil ∨ s.eWe c < s.sW c + (s.ch c).weLast)) = False) → s.pageOn (chPage c) = true → s.rd (cRetries c) = n + 1 →
      n < 30 → (s.ch c).uncounted = false → exec (.retryTimerExpiry c) s = .next ((u.upCh c fun x =>
      { x with retryEnd := none, decd := true, uncounted := false }).goQueued c (if u.safeAct c && u.safeWants c then .limp else .retry))) ∧
  (∀ (s : State) (c t : Nat), c < 62 → (s.ch c).retryEnd = some t → s.chSt c = stRetryWait → t ≤ s.tb → s.pageOn (chPage c) = true → (s.tb <
      s.cald.weFullUntil ∨ s.eWe c < s.sW c + (s.ch c).weLast) → exec (.retryTimerExpiry c) s = .next (s.wr (cWeWait c) 1)) ∧
  (∀ (s : State) (c : Nat), (s.chSt c = stOn ∨ s.chSt c = stLimp) → (s.ch c).onFrom + 1000000000 ≤ s.tb → exec (.retriesReload c) s = .next (s.wr
      (cRetries c) (s.rd (cRetryMax c)))) ∧
  (∀ (s s1 : State) (m : Master) (c : Nat), s.takes (chPage c) (chActOff c) 8 = true → s1 = s.reached (chPage c) → s1.fuseReset c ≤ sgn 16 (s1.rd (cWireT
      c)) → exec (.actFuseReset m c) s = .next (s1.reject (chPage c))) ∧
  (∀ (s s1 : State) (m : Master) (c : Nat), s.takes (chPage c) (chActOff c) 8 = true → s1 = s.reached (chPage c) → ¬ s1.fuseReset c ≤ sgn 16 (s1.rd
      (cWireT c)) → exec (.actFuseReset m c) s = .next ((s1.upCh c fun x => { x with lockFuse := false }).unlockCheck c)) ∧
  (∀ (s s1 : State) (m : Master) (c : Nat), s.takes (chPage c) (chActOff c) 4 = true → s1 = s.reached (chPage c) → exec (.actRetryReset m c) s = .next
      (((s1.reloadRetries c).upCh c fun x => { x with lockRetry := false }).unlockCheck c)) ∧
  (∀ (s s1 : State) (m : Master) (c : Nat), s.takes (chPage c) (chActOff c) 16 = true → s1 = s.reached (chPage c) → s1.checkable c = true → exec
      (.actDiagNow m c) s = .next (s1.beginCheck c true)) ∧
  (∀ (s : State) (c : Nat), s.checkable c = true → (s.ch c).check = 0 → (s.ch c).runTb + s.rd (cOffPeriod c) * 1000000 ≤ s.tb → s.pageOn (chPage c) =
      true → exec (.offStateCheckStart c) s = .next (s.beginCheck c false)) ∧
  (∀ (s : State) (c : Nat) (v : Bool), s.checkable c = true → (s.ch c).check = 1 → (s.ch c).checkTb + 500000 ≤ s.tb → exec (.offStateCheckSample c v) s =
      .next (s.upCh c fun y => { y with check := 2, checkTb := s.tb, sampleA := v })) ∧
  (∀ (s : State) (c : Nat) (v : Bool), s.checkable c = true → (s.ch c).check = 2 → (s.ch c).checkTb + 500000 ≤ s.tb → exec (.offStateCheckSample c v) s =
      .next (chCheckDone s c v)) ∧
  (∀ (s : State) (c : Nat) (v : Bool), s.checkable c = false → exec (.offStateCheckSample c v) s = .next (s.dropCheck c)) ∧
  (∀ (s : State) (c : Nat), conducting (s.chSt c) = false → exec (.pwmPeriodStart (.chan c)) s = .next s) ∧
  (∀ (s u w : State) (c d per : Nat), conducting (s.chSt c) = true → s.rd (cMode c) ≠ 0 → s.clk.frozen = false → (s.tb + pwmPeriod (s.ch c).freq - (s.ch
      c).phase * pwmPeriod (s.ch c).freq / 4096 % pwmPeriod (s.ch c).freq) % pwmPeriod (s.ch c).freq < 10 → (u = (if (s.ch c).duty = 4095 then s else
      s.settleFilt c).showDuty c) → d = u.effDutyOf c → per = pwmPeriod (u.rd (cFreq c)) → 2 * u.edgeNs c ≤ d * per / 4095 → 2 * u.edgeNs c ≤ per - d
      * per / 4095 → w = u.wr (cDutyClamp c) 0 → exec (.pwmPeriodStart (.chan c)) s = .next (w.upCh c fun x =>
      { x with duty := d, freq := u.rd (cFreq c), phase := u.rd (cPhase c), level := d != 0 && !u.offHalf c })) ∧
  (∀ (s : State) (c e : Nat), conducting ((s.addWe c e).chSt c) = true → (s.addWe c e).cf (cLimiting c) = true → (s.addWe c e).pageOn (chPage c) = true →
      (s.addWe c e).clk.frozen = false → (s.addWe c e).eWe c ≤ (s.addWe c e).sW c → exec (.wiringEnergyCut c e) s = .next (chTrip (((s.addWe c e).bump
      CALD_CNT_WE_CUTS 0x3F).irq 0x3F 4) c (cfOc c) 1 3)) ∧
  (∀ (s : State), Completes (exec .weBinBoundary s) fun t => t = s.each (List.range 62) fun s c => (fun s1 => if s1.chSt c = stRetryWait && s1.cf
      (cWeWait c) && s1.pageOn (chPage c) then chRetryTest s1 c else s1) (if (s.ch c).bins.isEmpty then s else s.upCh c fun x =>
      { x with bins := x.bins.filter fun b => s.weBin ≤ b.1 + 16 }))

/-- A channel in limitation marks LIMITING and its start, the end of limitation adds the counted time; after TFILT in limitation it trips, and a
fast trip trips at once: the flag, the log and the turn-off. A completed turn-off adds its clamp energy. A thermal latch of a
conducting channel sets its flags and turns it off; it clears when the temperature permits and TL_AUTO is set, or by TL_CLR, which is
rejected while the channel is hot; UNLOCK is rejected while the clamp bucket is above a quarter. A reading is entered, and an LS clamp
that conducts fills its bucket. As its conclusion exec answers a next state, under conditions on the state and the operands alone, for
each of the constructors: limitationStart, limitationEnd, filteredTrip, fastTrip, turnOffComplete, thermalLatchSet, thermalLatchClear,
actTlClr, actUnlock, senseUpdate, lsClampConduction. -/
def Obligations.ChannelStageCommands : Prop :=
  (∀ (s : State) (c : Nat), conducting (s.chSt c) = true → s.cf (cLimiting c) = false → (s.ch c).clearFrom = none → exec (.limitationStart (.chan c)) s =
      .next ((s.wr (cLimiting c) 1).upCh c fun x => { x with limFrom := some s.tb, lastOc := some s.tb, limited := true, clearFrom := none })) ∧
  (∀ (s : State) (c t : Nat), conducting (s.chSt c) = true → s.cf (cLimiting c) = false → (s.ch c).clearFrom = some t → exec (.limitationStart (.chan c))
      s = .next (((s.upCh c fun x => { x with filt := if s.cleanRun c t then 0 else x.filt, clearFrom := some s.tb }).wr (cLimiting c) 1).upCh c fun x
      => { x with limFrom := some s.tb, lastOc := some s.tb, limited := true, clearFrom := none })) ∧
  (∀ (s : State) (c we : Nat), s.cf (cLimiting c) = true → exec (.limitationEnd (.chan c) we) s = .next (((s.addWe c we).wr (cLimiting c) 0).upCh c fun x
      =>
      { x with filt := s.limTime c, limFrom := none, clearFrom := if (((s.addWe c we).wr (cLimiting c) 0).ch c).level then some ((s.addWe c we).wr (cLimiting c) 0).tb else none })) ∧
  (∀ (s : State) (c we : Nat), conducting (s.chSt c) = true → s.cf (cLimiting c) = true → s.pageOn (chPage c) = true → s.clk.frozen = false → tfiltNs
      (s.rd (cTfilt c)) ≤ s.limTime c → exec (.filteredTrip (.chan c) we) s = .next (chTrip (s.addWe c we) c (cfOc c) 1 3)) ∧
  (∀ (s : State) (c : Nat), (s.ch c).preheat = false → s.pageOn (chPage c) = true → conducting (s.chSt c) = true → exec (.fastTrip (.chan c)) s = .next
      (chTrip s c (cfFast c) 0 2)) ∧
  (∀ (s : State) (c e we : Nat), (s.addWe c we).chSt c = stTurnOff → ((s.addWe c we).addClamp c e).pageOn (chPage c) = true → exec (.turnOffComplete
      (.chan c) e we) s = .next (((((s.addWe c we).addClamp c e).clampCheck c).logClamp c).afterOff c)) ∧
  (∀ (s : State) (c e we : Nat), (s.addWe c we).chSt c = stTurnOff → ((s.addWe c we).addClamp c e).pageOn (chPage c) = false → exec (.turnOffComplete
      (.chan c) e we) s = .next (((s.addWe c we).addClamp c e).upCh c fun x => { x with pendOff := true })) ∧
  (∀ (s : State) (c : Nat), c < 62 → (s.ch c).latch = false → s.pageOn (chPage c) = true → s.coupledNow c = false → s.chSt c = stLocked → Completes (exec
      (.thermalLatchSet (.chan c)) s) fun t => t.rd (cTlHold c) = 1 ∧ t.rd (cfTherm c) = 1 ∧ (t.ch c).latch = true ∧ t.chSt c = stLocked) ∧
  (∀ (s : State) (c : Nat), 62 ≤ c → (s.ch c).latch = false → (s.ch c).retryEnd = none → s.pageOn (chPage c) = true → (conducting ((((s.wr (cTlHold c)
      1).chFault c (cfTherm c) 2).upCh c fun x => { x with latch := true }).chSt c) = true) → exec (.thermalLatchSet (.chan c)) s = .next ((((s.wr
      (cTlHold c) 1).chFault c (cfTherm c) 2).upCh c fun x => { x with latch := true }).turnOff c .thermal)) ∧
  (∀ (s : State) (c : Nat), (s.ch c).latch = true → s.cf (cTlAuto c) = true → sgn 16 (s.rd (cTj c)) ≤ Config.releaseTemp → exec (.thermalLatchClear
      (.chan c)) s = .next (chLatchClear s c)) ∧
  (∀ (s s1 : State) (m : Master) (c : Nat), s.takes (chPage c) (chActOff c) 1 = true → s1 = s.reached (chPage c) → (s1.ch c).latch = true →
      Config.releaseTemp < sgn 16 (s1.rd (cTj c)) → exec (.actTlClr m (.chan c)) s = .next (s1.reject (chPage c))) ∧
  (∀ (s s1 : State) (m : Master) (c : Nat), s.takes (chPage c) (chActOff c) 1 = true → s1 = s.reached (chPage c) → (s1.ch c).latch = true → ¬
      Config.releaseTemp < sgn 16 (s1.rd (cTj c)) → exec (.actTlClr m (.chan c)) s = .next (chLatchClear s1 c)) ∧
  (∀ (s s1 : State) (m : Master) (c : Nat), s.takes (chPage c) (chActOff c) 2 = true → s1 = s.reached (chPage c) → s1.budget c ≤ 4 * s1.rd (cFill c) →
      exec (.actUnlock m (.chan c)) s = .next (s1.reject (chPage c))) ∧
  (∀ (s s1 : State) (m : Master) (c : Nat), s.takes (chPage c) (chActOff c) 2 = true → s1 = s.reached (chPage c) → ¬ s1.budget c ≤ 4 * s1.rd (cFill c) →
      exec (.actUnlock m (.chan c)) s = .next ((s1.upCh c fun x => { x with lockClamp := false }).unlockCheck c)) ∧
  (∀ (s : State) (c tj vout : Nat) (raw : Int) (p l : Bool), 62 ≤ c → s.pageOn (chPage c) = true → Completes (exec (.senseUpdate (.chan c) raw vout tj p
      l) s) fun t => t.rd (cSense c) = min raw.toNat 4095 % 2 ^ (cSense c).w) ∧
  (∀ (s : State) (c tj vout : Nat) (raw : Int) (p l : Bool), exec (.senseUpdate (.chan c) raw vout tj p l) s = .next (steadyRead (chSense s c raw vout tj
      p l) c)) ∧
  (∀ (s : State) (c e : Nat), c < 62 → s.domOn 7 = true → s.chSt c = stTurnOff → exec (.lsClampConduction (.chan c) e) s = .next ((s.addClamp c
      e).clampCheck c)) ∧
  (∀ (s : State) (c e : Nat), 46 ≤ c → c < 62 → s.domOn 7 = true → s.chSt c ≠ stTurnOff → exec (.lsClampConduction (.chan c) e) s = .next (lockAtRest
      (((s.addClamp c e).clampCheck c).logClamp c) c))

/-- While PD_OUT is on, the 1 ms tick decays the clamp buckets, releases clamp locks, takes the die temperatures, advances the wires, estimates
the dissipation and derates or not, and shows the supply current; it does nothing without PD_OUT. After 100 ms below the release
thresholds and 10 ms after the last release, the last derating action is undone; with EN clear the drain undoes one action each 10 ms.
A cap is undone by 512 of 4,095, and a shed stage is requested again. A write of AMB_SET is stored, clears STALE and starts the 10 s
after which the written ambient turns stale with IRQ 5. As its conclusion exec answers a next state, under conditions on the state and
the operands alone, for each of the constructors: calderaTick, calderaRelease, calderaDrainStep, ambSetWrite, ambStale. -/
def Obligations.CalderaCommands : Prop :=
  (∀ (s : State) (temps : List Int) (vpins : List Nat) (ssup lines : List (Nat × Int)) (cols : List Nat) (aux vlf ivlf : Nat), (swiVpins s vpins).domOn 7
      = false → exec (.calderaTick temps ⟨vpins, ssup⟩ ⟨lines, cols⟩ aux vlf ivlf) s = .next (swiVpins s vpins)) ∧
  (∀ (s s0 s1 s2 s3 : State) (temps : List Int) (vpins : List Nat) (ssup lines : List (Nat × Int)) (cols : List Nat) (aux vlf ivlf : Nat), s0 = swiVpins
      s vpins → s0.domOn 7 = true → s0.clk.frozen = false → (s1 = takeTemps (autoUnlock (bif s0.cald.froze then decayBuckets s0 s0.domOn (expNeg
      (s0.estUs * 1048576 / 2000000)) 1073741824 else decayBuckets s0 s0.domOn decay1ms 1000000000000)) temps) → (s2 = wireTick (bif (s1.cald.firstEst
      || s1.cald.gap.isSome) then wireFirst s1 else s1) s0.estUs) → (s3 = bif s2.domOn 11 then s2.set ACC_MEAS_I_VLF 0x82 ivlf else s2) → exec
      (.calderaTick temps ⟨vpins, ssup⟩ ⟨lines, cols⟩ aux vlf ivlf) s = .next (showTotal (budgetTick
      { s3 with cald := { s3.cald with clampMs := 0, auxI := aux, estTb := s3.tb, froze := false } } (s3.pEst (ssupLoss ssup + vlf * s3.get
      ACC_MEAS_I_VLF 0x82) (ledLoss lines cols)) (ledLoss lines cols) (hottest temps).1))) ∧
  (∀ (s : State) (t : Nat), s.cald.underSince = some t → s.flag H_CTRL_EN caldPage = true → s.derated = true → t + 100000000 ≤ s.tb → s.cald.lastUndo +
      10000000 ≤ s.tb → s.domOn 7 = true → s.clk.frozen = false → exec .calderaRelease s = .next (undoAction s)) ∧
  (∀ (s : State), s.domOn 7 = true → s.flag H_CTRL_EN caldPage = false → s.derated = true → s.cald.lastUndo + 10000000 ≤ s.tb → s.clk.frozen = false →
      exec .calderaDrainStep s = .next (undoAction s)) ∧
  (∀ (s s1 : State) (p old : Nat) (r : List Derate), s.cald.actions = .cap p old :: r → s.domOn 7 = true → s.flag H_CTRL_EN caldPage = false →
      s.cald.lastUndo + 10000000 ≤ s.tb → s.clk.frozen = false → s.get (capFld p) caldPage + 512 < 4095 → s1 =
      { s with cald := { s.cald with actions := r, lastUndo := s.tb } }.set (capFld p) caldPage (s.get (capFld p) caldPage + 512) → exec
      .calderaDrainStep s = .next (setStage s1 (match r with | [] => 0 | d :: _ => d.stage s1))) ∧
  (∀ (s s1 : State) (u : Req) (r : List Derate), s.cald.actions = .shed u :: r → s.domOn 7 = true → s.flag H_CTRL_EN caldPage = false → s.cald.lastUndo +
      10000000 ≤ s.tb → s.clk.frozen = false → s1 = { s with cald := { s.cald with actions := r, lastUndo := s.tb } } → exec .calderaDrainStep s =
      .next (unshedUnit (setStage s1 (if r.isEmpty then 0 else (Derate.shed u).stage s - 1)) u)) ∧
  (∀ (s : State) (m : Master) (v : Word), s.takes caldPage 0x44 v.toNat = true → Completes (exec (.ambSetWrite m v) s) fun t => t.flag CALD_AMB_STALE
      caldPage = false ∧ t.cald.ambTb = s.tb ∧ t =
      { (plainWrite (s.reached caldPage) caldPage 0x44 v.toNat).put CALD_AMB_STALE caldPage false with cald := { s.cald with ambTb := s.tb } }) ∧
  (∀ (s : State), s.domOn 7 = true → s.flag CALD_CFG_AMB_SRC caldPage = true → s.flag CALD_AMB_STALE caldPage = false → s.cald.ambTb + 10000000000 ≤ s.tb
      → exec .ambStale s = .next ((s.put CALD_AMB_STALE caldPage true).irq caldPage 5))

/-- A DRIVE write that the bridge allows is stored, ends an automatic move and has the transition of the state table: it queues a start from
OFF, a driving code of the other direction brakes first and the new direction queues afterwards, a code that does not drive stops a
running bridge; a reserved code or a write to the page of the higher half of a pair is rejected. The 20 ms brake passes on, a stall
stops the motor, a trip, a clamp bucket or CLEAR locks or releases the bridge, and a thermal latch turns it off. As its conclusion
exec answers a next state, under conditions on the state and the operands alone, for each of the constructors: hbDriveWrite,
dirBrakeEnd, brakeTimerEnd, stallDetect, hbActClear, limitationStart, limitationEnd, filteredTrip, fastTrip, turnOffComplete,
thermalLatchSet, thermalLatchClear. -/
def Obligations.BridgeCommands : Prop :=
  (∀ (s z : State) (m : Master) (b : Nat) (v : Word), z = s.commitsFirst → z.takes (brPage b) (brOutOff b) v.toNat = true → ((z.reached (brPage b)).lead
      b != b || (z.reached (brPage b)).badDrive b (v.toNat % 8)) = true → exec (.hbDriveWrite m b v) s = .next ((z.reached (brPage b)).reject (brPage
      b))) ∧
  (∀ (s z : State) (m : Master) (b : Nat) (v : Word) (s1 : State), b < 20 → z = s.commitsFirst → z.takes (brPage b) (brOutOff b) v.toNat = true →
      ((z.reached (brPage b)).lead b != b || (z.reached (brPage b)).badDrive b (v.toNat % 8)) = false → (s1 = (plainWrite (z.reached (brPage b))
      (brPage b) (brOutOff b) v.toNat).upBr b fun x => { x with auto := false }) → s1.brAccepts b = true → s1.brSt b = bsOff → driving (s1.rd (bDrive
      b)) = true → exec (.hbDriveWrite m b v) s = .next (s1.brStart b)) ∧
  (∀ (s z : State) (m : Master) (b : Nat) (v : Word) (s1 : State), b < 20 → z = s.commitsFirst → z.takes (brPage b) (brOutOff b) v.toNat = true →
      ((z.reached (brPage b)).lead b != b || (z.reached (brPage b)).badDrive b (v.toNat % 8)) = false → (s1 = (plainWrite (z.reached (brPage b))
      (brPage b) (brOutOff b) v.toNat).upBr b fun x => { x with auto := false }) → s1.brAccepts b = true → s1.brSt b = bsRun → driving (s1.rd (bDrive
      b)) = false → exec (.hbDriveWrite m b v) s = .next ((s1.upBr b fun x => { x with stallFrom := none }).setBr b (drivenState (s1.rd (bDrive b))))) ∧
  (∀ (s z : State) (m : Master) (b : Nat) (v : Word) (s1 : State), b < 20 → z = s.commitsFirst → z.takes (brPage b) (brOutOff b) v.toNat = true →
      ((z.reached (brPage b)).lead b != b || (z.reached (brPage b)).badDrive b (v.toNat % 8)) = false → (s1 = (plainWrite (z.reached (brPage b))
      (brPage b) (brOutOff b) v.toNat).upBr b fun x => { x with auto := false }) → s1.brAccepts b = true → s1.brSt b = bsRun → driving (s1.rd (bDrive
      b)) = true → driving ((z.reached (brPage b)).rd (bDrive b)) = true → (s1.rd (bDrive b) != (s1.br b).lastDrive) = true → exec (.hbDriveWrite m b
      v) s = .next ((s1.upBr b fun x => { x with timerEnd := s1.tb + s1.rd (bDirBrake b) * 1000000, stallFrom := none, refused := false }).setBr b
      bsDirBrake)) ∧
  (∀ (s : State) (b l : Nat), s.lead b = l → s.brSt l = bsDirBrake → (s.br l).timerEnd ≤ s.tb → (s.br l).refused = false → exec (.dirBrakeEnd b) s =
      .next (s.brStart l)) ∧
  (∀ (s : State) (b l : Nat), s.lead b = l → (s.br l).timerEnd ≤ s.tb → (s.brSt l = bsSafeBrake ∨ s.brSt l = bsStopped) → (s.br l).next ≠ bsQueued → exec
      (.brakeTimerEnd b) s = .next ((s.upBr l fun x => { x with timerEnd := 0 }).setBr l (s.br l).next)) ∧
  (∀ (s : State) (b l : Nat), s.lead b = l → (s.br l).timerEnd ≤ s.tb → (s.brSt l = bsSafeBrake ∨ s.brSt l = bsStopped) → (s.br l).next = bsQueued → exec
      (.brakeTimerEnd b) s = .next (((s.upBr l fun x => { x with timerEnd := 0 }).setBr l bsOff).brResume l)) ∧
  (∀ (s : State) (b t : Nat), (s.br b).stallFrom = some t → t + s.stallNs b ≤ s.tb → s.brSt b = bsRun → b < 20 → exec (.stallDetect b) s = .next (if
      ((s.brFault b (bfStall b) 8).logChan (62 + b) 5).cf (bStallAct b) then (((s.brFault b (bfStall b) 8).logChan (62 + b) 5)).brStop b bsStopped
      bsStopped else ((s.brFault b (bfStall b) 8).logChan (62 + b) 5).upBr b fun x => { x with stallFrom := none })) ∧
  (∀ (s s1 : State) (m : Master) (b : Nat), (s.takes (brPage b) (if isGd b then 0x70 else 0x6C) 4 = true) → s1 = s.reached (brPage b) → s1.brLatched b =
      false → exec (.hbActClear m b) s = .next ((s1.each (s1.halves b) fun z h => z.upBr h fun x =>
      { x with lockTrip := false, lockVds := false, lockCp := x.lockCp && isGd b && !s1.flag GD_CHSTAT_CP_OK (brPage b) }).brRelease ((s1.each
      (s1.halves b) fun z h => z.upBr h fun x =>
      { x with lockTrip := false, lockVds := false, lockCp := x.lockCp && isGd b && !s1.flag GD_CHSTAT_CP_OK (brPage b) }).lead b))) ∧
  (∀ (s : State) (b : Nat), s.brFlows b = true → s.gdOver b = true → (s.br b).limFrom = none → (s.br b).clearFrom = none → exec (.limitationStart
      (.bridge b)) s = .next ((s.wr (bLimiting b) 1).upBr b fun x => { x with limFrom := some s.tb, clearFrom := none })) ∧
  (∀ (s : State) (b t : Nat) (l : Bridge), s.brFlows b = true → s.gdOver b = true → (s.br b).limFrom = none → (s.br b).clearFrom = some t → l = s.br
      (s.lead b) → exec (.limitationStart (.bridge b)) s = .next (((s.upBr b fun x =>
      { x with filt := if cleanFor (s.brSt b != bsRun) l.freq l.phase l.duty t s.tb then 0 else x.filt, clearFrom := some s.tb }).wr (bLimiting b)
      1).upBr b fun x => { x with limFrom := some s.tb, clearFrom := none })) ∧
  (∀ (s : State) (b t we : Nat), (s.br b).limFrom = some t → (isGd b = false ∨ s.gdOver b = false) → exec (.limitationEnd (.bridge b) we) s = .next
      ((s.wr (bLimiting b) 0).upBr b fun x => { x with filt := x.filt + (s.tb - t), limFrom := none, clearFrom := some s.tb })) ∧
  (∀ (s : State) (b t we : Nat), (s.br b).limFrom = some t → brTfiltNs (s.rd (bTfilt b)) ≤ (s.br b).filt + (s.tb - t) → s.clk.frozen = false → exec
      (.filteredTrip (.bridge b) we) s = .next (brTrip s b (bfOc b) 1 3)) ∧
  (∀ (s : State) (b : Nat), s.brFlows b = true → exec (.fastTrip (.bridge b)) s = .next (brTrip s b (bfFast b) 0 2)) ∧
  (∀ (s : State) (b eh el : Nat), b < 20 → s.domOn 7 = true → s.get HB_CLAMP_FILL_HS (brPage b) + eh < s.get HB_CLAMP_CFG_BUDGET (brPage b) → s.get
      HB_CLAMP_FILL_LS (brPage b) + el < s.get HB_CLAMP_CFG_BUDGET (brPage b) → s.get HB_CLAMP_CFG_BUDGET (brPage b) < 2 ^ 16 → Completes (exec
      (.turnOffComplete (.bridge b) eh el) s) fun t => t.get HB_CLAMP_FILL_HS (brPage b) = s.get HB_CLAMP_FILL_HS (brPage b) + eh ∧ t.get
      HB_CLAMP_FILL_LS (brPage b) = s.get HB_CLAMP_FILL_LS (brPage b) + el) ∧
  (∀ (s : State) (b : Nat), b < 20 → (s.br b).latch = false → exec (.thermalLatchSet (.bridge b)) s = .next ((((((s.wr (bTlHold b) 1).brFault b
      (HB_FAULT_THERMAL.loc (brPage b)) 2).logChan (62 + b) 4).upBr b fun x => { x with latch := true }).withdraw (.bridge (s.lead b))).setBr (s.lead
      b) bsThermal)) ∧
  (∀ (s : State) (b : Nat), (s.br b).latch = true → s.flag HB_CFG_TL_AUTO (brPage b) = true → sgn 16 (s.get HB_TJ (brPage b)) ≤ Config.releaseTemp → exec
      (.thermalLatchClear (.bridge b)) s = .next (((s.upBr b fun x => { x with latch := false }).wr (bTlHold b) 0).brRelease (s.lead b)))

/-- A drain-source fault sets its flag, raises its interrupt and locks the bridge; an undervoltage of the charge pump clears CP_OK, flags and
locks all four gate drivers; once its start has been admitted the pump in regulation sets CP_OK. The wiper stops in its park position.
ZERO measures the shunt offset while the bridge is OFF and is rejected otherwise. Ripples that stay below FMIN for 50 ms stall the
motor. A ripple counts while the engine is enabled; an inserted ripple counts in INSERTED too and loses NORM above the tolerance.
NORM_NOW normalises, NORM_CLR clears NORM with cause 5. A TARGET that would close without NORM is refused with AUTO_REFUSED; one that
is reached already does nothing. The reversal asks for its start after its delay; a write of the profile is rejected while the bridge
runs or the profile is locked. As its conclusion exec answers a next state, under conditions on the state and the operands alone, for
each of the constructors: vdsFault, cpUndervoltage, chargePumpReady, wiperParkStop, gdActZero, rpeLowFreqStall, rippleCount,
rippleInsert, actNormNow, actNormClr, targetGo, pinchEvaluation, reversalRequest, profileWrite. -/
def Obligations.GateDriverAndRippleCommands : Prop :=
  (∀ (s : State) (g sw : Nat), exec (.vdsFault g sw) s = .next (((s.set GD_FAULT_VDS (0x54 + g) (setBit (s.get GD_FAULT_VDS (0x54 + g)) sw)).irq (0x54 +
      g) (2 + sw)).brLock (20 + g) fun x => { x with lockVds := true })) ∧
  (∀ (s : State), exec .cpUndervoltage s = .next (s.each [0, 1, 2, 3] fun s g => ((s.put GD_CHSTAT_CP_OK (0x54 + g) false).brFault (20 + g)
      (GD_FAULT_CP_UV.loc (0x54 + g)) 6).brLock (20 + g) fun x => { x with lockCp := true })) ∧
  (∀ (s : State), s.gate.pumpOn = true → exec .chargePumpReady s = .next (s.each [0, 1, 2, 3] fun s g => s.put GD_CHSTAT_CP_OK (0x54 + g) true)) ∧
  (∀ (s : State) (g : Nat), s.flag GD_PARK_EN (0x54 + g) = true → s.brSt (20 + g) = bsRun → (s.br (20 + g)).parkDue = true → exec (.wiperParkStop g) s =
      .next ((s.put GD_CHSTAT_PARKED (0x54 + g) true).brStop (20 + g) bsStopped bsStopped)) ∧
  (∀ (s s1 : State) (m : Master) (g : Nat) (o : Int), s.takes (0x54 + g) 0x70 32 = true → s1 = s.reached (0x54 + g) → s1.brSt (20 + g) = bsOff → exec
      (.gdActZero m g o) s = .next (s1.upBr (20 + g) fun x => { x with offset := o })) ∧
  (∀ (s s1 : State) (m : Master) (g : Nat) (o : Int), s.takes (0x54 + g) 0x70 32 = true → s1 = s.reached (0x54 + g) → s1.brSt (20 + g) ≠ bsOff → exec
      (.gdActZero m g o) s = .next (s1.reject (0x54 + g))) ∧
  (∀ (s : State) (g t : Nat), (s.eng g).lowFrom = some t → t + 50000000 < s.tb → s.brSt (20 + g) = bsRun → s.flag RPE_CFG_EN rpePage g = true → exec
      (.rpeLowFreqStall g) s = .next (brStall s (20 + g))) ∧
  (∀ (s : State) (g amp : Nat), s.counts g = true → s.brSt (20 + g) ≠ bsOff → (s.eng g).lastCross = none → s.get RPE_RIP_HYST rpePage g * (s.br (20 +
      g)).lastI ≤ amp * 100 → exec (.rippleCount ⟨g, amp⟩) s = .next (rpeCount (s.upEng g fun x => { x with lastCross := some s.tb }) g)) ∧
  (∀ (s : State) (g amp t : Nat), s.counts g = true → s.brSt (20 + g) ≠ bsOff → (s.eng g).lastCross = some t → 4000000000 ≤ (s.tb - t) * 10 * s.ripFreq g
      → s.get RPE_RIP_HYST rpePage g * (s.br (20 + g)).lastI ≤ amp * 100 → exec (.rippleCount ⟨g, amp⟩) s = .next (rpeCount (s.upEng g fun x =>
      { x with lastCross := some s.tb }) g)) ∧
  (∀ (s : State) (g amp t : Nat), s.brSt (20 + g) ≠ bsOff → (s.eng g).lastCross = some t → (s.tb - t) * 10 * s.ripFreq g < 4000000000 → exec
      (.rippleCount ⟨g, amp⟩) s = .next s) ∧
  (∀ (s : State) (g amp : Nat), s.brSt (20 + g) ≠ bsOff → amp * 100 < s.get RPE_RIP_HYST rpePage g * (s.br (20 + g)).lastI → exec (.rippleCount ⟨g, amp⟩)
      s = .next s) ∧
  (∀ (s : State) (g amp : Nat), s.counts g = true → s.brSt (20 + g) = bsOff → s.get RPE_RIP_FMIN rpePage g ≤ s.get RPE_F_EST_FREQ rpePage g → (rpeCount
      (s.bump RPE_STAT_INSERTED rpePage g) g).get RPE_STAT_INSERTED rpePage g ≤ (rpeCount (s.bump RPE_STAT_INSERTED rpePage g) g).get
      RPE_TRAVEL_NORM_TOL rpePage g → exec (.rippleCount ⟨g, amp⟩) s = .next (rpeCount (s.bump RPE_STAT_INSERTED rpePage g) g)) ∧
  (∀ (s : State) (g amp : Nat), s.counts g = true → s.brSt (20 + g) ≠ bsOff → s.brSt (20 + g) ≠ bsReversing → (s.br (20 + g)).auto = false → (s.eng
      g).lastCross = none → s.get RPE_RIP_HYST rpePage g * (s.br (20 + g)).lastI ≤ amp * 100 → g < 4 → -(s.get RPE_TRAVEL_MARGIN rpePage g : Int) ≤
      s.pos g + s.countStep g → s.pos g + s.countStep g ≤ (s.get RPE_TRAVEL_MAX rpePage g : Int) + (s.get RPE_TRAVEL_MARGIN rpePage g : Int) → exec
      (.rippleCount ⟨g, amp⟩) s = .next ((s.upEng g fun x => { x with lastCross := some s.tb }).set RPE_POS rpePage (unsgn 24 (s.pos g + s.countStep
      g)) g)) ∧
  (∀ (s s1 : State) (g t : Nat), s.counts g = true → s.brSt (20 + g) ≠ bsOff → (s.eng g).lastCross = some t → 16000000000 < (s.tb - t) * 10 * s.ripFreq g
      → (s1 = rpeCount ((s.upEng g fun x => { x with lastCross := some (t + 1000000000 / s.ripFreq g) }).bump RPE_STAT_INSERTED rpePage g) g) → s1.get
      RPE_TRAVEL_NORM_TOL rpePage g < s1.get RPE_STAT_INSERTED rpePage g → exec (.rippleInsert g) s = .next (s1.normLost g 1)) ∧
  (∀ (s : State) (m : Master) (g : Nat), s.takes rpePage (rpeOff g 0x34) 1 = true → (s.reached rpePage).brSt (20 + g) ≠ bsRun → exec (.actNormNow m g) s
      = .next ((s.reached rpePage).normalise g)) ∧
  (∀ (s : State) (m : Master) (g : Nat), s.takes rpePage (rpeOff g 0x34) 2 = true → exec (.actNormClr m g) s = .next ((s.reached rpePage).normLost g 5)) ∧
  (∀ (s s1 : State) (m : Master) (g : Nat) (v : Word), s.takes rpePage (rpeOff g 0x30) (v.toNat ||| 2 ^ 31) = true → s1 = (s.reached rpePage).set
      RPE_TARGET_POS rpePage ((v.toNat ||| 2 ^ 31) % 65536) g → (((v.toNat ||| 2 ^ 31) % 65536 : Nat) : Int) < s1.pos g → s1.flag RPE_STAT_NORM
      rpePage g = false → exec (.targetGo m g v) s = .next ((s1.put RPE_STAT_AUTO_REFUSED rpePage true g).irq rpePage (4 * g + 3))) ∧
  (∀ (s s1 : State) (m : Master) (g : Nat) (v : Word), s.takes rpePage (rpeOff g 0x30) (v.toNat ||| 2 ^ 31) = true → s1 = (s.reached rpePage).set
      RPE_TARGET_POS rpePage ((v.toNat ||| 2 ^ 31) % 65536) g → (((v.toNat ||| 2 ^ 31) % 65536 : Nat) : Int) = s1.pos g → exec (.targetGo m g v) s =
      .next s1) ∧
  (∀ (s s1 : State) (m : Master) (g : Nat) (v : Word), s.takes rpePage (rpeOff g 0x30) (v.toNat ||| 2 ^ 31) = true → s1 = (s.reached rpePage).set
      RPE_TARGET_POS rpePage ((v.toNat ||| 2 ^ 31) % 65536) g → s1.pos g < (((v.toNat ||| 2 ^ 31) % 65536 : Nat) : Int) → s1.brSt (20 + g) ≠
      bsReversing → exec (.targetGo m g v) s = .next ((brReact (s1.wr (bDrive (20 + g)) (3 - s1.closeCode g)) (20 + g) (s1.rd (bDrive (20 + g)))
      ((s1.wr (bDrive (20 + g)) (3 - s1.closeCode g)).rd (bDuty (20 + g)))).upBr (20 + g) fun x => { x with auto := true })) ∧
  (∀ (s : State) (g i vb : Nat), s.flag RPE_CFG_PINCH_EN rpePage g = false → g < 4 → Completes (exec (.pinchEvaluation g i vb) s) fun t => t.get
      RPE_F_EST_FREQ rpePage g = min ((vb - i * s.get RPE_MOTOR_R_ARM rpePage g / 1000) / max (s.get RPE_MOTOR_KE rpePage g) 1) 65535 ∧ (t.eng g).hist
      = (i :: (s.eng g).hist).take 10) ∧
  (∀ (s : State) (g : Nat), s.brSt (20 + g) = bsReversing → (s.eng g).rev = .brake → (s.eng g).revTb + s.get RPE_REV_DELAY rpePage g * 1000000 ≤ s.tb →
      exec (.reversalRequest g) s = .next ((s.upEng g fun x => { x with rev := .waiting }).queueStart (s.brEntry (20 + g)))) ∧
  (∀ (s s1 : State) (m : Master) (g off : Nat) (v : Word), s.takes rpePage off v.toNat = true → s1 = s.reached rpePage → (s1.brSt (20 + g) = bsRun ||
      (0x800 ≤ off && s1.flag RPE_PROF_LOCK rpePage)) = true → exec (.profileWrite m g off v) s = .next (s1.reject rpePage)) ∧
  (∀ (s s1 : State) (m : Master) (g off : Nat) (v : Word), s.takes rpePage off v.toNat = true → s1 = s.reached rpePage → (s1.brSt (20 + g) = bsRun ||
      (0x800 ≤ off && s1.flag RPE_PROF_LOCK rpePage)) = false → exec (.profileWrite m g off v) s = .next (plainWrite s1 rpePage off v.toNat))

/-- OUT.ON written 1 starts an enabled valve at rest, written 0 turns it off or starts its ramp-down. A valve that waits for the peak token
longer than OVERLAP_TMAX is refused. At its target with mode 0 the peak ends in REGULATE; each regulation period takes its duty and
counts the dither; a coil measurement is stored; the coil model and the ramp-down advance; a dip of the armature is seen. Trips, clamp
buckets and latches lock the valve and the ACT bits release it. A bank that is on and in limitation counts its time; after TFILT, or
at once at its fast trip, it trips: its flag, its interrupt, and BANK_TRIP locks of both valves. Its thermal latch takes both valves
to THERMAL and ends at the release temperature. CLEAR ends the BANK_TRIP locks once the latch is clear. A reading shows the bank's
current and temperature. As its conclusion exec answers a next state, under conditions on the state and the operands alone, for each
of the constructors: valveOutWrite, overlapTimeout, valvePeakEnd, armatureDip, valveRegulationPeriod, coilMeasurement, coilModelTick,
rampDownEnd, valveActClear, valveFreezeTurnOff, limitationStart, limitationEnd, filteredTrip, fastTrip, turnOffComplete,
thermalLatchSet, thermalLatchClear, actTlClr, actUnlock, lsClampConduction, bankTrip, vbkActClear, senseUpdate. -/
def Obligations.ValveAndBankCommands : Prop :=
  (∀ (s z s1 : State) (m : Master) (n : Nat) (v : Word), z = s.commitsFirst → z.takes (vPage n) 0x44 v.toNat = true → s1 = z.reached (vPage n) → v.toNat
      % 2 = 1 → s1.vSt n = vsOff → (s1.put VLV_OUT_ON (vPage n) true).accepts (vPage n) = true → exec (.valveOutWrite m n v) s = .next (vStart (s1.put
      VLV_OUT_ON (vPage n) true) n)) ∧
  (∀ (s z s1 : State) (m : Master) (n : Nat) (v : Word), z = s.commitsFirst → z.takes (vPage n) 0x44 v.toNat = true → s1 = z.reached (vPage n) → v.toNat
      % 2 = 0 → s1.vSt n = vsHold → exec (.valveOutWrite m n v) s = .next (vTurnOff (s1.put VLV_OUT_ON (vPage n) false) n)) ∧
  (∀ (s z s1 : State) (m : Master) (n : Nat) (v : Word), z = s.commitsFirst → z.takes (vPage n) 0x44 v.toNat = true → s1 = z.reached (vPage n) → v.toNat
      % 2 = 0 → s1.vSt n = vsQueued → exec (.valveOutWrite m n v) s = .next ((s1.put VLV_OUT_ON (vPage n) false).setV n vsOff)) ∧
  (∀ (s : State) (n : Nat), s.vSt n = vsDeferred → (s.vlv n).waitFrom + s.get VBK_CFG_OVERLAP_TMAX bankPage * 1000000 ≤ s.tb → exec (.overlapTimeout n) s
      = .next ((((s.vFault n VLV_FAULT_OVERLAP_REFUSED 14).setV n vsOff).bump VBK_CNT_REFUSALS bankPage (bankOf n)).irq bankPage (4 * bankOf n + 3))) ∧
  (∀ (s s1 s2 : State) (n i : Nat), s.vSt n = vsPeak → (s.vlv n).reached = none → s.peakTarget n ≤ i → (s1 = vDiagnose (s.upVlv n fun x =>
      { x with reached := some s.tb }) n i true) → s1.vSt n = vsPeak → (s1.get VLV_CFG_MODE (vPage n) = 0 ∨ s1.get VLV_PH2_T_PEAK (vPage n) = 0) → (s2
      = (s1.upVlv n fun x => { x with ditherJ := 0 }).setV n (if s1.get VLV_CFG_MODE (vPage n) = 1 then vsHold else vsRegulate)) → exec (.valvePeakEnd
      n i) s = .next (s2.upVlv n fun x => { x with base := s2.baseTarget n })) ∧
  (∀ (s s2 : State) (n i t : Nat), s.vSt n = vsPeak → (s.vlv n).reached = some t → t + s.get VLV_PH2_T_PEAK (vPage n) * 1000000 ≤ s.tb → (s2 = (s.upVlv n
      fun x => { x with ditherJ := 0 }).setV n (if s.get VLV_CFG_MODE (vPage n) = 1 then vsHold else vsRegulate)) → exec (.valvePeakEnd n i) s = .next
      (s2.upVlv n fun x => { x with base := s2.baseTarget n })) ∧
  (∀ (s : State) (n i : Nat), s.vSt n = vsPeak → (s.vlv n).reached = none → s.flag VLV_DIAG_DIP_EN (vPage n) = true → exec (.armatureDip n i) s = .next
      ((s.put VLV_RISE_DIP_SEEN (vPage n) ((s.vlv n).dip || decide (i + s.get VLV_DIP_DEPTH (vPage n) ≤ max (s.vlv n).top i))).upVlv n fun x =>
      { x with top := max (s.vlv n).top i, dip := (s.vlv n).dip || decide (i + s.get VLV_DIP_DEPTH (vPage n) ≤ max (s.vlv n).top i) })) ∧
  (∀ (s : State) (n mean duty : Nat), s.vSt n = vsHold → (s.tb % 50000 + 50000 - 6250 * n) % 50000 < 10 → s.clk.frozen = false → exec
      (.valveRegulationPeriod n mean duty) s = .next ((s.put VLV_CHSTAT_DITHER_SAT (vPage n) (duty = 0 || 4095 ≤ duty)).upVlv n fun x =>
      { x with duty := min duty 4095, ditherJ := (x.ditherJ + 1) % max (ditherN (s.get VLV_DITHER_FREQ (vPage n))) 1, target := (s.vTarget n).1.toNat, per := (s.vTarget n).2, forcedOff := false, base := s.baseTarget n, quiet := if x.base = s.baseTarget n then x.quiet else s.tb })) ∧
  (∀ (s : State) (n mv ma : Nat), n < 8 → s.coilQuiet n = true → 200 ≤ ma → s.domOn 10 = true → mv * 1000 / ma < 65536 → s.get VLV_N_MEAS (vPage n) < 2 →
      exec (.coilMeasurement n mv ma) s = .next (((s.upVlv n fun x => { x with quiet := s.tb }).set VLV_COIL_R (vPage n) (mv * 1000 / ma)).set
      VLV_N_MEAS (vPage n) (s.get VLV_N_MEAS (vPage n) + 1))) ∧
  (∀ (s : State) (n : Nat), s.domOn 8 = true → exec (.coilModelTick n) s = .next (coilStep s n)) ∧
  (∀ (s : State) (n : Nat), s.domOn 8 = false → exec (.coilModelTick n) s = .next s) ∧
  (∀ (s : State) (n : Nat), s.vSt n = vsRamp → (s.vlv n).target ≤ 1000 → (s.vlv n).next ≠ vsDeferred → exec (.rampDownEnd n) s = .next (s.setV n (s.vlv
      n).next)) ∧
  (∀ (s : State) (n : Nat), s.vSt n = vsRamp → (s.vlv n).target ≤ 1000 → (s.vlv n).next = vsDeferred → exec (.rampDownEnd n) s = .next (vAgain s n)) ∧
  (∀ (s s1 : State) (m : Master) (n : Nat), s.takes (vPage n) 0x74 4 = true → s1 = s.reached (vPage n) → exec (.valveActClear m n) s = .next (vRelease
      (s1.upVlv n fun x => { x with lockTrip := x.lockTrip && x.latch, lockDiag := false }) n)) ∧
  (∀ (s : State) (n : Nat), s.clk.frozen = true → s.clk.since + 50000 < s.tb → s.vDrives n = true → (s.vlv n).limFrom = none → (s.vlv n).clearFrom = none
      → exec (.valveFreezeTurnOff n) s = .next (s.upVlv n fun x => { x with forcedOff := true })) ∧
  (∀ (s : State) (n : Nat), s.vDrives n = true → (s.vlv n).limFrom = none → (s.vlv n).clearFrom = none → exec (.limitationStart (.valve n)) s = .next
      ((s.put VLV_CHSTAT_LIMITING (vPage n) true).upVlv n fun x => { x with limFrom := some s.tb })) ∧
  (∀ (s : State) (n t : Nat), s.vDrives n = true → (s.vlv n).limFrom = none → (s.vlv n).clearFrom = some t → exec (.limitationStart (.valve n)) s = .next
      (((s.upVlv n fun x =>
      { x with filt := if (s.vRises n || (s.vlv n).duty == 4095) && t + 50000 ≤ s.tb then 0 else x.filt, clearFrom := none }).put VLV_CHSTAT_LIMITING
      (vPage n) true).upVlv n fun x => { x with limFrom := some s.tb })) ∧
  (∀ (s : State) (n t we : Nat), (s.vlv n).limFrom = some t → exec (.limitationEnd (.valve n) we) s = .next ((s.put VLV_CHSTAT_LIMITING (vPage n)
      false).upVlv n fun x => { x with filt := x.filt + (s.tb - t), limFrom := none, clearFrom := some s.tb })) ∧
  (∀ (s : State) (n t we : Nat), (s.vlv n).limFrom = some t → tfiltNs (s.get VLV_CFG_TFILT (vPage n)) ≤ (s.vlv n).filt + (s.tb - t) → s.clk.frozen =
      false → exec (.filteredTrip (.valve n) we) s = .next (vTrip s n VLV_FAULT_OC_TRIP 1 3)) ∧
  (∀ (s : State) (n : Nat), s.vDrives n = true → exec (.fastTrip (.valve n)) s = .next (vTrip s n VLV_FAULT_FAST_TRIP 0 2)) ∧
  (∀ (s s1 : State) (n e we : Nat), s1 = vClampCheck (vAddClamp s n e) n → (s1.vlv n).pulse = 0 → exec (.turnOffComplete (.valve n) e we) s = .next
      ((s1.upVlv n fun x => { x with pulse := 0, flowing := vConducts (s1.vSt n) && x.flowing }).bankCheck (bankOf n))) ∧
  (∀ (s : State) (n : Nat), (s.vlv n).latch = false → exec (.thermalLatchSet (.valve n)) s = .next (((((s.put VLV_CHSTAT_TL_HOLD (vPage n) true).vFault n
      VLV_FAULT_THERMAL 2).logChan (82 + n) 4).upVlv n fun x => { x with latch := true }).setV n vsThermal)) ∧
  (∀ (s : State) (n : Nat), (s.vlv n).latch = true → s.flag VLV_CFG_TL_AUTO (vPage n) = true → (s.vlv n).tj ≤ Config.releaseTemp → exec
      (.thermalLatchClear (.valve n)) s = .next (vRelease ((s.put VLV_CHSTAT_TL_HOLD (vPage n) false).upVlv n fun x => { x with latch := false }) n)) ∧
  (∀ (s s1 : State) (m : Master) (n : Nat), s.takes (vPage n) 0x74 1 = true → s1 = s.reached (vPage n) → (s1.vlv n).latch = true → Config.releaseTemp <
      (s1.vlv n).tj → exec (.actTlClr m (.valve n)) s = .next (s1.reject (vPage n))) ∧
  (∀ (s s1 : State) (m : Master) (n : Nat), s.takes (vPage n) 0x74 2 = true → s1 = s.reached (vPage n) → 100 ≤ s1.get VLV_CLAMP_FILL (vPage n) → exec
      (.actUnlock m (.valve n)) s = .next (s1.reject (vPage n))) ∧
  (∀ (s s1 : State) (m : Master) (n : Nat), s.takes (vPage n) 0x74 2 = true → s1 = s.reached (vPage n) → ¬ 100 ≤ s1.get VLV_CLAMP_FILL (vPage n) → exec
      (.actUnlock m (.valve n)) s = .next (vRelease (s1.upVlv n fun x => { x with lockClamp := false }) n)) ∧
  (∀ (s : State) (n e : Nat), s.flag VBK_STAT_ON bankPage (bankOf n) = true → exec (.lsClampConduction (.valve n) e) s = .next (vClampCheck (vAddClamp s
      n e) n)) ∧
  (∀ (s : State) (k : Nat), s.flag VBK_STAT_ON bankPage k = true → exec (.bankTrip k true) s = .next (Machine.bankTrip s k VBK_FAULT_FAST_TRIP 0)) ∧
  (∀ (s : State) (k : Nat), s.bankFiltered k = true → exec (.bankTrip k false) s = .next (Machine.bankTrip s k VBK_FAULT_OC_TRIP 1)) ∧
  (∀ (s : State) (k we : Nat), s.bankFiltered k = true → exec (.filteredTrip (.bank k) we) s = .next (Machine.bankTrip s k VBK_FAULT_OC_TRIP 1)) ∧
  (∀ (s s1 : State) (m : Master) (k : Nat), s.takes bankPage (0x114 + 0x20 * k) 1 = true → s1 = s.reached bankPage → (s1.bk k).latch = false → exec
      (.vbkActClear m k) s = .next ((s1.upBk k fun x => { x with tripped := false }).each [2 * k, 2 * k + 1] fun s n => vRelease (s.upVlv n fun x =>
      { x with lockBank := false }) n)) ∧
  (∀ (s : State) (k : Nat), s.flag VBK_STAT_ON bankPage k = true → (s.bk k).limFrom = none → (s.bk k).clearFrom = none → exec (.limitationStart (.bank
      k)) s = .next ((s.put VBK_STAT_LIMITING bankPage true k).upBk k fun x =>
      { x with limFrom := some s.tb, filt := match x.clearFrom with | some t => (if t + 50000 ≤ s.tb then 0 else x.filt) | none => x.filt })) ∧
  (∀ (s : State) (k t we : Nat), (s.bk k).limFrom = some t → exec (.limitationEnd (.bank k) we) s = .next ((s.put VBK_STAT_LIMITING bankPage false
      k).upBk k fun x => { x with filt := x.filt + (s.tb - t), limFrom := none, clearFrom := some s.tb })) ∧
  (∀ (s : State) (k : Nat), (s.bk k).latch = false → exec (.thermalLatchSet (.bank k)) s = .next ((((s.put VBK_FAULT_THERMAL bankPage true k).irq
      bankPage (4 * k + 2)).upBk k fun x => { x with latch := true }).each [2 * k, 2 * k + 1] fun s n => s.setV n vsThermal)) ∧
  (∀ (s : State) (k : Nat), (s.bk k).latch = true → sgn 16 (s.get VBK_TJ bankPage k) ≤ Config.releaseTemp → exec (.thermalLatchClear (.bank k)) s = .next
      ((s.upBk k fun x => { x with latch := false }).each [2 * k, 2 * k + 1] vRelease)) ∧
  (∀ (s : State) (k vout tj : Nat) (raw : Int) (p l : Bool), exec (.senseUpdate (.bank k) raw vout tj p l) s = .next ((s.set VBK_SENSE_I bankPage (min
      raw.toNat (2 ^ 20 - 1)) k).set VBK_TJ bankPage tj k))

/-- The keepalive key feeds the timer and any other value is rejected; at its deadline an enabled keepalive expires: flag, count, IRQ 28 and the
safe states of all pins. RESUME without expiry and key is rejected, otherwise every pin leaves its safe state. An accepted input
transition takes level, sequence, timestamp and interrupt; open load and external high need 20 ms; a VFLD undervoltage shows with IRQ
29 when it begins; a wake-enabled pin in retention wakes. A sample that differs from RAW of an enabled input enters RAW and restarts
its debounce and timed wetting; a level that has stood for DEB is accepted; the wetting timer ends. Cyclic sensing compares the inputs
of a group while PD_FLD is away. A read of EVT gives the oldest park event and removes it, 0 when there is none. An overcurrent of a
sense supply sets its bit with IRQ 18, in park when PD_FLD is back. As its conclusion exec answers a next state, under conditions on
the state and the operands alone, for each of the constructors: keepaliveWrite, keepaliveExpiry, kaResume, safePatternToggle,
fioOpenLoad, fioExtHigh, vfldUvChange, fioTransitionAccept, fioWake, swiRawChange, swiTransitionAccept, wettingTimerEnd,
cyclicSensePulse, swiEvtRead, ssupOvercurrent. -/
def Obligations.FieldInputCommands : Prop :=
  (∀ (s z : State) (m : Master) (v : Word), v.toNat = 0xA55A → s.takes fldPage 0x44 v.toNat = true → z = (keepExpire (s.reached fldPage)).feed → exec
      (.keepaliveWrite m v) s = .next { z with keep := { z.keep with fed := true } }) ∧
  (∀ (s : State) (m : Master) (v : Word), v.toNat ≠ 0xA55A → s.takes fldPage 0x44 v.toNat = true → exec (.keepaliveWrite m v) s = .next ((s.reached
      fldPage).reject fldPage)) ∧
  (∀ (s : State) (t : Nat), s.keep.deadline = some t → s.flag FLD0_KA_CFG_EN fldPage = true → t ≤ s.tb → s.domOn 9 = true → exec .keepaliveExpiry s =
      .next ({ ((s.put FLD0_KA_STAT_EXPIRED fldPage true).bump FLD0_KA_STAT_EXPIRIES fldPage).irq fldPage 28 with keep := {} }.each (List.range 24)
      fioSafe)) ∧
  (∀ (s : State) (m : Master), s.takes fldPage 0x4C 1 = true → ((s.reached fldPage).flag FLD0_KA_STAT_EXPIRED fldPage && (s.reached fldPage).keep.fed) =
      true → exec (.kaResume m) s = .next (((s.reached fldPage).put FLD0_KA_STAT_EXPIRED fldPage false).each (List.range 24) fioResume)) ∧
  (∀ (s : State) (m : Master), s.takes fldPage 0x4C 1 = true → ((s.reached fldPage).flag FLD0_KA_STAT_EXPIRED fldPage && (s.reached fldPage).keep.fed) =
      false → exec (.kaResume m) s = .next ((s.reached fldPage).reject fldPage)) ∧
  (∀ (s : State) (p : Nat), s.isOutput (62 + p) = true → s.safeAct (62 + p) = true → s.safePattern p = true → s.chSt (62 + p) = stOn → exec
      (.safePatternToggle p) s = .next (s.upCh (62 + p) fun x => { x with level := s.safeHalf })) ∧
  (∀ (s : State) (p : Nat), s.isOutput (62 + p) = true → s.safeAct (62 + p) = true → s.safePattern p = true → s.chSt (62 + p) = stOff → s.wanted (62 + p)
      = true → s.offHalf (62 + p) = false → exec (.safePatternToggle p) s = .next (s.goQueued (62 + p) (s.startKind (62 + p)))) ∧
  (∀ (s : State) (p : Nat), s.safeAct (62 + p) = true → s.safePattern p = true → s.chSt (62 + p) = stOff → s.offHalf (62 + p) = true → exec
      (.safePatternToggle p) s = .next s) ∧
  (∀ (s : State) (p t : Nat), (s.pin p).lowFrom = some t → s.chSt (62 + p) = stOn → t + 20000000 ≤ s.tb → exec (.fioOpenLoad p) s = .next (s.chFault (62
      + p) (cfOlOn (62 + p)) 4)) ∧
  (∀ (s : State) (p t : Nat), (s.pin p).highFrom = some t → s.isOutput (62 + p) = true → s.chSt (62 + p) = stOff → t + 20000000 ≤ s.tb → (s.ch (62 +
      p)).offFrom + 20000000 ≤ s.tb → exec (.fioExtHigh p) s = .next (s.chFault (62 + p) (cfExtHigh (62 + p)) 11)) ∧
  (∀ (s : State) (uv : Bool), s.domOn 9 = true → (uv && !s.flag FLD0_KA_STAT_VFLD_UV fldPage) = true → exec (.vfldUvChange uv) s = .next ((s.put
      FLD0_KA_STAT_VFLD_UV fldPage uv).irq fldPage 29)) ∧
  (∀ (s : State) (uv : Bool), s.domOn 9 = true → (uv && !s.flag FLD0_KA_STAT_VFLD_UV fldPage) = false → exec (.vfldUvChange uv) s = .next (s.put
      FLD0_KA_STAT_VFLD_UV fldPage uv)) ∧
  (∀ (s s1 : State) (p edge : Nat) (lev : Bool), s.fioReady p lev edge = true → s1 = levelEventAt (fioAccept (fioRaw s p lev) p lev (s.fioRun p edge))
      (0x31 + p) lev (s.fioRun p edge) → (s1.wakeOn 2 && s1.flag FLD_CFG_WAKE_EN (pinPage p) (p % 12)) = false → exec (.fioTransitionAccept p lev
      edge) s = .next (levelConfirm (offerAt s1 2 p (edgeOf lev) s1.tb) 3 p (s.fioRun p edge) lev)) ∧
  (∀ (s : State) (p : Nat) (lev : Bool), (s.getDom 9).actual = .retention → s.isOutput (62 + p) = false → s.flag FLD_CFG_WAKE_EN (pinPage p) (p % 12) =
      true → exec (.fioWake p lev) s = .next (eventConfirm (wakeEvent (s.upPin p fun x => if lev then { x with wakeUp := some s.tb } else
      { x with wakeDown := some s.tb }) 2 p (edgeOf lev)) 3 p lev)) ∧
  (∀ (s : State) (n : Nat) (lev : Bool), n < 48 → s.fldOn = true → s.swiEnabled n = true → s.flag H_CTRL_EN (swiPage n) = true → s.flag SWI_STATE_RAW
      (swiPage n) (n % 16) ≠ lev → (s.sw n).firstUntil = none → Completes (exec (.swiRawChange n lev) s) fun t => t = (s.put SWI_STATE_RAW (swiPage n)
      lev (n % 16)).upSw n fun x =>
      { x with runFrom := s.tb, firstUntil := none, wetEnd := (if (s.put SWI_STATE_RAW (swiPage n) lev (n % 16)).flag SWI_CFG_TIMED (swiPage n) (n % 16) then some (s.tb + 20000000) else x.wetEnd) }) ∧
  (∀ (s : State) (n : Nat) (lev : Bool), s.swiReady n lev = true → exec (.swiTransitionAccept n lev) s = .next (swiTransition s n lev)) ∧
  (∀ (s : State) (n t : Nat), (s.sw n).wetEnd = some t → t ≤ s.tb → exec (.wettingTimerEnd n) s = .next (s.upSw n fun x => { x with wetEnd := none })) ∧
  (∀ (s t : State) (g levels : Nat), s.senses = true → t = senseTurn s → bitOf t.sense.done g = false → t.sense.start + g * 1000000000 / 32768 ≤ t.tb →
      exec (.cyclicSensePulse g levels) s = .next (parkPulse { t with sense := { t.sense with done := setBit t.sense.done g } } g levels)) ∧
  (∀ (s : State) (g levels : Nat), s.fldOn = true → s.sup.cold = false → exec (.cyclicSensePulse g levels) s = .next s) ∧
  (∀ (s : State) (g levels : Nat), (senseTurn s).senseDue g = false → exec (.cyclicSensePulse g levels) s = .next s) ∧
  (∀ (s : State) (m : Master) (e : ParkEvt) (q : List ParkEvt), s.clk.frozen = false → s.domOn 9 = true → s.parkQ = e :: q → Completes (exec (.swiEvtRead
      m) s) fun t => t.parkQ = q ∧ t.resp = ⟨.ok, e.input + 64 * b2n e.level + 2 ^ 31⟩ ∧ t.flag SWI_EVT_VALID swi0 = true) ∧
  (∀ (s : State) (m : Master), s.clk.frozen = false → s.domOn 9 = true → s.parkQ = [] → Completes (exec (.swiEvtRead m) s) fun t => t.parkQ = [] ∧ t.resp
      = ⟨.ok, 0⟩ ∧ t.flag SWI_EVT_VALID swi0 = false) ∧
  (∀ (s : State) (k : Nat), s.fldOn = true → bitsOf (s.get SWI_SSUP_MODE swi0) (2 * k) 2 ≠ 0 → bitOf (s.get SWI_SSUP_OC swi0) k = false → exec
      (.ssupOvercurrent k) s = .next ((s.set SWI_SSUP_OC swi0 (setBit (s.get SWI_SSUP_OC swi0) k)).irq swi0 18)) ∧
  (∀ (s : State) (k : Nat), s.fldOn = false → bitsOf (s.get SWI_SSUP_MODE swi0) (2 * k) 2 ≠ 0 → exec (.ssupOvercurrent k) s = .next
      { s with ssupOc := setBit s.ssupOc k }) ∧
  (∀ (s : State) (k : Nat), bitsOf (s.get SWI_SSUP_MODE swi0) (2 * k) 2 = 0 → exec (.ssupOvercurrent k) s = .next s)

/-- SWAP.REQ sets PEND; a sync event of the selected source arms a pending swap and counts a missed one; an armed frame start swaps the buffers,
or is postponed while a transfer runs. Element tests, line trips, column heat and the neighbour test set their results with their
interrupts; LINE_CLEAR and DIAG_RUN clear them; RESTART requests the scan. A refresh that is due starts a transfer; a transfer that
ends counts and compares; FDATA moves through the buffer that is not shown. As its conclusion exec answers a next state, under
conditions on the state and the operands alone, for each of the constructors: swapReq, ledSyncEvent, ledFrameStart, ledElementTest,
ledLineTrip, lineClear, colHot, diagRun, ledDiagSlot, ledRestart, ldcRefresh, ldcTransferEnd, ldcFdataAccess. -/
def Obligations.LightingCommands : Prop :=
  (∀ (s : State) (m : Master), s.takes ledPage 0x58 1 = true → s.led.missTb = none → exec (.swapReq m) s = .next ((s.reached ledPage).put LED_SWAP_PEND
      ledPage true)) ∧
  (∀ (s : State) (m : Master) (t n : Nat), s.takes ledPage 0x58 1 = true → s.led.missTb = some (t, n) → t < s.tb → exec (.swapReq m) s = .next
      ((s.reached ledPage).put LED_SWAP_PEND ledPage true)) ∧
  (∀ (s z : State) (m : Master) (n : Nat), s.takes ledPage 0x58 1 = true → s.led.missTb = some (s.tb, n) → z = (s.reached ledPage).put LED_SWAP_PEND
      ledPage true → exec (.swapReq m) s = .next (ledArm ({ z with led := { z.led with missTb := none } }.set LED_CNT_MISSED ledPage n))) ∧
  (∀ (s : State) (k : Nat), s.domOn 9 = true → s.syncDue k = true → s.flag LED_SWAP_PEND ledPage = true → s.led.frameTb ≠ some s.tb → exec (.ledSyncEvent
      k) s = .next { s with led := { s.led with armed := true } }) ∧
  (∀ (s : State) (k : Nat), s.domOn 9 = true → s.syncDue k = true → s.flag LED_SWAP_PEND ledPage = true → s.led.frameTb = some s.tb → exec (.ledSyncEvent
      k) s = .next (ledTrySwap { s with led := { s.led with armed := true } })) ∧
  (∀ (s : State) (k : Nat), s.domOn 9 = true → s.syncDue k = true → s.flag LED_SWAP_PEND ledPage = false → exec (.ledSyncEvent k) s = .next
      ({ s with led := { s.led with missTb := some (s.tb, s.get LED_CNT_MISSED ledPage) } }.bump LED_CNT_MISSED ledPage)) ∧
  (∀ (s : State) (k : Nat), s.syncDue k = false → exec (.ledSyncEvent k) s = .next s) ∧
  (∀ (s : State), s.domOn 9 = true → s.frameDue = true → s.led.restart = false → s.led.armed = true → s.led.shed = false → s.flag LED_SWAP_PEND ledPage =
      true → s.flag LDC_STAT2_BUSY ldcPage = false → exec .ledFrameStart s = .next (ledSwap
      { s with led := { s.led with frameTb := some s.tb, tested := false, dark := s.led.hot } })) ∧
  (∀ (s : State), s.domOn 9 = true → s.frameDue = true → s.led.restart = false → s.led.armed = true → s.led.shed = false → s.flag LED_SWAP_PEND ledPage =
      true → s.flag LDC_STAT2_BUSY ldcPage = true → s.led.postponed = false → exec .ledFrameStart s = .next
      ({ s with led := { s.led with frameTb := some s.tb, tested := false, dark := s.led.hot, postponed := true } }.bump LDC_CNT_POSTPONED ldcPage)) ∧
  (∀ (s : State) (e : Nat), s.scanOn = true → s.led.dark = false → 2000 ≤ s.ledValue e * 10 * s.get LED_SCAN_DIV ledPage → bitOf (s.get
      LED_STAT2_LINE_LOCK ledPage) (e / 12) = false → e < 32 → exec (.ledElementTest e true false) s = .next ((s.set LED_OPEN_MAP0 ledPage (setBit
      (s.get LED_OPEN_MAP0 ledPage) e)).irq ledPage 2)) ∧
  (∀ (s : State) (l : Nat), s.scanOn = true → s.led.dark = false → bitOf (s.get LED_STAT2_LINE_LOCK ledPage) l = false → exec (.ledLineTrip l) s = .next
      (((s.set LED_STAT2_LINE_LOCK ledPage (setBit (s.get LED_STAT2_LINE_LOCK ledPage) l)).set LED_FAULT_LINE_OC ledPage (setBit ((s.set
      LED_STAT2_LINE_LOCK ledPage (setBit (s.get LED_STAT2_LINE_LOCK ledPage) l)).get LED_FAULT_LINE_OC ledPage) l)).irq ledPage 1)) ∧
  (∀ (s : State) (m : Master) (v : Word), s.takes ledPage 0x64 (v.toNat % 4096) = true → exec (.lineClear m v) s = .next ((s.reached ledPage).set
      LED_STAT2_LINE_LOCK ledPage (andNot ((s.reached ledPage).get LED_STAT2_LINE_LOCK ledPage) (v.toNat % 4096)))) ∧
  (∀ (s : State), s.led.hot = false → exec (.colHot true) s = .next (({ s with led := { s.led with hot := true, dark := true } }.put LED_FAULT_COL_HOT
      ledPage true).irq ledPage 5)) ∧
  (∀ (s : State), exec (.colHot false) s = .next { s with led := { s.led with hot := false, dark := s.led.dark } }) ∧
  (∀ (s : State) (m : Master), s.takes ledPage 0x64 65536 = true → Completes (exec (.diagRun m) s) fun t => t.led.diag = 1 ∧ t.get LED_NSHORT_LINE_SHORT
      ledPage = 0 ∧ t.get LED_NSHORT_COL_SHORT ledPage = 0 ∧ t.flag LED_NSHORT_DIAG_DONE ledPage = false) ∧
  (∀ (s : State) (k : Nat), s.led.diag = 1 → (s.scanOn = false ∨ s.led.tested = false) → exec (.ledDiagSlot k) s = .next
      { s.set LED_NSHORT_LINE_SHORT ledPage (s.get LED_NSHORT_LINE_SHORT ledPage ||| k) with led := { s.led with diag := 2, tested := true } }) ∧
  (∀ (s : State) (k : Nat), s.led.diag = 4 → (s.scanOn = false ∨ s.led.tested = false) → exec (.ledDiagSlot k) s = .next
      (({ s.set LED_NSHORT_COL_SHORT ledPage (s.get LED_NSHORT_COL_SHORT ledPage ||| k) with led := { s.led with diag := 0, tested := true } }.put
      LED_NSHORT_DIAG_DONE ledPage true).irq ledPage 4)) ∧
  (∀ (s : State) (m : Master), s.takes ledPage 0x64 131072 = true → ((s.reached ledPage).scanOn || (s.reached ledPage).led.shed || ((s.reached
      ledPage).waiting .led).isSome || !(s.reached ledPage).accepts ledPage) = false → (s.reached ledPage).shedding ((s.reached ledPage).get
      LED_CFG_PRIO ledPage) = false → exec (.ledRestart m) s = .next ((s.reached ledPage).queueStart (s.reached ledPage).ledEntry)) ∧
  (∀ (s : State) (t : Nat), s.accepts ldcPage = true → s.get LDC_REFRESH ldcPage ≠ 0 → s.ldc.start = some t → t + s.get LDC_REFRESH ldcPage * 1000000 ≤
      s.tb → s.flag LDC_STAT2_BUSY ldcPage = false → exec .ldcRefresh s = .next
      ({ s with ldc := { s.ldc with bits := s.ldcStream, len := s.ldcLen, start := some s.tb, due := false } }.put LDC_STAT2_BUSY ldcPage true)) ∧
  (∀ (s : State), s.ldc.start = none → exec .ldcRefresh s = .next s) ∧
  (∀ (s : State) (ret : Nat), s.flag LDC_STAT2_BUSY ldcPage = true → s.flag LDC_CFG_VERIFY ldcPage = false → s.ldc.due = false → exec (.ldcTransferEnd
      ret) s = .next (((({ s with ldc := { s.ldc with prev := s.ldc.bits, prevLen := s.ldc.len } }.put LDC_STAT2_BUSY ldcPage false).put
      LDC_STAT2_VERIFY_VALID ldcPage true).bump LDC_CNT_TRANSFERS ldcPage).irq ldcPage 2)) ∧
  (∀ (s : State) (m : Master) (v : Word), s.takes ldcPage 0x4C v.toNat = true → exec (.ldcFdataAccess m (some v)) s = .next (ldcDataWrite v.toNat
      (s.reached ldcPage))) ∧
  (∀ (s : State) (m : Master), s.clk.frozen = false → s.pageOn ldcPage = true → Completes (exec (.ldcFdataAccess m none) s) fun t => t.resp = ⟨.ok,
      (ldcDataRead (s.needPage ldcPage)).2⟩ ∧ t.get LDC_FADDR_INDEX ldcPage = (if s.get LDC_FADDR_INDEX ldcPage = 1535 then 0 else s.get
      LDC_FADDR_INDEX ldcPage + 1) % 2 ^ LDC_FADDR_INDEX.w)

/-- A CTX_CTRL write that arms a slot is refused when the arming check fails and arms it otherwise. TRIGGER starts an armed idle slot and counts
a retrigger of a busy one; CONFIRM of a simmering slot makes it boil at the next grid time; CANCEL and the deadline quench it. An
event is offered to the trigger table. A waiting preparation is tried again. Commits apply when they are due; a remote part starts
with the frame, is confirmed by the broadcast, and its acknowledgement clears its bit; a missing acknowledgement refuses the commit.
As its conclusion exec answers a next state, under conditions on the state and the operands alone, for each of the constructors:
slotArm, ctxCancel, ctxTrigger, ctxConfirm, triggerMatch, prepIssue, commitApply, simmerDeadline, remoteSimmerStart,
commitBroadcastReceive, commitAcknowledgement, commitAckTimeout. -/
def Obligations.ActAheadCommands : Prop :=
  (∀ (s s1 : State) (m : Master) (i devOk : Nat) (v : Word), (s.flag H_STAT_HELD ahdPage && s.domOn 7) = false → s.takes ahdPage (slotOff i 0) (v.toNat
      ||| 16) = true → s1 = s.reached ahdPage → (ctxBody m i (v.toNat ||| 16) devOk s1).2 = true → exec (.slotArm m i v devOk) s = .next ((ctxBody m i
      (v.toNat ||| 16) devOk s1).1.reject ahdPage)) ∧
  (∀ (s s1 : State) (m : Master) (i devOk : Nat) (v : Word), (s.flag H_STAT_HELD ahdPage && s.domOn 7) = false → s.takes ahdPage (slotOff i 0) (v.toNat
      ||| 16) = true → s1 = s.reached ahdPage → (ctxBody m i (v.toNat ||| 16) devOk s1).2 = false → exec (.slotArm m i v devOk) s = .next (ctxCommands
      i (v.toNat ||| 16) (ctxBody m i (v.toNat ||| 16) devOk s1).1)) ∧
  (∀ (s : State) (m : Master) (i v : Nat), m ≠ .ring → i < 63 → v = plainRead s ahdPage (slotOff i 0) % 2 ^ 28 + 2 ^ 30 → s.takes ahdPage (slotOff i 0) v
      = true → (s.flag H_STAT_HELD ahdPage && s.domOn 7) = false → s.flag AHD_CTX_CTRL_REMOTE ahdPage i = true → exec (.ctxCancel m i) s = .next
      ((s.reached ahdPage).reject ahdPage)) ∧
  (∀ (s s1 : State) (m : Master) (i v : Nat), v = plainRead s ahdPage (slotOff i 0) % 2 ^ 28 + 2 ^ 29 → s.takes ahdPage (slotOff i 0) v = true → (s.flag
      H_STAT_HELD ahdPage && s.domOn 7) = false → (ctxBody m i v 0 (s.reached ahdPage)).2 = false → s1 = (ctxBody m i v 0 (s.reached ahdPage)).1 →
      exec (.ctxTrigger m i) s = .next (ctxCommands i v s1)) ∧
  (∀ (s s1 : State) (m : Master) (i v : Nat), v = plainRead s ahdPage (slotOff i 0) % 2 ^ 28 + 2 ^ 31 → s.takes ahdPage (slotOff i 0) v = true → (s.flag
      H_STAT_HELD ahdPage && s.domOn 7) = false → (ctxBody m i v 0 (s.reached ahdPage)).2 = false → s1 = (ctxBody m i v 0 (s.reached ahdPage)).1 →
      exec (.ctxConfirm m i) s = .next (ctxCommands i v s1)) ∧
  (∀ (s s1 : State) (m : Master) (i v : Nat), v = plainRead s ahdPage (slotOff i 0) % 2 ^ 28 + 2 ^ 30 → s.takes ahdPage (slotOff i 0) v = true → (s.flag
      H_STAT_HELD ahdPage && s.domOn 7) = false → (ctxBody m i v 0 (s.reached ahdPage)).2 = false → s1 = (ctxBody m i v 0 (s.reached ahdPage)).1 →
      exec (.ctxCancel m i) s = .next (ctxCommands i v s1)) ∧
  (∀ (s : State) (src idx edge : Nat), ((∀ e < 32, s.entryMatches e src idx edge = false)) → exec (.triggerMatch src idx edge) s = .next s) ∧
  (∀ (s : State) (src idx edge e : Nat), e < 32 → ((∀ k < 32, s.entryMatches k src idx edge = decide (k = e))) → exec (.triggerMatch src idx edge) s =
      .next (tableMatch s e src idx s.tb)) ∧
  (∀ (s s1 : State) (src idx edge e : Nat), e < 32 → ((∀ k < 32, s.entryMatches k src idx edge = decide (k = e))) → s1 = (((s.bump AHT_CNT_TRIGGERS
      ahtPage).set AHT_LAST_SRC ahtPage src).set AHT_LAST_IDX ahtPage idx).set AHT_LAST_ENTRY ahtPage e → s1.domOn 7 = true → s1.mayStart (s.get
      AHT_SLOT ahtPage e - 1) = true → exec (.triggerMatch src idx edge) s = .next (simmer (s1.set AHT_LAST_RESULT ahtPage 0) (s.get AHT_SLOT ahtPage
      e - 1) src idx e s.tb)) ∧
  (∀ (s : State) (i n : Nat), s.slotSt i = 1 → exec (.prepIssue i n) s = .next ((prepWaiting s i n).foldl prepStep s)) ∧
  (∀ (s : State) (i : Nat), s.commitDue i = true → exec (.commitApply i) s = .next (boilCheck (specAll ((s.upSlot i fun x =>
      { x with applied := true }).each [0, 1, 2, 3] fun s n => Machine.commitApply s i n) ((s.upSlot i fun x =>
      { x with applied := true }).commitOutputs i 0)) i)) ∧
  (∀ (s : State) (i : Nat), (s.slotH i).ts + s.get AHD_DEADLINE ahdPage i * 1000 + 10 ≤ s.tb → exec (.simmerDeadline i) s = .next (quench s i 1)) ∧
  (∀ (s : State) (i : Nat), (s.slotH i).ts + s.get AHD_DEADLINE ahdPage i * 1000 ≤ s.tb → s.tb < (s.slotH i).ts + s.get AHD_DEADLINE ahdPage i * 1000 +
      10 → s.slotSt i = 1 → exec (.simmerDeadline i) s = .next (s.upSlot i fun x => { x with expired := true })) ∧
  (∀ (s : State) (i : Nat), s.slotSt i = 1 → s.slotPreps i = [] → (s.slotH i).ts + s.get AHD_DEADLINE ahdPage i * 1000 + 10 ≤ s.tb → i < 31 → s.flag
      AHD_QUENCH_RESTORE_DOMAINS ahdPage i = false → Completes (exec (.simmerDeadline i) s) fun t => t.slotSt i = 0 ∧ t.get AHD_CTX_CTRL_QREASON
      ahdPage i = 1 ∧ t.armed i = (s.armed i && s.flag AHD_QUENCH_REARM ahdPage i)) ∧
  (∀ (s : State) (i ts : Nat), s.accepts ahdPage = true → s.domOn 7 = true → s.armed i = true → s.flag AHD_CTX_CTRL_REMOTE ahdPage i = true → s.slotSt i
      = 0 → (simmer s i 0 0 0 ts).tb < ts + (simmer s i 0 0 0 ts).get AHD_DEADLINE ahdPage i * 1000 → exec (.remoteSimmerStart i ts) s = .next (simmer
      s i 0 0 0 ts)) ∧
  (∀ (s u : State) (i ta : Nat), s.flag AHD_CTX_CTRL_REMOTE ahdPage i = true → s.get AHD_CONFIRM_KIND ahdPage i = 6 → s.slotSt i = 1 → (u = ((s.set
      AHD_CTX_CTRL_STATE ahdPage 2 i).set AHD_CTX_LAT_T_CONF ahdPage (min ((s.tb - (s.slotH i).ts) / 10000) 65535) i).upSlot i fun x =>
      { x with confTb := s.tb, confWas := s.get AHD_CTX_LAT_T_CONF ahdPage i, boilAt := ta, applied := false, waits := [], admitted := false, expired := false, unacked := s.get AHD_CTX_CTRL_SPAN ahdPage i })
      → exec (.commitBroadcastReceive i ta) s = .next (specAll u (((u.slotPreps i).filter fun p => p.kind ≤ 4).map (·.tgt)))) ∧
  (∀ (s : State) (i d : Nat), exec (.commitAcknowledgement i d) s = .next (boilCheck (s.upSlot i fun x => { x with unacked := clrBit x.unacked d }) i)) ∧
  (∀ (s : State) (i : Nat), s.slotSt i = 2 → (s.slotH i).unacked ≠ 0 → (s.slotH i).boilAt + 10000 ≤ s.tb → exec (.commitAckTimeout i) s = .next
      (boilCheck (((s.put AHD_CTX_CTRL_COMMIT_REFUSED ahdPage true i).irq ahtPage 2).upSlot i fun x => { x with unacked := 0 }) i))

/-- A RUN that the group refuses is rejected, otherwise the group runs and waits for its trigger. A stop request takes effect at the next tick.
The start tick clears the wait, sets POS, records the start time and raises the interrupt. The next word sets a channel's committed
state; an END word stops the group at the next tick. As its conclusion exec answers a next state, under conditions on the state and
the operands alone, for each of the constructors: ferRun, ferStopReq, ferStartTick, ferWordAct. -/
def Obligations.FerlysCommands : Prop :=
  (∀ (s : State) (m : Master) (g : Nat), s.takes ferPage (ferCtrlOff g) 1 = true → (ferRun g (s.reached ferPage)).2 = true → exec (.ferRun m g) s = .next
      ((ferRun g (s.reached ferPage)).1.reject ferPage)) ∧
  (∀ (s s1 : State) (m : Master) (g : Nat), s.takes ferPage (ferCtrlOff g) 1 = true → s1 = s.reached ferPage → (s1.ferRuns g || s1.get FER_GCFG_LEN
      ferPage g = 0 || 768 < s1.get FER_GCFG_START ferPage g + s1.get FER_GCFG_LEN ferPage g || !s1.ferMapOk g || !s1.accepts ferPage) = false → exec
      (.ferRun m g) s = .next (((((s1.put FER_GSTAT_RUNNING ferPage true g).put FER_GSTAT_WAIT_TRIG ferPage true g).put FER_GCTRL_RUN ferPage true
      g).set FER_RUN_MAP ferPage (setBit (((s1.put FER_GSTAT_RUNNING ferPage true g).put FER_GSTAT_WAIT_TRIG ferPage true g).put FER_GCTRL_RUN ferPage
      true g |>.get FER_RUN_MAP ferPage) g)).upFer g fun _ => { runTb := s1.tb })) ∧
  (∀ (s : State) (m : Master) (g : Nat), s.takes ferPage (ferCtrlOff g) 2 = true → (s.reached ferPage).ferRuns g = true → exec (.ferStopReq m g) s =
      .next ((s.reached ferPage).upFer g fun x => { x with asked := some (x.asked.getD (tickAfter s.tb)) })) ∧
  (∀ (s s1 : State) (g t : Nat), s.ferStart g = some t → s.ferRuns g = true → s.flag FER_GSTAT_WAIT_TRIG ferPage g = true → (s.ferH g).stop = none → (∀
      a, (s.ferH g).asked = some a → t < a) → t ≤ s.tb → s1 = (s.put FER_GSTAT_WAIT_TRIG ferPage false g).set FER_GSTAT_POS ferPage (s.get
      FER_GCFG_START ferPage g) g → Completes (exec (.ferStartTick g) s) fun t1 => t1 = ((((s1.set FER_GSTART_LO ferPage t g).set FER_GSTART_HI
      ferPage (t / 2 ^ 32) g).upFer g fun x => { x with tick := t, burst := 0, fired := none }).irq ferPage (8 + g))) ∧
  (∀ (s : State) (g t f : Nat), s.ferRuns g = true → s.ferGoes g = false → s.ferEnds g = some (t, f) → t ≤ s.tb → (List.range g).any s.ferDue = false →
      exec (.ferWordAct g) s = .next (ferStop s g f)) ∧
  (∀ (s : State) (g : Nat), (s.ferDue g = false ∨ (List.range g).any s.ferDue = true) → exec (.ferWordAct g) s = .next s) ∧
  (∀ (s s1 : State) (g pos c w : Nat), s.ferGoes g = true → (List.range g).any s.ferDue = false → s.ferRuns g = true → pos = s.get FER_GSTAT_POS ferPage
      g → pos < s.get FER_GCFG_START ferPage g + s.get FER_GCFG_LEN ferPage g → w = s.get FER_TABLE ferPage pos → w % 8192 ≠ 0 → (s.ferH g).tick + w %
      8192 * 100000 ≤ s.tb → w / 2 ^ 30 = 0 → s.ferMap g (bitsOf w 13 4) = some c → (s1 = s.upFer g fun x =>
      { x with tick := x.tick + w % 8192 * 100000, burst := 1 }) → exec (.ferWordAct g) s = .next (ferWrite (s1.set FER_GSTAT_POS ferPage (pos + 1) g)
      c (bitsOf w 17 1) (bitsOf w 18 12)))

/-- TX_REQ marks existing slots pending and offers the next frame, TX_ABORT cancels. A valid frame is received by a live controller, is filtered
and stored; a frame of its own that ends is done, and a frame error counts. RXQ_REL releases elements, NEW flags clear by writing 1,
TXTS_POP removes the oldest timestamp and is rejected when none waits. Bus-off recovery clears the counters, integration makes the bus
idle. As its conclusion exec answers a next state, under conditions on the state and the operands alone, for each of the constructors:
canTxReq, canTxAbort, canFrameReceived, canFrameSent, canFrameError, canRxqRel, canRxslotNewClear, canTxtsPop, canBusoffRecovery,
canIntegrationComplete. -/
def Obligations.CanControllerCommands : Prop :=
  (∀ (s : State) (m : Master) (c : Nat) (v : Word), s.takes (canPage c) 0x8C v.toNat = true → exec (.canTxReq m c v) s = .next (canReq (s.reached
      (canPage c)) c v.toNat)) ∧
  (∀ (s s1 : State) (m : Master) (c : Nat) (v : Word), c < 8 → s.takes (canPage c) 0x8C v.toNat = true → s1 = s.reached (canPage c) → s1.canSends c =
      false → s1.get CAN_TX_PEND (canPage c) < 2 ^ 32 → Completes (exec (.canTxReq m c v) s) fun t => t.get CAN_TX_PEND (canPage c) = (s1.get
      CAN_TX_PEND (canPage c) ||| (v.toNat &&& s1.txMask c))) ∧
  (∀ (s : State) (m : Master) (c : Nat) (v : Word), s.takes (canPage c) 0x90 v.toNat = true → exec (.canTxAbort m c v) s = .next (canAbort (s.reached
      (canPage c)) c v.toNat)) ∧
  (∀ (s : State) (c edge : Nat) (f : CanFrame), s.canAlive c = true → (6 ≤ c ∨ s.modeAct c = 1 ∨ s.modeAct c = 2) → (f.fdf = false ∨ s.flag CAN_CFG_FD_EN
      (canPage c) = true) → exec (.canFrameReceived c f edge) s = .next (canReceive s c f edge)) ∧
  (∀ (s : State) (c edge : Nat) (f : CanFrame), f.fdf = true → s.flag CAN_CFG_FD_EN (canPage c) = false → exec (.canFrameReceived c f edge) s = .next s) ∧
  (∀ (s : State) (c edge : Nat), s.canAlive c = true → (s.canH c).cur = none → exec (.canFrameSent c edge) s = .next s) ∧
  (∀ (s : State) (c edge b : Nat), c < 8 → s.canAlive c = true → s.canDrives c = true → (s.canH c).cur = some b → b < 32 → (s.canH c).te < 96 → (s.canH
      c).re < 96 → s.canSends c = false → s.flag H_CTRL_EN (canPage c) = false → bitOf (s.canH c).head 9 = false → s.get CAN_TX_PEND (canPage c) < 2 ^
      32 → s.get CAN_TX_DONE (canPage c) < 2 ^ 32 → Completes (exec (.canFrameSent c edge) s) fun t => t.get CAN_TX_PEND (canPage c) = clrBit (s.get
      CAN_TX_PEND (canPage c)) b ∧ t.get CAN_TX_DONE (canPage c) = setBit (s.get CAN_TX_DONE (canPage c)) b ∧ (t.canH c).te = (s.canH c).te - 1) ∧
  (∀ (s : State) (c te re : Nat) (fast : Bool), s.canAlive c = true → 6 ≤ c → exec (.canFrameError c 0 fast te re) s = .next ((canAttempt s c).set
      CAN_BUSSTAT_ACTIVITY (canPage c) 2)) ∧
  (∀ (s s1 : State) (c te re : Nat), s.canAlive c = true → 6 ≤ c → s1 = ((canAttempt s c).set CAN_BUSSTAT_ARB_ERR (canPage c) 1).irq (canPage c) 16 →
      exec (.canFrameError c 1 false te re) s = .next (canIdle (canCounts s1 c ((s1.canH c).te + te) (min ((s1.canH c).re + re) 128)) c)) ∧
  (∀ (s s1 : State) (m : Master) (c q n : Nat) (v : Word), (s.takes (canPage c) (if q = 0 then 0x64 else 0x70) v.toNat = true) → s1 = s.reached (canPage
      c) → n = v.toNat % 128 → (n = 0 ∨ s1.get (rxUsed q) (canPage c) < n) → exec (.canRxqRel m c q v) s = .next (s1.reject (canPage c))) ∧
  (∀ (s s1 : State) (m : Master) (c q n : Nat) (v : Word), (s.takes (canPage c) (if q = 0 then 0x64 else 0x70) v.toNat = true) → s1 = s.reached (canPage
      c) → n = v.toNat % 128 → (n = 0 || decide (s1.get (rxUsed q) (canPage c) < n)) = false → (s1.canH c).loss = none → exec (.canRxqRel m c q v) s =
      .next (((s1.set (rxRd q) (canPage c) ((s1.get (rxRd q) (canPage c) + n) % s1.get (rxDepth q) (canPage c))).set (rxUsed q) (canPage c) (s1.get
      (rxUsed q) (canPage c) - n)).put (rxFull q) (canPage c) false)) ∧
  (∀ (s s1 : State) (m : Master) (c q n : Nat) (v : Word) (l : CanLoss), (s.takes (canPage c) (if q = 0 then 0x64 else 0x70) v.toNat = true) → s1 =
      s.reached (canPage c) → n = v.toNat % 128 → (n = 0 || decide (s1.get (rxUsed q) (canPage c) < n)) = false → (s1.canH c).loss = some l → exec
      (.canRxqRel m c q v) s = .next (if l.tb = s1.tb ∧ l.queue = q then rxFreeFirst s1 c q n l else rxFree s1 c q n)) ∧
  (∀ (s : State) (m : Master) (c w : Nat) (v : Word), (s.takes (canPage c) (if w = 0 then 0x80 else 0x84) v.toNat = true) → exec (.canRxslotNewClear m c
      w v) s = .next (plainWrite (s.reached (canPage c)) (canPage c) (if w = 0 then 0x80 else 0x84) v.toNat)) ∧
  (∀ (s : State) (m : Master) (c : Nat), s.takes (canPage c) 0xB4 1 = true → ((s.reached (canPage c)).canH c).tsq = [] → exec (.canTxtsPop m c) s = .next
      ((s.reached (canPage c)).reject (canPage c))) ∧
  (∀ (s : State) (m : Master) (c tag ts : Nat) (q : List (Nat × Nat)), s.takes (canPage c) 0xB4 1 = true → ((s.reached (canPage c)).canH c).tsq = (tag,
      ts) :: q → exec (.canTxtsPop m c) s = .next (txtsShow ((s.reached (canPage c)).upCan c fun x => { x with tsq := x.tsq.tail }) c)) ∧
  (∀ (s : State) (c : Nat), s.domOn 3 = true → s.flag H_CTRL_EN (canPage c) = true → s.flag CAN_BUSSTAT_BUSOFF (canPage c) = true → s.flag
      CAN_CFG_BUSOFF_AUTO (canPage c) = true → exec (.canBusoffRecovery c) s = .next ((canCounts (s.put CAN_BUSSTAT_BUSOFF (canPage c) false) c 0
      0).upCan c fun x => { x with recov := false })) ∧
  (∀ (s : State) (c : Nat), s.domOn 3 = true → s.flag H_CTRL_EN (canPage c) = true → s.get CAN_BUSSTAT_ACTIVITY (canPage c) = 0 → s.flag
      CAN_BUSSTAT_BUSOFF (canPage c) = false → exec (.canIntegrationComplete c) s = .next (canArb (s.set CAN_BUSSTAT_ACTIVITY (canPage c) 1) c))

/-- A MODE write is taken, with the network message state on entry into NORMAL; VCC5 leaving regulation shows; the transmit and dominant
timeouts, thermal shutdown and recovery set their bits. SCHED_CTRL starts, stops and serves the schedule; an expired watchdog takes it
to S3; a trigger element acts at its time mark; a reference message starts the cycle. As its conclusion exec answers a next state,
under conditions on the state and the operands alone, for each of the constructors: ctrxModeWrite, vcc5RegulationChange,
canTxdTimeout, canBusDominantTimeout, canThermalShutdown, canThermalRecovery, schedStart, schedStop, awdServe, awdExpiry, timeMark. -/
def Obligations.CanScheduleCommands : Prop :=
  (∀ (s : State) (m : Master) (t : Nat) (v : Word), s.takes ctrxPage (0x100 + 0x40 * t) v.toNat = true → v.toNat % 8 ≠ 1 → exec (.ctrxModeWrite m t v) s
      = .next (ctrxTake (s.reached ctrxPage) t (v.toNat % 8))) ∧
  (∀ (s : State) (m : Master) (t : Nat) (v : Word), s.takes ctrxPage (0x100 + 0x40 * t) v.toNat = true → v.toNat % 8 = 1 → exec (.ctrxModeWrite m t v) s
      = .next (nmNormal (ctrxTake (s.reached ctrxPage) t 1) t)) ∧
  (∀ (s : State) (low : Bool), exec (.vcc5RegulationChange low) s = .next ({ s with vcc5Low := low }.each [0, 1, 2, 3, 4, 5] fun s t => ctrxShow (s.put
      CTRX_STAT_VCC5_LOW ctrxPage low t) t)) ∧
  (∀ (s : State) (t : Nat), s.modeAct t = 1 → exec (.canTxdTimeout t) s = .next (((s.put CTRX_STAT_TXD_TO ctrxPage true t).upXcv t fun x =>
      { x with toOff := true }).irq ctrxPage (4 * t))) ∧
  (∀ (s : State) (t : Nat), exec (.canBusDominantTimeout t) s = .next ((s.put CTRX_STAT_BUS_DOM ctrxPage true t).irq ctrxPage (4 * t + 1))) ∧
  (∀ (s : State) (t : Nat), exec (.canThermalShutdown t) s = .next (((s.put CTRX_STAT_THERMAL ctrxPage true t).upXcv t fun x =>
      { x with thermOff := true }).irq ctrxPage (4 * t + 2))) ∧
  (∀ (s : State) (t : Nat), exec (.canThermalRecovery t) s = .next (s.upXcv t fun x => { x with thermOff := false })) ∧
  (∀ (s : State) (m : Master) (c : Nat), s.takes (canPage c) 0x110 1 = true → exec (.schedStart m c) s = .next (ttStart (s.reached (canPage c)) c)) ∧
  (∀ (s : State) (m : Master) (c : Nat), s.takes (canPage c) 0x110 2 = true → exec (.schedStop m c) s = .next ((s.reached (canPage c)).upTt c fun x =>
      { x with stop := x.running })) ∧
  (∀ (s : State) (m : Master) (c : Nat), s.takes (canPage c) 0x110 4 = true → exec (.awdServe m c) s = .next (Machine.awdServe (s.reached (canPage c)) c)) ∧
  (∀ (s : State) (c t : Nat), (s.canH c).tt.awd = some t → s.domOn 3 = true → t ≤ s.tb → s.flag H_STAT_HELD (canPage c) = false → exec (.awdExpiry c) s =
      .next (ttLevel s c 3)) ∧
  (∀ (s s1 : State) (c e w : Nat), s.domOn 3 = true → s.ttOn c = true → (s.canH c).tt.running = true → (s.canH c).tt.next ≤ e → e < s.get
      CAN_TRIGLIST_COUNT (canPage c) → w = s.trigWord c e 0 → trigMark w ≤ s.cycleTime c → (s1 = s.upTt c fun x => { x with next := e + 1 }) → s1.get
      CAN_SCHED_STAT_CYCLE (canPage c) % 2 ^ trigRepeat w = trigOffset w → exec (.timeMark c e) s = .next (ttAct s1 c e))

/-- CMD.RUN starts the table of an enabled commander at the next grid tick at least 10 µs later, STOP and SLEEP act at the next slot start, WAKE
counts as bus activity. A slot start takes the next entry; a header with a good sync and PID begins a frame; a frame end without error
counts it, with an error it sets the error; a missing response, 4 s without activity and a TXD timeout set their bits; bus activity in
sleep mode is a wake event of source 4. As its conclusion exec answers a next state, under conditions on the state and the operands
alone, for each of the constructors: linCmdRun, linCmdStop, linCmdSleep, linCmdWake, linSlotStart, linHeaderReceived, linFrameEnd,
linNoResponse, linBusIdle, linTxdTimeout, linBusWake. -/
def Obligations.LinCommands : Prop :=
  (∀ (s z : State) (m : Master) (l : Nat), s.takes (linPage l) (linCmdOff l) 1 = true → z = s.reached (linPage l) → exec (.linCmdRun m l) s = .next
      (linRun z l)) ∧
  (∀ (s z : State) (m : Master) (l : Nat), s.takes (linPage l) (linCmdOff l) 2 = true → z = s.reached (linPage l) → z.lg LIN_STAT_STATE l = 1 → exec
      (.linCmdStop m l) s = .next (z.upLin l fun x => { x with stop := true })) ∧
  (∀ (s z : State) (m : Master) (l : Nat), s.takes (linPage l) (linCmdOff l) 4 = true → z = s.reached (linPage l) → z.commander l = true → z.lg
      LIN_STAT_STATE l = 1 → exec (.linCmdSleep m l) s = .next (z.upLin l fun x => { x with sleep := true })) ∧
  (∀ (s z : State) (m : Master) (l : Nat), s.takes (linPage l) (linCmdOff l) 8 = true → z = s.reached (linPage l) → z.linOn l = true → (z.linH l).cur =
      none → exec (.linCmdWake m l) s = .next ((z.upLin l fun x => { x with active := z.tb, idle := false }).upLin l fun x =>
      { x with pulse := false, pulseTb := some z.tb })) ∧
  (∀ (s z : State) (m : Master) (l : Nat) (f : LinFrame), s.takes (linPage l) (linCmdOff l) 8 = true → z = s.reached (linPage l) → z.linOn l = true →
      (z.linH l).cur = some f → exec (.linCmdWake m l) s = .next (z.upLin l fun x => { x with pulse := true })) ∧
  (∀ (s : State) (m : Master) (l : Nat), s.takes (linPage l) (linCmdOff l) 1 = true → (s.reached (linPage l)).commander l = true → (s.reached (linPage
      l)).linOn l = true → (s.reached (linPage l)).lg LIN_STAT_STATE l = 0 → exec (.linCmdRun m l) s = .next (((s.reached (linPage l)).ls
      LIN_STAT_STATE l 1).upLin l fun x =>
      { x with slotAt := some ((s.tb + 10000 + 99999) / 100000 * 100000), next := (s.reached (linPage l)).lg LIN_SCHED_NEXT l, branch := none, collide := none })) ∧
  (∀ (s : State) (l t : Nat), (s.linH l).slotAt = some t → s.linOn l = true → s.lg LIN_STAT_STATE l = 1 → t ≤ s.tb → exec (.linSlotStart l) s = .next
      (linTurn s l t)) ∧
  (∀ (s : State) (l t : Nat), (s.linH l).slotAt = some t → s.linOn l = true → s.lg LIN_STAT_STATE l = 1 → t ≤ s.tb → (s.linH l).sleep = false → (s.linH
      l).stop = true → exec (.linSlotStart l) s = .next (linStop s l 0)) ∧
  (∀ (s : State) (l id baud : Nat) (p : Bool), s.linOn l = true → s.commander l = false → s.lg LIN_TRX_MODE l = 1 → exec (.linHeaderReceived l id p baud)
      s = .next (linHeaderIn s l id p baud)) ∧
  (∀ (s : State) (l ts : Nat) (f : LinFrame) (d : List Byte), (s.linH l).cur = some f → s.domOn 3 = true → exec (.linFrameEnd l 0 ts d) s = .next
      (linGood s l f ts d)) ∧
  (∀ (s : State) (l ts : Nat) (f : LinFrame) (d : List Byte), (s.linH l).cur = some f → s.domOn 3 = true → exec (.linFrameEnd l 2 ts d) s = .next (linBad
      s l f LIN_ERR_CS ts false)) ∧
  (∀ (s : State) (l ts : Nat) (f : LinFrame), (s.linH l).cur = some f → s.domOn 3 = true → s.linLate l f ts = true → exec (.linNoResponse l true ts) s =
      .next (linBad s l f LIN_ERR_NO_RESP ts false)) ∧
  (∀ (s : State) (l : Nat), s.linOn l = true → (s.linH l).cur = none → (s.linH l).idle = false → (s.linH l).active + 4000000000 ≤ s.tb → exec
      (.linBusIdle l) s = .next (((s.ls LIN_STAT_BUS_IDLE l 1).upLin l fun x => { x with idle := true }).linIrq l 3)) ∧
  (∀ (s : State) (l : Nat), s.linOn l = true → s.lg LIN_TRX_MODE l = 1 → exec (.linTxdTimeout l) s = .next (((s.ls LIN_TRX_TXD_TO l 1).upLin l fun x =>
      { x with toOff := true }).linIrq l 4)) ∧
  (∀ (s : State) (l : Nat), s.lg LIN_TRX_MODE l = 2 → exec (.linBusWake l) s = .next (wakeEvent s 4 l 1))

/-- KICK starts the transmission of the descriptors that the MAC owns; a frame sent returns its descriptor; a received frame that the MAC
accepts is stored or dropped, others change nothing; an MDIO frame starts unless one is busy and ends with IRQ 4; a lost T1S beacon
counts with IRQ 4 and a beacon that is seen shows. As its conclusion exec answers a next state, under conditions on the state and the
operands alone, for each of the constructors: macKick, macFrameSent, macFrameReceived, mdioStart, mdioComplete, plcaBeaconLost,
plcaBeaconSeen. -/
def Obligations.EthernetCommands : Prop :=
  (∀ (s : State) (m : Master) (k : Nat), s.takes (macPage k) 0xA0 1 = true → (s.reached (macPage k)).accepts (macPage k) = true → exec (.macKick m k) s =
      .next (macGo ((s.reached (macPage k)).upMac k fun x => { x with kicked := true }) k)) ∧
  (∀ (s : State) (m : Master) (k : Nat), s.takes (macPage k) 0xA0 1 = true → (s.reached (macPage k)).accepts (macPage k) = false → exec (.macKick m k) s
      = .next (s.reached (macPage k))) ∧
  (∀ (s : State) (k err ts tries : Nat), s.domOn 5 = true → (s.macH k).sending = true → exec (.macFrameSent k err ts tries) s = .next (macSent s k err ts
      tries)) ∧
  (∀ (s : State) (k err ts : Nat) (d : List Byte), s.macUp k = true → s.flag MAC_MCFG_RX_EN (macPage k) = true → err ≠ 1 → etherOk d = true → s.hostTakes
      k d = false → s.macTakes k d = true → bitOf (s.sramWord (s.rxDesc k (s.get MAC_HEAD_RX (macPage k)) + 4)) 31 = false → exec (.macFrameReceived k
      err ts d) s = .next ((s.bump MAC_CNT_RX_DROPS (macPage k)).irq (macPage k) 2)) ∧
  (∀ (s : State) (k err ts : Nat) (d : List Byte), (s.macTakes k d = false ∨ etherOk d = false ∨ s.hostTakes k d = true ∨ err = 1) → exec
      (.macFrameReceived k err ts d) s = .next s) ∧
  (∀ (s : State) (m : Master) (v : Word), s.takes 0x7F 0x104 v.toNat = true → bitsOf v.toNat 10 2 = 1 → (s.reached 0x7F).flag MAC_MDIO_BUSY 0x7F = false
      → exec (.mdioStart m v) s = .next ((plainWrite (s.reached 0x7F) 0x7F 0x104 v.toNat).put MAC_MDIO_BUSY 0x7F true)) ∧
  (∀ (s : State) (m : Master) (v : Word), s.takes 0x7F 0x104 v.toNat = true → bitsOf v.toNat 10 2 = 1 → (s.reached 0x7F).flag MAC_MDIO_BUSY 0x7F = true →
      exec (.mdioStart m v) s = .next ((s.reached 0x7F).reject 0x7F)) ∧
  (∀ (s : State) (rd : Nat), s.domOn 5 = true → s.flag MAC_MDIO_BUSY 0x7F = true → s.get MAC_MDIO_OP 0x7F = 2 → exec (.mdioComplete rd) s = .next
      (((s.put MAC_MDIO_BUSY 0x7F false).set MAC_MDIO_RDATA 0x7F rd).irq 0x7F 4)) ∧
  (∀ (s : State), s.domOn 5 = true → s.flag MAC_PHYSTAT_BEACON 0x7E = true → exec .plcaBeaconLost s = .next (((s.put MAC_PHYSTAT_BEACON 0x7E false).bump
      MAC_CNT_BEACON_LOST 0x7E).irq 0x7E 4)) ∧
  (∀ (s : State), s.domOn 5 = true → s.flag H_CTRL_EN 0x7E = true → exec .plcaBeaconSeen s = .next (s.put MAC_PHYSTAT_BEACON 0x7E true))

/-- A SAMPLE_CTRL write with COMMIT takes a sample while the core is the source and is rejected otherwise. Accepting without a refused jump is
rejected; accepting by rebase ends the refusal and moves the base. A slew in progress ends with IRQ 4. Without a sample for SAMPLE_TO
the state becomes HOLDOVER, and UNSYNC after HOLDOVER_MAX. A write of the source returns to UNSYNC. The second pulse is a trigger
event; a reference message of a running schedule starts its cycle. A wake-up pattern wakes from WAKE_DET and arms the decoder in
SELECTIVE; a frame reaches the armed decoder, an erroneous one counts, and the decoder timeout, after 0.6 s without activity, disarms.
The end of an unanswered false-wake window counts. NM messages restart the bus-awake timer; its end leads to PREPARE, and that to
AGREED with its interrupt. A vote or an NM message in the BCLK of a COMMIT acts before it. VOTE, COMMIT, the ceiling and the keeper
table act as written; a dominant phase in the commit window is a bus wake. As its conclusion exec answers a next state, under
conditions on the state and the operands alone, for each of the constructors: sampleCommit, acceptStep, acceptRebase, slewEnd,
sampleTimeout, holdoverExpiry, ntSrcWrite, ntSecondPulse, referenceMessage, canWakePattern, selectiveWakeFrame, swkFrameError,
swkDecoderTimeout, falseWakeWindowEnd, linFalseWakeWindowEnd, nmMessage, nmTimeout, wbsExpiry, needVoteWrite, nmCycle, nmCommit,
deferLatch, ceilExpiry, ceilRestart, keepClr. -/
def Obligations.NetworkTimeAndSleepCommands : Prop :=
  (∀ (s : State) (m : Master) (tag : Nat), s.takes ntPage 0x54 (2 ^ 31 + tag) = true → tag < 2 ^ 31 → (s.reached ntPage).get NTIME_CFG_SRC ntPage ≠ 1 →
      exec (.sampleCommit m tag) s = .next ((s.reached ntPage).reject ntPage)) ∧
  (∀ (s : State) (m : Master) (tag : Nat), s.takes ntPage 0x54 (2 ^ 31 + tag) = true → tag < 2 ^ 31 → (s.reached ntPage).get NTIME_CFG_SRC ntPage = 1 →
      (s.reached ntPage).flag NTIME_STAT_RING_OWNED ntPage = false → ((s.reached ntPage).set NTIME_SAMPLE_CTRL_MASTER ntPage (2 ^ 31 + tag)).accepts
      ntPage = true → exec (.sampleCommit m tag) s = .next (ntSample ((s.reached ntPage).set NTIME_SAMPLE_CTRL_MASTER ntPage (2 ^ 31 + tag)))) ∧
  (∀ (s : State) (m : Master), s.takes ntPage 0x78 1 = true → s.nt.before = none → (s.reached ntPage).flag NTIME_STAT_JUMP_REFUSED ntPage = false → exec
      (.acceptStep m) s = .next ((s.reached ntPage).reject ntPage)) ∧
  (∀ (s z : State) (m : Master) (r : Acted), s.takes ntPage 0x78 1 = true → z = s.reached ntPage → (ntUndo z).2 = true → r = ntAgree 1 (ntUndo z).1 →
      exec (.acceptStep m) s = .next (if r.2 then (ntTake r.1).reject ntPage else ntTake r.1)) ∧
  (∀ (s : State) (m : Master), s.takes ntPage 0x78 2 = true → s.nt.before = none → (s.reached ntPage).flag NTIME_STAT_JUMP_REFUSED ntPage = false → exec
      (.acceptRebase m) s = .next ((s.reached ntPage).reject ntPage)) ∧
  (∀ (s z : State) (m : Master) (r : Acted), s.takes ntPage 0x78 2 = true → z = s.reached ntPage → (ntUndo z).2 = true → r = ntAgree 2 (ntUndo z).1 →
      exec (.acceptRebase m) s = .next (if r.2 then (ntTake r.1).reject ntPage else ntTake r.1)) ∧
  (∀ (s z u y : State) (m : Master) (pend : Int), s.takes ntPage 0x78 1 = true → z = s.reached ntPage → s.nt.before = none → z.flag NTIME_STAT_RING_OWNED
      ntPage = false → z.flag NTIME_STAT_JUMP_REFUSED ntPage = true → pend = sgn 64 (z.get NTIME_PEND_LO ntPage + 2 ^ 32 * z.get NTIME_PEND_HI ntPage)
      → u = ntSettle (z.set NTIME_MASTER_ACT ntPage z.nt.tag) → y = ntState { u with nt := { u.nt with sync := u.tb } } 1 → 0 ≤ pend → exec
      (.acceptStep m) s = .next { y with nt := { y.nt with step := some pend.toNat } }) ∧
  (∀ (s z : State) (m : Master), s.takes ntPage 0x78 1 = true → z = s.reached ntPage → s.nt.before = none → sgn 64 (z.get NTIME_PEND_LO ntPage + 2 ^ 32 *
      z.get NTIME_PEND_HI ntPage) < 0 → exec (.acceptStep m) s = .next (z.reject ntPage)) ∧
  (∀ (s z u y : State) (m : Master) (pend : Int), s.takes ntPage 0x78 2 = true → z = s.reached ntPage → s.nt.before = none → z.flag NTIME_STAT_RING_OWNED
      ntPage = false → z.flag NTIME_STAT_JUMP_REFUSED ntPage = true → pend = sgn 64 (z.get NTIME_PEND_LO ntPage + 2 ^ 32 * z.get NTIME_PEND_HI ntPage)
      → u = ntSettle (z.set NTIME_MASTER_ACT ntPage z.nt.tag) → y = ntState { u with nt := { u.nt with sync := u.tb } } 1 → exec (.acceptRebase m) s =
      .next (ntPulse (ntRebase y pend))) ∧
  (∀ (s : State), s.domOn 3 = true → s.flag NTIME_STAT_SLEWING ntPage = true → s.slewDue = true → exec .slewEnd s = .next (ntInc ((ntSlew s 0).irq ntPage
      4))) ∧
  (∀ (s : State), s.domOn 3 = true → s.get NTIME_STAT_STATE ntPage = 1 → s.nt.sync + s.get NTIME_CFG2_SAMPLE_TO ntPage * 1000000000 ≤ s.tb → exec
      .sampleTimeout s = .next ((ntSecond (s.set NTIME_STAT_STATE ntPage 2)).irq ntPage 1)) ∧
  (∀ (s : State), s.domOn 3 = true → s.get NTIME_STAT_STATE ntPage = 2 → s.get NTIME_CFG2_HOLDOVER_MAX ntPage ≤ s.holdT → exec .holdoverExpiry s = .next
      ((ntSecond (s.set NTIME_STAT_STATE ntPage 0)).irq ntPage 1)) ∧
  (∀ (s z t : State) (m : Master) (v : Word), s.takes ntPage 0x40 v.toNat = true → z = s.reached ntPage → t = plainWrite z ntPage 0x40 v.toNat → exec
      (.ntSrcWrite m v) s = .next (ntUnsync t (z.ntSets || t.ntSets))) ∧
  (∀ (s : State), s.nt.slew = 0 → s.get NTIME_STAT_STATE ntPage ≠ 0 → ntUnsync s true = ntRate ((ntSecond (s.set NTIME_STAT_STATE ntPage 0)).irq ntPage
      1)) ∧
  (∀ (s : State), s.domOn 3 = true → s.get NTIME_STAT_STATE ntPage ≠ 0 → s.nt.sec < s.ntNow / 1000000000 → exec .ntSecondPulse s = .next (srcEvent
      (ntSecond s) 0x52)) ∧
  (∀ (s : State), (s.ntNow / 1000000000 ≤ s.nt.sec ∨ s.get NTIME_STAT_STATE ntPage = 0) → exec .ntSecondPulse s = .next (ntSecond s)) ∧
  (∀ (s : State) (c edge : Nat) (f : CanFrame), s.domOn 3 = true → s.ttOn c = true → (s.canH c).tt.running = true → s.isRef c f = true → exec
      (.referenceMessage c f edge) s = .next (ntCan (ttReference s c f edge) c)) ∧
  (∀ (s : State) (t : Nat), s.get CTRX_STAT_MODE_ACT ctrxPage t = 3 → exec (.canWakePattern t) s = .next (wakeEvent s 3 t 1)) ∧
  (∀ (s : State) (t : Nat), s.get CTRX_STAT_MODE_ACT ctrxPage t = 4 → s.flag CTRX_SWK_STAT_CFG_ERR ctrxPage t = false → exec (.canWakePattern t) s =
      .next (s.upXcv t fun x => { x with armed := true, heard := s.tb })) ∧
  (∀ (s s0 s1 : State) (t : Nat) (f : CanFrame), s.swkArmed t = true → f.fdf = false → (s0 = s.upXcv t fun x => { x with heard := s.tb }) → s1 = s0.set
      CTRX_SWK_STAT_FEC ctrxPage (s0.get CTRX_SWK_STAT_FEC ctrxPage t - 1) t → s1.swkMatch t f = true → exec (.selectiveWakeFrame t f) s = .next
      (wakeEvent (s1.put CTRX_SWK_STAT_MATCH ctrxPage true t) 3 t 1)) ∧
  (∀ (s : State) (t : Nat), s.swkArmed t = true → s.get CTRX_SWK_STAT_FEC ctrxPage t < 31 → exec (.swkFrameError t) s = .next ((s.upXcv t fun x =>
      { x with heard := s.tb }).set CTRX_SWK_STAT_FEC ctrxPage (s.get CTRX_SWK_STAT_FEC ctrxPage t + 1) t)) ∧
  (∀ (s : State) (t : Nat), s.swkArmed t = true → s.get CTRX_SWK_STAT_FEC ctrxPage t = 31 → exec (.swkFrameError t) s = .next (wakeEvent (((s.upXcv t fun
      x => { x with heard := s.tb }).set CTRX_SWK_STAT_FEC ctrxPage 32 t).put CTRX_SWK_STAT_FEC_OVF ctrxPage true t) 3 t 1)) ∧
  (∀ (s : State) (t : Nat), (s.xcv t).heard + 600000000 ≤ s.tb → exec (.swkDecoderTimeout t) s = .next (s.upXcv t fun x => { x with armed := false })) ∧
  (∀ (s : State) (t : Nat), s.tb < (s.xcv t).heard + 600000000 → exec (.swkDecoderTimeout t) s = .next s) ∧
  (∀ (s : State) (t a ts : Nat), (s.xcv t).window = some (a, ts) → a + s.get CTRX_FW_WINDOW ctrxPage t * 1000000 ≤ s.tb → exec (.falseWakeWindowEnd t) s
      = .next (fwCount s t ts)) ∧
  (∀ (s : State) (l k a : Nat), ((s.nm.linWin.find? fun e => e.1 == l) = some (k, a)) → a + s.get NMK_LIN_FW_WINDOW nmkPage * 1000000 ≤ s.tb → exec
      (.linFalseWakeWindowEnd l) s = .next (linFwCount s l)) ∧
  (∀ (s : State) (b : Nat) (f : CanFrame), s.domOn 3 = true → s.isNm b f none = true → 6 ≤ b → s.nm.commit = none → exec (.nmMessage b f none) s = .next
      (Machine.nmMessage s b f false)) ∧
  (∀ (s : State) (u : NmCommit) (b : Nat) (f : CanFrame), s.domOn 3 = true → s.isNm b f none = true → 6 ≤ b → s.nm.commit = some u → u.tb = s.tb → exec
      (.nmMessage b f none) s = .next (doAct nmkPage (nmCommit u.val (Machine.nmMessage (commitUndo s u) b f false)))) ∧
  (∀ (s : State) (b : Nat), s.domOn 3 = true → s.nmSt b = 2 → (s.bus b).timer ≤ s.tb → exec (.nmTimeout b) s = .next (((keepEnd s b).setNm b 3).upBus b
      fun x => { x with wbs := ((keepEnd s b).setNm b 3).tb + ((keepEnd s b).setNm b 3).get NMK_TIMING_WBS nmkPage b * 1000000 })) ∧
  (∀ (s : State) (b : Nat), s.domOn 3 = true → s.nmSt b = 3 → (s.bus b).wbs ≤ s.tb → exec (.wbsExpiry b) s = .next ((s.setNm b 4).irq nmkPage b)) ∧
  (∀ (s : State) (m : Master) (b : Nat) (v : Word), s.takes nmkPage (0x114 + 0x40 * b) v.toNat = true → (bitOf v.toNat 0 = false ∨ s.nm.commit = none) →
      exec (.needVoteWrite m b v) s = .next (voteAll ((s.reached nmkPage).put NMK_NEED_VOTE nmkPage (bitOf v.toNat 0) b))) ∧
  (∀ (s : State) (u : NmCommit) (m : Master) (b : Nat) (v : Word), s.takes nmkPage (0x114 + 0x40 * b) v.toNat = true → bitOf v.toNat 0 = true →
      s.nm.commit = some u → u.tb = s.tb → exec (.needVoteWrite m b v) s = .next (doAct nmkPage (nmCommit u.val (voteAll ((commitUndo (s.reached
      nmkPage) u).put NMK_NEED_VOTE nmkPage true b))))) ∧
  (∀ (s : State) (b : Nat), s.domOn 3 = true → s.nmSt b = 1 → (s.bus b).cycle ≤ s.tb → exec (.nmCycle b) s = .next ((canReq s b (1 <<< s.get
      NMK_CFG_TX_BUF nmkPage b)).upBus b fun x =>
      { x with cycle := (canReq s b (1 <<< s.get NMK_CFG_TX_BUF nmkPage b)).tb + (canReq s b (1 <<< s.get NMK_CFG_TX_BUF nmkPage b)).get NMK_CYCLE nmkPage b * 1000000 })) ∧
  (∀ (s : State) (m : Master) (v : Word), s.takes nmkPage 0x48 v.toNat = true → (s.reached nmkPage).commitOkNm v.toNat = false → exec (.nmCommit m v) s =
      .next ((s.reached nmkPage).reject nmkPage)) ∧
  (∀ (s : State) (m : Master) (v : Word), s.takes nmkPage 0x48 v.toNat = true → (s.reached nmkPage).commitOkNm v.toNat = true → exec (.nmCommit m v) s =
      .next (Machine.nmCommit v.toNat (s.reached nmkPage)).1) ∧
  (∀ (s : State) (m : Master) (v : Word) (b : Nat), b < 6 → s.takes nmkPage 0x48 v.toNat = true → v.toNat = 2 ^ b → (s.reached nmkPage).nmSt b = 4 →
      (s.bus b).kev = none → s.flag NMK_CFG_SLEEP_MODE nmkPage b = false → Completes (exec (.nmCommit m v) s) fun t => t.nmSt b = 5 ∧ t.get CTRX_MODE
      ctrxPage b = 3) ∧
  (∀ (s : State) (t : Nat), s.tb ≤ s.nm.watchEnd → t < 6 → bitOf s.nm.watchCan t = true → exec (.deferLatch t) s = .next (wakeEvent
      { s with nm := { s.nm with watchCan := clrBit s.nm.watchCan t } } 3 t 1)) ∧
  (∀ (s : State), s.domOn 3 = true → (ceilCount s).nm.ceilLeft = 0 → ((ceilCount s).flag NMK_CEIL_EN nmkPage && (ceilCount s).anyVote) = true → exec
      .ceilExpiry s = .next (voteAll ((((ceilKeep (ceilCount s)).put NMK_CEIL_STAT_BLOCK nmkPage true).bump NMK_CEIL_STAT_EXPIRIES nmkPage).irq
      nmkPage 16))) ∧
  (∀ (s : State) (m : Master) (v : Nat), v = plainRead s nmkPage 0x40 ||| 2 ^ 17 → s.flag H_STAT_HELD nmkPage = false → s.takes nmkPage 0x40 v = true →
      exec (.ceilRestart m) s = .next (ceilReload (plainWrite (ceilCount (s.reached nmkPage)) nmkPage 0x40 v))) ∧
  (∀ (s : State) (m : Master) (b : Nat), s.takes nmkPage (0x11C + 0x40 * b) 1 = true → exec (.keepClr m b) s = .next (keepClear b 1 (s.reached nmkPage))) ∧
  (∀ (s : State) (m : Master) (b k : Nat), b < 8 → k < 16 → s.takes nmkPage (0x11C + 0x40 * b) 1 = true → Completes (exec (.keepClr m b) s) fun t =>
      t.flag NMK_KEEP_VALID nmkPage b k = false ∧ t.get NMK_KEEP_MS nmkPage b k = 0 ∧ (t.bus b).kev = none)

/-- TUNE_NOW starts tuning, its end enters the codes with IRQ 2. A shorted or open antenna sets its fault and is lost to the telegram; the
thermal sensor sets and, with TL_AUTO, clears the latch. A poll that falls due is sent or skipped; its end returns the domains; a
presence answer that the poll accepts is a wake event of source 7 with IRQ 1. Whole minutes of standing count, STAND_CLR clears them.
As its conclusion exec answers a next state, under conditions on the state and the operands alone, for each of the constructors:
actTuneNow, tuningComplete, lfShort, lfOpen, lfThermal, lfPoll, lfPollEnd, pollAnswer, standingMinute, actStandClr. -/
def Obligations.AccessCommands : Prop :=
  (∀ (s : State) (m : Master), s.takes accPage 0x4C 1 = true → exec (.actTuneNow m) s = .next
      { s.reached accPage with lf := { (s.reached accPage).lf with tune := true } }) ∧
  (∀ (s z : State) (tune opn shorted : Nat), s.lf.tune = true → s.domOn 11 = true → s.immoSending = false → s.lf.polling = false → s.flag
      SUP_STAT_VBAT_OV 4 = false → s.get ACC_LF_MASK_EN accPage = 0 → z = s → exec (.tuningComplete tune opn shorted) s = .next
      (({ z with lf := { z.lf with tune := false } } : State).irq accPage 2)) ∧
  (∀ (s : State) (tune opn shorted n : Nat), s.lf.tune = true → s.domOn 11 = true → s.immoSending = false → s.lf.polling = false → s.flag
      SUP_STAT_VBAT_OV 4 = false → n < 6 → bitOf (s.get ACC_LF_MASK_EN accPage) n = true → bitOf (opn ||| shorted ||| s.lfOff) n = false → Completes
      (exec (.tuningComplete tune opn shorted) s) fun t => t.get (tuneField n) accPage = bitsOf tune (5 * n) 5 ∧ t.lf.tune = false) ∧
  (∀ (s : State) (n : Nat), s.domOn 11 = true → exec (.lfShort n) s = .next (lfLose (lfFault s ACC_FAULT_SHORT (1 <<< n)) (1 <<< n))) ∧
  (∀ (s : State) (n : Nat), s.domOn 11 = true → exec (.lfOpen n) s = .next (lfLose (lfFault s ACC_FAULT_OPEN (1 <<< n)) (1 <<< n))) ∧
  (∀ (s : State), s.domOn 11 = true → exec (.lfThermal true) s = .next (lfLose (lfFault { s with lf := { s.lf with latch := true, hot := true } }
      ACC_FAULT_THERMAL 1) 63)) ∧
  (∀ (s : State), s.domOn 11 = true → exec (.lfThermal false) s = .next
      { s with lf := { s.lf with hot := false, latch := s.lf.latch && !s.flag ACC_LF_TL_AUTO accPage } }) ∧
  (∀ (s : State) (sat t : Nat), s.lf.pollNext = some t → t ≤ s.tb → s.lf.polling = false → (pollAfter s t).immo.run.isSome = true → exec (.lfPoll sat) s
      = .next ((if (pollAfter s t).order 11 = 3 ∨ (pollAfter s t).order 7 = 3 then (pollAfter s t).pollUp else pollAfter s t).bump
      ACC_CNT_POLL_SKIPPED accPage)) ∧
  (∀ (s : State) (sat t : Nat), s.lf.pollNext = some t → t ≤ s.tb → s.lf.polling = false → s.immo.run = none → s.flag SUP_STAT_VBAT_OV 4 = false →
      s.order 11 ≠ 3 → s.order 7 ≠ 3 → Completes (exec (.lfPoll sat) s) fun t => t.lf.polling = true ∧ t.get ACC_LAST_POLL accPage = 0) ∧
  (∀ (s : State), s.pollOver = true → exec .lfPollEnd s = .next (pollEnd s)) ∧
  (∀ (s : State), s.pollOver = true → (s.getDom 11).restore = none → (s.getDom 7).restore = none → exec .lfPollEnd s = .next
      { s with lf := { s.lf with polling := false, pollFrom := none }, immo := { s.immo with endTb := s.tb } }) ∧
  (∀ (s : State) (head crc : Nat), s.pollHears head crc = true → exec (.pollAnswer head crc) s = .next (wakeEvent ((s.set ACC_LAST_POLL accPage (setBit
      (s.get ACC_LAST_POLL accPage) (head / 32))).irq accPage 1) 7 (head / 32) 1)) ∧
  (∀ (s : State), s.lf.standTb + (s.get ACC_STAND_MIN accPage + 1) * 60000000000 ≤ s.tb → exec .standingMinute s = .next (s.bump ACC_STAND_MIN accPage)) ∧
  (∀ (s : State) (m : Master), s.takes accPage 0x4C 2 = true → Completes (exec (.actStandClr m) s) fun t => t.get ACC_STAND_MIN accPage = 0 ∧
      t.lf.standTb = s.tb)

/-- CMD.GO requests an exchange, GO 3 is rejected, TP_READ requests a transponder exchange and ABORT ends one. The end of the telegram begins
listening; a learnt slot that closes takes its class; a violation, a wrong CRC or an incomplete answer collides, a whole one with its
CRC is clean and nothing heard is empty; without the decoder every slot is empty; a verdict of another master is rejected, one of the
SE on a slot that is not clean too, and a valid one can grant, also in the BCLK of CMD.ABORT, before the abort. A late verdict counts
as invalid; the end of listening without a grant repeats after a collision or denies; a pending exchange starts 1 ms after the last.
REL.SEND of the SE after a fresh grant of purpose start arms the release and requests its first transmission; any other is rejected. A
repetition counts and requests again, one that finds its buffer pending counts as skipped; the acknowledgement in its BCLK takes it
back. The acknowledgement ends it with ACKED and IRQ 3, the last repetition without one with GIVEN_UP and IRQ 4; STOP ends it. As its
conclusion exec answers a next state, under conditions on the state and the operands alone, for each of the constructors: immoCmdGo,
immoCmdAbort, immoTpRead, telegramEnd, answerSlotClose, immoVerdict, verifyTimeout, listeningEnd, repeatTelegram,
pendingExchangeStart, transponderEnd, relSend, relRepeat, relAck, relGiveUp, relStop. -/
def Obligations.ImmobiliserAndReleaseCommands : Prop :=
  (∀ (s : State) (m : Master) (go mask : Nat), go < 3 → go ≠ 0 → mask < 64 → s.takes immoPage 0x4C (go + mask * 256) = true → exec (.immoCmdGo m go mask)
      s = .next (immoRequest (s.reached immoPage) { start := go == 2, mask := mask, cmd := true })) ∧
  (∀ (s : State) (m : Master) (mask : Nat), mask < 64 → s.takes immoPage 0x4C (3 + mask * 256) = true → exec (.immoCmdGo m 3 mask) s = .next ((s.reached
      immoPage).reject immoPage)) ∧
  (∀ (s : State) (m : Master), s.takes immoPage 0x4C 4 = true → exec (.immoCmdAbort m) s = .next (immoAbort (immoKeep (s.reached immoPage)) 1)) ∧
  (∀ (s : State) (m : Master) (x : Xreq), s.takes immoPage 0x4C 4 = true → s.immo.run = some x → Completes (exec (.immoCmdAbort m) s) fun t => t.immo.run
      = none ∧ t.get IMMO_RESULT_OUTCOME immoPage = 3 ∧ t.get IMMO_RESULT_ABORT_CAUSE immoPage = 1 ∧ t.get IMMO_XSTAT_STATE immoPage = 0) ∧
  (∀ (s : State) (m : Master), s.takes immoPage 0x4C 8 = true → exec (.immoTpRead m) s = .next (immoRequest (s.reached immoPage)
      { start := true, tp := true, mask := 32, cmd := true })) ∧
  (∀ (s : State) (sat : Nat), s.immo.run.isSome = true → s.get IMMO_XSTAT_STATE immoPage = 1 → s.domOn 11 = true → s.telegramDue ≤ s.tb → exec
      (.telegramEnd sat) s = .next (immoListen (lfLost (lfSat s (s.get IMMO_XSTAT_MASK immoPage) sat)))) ∧
  (∀ (s : State) (k : Nat) (viol : Bool) (bytes heard crc : List Byte), s.get IMMO_XSTAT_STATE immoPage = 2 → s.slotTurn k = true → s.domOn 11 = true →
      s.flag ACC_UHF_EN accPage = true → bytes = heard ++ crc → viol = true → exec (.answerSlotClose k viol heard crc) s = .next (immoSlotClose s k 2
      (answerWord (bytes.map BitVec.toNat)) (answerWord ((bytes.map BitVec.toNat).drop 4)))) ∧
  (∀ (s : State) (k : Nat) (viol : Bool) (bytes heard crc : List Byte), s.get IMMO_XSTAT_STATE immoPage = 2 → s.slotTurn k = true → s.domOn 11 = true →
      s.flag ACC_UHF_EN accPage = true → bytes = heard ++ crc → viol = false → bytes = [] → exec (.answerSlotClose k viol heard crc) s = .next
      (immoSlotClose s k 0 (answerWord (bytes.map BitVec.toNat)) (answerWord ((bytes.map BitVec.toNat).drop 4)))) ∧
  (∀ (s : State) (k : Nat) (viol : Bool) (resp bytes heard crc : List Byte), s.get IMMO_XSTAT_STATE immoPage = 2 → s.slotTurn k = true → s.domOn 11 =
      true → s.flag ACC_UHF_EN accPage = true → bytes = heard ++ crc → viol = false → resp.length = 8 → bytes = resp ++ [BitVec.ofNat 8 (crc16
      (resp.map BitVec.toNat) / 256), BitVec.ofNat 8 (crc16 (resp.map BitVec.toNat))] → exec (.answerSlotClose k viol heard crc) s = .next
      (immoSlotClose s k 1 (answerWord (bytes.map BitVec.toNat)) (answerWord ((bytes.map BitVec.toNat).drop 4)))) ∧
  (∀ (s : State) (k : Nat) (viol : Bool) (bytes heard crc : List Byte), s.get IMMO_XSTAT_STATE immoPage = 2 → s.slotTurn k = true → s.domOn 11 = true →
      s.flag ACC_UHF_EN accPage = true → bytes = heard ++ crc → viol = false → bytes ≠ [] → bytes.length ≠ 10 → exec (.answerSlotClose k viol heard
      crc) s = .next (immoSlotClose s k 2 (answerWord (bytes.map BitVec.toNat)) (answerWord ((bytes.map BitVec.toNat).drop 4)))) ∧
  (∀ (s : State) (k : Nat) (viol : Bool) (bytes heard crc : List Byte), s.get IMMO_XSTAT_STATE immoPage = 2 → s.slotTurn k = true → s.domOn 11 = true →
      s.flag ACC_UHF_EN accPage = true → bytes = heard ++ crc → viol = false → bytes.length = 10 → crc16 ((bytes.map BitVec.toNat).take 8) ≠
      (bytes.map BitVec.toNat).getD 8 0 * 256 + (bytes.map BitVec.toNat).getD 9 0 → exec (.answerSlotClose k viol heard crc) s = .next (immoSlotClose
      s k 2 (answerWord (bytes.map BitVec.toNat)) (answerWord ((bytes.map BitVec.toNat).drop 4)))) ∧
  (∀ (s : State) (k : Nat) (viol : Bool) (bytes heard crc : List Byte), s.get IMMO_XSTAT_STATE immoPage = 2 → s.slotTurn k = true → s.domOn 11 = true →
      s.flag ACC_UHF_EN accPage = false → bytes = heard ++ crc → exec (.answerSlotClose k viol heard crc) s = .next (immoSlotClose s k 0 (answerWord
      (bytes.map BitVec.toNat)) (answerWord ((bytes.map BitVec.toNat).drop 4)))) ∧
  (∀ (s : State) (m : Master) (k : Nat) (v : Bool), m ≠ .se → s.takes immoPage 0xA4 (k + 256 * b2n v) = true → exec (.immoVerdict m k v) s = .next
      ((s.reached immoPage).reject immoPage)) ∧
  (∀ (s z : State) (k : Nat) (v : Bool), k < 8 → s.takes immoPage 0xA4 (k + 256 * b2n v) = true → z = s.reached immoPage → ((z.immo.undo.all fun u =>
      u.tb != z.tb || z.immo.run.isSome) = true) → (z.immo.run.isNone || z.slotClass k != 1 || bitOf z.immo.judged k) = true → exec (.immoVerdict .se
      k v) s = .next (z.reject immoPage)) ∧
  (∀ (s z y : State) (k : Nat), k < 8 → s.takes immoPage 0xA4 k = true → z = s.reached immoPage → ((z.immo.undo.all fun u => u.tb != z.tb ||
      z.immo.run.isSome) = true) → (z.immo.run.isNone || z.slotClass k != 1 || bitOf z.immo.judged k) = false → (y = z.upImmo fun x =>
      { x with judged := setBit x.judged k }) → y.immoWinner = none → exec (.immoVerdict .se k false) s = .next y) ∧
  (∀ (s z y : State) (k w : Nat), k < 8 → s.takes immoPage 0xA4 (k + 256) = true → z = s.reached immoPage → ((z.immo.undo.all fun u => u.tb != z.tb ||
      z.immo.run.isSome) = true) → (z.immo.run.isNone || z.slotClass k != 1 || bitOf z.immo.judged k) = false → (y = (z.upImmo fun x =>
      { x with judged := setBit x.judged k }).set IMMO_SLOTSTAT_VALID immoPage (setBit ((z.upImmo fun x => { x with judged := setBit x.judged k }).get
      IMMO_SLOTSTAT_VALID immoPage) k)) → y.immoWinner = some w → exec (.immoVerdict .se k true) s = .next (immoOutcome z (immoGrant y w))) ∧
  (∀ (s z t : State) (u : ImmoUndo) (k : Nat) (v : Bool), k < 8 → s.takes immoPage 0xA4 (k + 256 * b2n v) = true → z = s.reached immoPage → z.immo.run =
      none → z.immo.undo = some u → u.tb = z.tb → (t = ((immoRegs.zip u.regs).foldl (fun s x => s.set x.1 immoPage x.2) z).upImmo fun y =>
      { y with run := u.run, tp := u.tp, endTb := u.endTb, await := u.await, undo := none }) → (immoVerdict t k v).1.immo.run = none → (immoVerdict t
      k v).2 = false → exec (.immoVerdict .se k v) s = .next (immoOutcome t (immoVerdict t k v).1)) ∧
  (∀ (s z t : State) (u : ImmoUndo) (k : Nat), k < 8 → s.takes immoPage 0xA4 (k + 256 * b2n false) = true → z = s.reached immoPage → z.immo.run = none →
      z.immo.undo = some u → u.tb = z.tb → (t = ((immoRegs.zip u.regs).foldl (fun s x => s.set x.1 immoPage x.2) z).upImmo fun y =>
      { y with run := u.run, tp := u.tp, endTb := u.endTb, await := u.await, undo := none }) → (immoVerdict t k false).1.immo.run.isSome = true →
      (immoVerdict t k false).2 = false → exec (.immoVerdict .se k false) s = .next (immoAbort (immoVerdict t k false).1 1)) ∧
  (∀ (s : State) (k : Nat), s.domOn 11 = true → exec (.verifyTimeout k) s = .next (immoOutcome s (immoLate s k))) ∧
  (∀ (s : State), s.domOn 11 = true → s.immo.run.isSome = true → s.get IMMO_XSTAT_STATE immoPage = 2 → s.immoDone = true → exec .listeningEnd s = .next
      (immoOutcome s (immoNoGrant s))) ∧
  (∀ (s : State), s.domOn 11 = true → s.immo.run.isSome = true → s.immo.await = none → s.get IMMO_XSTAT_STATE immoPage = 3 → s.immo.since + 1000000 ≤
      s.tb → s.flag SUP_STAT_VBAT_OV 4 = false → exec .repeatTelegram s = .next (immoTelegram s 1)) ∧
  (∀ (s : State), s.domOn 11 = true → s.immo.run.isSome = true → s.immo.await = none → s.get IMMO_XSTAT_STATE immoPage = 3 → s.immo.since + 1000000 ≤
      s.tb → s.flag SUP_STAT_VBAT_OV 4 = true → exec .repeatTelegram s = .next (immoAbort s 4)) ∧
  (∀ (s : State) (x : Xreq), s.immo.pend = some x → s.domOn 11 = true → s.immo.run = none → s.lf.polling = false → s.immo.endTb + 1000000 ≤ s.tb → exec
      .pendingExchangeStart s = .next (immoStart (s.upImmo fun y => { y with pend := none }) x)) ∧
  (∀ (s : State) (viol : Bool) (head heard crc : List Byte), s.domOn 11 = true → s.immo.run.isSome = true → s.get IMMO_XSTAT_STATE immoPage = 4 →
      s.immo.closed = 0 → s.immo.since + 28552000 ≤ s.tb → andNot (s.get IMMO_XSTAT_MASK immoPage) s.lf.lost = 0 → exec (.transponderEnd viol head
      heard crc) s = .next (immoOutcome s (immoEnd s 4 0 0))) ∧
  (∀ (s t : State) (k : Byte) (resp bytes head heard crc : List Byte), s.domOn 11 = true → s.immo.run.isSome = true → s.get IMMO_XSTAT_STATE immoPage = 4
      → s.immo.closed = 0 → s.immo.since + 28552000 ≤ s.tb → andNot (s.get IMMO_XSTAT_MASK immoPage) s.lf.lost ≠ 0 → resp.length = 8 → bytes = head ++
      heard ++ crc → bytes = [k] ++ resp ++ [BitVec.ofNat 8 (crc16 (resp.map BitVec.toNat) / 256), BitVec.ofNat 8 (crc16 (resp.map BitVec.toNat))] → t
      = immoSlotClose s (k.toNat % 8) 1 (answerWord (resp.map BitVec.toNat)) (answerWord ((resp.map BitVec.toNat).drop 4)) → t.slotClass (k.toNat % 8)
      = 1 → exec (.transponderEnd false head heard crc) s = .next t) ∧
  (∀ (s t : State) (viol : Bool) (bytes head heard crc : List Byte), s.domOn 11 = true → s.immo.run.isSome = true → s.get IMMO_XSTAT_STATE immoPage = 4 →
      s.immo.closed = 0 → s.immo.since + 28552000 ≤ s.tb → andNot (s.get IMMO_XSTAT_MASK immoPage) s.lf.lost ≠ 0 → bytes = head ++ heard ++ crc →
      answerClass viol ((bytes.map BitVec.toNat).drop 1) ≠ 1 → t = immoSlotClose s ((bytes.map BitVec.toNat).getD 0 0 % 8) (answerClass viol
      ((bytes.map BitVec.toNat).drop 1)) (answerWord ((bytes.map BitVec.toNat).drop 1)) (answerWord ((bytes.map BitVec.toNat).drop 5)) → t.slotClass
      ((bytes.map BitVec.toNat).getD 0 0 % 8) ≠ 1 → exec (.transponderEnd viol head heard crc) s = .next (immoOutcome s (immoNoGrant t))) ∧
  (∀ (s z : State) (m : Master), s.takes immoPage 0xAC 1 = true → z = s.reached immoPage → z.relOk m = false → exec (.relSend m) s = .next (z.reject
      immoPage)) ∧
  (∀ (s z : State) (m : Master), s.takes immoPage 0xAC 1 = true → z = s.reached immoPage → z.relOk m = true → exec (.relSend m) s = .next (relRequest
      ((((z.put IMMO_REL_STAT_ACTIVE immoPage true).upImmo fun x => { x with relSent := true }).set IMMO_REL_STAT_SENT immoPage 0).set
      IMMO_REL_STAT_SKIPPED immoPage 0))) ∧
  (∀ (s : State), s.relDue = true → s.get IMMO_REL_STAT_SENT immoPage < s.get IMMO_REL_CFG_REPEAT immoPage → (!s.domOn 3 || bitOf (s.get CAN_TX_PEND
      (canPage s.relCan)) s.relBuf) = true → exec .relRepeat s = .next (((relKeep s).bump IMMO_REL_STAT_SKIPPED immoPage).upImmo fun x =>
      { x with relTb := s.immo.relTb + 100000000 })) ∧
  (∀ (s : State), s.relDue = true → s.get IMMO_REL_STAT_SENT immoPage < s.get IMMO_REL_CFG_REPEAT immoPage → (!s.domOn 3 || bitOf (s.get CAN_TX_PEND
      (canPage s.relCan)) s.relBuf) = false → exec .relRepeat s = .next ((relRequest (relKeep s)).upImmo fun x =>
      { x with relTb := s.immo.relTb + 100000000 })) ∧
  (∀ (s : State), s.relBegan = true → ((s.immo.relUndo.all fun u => u.tb != s.tb) = true) → exec .relAck s = .next (((relEnd s).put IMMO_REL_STAT_ACKED
      immoPage true).irq immoPage 3)) ∧
  (∀ (s : State) (u : RelUndo), s.relBegan = true → s.immo.relUndo = some u → u.tb = s.tb → exec .relAck s = .next (((relEnd (relUndo s)).put
      IMMO_REL_STAT_ACKED immoPage true).irq immoPage 3)) ∧
  (∀ (s : State), s.relDue = true → s.get IMMO_REL_CFG_REPEAT immoPage ≤ s.get IMMO_REL_STAT_SENT immoPage → exec .relGiveUp s = .next (((relEnd s).put
      IMMO_REL_STAT_GIVEN_UP immoPage true).irq immoPage 4)) ∧
  (∀ (s : State) (m : Master), s.takes immoPage 0xAC 2 = true → exec (.relStop m) s = .next (relEnd (s.reached immoPage)))

/-- A synchronisation frame locks a satellite device that is not ahead by more than 10 ns and unlocks one off by more than 100 ns; without
frames for 64 µs it unlocks. A master takes the status of a device, drops one without status for 3 s, records and clears a break,
steps its own time base forward, and a LOCKED device with it as the frames have told, queues forwarded interrupts and takes requests
of a shared gate. Wakes over the ring are events of source 6. Aligned ports open the bypass after 20 µs. As its conclusion exec
answers a next state, under conditions on the state and the operands alone, for each of the constructors: ringSyncFrame,
ringMasterStep, ringSyncTimeout, ringAlignment, bypassOpen, ringStatus, ringStatusTimeout, ringBreak, ringBrokenClear,
ringWakePattern, ringWakeFrame, ringIrqForward, ringFwdRead, sharedGateForward, sharedAdmissionApply. -/
def Obligations.RingCommands : Prop :=
  (∀ (s : State) (d : Int) (int dly hops : Nat) (frac : Word) (sh : RingTell), s.ringOn = true → s.isMaster = false → exec (.ringSyncFrame d int frac dly
      hops sh) s = .next (ringSync s d int frac.toNat dly hops sh)) ∧
  (∀ (s z : State) (d : Int) (int dly hops : Nat) (frac : Word) (sh : RingTell), s.ringOn = true → s.isMaster = false → (z = (((s.set RING_TB_ERR
      ringPage (unsgn 16 (satSgn 16 d))).set RING_LINK_DLY ringPage dly).set RING_LINK_HOPS ringPage hops).upRing fun x =>
      { x with sync := some s.tb, owed := sh.owed, owedAt := if sh.owed = x.owed then x.owedAt else (s.tb / 1000000 + 1) * 1000000 }) → z.flag
      RING_STAT_LOCKED ringPage = false → d < -10 → exec (.ringSyncFrame d int frac dly hops sh) s = .next z) ∧
  (∀ (s : State), s.ringOn = true → s.isMaster = true → s.ring.owed ≠ 0 → s.ring.owedAt ≤ s.tb → exec .ringMasterStep s = .next ((ringStep s
      s.ring.owed).upRing fun x => { x with owed := 0 })) ∧
  (∀ (s : State), s.ringOn = true → s.isMaster = false → s.flag RING_STAT_LOCKED ringPage = true → s.ring.owed ≠ 0 → s.ring.owedAt ≤ s.tb → exec
      .ringMasterStep s = .next ((ringStep s s.ring.owed).upRing fun x => { x with owed := 0 })) ∧
  (∀ (s : State), s.ringOn = true → s.isMaster = false → s.flag RING_STAT_LOCKED ringPage = false → exec .ringMasterStep s = .next s) ∧
  (∀ (s : State) (t : Nat), s.ring.sync = some t → t + 64000 ≤ s.tb → exec .ringSyncTimeout s = .next (ringUnlock s)) ∧
  (∀ (s : State) (a b br : Bool), s.ringOn = true → exec (.ringAlignment a b br) s = .next (ringAlign s a b br)) ∧
  (∀ (s : State) (t : Nat), s.ring.aligned = some t → s.ringOn = true → t + 20000 ≤ s.tb → exec .bypassOpen s = .next (s.upRing fun x =>
      { x with bypass := false })) ∧
  (∀ (s : State) (d limp total ups ahead : Nat) (low der p0 lk : Bool) (own : List (Nat × Nat)) (clash : Nat), s.ringOn = true → s.isMaster = true → exec
      (.ringStatus d limp low der p0 lk total ups ahead ⟨own, clash⟩) s = .next (Machine.ringStatus s d limp low der p0 lk total ups ahead own clash)) ∧
  (∀ (s : State) (d limp total ups ahead : Nat) (low der p0 lk : Bool) (own : List (Nat × Nat)), s.ringOn = true → s.isMaster = true → d < 7 → limp < 16
      → Completes (exec (.ringStatus d limp low der p0 lk total ups ahead ⟨own, 0⟩) s) fun t => t.get RING_SATSTAT_LIMP_ACT ringPage d = limp ∧ t.flag
      RING_SATSTAT_VBAT_LOW ringPage d = low ∧ t.flag RING_SATSTAT_DERATING ringPage d = der ∧ t.flag RING_SATSTAT_P0_OVER ringPage d = p0 ∧ t.flag
      RING_SATSTAT_LOCKED ringPage d = lk) ∧
  (∀ (s : State) (d t : Nat), (s.sat d).seen = some t → bitOf (s.get RING_MAP ringPage) d = true → t + 3000000 ≤ s.tb → exec (.ringStatusTimeout d) s =
      .next (satGone s d)) ∧
  (∀ (s : State) (d : Nat), s.ringOn = true → s.isMaster = true → exec (.ringBreak d 0) s = .next (((ringFlag s RING_STAT_BROKEN true 3).set
      RING_STAT_BREAK_AT ringPage d).bump RING_CNT_BREAKS ringPage)) ∧
  (∀ (s : State), s.isMaster = true → (s.flag RING_STAT_LINK_A ringPage && s.flag RING_STAT_LINK_B ringPage) = true → exec .ringBrokenClear s = .next
      ((ringFlag s RING_STAT_BROKEN false 3).set RING_STAT_BREAK_AT ringPage 15)) ∧
  (∀ (s : State), s.inPark = true → s.flag H_CTRL_EN ringPage = true → s.flag RING_CFG_PARK_WAKE ringPage = true → exec .ringWakePattern s = .next
      (wakeEvent s 6 0xFF 1)) ∧
  (∀ (s : State) (d : Nat), s.ringOn = true → exec (.ringWakeFrame d) s = .next (wakeEvent s 6 d 1)) ∧
  (∀ (s : State) (d page : Nat), s.ringOn = true → s.isMaster = true → s.ring.fwd = [] → Completes (exec (.ringIrqForward d page) s) fun t => t.ring.fwd
      = [(d + 1, page)] ∧ t.get RING_FWD_STAT_COUNT ringPage = 1) ∧
  (∀ (s : State) (m : Master), s.ring.fwd = [] → Completes (exec (.ringFwdRead m) s) fun t => t.resp = ⟨.ok, 0⟩ ∧ t.flag RING_FWD_VALID ringPage = false) ∧
  (∀ (s : State) (m : Master) (a b : Nat) (q : List (Nat × Nat)), s.ring.fwd = (a, b) :: q → Completes (exec (.ringFwdRead m) s) fun t => t.resp = ⟨.ok,
      a + b * 256 + 2 ^ 31⟩ ∧ t.ring.fwd = q ∧ t.flag RING_FWD_VALID ringPage = true) ∧
  (∀ (s : State) (d page chan rank x h prio t : Nat), s.gateTakes d = true → exec (.sharedGateForward d page chan rank x h prio t) s = .next (s.enqueue
      { req := .remote (d + 1) page chan, rank := rank, x := x, h := h, prio := prio, t := t })) ∧
  (∀ (s : State) (page chan : Nat) (ok : Bool), s.isMaster = false → exec (.sharedAdmissionApply page chan ok) s = .next (sharedApply s page chan ok))

/-- On every state in which core c issues, each ALU and MULDIV instruction completes and writes the word that R486 gives to rd, to be seen after
the distance of R476, and changes nothing else but what the end of an instruction changes in the core. Written with bit vectors, in
place of the numbers with which the model computes. As its conclusion exec answers a next state, under conditions on the state and the
operands alone, for each of the constructors: iAdd, iSub, iAnd, iOr, iXor, iNor, iSll, iSrl, iSra, iMin, iMax, iMinu, iMaxu, iAdds,
iSubs, iSlli, iSrli, iSrai, iClz, iBswap, iMul, iMulh, iMulhu, iMac, iDiv, iDivu, iRem, iRemu. -/
def Obligations.CoreArithmetic : Prop :=
  (∀ (c rd ra rb : Nat), Computes (.iAdd c rd ra rb) c 1 rd [] fun k => (k.word ra + k.word rb).toNat) ∧
  (∀ (c rd ra rb : Nat), Computes (.iSub c rd ra rb) c 1 rd [rb] fun k => (k.word ra - k.word rb).toNat) ∧
  (∀ (c rd ra rb : Nat), Computes (.iAnd c rd ra rb) c 1 rd [] fun k => (k.word ra &&& k.word rb).toNat) ∧
  (∀ (c rd ra rb : Nat), Computes (.iOr c rd ra rb) c 1 rd [] fun k => (k.word ra ||| k.word rb).toNat) ∧
  (∀ (c rd ra rb : Nat), Computes (.iXor c rd ra rb) c 1 rd [] fun k => (k.word ra ^^^ k.word rb).toNat) ∧
  (∀ (c rd ra rb : Nat), Computes (.iNor c rd ra rb) c 1 rd [] fun k => (~~~(k.word ra ||| k.word rb)).toNat) ∧
  (∀ (c rd ra rb : Nat), Computes (.iSll c rd ra rb) c 1 rd [] fun k => (k.word ra <<< (k.reg rb % 32)).toNat) ∧
  (∀ (c rd ra rb : Nat), Computes (.iSrl c rd ra rb) c 1 rd [ra] fun k => (k.word ra >>> (k.reg rb % 32)).toNat) ∧
  (∀ (c rd ra rb : Nat), Computes (.iSra c rd ra rb) c 1 rd [] fun k => ((k.word ra).sshiftRight (k.reg rb % 32)).toNat) ∧
  (∀ (c rd ra rb : Nat), Computes (.iMin c rd ra rb) c 1 rd [] fun k => (if (k.word ra).sle (k.word rb) then k.word ra else k.word rb).toNat) ∧
  (∀ (c rd ra rb : Nat), Computes (.iMax c rd ra rb) c 1 rd [] fun k => (if (k.word ra).sle (k.word rb) then k.word rb else k.word ra).toNat) ∧
  (∀ (c rd ra rb : Nat), Computes (.iMinu c rd ra rb) c 1 rd [ra, rb] fun k => (if k.word ra ≤ k.word rb then k.word ra else k.word rb).toNat) ∧
  (∀ (c rd ra rb : Nat), Computes (.iMaxu c rd ra rb) c 1 rd [ra, rb] fun k => (if k.word ra ≤ k.word rb then k.word rb else k.word ra).toNat) ∧
  (∀ (c rd ra rb : Nat), Computes (.iAdds c rd ra rb) c 1 rd [] fun k => (BitVec.ofInt 32 (max (-2 ^ 31) (min (2 ^ 31 - 1) ((k.word ra).toInt + (k.word
      rb).toInt)))).toNat) ∧
  (∀ (c rd ra rb : Nat), Computes (.iSubs c rd ra rb) c 1 rd [] fun k => (BitVec.ofInt 32 (max (-2 ^ 31) (min (2 ^ 31 - 1) ((k.word ra).toInt - (k.word
      rb).toInt)))).toNat) ∧
  (∀ (c rd ra sh : Nat), sh < 32 → Computes (.iSlli c rd ra sh) c 1 rd [] fun k => (k.word ra <<< sh).toNat) ∧
  (∀ (c rd ra sh : Nat), sh < 32 → Computes (.iSrli c rd ra sh) c 1 rd [ra] fun k => (k.word ra >>> sh).toNat) ∧
  (∀ (c rd ra sh : Nat), sh < 32 → Computes (.iSrai c rd ra sh) c 1 rd [] fun k => ((k.word ra).sshiftRight sh).toNat) ∧
  (∀ (c rd ra : Nat), Computes (.iClz c rd ra) c 1 rd [] fun k => (k.word ra).clz.toNat) ∧
  (∀ (c rd ra : Nat), Computes (.iBswap c rd ra) c 1 rd [] fun k => ((k.word ra).extractLsb' 0 8 ++ (k.word ra).extractLsb' 8 8 ++ (k.word
      ra).extractLsb' 16 8 ++ (k.word ra).extractLsb' 24 8).toNat) ∧
  (∀ (c rd ra rb : Nat), Computes (.iMul c rd ra rb) c 3 rd [] fun k => (k.word ra * k.word rb).toNat) ∧
  (∀ (c rd ra rb : Nat), Computes (.iMulh c rd ra rb) c 3 rd [] fun k => (((k.word ra).signExtend 64 * (k.word rb).signExtend 64).extractLsb' 32
      32).toNat) ∧
  (∀ (c rd ra rb : Nat), Computes (.iMulhu c rd ra rb) c 3 rd [ra, rb] fun k => (((k.word ra).setWidth 64 * (k.word rb).setWidth 64).extractLsb' 32
      32).toNat) ∧
  (∀ (c rd ra rb : Nat), Computes (.iMac c rd ra rb) c 3 rd [] fun k => (k.word rd + k.word ra * k.word rb).toNat) ∧
  (∀ (c rd ra rb : Nat), Computes (.iDiv c rd ra rb) c 12 rd [rb] fun k => if k.reg rb = 0 then 0xFFFFFFFF else ((k.word ra).sdiv (k.word rb)).toNat) ∧
  (∀ (c rd ra rb : Nat), Computes (.iDivu c rd ra rb) c 12 rd [ra, rb] fun k => if k.reg rb = 0 then 0xFFFFFFFF else (k.word ra / k.word rb).toNat) ∧
  (∀ (c rd ra rb : Nat), Computes (.iRem c rd ra rb) c 12 rd [ra, rb] fun k => if k.reg rb = 0 then k.reg ra else ((k.word ra).srem (k.word rb)).toNat) ∧
  (∀ (c rd ra rb : Nat), Computes (.iRemu c rd ra rb) c 12 rd [ra, rb] fun k => if k.reg rb = 0 then k.reg ra else (k.word ra % k.word rb).toNat)

/-- Compares give 1 or 0, SEL takes rb when ra is not zero and else rc, immediates are extended as R487 says, LUI writes imm16 << 16, and MFC
reads the control register; each completes on every state in which core c issues and changes nothing else but what the end of an
instruction changes in the core. As its conclusion exec answers a next state, under conditions on the state and the operands alone,
for each of the constructors: iCeq, iCne, iClt, iCltu, iCle, iCleu, iSel, iAddi, iAndi, iOri, iXori, iClti, iCltiu, iCeqi, iLui, iMfc. -/
def Obligations.CoreCompares : Prop :=
  (∀ (c rd ra rb : Nat), Computes (.iCeq c rd ra rb) c 1 rd [] fun k => if k.reg ra = k.reg rb then 1 else 0) ∧
  (∀ (c rd ra rb : Nat), Computes (.iCne c rd ra rb) c 1 rd [] fun k => if k.reg ra ≠ k.reg rb then 1 else 0) ∧
  (∀ (c rd ra rb : Nat), Computes (.iClt c rd ra rb) c 1 rd [] fun k => if (k.word ra).toInt < (k.word rb).toInt then 1 else 0) ∧
  (∀ (c rd ra rb : Nat), Computes (.iCltu c rd ra rb) c 1 rd [ra, rb] fun k => if k.word ra < k.word rb then 1 else 0) ∧
  (∀ (c rd ra rb : Nat), Computes (.iCle c rd ra rb) c 1 rd [] fun k => if (k.word ra).toInt ≤ (k.word rb).toInt then 1 else 0) ∧
  (∀ (c rd ra rb : Nat), Computes (.iCleu c rd ra rb) c 1 rd [ra, rb] fun k => if k.word ra ≤ k.word rb then 1 else 0) ∧
  (∀ (c rd ra rb rc : Nat), Computes (.iSel c rd ra rb rc) c 1 rd [] fun k => if k.reg ra ≠ 0 then k.reg rb else k.reg rc) ∧
  (∀ (c rd ra imm : Nat), imm < 2 ^ 16 → Computes (.iAddi c rd ra imm) c 1 rd [] fun k => (k.word ra + immWord imm).toNat) ∧
  (∀ (c rd ra imm : Nat), imm < 2 ^ 16 → Computes (.iAndi c rd ra imm) c 1 rd [] fun k => (k.word ra &&& (BitVec.ofNat 16 imm).setWidth 32).toNat) ∧
  (∀ (c rd ra imm : Nat), imm < 2 ^ 16 → Computes (.iOri c rd ra imm) c 1 rd [] fun k => (k.word ra ||| (BitVec.ofNat 16 imm).setWidth 32).toNat) ∧
  (∀ (c rd ra imm : Nat), imm < 2 ^ 16 → Computes (.iXori c rd ra imm) c 1 rd [] fun k => (k.word ra ^^^ (BitVec.ofNat 16 imm).setWidth 32).toNat) ∧
  (∀ (c rd ra imm : Nat), imm < 2 ^ 16 → Computes (.iClti c rd ra imm) c 1 rd [] fun k => if (k.word ra).toInt < (immWord imm).toInt then 1 else 0) ∧
  (∀ (c rd ra imm : Nat), imm < 2 ^ 16 → Computes (.iCltiu c rd ra imm) c 1 rd [ra] fun k => if k.word ra < immWord imm then 1 else 0) ∧
  (∀ (c rd ra imm : Nat), imm < 2 ^ 16 → Computes (.iCeqi c rd ra imm) c 1 rd [ra] fun k => if k.word ra = immWord imm then 1 else 0) ∧
  (∀ (c rd imm : Nat), imm < 2 ^ 16 → Computes (.iLui c rd imm) c 1 rd [] fun _ => imm * 2 ^ 16) ∧
  (∀ (c rd idx : Nat), Computes (.iMfc c rd idx) c 1 rd [] fun k => k.ctl c idx) ∧
  (∀ (k : Core) (c : Nat), k.ctl c 0 = (if k.ie then 1 else 0) + (if k.pie then 2 else 0) + (if k.exl then 4 else 0) + (if k.wt then 8 else 0)) ∧
  (∀ (k : Core) (c i : Nat), (i = 0x0B ∨ i = 0x0F ∨ i = 0x13 ∨ 0x15 ≤ i ∧ i < 0x18 ∨ 0x19 ≤ i ∧ i < 0x1C ∨ 0x1D ≤ i) → k.ctl c i = 0)

/-- On every state in which core c issues and at every address that D-space gives it: a load writes the bytes at the address, extended as its
name says, seen by the second instruction; a store puts its bytes there; LDWP and STWP also add to the base; SWP does both. A
misaligned address takes trap 3. SPILL stores w0 to w15 of the oldest frame, FILL brings them back, and both do nothing at their
limit. As its conclusion exec answers a next state, under conditions on the state and the operands alone, for each of the
constructors: iLdw, iLdh, iLdhu, iLdb, iLdbu, iStw, iSth, iStb, iLdwp, iStwp, iSwp, iSpill, iFill. -/
def Obligations.CoreMemoryAccess : Prop :=
  (∀ (s : State) (c rd ra imm a : Nat), s.issues c = true → a = ((s.seen c).word ra + immWord imm).toNat → s.dReach c a false = none → s.isBad (dPlace
      a).1 (ownerOf (dPlace a).1 c) (dPlace a).2 = false → 4 ∣ a → exec (.iLdw c rd ra imm) s = .next (s.setCr c (((s.seen c).result 2 rd (s.dGet c a
      4)).finish))) ∧
  (∀ (s : State) (c rd ra imm a : Nat), s.issues c = true → a = ((s.seen c).word ra + immWord imm).toNat → s.dReach c a false = none → s.isBad (dPlace
      a).1 (ownerOf (dPlace a).1 c) (dPlace a).2 = false → 2 ∣ a → exec (.iLdh c rd ra imm) s = .next (s.setCr c (((s.seen c).result 2 rd
      (((BitVec.ofNat 16 (s.dGet c a 2)).signExtend 32).toNat)).finish))) ∧
  (∀ (s : State) (c rd ra imm a : Nat), s.issues c = true → a = ((s.seen c).word ra + immWord imm).toNat → s.dReach c a false = none → s.isBad (dPlace
      a).1 (ownerOf (dPlace a).1 c) (dPlace a).2 = false → 2 ∣ a → exec (.iLdhu c rd ra imm) s = .next (s.setCr c (((s.seen c).result 2 rd (s.dGet c a
      2)).finish))) ∧
  (∀ (s : State) (c rd ra imm a : Nat), s.issues c = true → a = ((s.seen c).word ra + immWord imm).toNat → s.dReach c a false = none → s.isBad (dPlace
      a).1 (ownerOf (dPlace a).1 c) (dPlace a).2 = false → exec (.iLdb c rd ra imm) s = .next (s.setCr c (((s.seen c).result 2 rd (((BitVec.ofNat 8
      (s.dGet c a 1)).signExtend 32).toNat)).finish))) ∧
  (∀ (s : State) (c rd ra imm a : Nat), s.issues c = true → a = ((s.seen c).word ra + immWord imm).toNat → s.dReach c a false = none → s.isBad (dPlace
      a).1 (ownerOf (dPlace a).1 c) (dPlace a).2 = false → exec (.iLdbu c rd ra imm) s = .next (s.setCr c (((s.seen c).result 2 rd (s.dGet c a
      1)).finish))) ∧
  (∀ (s : State) (c rs ra imm a : Nat), s.issues c = true → a = ((s.seen c).word ra + immWord imm).toNat → s.dReach c a true = none → s.isBad (dPlace
      a).1 (ownerOf (dPlace a).1 c) (dPlace a).2 = false → 4 ∣ a → exec (.iStw c rs ra imm) s = .next ((s.dPut c a 4 ((s.seen c).reg rs)).setCr c
      (s.seen c).finish)) ∧
  (∀ (s : State) (c rs ra imm a : Nat), s.issues c = true → a = ((s.seen c).word ra + immWord imm).toNat → s.dReach c a true = none → s.isBad (dPlace
      a).1 (ownerOf (dPlace a).1 c) (dPlace a).2 = false → 2 ∣ a → exec (.iSth c rs ra imm) s = .next ((s.dPut c a 2 ((s.seen c).reg rs)).setCr c
      (s.seen c).finish)) ∧
  (∀ (s : State) (c rs ra imm a : Nat), s.issues c = true → a = ((s.seen c).word ra + immWord imm).toNat → s.dReach c a true = none → s.isBad (dPlace
      a).1 (ownerOf (dPlace a).1 c) (dPlace a).2 = false → exec (.iStb c rs ra imm) s = .next ((s.dPut c a 1 ((s.seen c).reg rs)).setCr c (s.seen
      c).finish)) ∧
  (∀ (s : State) (c rd ra imm a : Nat), s.issues c = true → a = ((s.seen c).word ra).toNat → s.dReach c a false = none → s.isBad (dPlace a).1 (ownerOf
      (dPlace a).1 c) (dPlace a).2 = false → 4 ∣ a → exec (.iLdwp c rd ra imm) s = .next (s.setCr c ((((s.seen c).result 2 rd (s.dGet c a 4)).result 1
      ra ((s.seen c).word ra + immWord imm).toNat).finish))) ∧
  (∀ (s : State) (c rs ra imm a : Nat), s.issues c = true → a = ((s.seen c).word ra).toNat → s.dReach c a true = none → s.isBad (dPlace a).1 (ownerOf
      (dPlace a).1 c) (dPlace a).2 = false → 4 ∣ a → exec (.iStwp c rs ra imm) s = .next ((s.dPut c a 4 ((s.seen c).reg rs)).setCr c ((s.seen
      c).result 1 ra ((s.seen c).word ra + immWord imm).toNat).finish)) ∧
  (∀ (s : State) (c rd ra rb a : Nat), s.issues c = true → a = (s.seen c).reg ra → (a < 0x8000 ∨ 0x10000000 ≤ a ∧ a < 0x10200000) → s.dReach c a true =
      none → s.isBad (dPlace a).1 (ownerOf (dPlace a).1 c) (dPlace a).2 = false → 4 ∣ a → exec (.iSwp c rd ra rb) s = .next ((s.dPut c a 4 ((s.seen
      c).reg rb)).setCr c ((s.seen c).result 2 rd (s.dGet c a 4)).finish)) ∧
  (∀ (s : State) (c rd ra imm a : Nat), s.issues c = true → a = ((s.seen c).word ra + immWord imm).toNat → ¬ 4 ∣ a → exec (.iLdw c rd ra imm) s = .next
      (coreTrap s c (s.seen c) 3 a)) ∧
  (∀ (s : State) (c rs ra imm a : Nat), s.issues c = true → a = ((s.seen c).word ra + immWord imm).toNat → ¬ 2 ∣ a → exec (.iSth c rs ra imm) s = .next
      (coreTrap s c (s.seen c) 3 a)) ∧
  (∀ (s : State) (c rd ra rb : Nat), s.issues c = true → 4 ∣ (s.seen c).reg ra → 0x20000000 ≤ (s.seen c).reg ra → exec (.iSwp c rd ra rb) s = .next
      (coreTrap s c (s.seen c) 2 ((s.seen c).reg ra))) ∧
  (∀ (s : State) (c : Nat), s.issues c = true → (s.seen c).frames = 1 → exec (.iSpill c) s = .next (s.setCr c (s.seen c).finish)) ∧
  (∀ (s : State) (c p : Nat) (k : Core), s.issues c = true → k = s.seen c → k.frames ≠ 1 → p = k.spillp → p + 64 ≤ 0x8000 → 4 ∣ p → (∀ i < 16, s.isBad 1
      c (p + 4 * i) = false) → exec (.iSpill c) s = .next ((s.each (List.range 16) fun s i => s.dPut c (p + 4 * i) 4 (tget k.win (winIdx k.oldest i)
      0)).setCr c ({ k with spillp := p + 64, frames := k.frames - 1 } : Core).finish)) ∧
  (∀ (s : State) (c : Nat), s.issues c = true → (s.seen c).frames = 15 → exec (.iFill c) s = .next (s.setCr c (s.seen c).finish)) ∧
  (∀ (s : State) (c p : Nat) (k : Core), s.issues c = true → k = s.seen c → k.frames ≠ 15 → k.spillp = p + 64 → p + 64 ≤ 0x8000 → 4 ∣ p → (∀ i < 16,
      s.isBad 1 c (p + 4 * i) = false) → exec (.iFill c) s = .next (s.setCr c
      ({ k with spillp := p, frames := k.frames + 1, win := (List.range 16).foldl (fun w i => tput w (winIdx ((k.oldest + 232) % 248) i) 0 (s.dGet c (p + 4 * i) 4)) k.win }).finish))

/-- A branch outside a delay slot reads its operand before the results that land at its issue, keeps its target for the end of the delay slot
and moves PC to that slot; one that is not taken passes on behind the slot. A call with all 15 frames resident takes window overflow
and a return with one frame window underflow; a branch in a delay slot takes the illegal-instruction trap. After the delay slot
control passes to the target; a call then slides the window and links into w15, a return slides it back. As its conclusion exec
answers a next state, under conditions on the state and the operands alone, for each of the constructors: iBz, iBnz, iJump, iJr,
iCall, iCallr, iRet. -/
def Obligations.CoreBranches : Prop :=
  (∀ (s : State) (c rc off : Nat), s.issues c = true → (s.seen c).slot = none → (s.cr c).reg rc = 0 → 4 ∣ (s.seen c).pc → exec (.iBz c rc off) s = .next
      (s.setCr c
      { s.seen c with slot := some { addr := (s.seen c).pc, target := ((((s.seen c).pc : Int) + 4 * (BitVec.ofNat 21 off).toInt) % 65536).toNat, call := false, ret := false }, pc := ((s.seen c).pc + 4) % 65536 })) ∧
  (∀ (s : State) (c rc off : Nat), s.issues c = true → (s.seen c).slot.isSome = true → exec (.iBz c rc off) s = .next (illegal s c (s.seen c))) ∧
  (∀ (s : State) (c rc off : Nat), s.issues c = true → (s.seen c).slot = none → (s.cr c).reg rc ≠ 0 → 4 ∣ (s.seen c).pc → exec (.iBnz c rc off) s = .next
      (s.setCr c
      { s.seen c with slot := some { addr := (s.seen c).pc, target := ((((s.seen c).pc : Int) + 4 * (BitVec.ofNat 21 off).toInt) % 65536).toNat, call := false, ret := false }, pc := ((s.seen c).pc + 4) % 65536 })) ∧
  (∀ (s : State) (c rc off : Nat), s.issues c = true → (s.seen c).slot.isSome = true → exec (.iBnz c rc off) s = .next (illegal s c (s.seen c))) ∧
  (∀ (s : State) (c rc off : Nat), s.issues c = true → (s.seen c).slot = none → (s.cr c).reg rc ≠ 0 → exec (.iBz c rc off) s = .next (s.setCr c
      { s.seen c with slot := some { addr := (s.seen c).pc, target := ((s.seen c).pc + 8) % 65536, call := false, ret := false }, pc := ((s.seen c).pc + 4) % 65536 })) ∧
  (∀ (s : State) (c rc off : Nat), s.issues c = true → (s.seen c).slot = none → (s.cr c).reg rc = 0 → exec (.iBnz c rc off) s = .next (s.setCr c
      { s.seen c with slot := some { addr := (s.seen c).pc, target := ((s.seen c).pc + 8) % 65536, call := false, ret := false }, pc := ((s.seen c).pc + 4) % 65536 })) ∧
  (∀ (s : State) (c off : Nat), s.issues c = true → (s.seen c).slot = none → 4 ∣ (s.seen c).pc → exec (.iJump c off) s = .next (s.setCr c
      { s.seen c with slot := some { addr := (s.seen c).pc, target := ((((s.seen c).pc : Int) + 4 * (BitVec.ofNat 26 off).toInt) % 65536).toNat, call := false, ret := false }, pc := ((s.seen c).pc + 4) % 65536 })) ∧
  (∀ (s : State) (c off : Nat), s.issues c = true → (s.seen c).slot.isSome = true → exec (.iJump c off) s = .next (illegal s c (s.seen c))) ∧
  (∀ (s : State) (c ra : Nat), s.issues c = true → (s.seen c).slot = none → exec (.iJr c ra) s = .next (s.setCr c
      { s.seen c with slot := some { addr := (s.seen c).pc, target := (s.cr c).reg ra % 65536 / 4 * 4, call := false, ret := false }, pc := ((s.seen c).pc + 4) % 65536 })) ∧
  (∀ (s : State) (c ra : Nat), s.issues c = true → (s.seen c).slot.isSome = true → exec (.iJr c ra) s = .next (illegal s c (s.seen c))) ∧
  (∀ (s : State) (c off : Nat), s.issues c = true → (s.seen c).slot = none → 4 ∣ (s.seen c).pc → (s.seen c).frames ≠ 15 → exec (.iCall c off) s = .next
      (s.setCr c
      { s.seen c with slot := some { addr := (s.seen c).pc, target := ((((s.seen c).pc : Int) + 4 * (BitVec.ofNat 26 off).toInt) % 65536).toNat, call := true, ret := false }, pc := ((s.seen c).pc + 4) % 65536 })) ∧
  (∀ (s : State) (c off : Nat), s.issues c = true → (s.seen c).slot.isSome = true → exec (.iCall c off) s = .next (illegal s c (s.seen c))) ∧
  (∀ (s : State) (c ra : Nat), s.issues c = true → (s.seen c).slot = none → (s.seen c).frames ≠ 15 → exec (.iCallr c ra) s = .next (s.setCr c
      { s.seen c with slot := some { addr := (s.seen c).pc, target := (s.cr c).reg ra % 65536 / 4 * 4, call := true, ret := false }, pc := ((s.seen c).pc + 4) % 65536 })) ∧
  (∀ (s : State) (c ra : Nat), s.issues c = true → (s.seen c).slot.isSome = true → exec (.iCallr c ra) s = .next (illegal s c (s.seen c))) ∧
  (∀ (s : State) (c : Nat), s.issues c = true → (s.seen c).slot = none → (s.seen c).frames ≠ 1 → exec (.iRet c) s = .next (s.setCr c
      { s.seen c with slot := some { addr := (s.seen c).pc, target := (s.cr c).reg 23 % 65536 / 4 * 4, call := false, ret := true }, pc := ((s.seen c).pc + 4) % 65536 })) ∧
  (∀ (s : State) (c : Nat), s.issues c = true → (s.seen c).slot.isSome = true → exec (.iRet c) s = .next (illegal s c (s.seen c))) ∧
  (∀ (s : State) (c off : Nat), s.issues c = true → (s.seen c).slot = none → (s.seen c).frames = 15 → exec (.iCall c off) s = .next (windowTrap s c
      (s.seen c) 4 (s.seen c).pc)) ∧
  (∀ (s : State) (c ra : Nat), s.issues c = true → (s.seen c).slot = none → (s.seen c).frames = 15 → exec (.iCallr c ra) s = .next (windowTrap s c
      (s.seen c) 4 (s.seen c).pc)) ∧
  (∀ (s : State) (c : Nat), s.issues c = true → (s.seen c).slot = none → (s.seen c).frames = 1 → exec (.iRet c) s = .next (windowTrap s c (s.seen c) 5
      (s.seen c).pc)) ∧
  (∀ (k : Core) (d : Slot), k.rep = none → k.slot = some d → d.call = false → d.ret = false → k.finish = ({ k with pc := d.target, slot := none } :
      Core).stepped) ∧
  (∀ (k : Core) (d : Slot), k.rep = none → k.slot = some d → d.call = true → k.frames < 15 → k.finish =
      ({ k with pc := d.target, slot := none, base := (k.base + 16) % 248, frames := k.frames + 1, pend := k.pend ++ [{ left := 1, dest := .win ((k.base + 31) % 248), val := (d.addr + 8) % 2 ^ 32 }] }
      : Core).stepped) ∧
  (∀ (k : Core) (d : Slot), k.rep = none → k.slot = some d → d.call = false → d.ret = true → 1 < k.frames → k.finish =
      ({ k with pc := d.target, slot := none, base := (k.base + 232) % 248, frames := k.frames - 1 } : Core).stepped)

/-- LOOP and LOOPI set start, end and count of their level; a count of 0 passes on behind the end of the loop. LBRK clears the count. At the end
of an instruction at LEND of the highest active level the count goes down and PC goes back to LSTART, or falls through at 1. REP
captures RPT, skips the next instruction at 0 and takes the illegal-instruction trap before an instruction that cannot be repeated; an
iteration counts down. The command REP carries whether the next instruction may be repeated (log 62). MTC issues a write of the
control register, seen by the second instruction. As its conclusion exec answers a next state, under conditions on the state and the
operands alone, for each of the constructors: iLoop, iLoopi, iLbrk, iRep, iMtc. -/
def Obligations.CoreLoops : Prop :=
  (∀ (s : State) (c lvl ra len n : Nat) (k : Core), s.issues c = true → n = (s.seen c).reg ra % 65536 → n ≠ 0 → len < 4096 → 4 ∣ (s.seen c).pc → (s.seen
      c).slot = none → k =
      { s.seen c with lstart := tput (s.seen c).lstart lvl 0 (((s.seen c).pc + 4) % 65536), lend := tput (s.seen c).lend lvl 0 (((s.seen c).pc + 4 * len) % 65536), lcount := tput (s.seen c).lcount lvl 0 n }
      → exec (.iLoop c lvl ra len) s = .next (s.setCr c k.finish)) ∧
  (∀ (s : State) (c lvl ra len n : Nat) (k : Core), s.issues c = true → n = (s.seen c).reg ra % 65536 → n = 0 → len < 4096 → 4 ∣ (s.seen c).pc → (s.seen
      c).slot = none → k =
      { s.seen c with lstart := tput (s.seen c).lstart lvl 0 (((s.seen c).pc + 4) % 65536), lend := tput (s.seen c).lend lvl 0 (((s.seen c).pc + 4 * len) % 65536), lcount := tput (s.seen c).lcount lvl 0 n }
      → k.rep = none → exec (.iLoop c lvl ra len) s = .next (s.setCr c ({ k with pc := ((k.pc + 4 * len) % 65536 + 4) % 65536, slot := none } :
      Core).stepped)) ∧
  (∀ (s : State) (c lvl count len n : Nat) (k : Core), s.issues c = true → n = count → n ≠ 0 → count < 4096 → len < 4096 → 4 ∣ (s.seen c).pc → (s.seen
      c).slot = none → k =
      { s.seen c with lstart := tput (s.seen c).lstart lvl 0 (((s.seen c).pc + 4) % 65536), lend := tput (s.seen c).lend lvl 0 (((s.seen c).pc + 4 * len) % 65536), lcount := tput (s.seen c).lcount lvl 0 n }
      → exec (.iLoopi c lvl count len) s = .next (s.setCr c k.finish)) ∧
  (∀ (s : State) (c lvl count len n : Nat) (k : Core), s.issues c = true → n = count → n = 0 → count < 4096 → len < 4096 → 4 ∣ (s.seen c).pc → (s.seen
      c).slot = none → k =
      { s.seen c with lstart := tput (s.seen c).lstart lvl 0 (((s.seen c).pc + 4) % 65536), lend := tput (s.seen c).lend lvl 0 (((s.seen c).pc + 4 * len) % 65536), lcount := tput (s.seen c).lcount lvl 0 n }
      → k.rep = none → exec (.iLoopi c lvl count len) s = .next (s.setCr c ({ k with pc := ((k.pc + 4 * len) % 65536 + 4) % 65536, slot := none } :
      Core).stepped)) ∧
  (∀ (s : State) (c lvl : Nat), s.issues c = true → exec (.iLbrk c lvl) s = .next (s.setCr c ({ s.seen c with lcount := tput (s.seen c).lcount lvl 0 0 }
      : Core).finish)) ∧
  (∀ (k : Core) (l : Nat), k.rep = none → k.slot = none → k.level = some l → tget k.lend l 0 = k.pc → 1 < tget k.lcount l 0 → k.finish =
      ({ k with lcount := tput k.lcount l 0 (tget k.lcount l 0 - 1), pc := tget k.lstart l 0 } : Core).stepped) ∧
  (∀ (k : Core) (l : Nat), k.rep = none → k.slot = none → k.level = some l → tget k.lend l 0 = k.pc → tget k.lcount l 0 = 1 → k.finish =
      ({ k with lcount := tput k.lcount l 0 0, pc := (k.pc + 4) % 65536 } : Core).stepped) ∧
  (∀ (k : Core), k.rep = none → k.slot = none → (∀ l, k.level = some l → tget k.lend l 0 ≠ k.pc) → k.finish = ({ k with pc := (k.pc + 4) % 65536 } :
      Core).stepped) ∧
  (∀ (k : Core) (n : Nat), k.rep = some n → 1 < n → k.finish = { k with rep := some (n - 1) }) ∧
  (∀ (k : Core), k.rep = some 1 → k.finish = (({ k with rep := none } : Core).loopEnd k.pc).stepped) ∧
  (∀ (s : State) (c : Nat), s.issues c = true → exec (.iRep c false) s = .next (illegal s c (s.seen c))) ∧
  (∀ (s : State) (c : Nat), s.issues c = true → (s.seen c).slot.isSome = true → exec (.iRep c true) s = .next (illegal s c (s.seen c))) ∧
  (∀ (s : State) (c : Nat), s.issues c = true → (s.seen c).slot = none → (s.seen c).rpt ≠ 0 → exec (.iRep c true) s = .next (s.setCr c
      { (s.seen c).loopEnd (s.seen c).pc with rep := some (s.seen c).rpt })) ∧
  (∀ (s : State) (c : Nat) (k : Core), s.issues c = true → (s.seen c).slot = none → (s.seen c).rpt = 0 → k = (s.seen c).loopEnd (s.seen c).pc → exec
      (.iRep c true) s = .next (s.setCr c ({ k with pc := (k.pc + 4) % 65536 } : Core).stepped)) ∧
  (∀ (s : State) (c ra idx : Nat), s.issues c = true → idx ≠ 0x1C → idx ≠ 0x1D → exec (.iMtc c ra idx) s = .next (s.setCr c
      ({ s.seen c with pend := (s.seen c).pend ++ [{ left := 2, dest := .ctl idx, val := (s.seen c).reg ra }] } : Core).finish))

/-- A trap of cause v outside a handler, with a free frame, saves the address of the instruction (of the branch in a delay slot, of the next
instruction for SYS) in EPC, the cause in ECAUSE and the address or operand in EVAL, copies IE into PIE, clears IE, sets EXL, slides
the window and goes to VBASE + 16 v. With 15 frames it is the window-overflow trap; in a handler the core faults, which
CORESTAT.FAULTED and the interrupt of IRQ show. RETI undoes the entry. A core that a monitor debugs stops at BRK. The EVAL of an
illegal instruction is a free value (log 3). As its conclusion exec answers a next state, under conditions on the state and the
operands alone, for each of the constructors: iSys, iBrk, iIll, iReti. -/
def Obligations.CoreTraps : Prop :=
  (∀ (s : State) (c imm : Nat), s.issues c = true → (∀ p ∈ (s.seen c).pend, p.left ≤ 12) → (s.seen c).wt = false → (s.seen c).exl = false → (s.seen
      c).frames < 15 → (s.seen c).slot = none → (s.seen c).rep = none → c < 12 → Completes (exec (.iSys c imm) s) fun t => (t.cr c).epc = ((s.seen
      c).pc + 4) % 65536 ∧ (t.cr c).ecause = 7 ∧ (t.cr c).eval = imm ∧ (t.cr c).pie = (s.seen c).flush.ie ∧ (t.cr c).ie = false ∧ (t.cr c).exl = true
      ∧ (t.cr c).base = ((s.seen c).flush.base + 16) % 248 ∧ (t.cr c).frames = (s.seen c).flush.frames + 1 ∧ (t.cr c).pend = [] ∧ (t.cr c).pc =
      ((s.seen c).flush.vbase + 16 * 7) % 65536) ∧
  (∀ (s : State) (c imm : Nat), s.issues c = true → bitOf (s.get MON_STAT_DEBUG monPage) c = false → (∀ p ∈ (s.seen c).pend, p.left ≤ 12) → (s.seen c).wt
      = false → (s.seen c).exl = false → (s.seen c).frames < 15 → (s.seen c).slot = none → (s.seen c).rep = none → c < 12 → Completes (exec (.iBrk c
      imm) s) fun t => (t.cr c).epc = (s.seen c).pc ∧ (t.cr c).ecause = 8 ∧ (t.cr c).eval = imm ∧ (t.cr c).pie = (s.seen c).flush.ie ∧ (t.cr c).ie =
      false ∧ (t.cr c).exl = true ∧ (t.cr c).base = ((s.seen c).flush.base + 16) % 248 ∧ (t.cr c).frames = (s.seen c).flush.frames + 1 ∧ (t.cr c).pend
      = [] ∧ (t.cr c).pc = ((s.seen c).flush.vbase + 16 * 8) % 65536) ∧
  (∀ (s : State) (c : Nat), s.issues c = true → (∀ p ∈ (s.seen c).pend, p.left ≤ 12) → (s.seen c).wt = false → (s.seen c).exl = false → (s.seen c).frames
      < 15 → (s.seen c).slot = none → (s.seen c).rep = none → c < 12 → Completes (exec (.iIll c) s) fun t => (t.cr c).epc = (s.seen c).pc ∧ (t.cr
      c).ecause = 0 ∧ (t.cr c).pie = (s.seen c).flush.ie ∧ (t.cr c).ie = false ∧ (t.cr c).exl = true ∧ (t.cr c).base = ((s.seen c).flush.base + 16) %
      248 ∧ (t.cr c).frames = (s.seen c).flush.frames + 1 ∧ (t.cr c).pend = [] ∧ (t.cr c).pc = ((s.seen c).flush.vbase + 16 * 0) % 65536) ∧
  (∀ (s : State) (c imm : Nat), s.issues c = true → bitOf (s.get MON_STAT_DEBUG monPage) c = true → exec (.iBrk c imm) s = .next (((s.setCr c
      { s.seen c with held := true, steps := 0 }).wdgHold c).irq monPage 1)) ∧
  (∀ (s : State) (c : Nat) (k : Core) (d : Slot) (v ev : Nat) (n : Bool), k.wt = false → k.exl = false → k.frames < 15 → k.slot = some d → v < 256 →
      ((coreTrap s c k v ev n).cr c).epc = d.addr ∧ bitOf ((coreTrap s c k v ev n).cr c).ecause 8 = true) ∧
  (∀ (s : State) (c : Nat) (k : Core) (v ev : Nat) (n : Bool), (k.wt = true ∨ k.exl = true ∧ k.frames ≠ 15) → coreTrap s c k v ev n = coreFault s c k) ∧
  (∀ (s : State) (c : Nat) (k : Core), c < 12 → ((coreFault s c k).cr c).faulted = true ∧ bitOf ((coreFault s c k).get IRQ_CORESTAT_FAULTED irqPage) c =
      true ∧ (coreFault s c k).canIssue c = false) ∧
  (∀ (s : State) (c : Nat) (k : Core) (v ev : Nat) (n : Bool), k.wt = false → k.frames = 15 → coreTrap s c k v ev n = windowTrap s c k 4 k.here) ∧
  (∀ (s : State) (c v back : Nat) (k : Core), k.wt = false → (windowTrap s c k v back).cr c =
      { k.flush with wepc := back, wt := true, slot := none, rep := none, pc := (k.flush.vbase + 16 * v) % 65536 }) ∧
  (∀ (s : State) (c : Nat), s.issues c = true → (s.seen c).slot = none → (s.seen c).wt = true → exec (.iReti c) s = .next (s.setCr c
      ({ s.seen c with wt := false, pc := (s.seen c).wepc % 65536 / 4 * 4 } : Core).stepped)) ∧
  (∀ (s : State) (c : Nat), s.issues c = true → (s.seen c).slot = none → (s.seen c).wt = false → 1 < (s.seen c).frames → exec (.iReti c) s = .next
      (s.setCr c
      ({ s.seen c with ie := (s.seen c).pie, exl := false, pc := (s.seen c).epc % 65536 / 4 * 4, base := ((s.seen c).base + 232) % 248, frames := (s.seen c).frames - 1 }
      : Core).stepped)) ∧
  (∀ (s : State) (c : Nat), s.issues c = true → (s.seen c).slot = none → (s.seen c).wt = false → (s.seen c).frames = 1 → exec (.iReti c) s = .next
      (windowTrap s c (s.seen c) 5 (s.seen c).pc))

/-- A reserved encoding completes. Whatever its free values are, it alters no I-RAM, no shared SRAM, no rind, no code NVM, no EEPROM, no
mailbox, and of no other core a state, a D-RAM or a soft bit. As its conclusion exec answers a next state, under conditions on the
state and the operands alone, for the constructor: reservedEncoding. -/
def Obligations.CoreReservedEncodings : Prop :=
  (∀ (s : State) (c : Nat), Completes (exec (.reservedEncoding c) s) fun t => t.iram = s.iram ∧ t.sram = s.sram ∧ t.rind = s.rind ∧ t.cnvm = s.cnvm ∧
      t.eeprom = s.eeprom ∧ t.mbox = s.mbox ∧ t.soft = s.soft ∧ ∀ d, d ≠ c → t.cr d = s.cr d ∧ tget t.dram d [] = tget s.dram d [])

/-- An interrupt is taken when a pending line is enabled, IE is set, EXL and WT are clear and no result is pending: it saves PC in EPC and 16 +
line in ECAUSE and goes to that vector; with 15 frames the window overflow comes first. A clock without an issue lands results. HALT
stops issue and an enabled pending line ends it. Soft bits are set and cleared by writes of 1. A mailbox keeps its words in order; a
push to a full and a pop of an empty one set their flag and interrupt and are rejected. As its conclusion exec answers a next state,
under conditions on the state and the operands alone, for each of the constructors: interruptEntry, resultLanding, iHalt, haltResume,
irqSoftSet, irqSoftClr, mboxPush, mboxPop. -/
def Obligations.CoreEvents : Prop :=
  (∀ (s : State) (c l : Nat), s.lineUp c = some l → s.irqReady c = true → (s.cr c).pend = [] → (s.cr c).frames < 15 → c < 12 → Completes (exec
      (.interruptEntry c) s) fun t => (t.cr c).epc = (s.cr c).pc ∧ (t.cr c).ecause = 16 + l ∧ (t.cr c).pie = true ∧ (t.cr c).ie = false ∧ (t.cr c).exl
      = true ∧ (t.cr c).frames = (s.cr c).frames + 1 ∧ (t.cr c).base = ((s.cr c).base + 16) % 248 ∧ (t.cr c).pc = ((s.cr c).vbase + 16 * (16 + l)) %
      65536) ∧
  (∀ (s : State) (c l : Nat), s.lineUp c = some l → s.irqReady c = true → (s.cr c).pend = [] → (s.cr c).frames = 15 → exec (.interruptEntry c) s = .next
      (windowTrap s c (s.cr c) 4 (s.cr c).pc)) ∧
  (∀ (s : State) (c : Nat), ((s.cr c).halt && s.coreClocked c || s.irqReady c) = true → exec (.resultLanding c) s = .next (s.setCr c (s.cr c).tick)) ∧
  (∀ (s : State) (c : Nat), s.issues c = true → c ≠ 0 → exec (.iHalt c) s = .next (s.setCr c { (s.seen c).finish with halt := true })) ∧
  (∀ (s : State), s.issues 0 = true → (s.getDom 0).latched = none → exec (.iHalt 0) s = .next (s.setCr 0 { (s.seen 0).finish with halt := true })) ∧
  (∀ (s t : State) (o : Nat), s.issues 0 = true → (s.getDom 0).latched = some o → (s.getDom 0).phase = .stable → t = s.setCr 0
      { (s.seen 0).finish with halt := true } → exec (.iHalt 0) s = .next ((t.setDom 0 { s.getDom 0 with latched := none }).takeOrder 0 o true)) ∧
  (∀ (s : State) (c l : Nat), (s.cr c).halt = true → s.lineUp c = some l → s.coreClocked c = true → exec (.haltResume c) s = .next (s.setCr c
      { s.cr c with halt := false })) ∧
  (∀ (s : State) (m : Master) (c : Nat) (v : Word), s.takes irqPage (0x110 + 0x20 * c) v.toNat = true → exec (.irqSoftSet m c false v) s = .next
      { s.reached irqPage with soft := tput (s.reached irqPage).soft c 0 (tget (s.reached irqPage).soft c 0 ||| v.toNat) }) ∧
  (∀ (s : State) (m : Master) (c : Nat) (v : Word), s.takes irqPage (0x114 + 0x20 * c) v.toNat = true → exec (.irqSoftSet m c true v) s = .next
      { s.reached irqPage with soft := tput (s.reached irqPage).soft c 0 (tget (s.reached irqPage).soft c 0 ||| v.toNat * 2 ^ 32) }) ∧
  (∀ (s : State) (m : Master) (c i : Nat) (v : Word), s.takes irqPage (0x118 + 0x20 * c) v.toNat = true → i < 32 → Completes (exec (.irqSoftClr m c false
      v) s) fun t => bitOf (tget t.soft c 0) i = (bitOf (tget s.soft c 0) i && !v.getLsbD i) ∧ bitOf (tget t.soft c 0) (32 + i) = bitOf (tget s.soft c
      0) (32 + i)) ∧
  (∀ (s : State) (m : Master) (c i : Nat) (v : Word), s.takes irqPage (0x11C + 0x20 * c) v.toNat = true → i < 32 → Completes (exec (.irqSoftClr m c true
      v) s) fun t => bitOf (tget t.soft c 0) (32 + i) = (bitOf (tget s.soft c 0) (32 + i) && !v.getLsbD i) ∧ bitOf (tget t.soft c 0) i = bitOf (tget
      s.soft c 0) i) ∧
  (∀ (s : State) (m : Master) (b : Nat) (v : Word), s.takes mboxPage (0x104 + 16 * b) v.toNat = true → (tget s.mbox b []).length < 8 → Completes (exec
      (.mboxPush m b v) s) fun t => tget t.mbox b [] = tget s.mbox b [] ++ [v.toNat] ∧ t.get MBOX_STAT_COUNT mboxPage b = (tget s.mbox b []).length +
      1 ∧ t.resp.kind = .ok) ∧
  (∀ (s : State) (m : Master) (b : Nat) (v : Word), s.takes mboxPage (0x104 + 16 * b) v.toNat = true → 8 ≤ (tget s.mbox b []).length → b < 32 → Completes
      (exec (.mboxPush m b v) s) fun t => t.mbox = s.mbox ∧ t.flag MBOX_STAT_OVF mboxPage b = true ∧ bitOf (t.get H_IRQ_RAW mboxPage) b = true) ∧
  (∀ (s : State) (m : Master) (b w : Nat) (q : List Nat), s.clk.frozen = false → s.domOn 6 = true → tget s.mbox b [] = w :: q → q.length < 8 → Completes
      (exec (.mboxPop m b) s) fun t => tget t.mbox b [] = q ∧ t.get MBOX_STAT_COUNT mboxPage b = q.length ∧ t.resp.kind = .ok ∧ t.resp.data = w) ∧
  (∀ (s : State) (m : Master) (b : Nat), s.clk.frozen = false → s.domOn 6 = true → tget s.mbox b [] = [] → b < 32 → Completes (exec (.mboxPop m b) s) fun
      t => t.mbox = s.mbox ∧ t.resp.data = 0 ∧ t.flag MBOX_STAT_UNDF mboxPage b = true ∧ bitOf (t.get H_IRQ_RAW mboxPage) b = true)

/-- An IN or OUT of an aligned address of I/O space makes the access of the core; when it is answered, the read word goes to rd, seen by the
fourth instruction; INP and OUTP also add to the base. A misaligned address and an error response take the I/O-fault trap with the
address in EVAL. An access that has to wait freezes the core. As its conclusion exec answers a next state, under conditions on the
state and the operands alone, for each of the constructors: iIn, iInp, iOut, iOutp. -/
def Obligations.CoreBusAccess : Prop :=
  (∀ (s t : State) (c rd ra imm kind a : Nat) (ans : Word), s.issues c = true → a = ((s.seen c).word ra + immWord imm).toNat → 4 ∣ a → t = ioAccess
      (s.setCr c (s.seen c)) (Master.ofCode c) a none kind ans.toNat → t.cr c = s.seen c → t.resp.kind = .ok → exec (.iIn c rd ra imm kind ans) s =
      .next (t.setCr c ((s.seen c).ioDone rd ra none t.resp.data))) ∧
  (∀ (s t : State) (c rd ra imm kind a : Nat) (ans : Word), s.issues c = true → a = ((s.seen c).word ra + immWord imm).toNat → 4 ∣ a → t = ioAccess
      (s.setCr c (s.seen c)) (Master.ofCode c) a none kind ans.toNat → t.cr c = s.seen c → t.resp.kind ≠ .ok → t.resp.kind ≠ .none → exec (.iIn c rd
      ra imm kind ans) s = .next (coreTrap t c (s.seen c) 1 a)) ∧
  (∀ (s t : State) (c rd ra imm kind a : Nat) (ans : Word), s.issues c = true → a = ((s.seen c).word ra + immWord imm).toNat → 4 ∣ a → t = ioAccess
      (s.setCr c (s.seen c)) (Master.ofCode c) a none kind ans.toNat → t.cr c = s.seen c → t.resp.kind = .none → exec (.iIn c rd ra imm kind ans) s =
      .next { t with stall := tput t.stall c {} { tget t.stall c {} with io := some (rd, ra, none) } }) ∧
  (∀ (s : State) (c rd ra imm kind a : Nat) (ans : Word), s.issues c = true → a = ((s.seen c).word ra + immWord imm).toNat → ¬ 4 ∣ a → exec (.iIn c rd ra
      imm kind ans) s = .next (coreTrap s c (s.seen c) 1 a)) ∧
  (∀ (s t : State) (c rd ra imm kind a : Nat) (ans : Word), s.issues c = true → a = ((s.seen c).word ra).toNat → 4 ∣ a → t = ioAccess (s.setCr c (s.seen
      c)) (Master.ofCode c) a none kind ans.toNat → t.cr c = s.seen c → t.resp.kind = .ok → exec (.iInp c rd ra imm kind ans) s = .next (t.setCr c
      ((s.seen c).ioDone rd ra (some (immWord imm).toNat) t.resp.data))) ∧
  (∀ (s t : State) (c rd ra imm kind a : Nat) (ans : Word), s.issues c = true → a = ((s.seen c).word ra).toNat → 4 ∣ a → t = ioAccess (s.setCr c (s.seen
      c)) (Master.ofCode c) a none kind ans.toNat → t.cr c = s.seen c → t.resp.kind ≠ .ok → t.resp.kind ≠ .none → exec (.iInp c rd ra imm kind ans) s
      = .next (coreTrap t c (s.seen c) 1 a)) ∧
  (∀ (s t : State) (c rd ra imm kind a : Nat) (ans : Word), s.issues c = true → a = ((s.seen c).word ra).toNat → 4 ∣ a → t = ioAccess (s.setCr c (s.seen
      c)) (Master.ofCode c) a none kind ans.toNat → t.cr c = s.seen c → t.resp.kind = .none → exec (.iInp c rd ra imm kind ans) s = .next
      { t with stall := tput t.stall c {} { tget t.stall c {} with io := some (rd, ra, (some (immWord imm).toNat)) } }) ∧
  (∀ (s : State) (c rd ra imm kind a : Nat) (ans : Word), s.issues c = true → a = ((s.seen c).word ra).toNat → ¬ 4 ∣ a → exec (.iInp c rd ra imm kind
      ans) s = .next (coreTrap s c (s.seen c) 1 a)) ∧
  (∀ (s t : State) (c rs ra imm kind a : Nat), s.issues c = true → a = ((s.seen c).word ra + immWord imm).toNat → 4 ∣ a → t = ioAccess (s.setCr c (s.seen
      c)) (Master.ofCode c) a (some ((s.seen c).reg rs)) kind 0 → t.cr c = s.seen c → t.resp.kind = .ok → exec (.iOut c rs ra imm kind) s = .next
      (t.setCr c ((s.seen c).ioDone 0 ra none t.resp.data))) ∧
  (∀ (s t : State) (c rs ra imm kind a : Nat), s.issues c = true → a = ((s.seen c).word ra + immWord imm).toNat → 4 ∣ a → t = ioAccess (s.setCr c (s.seen
      c)) (Master.ofCode c) a (some ((s.seen c).reg rs)) kind 0 → t.cr c = s.seen c → t.resp.kind ≠ .ok → t.resp.kind ≠ .none → exec (.iOut c rs ra
      imm kind) s = .next (coreTrap t c (s.seen c) 1 a)) ∧
  (∀ (s t : State) (c rs ra imm kind a : Nat), s.issues c = true → a = ((s.seen c).word ra + immWord imm).toNat → 4 ∣ a → t = ioAccess (s.setCr c (s.seen
      c)) (Master.ofCode c) a (some ((s.seen c).reg rs)) kind 0 → t.cr c = s.seen c → t.resp.kind = .none → exec (.iOut c rs ra imm kind) s = .next
      { t with stall := tput t.stall c {} { tget t.stall c {} with io := some (0, ra, none) } }) ∧
  (∀ (s : State) (c rs ra imm kind a : Nat), s.issues c = true → a = ((s.seen c).word ra + immWord imm).toNat → ¬ 4 ∣ a → exec (.iOut c rs ra imm kind) s
      = .next (coreTrap s c (s.seen c) 1 a)) ∧
  (∀ (s t : State) (c rs ra imm kind a : Nat), s.issues c = true → a = ((s.seen c).word ra).toNat → 4 ∣ a → t = ioAccess (s.setCr c (s.seen c))
      (Master.ofCode c) a (some ((s.seen c).reg rs)) kind 0 → t.cr c = s.seen c → t.resp.kind = .ok → exec (.iOutp c rs ra imm kind) s = .next
      (t.setCr c ((s.seen c).ioDone 0 ra (some (immWord imm).toNat) t.resp.data))) ∧
  (∀ (s t : State) (c rs ra imm kind a : Nat), s.issues c = true → a = ((s.seen c).word ra).toNat → 4 ∣ a → t = ioAccess (s.setCr c (s.seen c))
      (Master.ofCode c) a (some ((s.seen c).reg rs)) kind 0 → t.cr c = s.seen c → t.resp.kind ≠ .ok → t.resp.kind ≠ .none → exec (.iOutp c rs ra imm
      kind) s = .next (coreTrap t c (s.seen c) 1 a)) ∧
  (∀ (s t : State) (c rs ra imm kind a : Nat), s.issues c = true → a = ((s.seen c).word ra).toNat → 4 ∣ a → t = ioAccess (s.setCr c (s.seen c))
      (Master.ofCode c) a (some ((s.seen c).reg rs)) kind 0 → t.cr c = s.seen c → t.resp.kind = .none → exec (.iOutp c rs ra imm kind) s = .next
      { t with stall := tput t.stall c {} { tget t.stall c {} with io := some (0, ra, (some (immWord imm).toNat)) } }) ∧
  (∀ (s : State) (c rs ra imm kind a : Nat), s.issues c = true → a = ((s.seen c).word ra).toNat → ¬ 4 ∣ a → exec (.iOutp c rs ra imm kind) s = .next
      (coreTrap s c (s.seen c) 1 a))

/-- WBUF takes a word and its first writer owns it; WCMD of the owner queues a write of bytes OFFSET to OFFSET + LEN - 1 of WBUF to the same
bytes of the page and frees the buffer; another master is rejected, and so is a write to a protected page, with PROT_ERR and IRQ 1.
WBUF_REL frees the buffer. A write starts when VBAT allows it and else waits; a direct write that has waited for LOWV_WAIT is dropped,
a command ends with result 5. PROT is queued. While the macro is busy a core freezes and others are answered busy. Presenting the
right password opens the partition to that master for that kind of access and clears the counts; a wrong one is queued as a try to be
written; during a lockout it is rejected. A change needs the opening and is queued. Closing ends the opening of that master. A lockout
ends with the count of tries at 0. As its conclusion exec answers a next state, under conditions on the state and the operands alone,
for each of the constructors: wbufWrite, protWrite, wcmd, wbufRel, pageWriteStart, lowvWaitExpiry, pwPresent, pwChange, pwClose,
lockoutEnd. -/
def Obligations.EepromCommands : Prop :=
  (∀ (s : State) (m : Master) (j : Nat) (v : Word), j < 16 → s.takes nvmPage (0x100 + 4 * j) v.toNat = true → s.wbufMine m = true → Completes (exec
      (.wbufWrite m j v) s) fun t => t.get NVM_WBUF nvmPage j = v.toNat ∧ t.get NVM_WSTAT_WOWNER nvmPage = m.code ∧ t.resp.kind = .ok) ∧
  (∀ (s : State) (m : Master) (j : Nat) (v : Word), j < 16 → s.takes nvmPage (0x100 + 4 * j) v.toNat = true → s.wbufMine m = false → exec (.wbufWrite m j
      v) s = .next ((s.reached nvmPage).reject nvmPage)) ∧
  (∀ (s : State) (m : Master) (j : Nat) (v : Word), s.macroBusy = true → 12 ≤ m.code → exec (.wbufWrite m j v) s = .next (s.answer .busy)) ∧
  (∀ (s : State) (m : Master) (bp : Nat), s.macroBusy = true → m.code < 12 → exec (.protWrite m bp) s = .next
      { s.answer .none with stall := tput s.stall m.code {} { page := nvmPage, off := 0x50, write := some bp, since := s.tb, nvm := true } }) ∧
  (∀ (s : State) (m : Master) (p off len : Nat), p < 2048 → off < 64 → len < 128 → s.takes nvmPage 0x48 (p + off * 2 ^ 16 + len * 2 ^ 24) = true →
      s.accepts nvmPage = true → s.wbufMine m = true → s.wcmdBlocked p m.code = false → exec (.wcmd m p off len) s = .next (nvQueue ((s.reached
      nvmPage).set NVM_WSTAT_WOWNER nvmPage 15) (.direct p off ((List.range len).map fun j => s.wbuf (off + j))))) ∧
  (∀ (s : State) (m : Master) (p off len : Nat), p < 2048 → off < 64 → len < 128 → s.takes nvmPage 0x48 (p + off * 2 ^ 16 + len * 2 ^ 24) = true →
      s.wbufMine m = false → exec (.wcmd m p off len) s = .next ((s.reached nvmPage).reject nvmPage)) ∧
  (∀ (s : State) (m : Master) (p off len : Nat), p < 2048 → off < 64 → len < 128 → s.takes nvmPage 0x48 (p + off * 2 ^ 16 + len * 2 ^ 24) = true →
      s.accepts nvmPage = true → s.wbufMine m = true → s.wcmdBlocked p m.code = true → Completes (exec (.wcmd m p off len) s) fun t => t.flag
      NVM_WSTAT_PROT_ERR nvmPage = true ∧ t.nvm = s.nvm ∧ t.eeprom = s.eeprom) ∧
  (∀ (s : State) (m : Master) (p off len : Nat), p < 2048 → off < 64 → len < 128 → s.takes nvmPage 0x48 (p + off * 2 ^ 16 + len * 2 ^ 24) = true →
      s.accepts nvmPage = false → exec (.wcmd m p off len) s = .next ((s.reached nvmPage).reject nvmPage)) ∧
  (∀ (s : State) (m : Master), s.takes nvmPage 0x4C 1 = true → s.wbufMine m = true → exec (.wbufRel m) s = .next ((s.reached nvmPage).set
      NVM_WSTAT_WOWNER nvmPage 15)) ∧
  (∀ (s : State) (m : Master), s.takes nvmPage 0x4C 1 = true → s.wbufMine m = false → exec (.wbufRel m) s = .next ((s.reached nvmPage).reject nvmPage)) ∧
  (∀ (s : State) (o : NvOp) (q : List NvOp) (w : NvWrite), s.domRuns 10 = true → s.nvm.queue = o :: q → s.nvm.run = none → s.nvm.result = none → nvPlan s
      (o.atTurn s) s.nvm.stage = some w → (6000 ≤ s.vbat ∨ o.waitsVbat = false) → Completes (exec .pageWriteStart s) fun t => t.nvm =
      { s.nvm with queue := o.atTurn s :: q, run := some w, start := s.tb, waitFrom := none } ∧ t.flag REC_BUSY_SHADOW_BUSY recPage = true ∧ t.eeprom
      = s.eeprom) ∧
  (∀ (s : State) (o : NvOp) (q : List NvOp) (w : NvWrite), s.domRuns 10 = true → s.nvm.queue = o :: q → s.nvm.run = none → s.nvm.result = none → nvPlan s
      (o.atTurn s) s.nvm.stage = some w → s.vbat < 6000 → o.waitsVbat = true → exec .pageWriteStart s = .next (s.upNvm fun x =>
      { x with waitFrom := some (x.waitFrom.getD s.tb) })) ∧
  (∀ (s : State) (t p off : Nat) (d : List Byte) (q : List NvOp), s.nvm.waitFrom = some t → s.domOn 10 = true → s.vbat < 6000 → t + s.get
      NVM_CFG_LOWV_WAIT nvmPage * 1000000 ≤ s.tb → s.nvm.queue = .direct p off d :: q → Completes (exec .lowvWaitExpiry s) fun z => z.nvm.queue = q ∧
      z.flag NVM_WSTAT_LOWV nvmPage = true ∧ z.eeprom = s.eeprom) ∧
  (∀ (s : State) (t : Nat) (r : RecCmd) (q : List NvOp), s.nvm.waitFrom = some t → s.domOn 10 = true → s.vbat < 6000 → t + s.get NVM_CFG_LOWV_WAIT
      nvmPage * 1000000 ≤ s.tb → s.nvm.queue = .cmd r :: q → exec .lowvWaitExpiry s = .next (s.upNvm fun x =>
      { x with result := some 5, waitFrom := none })) ∧
  (∀ (s : State) (m : Master) (bp : Nat), bp < 4096 → s.takes nvmPage 0x50 bp = true → s.flag H_LOCKSTAT_UNLOCKED nvmPage = true → s.accepts nvmPage =
      true → exec (.protWrite m bp) s = .next (nvQueue (s.reached nvmPage) (.prot bp))) ∧
  (∀ (s : State) (m : Master) (bp : Nat), bp < 4096 → s.takes nvmPage 0x50 bp = true → s.flag H_LOCKSTAT_UNLOCKED nvmPage = true → s.accepts nvmPage =
      false → exec (.protWrite m bp) s = .next ((s.reached nvmPage).reject nvmPage)) ∧
  (∀ (s : State) (m : Master) (bp : Nat), bp < 4096 → s.takes nvmPage 0x50 bp = true → s.flag H_LOCKSTAT_UNLOCKED nvmPage = false → exec (.protWrite m
      bp) s = .next (s.reached nvmPage)) ∧
  (∀ (s : State) (m : Master) (part : Nat) (k : Bool), (part = 6 ∨ part = 7) → s.takes nvmPage 0x5C (part + 16 * b2n k + 256) = true → s.accepts nvmPage
      = true → (s.pwPart part).lockEnd = none → ((if k then (s.pwPart part).wr else (s.pwPart part).rd) = s.nvm.pwLo + 2 ^ 32 * s.nvm.pwHi) →
      Completes (exec (.pwPresent m part k) s) fun t => t.pwOpen part (b2n k) m.code = true ∧ (t.pwPart part).tries = 0 ∧ (t.pwPart part).lockouts = 0) ∧
  (∀ (s : State) (m : Master) (part : Nat) (k : Bool) (e : Nat), (part = 6 ∨ part = 7) → s.takes nvmPage 0x5C (part + 16 * b2n k + 256) = true →
      s.accepts nvmPage = true → (s.pwPart part).lockEnd = some e → e ≤ s.tb → ((if k then (s.pwPart part).wr else (s.pwPart part).rd) = s.nvm.pwLo +
      2 ^ 32 * s.nvm.pwHi) → Completes (exec (.pwPresent m part k) s) fun t => t.pwOpen part (b2n k) m.code = true ∧ (t.pwPart part).tries = 0 ∧
      (t.pwPart part).lockouts = 0 ∧ (t.pwPart part).lockEnd = none) ∧
  (∀ (s : State) (m : Master) (part : Nat) (k : Bool), (part = 6 ∨ part = 7) → s.takes nvmPage 0x5C (part + 16 * b2n k + 256) = true → s.accepts nvmPage
      = true → (s.pwPart part).lockEnd = none → ((if k then (s.pwPart part).wr else (s.pwPart part).rd) ≠ s.nvm.pwLo + 2 ^ 32 * s.nvm.pwHi) → exec
      (.pwPresent m part k) s = .next (nvQueue (s.reached nvmPage) (.tries part))) ∧
  (∀ (s : State) (m : Master) (part : Nat) (k : Bool) (e : Nat), (part = 6 ∨ part = 7) → s.takes nvmPage 0x5C (part + 16 * b2n k + 256) = true →
      (s.pwPart part).lockEnd = some e → s.tb < e → exec (.pwPresent m part k) s = .next ((s.reached nvmPage).reject nvmPage)) ∧
  (∀ (s : State) (m : Master) (part : Nat) (k : Bool), (part = 6 ∨ part = 7) → s.takes nvmPage 0x5C (part + 16 * b2n k + 256) = true → s.accepts nvmPage
      = false → exec (.pwPresent m part k) s = .next ((s.reached nvmPage).reject nvmPage)) ∧
  (∀ (s : State) (m : Master) (part : Nat) (k : Bool), (part = 6 ∨ part = 7) → s.takes nvmPage 0x5C (part + 16 * b2n k + 512) = true → s.accepts nvmPage
      = true → s.pwOpen part (b2n k) m.code = true → exec (.pwChange m part k) s = .next (nvQueue (s.reached nvmPage) (.pass part (b2n k) (s.nvm.pwLo
      + 2 ^ 32 * s.nvm.pwHi)))) ∧
  (∀ (s : State) (m : Master) (part : Nat) (k : Bool), (part = 6 ∨ part = 7) → s.takes nvmPage 0x5C (part + 16 * b2n k + 512) = true → (s.pwOpen part
      (b2n k) m.code = false ∨ s.accepts nvmPage = false) → exec (.pwChange m part k) s = .next ((s.reached nvmPage).reject nvmPage)) ∧
  (∀ (s : State) (m : Master) (part : Nat) (k : Bool), (part = 6 ∨ part = 7) → s.takes nvmPage 0x5C (part + 16 * b2n k + 768) = true → Completes (exec
      (.pwClose m part k) s) fun t => t.pwOpen part (b2n k) m.code = false ∧ ∀ p r c, (p, r, c) ≠ (part, b2n k, m.code) → t.pwOpen p r c = s.pwOpen p
      r c) ∧
  (∀ (s : State) (part t : Nat), (s.pwPart part).lockEnd = some t → t ≤ s.tb → exec (.lockoutEnd part) s = .next (s.upPw part fun x =>
      { x with lockEnd := none, tries := 0 }))

/-- When a page write completes with PD_PSV on and no access waiting, byte j of its data stands at byte OFFSET + j, modulo 64, of its page,
every other byte of the EEPROM is as before, the macro is idle, and a direct write leaves the queue with IRQ 0. As its conclusion exec
answers a next state, under conditions on the state and the operands alone, for the constructor: pageWriteComplete. -/
def Obligations.EepromPageWrite : Prop :=
  (∀ (s : State) (w : NvWrite) (q : List NvOp), s.nvm.run = some w → s.nvm.queue = .direct w.page w.off w.data :: q → s.domOn 10 = true → s.stall = [] →
      s.nvm.stage = 0 → w.data.length ≤ 64 → Completes (exec .pageWriteComplete s) fun t => (∀ j < w.data.length, mget t.eeprom 0xFF (64 * w.page +
      (w.off + j) % 64) = w.data.getD j 0) ∧ (∀ a, (∀ j < w.data.length, a ≠ 64 * w.page + (w.off + j) % 64) → mget t.eeprom 0xFF a = mget s.eeprom
      0xFF a) ∧ t.nvm.run = none ∧ t.nvm.queue = q ∧ bitOf (t.get H_IRQ_RAW nvmPage) 0 = true) ∧
  (∀ (s : State) (w : NvWrite) (q : List NvOp) (i : Nat), s.nvm.run = some w → s.nvm.queue = .direct w.page w.off w.data :: q → s.domOn 10 = true →
      s.stall = [] → s.nvm.stage = 0 → w.data.length ≤ 64 → (∃ j, j < w.data.length ∧ i = (64 * w.page + (w.off + j) % 64) / 4) → Completes (exec
      .pageWriteComplete s) fun t => t.eeUe i = false)

/-- CMD.OP of an idle block of the enabled engine is queued with its arguments and makes the block busy; a write to a busy block or with EN 0 is
rejected. A command at its turn whose writes are done ends: BUSY off, DONE and its RESULT set and the IRQ of its block raised. A page
pair that overlaps ends with result 4 and a read of an absent record with 1. A due margin read queues a refresh of each weak word and
the step of its counter; the end of a refresh counts with IRQ 6. As its conclusion exec answers a next state, under conditions on the
state and the operands alone, for each of the constructors: recRead, recWrite, cntRead, cntInc, cntRaise, cntClear, recErase,
recCommandDone, skimMarginRead, skimRefresh. -/
def Obligations.RecordEngineCommands : Prop :=
  (∀ (s : State) (m : Master) (k : Nat), s.takes recPage (0x100 + 0x80 * k) 1 = true → s.flag REC_STAT_BUSY recPage k = false → s.accepts recPage = true
      → exec (.recRead m k) s = .next (nvQueue ((s.reached recPage).put REC_STAT_BUSY recPage true k) (.cmd ⟨k, 1, m.code, s.get REC_ARG_PAGE_A
      recPage k, s.get REC_ARG_PAGE_B recPage k, s.get REC_LEN recPage k, s.get REC_RAISE recPage k, s.recData k, s.tb⟩))) ∧
  (∀ (s : State) (m : Master) (k : Nat), s.takes recPage (0x100 + 0x80 * k) 1 = true → (s.flag REC_STAT_BUSY recPage k = true ∨ s.accepts recPage =
      false) → exec (.recRead m k) s = .next ((s.reached recPage).reject recPage)) ∧
  (∀ (s : State) (m : Master) (k : Nat), s.takes recPage (0x100 + 0x80 * k) 2 = true → s.flag REC_STAT_BUSY recPage k = false → s.accepts recPage = true
      → exec (.recWrite m k) s = .next (nvQueue ((s.reached recPage).put REC_STAT_BUSY recPage true k) (.cmd ⟨k, 2, m.code, s.get REC_ARG_PAGE_A
      recPage k, s.get REC_ARG_PAGE_B recPage k, s.get REC_LEN recPage k, s.get REC_RAISE recPage k, s.recData k, s.tb⟩))) ∧
  (∀ (s : State) (m : Master) (k : Nat), s.takes recPage (0x100 + 0x80 * k) 2 = true → (s.flag REC_STAT_BUSY recPage k = true ∨ s.accepts recPage =
      false) → exec (.recWrite m k) s = .next ((s.reached recPage).reject recPage)) ∧
  (∀ (s : State) (m : Master) (k : Nat), s.takes recPage (0x100 + 0x80 * k) 3 = true → s.flag REC_STAT_BUSY recPage k = false → s.accepts recPage = true
      → exec (.cntRead m k) s = .next (nvQueue ((s.reached recPage).put REC_STAT_BUSY recPage true k) (.cmd ⟨k, 3, m.code, s.get REC_ARG_PAGE_A
      recPage k, s.get REC_ARG_PAGE_B recPage k, s.get REC_LEN recPage k, s.get REC_RAISE recPage k, s.recData k, s.tb⟩))) ∧
  (∀ (s : State) (m : Master) (k : Nat), s.takes recPage (0x100 + 0x80 * k) 3 = true → (s.flag REC_STAT_BUSY recPage k = true ∨ s.accepts recPage =
      false) → exec (.cntRead m k) s = .next ((s.reached recPage).reject recPage)) ∧
  (∀ (s : State) (m : Master) (k : Nat), s.takes recPage (0x100 + 0x80 * k) 4 = true → s.flag REC_STAT_BUSY recPage k = false → s.accepts recPage = true
      → exec (.cntInc m k) s = .next (nvQueue ((s.reached recPage).put REC_STAT_BUSY recPage true k) (.cmd ⟨k, 4, m.code, s.get REC_ARG_PAGE_A recPage
      k, s.get REC_ARG_PAGE_B recPage k, s.get REC_LEN recPage k, s.get REC_RAISE recPage k, s.recData k, s.tb⟩))) ∧
  (∀ (s : State) (m : Master) (k : Nat), s.takes recPage (0x100 + 0x80 * k) 4 = true → (s.flag REC_STAT_BUSY recPage k = true ∨ s.accepts recPage =
      false) → exec (.cntInc m k) s = .next ((s.reached recPage).reject recPage)) ∧
  (∀ (s : State) (m : Master) (k : Nat), s.takes recPage (0x100 + 0x80 * k) 5 = true → s.flag REC_STAT_BUSY recPage k = false → s.accepts recPage = true
      → exec (.cntRaise m k) s = .next (nvQueue ((s.reached recPage).put REC_STAT_BUSY recPage true k) (.cmd ⟨k, 5, m.code, s.get REC_ARG_PAGE_A
      recPage k, s.get REC_ARG_PAGE_B recPage k, s.get REC_LEN recPage k, s.get REC_RAISE recPage k, s.recData k, s.tb⟩))) ∧
  (∀ (s : State) (m : Master) (k : Nat), s.takes recPage (0x100 + 0x80 * k) 5 = true → (s.flag REC_STAT_BUSY recPage k = true ∨ s.accepts recPage =
      false) → exec (.cntRaise m k) s = .next ((s.reached recPage).reject recPage)) ∧
  (∀ (s : State) (m : Master) (k : Nat), s.takes recPage (0x100 + 0x80 * k) 6 = true → s.flag REC_STAT_BUSY recPage k = false → s.accepts recPage = true
      → exec (.cntClear m k) s = .next (nvQueue ((s.reached recPage).put REC_STAT_BUSY recPage true k) (.cmd ⟨k, 6, m.code, s.get REC_ARG_PAGE_A
      recPage k, s.get REC_ARG_PAGE_B recPage k, s.get REC_LEN recPage k, s.get REC_RAISE recPage k, s.recData k, s.tb⟩))) ∧
  (∀ (s : State) (m : Master) (k : Nat), s.takes recPage (0x100 + 0x80 * k) 6 = true → (s.flag REC_STAT_BUSY recPage k = true ∨ s.accepts recPage =
      false) → exec (.cntClear m k) s = .next ((s.reached recPage).reject recPage)) ∧
  (∀ (s : State) (m : Master) (k : Nat), s.takes recPage (0x100 + 0x80 * k) 7 = true → s.flag REC_STAT_BUSY recPage k = false → s.accepts recPage = true
      → exec (.recErase m k) s = .next (nvQueue ((s.reached recPage).put REC_STAT_BUSY recPage true k) (.cmd ⟨k, 7, m.code, s.get REC_ARG_PAGE_A
      recPage k, s.get REC_ARG_PAGE_B recPage k, s.get REC_LEN recPage k, s.get REC_RAISE recPage k, s.recData k, s.tb⟩))) ∧
  (∀ (s : State) (m : Master) (k : Nat), s.takes recPage (0x100 + 0x80 * k) 7 = true → (s.flag REC_STAT_BUSY recPage k = true ∨ s.accepts recPage =
      false) → exec (.recErase m k) s = .next ((s.reached recPage).reject recPage)) ∧
  (∀ (s : State) (r : RecCmd) (q : List NvOp) (e : Nat), s.domOn 10 = true → s.nvm.queue = .cmd r :: q → s.nvm.run = none → r.k < 4 → s.nvm.result = none
      → s.nvm.stage = 0 → recError s r = some e → e < 8 → Completes (exec (.recCommandDone r.k) s) fun t => t.flag REC_STAT_BUSY recPage r.k = false ∧
      t.flag REC_STAT_DONE recPage r.k = true ∧ t.get REC_STAT_RESULT recPage r.k = e ∧ t.nvm.queue = q ∧ bitOf (t.get H_IRQ_RAW recPage) r.k = true ∧
      t.eeprom = s.eeprom) ∧
  (∀ (s : State) (r : RecCmd) (q : List NvOp), s.domOn 10 = true → s.nvm.queue = .cmd r :: q → s.nvm.run = none → r.k < 4 → s.nvm.result = none →
      s.nvm.stage = 0 → recError s r = none → r.op = 1 → s.recSlot r.a r.b = none → Completes (exec (.recCommandDone r.k) s) fun t => t.flag
      REC_STAT_BUSY recPage r.k = false ∧ t.flag REC_STAT_DONE recPage r.k = true ∧ t.get REC_STAT_RESULT recPage r.k = 1 ∧ t.nvm.queue = q ∧ bitOf
      (t.get H_IRQ_RAW recPage) r.k = true ∧ t.eeprom = s.eeprom) ∧
  (∀ (s : State) (r : RecCmd) (q : List NvOp) (e : Nat), s.domOn 10 = true → s.nvm.queue = .cmd r :: q → s.nvm.run = none → r.k < 4 → s.nvm.result = some
      e → e < 8 → Completes (exec (.recCommandDone r.k) s) fun t => t.flag REC_STAT_BUSY recPage r.k = false ∧ t.flag REC_STAT_DONE recPage r.k = true
      ∧ t.get REC_STAT_RESULT recPage r.k = e ∧ t.nvm.queue = q ∧ bitOf (t.get H_IRQ_RAW recPage) r.k = true) ∧
  (∀ (s : State) (weak ue : List Nat) (corr : Nat), s.domOn 10 = true → s.flag NVM_CFG_SKIM_EN nvmPage = true → s.skimDue = true → s.nvm.queue = [] →
      exec (.skimMarginRead weak ue corr) s = .next (skimRead s weak ue corr)) ∧
  (∀ (s : State), s.domOn 10 = true → s.flag NVM_CFG_SKIM_EN nvmPage = true → s.skimDue = true → s.nvm.queue = [] → s.nvm.run = none → s.nvm.stage = 0 →
      s.nvm.result = none → (((List.range 16).all fun w => !s.eeFixed (16 * (s.cntValue 1794 % 2048) + w)) = true) → s.cntValue 1794 < 0xFFFFFF →
      Completes (exec (.skimMarginRead [] [] 0) s) fun t => t.nvm.queue = [.skimInc] ∧ t.nvm.skimFrom = some s.tb ∧ t.nvm.skimLeft = 1265625000000) ∧
  (∀ (s : State), s.domOn 10 = true → s.flag NVM_CFG_SKIM_EN nvmPage = true → s.skimDue = true → s.nvm.queue = [] → s.nvm.run = none → s.nvm.stage = 0 →
      s.nvm.result = none → (((List.range 16).all fun w => !s.eeFixed (16 * (s.cntValue 1794 % 2048) + w)) = true) → s.cntValue 1794 = 0xFFFFFF →
      Completes (exec (.skimMarginRead [] [] 0) s) fun t => t.nvm.queue = [] ∧ t.nvm.skimFrom = some s.tb ∧ t.nvm.skimLeft = 1265625000000) ∧
  (∀ (s : State) (w p : Nat), s.domOn 10 = true → s.flag NVM_CFG_SKIM_EN nvmPage = true → s.skimDue = true → s.nvm.queue = [] → s.nvm.run = none →
      s.nvm.stage = 0 → s.nvm.result = none → (((List.range 16).all fun w => !s.eeFixed (16 * (s.cntValue 1794 % 2048) + w)) = true) → s.cntValue 1794
      < 0xFFFFFF → w < 16 → p = s.cntValue 1794 % 2048 → s.eeUe (16 * p + w) = false → Completes (exec (.skimMarginRead [w] [] 0) s) fun t =>
      t.nvm.queue = [.refresh p w (s.eeWord (16 * p + w)), .skimInc]) ∧
  (∀ (s : State) (p w v x : Nat) (q : List NvOp), s.nvm.queue = .refresh p w v :: q → s.nvm.result = some x → exec .skimRefresh s = .next (((nvPop
      s).bump REC_SKIM_REFRESHED recPage).irq recPage 6 |>.logDev 36))

/-- CHG.CMD of the HK: TRIAL_NEXT makes a STAGED inactive slot TRIAL; HOLD_ALL makes it TRYING and active and holds the pages; SWITCH flips
IBANK and goes on at CHG_ENTRY; RELEASE_ALL releases the pages and opens the health window; HEALTH_OK commits the slot; RESTART
restarts the cores. Another master's write has no effect. RELOAD of a core stops it until its start. READY bits only set, with IRQ 2.
A hold of 150 ms and a health window of 5 s end in a core restart. As its conclusion exec answers a next state, under conditions on
the state and the operands alone, for each of the constructors: chgTrialNext, chgHoldAll, chgSwitch, chgReleaseAll, chgHealthOk,
chgRestart, chgReload, chgReady, chgHoldExpiry, healthWindowExpiry. -/
def Obligations.ChangeoverCommands : Prop :=
  (∀ (s z : State) (k : Nat), s.takes cnvmPage 0x60 1 = true → z = s.reached cnvmPage → z.inactive = some k → z.slotState k = 1 → z.chg = 0 → z.accepts
      cnvmPage = true → Completes (exec (.chgTrialNext .hk) s) fun t => t.slotState k = 2 ∧ t.slotGen k = s.slotGen k ∧ t.chg = 0) ∧
  (∀ (s z : State) (k : Nat), s.takes cnvmPage 0x60 2 = true → z = s.reached cnvmPage → z.inactive = some k → z.slotState k = 1 → z.chg = 0 → z.accepts
      cnvmPage = true → Completes (exec (.chgHoldAll .hk) s) fun t => t.slotState k = 3 ∧ t.boot.active = some k ∧ t.boot.trying = true ∧
      t.boot.holdFrom = s.tb ∧ t.chg = 1 ∧ ∀ p ∈ z.holdPages, t.flag H_CTRL_HOLD p = true ∧ t.flag H_STAT_HELD p = true) ∧
  (∀ (s z : State) (k : Nat) (x : Component), s.takes cnvmPage 0x60 3 = true → z = s.reached cnvmPage → z.chg = 1 → z.boot.active = some k → z.coreComp k
      0 = some x → Completes (exec (.chgSwitch .hk) s) fun t => t.chg = 2 ∧ (t.cr 0).ibank = 1 - (s.cr 0).ibank ∧ (t.cr 0).pc = x.chgEntry % 65536 / 4
      * 4 ∧ (t.cr 0).slot = none ∧ (t.cr 0).rep = none ∧ (t.cr 0).win = (s.cr 0).flush.win ∧ (t.cr 0).glob = (s.cr 0).flush.glob) ∧
  (∀ (s z : State), s.takes cnvmPage 0x60 4 = true → z = s.reached cnvmPage → (z.chg = 1 ∨ z.chg = 2) → Completes (exec (.chgReleaseAll .hk) s) fun t =>
      t.chg = 3 ∧ t.boot.held = [] ∧ t.boot.healthFrom = s.tb) ∧
  (∀ (s z : State) (k : Nat), s.takes cnvmPage 0x60 5 = true → z = s.reached cnvmPage → z.chg = 3 → z.boot.active = some k → z.tb ≤ z.boot.healthFrom +
      5000000000 → Completes (exec (.chgHealthOk .hk) s) fun t => t.chg = 0 ∧ t.slotState k = 4 ∧ t.boot.trying = false ∧ bitOf (t.get H_IRQ_RAW
      cnvmPage) 4 = true) ∧
  (∀ (s z : State), s.takes cnvmPage 0x60 5 = true → z = s.reached cnvmPage → z.boot.healthFrom + 5000000000 < z.tb → exec (.chgHealthOk .hk) s = .next z) ∧
  (∀ (s z : State), s.takes cnvmPage 0x60 6 = true → z = s.reached cnvmPage → exec (.chgRestart .hk) s = .next (coreRestart z 5)) ∧
  (∀ (s : State) (m : Master), s.takes cnvmPage 0x60 1 = true → m ≠ .hk → exec (.chgTrialNext m) s = .next (s.reached cnvmPage)) ∧
  (∀ (s : State) (m : Master), s.takes cnvmPage 0x60 5 = true → m ≠ .hk → exec (.chgHealthOk m) s = .next (s.reached cnvmPage)) ∧
  (∀ (s : State) (c : Nat), s.takes cnvmPage 0x64 (2 ^ c) = true → 0 < c → c < 12 → Completes (exec (.chgReload .hk (2 ^ c)) s) fun t =>
      t.boot.start.contains c = true ∧ (t.cr c).run = false ∧ bitOf (t.get CNVM_CHG_READY cnvmPage) (c - 1) = false ∧ ∀ d, d ≠ c → t.cr d = s.cr d) ∧
  (∀ (s z : State) (m : Master) (v old : Nat), s.takes cnvmPage 0x68 v = true → z = s.reached cnvmPage → old = z.get CNVM_CHG_READY cnvmPage → old < 2 ^
      11 → Completes (exec (.chgReady m v) s) fun t => t.get CNVM_CHG_READY cnvmPage = old ||| bitsOf v 1 11 ∧ (old ≠ old ||| bitsOf v 1 11 → bitOf
      (t.get H_IRQ_RAW cnvmPage) 2 = true)) ∧
  (∀ (s : State), (s.chg = 1 ∨ s.chg = 2) → s.boot.holdFrom + 150000000 ≤ s.tb → exec .chgHoldExpiry s = .next (coreRestart (((releaseHeld s).put
      CNVM_CHG_STAT_HOLD_EXPIRED cnvmPage true).irq cnvmPage 3) 5)) ∧
  (∀ (s : State), s.chg = 3 → s.boot.healthFrom + 5000000000 < s.tb → s.boot.due = false → exec .healthWindowExpiry s = .next (coreRestart s 5)) ∧
  (∀ (s : State) (n : Nat), n < 8 → (coreRestart s n).boot.due = true ∧ (∀ c, c < 12 → ((coreRestart s n).cr c).run = false) ∧ (coreRestart s n).get
      SUP_STAT_LAST_RESET supPage = n ∧ (coreRestart s n).chan = s.chan ∧ (coreRestart s n).gate = s.gate ∧ (coreRestart s n).dom = s.dom)

/-- A start of the HK that is due waits for PD_MEM and PD_PSV; then the ROM runs. With no slot that can be tried it stays in recovery with no
active image and no core is started by it. A core that waits for its reload, other than the HK, is loaded from the active slot once
its domain and PD_MEM are on and starts at its entry with reset registers; PD_MEM is powered up first. UPD.CMD START of the host or
the HK from IDLE, STAGED or FAILED empties the slot's status block and receives; while a slot is on trial or a changeover runs it is
rejected; another master's is without effect. Quarters of a block are kept until the fourth, when the block is checked; a write that
does not fit is refused. A programmed block leaves its buffer. FINISH verifies when every block has arrived and else fails with
MISSING; the digests stage the slot or fail; ABORT empties it. As its conclusion exec answers a next state, under conditions on the
state and the operands alone, for each of the constructors: hkRomBoot, coreReload, updStart, updFinish, updAbort, imageQuarterWrite,
imageBlockProgrammed, digestVerifyComplete. -/
def Obligations.BootAndUpdateCommands : Prop :=
  (∀ (s : State), s.boot.due = true → s.clocksRun = true → s.domOn 0 = true → s.romReady = true → (∀ k < 2, s.slotState k ≠ 2 ∧ s.slotState k ≠ 3 ∧
      s.slotState k ≠ 4) → Completes (exec .hkRomBoot s) fun t => t.flag CNVM_BOOT_RECOVERY cnvmPage = true ∧ t.boot.active = none ∧ t.boot.due =
      false ∧ ∀ c, t.cr c = s.cr c) ∧
  (∀ (s : State), s.boot.due = true → s.clocksRun = true → s.domOn 0 = true → s.romReady = true → exec .hkRomBoot s = .next (romBoot s)) ∧
  (∀ (s : State), s.boot.due = true → s.clocksRun = true → s.domOn 0 = true → s.romReady = false → exec .hkRomBoot s = .next ((((s.need 6).hwPowerUp
      6).need 10).hwPowerUp 10)) ∧
  (∀ (s : State) (c k n : Nat), s.boot.active = some k → s.boot.start.contains c = true → c ≠ 0 → s.boot.due = false → s.clocksRun = true → targetDomain
      c = some n → s.domOn n = true → s.domOn 6 = false → exec (.coreReload c) s = .next ((s.need 6).hwPowerUp 6)) ∧
  (∀ (s : State) (c k n : Nat) (x : Component), s.boot.active = some k → s.boot.start.contains c = true → c ≠ 0 → s.boot.due = false → s.clocksRun = true
      → targetDomain c = some n → s.domOn n = true → s.domOn 6 = true → s.coreComp k c = some x → s.compBlocksOk k x = true → Completes (exec
      (.coreReload c) s) fun t => t.cr c = { run := true, pc := x.entry % 65536 / 4 * 4 } ∧ t.get IRQ_EN_LO irqPage c = 0 ∧ t.get IRQ_EN_HI irqPage c
      = 0 ∧ t.boot.start.contains c = false ∧ tget t.dram c [] = mputBytes [] 0 0 (mgetBytes s.cnvm 0xFF (slotBase k + x.off + x.ilen) x.dlen) ∧ ∀ d,
      d ≠ c → t.cr d = s.cr d) ∧
  (∀ (s z : State) (m : Master) (slot : Bool), s.takes cnvmPage 0x50 (1 + 256 * b2n slot) = true → (m = .hk ∨ m.code = 12) → (z = if s.flag
      CNVM_BOOT_RECOVERY cnvmPage then (s.reached cnvmPage).set CNVM_UPD_SLOT cnvmPage (b2n slot) else s.reached cnvmPage) → z.accepts cnvmPage = true
      → z.onTrial = false → z.changing = false → (z.updState = 0 ∨ z.updState = 4 ∨ z.updState = 5) → Completes (exec (.updStart m slot) s) fun t =>
      t.updState = 1 ∧ t.get CNVM_UPD_STAT_ERR cnvmPage = 0 ∧ t.get CNVM_UPD_STAT_RECEIVED cnvmPage = 0 ∧ t.boot.got = [] ∧ t.boot.bufs = [] ∧
      t.slotState z.updSlot = 0) ∧
  (∀ (s z : State) (m : Master) (slot : Bool), s.takes cnvmPage 0x50 (1 + 256 * b2n slot) = true → (m = .hk ∨ m.code = 12) → (z = if s.flag
      CNVM_BOOT_RECOVERY cnvmPage then (s.reached cnvmPage).set CNVM_UPD_SLOT cnvmPage (b2n slot) else s.reached cnvmPage) → (z.onTrial = true ∨
      z.changing = true ∨ z.accepts cnvmPage = false) → exec (.updStart m slot) s = .next (z.reject cnvmPage)) ∧
  (∀ (s : State) (m : Master) (slot : Bool), s.takes cnvmPage 0x50 (1 + 256 * b2n slot) = true → m ≠ .hk → m.code ≠ 12 → s.flag CNVM_BOOT_RECOVERY
      cnvmPage = false → exec (.updStart m slot) s = .next (s.reached cnvmPage)) ∧
  (∀ (s z : State) (m : Master) (slot : Bool), s.takes cnvmPage 0x50 (2 + 256 * b2n slot) = true → (m = .hk ∨ m.code = 12) → (z = if s.flag
      CNVM_BOOT_RECOVERY cnvmPage then (s.reached cnvmPage).set CNVM_UPD_SLOT cnvmPage (b2n slot) else s.reached cnvmPage) → z.updState = 2 → (∀ b <
      z.nblk z.updSlot, 10 ≤ b → z.boot.got.contains b = true) → exec (.updFinish m slot) s = .next ((z.keccakAsk 1).set CNVM_UPD_STAT_STATE cnvmPage
      3)) ∧
  (∀ (s z : State) (m : Master) (slot : Bool) (b : Nat), s.takes cnvmPage 0x50 (2 + 256 * b2n slot) = true → (m = .hk ∨ m.code = 12) → (z = if s.flag
      CNVM_BOOT_RECOVERY cnvmPage then (s.reached cnvmPage).set CNVM_UPD_SLOT cnvmPage (b2n slot) else s.reached cnvmPage) → z.updState = 2 → b <
      z.nblk z.updSlot → 10 ≤ b → z.boot.got.contains b = false → exec (.updFinish m slot) s = .next (((z.set CNVM_UPD_STAT_ERR cnvmPage 7).set
      CNVM_UPD_STAT_STATE cnvmPage 5).irq cnvmPage 0)) ∧
  (∀ (s z : State) (m : Master) (slot : Bool), s.takes cnvmPage 0x50 (3 + 256 * b2n slot) = true → (m = .hk ∨ m.code = 12) → (z = if s.flag
      CNVM_BOOT_RECOVERY cnvmPage then (s.reached cnvmPage).set CNVM_UPD_SLOT cnvmPage (b2n slot) else s.reached cnvmPage) → z.updState ≠ 0 →
      Completes (exec (.updAbort m slot) s) fun t => t.updState = 0 ∧ t.boot.got = [] ∧ t.boot.bufs = [] ∧ t.slotState z.updSlot = 0) ∧
  (∀ (s : State) (a : Nat) (l : List Word), s.domOn 6 = true → (l.length ≠ 256 ∨ ¬ 1024 ∣ a ∨ s.takesBlock (a / 4096) = false) → exec (.imageQuarterWrite
      a l) s = .next (s.answer .refused)) ∧
  (∀ (s : State) (a : Nat) (l : List Word), s.domOn 6 = true → l.length = 256 → 1024 ∣ a → s.takesBlock (a / 4096) = true → s.boot.bufs = [] → exec
      (.imageQuarterWrite a l) s = .next ((s.upBoot fun x =>
      { x with bufs := [{ blk := a / 4096, quarters := [(a / 1024 % 4, (l.flatMap fun w => leBytes w.toNat 4).map fun v => BitVec.ofNat 8 v)] }] }).answer
      .ok)) ∧
  (∀ (s : State) (a : Nat) (l : List Word) (x y : BlkBuf), s.domOn 6 = true → l.length = 256 → 1024 ∣ a → s.takesBlock (a / 4096) = true → s.boot.bufs =
      [x] → x.blk = a / 4096 → x.full = false → (y =
      { x with quarters := tput x.quarters (a / 1024 % 4) [] ((l.flatMap fun w => leBytes w.toNat 4).map fun v => BitVec.ofNat 8 v) }) →
      y.quarters.length = 4 → exec (.imageQuarterWrite a l) s = .next (blockCheck (s.upBoot fun z => { z with bufs := [y] }) y)) ∧
  (∀ (s : State) (b : Nat) (x : BlkBuf), s.domOn 6 = true → s.boot.bufs = [x] → x.blk = b → x.full = true → exec (.imageBlockProgrammed b) s = .next
      ((program s s.updSlot b x.bytes).upBoot fun y => { y with bufs := [] })) ∧
  (∀ (s : State), s.domOn 6 = true → s.updState = 3 → s.keccakAt 1 = true → Completes (exec .digestVerifyComplete s) fun t => t.updState = (if
      s.settled.digestsOk s.updSlot then 4 else 5) ∧ bitOf (t.get H_IRQ_RAW cnvmPage) 0 = true ∧ (s.settled.digestsOk s.updSlot = true → t.slotState
      s.updSlot = 1) ∧ (s.settled.digestsOk s.updSlot = false → t.get CNVM_UPD_STAT_ERR cnvmPage = 8 ∧ t.cnvm = s.cnvm))

/-- ROOT_CMD is taken from the HK and the host while the page is unlocked and rejected otherwise. PROGRAM in OPEN makes an empty slot active
with the key of KEYBUF; outside OPEN, on a used slot and on a failed fuse write it ends with its code. SEAL needs an active slot and
moves OPEN to SEALED; RETURN with a verified token moves SEALED to RETURNED. Each other end leaves the fuses alone. Whether a fuse
write succeeds comes with the command (log 3). GO of the SE, the HK or the host with a buffer in shared SRAM makes the enabled block
busy; while busy, or with a bad buffer, it is rejected, the latter with RESULT 1. The finished report begins with its magic, clears
BUSY, sets DONE with RESULT 0 and IRQ 0, and the bytes outside it stay. Its signature is free values (log 3). As its conclusion exec
answers a next state, under conditions on the state and the operands alone, for each of the constructors: rootProgram, rootSeal,
rootReturn, attGo, attReportDone. -/
def Obligations.LifecycleAndAttestationCommands : Prop :=
  (∀ (s : State) (m : Master) (r : Nat) (ok : Bool), s.takes secPage 0x48 (256 + r) = true → (m = .hk ∨ m.code = 12) → s.flag H_LOCKSTAT_UNLOCKED secPage
      = true → s.accepts secPage = true → r < 4 → s.fuse.lc = 0 → s.rootState r = 0 → ok = true → s.fuse.root.length = 4 → Completes (exec
      (.rootProgram m r ok) s) fun t => t.rootState r = 1 ∧ tget t.fuse.keys r [] = s.keybuf ∧ t.get SEC_CMD_STAT_RESULT secPage = 0 ∧ t.fuse.lc = 0 ∧
      ∀ q, q ≠ r → t.rootState q = s.rootState q) ∧
  (∀ (s : State) (m : Master) (r : Nat) (ok : Bool), s.takes secPage 0x48 (256 + r) = true → (m = .hk ∨ m.code = 12) → s.flag H_LOCKSTAT_UNLOCKED secPage
      = true → s.accepts secPage = true → r < 4 → s.fuse.lc ≠ 0 → exec (.rootProgram m r ok) s = .next ((s.reached secPage).set SEC_CMD_STAT_RESULT
      secPage 1)) ∧
  (∀ (s : State) (m : Master) (r : Nat) (ok : Bool), s.takes secPage 0x48 (256 + r) = true → (m = .hk ∨ m.code = 12) → s.flag H_LOCKSTAT_UNLOCKED secPage
      = true → s.accepts secPage = true → r < 4 → s.fuse.lc = 0 → s.rootState r ≠ 0 → exec (.rootProgram m r ok) s = .next ((s.reached secPage).set
      SEC_CMD_STAT_RESULT secPage 2)) ∧
  (∀ (s : State) (m : Master) (r : Nat) (ok : Bool), s.takes secPage 0x48 (256 + r) = true → (m = .hk ∨ m.code = 12) → s.flag H_LOCKSTAT_UNLOCKED secPage
      = true → s.accepts secPage = true → r < 4 → s.fuse.lc = 0 → s.rootState r = 0 → ok = false → exec (.rootProgram m r ok) s = .next ((s.reached
      secPage).set SEC_CMD_STAT_RESULT secPage 4)) ∧
  (∀ (s : State) (m : Master) (r : Nat) (ok : Bool), s.takes secPage 0x48 (256 + r) = true → r < 4 → ((m ≠ .hk ∧ m.code ≠ 12) ∨ s.flag
      H_LOCKSTAT_UNLOCKED secPage = false ∨ s.accepts secPage = false) → exec (.rootProgram m r ok) s = .next ((s.reached secPage).reject secPage)) ∧
  (∀ (s : State) (m : Master) (r: Nat) (ok : Bool), s.takes secPage 0x48 (512) = true → (m = .hk ∨ m.code = 12) → s.flag H_LOCKSTAT_UNLOCKED secPage =
      true → s.accepts secPage = true → r < 4 → s.rootState r = 1 → s.fuse.lc = 0 → ok = true → exec (.rootSeal m ok) s = .next
      (({ s.reached secPage with fuse := { s.fuse with lc := 1 } } : State).set SEC_CMD_STAT_RESULT secPage 0)) ∧
  (∀ (s : State) (m : Master) (ok : Bool), s.takes secPage 0x48 (512) = true → (m = .hk ∨ m.code = 12) → s.flag H_LOCKSTAT_UNLOCKED secPage = true →
      s.accepts secPage = true → (∀ r < 4, s.rootState r ≠ 1) → exec (.rootSeal m ok) s = .next ((s.reached secPage).reject secPage)) ∧
  (∀ (s : State) (m : Master) (r: Nat) (ok : Bool), s.takes secPage 0x48 (512) = true → (m = .hk ∨ m.code = 12) → s.flag H_LOCKSTAT_UNLOCKED secPage =
      true → s.accepts secPage = true → r < 4 → s.rootState r = 1 → s.fuse.lc ≠ 0 → exec (.rootSeal m ok) s = .next ((s.reached secPage).set
      SEC_CMD_STAT_RESULT secPage 1)) ∧
  (∀ (s : State) (m : Master) (ok : Bool), s.takes secPage 0x48 (768) = true → (m = .hk ∨ m.code = 12) → s.flag H_LOCKSTAT_UNLOCKED secPage = true →
      s.accepts secPage = true → s.fuse.lc = 1 → exec (.rootReturn m ok) s = .next (if s.tokenOk = true then (if ok then
      ({ s.reached secPage with fuse := { s.fuse with lc := 2 } } : State).set SEC_CMD_STAT_RESULT secPage 0 else (s.reached secPage).set
      SEC_CMD_STAT_RESULT secPage 4) else (s.reached secPage).set SEC_CMD_STAT_RESULT secPage 3)) ∧
  (∀ (s : State) (m : Master) (ok : Bool), s.takes secPage 0x48 (768) = true → (m = .hk ∨ m.code = 12) → s.flag H_LOCKSTAT_UNLOCKED secPage = true →
      s.accepts secPage = true → s.fuse.lc ≠ 1 → exec (.rootReturn m ok) s = .next ((s.reached secPage).set SEC_CMD_STAT_RESULT secPage 1)) ∧
  (∀ (s : State) (m : Master) (a : Nat), s.takes attPage 0x40 1 = true → (m = .se ∨ m = .hk ∨ m.code = 12) → s.accepts attPage = true → s.flag
      ATT_STAT_BUSY attPage = false → a = s.get ATT_BUF attPage → 0x10000000 ≤ a → a + 50176 ≤ 0x10200000 → 16 ∣ a → exec (.attGo m) s = .next
      (({ (s.reached attPage).put ATT_STAT_BUSY attPage true with att := { buf := a, tb := s.tb } } : State).keccakAsk 2)) ∧
  (∀ (s : State) (m : Master), s.takes attPage 0x40 1 = true → (m = .se ∨ m = .hk ∨ m.code = 12) → s.accepts attPage = true → s.flag ATT_STAT_BUSY
      attPage = true → exec (.attGo m) s = .next ((s.reached attPage).reject attPage)) ∧
  (∀ (s : State) (m : Master) (a : Nat), s.takes attPage 0x40 1 = true → (m = .se ∨ m = .hk ∨ m.code = 12) → s.accepts attPage = true → s.flag
      ATT_STAT_BUSY attPage = false → a = s.get ATT_BUF attPage → (a < 0x10000000 ∨ 0x10200000 < a + 50176 ∨ ¬ 16 ∣ a) → exec (.attGo m) s = .next
      (((s.reached attPage).set ATT_STAT_RESULT attPage 1).reject attPage)) ∧
  (∀ (s : State) (t : Nat), s.domOn 4 = true → s.domOn 6 = true → s.flag ATT_STAT_BUSY attPage = true → s.keccakAt 2 = true → 0x10000000 ≤ s.att.buf →
      Completes (exec (.attReportDone t) s) fun z => z.flag ATT_STAT_BUSY attPage = false ∧ z.flag ATT_STAT_DONE attPage = true ∧ z.get
      ATT_STAT_RESULT attPage = 0 ∧ bitOf (z.get H_IRQ_RAW attPage) 0 = true ∧ mgetN z.sram 0 (s.att.buf - 0x10000000) 4 = 0x4131564B)

/-- With PD_ETH on and EN set, a frame carries the previous response on HSDO and its transaction runs: NOP answers OK, a read of shared SRAM
returns the word, a write puts it there, NEXT names the word after it or, in the FIX forms, the same one. A misaligned address is
REFUSED with no word done; with EN 0 every request is. While a transaction waits the frame carries PENDING and its own request does
not count. A frame with a good CRC runs its request, one with a bad CRC or bits beyond its words executes nothing and answers BAD_CRC
with IRQ 1. A datagram that the port does not take is without effect, one with a wrong checksum is dropped, a repeated request gets
the stored response, another one runs and its response goes back to its source. A forwarded request that returns ends its transaction;
after 2 ms without a return it ends with TIMEOUT. A satellite device answers a forwarded request. As its conclusion exec answers a
next state, under conditions on the state and the operands alone, for each of the constructors: hostNop, hostRead, hostWrite,
hostReadFix, hostWriteFix, spiFrame, udpRequest, ringHostRequest, ringRequestTimeout. -/
def Obligations.HostPortCommands : Prop :=
  (∀ (s : State) (tag : Nat), s.clk.frozen = false → s.domOn 5 = true → s.host.run = none → s.host.queue = [] → s.accepts hostPage = true → Completes
      (exec (.hostNop tag) s) fun t => t.host.hsdo = s.host.resp.getD nopResponse ∧ t.get HOST_STAT_STATE hostPage = 0 ∧ bitOf (t.get H_IRQ_RAW
      hostPage) 0 = true ∧ t.host.run = none ∧ t.host.resp = some (respWords 0 tag 0 0 0 []) ∧ t.sram = s.sram) ∧
  (∀ (s : State) (tag : Nat) (addr : Word), s.clk.frozen = false → s.domOn 5 = true → s.host.run = none → s.host.queue = [] → s.accepts hostPage = true →
      (s.isMaster = false ∨ s.get HOST_CFG_RING_TGT hostPage = 0) → s.domOn 6 = true → 4 ∣ addr.toNat → 0x10000000 ≤ addr.toNat → addr.toNat <
      0x10200000 → s.isBad 2 0 (addr.toNat - 0x10000000) = false → Completes (exec (.hostRead tag 1 1 addr []) s) fun t => t.host.hsdo =
      s.host.resp.getD nopResponse ∧ t.get HOST_STAT_STATE hostPage = 0 ∧ bitOf (t.get H_IRQ_RAW hostPage) 0 = true ∧ t.host.run = none ∧ t.host.resp
      = some (respWords 1 tag 0 1 (addr.toNat + 4) [s.dGet 0 addr.toNat 4]) ∧ t.sram = s.sram) ∧
  (∀ (s : State) (tag : Nat) (addr : Word), s.clk.frozen = false → s.domOn 5 = true → s.host.run = none → s.host.queue = [] → s.accepts hostPage = true →
      (s.isMaster = false ∨ s.get HOST_CFG_RING_TGT hostPage = 0) → ¬ 4 ∣ addr.toNat → Completes (exec (.hostRead tag 1 1 addr []) s) fun t =>
      t.host.hsdo = s.host.resp.getD nopResponse ∧ t.get HOST_STAT_STATE hostPage = 0 ∧ bitOf (t.get H_IRQ_RAW hostPage) 0 = true ∧ t.host.run = none
      ∧ t.host.resp = some (respWords 1 tag 6 0 addr.toNat []) ∧ t.sram = s.sram) ∧
  (∀ (s : State) (tag : Nat) (w : Word) (addr : Word), s.clk.frozen = false → s.domOn 5 = true → s.host.run = none → s.host.queue = [] → s.accepts
      hostPage = true → (s.isMaster = false ∨ s.get HOST_CFG_RING_TGT hostPage = 0) → s.domOn 6 = true → 4 ∣ addr.toNat → 0x10000000 ≤ addr.toNat →
      addr.toNat < 0x10200000 → s.isBad 2 0 (addr.toNat - 0x10000000) = false → Completes (exec (.hostWrite tag 1 1 addr [w] []) s) fun t =>
      t.host.hsdo = s.host.resp.getD nopResponse ∧ t.get HOST_STAT_STATE hostPage = 0 ∧ bitOf (t.get H_IRQ_RAW hostPage) 0 = true ∧ t.host.run = none
      ∧ t.host.resp = some (respWords 2 tag 0 1 (addr.toNat + 4) []) ∧ t.sram = mputN s.sram 0 (addr.toNat - 0x10000000) 4 w.toNat) ∧
  (∀ (s : State) (tag : Nat) (w : Word) (addr : Word), s.clk.frozen = false → s.domOn 5 = true → s.host.run = none → s.host.queue = [] → s.accepts
      hostPage = true → (s.isMaster = false ∨ s.get HOST_CFG_RING_TGT hostPage = 0) → ¬ 4 ∣ addr.toNat → Completes (exec (.hostWrite tag 1 1 addr [w]
      []) s) fun t => t.host.hsdo = s.host.resp.getD nopResponse ∧ t.get HOST_STAT_STATE hostPage = 0 ∧ bitOf (t.get H_IRQ_RAW hostPage) 0 = true ∧
      t.host.run = none ∧ t.host.resp = some (respWords 2 tag 6 0 addr.toNat []) ∧ t.sram = s.sram) ∧
  (∀ (s : State) (tag : Nat) (addr : Word), s.clk.frozen = false → s.domOn 5 = true → s.host.run = none → s.host.queue = [] → s.accepts hostPage = true →
      (s.isMaster = false ∨ s.get HOST_CFG_RING_TGT hostPage = 0) → s.domOn 6 = true → 4 ∣ addr.toNat → 0x10000000 ≤ addr.toNat → addr.toNat <
      0x10200000 → s.isBad 2 0 (addr.toNat - 0x10000000) = false → Completes (exec (.hostReadFix tag 1 1 addr []) s) fun t => t.host.hsdo =
      s.host.resp.getD nopResponse ∧ t.get HOST_STAT_STATE hostPage = 0 ∧ bitOf (t.get H_IRQ_RAW hostPage) 0 = true ∧ t.host.run = none ∧ t.host.resp
      = some (respWords 3 tag 0 1 addr.toNat [s.dGet 0 addr.toNat 4]) ∧ t.sram = s.sram) ∧
  (∀ (s : State) (tag : Nat) (addr : Word), s.clk.frozen = false → s.domOn 5 = true → s.host.run = none → s.host.queue = [] → s.accepts hostPage = true →
      (s.isMaster = false ∨ s.get HOST_CFG_RING_TGT hostPage = 0) → ¬ 4 ∣ addr.toNat → Completes (exec (.hostReadFix tag 1 1 addr []) s) fun t =>
      t.host.hsdo = s.host.resp.getD nopResponse ∧ t.get HOST_STAT_STATE hostPage = 0 ∧ bitOf (t.get H_IRQ_RAW hostPage) 0 = true ∧ t.host.run = none
      ∧ t.host.resp = some (respWords 3 tag 6 0 addr.toNat []) ∧ t.sram = s.sram) ∧
  (∀ (s : State) (tag : Nat) (w : Word) (addr : Word), s.clk.frozen = false → s.domOn 5 = true → s.host.run = none → s.host.queue = [] → s.accepts
      hostPage = true → (s.isMaster = false ∨ s.get HOST_CFG_RING_TGT hostPage = 0) → s.domOn 6 = true → 4 ∣ addr.toNat → 0x10000000 ≤ addr.toNat →
      addr.toNat < 0x10200000 → s.isBad 2 0 (addr.toNat - 0x10000000) = false → Completes (exec (.hostWriteFix tag 1 1 addr [w] []) s) fun t =>
      t.host.hsdo = s.host.resp.getD nopResponse ∧ t.get HOST_STAT_STATE hostPage = 0 ∧ bitOf (t.get H_IRQ_RAW hostPage) 0 = true ∧ t.host.run = none
      ∧ t.host.resp = some (respWords 4 tag 0 1 addr.toNat []) ∧ t.sram = mputN s.sram 0 (addr.toNat - 0x10000000) 4 w.toNat) ∧
  (∀ (s : State) (tag : Nat) (w : Word) (addr : Word), s.clk.frozen = false → s.domOn 5 = true → s.host.run = none → s.host.queue = [] → s.accepts
      hostPage = true → (s.isMaster = false ∨ s.get HOST_CFG_RING_TGT hostPage = 0) → ¬ 4 ∣ addr.toNat → Completes (exec (.hostWriteFix tag 1 1 addr
      [w] []) s) fun t => t.host.hsdo = s.host.resp.getD nopResponse ∧ t.get HOST_STAT_STATE hostPage = 0 ∧ bitOf (t.get H_IRQ_RAW hostPage) 0 = true
      ∧ t.host.run = none ∧ t.host.resp = some (respWords 4 tag 6 0 addr.toNat []) ∧ t.sram = s.sram) ∧
  (∀ (s : State) (tag : Nat) (addr : Word), s.clk.frozen = false → s.domOn 5 = true → s.host.run = none → s.accepts hostPage = false → Completes (exec
      (.hostRead tag 1 1 addr []) s) fun t => t.host.resp = some (respWords 1 tag 6 0 addr.toNat []) ∧ t.host.run = none) ∧
  (∀ (s : State) (tag : Nat) (r : HostReq), s.clk.frozen = false → s.domOn 5 = true → s.host.run = some r → Completes (exec (.hostNop tag) s) fun t =>
      t.host.hsdo = respWords 0xF r.tag 0 0 r.addr [] ∧ t.host.run = some r ∧ t.host.resp = s.host.resp) ∧
  (∀ (s : State) (a b c : Word), s.clk.frozen = false → s.domOn 5 = true → s.host.run = none → s.host.queue = [] → s.accepts hostPage = true → a.toNat <
      2 ^ 28 → a.toNat % 1024 = 0 → a.toNat / 1024 % 4 ≠ 3 → c.toNat = hostCrc [a.toNat, b.toNat] → Completes (exec (.spiFrame [a, b, c] 0 []) s) fun
      t => t.host.hsdo = s.host.resp.getD nopResponse ∧ t.get HOST_STAT_STATE hostPage = 0 ∧ bitOf (t.get H_IRQ_RAW hostPage) 0 = true ∧ t.host.run =
      none ∧ t.host.resp = some (respWords 0 (a.toNat / 2 ^ 20 % 256) 0 0 b.toNat [])) ∧
  (∀ (s : State) (a b c : Word), s.clk.frozen = false → s.domOn 5 = true → s.host.run = none → s.host.queue = [] → s.accepts hostPage = true → a.toNat <
      2 ^ 28 → c.toNat ≠ hostCrc [a.toNat, b.toNat] → Completes (exec (.spiFrame [a, b, c] 0 []) s) fun t => t.host.resp = some (respWords 0 (a.toNat
      / 2 ^ 20 % 256) 4 0 0 []) ∧ bitOf (t.get H_IRQ_RAW hostPage) 1 = true ∧ t.host.run = none ∧ t.sram = s.sram) ∧
  (∀ (s : State) (l : List Word) (n : Nat) (wins : List (Nat × Nat)), s.clk.frozen = false → s.domOn 5 = true → s.host.run = none → s.host.queue = [] →
      s.accepts hostPage = true → n ≠ 0 → Completes (exec (.spiFrame l n wins) s) fun t => bitOf (t.get H_IRQ_RAW hostPage) 1 = true ∧ t.host.run =
      none ∧ t.sram = s.sram) ∧
  (∀ (s : State) (k : Nat) (dst src : Word) (port dport : Nat) (plain : Bool) (sum : Bool) (l : List Word) (wins : List (Nat × Nat)), s.udpTakes k
      dst.toNat src.toNat dport plain = false → exec (.udpRequest k dst src port dport plain sum l wins) s = .next s) ∧
  (∀ (s : State) (k : Nat) (dst src : Word) (port dport : Nat) (plain : Bool) (l : List Word) (wins : List (Nat × Nat)), s.udpTakes k dst.toNat src.toNat
      dport plain = true → exec (.udpRequest k dst src port dport plain false l wins) s = .next ((s.bump HOST_CNT_DROPS hostPage).irq hostPage 2)) ∧
  (∀ (s : State) (k : Nat) (dst src : Word) (port dport : Nat) (plain : Bool) (a b c : Word), s.udpTakes k dst.toNat src.toNat dport plain = true →
      a.toNat < 2 ^ 28 → a.toNat % 1024 = 0 → a.toNat / 1024 % 4 ≠ 3 → c.toNat = hostCrc [a.toNat, b.toNat] → s.host.run = none → s.host.queue = [] →
      s.host.last = none → Completes (exec (.udpRequest k dst src port dport plain true [a, b, c] []) s) fun t => t.host.sent = some (k, src.toNat,
      port, respWords 0 (a.toNat / 2 ^ 20 % 256) 0 0 b.toNat []) ∧ t.host.last = some (src.toNat, port, a.toNat / 2 ^ 20 % 256, c.toNat, respWords 0
      (a.toNat / 2 ^ 20 % 256) 0 0 b.toNat []) ∧ t.host.run = none) ∧
  (∀ (s : State) (k : Nat) (dst src : Word) (port dport : Nat) (plain : Bool) (a b c : Word) (r : List Nat), s.udpTakes k dst.toNat src.toNat dport plain
      = true → a.toNat < 2 ^ 28 → a.toNat % 1024 = 0 → a.toNat / 1024 % 4 ≠ 3 → c.toNat = hostCrc [a.toNat, b.toNat] → s.host.last = some (src.toNat,
      port, a.toNat / 2 ^ 20 % 256, c.toNat, r) → exec (.udpRequest k dst src port dport plain true [a, b, c] []) s = .next (s.upHost fun x =>
      { x with sent := some (k, src.toNat, port, r) })) ∧
  (∀ (s : State) (l : List Word) (r : HostReq), s.ringOn = true → s.isMaster = true → s.host.run = some r → r.src = 0 → s.get HOST_STAT_STATE hostPage =
      2 → s.host.queue = [] → Completes (exec (.ringHostRequest l) s) fun t => t.host.run = none ∧ t.host.resp = some (l.map BitVec.toNat) ∧ t.get
      HOST_STAT_STATE hostPage = 0 ∧ bitOf (t.get H_IRQ_RAW hostPage) 0 = true) ∧
  (∀ (s : State) (a b c : Word), s.clk.frozen = false → s.domOn 5 = true → s.host.run = none → s.host.queue = [] → s.accepts hostPage = true → s.ringOn =
      true → s.isMaster = false → a.toNat < 2 ^ 28 → a.toNat % 1024 = 0 → a.toNat / 1024 % 4 ≠ 3 → c.toNat = hostCrc [a.toNat, b.toNat] → Completes
      (exec (.ringHostRequest [a, b, c]) s) fun t => t.host.ringResp = respWords 0 (a.toNat / 2 ^ 20 % 256) 0 0 b.toNat [] ∧ t.host.run = none) ∧
  (∀ (s : State) (r : HostReq), s.host.run = some r → r.src = 0 → s.get HOST_STAT_STATE hostPage = 2 → r.since + 2000000 ≤ s.tb → s.domOn 5 = true →
      s.host.queue = [] → Completes (exec .ringRequestTimeout s) fun t => t.host.run = none ∧ t.host.resp = some (respWords r.op r.tag 2 r.done r.next
      r.out))

/-- R and M read words and print them, W and L write words, L ends with BAD_CRC when its CRC is wrong although its words stand; an empty or too
long command is a SYNTAX error. A closed monitor answers CLOSED and accesses nothing. B sets the rate within 9,600 to 3,000,000 and
else is a SYNTAX error. Every command counts. As its conclusion exec answers a next state, under conditions on the state and the
operands alone, for each of the constructors: monRead, monDump, monWrite, monBlockLoad, monSetRate. -/
def Obligations.MonitorAccessCommands : Prop :=
  (∀ (s : State) (addr : Word), (s.monUp = true ∧ s.clk.frozen = false) → (s.fuse.lc ≠ 1 ∨ s.flag MON_STAT_OPEN monPage = true) → s.domOn 6 = true → 4 ∣
      addr.toNat → 0x10000000 ≤ addr.toNat → addr.toNat < 0x10200000 → s.isBad 2 0 (addr.toNat - 0x10000000) = false → Completes (exec (.monRead 1
      addr 1 []) s) fun t => t.mon.out = [s.dGet 0 addr.toNat 4] ∧ t.mon.err = 0 ∧ t.mon.run = none ∧ t.sram = s.sram) ∧
  (∀ (s z : State) (space n : Nat) (addr : Word) (wins : List (Nat × Nat)), (s.monUp = true ∧ s.clk.frozen = false) → (s.fuse.lc ≠ 1 ∨ s.flag
      MON_STAT_OPEN monPage = true) → z = s.bump MON_CNT_CMDS monPage → (n = 0 ∨ 100 < n) → exec (.monRead space addr n wins) s = .next (monEnd z 7
      [])) ∧
  (∀ (s z : State) (space n : Nat) (addr : Word) (wins : List (Nat × Nat)), (s.monUp = true ∧ s.clk.frozen = false) → z = s.bump MON_CNT_CMDS monPage →
      s.fuse.lc = 1 → s.flag MON_STAT_OPEN monPage = false → exec (.monRead space addr n wins) s = .next (monEnd z 8 [])) ∧
  (∀ (s : State) (addr : Word), (s.monUp = true ∧ s.clk.frozen = false) → (s.fuse.lc ≠ 1 ∨ s.flag MON_STAT_OPEN monPage = true) → s.domOn 6 = true → 4 ∣
      addr.toNat → 0x10000000 ≤ addr.toNat → addr.toNat < 0x10200000 → s.isBad 2 0 (addr.toNat - 0x10000000) = false → Completes (exec (.monDump 1
      addr 1 []) s) fun t => t.mon.out = [s.dGet 0 addr.toNat 4] ∧ t.mon.err = 0 ∧ t.mon.run = none ∧ t.sram = s.sram) ∧
  (∀ (s z : State) (space n : Nat) (addr : Word) (wins : List (Nat × Nat)), (s.monUp = true ∧ s.clk.frozen = false) → (s.fuse.lc ≠ 1 ∨ s.flag
      MON_STAT_OPEN monPage = true) → z = s.bump MON_CNT_CMDS monPage → (n = 0 ∨ 10000 < n) → exec (.monDump space addr n wins) s = .next (monEnd z 7
      [])) ∧
  (∀ (s z : State) (space n : Nat) (addr : Word) (wins : List (Nat × Nat)), (s.monUp = true ∧ s.clk.frozen = false) → z = s.bump MON_CNT_CMDS monPage →
      s.fuse.lc = 1 → s.flag MON_STAT_OPEN monPage = false → exec (.monDump space addr n wins) s = .next (monEnd z 8 [])) ∧
  (∀ (s : State) (addr w : Word), (s.monUp = true ∧ s.clk.frozen = false) → (s.fuse.lc ≠ 1 ∨ s.flag MON_STAT_OPEN monPage = true) → s.domOn 6 = true → 4
      ∣ addr.toNat → 0x10000000 ≤ addr.toNat → addr.toNat < 0x10200000 → s.isBad 2 0 (addr.toNat - 0x10000000) = false → Completes (exec (.monWrite 1
      addr [w] []) s) fun t => t.sram = mputN s.sram 0 (addr.toNat - 0x10000000) 4 w.toNat ∧ t.mon.err = 0 ∧ t.mon.run = none) ∧
  (∀ (s : State) (addr w c : Word), (s.monUp = true ∧ s.clk.frozen = false) → (s.fuse.lc ≠ 1 ∨ s.flag MON_STAT_OPEN monPage = true) → s.domOn 6 = true →
      4 ∣ addr.toNat → 0x10000000 ≤ addr.toNat → addr.toNat < 0x10200000 → s.isBad 2 0 (addr.toNat - 0x10000000) = false → Completes (exec
      (.monBlockLoad 1 addr [w] c) s) fun t => t.sram = mputN s.sram 0 (addr.toNat - 0x10000000) 4 w.toNat ∧ t.mon.err = (if c.toNat = hostCrc
      [w.toNat] then 0 else 4) ∧ t.mon.run = none) ∧
  (∀ (s z : State) (r : Nat), (s.monUp = true ∧ s.clk.frozen = false) → z = s.bump MON_CNT_CMDS monPage → 9600 ≤ r → r ≤ 3000000 → exec (.monSetRate r) s
      = .next (monEnd (z.set MON_BAUD monPage r) 0 [])) ∧
  (∀ (s z : State) (r : Nat), (s.monUp = true ∧ s.clk.frozen = false) → z = s.bump MON_CNT_CMDS monPage → (r < 9600 ∨ 3000000 < r) → exec (.monSetRate r)
      s = .next (monEnd z 7 []))

/-- H puts a core into debug mode and holds it, letting a delay slot, a repetition or a frozen access end first; S lets a held core take n more
steps, G lets a core in debug mode go on, D ends debug mode. Q prints the registers of a halted core, T the sinter log. C prints a
challenge, A opens the monitor of a sealed part when the answer verifies and uses the challenge up, E closes it. As its conclusion
exec answers a next state, under conditions on the state and the operands alone, for each of the constructors: monHalt, monStep,
monResume, monEndDebug, monPrintState, monPrintLog, monChallenge, monAnswer, monClose. -/
def Obligations.MonitorDebugCommands : Prop :=
  (∀ (s : State) (c : Nat), (s.monUp = true ∧ s.clk.frozen = false) → (s.fuse.lc ≠ 1 ∨ s.flag MON_STAT_OPEN monPage = true) → c < 12 → (s.cr c).held =
      false → (s.cr c).slot = none → (s.cr c).rep = none → s.stall = [] → Completes (exec (.monHalt c) s) fun t => t.cr c =
      { s.cr c with held := true, steps := 0 } ∧ t.debugging c = true ∧ t.mon.err = 0) ∧
  (∀ (s : State) (c : Nat), (s.monUp = true ∧ s.clk.frozen = false) → (s.fuse.lc ≠ 1 ∨ s.flag MON_STAT_OPEN monPage = true) → c < 12 → (s.cr c).held =
      false → (s.cr c).slot.isSome = true → Completes (exec (.monHalt c) s) fun t => t.cr c = { s.cr c with held := true, steps := 1 } ∧ t.debugging c
      = true) ∧
  (∀ (s : State) (c n : Nat), (s.monUp = true ∧ s.clk.frozen = false) → (s.fuse.lc ≠ 1 ∨ s.flag MON_STAT_OPEN monPage = true) → (s.cr c).held = true →
      Completes (exec (.monStep c n) s) fun t => t.cr c = { s.cr c with steps := (s.cr c).steps + n } ∧ t.mon.stepOf = some c ∧ t.mon.err = 0) ∧
  (∀ (s z : State) (c n : Nat), (s.monUp = true ∧ s.clk.frozen = false) → (s.fuse.lc ≠ 1 ∨ s.flag MON_STAT_OPEN monPage = true) → z = s.bump MON_CNT_CMDS
      monPage → (s.cr c).held = false → exec (.monStep c n) s = .next (monEnd z 6 [])) ∧
  (∀ (s : State) (c : Nat), (s.monUp = true ∧ s.clk.frozen = false) → (s.fuse.lc ≠ 1 ∨ s.flag MON_STAT_OPEN monPage = true) → s.debugging c = true →
      Completes (exec (.monResume c) s) fun t => t.cr c = { s.cr c with held := false, steps := 0 } ∧ t.mon.err = 0 ∧ t.debugging c = true) ∧
  (∀ (s : State) (c : Nat), (s.monUp = true ∧ s.clk.frozen = false) → (s.fuse.lc ≠ 1 ∨ s.flag MON_STAT_OPEN monPage = true) → Completes (exec
      (.monEndDebug c) s) fun t => t.cr c = { s.cr c with held := false, steps := 0 } ∧ t.mon.err = 0 ∧ t.debugging c = false) ∧
  (∀ (s z : State) (c : Nat), (s.monUp = true ∧ s.clk.frozen = false) → (s.fuse.lc ≠ 1 ∨ s.flag MON_STAT_OPEN monPage = true) → z = s.bump MON_CNT_CMDS
      monPage → ((s.cr c).halt || (s.cr c).held) = true → exec (.monPrintState c) s = .next (monEnd z 0 ((s.cr c).pc :: (List.range 32).map (s.cr
      c).reg ++ [(s.cr c).frames, (s.cr c).ctl c 0, (s.cr c).epc, (s.cr c).ecause]))) ∧
  (∀ (s z : State), (s.monUp = true ∧ s.clk.frozen = false) → (s.fuse.lc ≠ 1 ∨ s.flag MON_STAT_OPEN monPage = true) → z = s.bump MON_CNT_CMDS monPage →
      s.domOn 10 = true → exec .monPrintLog s = .next (monEnd z 0 z.logPrint)) ∧
  (∀ (s : State), (s.monUp = true ∧ s.clk.frozen = false) → s.domOn 4 = true → Completes (exec .monChallenge s) fun t => t.mon.chal = some t.mon.out ∧
      t.mon.out.length = 32 ∧ t.mon.err = 0) ∧
  (∀ (s : State) (slot : Nat) (sig : List Byte) (c : List Nat), (s.monUp = true ∧ s.clk.frozen = false) → s.mon.chal = some c → Completes (exec
      (.monAnswer slot sig) s) fun t => t.mon.chal = none ∧ if s.verify slot "KV1-MON" ([0x4B, 0x56, 0x31, 0x4D] ++ uidBytes ++ c) (sig.map
      BitVec.toNat) then t.flag MON_STAT_OPEN monPage = (s.fuse.lc == 1) ∧ t.mon.err = 0 else t.flag MON_STAT_OPEN monPage = s.flag MON_STAT_OPEN
      monPage ∧ t.mon.err = 6) ∧
  (∀ (s z : State) (slot : Nat) (sig : List Byte), (s.monUp = true ∧ s.clk.frozen = false) → z = s.bump MON_CNT_CMDS monPage → s.mon.chal = none → exec
      (.monAnswer slot sig) s = .next (monEnd z 6 [])) ∧
  (∀ (s z : State), (s.monUp = true ∧ s.clk.frozen = false) → z = s.bump MON_CNT_CMDS monPage → exec .monClose s = .next (monEnd (z.put MON_STAT_OPEN
      monPage false) 0 []))

/-- Flipped columns within 16 adjacent ones touch each codeword of a row at most once, within 32 at most twice. A scrubber's step that corrects
counts for its memory and in the log; one that meets an uncorrectable codeword records it with BY_SCRUB and its IRQ, and the codeword
stays bad, as does every other codeword of the row with two flipped bits. FILL of the unlocked page stores 0 in the codeword of its
registers and makes it good again; while locked it is rejected. A word written to the delta area subtracts from two counts and clears
a PEAK that equals it. A minute of TB counts once with its VBAT bin. As its conclusion exec answers a next state, under conditions on
the state and the operands alone, for each of the constructors: scrubStep, eccFill, logDeltaWrite, logMinuteTick. -/
def Obligations.IntegrityCommands : Prop :=
  (∀ (cols : List Nat) (lo k : Nat), (∀ x ∈ cols, lo ≤ x ∧ x < lo + 16) → flipsOf cols k ≤ 1) ∧
  (∀ (cols : List Nat) (lo k : Nat), (∀ x ∈ cols, lo ≤ x ∧ x < lo + 32) → flipsOf cols k ≤ 2) ∧
  (∀ (s : State) (m c a lo : Nat) (cols : List Nat), m < 6 → m ≠ 3 → (∀ n, memDomain m c = some n → s.domOn n = true) → s.domOn 6 = true → s.isBad m c a
      = false → (∀ x ∈ cols, lo ≤ x ∧ x < lo + 16) → flipsOf cols (a / 8 % 16) = 1 → exec (.scrubStep m c a cols false) s = .next ((s.logDev 34).bump
      ECC_CNT_CORR eccPage m)) ∧
  (∀ (s : State) (m c a lo : Nat) (cols : List Nat), m < 6 → m ≠ 3 → (∀ n, memDomain m c = some n → s.domOn n = true) → s.domOn 6 = true → s.isBad m c a
      = false → (∀ x ∈ cols, lo ≤ x ∧ x < lo + 16) → flipsOf cols (a / 8 % 16) = 0 → exec (.scrubStep m c a cols false) s = .next s) ∧
  (∀ (s : State) (m c a : Nat) (cols : List Nat), m < 6 → c < 12 → a < 2 ^ 32 → m ≠ 3 → (∀ n, memDomain m c = some n → s.domOn n = true) → s.domOn 6 =
      true → flipsOf cols (a / 8 % 16) = 2 → Completes (exec (.scrubStep m c a cols false) s) fun t => t.isBad m c a = true ∧ t.get ECC_LAST_UE_MEM
      eccPage = m ∧ t.get ECC_LAST_UE_ADDR eccPage = a / 8 * 8 ∧ t.get ECC_LAST_UE_CORE eccPage = c ∧ t.flag ECC_LAST_UE_BY_SCRUB eccPage = true ∧
      bitOf (t.get H_IRQ_RAW eccPage) m = true) ∧
  (∀ (s : State) (m c a : Nat) (cols : List Nat), m < 6 → c < 12 → a < 2 ^ 32 → m ≠ 3 → (∀ n, memDomain m c = some n → s.domOn n = true) → s.domOn 6 =
      true → s.isBad m c a = true → Completes (exec (.scrubStep m c a cols false) s) fun t => t.isBad m c a = true ∧ t.get ECC_LAST_UE_MEM eccPage = m
      ∧ t.get ECC_LAST_UE_ADDR eccPage = a / 8 * 8 ∧ t.flag ECC_LAST_UE_BY_SCRUB eccPage = true ∧ bitOf (t.get H_IRQ_RAW eccPage) m = true) ∧
  (∀ (s : State) (m c a k : Nat) (cols : List Nat), m < 6 → c < 12 → a < 2 ^ 32 → m ≠ 3 → (∀ n, memDomain m c = some n → s.domOn n = true) → s.domOn 6 =
      true → k < 16 → flipsOf cols k = 2 → Completes (exec (.scrubStep m c a cols false) s) fun t => t.isBad m c (a / 128 * 128 + 8 * k) = true) ∧
  (∀ (s : State) (c a : Nat), s.domOn 6 = true → s.isBad 2 c a = false → exec (.scrubStep 2 c a [] true) s = .next (s.bump ECC_PASSES_SRAM eccPage)) ∧
  (∀ (s : State) (m : Master) (k a : Nat), s.takes eccPage 0x70 1 = true → s.flag H_LOCKSTAT_UNLOCKED eccPage = true → k = s.get ECC_FILL_MEM eccPage → 2
      ≤ k → a = s.get ECC_FILL_ADDR eccPage / 8 * 8 → Completes (exec (.eccFill m) s) fun t => t.isBad k 0 a = false ∧ (k = 2 → t.sram = mputN s.sram
      0 a 8 0) ∧ (k = 4 → t.rind = mputN s.rind 0 a 8 0) ∧ (k = 5 → t.cnvm = mputN s.cnvm 0xFF a 8 0) ∧ t.dram = s.dram ∧ t.iram = s.iram) ∧
  (∀ (s : State) (m : Master), s.takes eccPage 0x70 1 = true → s.flag H_LOCKSTAT_UNLOCKED eccPage = false → exec (.eccFill m) s = .next ((s.reached
      eccPage).reject eccPage)) ∧
  (∀ (s : State) (m : Master) (i : Nat) (v : Word), s.takes logPage (0x400 + 4 * i) v.toNat = true → i < 741 → (i % 8 ≠ 7 ∨ 720 ≤ i) → s.rd (deltaLoc (2
      * i)) < 2 ^ 16 → s.rd (deltaLoc (2 * i + 1)) < 2 ^ 16 → Completes (exec (.logDeltaWrite m i v) s) fun t => t.rd (deltaLoc (2 * i)) = s.rd
      (deltaLoc (2 * i)) - v.toNat % 2 ^ 16 ∧ t.rd (deltaLoc (2 * i + 1)) = s.rd (deltaLoc (2 * i + 1)) - v.toNat / 2 ^ 16) ∧
  (∀ (s : State) (m : Master) (i : Nat) (v : Word), s.takes logPage (0x400 + 4 * i) v.toNat = true → i < 720 → i % 8 = 7 → Completes (exec
      (.logDeltaWrite m i v) s) fun t => t.rd (deltaLoc (2 * i)) = if s.rd (deltaLoc (2 * i)) = v.toNat % 2 ^ 16 then 0x8000 else s.rd (deltaLoc (2 *
      i))) ∧
  (∀ (s : State) (hot : Int), s.logMin < s.tb / 60000000000 → Completes (exec (.logMinuteTick hot) s) fun t => t.logMin = s.tb / 60000000000 ∧ (s.rd
      (deltaLoc (1456 + vbatBin s.vbat)) < 0xFFFE → t.rd (deltaLoc (1456 + vbatBin s.vbat)) = s.rd (deltaLoc (1456 + vbatBin s.vbat)) + 1))

/-- At reset every register field but TB_STAT.SRC, which shows LFCLK until the PLL has locked, stands at its Reset column, no command waits, no
core runs, the HK waits for its start, every volatile memory is empty and no write is shadowed. The time base at 0 and the empty
memories are the model's own choice (logs 8 and 9). -/
def Obligations.ResetState : Prop :=
  (State.reset.pending = []) ∧
  (∀ l : Loc, l.key ≠ (TB_STAT_SRC.loc 5).key → State.reset.rd l = l.rst) ∧
  (State.reset.flag TB_STAT_SRC 5 = true) ∧
  (∀ c, (State.reset.cr c).run = false) ∧
  (State.reset.boot.due = true ∧ State.reset.boot.active = none) ∧
  (State.reset.sram = [] ∧ State.reset.dram = [] ∧ State.reset.iram = [] ∧ State.reset.msgRam = [] ∧ State.reset.mbox = []) ∧
  (State.reset.shadow = [] ∧ State.reset.stall = [] ∧ State.reset.reqs = [] ∧ State.reset.gate.queue = [])

/-- A page raises its interrupt while IRQ_RAW and IRQ_EN have a set bit in common. When an event and a write of 1 to its bit come together the
bit stays set, whether or not it was set before; a bit cleared without an event is clear, and every other bit is as it was. As its
conclusion exec answers a next state, under conditions on the state and the operands alone, for the constructor: irqRawClear. -/
def Obligations.EventBeatsClear : Prop :=
  (∀ (s : State) (p : Nat), s.irqActive p = true ↔ ∃ b, bitOf (s.get H_IRQ_RAW p) b = true ∧ bitOf (s.get H_IRQ_EN p) b = true) ∧
  (∀ (s : State) (m : Master) (page b : Nat) (v event : Word), s.takes page 0x10 v.toNat = true → b < 32 → Completes (exec (.irqRawClear m page v event)
      s) fun t => bitOf (t.get H_IRQ_RAW page) b = (event.getLsbD b || (bitOf (s.get H_IRQ_RAW page) b && !v.getLsbD b)))

/-- The first key is stored, the second then unlocks the page for the master that wrote it and clears FAILS. The second key without the first,
the first key again, another LOCKKEY value after the first key, and a write to any other register of the page between the keys fail
the sequence: FAILS counts and the access is rejected; a repeated first key stays stored. Any other LOCKKEY value, or the domain
leaving on, locks the page. As its conclusion exec answers a next state, under conditions on the state and the operands alone, for
each of the constructors: lockkeyWrite, registerWrite. -/
def Obligations.UnlockSequence : Prop :=
  (∀ (s : State) (m : Master) (p : Nat) (v : Word), pageUsed p = true → s.clk.frozen = false → s.pageOn p = true → p ≠ nvmPage → v.toNat = 0x5A5A0000 + p
      → s.flag H_LOCKSTAT_KEY1_SEEN p = false → Completes (exec (.lockkeyWrite m p v) s) fun t => t.flag H_LOCKSTAT_KEY1_SEEN p = true ∧ t.flag
      H_LOCKSTAT_UNLOCKED p = s.flag H_LOCKSTAT_UNLOCKED p) ∧
  (∀ (s : State) (m : Master) (p : Nat) (v : Word), pageUsed p = true → s.clk.frozen = false → s.pageOn p = true → p ≠ nvmPage → v.toNat = 0xA5A50000 + p
      → s.flag H_LOCKSTAT_KEY1_SEEN p = true → Completes (exec (.lockkeyWrite m p v) s) fun t => t.flag H_LOCKSTAT_KEY1_SEEN p = false ∧ t.flag
      H_LOCKSTAT_UNLOCKED p = true ∧ t.get H_LOCKSTAT_MASTER p = m.code % 16 ∧ t.get H_LOCKSTAT_FAILS p = 0) ∧
  (∀ (s : State) (m : Master) (p : Nat) (v : Word), pageUsed p = true → s.clk.frozen = false → s.pageOn p = true → p ≠ nvmPage → v.toNat = 0xA5A50000 + p
      → s.flag H_LOCKSTAT_KEY1_SEEN p = false → Completes (exec (.lockkeyWrite m p v) s) fun t => t.get H_LOCKSTAT_FAILS p = min (s.get
      H_LOCKSTAT_FAILS p + 1) 255 ∧ t.flag H_STAT_ERR p = true ∧ t.get H_EVT_CNT_REJECTED p = min (s.get H_EVT_CNT_REJECTED p + 1) 65535) ∧
  (∀ (s : State) (m : Master) (p : Nat) (v : Word), pageUsed p = true → s.clk.frozen = false → s.pageOn p = true → p ≠ nvmPage → v.toNat = 0x5A5A0000 + p
      → s.flag H_LOCKSTAT_KEY1_SEEN p = true → Completes (exec (.lockkeyWrite m p v) s) fun t => t.flag H_LOCKSTAT_KEY1_SEEN p = true ∧ t.get
      H_LOCKSTAT_FAILS p = min (s.get H_LOCKSTAT_FAILS p + 1) 255 ∧ t.flag H_STAT_ERR p = true ∧ t.get H_EVT_CNT_REJECTED p = min (s.get
      H_EVT_CNT_REJECTED p + 1) 65535) ∧
  (∀ (s : State) (m : Master) (p : Nat) (v : Word), pageUsed p = true → s.clk.frozen = false → s.pageOn p = true → p ≠ nvmPage → v.toNat ≠ 0x5A5A0000 + p
      → v.toNat ≠ 0xA5A50000 + p → s.flag H_LOCKSTAT_KEY1_SEEN p = true → Completes (exec (.lockkeyWrite m p v) s) fun t => t.flag
      H_LOCKSTAT_KEY1_SEEN p = false ∧ t.flag H_LOCKSTAT_UNLOCKED p = false ∧ t.get H_LOCKSTAT_FAILS p = min (s.get H_LOCKSTAT_FAILS p + 1) 255 ∧
      t.flag H_STAT_ERR p = true ∧ t.get H_EVT_CNT_REJECTED p = min (s.get H_EVT_CNT_REJECTED p + 1) 65535) ∧
  (∀ (s : State) (m : Master) (p : Nat) (v : Word), pageUsed p = true → s.clk.frozen = false → s.pageOn p = true → p ≠ nvmPage → v.toNat ≠ 0x5A5A0000 + p
      → v.toNat ≠ 0xA5A50000 + p → s.flag H_LOCKSTAT_KEY1_SEEN p = false → Completes (exec (.lockkeyWrite m p v) s) fun t => t.flag
      H_LOCKSTAT_UNLOCKED p = false ∧ t.get H_LOCKSTAT_FAILS p = s.get H_LOCKSTAT_FAILS p) ∧
  (∀ (s : State) (m : Master) (p off : Nat) (v : Word), pageUsed p = true → s.clk.frozen = false → s.pageOn p = true → p ≠ nvmPage → p ≠ ahdPage → p ≠
      nmkPage → off ≠ 0x20 → (off < 0x40 ∨ s.flag H_STAT_HELD p = false) → s.flag H_LOCKSTAT_KEY1_SEEN p = true → s.flag H_LOCKSTAT_UNLOCKED p = false
      → lockBroken s p off v.toNat = true → Completes (exec (.registerWrite m p off v) s) fun t => t.flag H_LOCKSTAT_KEY1_SEEN p = false ∧ t.flag
      H_LOCKSTAT_UNLOCKED p = false ∧ t.get H_LOCKSTAT_FAILS p = min (s.get H_LOCKSTAT_FAILS p + 1) 255 ∧ t.flag H_STAT_ERR p = true ∧ t.get
      H_EVT_CNT_REJECTED p = min (s.get H_EVT_CNT_REJECTED p + 1) 65535) ∧
  (∀ (s : State) (p : Nat), (relock s p).flag H_LOCKSTAT_UNLOCKED p = false ∧ (relock s p).flag H_LOCKSTAT_KEY1_SEEN p = false)

/-- g0 reads 0 and a write to it is discarded, the other globals are shared by every frame, a frame's w0 to w7 are the same physical registers
as w16 to w23 of its caller, and w8 to w23 of two of the 15 frames that can be resident are different ones of the 248 windowed
registers. A result for any other code lands in the register that the code reads. -/
def Obligations.RegisterFile : Prop :=
  (∀ (k : Core) (n v : Nat), k.reg 0 = 0 ∧ k.result n 0 v = k) ∧
  (∀ (k : Core) (r : Nat), r < 8 → k.slideIn.reg r = k.reg r ∧ k.slideOut.reg r = k.reg r) ∧
  (∀ (k : Core) (i : Nat), k.base < 248 → i < 8 → winIdx k.slideIn.base i = winIdx k.base (16 + i) ∧ k.slideIn.reg (8 + i) = k.reg (24 + i)) ∧
  (∀ (k : Core), k.base < 248 → k.slideIn.slideOut.base = k.base) ∧
  (∀ (b d i j : Nat), b < 248 → 0 < d → d < 15 → 8 ≤ i → i < 24 → 8 ≤ j → j < 24 → winIdx b i < 248 ∧ winIdx b i ≠ winIdx ((b + 16 * d) % 248) j) ∧
  (∀ (k : Core) (d : Dest) (r v : Nat), k.dest r = some d → (k.land d v).reg r = v) ∧
  (∀ (k : Core) (d : Dest) (r q v : Nat), k.dest r = some d → q < 32 → r < 32 → q ≠ r → k.base < 248 → (k.land d v).reg q = k.reg q)

/-- A result of distance n is read by the n-th instruction after its producer and not before. Of two results for one register that land together
the later-issued one stays, as in the manual's example of LDW and ADD; with an instruction between them each is seen in turn. -/
def Obligations.ResultDistances : Prop :=
  (∀ (k : Core) (n r v j : Nat), k.pend = [] → 0 < r → r < 32 → 1 ≤ n → k.base < 248 → ((List.range j).foldl (fun x _ => x.tick) (k.result n r v)).reg r
      = if j < n then k.reg r else v % 2 ^ 32) ∧
  (∀ (k : Core) (r v w : Nat), k.pend = [] → 0 < r → r < 32 → k.base < 248 → ((k.result 2 r v).tick.result 1 r w).tick.reg r = w % 2 ^ 32) ∧
  (∀ (k : Core) (r v w : Nat), k.pend = [] → 0 < r → r < 32 → k.base < 248 → ((k.result 2 r v).tick.tick.result 1 r w).reg r = v % 2 ^ 32 ∧ ((k.result 2
      r v).tick.tick.result 1 r w).tick.reg r = w % 2 ^ 32) ∧
  (∀ (k : Core) (n : Nat), (∀ p ∈ k.pend, p.left ≤ n) → ((List.range n).foldl (fun x _ => x.tick) k).pend = [])

/-- At a start every general register reads 0, every control register its reset value (FRAMES 1, CORE_ID the core, the others 0), EN_LO and
EN_HI of the core are cleared, PC is the entry address, and no result, delay slot or repetition is pending. As its conclusion exec
answers a next state, under conditions on the state and the operands alone, for the constructor: coreReload. -/
def Obligations.CoreStartState : Prop :=
  (∀ (s : State) (c entry : Nat), c < 12 → entry < 65536 → 4 ∣ entry → (∀ r, ((startAt s c entry).cr c).reg r = 0) ∧ (∀ i, ((startAt s c entry).cr c).ctl
      c i = if i = 6 then 1 else if i = 0x18 then c else 0) ∧ (startAt s c entry).get IRQ_EN_LO irqPage c = 0 ∧ (startAt s c entry).get IRQ_EN_HI
      irqPage c = 0 ∧ ((startAt s c entry).cr c).pc = entry ∧ ((startAt s c entry).cr c).run = true) ∧
  (∀ (s : State) (c k n entry : Nat) (x : Component), s.boot.active = some k → s.boot.start.contains c = true → c ≠ 0 → s.boot.due = false → s.clocksRun
      = true → targetDomain c = some n → s.domOn n = true → s.domOn 6 = true → s.coreComp k c = some x → s.compBlocksOk k x = true → x.entry = entry →
      entry < 65536 → 4 ∣ entry → Completes (exec (.coreReload c) s) fun t => (∀ r, (t.cr c).reg r = 0) ∧ (∀ i, (t.cr c).ctl c i = if i = 6 then 1
      else if i = 0x18 then c else 0) ∧ t.get IRQ_EN_LO irqPage c = 0 ∧ t.get IRQ_EN_HI irqPage c = 0 ∧ (t.cr c).pc = entry)

/-- In D-RAM, shared SRAM and the rind a load gives what the last store put there, least significant byte at the lowest address; every other
byte of D-space is as before, and so is every other core's D-RAM. -/
def Obligations.DSpaceReadAfterWrite : Prop :=
  (∀ (s : State) (c a n v : Nat), (a + n ≤ 0x8000 ∨ 0x10000000 ≤ a ∧ a + n ≤ 0x10200000 ∨ 0x20000000 ≤ a ∧ a + n ≤ 0x20004000) → (s.dPut c a n v).dGet c
      a n = v % 256 ^ n) ∧
  (∀ (s : State) (c a n v i : Nat), (a + n ≤ 0x8000 ∨ 0x10000000 ≤ a ∧ a + n ≤ 0x10200000 ∨ 0x20000000 ≤ a ∧ a + n ≤ 0x20004000) → i < n → (s.dPut c a n
      v).dGet c (a + i) 1 = v / 256 ^ i % 256) ∧
  (∀ (s : State) (c a n v b : Nat), (a + n ≤ 0x8000 ∨ 0x10000000 ≤ a ∧ a + n ≤ 0x10200000 ∨ 0x20000000 ≤ a ∧ a + n ≤ 0x20004000) → (b < 0x8000 ∨
      0x10000000 ≤ b) → (b < a ∨ a + n ≤ b) → (s.dPut c a n v).dGet c b 1 = s.dGet c b 1) ∧
  (∀ (s : State) (c d a n v : Nat), d ≠ c → tget (s.dPut c a n v).dram d [] = tget s.dram d [] ∧ (s.dPut c a n v).iram = s.iram ∧ (s.dPut c a n v).cnvm =
      s.cnvm)

/-- A Sirham command other than IN, OUT, INP, OUTP and HALT changes no other core, no I-RAM, no EEPROM, no code NVM, no message RAM, no mailbox
or soft bit, no fuse, no state of a power stage and not the time base; one that does not store leaves D-RAM, shared SRAM and rind
alone, and a store leaves alone every byte but those of its address. -/
def Obligations.CoreFrame : Prop :=
  (∀ (s t : State) (i : Instr) (c d : Nat), i.coreOf = some c → exec i s = .next t → d ≠ c → t.cr d = s.cr d ∧ tget t.dram d [] = tget s.dram d [] ∧
      t.iram = s.iram ∧ t.eeprom = s.eeprom ∧ t.nvm = s.nvm ∧ t.cnvm = s.cnvm ∧ t.msgRam = s.msgRam ∧ t.mbox = s.mbox ∧ t.soft = s.soft ∧ t.fuse =
      s.fuse ∧ t.boot = s.boot ∧ t.chan = s.chan ∧ t.bridge = s.bridge ∧ t.valve = s.valve ∧ t.fio = s.fio ∧ t.shadow = s.shadow ∧ t.tb = s.tb) ∧
  (∀ (s t : State) (i : Instr) (c : Nat), i.coreOf = some c → i.storesD = false → exec i s = .next t → t.dram = s.dram ∧ t.sram = s.sram ∧ t.rind =
      s.rind) ∧
  (∀ (s t : State) (c rs ra imm a b : Nat), exec (.iStw c rs ra imm) s = .next t → a = ((s.seen c).word ra + immWord imm).toNat → (b < 0x8000 ∨
      0x10000000 ≤ b) → (b < a ∨ a + 4 ≤ b) → t.dGet c b 1 = s.dGet c b 1) ∧
  (∀ (s t : State) (c rs ra imm a b : Nat), exec (.iSth c rs ra imm) s = .next t → a = ((s.seen c).word ra + immWord imm).toNat → (b < 0x8000 ∨
      0x10000000 ≤ b) → (b < a ∨ a + 2 ≤ b) → t.dGet c b 1 = s.dGet c b 1) ∧
  (∀ (s t : State) (c rs ra imm a b : Nat), exec (.iStb c rs ra imm) s = .next t → a = ((s.seen c).word ra + immWord imm).toNat → (b < 0x8000 ∨
      0x10000000 ≤ b) → (b < a ∨ a + 1 ≤ b) → t.dGet c b 1 = s.dGet c b 1)

/-- Word i of a counter page is valid when it is not all ones, its top byte is the CRC-8 of its other bytes (polynomial 0x07, initial value 0),
its value modulo 16 is i and it has no uncorrectable error. The counter's value is the largest of the valid words' values; with no
valid word it is 0 and EMPTY is set. -/
def Obligations.ChurnCounterValue : Prop :=
  (∀ (b : Nat) (l : List Nat), crc8 [] = 0 ∧ crc8 (l ++ [b]) = (List.range 8).foldl (fun c _ => if 128 ≤ c then (c * 2 % 256) ^^^ 7 else c * 2) (crc8 l
      ^^^ b)) ∧
  (∀ (s : State) (p i : Nat), s.cntOk p i = true ↔ s.eeWord (16 * p + i) ≠ 0xFFFFFFFF ∧ s.eeWord (16 * p + i) / 2 ^ 24 = crc8 [s.eeWord (16 * p + i) %
      256, s.eeWord (16 * p + i) / 256 % 256, s.eeWord (16 * p + i) / 65536 % 256] ∧ s.eeWord (16 * p + i) % 2 ^ 24 % 16 = i ∧ s.eeUe (16 * p + i) =
      false) ∧
  (∀ (s : State) (p i : Nat), i < 16 → s.cntOk p i = true → s.eeWord (16 * p + i) % 2 ^ 24 ≤ s.cntValue p ∧ ∃ j, j < 16 ∧ s.cntOk p j = true ∧ s.cntValue
      p = s.eeWord (16 * p + j) % 2 ^ 24) ∧
  (∀ (s : State) (p : Nat), (∀ i < 16, s.cntOk p i = false) → s.cntValue p = 0 ∧ s.cntEmpty p = true) ∧
  (∀ (s : State) (r : RecCmd), r.k < 4 → (cntShow s r).get REC_VALUE recPage r.k = s.cntValue r.a ∧ (cntShow s r).flag REC_VALUE_EMPTY recPage r.k =
      s.cntEmpty r.a)

/-- A WCMD of the buffer's owner that names a protected byte, under PROT or for want of the password, is rejected: STAT.ERR and the count of
rejected accesses, PROT_ERR set, nothing queued and no byte changed. At the host port the access is answered PROTECTED. As its
conclusion exec answers a next state, under conditions on the state and the operands alone, for the constructor: wcmd. -/
def Obligations.ProtectedWrite : Prop :=
  (∀ (s : State) (m : Master) (p off len : Nat), p < 2048 → off < 64 → len < 128 → s.takes nvmPage 0x48 (p + off * 2 ^ 16 + len * 2 ^ 24) = true →
      s.wbufMine m = true → s.accepts nvmPage = true → s.wcmdBlocked p m.code = true → Completes (exec (.wcmd m p off len) s) fun t => t.flag
      NVM_WSTAT_PROT_ERR nvmPage = true ∧ t.flag H_STAT_ERR nvmPage = true ∧ t.get H_EVT_CNT_REJECTED nvmPage = min (s.get H_EVT_CNT_REJECTED nvmPage
      + 1) 65535 ∧ t.nvm = s.nvm ∧ t.eeprom = s.eeprom ∧ (12 ≤ m.code → t.resp.kind = .guarded)) ∧
  (answerStatus .guarded = 3)

/-- A frame with bits beyond its words, or shorter than the request that its header announces, executes nothing: no memory, core, EEPROM or
queue of the NVM changes. The next frame carries the answer BAD_CRC with the OP and TAG that the frame's header had. As its conclusion
exec answers a next state, under conditions on the state and the operands alone, for the constructor: spiFrame. -/
def Obligations.BrokenFrame : Prop :=
  (∀ (s : State) (a : Word) (l : List Word) (n : Nat) (wins : List (Nat × Nat)) (tag : Nat), s.clk.frozen = false → s.domOn 5 = true → s.host.run = none
      → s.accepts hostPage = true → (n ≠ 0 ∨ l.length + 1 < (if a.toNat / 2 ^ 28 = 2 ∨ a.toNat / 2 ^ 28 = 4 then 3 + (if a.toNat / 4096 % 256 = 0 then
      256 else a.toNat / 4096 % 256) else 3)) → Completes (exec (.spiFrame (a :: l) n wins) s) fun t => t.sram = s.sram ∧ t.rind = s.rind ∧ t.core =
      s.core ∧ t.eeprom = s.eeprom ∧ t.nvm = s.nvm ∧ t.cnvm = s.cnvm ∧ t.boot = s.boot ∧ t.host.queue = s.host.queue ∧ Completes (exec (.hostNop tag)
      t) fun u => u.host.hsdo = respWords (a.toNat / 2 ^ 28) (a.toNat / 2 ^ 20 % 256) 4 0 0 [])

/-- After 3 ms without a status of device n the MAP bit n clears and the other bits stay. Until the bit sets again an access through its window
is answered as unmapped and changes nothing else. As its conclusion exec answers a next state, under conditions on the state and the
operands alone, for each of the constructors: ringStatusTimeout, satelliteWindowAccess. -/
def Obligations.RingWindowGone : Prop :=
  (∀ (s : State) (d t0 b : Nat), d < 7 → (s.sat d).seen = some t0 → bitOf (s.get RING_MAP  ringPage) d = true → t0 + 3000000 ≤ s.tb → s.get RING_MAP
      ringPage < 2 ^ 7 → Completes (exec (.ringStatusTimeout d) s) fun t => bitOf (t.get RING_MAP ringPage) b = (bitOf (s.get RING_MAP ringPage) b &&
      b != d)) ∧
  (∀ (s : State) (m : Master) (d p off kind : Nat) (w : Option Word) (ans : Word), s.isMaster = true → bitOf (s.get RING_MAP ringPage) d = false → (tget
      s.stall m.key {}).window ≠ d + 1 → exec (.satelliteWindowAccess m d p off w kind ans) s = .next (s.answer .unmapped))

/-- Every core after reset has 1 resident frame, PC and window within their ranges and every value within its width; the memories stand in their
canonical form. -/
def Obligations.CoreInvariantReset : Prop :=
  CoresOk State.reset ∧ MemoriesOk State.reset

/-- From every state in which FRAMES is 1 to 15, the window within the file, PC and loop addresses aligned within I-space and every value within
its width, for every core, a step whose command is a Sirham instruction or core event, other than IN, OUT, INP, OUTP and HALT, leads
to such a state. The value of FRAMES when a SPILL or FILL in a delay slot has moved it to its limit is free between 1 and 15 (log 76). -/
def Obligations.CoreInvariantKept : Prop :=
  (∀ (s t : State) (i : Instr) (q : List Instr) (c : Nat), CoresOk s → s.pending = i :: q → i.coreOf = some c → step s = .next t → CoresOk t)

/-- From every state whose memories stand in their canonical form, a step whose command is a Sirham instruction or core event, other than IN,
OUT, INP, OUTP and HALT, leads to such a state. -/
def Obligations.MemoriesKept : Prop :=
  (∀ (s t : State) (i : Instr) (q : List Instr) (c : Nat), MemoriesOk s → s.pending = i :: q → i.coreOf = some c → step s = .next t → MemoriesOk t)
end

