-- ==== Sys2Proof/Laws/Table.lean ====
section
/-! SUPPORT. Laws of the sparse tables and the byte memories: what a read after a write gives, and that every write keeps the
canonical form. -/

namespace Sys2Proof.Machine

theorem tget_tdel_same {α : Type} (t : Table α) (k : Nat) (d : α) : tget (tdel t k) k d = d := by
  induction t with
  | nil => rfl
  | cons e r ih => by_cases h : e.1 = k <;> simp [tdel, tget, h, ih]

theorem tget_tdel_ne {α : Type} (t : Table α) {k j : Nat} (d : α) (h : j ≠ k) : tget (tdel t k) j d = tget t j d := by
  induction t with
  | nil => rfl
  | cons e r ih =>
    by_cases hk : e.1 = k
    · have hj : e.1 ≠ j := fun x => h (x.symm.trans hk)
      simp [tdel, tget, hk, ih, Ne.symm h]
    · simp only [tdel, if_neg hk, tget, ih]

theorem tget_tins_same {α : Type} (t : Table α) (k : Nat) (v d : α) (h : ∀ e ∈ t, e.1 ≠ k) : tget (tins t k v) k d = v := by
  induction t with
  | nil => simp [tins, tget]
  | cons e r ih =>
    have he : e.1 ≠ k := h e (by simp)
    by_cases hl : k < e.1
    · simp [tins, tget, hl]
    · simp [tins, tget, hl, he, ih fun x hx => h x (by simp [hx])]

theorem tget_tins_ne {α : Type} (t : Table α) {k j : Nat} (v d : α) (h : j ≠ k) : tget (tins t k v) j d = tget t j d := by
  induction t with
  | nil => simp [tins, tget, Ne.symm h]
  | cons e r ih =>
    by_cases hl : k < e.1
    · simp [tins, tget, hl, Ne.symm h]
    · simp only [tins, if_neg hl, tget, ih]

theorem tdel_mem_ne {α : Type} {t : Table α} {k : Nat} {e : Nat × α} (h : e ∈ tdel t k) : e.1 ≠ k := by
  induction t with
  | nil => simp [tdel] at h
  | cons a r ih =>
    by_cases hk : a.1 = k
    · exact ih (by simpa [tdel, hk] using h)
    · rcases List.mem_cons.1 (by simpa [tdel, hk] using h) with rfl | h'
      · exact hk
      · exact ih h'

/-- A read of the key just written gives the value. -/
theorem tget_tput_same {α : Type} [DecidableEq α] (t : Table α) (k : Nat) (d v : α) : tget (tput t k d v) k d = v := by
  unfold tput
  split
  · next h => rw [tget_tdel_same, h]
  · exact tget_tins_same _ _ _ _ fun _ h => tdel_mem_ne h

/-- A write leaves every other key alone. -/
theorem tget_tput_ne {α : Type} [DecidableEq α] (t : Table α) {k j : Nat} (d v c : α) (h : j ≠ k) : tget (tput t k d v) j c = tget t j c := by
  unfold tput
  split
  · exact tget_tdel_ne t c h
  · rw [tget_tins_ne _ _ _ h, tget_tdel_ne t c h]

/-! The canonical form: rising keys, and nothing listed that equals the default. -/

theorem tdel_mem {α : Type} {t : Table α} {k : Nat} {e : Nat × α} (h : e ∈ tdel t k) : e ∈ t := by
  induction t with
  | nil => simp [tdel] at h
  | cons a r ih =>
    by_cases hk : a.1 = k
    · exact List.mem_cons_of_mem _ (ih (by simpa [tdel, hk] using h))
    · rcases List.mem_cons.1 (by simpa [tdel, hk] using h) with rfl | h'
      · exact List.mem_cons_self
      · exact List.mem_cons_of_mem _ (ih h')

theorem tins_mem {α : Type} {t : Table α} {k : Nat} {v : α} {e : Nat × α} (h : e ∈ tins t k v) : e = (k, v) ∨ e ∈ t := by
  induction t with
  | nil => simpa [tins] using h
  | cons a r ih =>
    by_cases hl : k < a.1
    · simpa [tins, hl] using h
    · rcases List.mem_cons.1 (by simpa [tins, hl] using h) with rfl | h'
      · exact .inr List.mem_cons_self
      · exact (ih h').imp id (List.mem_cons_of_mem _)

theorem rising_tdel {α : Type} {t : Table α} (k : Nat) (h : rising t) : rising (tdel t k) := by
  induction t with
  | nil => exact h
  | cons a r ih =>
    obtain ⟨ha, hr⟩ := List.pairwise_cons.1 h
    by_cases hk : a.1 = k
    · simpa [tdel, hk] using ih hr
    · simp only [tdel, if_neg hk]
      exact List.pairwise_cons.2 ⟨fun x hx => ha x (tdel_mem hx), ih hr⟩

theorem rising_tins {α : Type} {t : Table α} (k : Nat) (v : α) (h : rising t) (hk : ∀ e ∈ t, e.1 ≠ k) : rising (tins t k v) := by
  induction t with
  | nil => simp [tins, rising]
  | cons a r ih =>
    obtain ⟨ha, hr⟩ := List.pairwise_cons.1 h
    by_cases hl : k < a.1
    · have : rising ((k, v) :: a :: r) := List.pairwise_cons.2 ⟨fun x hx => by
        rcases List.mem_cons.1 hx with rfl | hx
        · exact hl
        · exact Nat.lt_trans hl (ha x hx), h⟩
      simpa [tins, hl] using this
    · have hne : a.1 ≠ k := hk a (by simp)
      have hlt : a.1 < k := by omega
      have : rising (a :: tins r k v) := List.pairwise_cons.2 ⟨fun x hx => by
        rcases tins_mem hx with rfl | hx
        · exact hlt
        · exact ha x hx, ih hr fun e he => hk e (by simp [he])⟩
      simpa [tins, hl] using this

/-- A write keeps the keys rising. -/
theorem rising_tput {α : Type} [DecidableEq α] {t : Table α} (k : Nat) (d v : α) (h : rising t) : rising (tput t k d v) := by
  unfold tput
  split
  · exact rising_tdel k h
  · exact rising_tins k v (rising_tdel k h) fun _ he => tdel_mem_ne he

/-- A write lists nothing that equals the default. -/
theorem tput_listed {α : Type} [DecidableEq α] {t : Table α} (k : Nat) (d v : α) (h : ∀ e ∈ t, e.2 ≠ d) : ∀ e ∈ tput t k d v, e.2 ≠ d := by
  intro e he
  unfold tput at he
  split at he
  · exact h e (tdel_mem he)
  · next hv =>
    rcases tins_mem he with rfl | he
    · exact hv
    · exact h e (tdel_mem he)

theorem tsorted_rising {α : Type} (t : Table α) : tsorted t = true ↔ rising t := by
  induction t with
  | nil => simp [tsorted, rising]
  | cons a r ih =>
    cases r with
    | nil => simp [tsorted, rising]
    | cons b q =>
      simp only [tsorted, Bool.and_eq_true, decide_eq_true_eq, ih]
      constructor
      · rintro ⟨hab, hr⟩
        refine List.pairwise_cons.2 ⟨fun x hx => ?_, hr⟩
        rcases List.mem_cons.1 hx with rfl | hx
        · exact hab
        · exact Nat.lt_trans hab ((List.pairwise_cons.1 hr).1 x hx)
      · intro h
        obtain ⟨ha, hr⟩ := List.pairwise_cons.1 h
        exact ⟨ha b (by simp), hr⟩

/-- The canonical form of a memory, as a proposition. -/
theorem wf_iff (d : Byte) (m : List Host.Cell) : Memory.wf d m = true ↔ rising m ∧ ∀ e ∈ m, e.2 ≠ d := by
  simp [Memory.wf, tsorted_rising]

/-- Storing a byte keeps the canonical form. -/
theorem wf_mput {d : Byte} {m : List Host.Cell} (a : Nat) (b : Byte) (h : Memory.wf d m = true) : Memory.wf d (mput m d a b) = true := by
  rw [wf_iff] at h ⊢
  exact ⟨rising_tput a d b h.1, tput_listed a d b h.2⟩

/-- Storing a number byte by byte keeps the canonical form. -/
theorem wf_mputN {d : Byte} (n : Nat) : ∀ {m : List Host.Cell} (a v : Nat), Memory.wf d m = true → Memory.wf d (mputN m d a n v) = true := by
  induction n with
  | zero => exact fun _ _ h => h
  | succ n ih => exact fun a v h => ih (a + 1) (v / 256) (wf_mput a _ h)

/-- Storing a list of bytes keeps the canonical form. -/
theorem wf_mputBytes {d : Byte} (bs : List Byte) : ∀ {m : List Host.Cell} (a : Nat), Memory.wf d m = true → Memory.wf d (mputBytes m d a bs) = true := by
  induction bs with
  | nil => exact fun _ h => h
  | cons b r ih => exact fun a h => ih (a + 1) (wf_mput a b h)

/-- A byte just stored reads back. -/
theorem mget_mput_same (m : List Host.Cell) (d : Byte) (a : Nat) (b : Byte) : mget (mput m d a b) d a = b := tget_tput_same m a d b

/-- Storing a byte leaves every other byte alone. -/
theorem mget_mput_ne (m : List Host.Cell) (d : Byte) {a j : Nat} (b : Byte) (h : j ≠ a) : mget (mput m d a b) d j = mget m d j :=
  tget_tput_ne m d b d h

/-- Storing `n` bytes from `a` leaves every byte outside them alone. -/
theorem mget_mputN_out (n : Nat) : ∀ (m : List Host.Cell) (d : Byte) (a v j : Nat), (j < a ∨ a + n ≤ j) →
    mget (mputN m d a n v) d j = mget m d j := by
  induction n with
  | zero => exact fun _ _ _ _ _ _ => rfl
  | succ n ih =>
    intro m d a v j h
    have h1 : j < a + 1 ∨ a + 1 + n ≤ j := by omega
    have h2 : j ≠ a := by omega
    rw [mputN, ih _ d (a + 1) _ j h1, mget_mput_ne m d _ h2]

/-- A number stored byte by byte reads back, below its size. -/
theorem mgetN_mputN (n : Nat) : ∀ (m : List Host.Cell) (d : Byte) (a v : Nat), mgetN (mputN m d a n v) d a n = v % 256 ^ n := by
  induction n with
  | zero => intro m d a v; simp [mgetN, Nat.mod_one]
  | succ n ih =>
    intro m d a v
    have h : mget (mputN (mput m d a (BitVec.ofNat 8 v)) d (a + 1) n (v / 256)) d a = BitVec.ofNat 8 v := by
      rw [mget_mputN_out n _ d (a + 1) _ a (by omega), mget_mput_same]
    have e : 256 ^ (n + 1) = 256 * 256 ^ n := by rw [Nat.pow_succ, Nat.mul_comm]
    rw [mgetN, mputN, ih, h, BitVec.toNat_ofNat, e, Nat.mod_mul]

/-- Storing `m` bytes elsewhere leaves a read of `n` bytes alone. -/
theorem mgetN_mputN_out (n : Nat) : ∀ (l : List Host.Cell) (d : Byte) (a b k v : Nat), (b + n ≤ a ∨ a + k ≤ b) →
    mgetN (mputN l d a k v) d b n = mgetN l d b n := by
  induction n with
  | zero => exact fun _ _ _ _ _ _ _ => rfl
  | succ n ih =>
    intro l d a b k v h
    rw [mgetN, mgetN, mget_mputN_out k l d a v b (by omega), ih l d a (b + 1) k v (by omega)]

end Sys2Proof.Machine
end

