-- ==== Sys2Proof/Laws/State.lean ====
section
/-! SUPPORT. What each update of the state leaves alone, field by field, and what a read of a register field gives after a write. -/

namespace Sys2Proof.Machine

/-! `State.wr` changes `reg` alone. -/
@[simp] theorem State.wr_shadow (s : State) (l : Loc) (v : Nat) : (s.wr l v).shadow = s.shadow := rfl
@[simp] theorem State.wr_resp (s : State) (l : Loc) (v : Nat) : (s.wr l v).resp = s.resp := rfl
@[simp] theorem State.wr_free (s : State) (l : Loc) (v : Nat) : (s.wr l v).free = s.free := rfl
@[simp] theorem State.wr_tb (s : State) (l : Loc) (v : Nat) : (s.wr l v).tb = s.tb := rfl
@[simp] theorem State.wr_tbFrac (s : State) (l : Loc) (v : Nat) : (s.wr l v).tbFrac = s.tbFrac := rfl
@[simp] theorem State.wr_tbHid (s : State) (l : Loc) (v : Nat) : (s.wr l v).tbHid = s.tbHid := rfl
@[simp] theorem State.wr_sup (s : State) (l : Loc) (v : Nat) : (s.wr l v).sup = s.sup := rfl
@[simp] theorem State.wr_clk (s : State) (l : Loc) (v : Nat) : (s.wr l v).clk = s.clk := rfl
@[simp] theorem State.wr_cmp (s : State) (l : Loc) (v : Nat) : (s.wr l v).cmp = s.cmp := rfl
@[simp] theorem State.wr_casc (s : State) (l : Loc) (v : Nat) : (s.wr l v).casc = s.casc := rfl
@[simp] theorem State.wr_cascPhase (s : State) (l : Loc) (v : Nat) : (s.wr l v).cascPhase = s.cascPhase := rfl
@[simp] theorem State.wr_dom (s : State) (l : Loc) (v : Nat) : (s.wr l v).dom = s.dom := rfl
@[simp] theorem State.wr_reqs (s : State) (l : Loc) (v : Nat) : (s.wr l v).reqs = s.reqs := rfl
@[simp] theorem State.wr_stall (s : State) (l : Loc) (v : Nat) : (s.wr l v).stall = s.stall := rfl
@[simp] theorem State.wr_rind (s : State) (l : Loc) (v : Nat) : (s.wr l v).rind = s.rind := rfl
@[simp] theorem State.wr_wdgAlt (s : State) (l : Loc) (v : Nat) : (s.wr l v).wdgAlt = s.wdgAlt := rfl
@[simp] theorem State.wr_wdgReset (s : State) (l : Loc) (v : Nat) : (s.wr l v).wdgReset = s.wdgReset := rfl
@[simp] theorem State.wr_wdgFrom (s : State) (l : Loc) (v : Nat) : (s.wr l v).wdgFrom = s.wdgFrom := rfl
@[simp] theorem State.wr_wdgPause (s : State) (l : Loc) (v : Nat) : (s.wr l v).wdgPause = s.wdgPause := rfl
@[simp] theorem State.wr_wdgMs (s : State) (l : Loc) (v : Nat) : (s.wr l v).wdgMs = s.wdgMs := rfl
@[simp] theorem State.wr_gate (s : State) (l : Loc) (v : Nat) : (s.wr l v).gate = s.gate := rfl
@[simp] theorem State.wr_cald (s : State) (l : Loc) (v : Nat) : (s.wr l v).cald = s.cald := rfl
@[simp] theorem State.wr_chan (s : State) (l : Loc) (v : Nat) : (s.wr l v).chan = s.chan := rfl
@[simp] theorem State.wr_fio (s : State) (l : Loc) (v : Nat) : (s.wr l v).fio = s.fio := rfl
@[simp] theorem State.wr_keep (s : State) (l : Loc) (v : Nat) : (s.wr l v).keep = s.keep := rfl
@[simp] theorem State.wr_bridge (s : State) (l : Loc) (v : Nat) : (s.wr l v).bridge = s.bridge := rfl
@[simp] theorem State.wr_rpe (s : State) (l : Loc) (v : Nat) : (s.wr l v).rpe = s.rpe := rfl
@[simp] theorem State.wr_valve (s : State) (l : Loc) (v : Nat) : (s.wr l v).valve = s.valve := rfl
@[simp] theorem State.wr_bank (s : State) (l : Loc) (v : Nat) : (s.wr l v).bank = s.bank := rfl
@[simp] theorem State.wr_swi (s : State) (l : Loc) (v : Nat) : (s.wr l v).swi = s.swi := rfl
@[simp] theorem State.wr_parkQ (s : State) (l : Loc) (v : Nat) : (s.wr l v).parkQ = s.parkQ := rfl
@[simp] theorem State.wr_ssupOc (s : State) (l : Loc) (v : Nat) : (s.wr l v).ssupOc = s.ssupOc := rfl
@[simp] theorem State.wr_sense (s : State) (l : Loc) (v : Nat) : (s.wr l v).sense = s.sense := rfl
@[simp] theorem State.wr_led (s : State) (l : Loc) (v : Nat) : (s.wr l v).led = s.led := rfl
@[simp] theorem State.wr_ldc (s : State) (l : Loc) (v : Nat) : (s.wr l v).ldc = s.ldc := rfl
@[simp] theorem State.wr_ldcRam (s : State) (l : Loc) (v : Nat) : (s.wr l v).ldcRam = s.ldcRam := rfl
@[simp] theorem State.wr_preps (s : State) (l : Loc) (v : Nat) : (s.wr l v).preps = s.preps := rfl
@[simp] theorem State.wr_slots (s : State) (l : Loc) (v : Nat) : (s.wr l v).slots = s.slots := rfl
@[simp] theorem State.wr_woken (s : State) (l : Loc) (v : Nat) : (s.wr l v).woken = s.woken := rfl
@[simp] theorem State.wr_fer (s : State) (l : Loc) (v : Nat) : (s.wr l v).fer = s.fer := rfl
@[simp] theorem State.wr_immo (s : State) (l : Loc) (v : Nat) : (s.wr l v).immo = s.immo := rfl
@[simp] theorem State.wr_lf (s : State) (l : Loc) (v : Nat) : (s.wr l v).lf = s.lf := rfl
@[simp] theorem State.wr_can (s : State) (l : Loc) (v : Nat) : (s.wr l v).can = s.can := rfl
@[simp] theorem State.wr_xcvr (s : State) (l : Loc) (v : Nat) : (s.wr l v).xcvr = s.xcvr := rfl
@[simp] theorem State.wr_vcc5Low (s : State) (l : Loc) (v : Nat) : (s.wr l v).vcc5Low = s.vcc5Low := rfl
@[simp] theorem State.wr_msgRam (s : State) (l : Loc) (v : Nat) : (s.wr l v).msgRam = s.msgRam := rfl
@[simp] theorem State.wr_nmBus (s : State) (l : Loc) (v : Nat) : (s.wr l v).nmBus = s.nmBus := rfl
@[simp] theorem State.wr_nm (s : State) (l : Loc) (v : Nat) : (s.wr l v).nm = s.nm := rfl
@[simp] theorem State.wr_wake (s : State) (l : Loc) (v : Nat) : (s.wr l v).wake = s.wake := rfl
@[simp] theorem State.wr_lin (s : State) (l : Loc) (v : Nat) : (s.wr l v).lin = s.lin := rfl
@[simp] theorem State.wr_mac (s : State) (l : Loc) (v : Nat) : (s.wr l v).mac = s.mac := rfl
@[simp] theorem State.wr_nt (s : State) (l : Loc) (v : Nat) : (s.wr l v).nt = s.nt := rfl
@[simp] theorem State.wr_ring (s : State) (l : Loc) (v : Nat) : (s.wr l v).ring = s.ring := rfl
@[simp] theorem State.wr_core (s : State) (l : Loc) (v : Nat) : (s.wr l v).core = s.core := rfl
@[simp] theorem State.wr_dram (s : State) (l : Loc) (v : Nat) : (s.wr l v).dram = s.dram := rfl
@[simp] theorem State.wr_iram (s : State) (l : Loc) (v : Nat) : (s.wr l v).iram = s.iram := rfl
@[simp] theorem State.wr_soft (s : State) (l : Loc) (v : Nat) : (s.wr l v).soft = s.soft := rfl
@[simp] theorem State.wr_mbox (s : State) (l : Loc) (v : Nat) : (s.wr l v).mbox = s.mbox := rfl
@[simp] theorem State.wr_eccBad (s : State) (l : Loc) (v : Nat) : (s.wr l v).eccBad = s.eccBad := rfl
@[simp] theorem State.wr_logMin (s : State) (l : Loc) (v : Nat) : (s.wr l v).logMin = s.logMin := rfl
@[simp] theorem State.wr_nvm (s : State) (l : Loc) (v : Nat) : (s.wr l v).nvm = s.nvm := rfl
@[simp] theorem State.wr_eeprom (s : State) (l : Loc) (v : Nat) : (s.wr l v).eeprom = s.eeprom := rfl
@[simp] theorem State.wr_torn (s : State) (l : Loc) (v : Nat) : (s.wr l v).torn = s.torn := rfl
@[simp] theorem State.wr_boot (s : State) (l : Loc) (v : Nat) : (s.wr l v).boot = s.boot := rfl
@[simp] theorem State.wr_fuse (s : State) (l : Loc) (v : Nat) : (s.wr l v).fuse = s.fuse := rfl
@[simp] theorem State.wr_att (s : State) (l : Loc) (v : Nat) : (s.wr l v).att = s.att := rfl
@[simp] theorem State.wr_host (s : State) (l : Loc) (v : Nat) : (s.wr l v).host = s.host := rfl
@[simp] theorem State.wr_mon (s : State) (l : Loc) (v : Nat) : (s.wr l v).mon = s.mon := rfl
@[simp] theorem State.wr_cnvm (s : State) (l : Loc) (v : Nat) : (s.wr l v).cnvm = s.cnvm := rfl
@[simp] theorem State.wr_sram (s : State) (l : Loc) (v : Nat) : (s.wr l v).sram = s.sram := rfl
@[simp] theorem State.wr_pending (s : State) (l : Loc) (v : Nat) : (s.wr l v).pending = s.pending := rfl

/-! `State.set` changes `reg` alone. -/
@[simp] theorem State.set_shadow (s : State) (f : Fld) (p v i j : Nat) : (s.set f p v i j).shadow = s.shadow := rfl
@[simp] theorem State.set_resp (s : State) (f : Fld) (p v i j : Nat) : (s.set f p v i j).resp = s.resp := rfl
@[simp] theorem State.set_free (s : State) (f : Fld) (p v i j : Nat) : (s.set f p v i j).free = s.free := rfl
@[simp] theorem State.set_tb (s : State) (f : Fld) (p v i j : Nat) : (s.set f p v i j).tb = s.tb := rfl
@[simp] theorem State.set_tbFrac (s : State) (f : Fld) (p v i j : Nat) : (s.set f p v i j).tbFrac = s.tbFrac := rfl
@[simp] theorem State.set_tbHid (s : State) (f : Fld) (p v i j : Nat) : (s.set f p v i j).tbHid = s.tbHid := rfl
@[simp] theorem State.set_sup (s : State) (f : Fld) (p v i j : Nat) : (s.set f p v i j).sup = s.sup := rfl
@[simp] theorem State.set_clk (s : State) (f : Fld) (p v i j : Nat) : (s.set f p v i j).clk = s.clk := rfl
@[simp] theorem State.set_cmp (s : State) (f : Fld) (p v i j : Nat) : (s.set f p v i j).cmp = s.cmp := rfl
@[simp] theorem State.set_casc (s : State) (f : Fld) (p v i j : Nat) : (s.set f p v i j).casc = s.casc := rfl
@[simp] theorem State.set_cascPhase (s : State) (f : Fld) (p v i j : Nat) : (s.set f p v i j).cascPhase = s.cascPhase := rfl
@[simp] theorem State.set_dom (s : State) (f : Fld) (p v i j : Nat) : (s.set f p v i j).dom = s.dom := rfl
@[simp] theorem State.set_reqs (s : State) (f : Fld) (p v i j : Nat) : (s.set f p v i j).reqs = s.reqs := rfl
@[simp] theorem State.set_stall (s : State) (f : Fld) (p v i j : Nat) : (s.set f p v i j).stall = s.stall := rfl
@[simp] theorem State.set_rind (s : State) (f : Fld) (p v i j : Nat) : (s.set f p v i j).rind = s.rind := rfl
@[simp] theorem State.set_wdgAlt (s : State) (f : Fld) (p v i j : Nat) : (s.set f p v i j).wdgAlt = s.wdgAlt := rfl
@[simp] theorem State.set_wdgReset (s : State) (f : Fld) (p v i j : Nat) : (s.set f p v i j).wdgReset = s.wdgReset := rfl
@[simp] theorem State.set_wdgFrom (s : State) (f : Fld) (p v i j : Nat) : (s.set f p v i j).wdgFrom = s.wdgFrom := rfl
@[simp] theorem State.set_wdgPause (s : State) (f : Fld) (p v i j : Nat) : (s.set f p v i j).wdgPause = s.wdgPause := rfl
@[simp] theorem State.set_wdgMs (s : State) (f : Fld) (p v i j : Nat) : (s.set f p v i j).wdgMs = s.wdgMs := rfl
@[simp] theorem State.set_gate (s : State) (f : Fld) (p v i j : Nat) : (s.set f p v i j).gate = s.gate := rfl
@[simp] theorem State.set_cald (s : State) (f : Fld) (p v i j : Nat) : (s.set f p v i j).cald = s.cald := rfl
@[simp] theorem State.set_chan (s : State) (f : Fld) (p v i j : Nat) : (s.set f p v i j).chan = s.chan := rfl
@[simp] theorem State.set_fio (s : State) (f : Fld) (p v i j : Nat) : (s.set f p v i j).fio = s.fio := rfl
@[simp] theorem State.set_keep (s : State) (f : Fld) (p v i j : Nat) : (s.set f p v i j).keep = s.keep := rfl
@[simp] theorem State.set_bridge (s : State) (f : Fld) (p v i j : Nat) : (s.set f p v i j).bridge = s.bridge := rfl
@[simp] theorem State.set_rpe (s : State) (f : Fld) (p v i j : Nat) : (s.set f p v i j).rpe = s.rpe := rfl
@[simp] theorem State.set_valve (s : State) (f : Fld) (p v i j : Nat) : (s.set f p v i j).valve = s.valve := rfl
@[simp] theorem State.set_bank (s : State) (f : Fld) (p v i j : Nat) : (s.set f p v i j).bank = s.bank := rfl
@[simp] theorem State.set_swi (s : State) (f : Fld) (p v i j : Nat) : (s.set f p v i j).swi = s.swi := rfl
@[simp] theorem State.set_parkQ (s : State) (f : Fld) (p v i j : Nat) : (s.set f p v i j).parkQ = s.parkQ := rfl
@[simp] theorem State.set_ssupOc (s : State) (f : Fld) (p v i j : Nat) : (s.set f p v i j).ssupOc = s.ssupOc := rfl
@[simp] theorem State.set_sense (s : State) (f : Fld) (p v i j : Nat) : (s.set f p v i j).sense = s.sense := rfl
@[simp] theorem State.set_led (s : State) (f : Fld) (p v i j : Nat) : (s.set f p v i j).led = s.led := rfl
@[simp] theorem State.set_ldc (s : State) (f : Fld) (p v i j : Nat) : (s.set f p v i j).ldc = s.ldc := rfl
@[simp] theorem State.set_ldcRam (s : State) (f : Fld) (p v i j : Nat) : (s.set f p v i j).ldcRam = s.ldcRam := rfl
@[simp] theorem State.set_preps (s : State) (f : Fld) (p v i j : Nat) : (s.set f p v i j).preps = s.preps := rfl
@[simp] theorem State.set_slots (s : State) (f : Fld) (p v i j : Nat) : (s.set f p v i j).slots = s.slots := rfl
@[simp] theorem State.set_woken (s : State) (f : Fld) (p v i j : Nat) : (s.set f p v i j).woken = s.woken := rfl
@[simp] theorem State.set_fer (s : State) (f : Fld) (p v i j : Nat) : (s.set f p v i j).fer = s.fer := rfl
@[simp] theorem State.set_immo (s : State) (f : Fld) (p v i j : Nat) : (s.set f p v i j).immo = s.immo := rfl
@[simp] theorem State.set_lf (s : State) (f : Fld) (p v i j : Nat) : (s.set f p v i j).lf = s.lf := rfl
@[simp] theorem State.set_can (s : State) (f : Fld) (p v i j : Nat) : (s.set f p v i j).can = s.can := rfl
@[simp] theorem State.set_xcvr (s : State) (f : Fld) (p v i j : Nat) : (s.set f p v i j).xcvr = s.xcvr := rfl
@[simp] theorem State.set_vcc5Low (s : State) (f : Fld) (p v i j : Nat) : (s.set f p v i j).vcc5Low = s.vcc5Low := rfl
@[simp] theorem State.set_msgRam (s : State) (f : Fld) (p v i j : Nat) : (s.set f p v i j).msgRam = s.msgRam := rfl
@[simp] theorem State.set_nmBus (s : State) (f : Fld) (p v i j : Nat) : (s.set f p v i j).nmBus = s.nmBus := rfl
@[simp] theorem State.set_nm (s : State) (f : Fld) (p v i j : Nat) : (s.set f p v i j).nm = s.nm := rfl
@[simp] theorem State.set_wake (s : State) (f : Fld) (p v i j : Nat) : (s.set f p v i j).wake = s.wake := rfl
@[simp] theorem State.set_lin (s : State) (f : Fld) (p v i j : Nat) : (s.set f p v i j).lin = s.lin := rfl
@[simp] theorem State.set_mac (s : State) (f : Fld) (p v i j : Nat) : (s.set f p v i j).mac = s.mac := rfl
@[simp] theorem State.set_nt (s : State) (f : Fld) (p v i j : Nat) : (s.set f p v i j).nt = s.nt := rfl
@[simp] theorem State.set_ring (s : State) (f : Fld) (p v i j : Nat) : (s.set f p v i j).ring = s.ring := rfl
@[simp] theorem State.set_core (s : State) (f : Fld) (p v i j : Nat) : (s.set f p v i j).core = s.core := rfl
@[simp] theorem State.set_dram (s : State) (f : Fld) (p v i j : Nat) : (s.set f p v i j).dram = s.dram := rfl
@[simp] theorem State.set_iram (s : State) (f : Fld) (p v i j : Nat) : (s.set f p v i j).iram = s.iram := rfl
@[simp] theorem State.set_soft (s : State) (f : Fld) (p v i j : Nat) : (s.set f p v i j).soft = s.soft := rfl
@[simp] theorem State.set_mbox (s : State) (f : Fld) (p v i j : Nat) : (s.set f p v i j).mbox = s.mbox := rfl
@[simp] theorem State.set_eccBad (s : State) (f : Fld) (p v i j : Nat) : (s.set f p v i j).eccBad = s.eccBad := rfl
@[simp] theorem State.set_logMin (s : State) (f : Fld) (p v i j : Nat) : (s.set f p v i j).logMin = s.logMin := rfl
@[simp] theorem State.set_nvm (s : State) (f : Fld) (p v i j : Nat) : (s.set f p v i j).nvm = s.nvm := rfl
@[simp] theorem State.set_eeprom (s : State) (f : Fld) (p v i j : Nat) : (s.set f p v i j).eeprom = s.eeprom := rfl
@[simp] theorem State.set_torn (s : State) (f : Fld) (p v i j : Nat) : (s.set f p v i j).torn = s.torn := rfl
@[simp] theorem State.set_boot (s : State) (f : Fld) (p v i j : Nat) : (s.set f p v i j).boot = s.boot := rfl
@[simp] theorem State.set_fuse (s : State) (f : Fld) (p v i j : Nat) : (s.set f p v i j).fuse = s.fuse := rfl
@[simp] theorem State.set_att (s : State) (f : Fld) (p v i j : Nat) : (s.set f p v i j).att = s.att := rfl
@[simp] theorem State.set_host (s : State) (f : Fld) (p v i j : Nat) : (s.set f p v i j).host = s.host := rfl
@[simp] theorem State.set_mon (s : State) (f : Fld) (p v i j : Nat) : (s.set f p v i j).mon = s.mon := rfl
@[simp] theorem State.set_cnvm (s : State) (f : Fld) (p v i j : Nat) : (s.set f p v i j).cnvm = s.cnvm := rfl
@[simp] theorem State.set_sram (s : State) (f : Fld) (p v i j : Nat) : (s.set f p v i j).sram = s.sram := rfl
@[simp] theorem State.set_pending (s : State) (f : Fld) (p v i j : Nat) : (s.set f p v i j).pending = s.pending := rfl

/-! `State.put` changes `reg` alone. -/
@[simp] theorem State.put_shadow (s : State) (f : Fld) (p : Nat) (b : Bool) (i j : Nat) : (s.put f p b i j).shadow = s.shadow := rfl
@[simp] theorem State.put_resp (s : State) (f : Fld) (p : Nat) (b : Bool) (i j : Nat) : (s.put f p b i j).resp = s.resp := rfl
@[simp] theorem State.put_free (s : State) (f : Fld) (p : Nat) (b : Bool) (i j : Nat) : (s.put f p b i j).free = s.free := rfl
@[simp] theorem State.put_tb (s : State) (f : Fld) (p : Nat) (b : Bool) (i j : Nat) : (s.put f p b i j).tb = s.tb := rfl
@[simp] theorem State.put_tbFrac (s : State) (f : Fld) (p : Nat) (b : Bool) (i j : Nat) : (s.put f p b i j).tbFrac = s.tbFrac := rfl
@[simp] theorem State.put_tbHid (s : State) (f : Fld) (p : Nat) (b : Bool) (i j : Nat) : (s.put f p b i j).tbHid = s.tbHid := rfl
@[simp] theorem State.put_sup (s : State) (f : Fld) (p : Nat) (b : Bool) (i j : Nat) : (s.put f p b i j).sup = s.sup := rfl
@[simp] theorem State.put_clk (s : State) (f : Fld) (p : Nat) (b : Bool) (i j : Nat) : (s.put f p b i j).clk = s.clk := rfl
@[simp] theorem State.put_cmp (s : State) (f : Fld) (p : Nat) (b : Bool) (i j : Nat) : (s.put f p b i j).cmp = s.cmp := rfl
@[simp] theorem State.put_casc (s : State) (f : Fld) (p : Nat) (b : Bool) (i j : Nat) : (s.put f p b i j).casc = s.casc := rfl
@[simp] theorem State.put_cascPhase (s : State) (f : Fld) (p : Nat) (b : Bool) (i j : Nat) : (s.put f p b i j).cascPhase = s.cascPhase := rfl
@[simp] theorem State.put_dom (s : State) (f : Fld) (p : Nat) (b : Bool) (i j : Nat) : (s.put f p b i j).dom = s.dom := rfl
@[simp] theorem State.put_reqs (s : State) (f : Fld) (p : Nat) (b : Bool) (i j : Nat) : (s.put f p b i j).reqs = s.reqs := rfl
@[simp] theorem State.put_stall (s : State) (f : Fld) (p : Nat) (b : Bool) (i j : Nat) : (s.put f p b i j).stall = s.stall := rfl
@[simp] theorem State.put_rind (s : State) (f : Fld) (p : Nat) (b : Bool) (i j : Nat) : (s.put f p b i j).rind = s.rind := rfl
@[simp] theorem State.put_wdgAlt (s : State) (f : Fld) (p : Nat) (b : Bool) (i j : Nat) : (s.put f p b i j).wdgAlt = s.wdgAlt := rfl
@[simp] theorem State.put_wdgReset (s : State) (f : Fld) (p : Nat) (b : Bool) (i j : Nat) : (s.put f p b i j).wdgReset = s.wdgReset := rfl
@[simp] theorem State.put_wdgFrom (s : State) (f : Fld) (p : Nat) (b : Bool) (i j : Nat) : (s.put f p b i j).wdgFrom = s.wdgFrom := rfl
@[simp] theorem State.put_wdgPause (s : State) (f : Fld) (p : Nat) (b : Bool) (i j : Nat) : (s.put f p b i j).wdgPause = s.wdgPause := rfl
@[simp] theorem State.put_wdgMs (s : State) (f : Fld) (p : Nat) (b : Bool) (i j : Nat) : (s.put f p b i j).wdgMs = s.wdgMs := rfl
@[simp] theorem State.put_gate (s : State) (f : Fld) (p : Nat) (b : Bool) (i j : Nat) : (s.put f p b i j).gate = s.gate := rfl
@[simp] theorem State.put_cald (s : State) (f : Fld) (p : Nat) (b : Bool) (i j : Nat) : (s.put f p b i j).cald = s.cald := rfl
@[simp] theorem State.put_chan (s : State) (f : Fld) (p : Nat) (b : Bool) (i j : Nat) : (s.put f p b i j).chan = s.chan := rfl
@[simp] theorem State.put_fio (s : State) (f : Fld) (p : Nat) (b : Bool) (i j : Nat) : (s.put f p b i j).fio = s.fio := rfl
@[simp] theorem State.put_keep (s : State) (f : Fld) (p : Nat) (b : Bool) (i j : Nat) : (s.put f p b i j).keep = s.keep := rfl
@[simp] theorem State.put_bridge (s : State) (f : Fld) (p : Nat) (b : Bool) (i j : Nat) : (s.put f p b i j).bridge = s.bridge := rfl
@[simp] theorem State.put_rpe (s : State) (f : Fld) (p : Nat) (b : Bool) (i j : Nat) : (s.put f p b i j).rpe = s.rpe := rfl
@[simp] theorem State.put_valve (s : State) (f : Fld) (p : Nat) (b : Bool) (i j : Nat) : (s.put f p b i j).valve = s.valve := rfl
@[simp] theorem State.put_bank (s : State) (f : Fld) (p : Nat) (b : Bool) (i j : Nat) : (s.put f p b i j).bank = s.bank := rfl
@[simp] theorem State.put_swi (s : State) (f : Fld) (p : Nat) (b : Bool) (i j : Nat) : (s.put f p b i j).swi = s.swi := rfl
@[simp] theorem State.put_parkQ (s : State) (f : Fld) (p : Nat) (b : Bool) (i j : Nat) : (s.put f p b i j).parkQ = s.parkQ := rfl
@[simp] theorem State.put_ssupOc (s : State) (f : Fld) (p : Nat) (b : Bool) (i j : Nat) : (s.put f p b i j).ssupOc = s.ssupOc := rfl
@[simp] theorem State.put_sense (s : State) (f : Fld) (p : Nat) (b : Bool) (i j : Nat) : (s.put f p b i j).sense = s.sense := rfl
@[simp] theorem State.put_led (s : State) (f : Fld) (p : Nat) (b : Bool) (i j : Nat) : (s.put f p b i j).led = s.led := rfl
@[simp] theorem State.put_ldc (s : State) (f : Fld) (p : Nat) (b : Bool) (i j : Nat) : (s.put f p b i j).ldc = s.ldc := rfl
@[simp] theorem State.put_ldcRam (s : State) (f : Fld) (p : Nat) (b : Bool) (i j : Nat) : (s.put f p b i j).ldcRam = s.ldcRam := rfl
@[simp] theorem State.put_preps (s : State) (f : Fld) (p : Nat) (b : Bool) (i j : Nat) : (s.put f p b i j).preps = s.preps := rfl
@[simp] theorem State.put_slots (s : State) (f : Fld) (p : Nat) (b : Bool) (i j : Nat) : (s.put f p b i j).slots = s.slots := rfl
@[simp] theorem State.put_woken (s : State) (f : Fld) (p : Nat) (b : Bool) (i j : Nat) : (s.put f p b i j).woken = s.woken := rfl
@[simp] theorem State.put_fer (s : State) (f : Fld) (p : Nat) (b : Bool) (i j : Nat) : (s.put f p b i j).fer = s.fer := rfl
@[simp] theorem State.put_immo (s : State) (f : Fld) (p : Nat) (b : Bool) (i j : Nat) : (s.put f p b i j).immo = s.immo := rfl
@[simp] theorem State.put_lf (s : State) (f : Fld) (p : Nat) (b : Bool) (i j : Nat) : (s.put f p b i j).lf = s.lf := rfl
@[simp] theorem State.put_can (s : State) (f : Fld) (p : Nat) (b : Bool) (i j : Nat) : (s.put f p b i j).can = s.can := rfl
@[simp] theorem State.put_xcvr (s : State) (f : Fld) (p : Nat) (b : Bool) (i j : Nat) : (s.put f p b i j).xcvr = s.xcvr := rfl
@[simp] theorem State.put_vcc5Low (s : State) (f : Fld) (p : Nat) (b : Bool) (i j : Nat) : (s.put f p b i j).vcc5Low = s.vcc5Low := rfl
@[simp] theorem State.put_msgRam (s : State) (f : Fld) (p : Nat) (b : Bool) (i j : Nat) : (s.put f p b i j).msgRam = s.msgRam := rfl
@[simp] theorem State.put_nmBus (s : State) (f : Fld) (p : Nat) (b : Bool) (i j : Nat) : (s.put f p b i j).nmBus = s.nmBus := rfl
@[simp] theorem State.put_nm (s : State) (f : Fld) (p : Nat) (b : Bool) (i j : Nat) : (s.put f p b i j).nm = s.nm := rfl
@[simp] theorem State.put_wake (s : State) (f : Fld) (p : Nat) (b : Bool) (i j : Nat) : (s.put f p b i j).wake = s.wake := rfl
@[simp] theorem State.put_lin (s : State) (f : Fld) (p : Nat) (b : Bool) (i j : Nat) : (s.put f p b i j).lin = s.lin := rfl
@[simp] theorem State.put_mac (s : State) (f : Fld) (p : Nat) (b : Bool) (i j : Nat) : (s.put f p b i j).mac = s.mac := rfl
@[simp] theorem State.put_nt (s : State) (f : Fld) (p : Nat) (b : Bool) (i j : Nat) : (s.put f p b i j).nt = s.nt := rfl
@[simp] theorem State.put_ring (s : State) (f : Fld) (p : Nat) (b : Bool) (i j : Nat) : (s.put f p b i j).ring = s.ring := rfl
@[simp] theorem State.put_core (s : State) (f : Fld) (p : Nat) (b : Bool) (i j : Nat) : (s.put f p b i j).core = s.core := rfl
@[simp] theorem State.put_dram (s : State) (f : Fld) (p : Nat) (b : Bool) (i j : Nat) : (s.put f p b i j).dram = s.dram := rfl
@[simp] theorem State.put_iram (s : State) (f : Fld) (p : Nat) (b : Bool) (i j : Nat) : (s.put f p b i j).iram = s.iram := rfl
@[simp] theorem State.put_soft (s : State) (f : Fld) (p : Nat) (b : Bool) (i j : Nat) : (s.put f p b i j).soft = s.soft := rfl
@[simp] theorem State.put_mbox (s : State) (f : Fld) (p : Nat) (b : Bool) (i j : Nat) : (s.put f p b i j).mbox = s.mbox := rfl
@[simp] theorem State.put_eccBad (s : State) (f : Fld) (p : Nat) (b : Bool) (i j : Nat) : (s.put f p b i j).eccBad = s.eccBad := rfl
@[simp] theorem State.put_logMin (s : State) (f : Fld) (p : Nat) (b : Bool) (i j : Nat) : (s.put f p b i j).logMin = s.logMin := rfl
@[simp] theorem State.put_nvm (s : State) (f : Fld) (p : Nat) (b : Bool) (i j : Nat) : (s.put f p b i j).nvm = s.nvm := rfl
@[simp] theorem State.put_eeprom (s : State) (f : Fld) (p : Nat) (b : Bool) (i j : Nat) : (s.put f p b i j).eeprom = s.eeprom := rfl
@[simp] theorem State.put_torn (s : State) (f : Fld) (p : Nat) (b : Bool) (i j : Nat) : (s.put f p b i j).torn = s.torn := rfl
@[simp] theorem State.put_boot (s : State) (f : Fld) (p : Nat) (b : Bool) (i j : Nat) : (s.put f p b i j).boot = s.boot := rfl
@[simp] theorem State.put_fuse (s : State) (f : Fld) (p : Nat) (b : Bool) (i j : Nat) : (s.put f p b i j).fuse = s.fuse := rfl
@[simp] theorem State.put_att (s : State) (f : Fld) (p : Nat) (b : Bool) (i j : Nat) : (s.put f p b i j).att = s.att := rfl
@[simp] theorem State.put_host (s : State) (f : Fld) (p : Nat) (b : Bool) (i j : Nat) : (s.put f p b i j).host = s.host := rfl
@[simp] theorem State.put_mon (s : State) (f : Fld) (p : Nat) (b : Bool) (i j : Nat) : (s.put f p b i j).mon = s.mon := rfl
@[simp] theorem State.put_cnvm (s : State) (f : Fld) (p : Nat) (b : Bool) (i j : Nat) : (s.put f p b i j).cnvm = s.cnvm := rfl
@[simp] theorem State.put_sram (s : State) (f : Fld) (p : Nat) (b : Bool) (i j : Nat) : (s.put f p b i j).sram = s.sram := rfl
@[simp] theorem State.put_pending (s : State) (f : Fld) (p : Nat) (b : Bool) (i j : Nat) : (s.put f p b i j).pending = s.pending := rfl

/-! `State.answer` changes `resp` alone. -/
@[simp] theorem State.answer_reg (s : State) (k : Answer) (v : Nat) : (s.answer k v).reg = s.reg := rfl
@[simp] theorem State.answer_shadow (s : State) (k : Answer) (v : Nat) : (s.answer k v).shadow = s.shadow := rfl
@[simp] theorem State.answer_free (s : State) (k : Answer) (v : Nat) : (s.answer k v).free = s.free := rfl
@[simp] theorem State.answer_tb (s : State) (k : Answer) (v : Nat) : (s.answer k v).tb = s.tb := rfl
@[simp] theorem State.answer_tbFrac (s : State) (k : Answer) (v : Nat) : (s.answer k v).tbFrac = s.tbFrac := rfl
@[simp] theorem State.answer_tbHid (s : State) (k : Answer) (v : Nat) : (s.answer k v).tbHid = s.tbHid := rfl
@[simp] theorem State.answer_sup (s : State) (k : Answer) (v : Nat) : (s.answer k v).sup = s.sup := rfl
@[simp] theorem State.answer_clk (s : State) (k : Answer) (v : Nat) : (s.answer k v).clk = s.clk := rfl
@[simp] theorem State.answer_cmp (s : State) (k : Answer) (v : Nat) : (s.answer k v).cmp = s.cmp := rfl
@[simp] theorem State.answer_casc (s : State) (k : Answer) (v : Nat) : (s.answer k v).casc = s.casc := rfl
@[simp] theorem State.answer_cascPhase (s : State) (k : Answer) (v : Nat) : (s.answer k v).cascPhase = s.cascPhase := rfl
@[simp] theorem State.answer_dom (s : State) (k : Answer) (v : Nat) : (s.answer k v).dom = s.dom := rfl
@[simp] theorem State.answer_reqs (s : State) (k : Answer) (v : Nat) : (s.answer k v).reqs = s.reqs := rfl
@[simp] theorem State.answer_stall (s : State) (k : Answer) (v : Nat) : (s.answer k v).stall = s.stall := rfl
@[simp] theorem State.answer_rind (s : State) (k : Answer) (v : Nat) : (s.answer k v).rind = s.rind := rfl
@[simp] theorem State.answer_wdgAlt (s : State) (k : Answer) (v : Nat) : (s.answer k v).wdgAlt = s.wdgAlt := rfl
@[simp] theorem State.answer_wdgReset (s : State) (k : Answer) (v : Nat) : (s.answer k v).wdgReset = s.wdgReset := rfl
@[simp] theorem State.answer_wdgFrom (s : State) (k : Answer) (v : Nat) : (s.answer k v).wdgFrom = s.wdgFrom := rfl
@[simp] theorem State.answer_wdgPause (s : State) (k : Answer) (v : Nat) : (s.answer k v).wdgPause = s.wdgPause := rfl
@[simp] theorem State.answer_wdgMs (s : State) (k : Answer) (v : Nat) : (s.answer k v).wdgMs = s.wdgMs := rfl
@[simp] theorem State.answer_gate (s : State) (k : Answer) (v : Nat) : (s.answer k v).gate = s.gate := rfl
@[simp] theorem State.answer_cald (s : State) (k : Answer) (v : Nat) : (s.answer k v).cald = s.cald := rfl
@[simp] theorem State.answer_chan (s : State) (k : Answer) (v : Nat) : (s.answer k v).chan = s.chan := rfl
@[simp] theorem State.answer_fio (s : State) (k : Answer) (v : Nat) : (s.answer k v).fio = s.fio := rfl
@[simp] theorem State.answer_keep (s : State) (k : Answer) (v : Nat) : (s.answer k v).keep = s.keep := rfl
@[simp] theorem State.answer_bridge (s : State) (k : Answer) (v : Nat) : (s.answer k v).bridge = s.bridge := rfl
@[simp] theorem State.answer_rpe (s : State) (k : Answer) (v : Nat) : (s.answer k v).rpe = s.rpe := rfl
@[simp] theorem State.answer_valve (s : State) (k : Answer) (v : Nat) : (s.answer k v).valve = s.valve := rfl
@[simp] theorem State.answer_bank (s : State) (k : Answer) (v : Nat) : (s.answer k v).bank = s.bank := rfl
@[simp] theorem State.answer_swi (s : State) (k : Answer) (v : Nat) : (s.answer k v).swi = s.swi := rfl
@[simp] theorem State.answer_parkQ (s : State) (k : Answer) (v : Nat) : (s.answer k v).parkQ = s.parkQ := rfl
@[simp] theorem State.answer_ssupOc (s : State) (k : Answer) (v : Nat) : (s.answer k v).ssupOc = s.ssupOc := rfl
@[simp] theorem State.answer_sense (s : State) (k : Answer) (v : Nat) : (s.answer k v).sense = s.sense := rfl
@[simp] theorem State.answer_led (s : State) (k : Answer) (v : Nat) : (s.answer k v).led = s.led := rfl
@[simp] theorem State.answer_ldc (s : State) (k : Answer) (v : Nat) : (s.answer k v).ldc = s.ldc := rfl
@[simp] theorem State.answer_ldcRam (s : State) (k : Answer) (v : Nat) : (s.answer k v).ldcRam = s.ldcRam := rfl
@[simp] theorem State.answer_preps (s : State) (k : Answer) (v : Nat) : (s.answer k v).preps = s.preps := rfl
@[simp] theorem State.answer_slots (s : State) (k : Answer) (v : Nat) : (s.answer k v).slots = s.slots := rfl
@[simp] theorem State.answer_woken (s : State) (k : Answer) (v : Nat) : (s.answer k v).woken = s.woken := rfl
@[simp] theorem State.answer_fer (s : State) (k : Answer) (v : Nat) : (s.answer k v).fer = s.fer := rfl
@[simp] theorem State.answer_immo (s : State) (k : Answer) (v : Nat) : (s.answer k v).immo = s.immo := rfl
@[simp] theorem State.answer_lf (s : State) (k : Answer) (v : Nat) : (s.answer k v).lf = s.lf := rfl
@[simp] theorem State.answer_can (s : State) (k : Answer) (v : Nat) : (s.answer k v).can = s.can := rfl
@[simp] theorem State.answer_xcvr (s : State) (k : Answer) (v : Nat) : (s.answer k v).xcvr = s.xcvr := rfl
@[simp] theorem State.answer_vcc5Low (s : State) (k : Answer) (v : Nat) : (s.answer k v).vcc5Low = s.vcc5Low := rfl
@[simp] theorem State.answer_msgRam (s : State) (k : Answer) (v : Nat) : (s.answer k v).msgRam = s.msgRam := rfl
@[simp] theorem State.answer_nmBus (s : State) (k : Answer) (v : Nat) : (s.answer k v).nmBus = s.nmBus := rfl
@[simp] theorem State.answer_nm (s : State) (k : Answer) (v : Nat) : (s.answer k v).nm = s.nm := rfl
@[simp] theorem State.answer_wake (s : State) (k : Answer) (v : Nat) : (s.answer k v).wake = s.wake := rfl
@[simp] theorem State.answer_lin (s : State) (k : Answer) (v : Nat) : (s.answer k v).lin = s.lin := rfl
@[simp] theorem State.answer_mac (s : State) (k : Answer) (v : Nat) : (s.answer k v).mac = s.mac := rfl
@[simp] theorem State.answer_nt (s : State) (k : Answer) (v : Nat) : (s.answer k v).nt = s.nt := rfl
@[simp] theorem State.answer_ring (s : State) (k : Answer) (v : Nat) : (s.answer k v).ring = s.ring := rfl
@[simp] theorem State.answer_core (s : State) (k : Answer) (v : Nat) : (s.answer k v).core = s.core := rfl
@[simp] theorem State.answer_dram (s : State) (k : Answer) (v : Nat) : (s.answer k v).dram = s.dram := rfl
@[simp] theorem State.answer_iram (s : State) (k : Answer) (v : Nat) : (s.answer k v).iram = s.iram := rfl
@[simp] theorem State.answer_soft (s : State) (k : Answer) (v : Nat) : (s.answer k v).soft = s.soft := rfl
@[simp] theorem State.answer_mbox (s : State) (k : Answer) (v : Nat) : (s.answer k v).mbox = s.mbox := rfl
@[simp] theorem State.answer_eccBad (s : State) (k : Answer) (v : Nat) : (s.answer k v).eccBad = s.eccBad := rfl
@[simp] theorem State.answer_logMin (s : State) (k : Answer) (v : Nat) : (s.answer k v).logMin = s.logMin := rfl
@[simp] theorem State.answer_nvm (s : State) (k : Answer) (v : Nat) : (s.answer k v).nvm = s.nvm := rfl
@[simp] theorem State.answer_eeprom (s : State) (k : Answer) (v : Nat) : (s.answer k v).eeprom = s.eeprom := rfl
@[simp] theorem State.answer_torn (s : State) (k : Answer) (v : Nat) : (s.answer k v).torn = s.torn := rfl
@[simp] theorem State.answer_boot (s : State) (k : Answer) (v : Nat) : (s.answer k v).boot = s.boot := rfl
@[simp] theorem State.answer_fuse (s : State) (k : Answer) (v : Nat) : (s.answer k v).fuse = s.fuse := rfl
@[simp] theorem State.answer_att (s : State) (k : Answer) (v : Nat) : (s.answer k v).att = s.att := rfl
@[simp] theorem State.answer_host (s : State) (k : Answer) (v : Nat) : (s.answer k v).host = s.host := rfl
@[simp] theorem State.answer_mon (s : State) (k : Answer) (v : Nat) : (s.answer k v).mon = s.mon := rfl
@[simp] theorem State.answer_cnvm (s : State) (k : Answer) (v : Nat) : (s.answer k v).cnvm = s.cnvm := rfl
@[simp] theorem State.answer_sram (s : State) (k : Answer) (v : Nat) : (s.answer k v).sram = s.sram := rfl
@[simp] theorem State.answer_pending (s : State) (k : Answer) (v : Nat) : (s.answer k v).pending = s.pending := rfl

/-! `State.setDom` changes `dom` alone. -/
@[simp] theorem State.setDom_reg (s : State) (n : Nat) (d : Dom) : (s.setDom n d).reg = s.reg := rfl
@[simp] theorem State.setDom_shadow (s : State) (n : Nat) (d : Dom) : (s.setDom n d).shadow = s.shadow := rfl
@[simp] theorem State.setDom_resp (s : State) (n : Nat) (d : Dom) : (s.setDom n d).resp = s.resp := rfl
@[simp] theorem State.setDom_free (s : State) (n : Nat) (d : Dom) : (s.setDom n d).free = s.free := rfl
@[simp] theorem State.setDom_tb (s : State) (n : Nat) (d : Dom) : (s.setDom n d).tb = s.tb := rfl
@[simp] theorem State.setDom_tbFrac (s : State) (n : Nat) (d : Dom) : (s.setDom n d).tbFrac = s.tbFrac := rfl
@[simp] theorem State.setDom_tbHid (s : State) (n : Nat) (d : Dom) : (s.setDom n d).tbHid = s.tbHid := rfl
@[simp] theorem State.setDom_sup (s : State) (n : Nat) (d : Dom) : (s.setDom n d).sup = s.sup := rfl
@[simp] theorem State.setDom_clk (s : State) (n : Nat) (d : Dom) : (s.setDom n d).clk = s.clk := rfl
@[simp] theorem State.setDom_cmp (s : State) (n : Nat) (d : Dom) : (s.setDom n d).cmp = s.cmp := rfl
@[simp] theorem State.setDom_casc (s : State) (n : Nat) (d : Dom) : (s.setDom n d).casc = s.casc := rfl
@[simp] theorem State.setDom_cascPhase (s : State) (n : Nat) (d : Dom) : (s.setDom n d).cascPhase = s.cascPhase := rfl
@[simp] theorem State.setDom_reqs (s : State) (n : Nat) (d : Dom) : (s.setDom n d).reqs = s.reqs := rfl
@[simp] theorem State.setDom_stall (s : State) (n : Nat) (d : Dom) : (s.setDom n d).stall = s.stall := rfl
@[simp] theorem State.setDom_rind (s : State) (n : Nat) (d : Dom) : (s.setDom n d).rind = s.rind := rfl
@[simp] theorem State.setDom_wdgAlt (s : State) (n : Nat) (d : Dom) : (s.setDom n d).wdgAlt = s.wdgAlt := rfl
@[simp] theorem State.setDom_wdgReset (s : State) (n : Nat) (d : Dom) : (s.setDom n d).wdgReset = s.wdgReset := rfl
@[simp] theorem State.setDom_wdgFrom (s : State) (n : Nat) (d : Dom) : (s.setDom n d).wdgFrom = s.wdgFrom := rfl
@[simp] theorem State.setDom_wdgPause (s : State) (n : Nat) (d : Dom) : (s.setDom n d).wdgPause = s.wdgPause := rfl
@[simp] theorem State.setDom_wdgMs (s : State) (n : Nat) (d : Dom) : (s.setDom n d).wdgMs = s.wdgMs := rfl
@[simp] theorem State.setDom_gate (s : State) (n : Nat) (d : Dom) : (s.setDom n d).gate = s.gate := rfl
@[simp] theorem State.setDom_cald (s : State) (n : Nat) (d : Dom) : (s.setDom n d).cald = s.cald := rfl
@[simp] theorem State.setDom_chan (s : State) (n : Nat) (d : Dom) : (s.setDom n d).chan = s.chan := rfl
@[simp] theorem State.setDom_fio (s : State) (n : Nat) (d : Dom) : (s.setDom n d).fio = s.fio := rfl
@[simp] theorem State.setDom_keep (s : State) (n : Nat) (d : Dom) : (s.setDom n d).keep = s.keep := rfl
@[simp] theorem State.setDom_bridge (s : State) (n : Nat) (d : Dom) : (s.setDom n d).bridge = s.bridge := rfl
@[simp] theorem State.setDom_rpe (s : State) (n : Nat) (d : Dom) : (s.setDom n d).rpe = s.rpe := rfl
@[simp] theorem State.setDom_valve (s : State) (n : Nat) (d : Dom) : (s.setDom n d).valve = s.valve := rfl
@[simp] theorem State.setDom_bank (s : State) (n : Nat) (d : Dom) : (s.setDom n d).bank = s.bank := rfl
@[simp] theorem State.setDom_swi (s : State) (n : Nat) (d : Dom) : (s.setDom n d).swi = s.swi := rfl
@[simp] theorem State.setDom_parkQ (s : State) (n : Nat) (d : Dom) : (s.setDom n d).parkQ = s.parkQ := rfl
@[simp] theorem State.setDom_ssupOc (s : State) (n : Nat) (d : Dom) : (s.setDom n d).ssupOc = s.ssupOc := rfl
@[simp] theorem State.setDom_sense (s : State) (n : Nat) (d : Dom) : (s.setDom n d).sense = s.sense := rfl
@[simp] theorem State.setDom_led (s : State) (n : Nat) (d : Dom) : (s.setDom n d).led = s.led := rfl
@[simp] theorem State.setDom_ldc (s : State) (n : Nat) (d : Dom) : (s.setDom n d).ldc = s.ldc := rfl
@[simp] theorem State.setDom_ldcRam (s : State) (n : Nat) (d : Dom) : (s.setDom n d).ldcRam = s.ldcRam := rfl
@[simp] theorem State.setDom_preps (s : State) (n : Nat) (d : Dom) : (s.setDom n d).preps = s.preps := rfl
@[simp] theorem State.setDom_slots (s : State) (n : Nat) (d : Dom) : (s.setDom n d).slots = s.slots := rfl
@[simp] theorem State.setDom_woken (s : State) (n : Nat) (d : Dom) : (s.setDom n d).woken = s.woken := rfl
@[simp] theorem State.setDom_fer (s : State) (n : Nat) (d : Dom) : (s.setDom n d).fer = s.fer := rfl
@[simp] theorem State.setDom_immo (s : State) (n : Nat) (d : Dom) : (s.setDom n d).immo = s.immo := rfl
@[simp] theorem State.setDom_lf (s : State) (n : Nat) (d : Dom) : (s.setDom n d).lf = s.lf := rfl
@[simp] theorem State.setDom_can (s : State) (n : Nat) (d : Dom) : (s.setDom n d).can = s.can := rfl
@[simp] theorem State.setDom_xcvr (s : State) (n : Nat) (d : Dom) : (s.setDom n d).xcvr = s.xcvr := rfl
@[simp] theorem State.setDom_vcc5Low (s : State) (n : Nat) (d : Dom) : (s.setDom n d).vcc5Low = s.vcc5Low := rfl
@[simp] theorem State.setDom_msgRam (s : State) (n : Nat) (d : Dom) : (s.setDom n d).msgRam = s.msgRam := rfl
@[simp] theorem State.setDom_nmBus (s : State) (n : Nat) (d : Dom) : (s.setDom n d).nmBus = s.nmBus := rfl
@[simp] theorem State.setDom_nm (s : State) (n : Nat) (d : Dom) : (s.setDom n d).nm = s.nm := rfl
@[simp] theorem State.setDom_wake (s : State) (n : Nat) (d : Dom) : (s.setDom n d).wake = s.wake := rfl
@[simp] theorem State.setDom_lin (s : State) (n : Nat) (d : Dom) : (s.setDom n d).lin = s.lin := rfl
@[simp] theorem State.setDom_mac (s : State) (n : Nat) (d : Dom) : (s.setDom n d).mac = s.mac := rfl
@[simp] theorem State.setDom_nt (s : State) (n : Nat) (d : Dom) : (s.setDom n d).nt = s.nt := rfl
@[simp] theorem State.setDom_ring (s : State) (n : Nat) (d : Dom) : (s.setDom n d).ring = s.ring := rfl
@[simp] theorem State.setDom_core (s : State) (n : Nat) (d : Dom) : (s.setDom n d).core = s.core := rfl
@[simp] theorem State.setDom_dram (s : State) (n : Nat) (d : Dom) : (s.setDom n d).dram = s.dram := rfl
@[simp] theorem State.setDom_iram (s : State) (n : Nat) (d : Dom) : (s.setDom n d).iram = s.iram := rfl
@[simp] theorem State.setDom_soft (s : State) (n : Nat) (d : Dom) : (s.setDom n d).soft = s.soft := rfl
@[simp] theorem State.setDom_mbox (s : State) (n : Nat) (d : Dom) : (s.setDom n d).mbox = s.mbox := rfl
@[simp] theorem State.setDom_eccBad (s : State) (n : Nat) (d : Dom) : (s.setDom n d).eccBad = s.eccBad := rfl
@[simp] theorem State.setDom_logMin (s : State) (n : Nat) (d : Dom) : (s.setDom n d).logMin = s.logMin := rfl
@[simp] theorem State.setDom_nvm (s : State) (n : Nat) (d : Dom) : (s.setDom n d).nvm = s.nvm := rfl
@[simp] theorem State.setDom_eeprom (s : State) (n : Nat) (d : Dom) : (s.setDom n d).eeprom = s.eeprom := rfl
@[simp] theorem State.setDom_torn (s : State) (n : Nat) (d : Dom) : (s.setDom n d).torn = s.torn := rfl
@[simp] theorem State.setDom_boot (s : State) (n : Nat) (d : Dom) : (s.setDom n d).boot = s.boot := rfl
@[simp] theorem State.setDom_fuse (s : State) (n : Nat) (d : Dom) : (s.setDom n d).fuse = s.fuse := rfl
@[simp] theorem State.setDom_att (s : State) (n : Nat) (d : Dom) : (s.setDom n d).att = s.att := rfl
@[simp] theorem State.setDom_host (s : State) (n : Nat) (d : Dom) : (s.setDom n d).host = s.host := rfl
@[simp] theorem State.setDom_mon (s : State) (n : Nat) (d : Dom) : (s.setDom n d).mon = s.mon := rfl
@[simp] theorem State.setDom_cnvm (s : State) (n : Nat) (d : Dom) : (s.setDom n d).cnvm = s.cnvm := rfl
@[simp] theorem State.setDom_sram (s : State) (n : Nat) (d : Dom) : (s.setDom n d).sram = s.sram := rfl
@[simp] theorem State.setDom_pending (s : State) (n : Nat) (d : Dom) : (s.setDom n d).pending = s.pending := rfl

/-! `State.setCh` changes `chan` alone. -/
@[simp] theorem State.setCh_reg (s : State) (c : Nat) (x : Chan) : (s.setCh c x).reg = s.reg := rfl
@[simp] theorem State.setCh_shadow (s : State) (c : Nat) (x : Chan) : (s.setCh c x).shadow = s.shadow := rfl
@[simp] theorem State.setCh_resp (s : State) (c : Nat) (x : Chan) : (s.setCh c x).resp = s.resp := rfl
@[simp] theorem State.setCh_free (s : State) (c : Nat) (x : Chan) : (s.setCh c x).free = s.free := rfl
@[simp] theorem State.setCh_tb (s : State) (c : Nat) (x : Chan) : (s.setCh c x).tb = s.tb := rfl
@[simp] theorem State.setCh_tbFrac (s : State) (c : Nat) (x : Chan) : (s.setCh c x).tbFrac = s.tbFrac := rfl
@[simp] theorem State.setCh_tbHid (s : State) (c : Nat) (x : Chan) : (s.setCh c x).tbHid = s.tbHid := rfl
@[simp] theorem State.setCh_sup (s : State) (c : Nat) (x : Chan) : (s.setCh c x).sup = s.sup := rfl
@[simp] theorem State.setCh_clk (s : State) (c : Nat) (x : Chan) : (s.setCh c x).clk = s.clk := rfl
@[simp] theorem State.setCh_cmp (s : State) (c : Nat) (x : Chan) : (s.setCh c x).cmp = s.cmp := rfl
@[simp] theorem State.setCh_casc (s : State) (c : Nat) (x : Chan) : (s.setCh c x).casc = s.casc := rfl
@[simp] theorem State.setCh_cascPhase (s : State) (c : Nat) (x : Chan) : (s.setCh c x).cascPhase = s.cascPhase := rfl
@[simp] theorem State.setCh_dom (s : State) (c : Nat) (x : Chan) : (s.setCh c x).dom = s.dom := rfl
@[simp] theorem State.setCh_reqs (s : State) (c : Nat) (x : Chan) : (s.setCh c x).reqs = s.reqs := rfl
@[simp] theorem State.setCh_stall (s : State) (c : Nat) (x : Chan) : (s.setCh c x).stall = s.stall := rfl
@[simp] theorem State.setCh_rind (s : State) (c : Nat) (x : Chan) : (s.setCh c x).rind = s.rind := rfl
@[simp] theorem State.setCh_wdgAlt (s : State) (c : Nat) (x : Chan) : (s.setCh c x).wdgAlt = s.wdgAlt := rfl
@[simp] theorem State.setCh_wdgReset (s : State) (c : Nat) (x : Chan) : (s.setCh c x).wdgReset = s.wdgReset := rfl
@[simp] theorem State.setCh_wdgFrom (s : State) (c : Nat) (x : Chan) : (s.setCh c x).wdgFrom = s.wdgFrom := rfl
@[simp] theorem State.setCh_wdgPause (s : State) (c : Nat) (x : Chan) : (s.setCh c x).wdgPause = s.wdgPause := rfl
@[simp] theorem State.setCh_wdgMs (s : State) (c : Nat) (x : Chan) : (s.setCh c x).wdgMs = s.wdgMs := rfl
@[simp] theorem State.setCh_gate (s : State) (c : Nat) (x : Chan) : (s.setCh c x).gate = s.gate := rfl
@[simp] theorem State.setCh_cald (s : State) (c : Nat) (x : Chan) : (s.setCh c x).cald = s.cald := rfl
@[simp] theorem State.setCh_fio (s : State) (c : Nat) (x : Chan) : (s.setCh c x).fio = s.fio := rfl
@[simp] theorem State.setCh_keep (s : State) (c : Nat) (x : Chan) : (s.setCh c x).keep = s.keep := rfl
@[simp] theorem State.setCh_bridge (s : State) (c : Nat) (x : Chan) : (s.setCh c x).bridge = s.bridge := rfl
@[simp] theorem State.setCh_rpe (s : State) (c : Nat) (x : Chan) : (s.setCh c x).rpe = s.rpe := rfl
@[simp] theorem State.setCh_valve (s : State) (c : Nat) (x : Chan) : (s.setCh c x).valve = s.valve := rfl
@[simp] theorem State.setCh_bank (s : State) (c : Nat) (x : Chan) : (s.setCh c x).bank = s.bank := rfl
@[simp] theorem State.setCh_swi (s : State) (c : Nat) (x : Chan) : (s.setCh c x).swi = s.swi := rfl
@[simp] theorem State.setCh_parkQ (s : State) (c : Nat) (x : Chan) : (s.setCh c x).parkQ = s.parkQ := rfl
@[simp] theorem State.setCh_ssupOc (s : State) (c : Nat) (x : Chan) : (s.setCh c x).ssupOc = s.ssupOc := rfl
@[simp] theorem State.setCh_sense (s : State) (c : Nat) (x : Chan) : (s.setCh c x).sense = s.sense := rfl
@[simp] theorem State.setCh_led (s : State) (c : Nat) (x : Chan) : (s.setCh c x).led = s.led := rfl
@[simp] theorem State.setCh_ldc (s : State) (c : Nat) (x : Chan) : (s.setCh c x).ldc = s.ldc := rfl
@[simp] theorem State.setCh_ldcRam (s : State) (c : Nat) (x : Chan) : (s.setCh c x).ldcRam = s.ldcRam := rfl
@[simp] theorem State.setCh_preps (s : State) (c : Nat) (x : Chan) : (s.setCh c x).preps = s.preps := rfl
@[simp] theorem State.setCh_slots (s : State) (c : Nat) (x : Chan) : (s.setCh c x).slots = s.slots := rfl
@[simp] theorem State.setCh_woken (s : State) (c : Nat) (x : Chan) : (s.setCh c x).woken = s.woken := rfl
@[simp] theorem State.setCh_fer (s : State) (c : Nat) (x : Chan) : (s.setCh c x).fer = s.fer := rfl
@[simp] theorem State.setCh_immo (s : State) (c : Nat) (x : Chan) : (s.setCh c x).immo = s.immo := rfl
@[simp] theorem State.setCh_lf (s : State) (c : Nat) (x : Chan) : (s.setCh c x).lf = s.lf := rfl
@[simp] theorem State.setCh_can (s : State) (c : Nat) (x : Chan) : (s.setCh c x).can = s.can := rfl
@[simp] theorem State.setCh_xcvr (s : State) (c : Nat) (x : Chan) : (s.setCh c x).xcvr = s.xcvr := rfl
@[simp] theorem State.setCh_vcc5Low (s : State) (c : Nat) (x : Chan) : (s.setCh c x).vcc5Low = s.vcc5Low := rfl
@[simp] theorem State.setCh_msgRam (s : State) (c : Nat) (x : Chan) : (s.setCh c x).msgRam = s.msgRam := rfl
@[simp] theorem State.setCh_nmBus (s : State) (c : Nat) (x : Chan) : (s.setCh c x).nmBus = s.nmBus := rfl
@[simp] theorem State.setCh_nm (s : State) (c : Nat) (x : Chan) : (s.setCh c x).nm = s.nm := rfl
@[simp] theorem State.setCh_wake (s : State) (c : Nat) (x : Chan) : (s.setCh c x).wake = s.wake := rfl
@[simp] theorem State.setCh_lin (s : State) (c : Nat) (x : Chan) : (s.setCh c x).lin = s.lin := rfl
@[simp] theorem State.setCh_mac (s : State) (c : Nat) (x : Chan) : (s.setCh c x).mac = s.mac := rfl
@[simp] theorem State.setCh_nt (s : State) (c : Nat) (x : Chan) : (s.setCh c x).nt = s.nt := rfl
@[simp] theorem State.setCh_ring (s : State) (c : Nat) (x : Chan) : (s.setCh c x).ring = s.ring := rfl
@[simp] theorem State.setCh_core (s : State) (c : Nat) (x : Chan) : (s.setCh c x).core = s.core := rfl
@[simp] theorem State.setCh_dram (s : State) (c : Nat) (x : Chan) : (s.setCh c x).dram = s.dram := rfl
@[simp] theorem State.setCh_iram (s : State) (c : Nat) (x : Chan) : (s.setCh c x).iram = s.iram := rfl
@[simp] theorem State.setCh_soft (s : State) (c : Nat) (x : Chan) : (s.setCh c x).soft = s.soft := rfl
@[simp] theorem State.setCh_mbox (s : State) (c : Nat) (x : Chan) : (s.setCh c x).mbox = s.mbox := rfl
@[simp] theorem State.setCh_eccBad (s : State) (c : Nat) (x : Chan) : (s.setCh c x).eccBad = s.eccBad := rfl
@[simp] theorem State.setCh_logMin (s : State) (c : Nat) (x : Chan) : (s.setCh c x).logMin = s.logMin := rfl
@[simp] theorem State.setCh_nvm (s : State) (c : Nat) (x : Chan) : (s.setCh c x).nvm = s.nvm := rfl
@[simp] theorem State.setCh_eeprom (s : State) (c : Nat) (x : Chan) : (s.setCh c x).eeprom = s.eeprom := rfl
@[simp] theorem State.setCh_torn (s : State) (c : Nat) (x : Chan) : (s.setCh c x).torn = s.torn := rfl
@[simp] theorem State.setCh_boot (s : State) (c : Nat) (x : Chan) : (s.setCh c x).boot = s.boot := rfl
@[simp] theorem State.setCh_fuse (s : State) (c : Nat) (x : Chan) : (s.setCh c x).fuse = s.fuse := rfl
@[simp] theorem State.setCh_att (s : State) (c : Nat) (x : Chan) : (s.setCh c x).att = s.att := rfl
@[simp] theorem State.setCh_host (s : State) (c : Nat) (x : Chan) : (s.setCh c x).host = s.host := rfl
@[simp] theorem State.setCh_mon (s : State) (c : Nat) (x : Chan) : (s.setCh c x).mon = s.mon := rfl
@[simp] theorem State.setCh_cnvm (s : State) (c : Nat) (x : Chan) : (s.setCh c x).cnvm = s.cnvm := rfl
@[simp] theorem State.setCh_sram (s : State) (c : Nat) (x : Chan) : (s.setCh c x).sram = s.sram := rfl
@[simp] theorem State.setCh_pending (s : State) (c : Nat) (x : Chan) : (s.setCh c x).pending = s.pending := rfl

/-! `State.upCh` changes `chan` alone. -/
@[simp] theorem State.upCh_reg (s : State) (c : Nat) (f : Chan → Chan) : (s.upCh c f).reg = s.reg := rfl
@[simp] theorem State.upCh_shadow (s : State) (c : Nat) (f : Chan → Chan) : (s.upCh c f).shadow = s.shadow := rfl
@[simp] theorem State.upCh_resp (s : State) (c : Nat) (f : Chan → Chan) : (s.upCh c f).resp = s.resp := rfl
@[simp] theorem State.upCh_free (s : State) (c : Nat) (f : Chan → Chan) : (s.upCh c f).free = s.free := rfl
@[simp] theorem State.upCh_tb (s : State) (c : Nat) (f : Chan → Chan) : (s.upCh c f).tb = s.tb := rfl
@[simp] theorem State.upCh_tbFrac (s : State) (c : Nat) (f : Chan → Chan) : (s.upCh c f).tbFrac = s.tbFrac := rfl
@[simp] theorem State.upCh_tbHid (s : State) (c : Nat) (f : Chan → Chan) : (s.upCh c f).tbHid = s.tbHid := rfl
@[simp] theorem State.upCh_sup (s : State) (c : Nat) (f : Chan → Chan) : (s.upCh c f).sup = s.sup := rfl
@[simp] theorem State.upCh_clk (s : State) (c : Nat) (f : Chan → Chan) : (s.upCh c f).clk = s.clk := rfl
@[simp] theorem State.upCh_cmp (s : State) (c : Nat) (f : Chan → Chan) : (s.upCh c f).cmp = s.cmp := rfl
@[simp] theorem State.upCh_casc (s : State) (c : Nat) (f : Chan → Chan) : (s.upCh c f).casc = s.casc := rfl
@[simp] theorem State.upCh_cascPhase (s : State) (c : Nat) (f : Chan → Chan) : (s.upCh c f).cascPhase = s.cascPhase := rfl
@[simp] theorem State.upCh_dom (s : State) (c : Nat) (f : Chan → Chan) : (s.upCh c f).dom = s.dom := rfl
@[simp] theorem State.upCh_reqs (s : State) (c : Nat) (f : Chan → Chan) : (s.upCh c f).reqs = s.reqs := rfl
@[simp] theorem State.upCh_stall (s : State) (c : Nat) (f : Chan → Chan) : (s.upCh c f).stall = s.stall := rfl
@[simp] theorem State.upCh_rind (s : State) (c : Nat) (f : Chan → Chan) : (s.upCh c f).rind = s.rind := rfl
@[simp] theorem State.upCh_wdgAlt (s : State) (c : Nat) (f : Chan → Chan) : (s.upCh c f).wdgAlt = s.wdgAlt := rfl
@[simp] theorem State.upCh_wdgReset (s : State) (c : Nat) (f : Chan → Chan) : (s.upCh c f).wdgReset = s.wdgReset := rfl
@[simp] theorem State.upCh_wdgFrom (s : State) (c : Nat) (f : Chan → Chan) : (s.upCh c f).wdgFrom = s.wdgFrom := rfl
@[simp] theorem State.upCh_wdgPause (s : State) (c : Nat) (f : Chan → Chan) : (s.upCh c f).wdgPause = s.wdgPause := rfl
@[simp] theorem State.upCh_wdgMs (s : State) (c : Nat) (f : Chan → Chan) : (s.upCh c f).wdgMs = s.wdgMs := rfl
@[simp] theorem State.upCh_gate (s : State) (c : Nat) (f : Chan → Chan) : (s.upCh c f).gate = s.gate := rfl
@[simp] theorem State.upCh_cald (s : State) (c : Nat) (f : Chan → Chan) : (s.upCh c f).cald = s.cald := rfl
@[simp] theorem State.upCh_fio (s : State) (c : Nat) (f : Chan → Chan) : (s.upCh c f).fio = s.fio := rfl
@[simp] theorem State.upCh_keep (s : State) (c : Nat) (f : Chan → Chan) : (s.upCh c f).keep = s.keep := rfl
@[simp] theorem State.upCh_bridge (s : State) (c : Nat) (f : Chan → Chan) : (s.upCh c f).bridge = s.bridge := rfl
@[simp] theorem State.upCh_rpe (s : State) (c : Nat) (f : Chan → Chan) : (s.upCh c f).rpe = s.rpe := rfl
@[simp] theorem State.upCh_valve (s : State) (c : Nat) (f : Chan → Chan) : (s.upCh c f).valve = s.valve := rfl
@[simp] theorem State.upCh_bank (s : State) (c : Nat) (f : Chan → Chan) : (s.upCh c f).bank = s.bank := rfl
@[simp] theorem State.upCh_swi (s : State) (c : Nat) (f : Chan → Chan) : (s.upCh c f).swi = s.swi := rfl
@[simp] theorem State.upCh_parkQ (s : State) (c : Nat) (f : Chan → Chan) : (s.upCh c f).parkQ = s.parkQ := rfl
@[simp] theorem State.upCh_ssupOc (s : State) (c : Nat) (f : Chan → Chan) : (s.upCh c f).ssupOc = s.ssupOc := rfl
@[simp] theorem State.upCh_sense (s : State) (c : Nat) (f : Chan → Chan) : (s.upCh c f).sense = s.sense := rfl
@[simp] theorem State.upCh_led (s : State) (c : Nat) (f : Chan → Chan) : (s.upCh c f).led = s.led := rfl
@[simp] theorem State.upCh_ldc (s : State) (c : Nat) (f : Chan → Chan) : (s.upCh c f).ldc = s.ldc := rfl
@[simp] theorem State.upCh_ldcRam (s : State) (c : Nat) (f : Chan → Chan) : (s.upCh c f).ldcRam = s.ldcRam := rfl
@[simp] theorem State.upCh_preps (s : State) (c : Nat) (f : Chan → Chan) : (s.upCh c f).preps = s.preps := rfl
@[simp] theorem State.upCh_slots (s : State) (c : Nat) (f : Chan → Chan) : (s.upCh c f).slots = s.slots := rfl
@[simp] theorem State.upCh_woken (s : State) (c : Nat) (f : Chan → Chan) : (s.upCh c f).woken = s.woken := rfl
@[simp] theorem State.upCh_fer (s : State) (c : Nat) (f : Chan → Chan) : (s.upCh c f).fer = s.fer := rfl
@[simp] theorem State.upCh_immo (s : State) (c : Nat) (f : Chan → Chan) : (s.upCh c f).immo = s.immo := rfl
@[simp] theorem State.upCh_lf (s : State) (c : Nat) (f : Chan → Chan) : (s.upCh c f).lf = s.lf := rfl
@[simp] theorem State.upCh_can (s : State) (c : Nat) (f : Chan → Chan) : (s.upCh c f).can = s.can := rfl
@[simp] theorem State.upCh_xcvr (s : State) (c : Nat) (f : Chan → Chan) : (s.upCh c f).xcvr = s.xcvr := rfl
@[simp] theorem State.upCh_vcc5Low (s : State) (c : Nat) (f : Chan → Chan) : (s.upCh c f).vcc5Low = s.vcc5Low := rfl
@[simp] theorem State.upCh_msgRam (s : State) (c : Nat) (f : Chan → Chan) : (s.upCh c f).msgRam = s.msgRam := rfl
@[simp] theorem State.upCh_nmBus (s : State) (c : Nat) (f : Chan → Chan) : (s.upCh c f).nmBus = s.nmBus := rfl
@[simp] theorem State.upCh_nm (s : State) (c : Nat) (f : Chan → Chan) : (s.upCh c f).nm = s.nm := rfl
@[simp] theorem State.upCh_wake (s : State) (c : Nat) (f : Chan → Chan) : (s.upCh c f).wake = s.wake := rfl
@[simp] theorem State.upCh_lin (s : State) (c : Nat) (f : Chan → Chan) : (s.upCh c f).lin = s.lin := rfl
@[simp] theorem State.upCh_mac (s : State) (c : Nat) (f : Chan → Chan) : (s.upCh c f).mac = s.mac := rfl
@[simp] theorem State.upCh_nt (s : State) (c : Nat) (f : Chan → Chan) : (s.upCh c f).nt = s.nt := rfl
@[simp] theorem State.upCh_ring (s : State) (c : Nat) (f : Chan → Chan) : (s.upCh c f).ring = s.ring := rfl
@[simp] theorem State.upCh_core (s : State) (c : Nat) (f : Chan → Chan) : (s.upCh c f).core = s.core := rfl
@[simp] theorem State.upCh_dram (s : State) (c : Nat) (f : Chan → Chan) : (s.upCh c f).dram = s.dram := rfl
@[simp] theorem State.upCh_iram (s : State) (c : Nat) (f : Chan → Chan) : (s.upCh c f).iram = s.iram := rfl
@[simp] theorem State.upCh_soft (s : State) (c : Nat) (f : Chan → Chan) : (s.upCh c f).soft = s.soft := rfl
@[simp] theorem State.upCh_mbox (s : State) (c : Nat) (f : Chan → Chan) : (s.upCh c f).mbox = s.mbox := rfl
@[simp] theorem State.upCh_eccBad (s : State) (c : Nat) (f : Chan → Chan) : (s.upCh c f).eccBad = s.eccBad := rfl
@[simp] theorem State.upCh_logMin (s : State) (c : Nat) (f : Chan → Chan) : (s.upCh c f).logMin = s.logMin := rfl
@[simp] theorem State.upCh_nvm (s : State) (c : Nat) (f : Chan → Chan) : (s.upCh c f).nvm = s.nvm := rfl
@[simp] theorem State.upCh_eeprom (s : State) (c : Nat) (f : Chan → Chan) : (s.upCh c f).eeprom = s.eeprom := rfl
@[simp] theorem State.upCh_torn (s : State) (c : Nat) (f : Chan → Chan) : (s.upCh c f).torn = s.torn := rfl
@[simp] theorem State.upCh_boot (s : State) (c : Nat) (f : Chan → Chan) : (s.upCh c f).boot = s.boot := rfl
@[simp] theorem State.upCh_fuse (s : State) (c : Nat) (f : Chan → Chan) : (s.upCh c f).fuse = s.fuse := rfl
@[simp] theorem State.upCh_att (s : State) (c : Nat) (f : Chan → Chan) : (s.upCh c f).att = s.att := rfl
@[simp] theorem State.upCh_host (s : State) (c : Nat) (f : Chan → Chan) : (s.upCh c f).host = s.host := rfl
@[simp] theorem State.upCh_mon (s : State) (c : Nat) (f : Chan → Chan) : (s.upCh c f).mon = s.mon := rfl
@[simp] theorem State.upCh_cnvm (s : State) (c : Nat) (f : Chan → Chan) : (s.upCh c f).cnvm = s.cnvm := rfl
@[simp] theorem State.upCh_sram (s : State) (c : Nat) (f : Chan → Chan) : (s.upCh c f).sram = s.sram := rfl
@[simp] theorem State.upCh_pending (s : State) (c : Nat) (f : Chan → Chan) : (s.upCh c f).pending = s.pending := rfl

/-! `State.upPin` changes `fio` alone. -/
@[simp] theorem State.upPin_reg (s : State) (c : Nat) (f : Fio → Fio) : (s.upPin c f).reg = s.reg := rfl
@[simp] theorem State.upPin_shadow (s : State) (c : Nat) (f : Fio → Fio) : (s.upPin c f).shadow = s.shadow := rfl
@[simp] theorem State.upPin_resp (s : State) (c : Nat) (f : Fio → Fio) : (s.upPin c f).resp = s.resp := rfl
@[simp] theorem State.upPin_free (s : State) (c : Nat) (f : Fio → Fio) : (s.upPin c f).free = s.free := rfl
@[simp] theorem State.upPin_tb (s : State) (c : Nat) (f : Fio → Fio) : (s.upPin c f).tb = s.tb := rfl
@[simp] theorem State.upPin_tbFrac (s : State) (c : Nat) (f : Fio → Fio) : (s.upPin c f).tbFrac = s.tbFrac := rfl
@[simp] theorem State.upPin_tbHid (s : State) (c : Nat) (f : Fio → Fio) : (s.upPin c f).tbHid = s.tbHid := rfl
@[simp] theorem State.upPin_sup (s : State) (c : Nat) (f : Fio → Fio) : (s.upPin c f).sup = s.sup := rfl
@[simp] theorem State.upPin_clk (s : State) (c : Nat) (f : Fio → Fio) : (s.upPin c f).clk = s.clk := rfl
@[simp] theorem State.upPin_cmp (s : State) (c : Nat) (f : Fio → Fio) : (s.upPin c f).cmp = s.cmp := rfl
@[simp] theorem State.upPin_casc (s : State) (c : Nat) (f : Fio → Fio) : (s.upPin c f).casc = s.casc := rfl
@[simp] theorem State.upPin_cascPhase (s : State) (c : Nat) (f : Fio → Fio) : (s.upPin c f).cascPhase = s.cascPhase := rfl
@[simp] theorem State.upPin_dom (s : State) (c : Nat) (f : Fio → Fio) : (s.upPin c f).dom = s.dom := rfl
@[simp] theorem State.upPin_reqs (s : State) (c : Nat) (f : Fio → Fio) : (s.upPin c f).reqs = s.reqs := rfl
@[simp] theorem State.upPin_stall (s : State) (c : Nat) (f : Fio → Fio) : (s.upPin c f).stall = s.stall := rfl
@[simp] theorem State.upPin_rind (s : State) (c : Nat) (f : Fio → Fio) : (s.upPin c f).rind = s.rind := rfl
@[simp] theorem State.upPin_wdgAlt (s : State) (c : Nat) (f : Fio → Fio) : (s.upPin c f).wdgAlt = s.wdgAlt := rfl
@[simp] theorem State.upPin_wdgReset (s : State) (c : Nat) (f : Fio → Fio) : (s.upPin c f).wdgReset = s.wdgReset := rfl
@[simp] theorem State.upPin_wdgFrom (s : State) (c : Nat) (f : Fio → Fio) : (s.upPin c f).wdgFrom = s.wdgFrom := rfl
@[simp] theorem State.upPin_wdgPause (s : State) (c : Nat) (f : Fio → Fio) : (s.upPin c f).wdgPause = s.wdgPause := rfl
@[simp] theorem State.upPin_wdgMs (s : State) (c : Nat) (f : Fio → Fio) : (s.upPin c f).wdgMs = s.wdgMs := rfl
@[simp] theorem State.upPin_gate (s : State) (c : Nat) (f : Fio → Fio) : (s.upPin c f).gate = s.gate := rfl
@[simp] theorem State.upPin_cald (s : State) (c : Nat) (f : Fio → Fio) : (s.upPin c f).cald = s.cald := rfl
@[simp] theorem State.upPin_chan (s : State) (c : Nat) (f : Fio → Fio) : (s.upPin c f).chan = s.chan := rfl
@[simp] theorem State.upPin_keep (s : State) (c : Nat) (f : Fio → Fio) : (s.upPin c f).keep = s.keep := rfl
@[simp] theorem State.upPin_bridge (s : State) (c : Nat) (f : Fio → Fio) : (s.upPin c f).bridge = s.bridge := rfl
@[simp] theorem State.upPin_rpe (s : State) (c : Nat) (f : Fio → Fio) : (s.upPin c f).rpe = s.rpe := rfl
@[simp] theorem State.upPin_valve (s : State) (c : Nat) (f : Fio → Fio) : (s.upPin c f).valve = s.valve := rfl
@[simp] theorem State.upPin_bank (s : State) (c : Nat) (f : Fio → Fio) : (s.upPin c f).bank = s.bank := rfl
@[simp] theorem State.upPin_swi (s : State) (c : Nat) (f : Fio → Fio) : (s.upPin c f).swi = s.swi := rfl
@[simp] theorem State.upPin_parkQ (s : State) (c : Nat) (f : Fio → Fio) : (s.upPin c f).parkQ = s.parkQ := rfl
@[simp] theorem State.upPin_ssupOc (s : State) (c : Nat) (f : Fio → Fio) : (s.upPin c f).ssupOc = s.ssupOc := rfl
@[simp] theorem State.upPin_sense (s : State) (c : Nat) (f : Fio → Fio) : (s.upPin c f).sense = s.sense := rfl
@[simp] theorem State.upPin_led (s : State) (c : Nat) (f : Fio → Fio) : (s.upPin c f).led = s.led := rfl
@[simp] theorem State.upPin_ldc (s : State) (c : Nat) (f : Fio → Fio) : (s.upPin c f).ldc = s.ldc := rfl
@[simp] theorem State.upPin_ldcRam (s : State) (c : Nat) (f : Fio → Fio) : (s.upPin c f).ldcRam = s.ldcRam := rfl
@[simp] theorem State.upPin_preps (s : State) (c : Nat) (f : Fio → Fio) : (s.upPin c f).preps = s.preps := rfl
@[simp] theorem State.upPin_slots (s : State) (c : Nat) (f : Fio → Fio) : (s.upPin c f).slots = s.slots := rfl
@[simp] theorem State.upPin_woken (s : State) (c : Nat) (f : Fio → Fio) : (s.upPin c f).woken = s.woken := rfl
@[simp] theorem State.upPin_fer (s : State) (c : Nat) (f : Fio → Fio) : (s.upPin c f).fer = s.fer := rfl
@[simp] theorem State.upPin_immo (s : State) (c : Nat) (f : Fio → Fio) : (s.upPin c f).immo = s.immo := rfl
@[simp] theorem State.upPin_lf (s : State) (c : Nat) (f : Fio → Fio) : (s.upPin c f).lf = s.lf := rfl
@[simp] theorem State.upPin_can (s : State) (c : Nat) (f : Fio → Fio) : (s.upPin c f).can = s.can := rfl
@[simp] theorem State.upPin_xcvr (s : State) (c : Nat) (f : Fio → Fio) : (s.upPin c f).xcvr = s.xcvr := rfl
@[simp] theorem State.upPin_vcc5Low (s : State) (c : Nat) (f : Fio → Fio) : (s.upPin c f).vcc5Low = s.vcc5Low := rfl
@[simp] theorem State.upPin_msgRam (s : State) (c : Nat) (f : Fio → Fio) : (s.upPin c f).msgRam = s.msgRam := rfl
@[simp] theorem State.upPin_nmBus (s : State) (c : Nat) (f : Fio → Fio) : (s.upPin c f).nmBus = s.nmBus := rfl
@[simp] theorem State.upPin_nm (s : State) (c : Nat) (f : Fio → Fio) : (s.upPin c f).nm = s.nm := rfl
@[simp] theorem State.upPin_wake (s : State) (c : Nat) (f : Fio → Fio) : (s.upPin c f).wake = s.wake := rfl
@[simp] theorem State.upPin_lin (s : State) (c : Nat) (f : Fio → Fio) : (s.upPin c f).lin = s.lin := rfl
@[simp] theorem State.upPin_mac (s : State) (c : Nat) (f : Fio → Fio) : (s.upPin c f).mac = s.mac := rfl
@[simp] theorem State.upPin_nt (s : State) (c : Nat) (f : Fio → Fio) : (s.upPin c f).nt = s.nt := rfl
@[simp] theorem State.upPin_ring (s : State) (c : Nat) (f : Fio → Fio) : (s.upPin c f).ring = s.ring := rfl
@[simp] theorem State.upPin_core (s : State) (c : Nat) (f : Fio → Fio) : (s.upPin c f).core = s.core := rfl
@[simp] theorem State.upPin_dram (s : State) (c : Nat) (f : Fio → Fio) : (s.upPin c f).dram = s.dram := rfl
@[simp] theorem State.upPin_iram (s : State) (c : Nat) (f : Fio → Fio) : (s.upPin c f).iram = s.iram := rfl
@[simp] theorem State.upPin_soft (s : State) (c : Nat) (f : Fio → Fio) : (s.upPin c f).soft = s.soft := rfl
@[simp] theorem State.upPin_mbox (s : State) (c : Nat) (f : Fio → Fio) : (s.upPin c f).mbox = s.mbox := rfl
@[simp] theorem State.upPin_eccBad (s : State) (c : Nat) (f : Fio → Fio) : (s.upPin c f).eccBad = s.eccBad := rfl
@[simp] theorem State.upPin_logMin (s : State) (c : Nat) (f : Fio → Fio) : (s.upPin c f).logMin = s.logMin := rfl
@[simp] theorem State.upPin_nvm (s : State) (c : Nat) (f : Fio → Fio) : (s.upPin c f).nvm = s.nvm := rfl
@[simp] theorem State.upPin_eeprom (s : State) (c : Nat) (f : Fio → Fio) : (s.upPin c f).eeprom = s.eeprom := rfl
@[simp] theorem State.upPin_torn (s : State) (c : Nat) (f : Fio → Fio) : (s.upPin c f).torn = s.torn := rfl
@[simp] theorem State.upPin_boot (s : State) (c : Nat) (f : Fio → Fio) : (s.upPin c f).boot = s.boot := rfl
@[simp] theorem State.upPin_fuse (s : State) (c : Nat) (f : Fio → Fio) : (s.upPin c f).fuse = s.fuse := rfl
@[simp] theorem State.upPin_att (s : State) (c : Nat) (f : Fio → Fio) : (s.upPin c f).att = s.att := rfl
@[simp] theorem State.upPin_host (s : State) (c : Nat) (f : Fio → Fio) : (s.upPin c f).host = s.host := rfl
@[simp] theorem State.upPin_mon (s : State) (c : Nat) (f : Fio → Fio) : (s.upPin c f).mon = s.mon := rfl
@[simp] theorem State.upPin_cnvm (s : State) (c : Nat) (f : Fio → Fio) : (s.upPin c f).cnvm = s.cnvm := rfl
@[simp] theorem State.upPin_sram (s : State) (c : Nat) (f : Fio → Fio) : (s.upPin c f).sram = s.sram := rfl
@[simp] theorem State.upPin_pending (s : State) (c : Nat) (f : Fio → Fio) : (s.upPin c f).pending = s.pending := rfl

/-! `State.upBr` changes `bridge` alone. -/
@[simp] theorem State.upBr_reg (s : State) (b : Nat) (f : Bridge → Bridge) : (s.upBr b f).reg = s.reg := rfl
@[simp] theorem State.upBr_shadow (s : State) (b : Nat) (f : Bridge → Bridge) : (s.upBr b f).shadow = s.shadow := rfl
@[simp] theorem State.upBr_resp (s : State) (b : Nat) (f : Bridge → Bridge) : (s.upBr b f).resp = s.resp := rfl
@[simp] theorem State.upBr_free (s : State) (b : Nat) (f : Bridge → Bridge) : (s.upBr b f).free = s.free := rfl
@[simp] theorem State.upBr_tb (s : State) (b : Nat) (f : Bridge → Bridge) : (s.upBr b f).tb = s.tb := rfl
@[simp] theorem State.upBr_tbFrac (s : State) (b : Nat) (f : Bridge → Bridge) : (s.upBr b f).tbFrac = s.tbFrac := rfl
@[simp] theorem State.upBr_tbHid (s : State) (b : Nat) (f : Bridge → Bridge) : (s.upBr b f).tbHid = s.tbHid := rfl
@[simp] theorem State.upBr_sup (s : State) (b : Nat) (f : Bridge → Bridge) : (s.upBr b f).sup = s.sup := rfl
@[simp] theorem State.upBr_clk (s : State) (b : Nat) (f : Bridge → Bridge) : (s.upBr b f).clk = s.clk := rfl
@[simp] theorem State.upBr_cmp (s : State) (b : Nat) (f : Bridge → Bridge) : (s.upBr b f).cmp = s.cmp := rfl
@[simp] theorem State.upBr_casc (s : State) (b : Nat) (f : Bridge → Bridge) : (s.upBr b f).casc = s.casc := rfl
@[simp] theorem State.upBr_cascPhase (s : State) (b : Nat) (f : Bridge → Bridge) : (s.upBr b f).cascPhase = s.cascPhase := rfl
@[simp] theorem State.upBr_dom (s : State) (b : Nat) (f : Bridge → Bridge) : (s.upBr b f).dom = s.dom := rfl
@[simp] theorem State.upBr_reqs (s : State) (b : Nat) (f : Bridge → Bridge) : (s.upBr b f).reqs = s.reqs := rfl
@[simp] theorem State.upBr_stall (s : State) (b : Nat) (f : Bridge → Bridge) : (s.upBr b f).stall = s.stall := rfl
@[simp] theorem State.upBr_rind (s : State) (b : Nat) (f : Bridge → Bridge) : (s.upBr b f).rind = s.rind := rfl
@[simp] theorem State.upBr_wdgAlt (s : State) (b : Nat) (f : Bridge → Bridge) : (s.upBr b f).wdgAlt = s.wdgAlt := rfl
@[simp] theorem State.upBr_wdgReset (s : State) (b : Nat) (f : Bridge → Bridge) : (s.upBr b f).wdgReset = s.wdgReset := rfl
@[simp] theorem State.upBr_wdgFrom (s : State) (b : Nat) (f : Bridge → Bridge) : (s.upBr b f).wdgFrom = s.wdgFrom := rfl
@[simp] theorem State.upBr_wdgPause (s : State) (b : Nat) (f : Bridge → Bridge) : (s.upBr b f).wdgPause = s.wdgPause := rfl
@[simp] theorem State.upBr_wdgMs (s : State) (b : Nat) (f : Bridge → Bridge) : (s.upBr b f).wdgMs = s.wdgMs := rfl
@[simp] theorem State.upBr_gate (s : State) (b : Nat) (f : Bridge → Bridge) : (s.upBr b f).gate = s.gate := rfl
@[simp] theorem State.upBr_cald (s : State) (b : Nat) (f : Bridge → Bridge) : (s.upBr b f).cald = s.cald := rfl
@[simp] theorem State.upBr_chan (s : State) (b : Nat) (f : Bridge → Bridge) : (s.upBr b f).chan = s.chan := rfl
@[simp] theorem State.upBr_fio (s : State) (b : Nat) (f : Bridge → Bridge) : (s.upBr b f).fio = s.fio := rfl
@[simp] theorem State.upBr_keep (s : State) (b : Nat) (f : Bridge → Bridge) : (s.upBr b f).keep = s.keep := rfl
@[simp] theorem State.upBr_rpe (s : State) (b : Nat) (f : Bridge → Bridge) : (s.upBr b f).rpe = s.rpe := rfl
@[simp] theorem State.upBr_valve (s : State) (b : Nat) (f : Bridge → Bridge) : (s.upBr b f).valve = s.valve := rfl
@[simp] theorem State.upBr_bank (s : State) (b : Nat) (f : Bridge → Bridge) : (s.upBr b f).bank = s.bank := rfl
@[simp] theorem State.upBr_swi (s : State) (b : Nat) (f : Bridge → Bridge) : (s.upBr b f).swi = s.swi := rfl
@[simp] theorem State.upBr_parkQ (s : State) (b : Nat) (f : Bridge → Bridge) : (s.upBr b f).parkQ = s.parkQ := rfl
@[simp] theorem State.upBr_ssupOc (s : State) (b : Nat) (f : Bridge → Bridge) : (s.upBr b f).ssupOc = s.ssupOc := rfl
@[simp] theorem State.upBr_sense (s : State) (b : Nat) (f : Bridge → Bridge) : (s.upBr b f).sense = s.sense := rfl
@[simp] theorem State.upBr_led (s : State) (b : Nat) (f : Bridge → Bridge) : (s.upBr b f).led = s.led := rfl
@[simp] theorem State.upBr_ldc (s : State) (b : Nat) (f : Bridge → Bridge) : (s.upBr b f).ldc = s.ldc := rfl
@[simp] theorem State.upBr_ldcRam (s : State) (b : Nat) (f : Bridge → Bridge) : (s.upBr b f).ldcRam = s.ldcRam := rfl
@[simp] theorem State.upBr_preps (s : State) (b : Nat) (f : Bridge → Bridge) : (s.upBr b f).preps = s.preps := rfl
@[simp] theorem State.upBr_slots (s : State) (b : Nat) (f : Bridge → Bridge) : (s.upBr b f).slots = s.slots := rfl
@[simp] theorem State.upBr_woken (s : State) (b : Nat) (f : Bridge → Bridge) : (s.upBr b f).woken = s.woken := rfl
@[simp] theorem State.upBr_fer (s : State) (b : Nat) (f : Bridge → Bridge) : (s.upBr b f).fer = s.fer := rfl
@[simp] theorem State.upBr_immo (s : State) (b : Nat) (f : Bridge → Bridge) : (s.upBr b f).immo = s.immo := rfl
@[simp] theorem State.upBr_lf (s : State) (b : Nat) (f : Bridge → Bridge) : (s.upBr b f).lf = s.lf := rfl
@[simp] theorem State.upBr_can (s : State) (b : Nat) (f : Bridge → Bridge) : (s.upBr b f).can = s.can := rfl
@[simp] theorem State.upBr_xcvr (s : State) (b : Nat) (f : Bridge → Bridge) : (s.upBr b f).xcvr = s.xcvr := rfl
@[simp] theorem State.upBr_vcc5Low (s : State) (b : Nat) (f : Bridge → Bridge) : (s.upBr b f).vcc5Low = s.vcc5Low := rfl
@[simp] theorem State.upBr_msgRam (s : State) (b : Nat) (f : Bridge → Bridge) : (s.upBr b f).msgRam = s.msgRam := rfl
@[simp] theorem State.upBr_nmBus (s : State) (b : Nat) (f : Bridge → Bridge) : (s.upBr b f).nmBus = s.nmBus := rfl
@[simp] theorem State.upBr_nm (s : State) (b : Nat) (f : Bridge → Bridge) : (s.upBr b f).nm = s.nm := rfl
@[simp] theorem State.upBr_wake (s : State) (b : Nat) (f : Bridge → Bridge) : (s.upBr b f).wake = s.wake := rfl
@[simp] theorem State.upBr_lin (s : State) (b : Nat) (f : Bridge → Bridge) : (s.upBr b f).lin = s.lin := rfl
@[simp] theorem State.upBr_mac (s : State) (b : Nat) (f : Bridge → Bridge) : (s.upBr b f).mac = s.mac := rfl
@[simp] theorem State.upBr_nt (s : State) (b : Nat) (f : Bridge → Bridge) : (s.upBr b f).nt = s.nt := rfl
@[simp] theorem State.upBr_ring (s : State) (b : Nat) (f : Bridge → Bridge) : (s.upBr b f).ring = s.ring := rfl
@[simp] theorem State.upBr_core (s : State) (b : Nat) (f : Bridge → Bridge) : (s.upBr b f).core = s.core := rfl
@[simp] theorem State.upBr_dram (s : State) (b : Nat) (f : Bridge → Bridge) : (s.upBr b f).dram = s.dram := rfl
@[simp] theorem State.upBr_iram (s : State) (b : Nat) (f : Bridge → Bridge) : (s.upBr b f).iram = s.iram := rfl
@[simp] theorem State.upBr_soft (s : State) (b : Nat) (f : Bridge → Bridge) : (s.upBr b f).soft = s.soft := rfl
@[simp] theorem State.upBr_mbox (s : State) (b : Nat) (f : Bridge → Bridge) : (s.upBr b f).mbox = s.mbox := rfl
@[simp] theorem State.upBr_eccBad (s : State) (b : Nat) (f : Bridge → Bridge) : (s.upBr b f).eccBad = s.eccBad := rfl
@[simp] theorem State.upBr_logMin (s : State) (b : Nat) (f : Bridge → Bridge) : (s.upBr b f).logMin = s.logMin := rfl
@[simp] theorem State.upBr_nvm (s : State) (b : Nat) (f : Bridge → Bridge) : (s.upBr b f).nvm = s.nvm := rfl
@[simp] theorem State.upBr_eeprom (s : State) (b : Nat) (f : Bridge → Bridge) : (s.upBr b f).eeprom = s.eeprom := rfl
@[simp] theorem State.upBr_torn (s : State) (b : Nat) (f : Bridge → Bridge) : (s.upBr b f).torn = s.torn := rfl
@[simp] theorem State.upBr_boot (s : State) (b : Nat) (f : Bridge → Bridge) : (s.upBr b f).boot = s.boot := rfl
@[simp] theorem State.upBr_fuse (s : State) (b : Nat) (f : Bridge → Bridge) : (s.upBr b f).fuse = s.fuse := rfl
@[simp] theorem State.upBr_att (s : State) (b : Nat) (f : Bridge → Bridge) : (s.upBr b f).att = s.att := rfl
@[simp] theorem State.upBr_host (s : State) (b : Nat) (f : Bridge → Bridge) : (s.upBr b f).host = s.host := rfl
@[simp] theorem State.upBr_mon (s : State) (b : Nat) (f : Bridge → Bridge) : (s.upBr b f).mon = s.mon := rfl
@[simp] theorem State.upBr_cnvm (s : State) (b : Nat) (f : Bridge → Bridge) : (s.upBr b f).cnvm = s.cnvm := rfl
@[simp] theorem State.upBr_sram (s : State) (b : Nat) (f : Bridge → Bridge) : (s.upBr b f).sram = s.sram := rfl
@[simp] theorem State.upBr_pending (s : State) (b : Nat) (f : Bridge → Bridge) : (s.upBr b f).pending = s.pending := rfl

/-! `State.upEng` changes `rpe` alone. -/
@[simp] theorem State.upEng_reg (s : State) (g : Nat) (f : Rpe → Rpe) : (s.upEng g f).reg = s.reg := rfl
@[simp] theorem State.upEng_shadow (s : State) (g : Nat) (f : Rpe → Rpe) : (s.upEng g f).shadow = s.shadow := rfl
@[simp] theorem State.upEng_resp (s : State) (g : Nat) (f : Rpe → Rpe) : (s.upEng g f).resp = s.resp := rfl
@[simp] theorem State.upEng_free (s : State) (g : Nat) (f : Rpe → Rpe) : (s.upEng g f).free = s.free := rfl
@[simp] theorem State.upEng_tb (s : State) (g : Nat) (f : Rpe → Rpe) : (s.upEng g f).tb = s.tb := rfl
@[simp] theorem State.upEng_tbFrac (s : State) (g : Nat) (f : Rpe → Rpe) : (s.upEng g f).tbFrac = s.tbFrac := rfl
@[simp] theorem State.upEng_tbHid (s : State) (g : Nat) (f : Rpe → Rpe) : (s.upEng g f).tbHid = s.tbHid := rfl
@[simp] theorem State.upEng_sup (s : State) (g : Nat) (f : Rpe → Rpe) : (s.upEng g f).sup = s.sup := rfl
@[simp] theorem State.upEng_clk (s : State) (g : Nat) (f : Rpe → Rpe) : (s.upEng g f).clk = s.clk := rfl
@[simp] theorem State.upEng_cmp (s : State) (g : Nat) (f : Rpe → Rpe) : (s.upEng g f).cmp = s.cmp := rfl
@[simp] theorem State.upEng_casc (s : State) (g : Nat) (f : Rpe → Rpe) : (s.upEng g f).casc = s.casc := rfl
@[simp] theorem State.upEng_cascPhase (s : State) (g : Nat) (f : Rpe → Rpe) : (s.upEng g f).cascPhase = s.cascPhase := rfl
@[simp] theorem State.upEng_dom (s : State) (g : Nat) (f : Rpe → Rpe) : (s.upEng g f).dom = s.dom := rfl
@[simp] theorem State.upEng_reqs (s : State) (g : Nat) (f : Rpe → Rpe) : (s.upEng g f).reqs = s.reqs := rfl
@[simp] theorem State.upEng_stall (s : State) (g : Nat) (f : Rpe → Rpe) : (s.upEng g f).stall = s.stall := rfl
@[simp] theorem State.upEng_rind (s : State) (g : Nat) (f : Rpe → Rpe) : (s.upEng g f).rind = s.rind := rfl
@[simp] theorem State.upEng_wdgAlt (s : State) (g : Nat) (f : Rpe → Rpe) : (s.upEng g f).wdgAlt = s.wdgAlt := rfl
@[simp] theorem State.upEng_wdgReset (s : State) (g : Nat) (f : Rpe → Rpe) : (s.upEng g f).wdgReset = s.wdgReset := rfl
@[simp] theorem State.upEng_wdgFrom (s : State) (g : Nat) (f : Rpe → Rpe) : (s.upEng g f).wdgFrom = s.wdgFrom := rfl
@[simp] theorem State.upEng_wdgPause (s : State) (g : Nat) (f : Rpe → Rpe) : (s.upEng g f).wdgPause = s.wdgPause := rfl
@[simp] theorem State.upEng_wdgMs (s : State) (g : Nat) (f : Rpe → Rpe) : (s.upEng g f).wdgMs = s.wdgMs := rfl
@[simp] theorem State.upEng_gate (s : State) (g : Nat) (f : Rpe → Rpe) : (s.upEng g f).gate = s.gate := rfl
@[simp] theorem State.upEng_cald (s : State) (g : Nat) (f : Rpe → Rpe) : (s.upEng g f).cald = s.cald := rfl
@[simp] theorem State.upEng_chan (s : State) (g : Nat) (f : Rpe → Rpe) : (s.upEng g f).chan = s.chan := rfl
@[simp] theorem State.upEng_fio (s : State) (g : Nat) (f : Rpe → Rpe) : (s.upEng g f).fio = s.fio := rfl
@[simp] theorem State.upEng_keep (s : State) (g : Nat) (f : Rpe → Rpe) : (s.upEng g f).keep = s.keep := rfl
@[simp] theorem State.upEng_bridge (s : State) (g : Nat) (f : Rpe → Rpe) : (s.upEng g f).bridge = s.bridge := rfl
@[simp] theorem State.upEng_valve (s : State) (g : Nat) (f : Rpe → Rpe) : (s.upEng g f).valve = s.valve := rfl
@[simp] theorem State.upEng_bank (s : State) (g : Nat) (f : Rpe → Rpe) : (s.upEng g f).bank = s.bank := rfl
@[simp] theorem State.upEng_swi (s : State) (g : Nat) (f : Rpe → Rpe) : (s.upEng g f).swi = s.swi := rfl
@[simp] theorem State.upEng_parkQ (s : State) (g : Nat) (f : Rpe → Rpe) : (s.upEng g f).parkQ = s.parkQ := rfl
@[simp] theorem State.upEng_ssupOc (s : State) (g : Nat) (f : Rpe → Rpe) : (s.upEng g f).ssupOc = s.ssupOc := rfl
@[simp] theorem State.upEng_sense (s : State) (g : Nat) (f : Rpe → Rpe) : (s.upEng g f).sense = s.sense := rfl
@[simp] theorem State.upEng_led (s : State) (g : Nat) (f : Rpe → Rpe) : (s.upEng g f).led = s.led := rfl
@[simp] theorem State.upEng_ldc (s : State) (g : Nat) (f : Rpe → Rpe) : (s.upEng g f).ldc = s.ldc := rfl
@[simp] theorem State.upEng_ldcRam (s : State) (g : Nat) (f : Rpe → Rpe) : (s.upEng g f).ldcRam = s.ldcRam := rfl
@[simp] theorem State.upEng_preps (s : State) (g : Nat) (f : Rpe → Rpe) : (s.upEng g f).preps = s.preps := rfl
@[simp] theorem State.upEng_slots (s : State) (g : Nat) (f : Rpe → Rpe) : (s.upEng g f).slots = s.slots := rfl
@[simp] theorem State.upEng_woken (s : State) (g : Nat) (f : Rpe → Rpe) : (s.upEng g f).woken = s.woken := rfl
@[simp] theorem State.upEng_fer (s : State) (g : Nat) (f : Rpe → Rpe) : (s.upEng g f).fer = s.fer := rfl
@[simp] theorem State.upEng_immo (s : State) (g : Nat) (f : Rpe → Rpe) : (s.upEng g f).immo = s.immo := rfl
@[simp] theorem State.upEng_lf (s : State) (g : Nat) (f : Rpe → Rpe) : (s.upEng g f).lf = s.lf := rfl
@[simp] theorem State.upEng_can (s : State) (g : Nat) (f : Rpe → Rpe) : (s.upEng g f).can = s.can := rfl
@[simp] theorem State.upEng_xcvr (s : State) (g : Nat) (f : Rpe → Rpe) : (s.upEng g f).xcvr = s.xcvr := rfl
@[simp] theorem State.upEng_vcc5Low (s : State) (g : Nat) (f : Rpe → Rpe) : (s.upEng g f).vcc5Low = s.vcc5Low := rfl
@[simp] theorem State.upEng_msgRam (s : State) (g : Nat) (f : Rpe → Rpe) : (s.upEng g f).msgRam = s.msgRam := rfl
@[simp] theorem State.upEng_nmBus (s : State) (g : Nat) (f : Rpe → Rpe) : (s.upEng g f).nmBus = s.nmBus := rfl
@[simp] theorem State.upEng_nm (s : State) (g : Nat) (f : Rpe → Rpe) : (s.upEng g f).nm = s.nm := rfl
@[simp] theorem State.upEng_wake (s : State) (g : Nat) (f : Rpe → Rpe) : (s.upEng g f).wake = s.wake := rfl
@[simp] theorem State.upEng_lin (s : State) (g : Nat) (f : Rpe → Rpe) : (s.upEng g f).lin = s.lin := rfl
@[simp] theorem State.upEng_mac (s : State) (g : Nat) (f : Rpe → Rpe) : (s.upEng g f).mac = s.mac := rfl
@[simp] theorem State.upEng_nt (s : State) (g : Nat) (f : Rpe → Rpe) : (s.upEng g f).nt = s.nt := rfl
@[simp] theorem State.upEng_ring (s : State) (g : Nat) (f : Rpe → Rpe) : (s.upEng g f).ring = s.ring := rfl
@[simp] theorem State.upEng_core (s : State) (g : Nat) (f : Rpe → Rpe) : (s.upEng g f).core = s.core := rfl
@[simp] theorem State.upEng_dram (s : State) (g : Nat) (f : Rpe → Rpe) : (s.upEng g f).dram = s.dram := rfl
@[simp] theorem State.upEng_iram (s : State) (g : Nat) (f : Rpe → Rpe) : (s.upEng g f).iram = s.iram := rfl
@[simp] theorem State.upEng_soft (s : State) (g : Nat) (f : Rpe → Rpe) : (s.upEng g f).soft = s.soft := rfl
@[simp] theorem State.upEng_mbox (s : State) (g : Nat) (f : Rpe → Rpe) : (s.upEng g f).mbox = s.mbox := rfl
@[simp] theorem State.upEng_eccBad (s : State) (g : Nat) (f : Rpe → Rpe) : (s.upEng g f).eccBad = s.eccBad := rfl
@[simp] theorem State.upEng_logMin (s : State) (g : Nat) (f : Rpe → Rpe) : (s.upEng g f).logMin = s.logMin := rfl
@[simp] theorem State.upEng_nvm (s : State) (g : Nat) (f : Rpe → Rpe) : (s.upEng g f).nvm = s.nvm := rfl
@[simp] theorem State.upEng_eeprom (s : State) (g : Nat) (f : Rpe → Rpe) : (s.upEng g f).eeprom = s.eeprom := rfl
@[simp] theorem State.upEng_torn (s : State) (g : Nat) (f : Rpe → Rpe) : (s.upEng g f).torn = s.torn := rfl
@[simp] theorem State.upEng_boot (s : State) (g : Nat) (f : Rpe → Rpe) : (s.upEng g f).boot = s.boot := rfl
@[simp] theorem State.upEng_fuse (s : State) (g : Nat) (f : Rpe → Rpe) : (s.upEng g f).fuse = s.fuse := rfl
@[simp] theorem State.upEng_att (s : State) (g : Nat) (f : Rpe → Rpe) : (s.upEng g f).att = s.att := rfl
@[simp] theorem State.upEng_host (s : State) (g : Nat) (f : Rpe → Rpe) : (s.upEng g f).host = s.host := rfl
@[simp] theorem State.upEng_mon (s : State) (g : Nat) (f : Rpe → Rpe) : (s.upEng g f).mon = s.mon := rfl
@[simp] theorem State.upEng_cnvm (s : State) (g : Nat) (f : Rpe → Rpe) : (s.upEng g f).cnvm = s.cnvm := rfl
@[simp] theorem State.upEng_sram (s : State) (g : Nat) (f : Rpe → Rpe) : (s.upEng g f).sram = s.sram := rfl
@[simp] theorem State.upEng_pending (s : State) (g : Nat) (f : Rpe → Rpe) : (s.upEng g f).pending = s.pending := rfl

/-! `State.upVlv` changes `valve` alone. -/
@[simp] theorem State.upVlv_reg (s : State) (n : Nat) (f : Valve → Valve) : (s.upVlv n f).reg = s.reg := rfl
@[simp] theorem State.upVlv_shadow (s : State) (n : Nat) (f : Valve → Valve) : (s.upVlv n f).shadow = s.shadow := rfl
@[simp] theorem State.upVlv_resp (s : State) (n : Nat) (f : Valve → Valve) : (s.upVlv n f).resp = s.resp := rfl
@[simp] theorem State.upVlv_free (s : State) (n : Nat) (f : Valve → Valve) : (s.upVlv n f).free = s.free := rfl
@[simp] theorem State.upVlv_tb (s : State) (n : Nat) (f : Valve → Valve) : (s.upVlv n f).tb = s.tb := rfl
@[simp] theorem State.upVlv_tbFrac (s : State) (n : Nat) (f : Valve → Valve) : (s.upVlv n f).tbFrac = s.tbFrac := rfl
@[simp] theorem State.upVlv_tbHid (s : State) (n : Nat) (f : Valve → Valve) : (s.upVlv n f).tbHid = s.tbHid := rfl
@[simp] theorem State.upVlv_sup (s : State) (n : Nat) (f : Valve → Valve) : (s.upVlv n f).sup = s.sup := rfl
@[simp] theorem State.upVlv_clk (s : State) (n : Nat) (f : Valve → Valve) : (s.upVlv n f).clk = s.clk := rfl
@[simp] theorem State.upVlv_cmp (s : State) (n : Nat) (f : Valve → Valve) : (s.upVlv n f).cmp = s.cmp := rfl
@[simp] theorem State.upVlv_casc (s : State) (n : Nat) (f : Valve → Valve) : (s.upVlv n f).casc = s.casc := rfl
@[simp] theorem State.upVlv_cascPhase (s : State) (n : Nat) (f : Valve → Valve) : (s.upVlv n f).cascPhase = s.cascPhase := rfl
@[simp] theorem State.upVlv_dom (s : State) (n : Nat) (f : Valve → Valve) : (s.upVlv n f).dom = s.dom := rfl
@[simp] theorem State.upVlv_reqs (s : State) (n : Nat) (f : Valve → Valve) : (s.upVlv n f).reqs = s.reqs := rfl
@[simp] theorem State.upVlv_stall (s : State) (n : Nat) (f : Valve → Valve) : (s.upVlv n f).stall = s.stall := rfl
@[simp] theorem State.upVlv_rind (s : State) (n : Nat) (f : Valve → Valve) : (s.upVlv n f).rind = s.rind := rfl
@[simp] theorem State.upVlv_wdgAlt (s : State) (n : Nat) (f : Valve → Valve) : (s.upVlv n f).wdgAlt = s.wdgAlt := rfl
@[simp] theorem State.upVlv_wdgReset (s : State) (n : Nat) (f : Valve → Valve) : (s.upVlv n f).wdgReset = s.wdgReset := rfl
@[simp] theorem State.upVlv_wdgFrom (s : State) (n : Nat) (f : Valve → Valve) : (s.upVlv n f).wdgFrom = s.wdgFrom := rfl
@[simp] theorem State.upVlv_wdgPause (s : State) (n : Nat) (f : Valve → Valve) : (s.upVlv n f).wdgPause = s.wdgPause := rfl
@[simp] theorem State.upVlv_wdgMs (s : State) (n : Nat) (f : Valve → Valve) : (s.upVlv n f).wdgMs = s.wdgMs := rfl
@[simp] theorem State.upVlv_gate (s : State) (n : Nat) (f : Valve → Valve) : (s.upVlv n f).gate = s.gate := rfl
@[simp] theorem State.upVlv_cald (s : State) (n : Nat) (f : Valve → Valve) : (s.upVlv n f).cald = s.cald := rfl
@[simp] theorem State.upVlv_chan (s : State) (n : Nat) (f : Valve → Valve) : (s.upVlv n f).chan = s.chan := rfl
@[simp] theorem State.upVlv_fio (s : State) (n : Nat) (f : Valve → Valve) : (s.upVlv n f).fio = s.fio := rfl
@[simp] theorem State.upVlv_keep (s : State) (n : Nat) (f : Valve → Valve) : (s.upVlv n f).keep = s.keep := rfl
@[simp] theorem State.upVlv_bridge (s : State) (n : Nat) (f : Valve → Valve) : (s.upVlv n f).bridge = s.bridge := rfl
@[simp] theorem State.upVlv_rpe (s : State) (n : Nat) (f : Valve → Valve) : (s.upVlv n f).rpe = s.rpe := rfl
@[simp] theorem State.upVlv_bank (s : State) (n : Nat) (f : Valve → Valve) : (s.upVlv n f).bank = s.bank := rfl
@[simp] theorem State.upVlv_swi (s : State) (n : Nat) (f : Valve → Valve) : (s.upVlv n f).swi = s.swi := rfl
@[simp] theorem State.upVlv_parkQ (s : State) (n : Nat) (f : Valve → Valve) : (s.upVlv n f).parkQ = s.parkQ := rfl
@[simp] theorem State.upVlv_ssupOc (s : State) (n : Nat) (f : Valve → Valve) : (s.upVlv n f).ssupOc = s.ssupOc := rfl
@[simp] theorem State.upVlv_sense (s : State) (n : Nat) (f : Valve → Valve) : (s.upVlv n f).sense = s.sense := rfl
@[simp] theorem State.upVlv_led (s : State) (n : Nat) (f : Valve → Valve) : (s.upVlv n f).led = s.led := rfl
@[simp] theorem State.upVlv_ldc (s : State) (n : Nat) (f : Valve → Valve) : (s.upVlv n f).ldc = s.ldc := rfl
@[simp] theorem State.upVlv_ldcRam (s : State) (n : Nat) (f : Valve → Valve) : (s.upVlv n f).ldcRam = s.ldcRam := rfl
@[simp] theorem State.upVlv_preps (s : State) (n : Nat) (f : Valve → Valve) : (s.upVlv n f).preps = s.preps := rfl
@[simp] theorem State.upVlv_slots (s : State) (n : Nat) (f : Valve → Valve) : (s.upVlv n f).slots = s.slots := rfl
@[simp] theorem State.upVlv_woken (s : State) (n : Nat) (f : Valve → Valve) : (s.upVlv n f).woken = s.woken := rfl
@[simp] theorem State.upVlv_fer (s : State) (n : Nat) (f : Valve → Valve) : (s.upVlv n f).fer = s.fer := rfl
@[simp] theorem State.upVlv_immo (s : State) (n : Nat) (f : Valve → Valve) : (s.upVlv n f).immo = s.immo := rfl
@[simp] theorem State.upVlv_lf (s : State) (n : Nat) (f : Valve → Valve) : (s.upVlv n f).lf = s.lf := rfl
@[simp] theorem State.upVlv_can (s : State) (n : Nat) (f : Valve → Valve) : (s.upVlv n f).can = s.can := rfl
@[simp] theorem State.upVlv_xcvr (s : State) (n : Nat) (f : Valve → Valve) : (s.upVlv n f).xcvr = s.xcvr := rfl
@[simp] theorem State.upVlv_vcc5Low (s : State) (n : Nat) (f : Valve → Valve) : (s.upVlv n f).vcc5Low = s.vcc5Low := rfl
@[simp] theorem State.upVlv_msgRam (s : State) (n : Nat) (f : Valve → Valve) : (s.upVlv n f).msgRam = s.msgRam := rfl
@[simp] theorem State.upVlv_nmBus (s : State) (n : Nat) (f : Valve → Valve) : (s.upVlv n f).nmBus = s.nmBus := rfl
@[simp] theorem State.upVlv_nm (s : State) (n : Nat) (f : Valve → Valve) : (s.upVlv n f).nm = s.nm := rfl
@[simp] theorem State.upVlv_wake (s : State) (n : Nat) (f : Valve → Valve) : (s.upVlv n f).wake = s.wake := rfl
@[simp] theorem State.upVlv_lin (s : State) (n : Nat) (f : Valve → Valve) : (s.upVlv n f).lin = s.lin := rfl
@[simp] theorem State.upVlv_mac (s : State) (n : Nat) (f : Valve → Valve) : (s.upVlv n f).mac = s.mac := rfl
@[simp] theorem State.upVlv_nt (s : State) (n : Nat) (f : Valve → Valve) : (s.upVlv n f).nt = s.nt := rfl
@[simp] theorem State.upVlv_ring (s : State) (n : Nat) (f : Valve → Valve) : (s.upVlv n f).ring = s.ring := rfl
@[simp] theorem State.upVlv_core (s : State) (n : Nat) (f : Valve → Valve) : (s.upVlv n f).core = s.core := rfl
@[simp] theorem State.upVlv_dram (s : State) (n : Nat) (f : Valve → Valve) : (s.upVlv n f).dram = s.dram := rfl
@[simp] theorem State.upVlv_iram (s : State) (n : Nat) (f : Valve → Valve) : (s.upVlv n f).iram = s.iram := rfl
@[simp] theorem State.upVlv_soft (s : State) (n : Nat) (f : Valve → Valve) : (s.upVlv n f).soft = s.soft := rfl
@[simp] theorem State.upVlv_mbox (s : State) (n : Nat) (f : Valve → Valve) : (s.upVlv n f).mbox = s.mbox := rfl
@[simp] theorem State.upVlv_eccBad (s : State) (n : Nat) (f : Valve → Valve) : (s.upVlv n f).eccBad = s.eccBad := rfl
@[simp] theorem State.upVlv_logMin (s : State) (n : Nat) (f : Valve → Valve) : (s.upVlv n f).logMin = s.logMin := rfl
@[simp] theorem State.upVlv_nvm (s : State) (n : Nat) (f : Valve → Valve) : (s.upVlv n f).nvm = s.nvm := rfl
@[simp] theorem State.upVlv_eeprom (s : State) (n : Nat) (f : Valve → Valve) : (s.upVlv n f).eeprom = s.eeprom := rfl
@[simp] theorem State.upVlv_torn (s : State) (n : Nat) (f : Valve → Valve) : (s.upVlv n f).torn = s.torn := rfl
@[simp] theorem State.upVlv_boot (s : State) (n : Nat) (f : Valve → Valve) : (s.upVlv n f).boot = s.boot := rfl
@[simp] theorem State.upVlv_fuse (s : State) (n : Nat) (f : Valve → Valve) : (s.upVlv n f).fuse = s.fuse := rfl
@[simp] theorem State.upVlv_att (s : State) (n : Nat) (f : Valve → Valve) : (s.upVlv n f).att = s.att := rfl
@[simp] theorem State.upVlv_host (s : State) (n : Nat) (f : Valve → Valve) : (s.upVlv n f).host = s.host := rfl
@[simp] theorem State.upVlv_mon (s : State) (n : Nat) (f : Valve → Valve) : (s.upVlv n f).mon = s.mon := rfl
@[simp] theorem State.upVlv_cnvm (s : State) (n : Nat) (f : Valve → Valve) : (s.upVlv n f).cnvm = s.cnvm := rfl
@[simp] theorem State.upVlv_sram (s : State) (n : Nat) (f : Valve → Valve) : (s.upVlv n f).sram = s.sram := rfl
@[simp] theorem State.upVlv_pending (s : State) (n : Nat) (f : Valve → Valve) : (s.upVlv n f).pending = s.pending := rfl

/-! `State.upBk` changes `bank` alone. -/
@[simp] theorem State.upBk_reg (s : State) (k : Nat) (f : Bank → Bank) : (s.upBk k f).reg = s.reg := rfl
@[simp] theorem State.upBk_shadow (s : State) (k : Nat) (f : Bank → Bank) : (s.upBk k f).shadow = s.shadow := rfl
@[simp] theorem State.upBk_resp (s : State) (k : Nat) (f : Bank → Bank) : (s.upBk k f).resp = s.resp := rfl
@[simp] theorem State.upBk_free (s : State) (k : Nat) (f : Bank → Bank) : (s.upBk k f).free = s.free := rfl
@[simp] theorem State.upBk_tb (s : State) (k : Nat) (f : Bank → Bank) : (s.upBk k f).tb = s.tb := rfl
@[simp] theorem State.upBk_tbFrac (s : State) (k : Nat) (f : Bank → Bank) : (s.upBk k f).tbFrac = s.tbFrac := rfl
@[simp] theorem State.upBk_tbHid (s : State) (k : Nat) (f : Bank → Bank) : (s.upBk k f).tbHid = s.tbHid := rfl
@[simp] theorem State.upBk_sup (s : State) (k : Nat) (f : Bank → Bank) : (s.upBk k f).sup = s.sup := rfl
@[simp] theorem State.upBk_clk (s : State) (k : Nat) (f : Bank → Bank) : (s.upBk k f).clk = s.clk := rfl
@[simp] theorem State.upBk_cmp (s : State) (k : Nat) (f : Bank → Bank) : (s.upBk k f).cmp = s.cmp := rfl
@[simp] theorem State.upBk_casc (s : State) (k : Nat) (f : Bank → Bank) : (s.upBk k f).casc = s.casc := rfl
@[simp] theorem State.upBk_cascPhase (s : State) (k : Nat) (f : Bank → Bank) : (s.upBk k f).cascPhase = s.cascPhase := rfl
@[simp] theorem State.upBk_dom (s : State) (k : Nat) (f : Bank → Bank) : (s.upBk k f).dom = s.dom := rfl
@[simp] theorem State.upBk_reqs (s : State) (k : Nat) (f : Bank → Bank) : (s.upBk k f).reqs = s.reqs := rfl
@[simp] theorem State.upBk_stall (s : State) (k : Nat) (f : Bank → Bank) : (s.upBk k f).stall = s.stall := rfl
@[simp] theorem State.upBk_rind (s : State) (k : Nat) (f : Bank → Bank) : (s.upBk k f).rind = s.rind := rfl
@[simp] theorem State.upBk_wdgAlt (s : State) (k : Nat) (f : Bank → Bank) : (s.upBk k f).wdgAlt = s.wdgAlt := rfl
@[simp] theorem State.upBk_wdgReset (s : State) (k : Nat) (f : Bank → Bank) : (s.upBk k f).wdgReset = s.wdgReset := rfl
@[simp] theorem State.upBk_wdgFrom (s : State) (k : Nat) (f : Bank → Bank) : (s.upBk k f).wdgFrom = s.wdgFrom := rfl
@[simp] theorem State.upBk_wdgPause (s : State) (k : Nat) (f : Bank → Bank) : (s.upBk k f).wdgPause = s.wdgPause := rfl
@[simp] theorem State.upBk_wdgMs (s : State) (k : Nat) (f : Bank → Bank) : (s.upBk k f).wdgMs = s.wdgMs := rfl
@[simp] theorem State.upBk_gate (s : State) (k : Nat) (f : Bank → Bank) : (s.upBk k f).gate = s.gate := rfl
@[simp] theorem State.upBk_cald (s : State) (k : Nat) (f : Bank → Bank) : (s.upBk k f).cald = s.cald := rfl
@[simp] theorem State.upBk_chan (s : State) (k : Nat) (f : Bank → Bank) : (s.upBk k f).chan = s.chan := rfl
@[simp] theorem State.upBk_fio (s : State) (k : Nat) (f : Bank → Bank) : (s.upBk k f).fio = s.fio := rfl
@[simp] theorem State.upBk_keep (s : State) (k : Nat) (f : Bank → Bank) : (s.upBk k f).keep = s.keep := rfl
@[simp] theorem State.upBk_bridge (s : State) (k : Nat) (f : Bank → Bank) : (s.upBk k f).bridge = s.bridge := rfl
@[simp] theorem State.upBk_rpe (s : State) (k : Nat) (f : Bank → Bank) : (s.upBk k f).rpe = s.rpe := rfl
@[simp] theorem State.upBk_valve (s : State) (k : Nat) (f : Bank → Bank) : (s.upBk k f).valve = s.valve := rfl
@[simp] theorem State.upBk_swi (s : State) (k : Nat) (f : Bank → Bank) : (s.upBk k f).swi = s.swi := rfl
@[simp] theorem State.upBk_parkQ (s : State) (k : Nat) (f : Bank → Bank) : (s.upBk k f).parkQ = s.parkQ := rfl
@[simp] theorem State.upBk_ssupOc (s : State) (k : Nat) (f : Bank → Bank) : (s.upBk k f).ssupOc = s.ssupOc := rfl
@[simp] theorem State.upBk_sense (s : State) (k : Nat) (f : Bank → Bank) : (s.upBk k f).sense = s.sense := rfl
@[simp] theorem State.upBk_led (s : State) (k : Nat) (f : Bank → Bank) : (s.upBk k f).led = s.led := rfl
@[simp] theorem State.upBk_ldc (s : State) (k : Nat) (f : Bank → Bank) : (s.upBk k f).ldc = s.ldc := rfl
@[simp] theorem State.upBk_ldcRam (s : State) (k : Nat) (f : Bank → Bank) : (s.upBk k f).ldcRam = s.ldcRam := rfl
@[simp] theorem State.upBk_preps (s : State) (k : Nat) (f : Bank → Bank) : (s.upBk k f).preps = s.preps := rfl
@[simp] theorem State.upBk_slots (s : State) (k : Nat) (f : Bank → Bank) : (s.upBk k f).slots = s.slots := rfl
@[simp] theorem State.upBk_woken (s : State) (k : Nat) (f : Bank → Bank) : (s.upBk k f).woken = s.woken := rfl
@[simp] theorem State.upBk_fer (s : State) (k : Nat) (f : Bank → Bank) : (s.upBk k f).fer = s.fer := rfl
@[simp] theorem State.upBk_immo (s : State) (k : Nat) (f : Bank → Bank) : (s.upBk k f).immo = s.immo := rfl
@[simp] theorem State.upBk_lf (s : State) (k : Nat) (f : Bank → Bank) : (s.upBk k f).lf = s.lf := rfl
@[simp] theorem State.upBk_can (s : State) (k : Nat) (f : Bank → Bank) : (s.upBk k f).can = s.can := rfl
@[simp] theorem State.upBk_xcvr (s : State) (k : Nat) (f : Bank → Bank) : (s.upBk k f).xcvr = s.xcvr := rfl
@[simp] theorem State.upBk_vcc5Low (s : State) (k : Nat) (f : Bank → Bank) : (s.upBk k f).vcc5Low = s.vcc5Low := rfl
@[simp] theorem State.upBk_msgRam (s : State) (k : Nat) (f : Bank → Bank) : (s.upBk k f).msgRam = s.msgRam := rfl
@[simp] theorem State.upBk_nmBus (s : State) (k : Nat) (f : Bank → Bank) : (s.upBk k f).nmBus = s.nmBus := rfl
@[simp] theorem State.upBk_nm (s : State) (k : Nat) (f : Bank → Bank) : (s.upBk k f).nm = s.nm := rfl
@[simp] theorem State.upBk_wake (s : State) (k : Nat) (f : Bank → Bank) : (s.upBk k f).wake = s.wake := rfl
@[simp] theorem State.upBk_lin (s : State) (k : Nat) (f : Bank → Bank) : (s.upBk k f).lin = s.lin := rfl
@[simp] theorem State.upBk_mac (s : State) (k : Nat) (f : Bank → Bank) : (s.upBk k f).mac = s.mac := rfl
@[simp] theorem State.upBk_nt (s : State) (k : Nat) (f : Bank → Bank) : (s.upBk k f).nt = s.nt := rfl
@[simp] theorem State.upBk_ring (s : State) (k : Nat) (f : Bank → Bank) : (s.upBk k f).ring = s.ring := rfl
@[simp] theorem State.upBk_core (s : State) (k : Nat) (f : Bank → Bank) : (s.upBk k f).core = s.core := rfl
@[simp] theorem State.upBk_dram (s : State) (k : Nat) (f : Bank → Bank) : (s.upBk k f).dram = s.dram := rfl
@[simp] theorem State.upBk_iram (s : State) (k : Nat) (f : Bank → Bank) : (s.upBk k f).iram = s.iram := rfl
@[simp] theorem State.upBk_soft (s : State) (k : Nat) (f : Bank → Bank) : (s.upBk k f).soft = s.soft := rfl
@[simp] theorem State.upBk_mbox (s : State) (k : Nat) (f : Bank → Bank) : (s.upBk k f).mbox = s.mbox := rfl
@[simp] theorem State.upBk_eccBad (s : State) (k : Nat) (f : Bank → Bank) : (s.upBk k f).eccBad = s.eccBad := rfl
@[simp] theorem State.upBk_logMin (s : State) (k : Nat) (f : Bank → Bank) : (s.upBk k f).logMin = s.logMin := rfl
@[simp] theorem State.upBk_nvm (s : State) (k : Nat) (f : Bank → Bank) : (s.upBk k f).nvm = s.nvm := rfl
@[simp] theorem State.upBk_eeprom (s : State) (k : Nat) (f : Bank → Bank) : (s.upBk k f).eeprom = s.eeprom := rfl
@[simp] theorem State.upBk_torn (s : State) (k : Nat) (f : Bank → Bank) : (s.upBk k f).torn = s.torn := rfl
@[simp] theorem State.upBk_boot (s : State) (k : Nat) (f : Bank → Bank) : (s.upBk k f).boot = s.boot := rfl
@[simp] theorem State.upBk_fuse (s : State) (k : Nat) (f : Bank → Bank) : (s.upBk k f).fuse = s.fuse := rfl
@[simp] theorem State.upBk_att (s : State) (k : Nat) (f : Bank → Bank) : (s.upBk k f).att = s.att := rfl
@[simp] theorem State.upBk_host (s : State) (k : Nat) (f : Bank → Bank) : (s.upBk k f).host = s.host := rfl
@[simp] theorem State.upBk_mon (s : State) (k : Nat) (f : Bank → Bank) : (s.upBk k f).mon = s.mon := rfl
@[simp] theorem State.upBk_cnvm (s : State) (k : Nat) (f : Bank → Bank) : (s.upBk k f).cnvm = s.cnvm := rfl
@[simp] theorem State.upBk_sram (s : State) (k : Nat) (f : Bank → Bank) : (s.upBk k f).sram = s.sram := rfl
@[simp] theorem State.upBk_pending (s : State) (k : Nat) (f : Bank → Bank) : (s.upBk k f).pending = s.pending := rfl

/-! `State.upSw` changes `swi` alone. -/
@[simp] theorem State.upSw_reg (s : State) (n : Nat) (f : Swi → Swi) : (s.upSw n f).reg = s.reg := rfl
@[simp] theorem State.upSw_shadow (s : State) (n : Nat) (f : Swi → Swi) : (s.upSw n f).shadow = s.shadow := rfl
@[simp] theorem State.upSw_resp (s : State) (n : Nat) (f : Swi → Swi) : (s.upSw n f).resp = s.resp := rfl
@[simp] theorem State.upSw_free (s : State) (n : Nat) (f : Swi → Swi) : (s.upSw n f).free = s.free := rfl
@[simp] theorem State.upSw_tb (s : State) (n : Nat) (f : Swi → Swi) : (s.upSw n f).tb = s.tb := rfl
@[simp] theorem State.upSw_tbFrac (s : State) (n : Nat) (f : Swi → Swi) : (s.upSw n f).tbFrac = s.tbFrac := rfl
@[simp] theorem State.upSw_tbHid (s : State) (n : Nat) (f : Swi → Swi) : (s.upSw n f).tbHid = s.tbHid := rfl
@[simp] theorem State.upSw_sup (s : State) (n : Nat) (f : Swi → Swi) : (s.upSw n f).sup = s.sup := rfl
@[simp] theorem State.upSw_clk (s : State) (n : Nat) (f : Swi → Swi) : (s.upSw n f).clk = s.clk := rfl
@[simp] theorem State.upSw_cmp (s : State) (n : Nat) (f : Swi → Swi) : (s.upSw n f).cmp = s.cmp := rfl
@[simp] theorem State.upSw_casc (s : State) (n : Nat) (f : Swi → Swi) : (s.upSw n f).casc = s.casc := rfl
@[simp] theorem State.upSw_cascPhase (s : State) (n : Nat) (f : Swi → Swi) : (s.upSw n f).cascPhase = s.cascPhase := rfl
@[simp] theorem State.upSw_dom (s : State) (n : Nat) (f : Swi → Swi) : (s.upSw n f).dom = s.dom := rfl
@[simp] theorem State.upSw_reqs (s : State) (n : Nat) (f : Swi → Swi) : (s.upSw n f).reqs = s.reqs := rfl
@[simp] theorem State.upSw_stall (s : State) (n : Nat) (f : Swi → Swi) : (s.upSw n f).stall = s.stall := rfl
@[simp] theorem State.upSw_rind (s : State) (n : Nat) (f : Swi → Swi) : (s.upSw n f).rind = s.rind := rfl
@[simp] theorem State.upSw_wdgAlt (s : State) (n : Nat) (f : Swi → Swi) : (s.upSw n f).wdgAlt = s.wdgAlt := rfl
@[simp] theorem State.upSw_wdgReset (s : State) (n : Nat) (f : Swi → Swi) : (s.upSw n f).wdgReset = s.wdgReset := rfl
@[simp] theorem State.upSw_wdgFrom (s : State) (n : Nat) (f : Swi → Swi) : (s.upSw n f).wdgFrom = s.wdgFrom := rfl
@[simp] theorem State.upSw_wdgPause (s : State) (n : Nat) (f : Swi → Swi) : (s.upSw n f).wdgPause = s.wdgPause := rfl
@[simp] theorem State.upSw_wdgMs (s : State) (n : Nat) (f : Swi → Swi) : (s.upSw n f).wdgMs = s.wdgMs := rfl
@[simp] theorem State.upSw_gate (s : State) (n : Nat) (f : Swi → Swi) : (s.upSw n f).gate = s.gate := rfl
@[simp] theorem State.upSw_cald (s : State) (n : Nat) (f : Swi → Swi) : (s.upSw n f).cald = s.cald := rfl
@[simp] theorem State.upSw_chan (s : State) (n : Nat) (f : Swi → Swi) : (s.upSw n f).chan = s.chan := rfl
@[simp] theorem State.upSw_fio (s : State) (n : Nat) (f : Swi → Swi) : (s.upSw n f).fio = s.fio := rfl
@[simp] theorem State.upSw_keep (s : State) (n : Nat) (f : Swi → Swi) : (s.upSw n f).keep = s.keep := rfl
@[simp] theorem State.upSw_bridge (s : State) (n : Nat) (f : Swi → Swi) : (s.upSw n f).bridge = s.bridge := rfl
@[simp] theorem State.upSw_rpe (s : State) (n : Nat) (f : Swi → Swi) : (s.upSw n f).rpe = s.rpe := rfl
@[simp] theorem State.upSw_valve (s : State) (n : Nat) (f : Swi → Swi) : (s.upSw n f).valve = s.valve := rfl
@[simp] theorem State.upSw_bank (s : State) (n : Nat) (f : Swi → Swi) : (s.upSw n f).bank = s.bank := rfl
@[simp] theorem State.upSw_parkQ (s : State) (n : Nat) (f : Swi → Swi) : (s.upSw n f).parkQ = s.parkQ := rfl
@[simp] theorem State.upSw_ssupOc (s : State) (n : Nat) (f : Swi → Swi) : (s.upSw n f).ssupOc = s.ssupOc := rfl
@[simp] theorem State.upSw_sense (s : State) (n : Nat) (f : Swi → Swi) : (s.upSw n f).sense = s.sense := rfl
@[simp] theorem State.upSw_led (s : State) (n : Nat) (f : Swi → Swi) : (s.upSw n f).led = s.led := rfl
@[simp] theorem State.upSw_ldc (s : State) (n : Nat) (f : Swi → Swi) : (s.upSw n f).ldc = s.ldc := rfl
@[simp] theorem State.upSw_ldcRam (s : State) (n : Nat) (f : Swi → Swi) : (s.upSw n f).ldcRam = s.ldcRam := rfl
@[simp] theorem State.upSw_preps (s : State) (n : Nat) (f : Swi → Swi) : (s.upSw n f).preps = s.preps := rfl
@[simp] theorem State.upSw_slots (s : State) (n : Nat) (f : Swi → Swi) : (s.upSw n f).slots = s.slots := rfl
@[simp] theorem State.upSw_woken (s : State) (n : Nat) (f : Swi → Swi) : (s.upSw n f).woken = s.woken := rfl
@[simp] theorem State.upSw_fer (s : State) (n : Nat) (f : Swi → Swi) : (s.upSw n f).fer = s.fer := rfl
@[simp] theorem State.upSw_immo (s : State) (n : Nat) (f : Swi → Swi) : (s.upSw n f).immo = s.immo := rfl
@[simp] theorem State.upSw_lf (s : State) (n : Nat) (f : Swi → Swi) : (s.upSw n f).lf = s.lf := rfl
@[simp] theorem State.upSw_can (s : State) (n : Nat) (f : Swi → Swi) : (s.upSw n f).can = s.can := rfl
@[simp] theorem State.upSw_xcvr (s : State) (n : Nat) (f : Swi → Swi) : (s.upSw n f).xcvr = s.xcvr := rfl
@[simp] theorem State.upSw_vcc5Low (s : State) (n : Nat) (f : Swi → Swi) : (s.upSw n f).vcc5Low = s.vcc5Low := rfl
@[simp] theorem State.upSw_msgRam (s : State) (n : Nat) (f : Swi → Swi) : (s.upSw n f).msgRam = s.msgRam := rfl
@[simp] theorem State.upSw_nmBus (s : State) (n : Nat) (f : Swi → Swi) : (s.upSw n f).nmBus = s.nmBus := rfl
@[simp] theorem State.upSw_nm (s : State) (n : Nat) (f : Swi → Swi) : (s.upSw n f).nm = s.nm := rfl
@[simp] theorem State.upSw_wake (s : State) (n : Nat) (f : Swi → Swi) : (s.upSw n f).wake = s.wake := rfl
@[simp] theorem State.upSw_lin (s : State) (n : Nat) (f : Swi → Swi) : (s.upSw n f).lin = s.lin := rfl
@[simp] theorem State.upSw_mac (s : State) (n : Nat) (f : Swi → Swi) : (s.upSw n f).mac = s.mac := rfl
@[simp] theorem State.upSw_nt (s : State) (n : Nat) (f : Swi → Swi) : (s.upSw n f).nt = s.nt := rfl
@[simp] theorem State.upSw_ring (s : State) (n : Nat) (f : Swi → Swi) : (s.upSw n f).ring = s.ring := rfl
@[simp] theorem State.upSw_core (s : State) (n : Nat) (f : Swi → Swi) : (s.upSw n f).core = s.core := rfl
@[simp] theorem State.upSw_dram (s : State) (n : Nat) (f : Swi → Swi) : (s.upSw n f).dram = s.dram := rfl
@[simp] theorem State.upSw_iram (s : State) (n : Nat) (f : Swi → Swi) : (s.upSw n f).iram = s.iram := rfl
@[simp] theorem State.upSw_soft (s : State) (n : Nat) (f : Swi → Swi) : (s.upSw n f).soft = s.soft := rfl
@[simp] theorem State.upSw_mbox (s : State) (n : Nat) (f : Swi → Swi) : (s.upSw n f).mbox = s.mbox := rfl
@[simp] theorem State.upSw_eccBad (s : State) (n : Nat) (f : Swi → Swi) : (s.upSw n f).eccBad = s.eccBad := rfl
@[simp] theorem State.upSw_logMin (s : State) (n : Nat) (f : Swi → Swi) : (s.upSw n f).logMin = s.logMin := rfl
@[simp] theorem State.upSw_nvm (s : State) (n : Nat) (f : Swi → Swi) : (s.upSw n f).nvm = s.nvm := rfl
@[simp] theorem State.upSw_eeprom (s : State) (n : Nat) (f : Swi → Swi) : (s.upSw n f).eeprom = s.eeprom := rfl
@[simp] theorem State.upSw_torn (s : State) (n : Nat) (f : Swi → Swi) : (s.upSw n f).torn = s.torn := rfl
@[simp] theorem State.upSw_boot (s : State) (n : Nat) (f : Swi → Swi) : (s.upSw n f).boot = s.boot := rfl
@[simp] theorem State.upSw_fuse (s : State) (n : Nat) (f : Swi → Swi) : (s.upSw n f).fuse = s.fuse := rfl
@[simp] theorem State.upSw_att (s : State) (n : Nat) (f : Swi → Swi) : (s.upSw n f).att = s.att := rfl
@[simp] theorem State.upSw_host (s : State) (n : Nat) (f : Swi → Swi) : (s.upSw n f).host = s.host := rfl
@[simp] theorem State.upSw_mon (s : State) (n : Nat) (f : Swi → Swi) : (s.upSw n f).mon = s.mon := rfl
@[simp] theorem State.upSw_cnvm (s : State) (n : Nat) (f : Swi → Swi) : (s.upSw n f).cnvm = s.cnvm := rfl
@[simp] theorem State.upSw_sram (s : State) (n : Nat) (f : Swi → Swi) : (s.upSw n f).sram = s.sram := rfl
@[simp] theorem State.upSw_pending (s : State) (n : Nat) (f : Swi → Swi) : (s.upSw n f).pending = s.pending := rfl

/-! `State.upSlot` changes `slots` alone. -/
@[simp] theorem State.upSlot_reg (s : State) (n : Nat) (f : SlotH → SlotH) : (s.upSlot n f).reg = s.reg := rfl
@[simp] theorem State.upSlot_shadow (s : State) (n : Nat) (f : SlotH → SlotH) : (s.upSlot n f).shadow = s.shadow := rfl
@[simp] theorem State.upSlot_resp (s : State) (n : Nat) (f : SlotH → SlotH) : (s.upSlot n f).resp = s.resp := rfl
@[simp] theorem State.upSlot_free (s : State) (n : Nat) (f : SlotH → SlotH) : (s.upSlot n f).free = s.free := rfl
@[simp] theorem State.upSlot_tb (s : State) (n : Nat) (f : SlotH → SlotH) : (s.upSlot n f).tb = s.tb := rfl
@[simp] theorem State.upSlot_tbFrac (s : State) (n : Nat) (f : SlotH → SlotH) : (s.upSlot n f).tbFrac = s.tbFrac := rfl
@[simp] theorem State.upSlot_tbHid (s : State) (n : Nat) (f : SlotH → SlotH) : (s.upSlot n f).tbHid = s.tbHid := rfl
@[simp] theorem State.upSlot_sup (s : State) (n : Nat) (f : SlotH → SlotH) : (s.upSlot n f).sup = s.sup := rfl
@[simp] theorem State.upSlot_clk (s : State) (n : Nat) (f : SlotH → SlotH) : (s.upSlot n f).clk = s.clk := rfl
@[simp] theorem State.upSlot_cmp (s : State) (n : Nat) (f : SlotH → SlotH) : (s.upSlot n f).cmp = s.cmp := rfl
@[simp] theorem State.upSlot_casc (s : State) (n : Nat) (f : SlotH → SlotH) : (s.upSlot n f).casc = s.casc := rfl
@[simp] theorem State.upSlot_cascPhase (s : State) (n : Nat) (f : SlotH → SlotH) : (s.upSlot n f).cascPhase = s.cascPhase := rfl
@[simp] theorem State.upSlot_dom (s : State) (n : Nat) (f : SlotH → SlotH) : (s.upSlot n f).dom = s.dom := rfl
@[simp] theorem State.upSlot_reqs (s : State) (n : Nat) (f : SlotH → SlotH) : (s.upSlot n f).reqs = s.reqs := rfl
@[simp] theorem State.upSlot_stall (s : State) (n : Nat) (f : SlotH → SlotH) : (s.upSlot n f).stall = s.stall := rfl
@[simp] theorem State.upSlot_rind (s : State) (n : Nat) (f : SlotH → SlotH) : (s.upSlot n f).rind = s.rind := rfl
@[simp] theorem State.upSlot_wdgAlt (s : State) (n : Nat) (f : SlotH → SlotH) : (s.upSlot n f).wdgAlt = s.wdgAlt := rfl
@[simp] theorem State.upSlot_wdgReset (s : State) (n : Nat) (f : SlotH → SlotH) : (s.upSlot n f).wdgReset = s.wdgReset := rfl
@[simp] theorem State.upSlot_wdgFrom (s : State) (n : Nat) (f : SlotH → SlotH) : (s.upSlot n f).wdgFrom = s.wdgFrom := rfl
@[simp] theorem State.upSlot_wdgPause (s : State) (n : Nat) (f : SlotH → SlotH) : (s.upSlot n f).wdgPause = s.wdgPause := rfl
@[simp] theorem State.upSlot_wdgMs (s : State) (n : Nat) (f : SlotH → SlotH) : (s.upSlot n f).wdgMs = s.wdgMs := rfl
@[simp] theorem State.upSlot_gate (s : State) (n : Nat) (f : SlotH → SlotH) : (s.upSlot n f).gate = s.gate := rfl
@[simp] theorem State.upSlot_cald (s : State) (n : Nat) (f : SlotH → SlotH) : (s.upSlot n f).cald = s.cald := rfl
@[simp] theorem State.upSlot_chan (s : State) (n : Nat) (f : SlotH → SlotH) : (s.upSlot n f).chan = s.chan := rfl
@[simp] theorem State.upSlot_fio (s : State) (n : Nat) (f : SlotH → SlotH) : (s.upSlot n f).fio = s.fio := rfl
@[simp] theorem State.upSlot_keep (s : State) (n : Nat) (f : SlotH → SlotH) : (s.upSlot n f).keep = s.keep := rfl
@[simp] theorem State.upSlot_bridge (s : State) (n : Nat) (f : SlotH → SlotH) : (s.upSlot n f).bridge = s.bridge := rfl
@[simp] theorem State.upSlot_rpe (s : State) (n : Nat) (f : SlotH → SlotH) : (s.upSlot n f).rpe = s.rpe := rfl
@[simp] theorem State.upSlot_valve (s : State) (n : Nat) (f : SlotH → SlotH) : (s.upSlot n f).valve = s.valve := rfl
@[simp] theorem State.upSlot_bank (s : State) (n : Nat) (f : SlotH → SlotH) : (s.upSlot n f).bank = s.bank := rfl
@[simp] theorem State.upSlot_swi (s : State) (n : Nat) (f : SlotH → SlotH) : (s.upSlot n f).swi = s.swi := rfl
@[simp] theorem State.upSlot_parkQ (s : State) (n : Nat) (f : SlotH → SlotH) : (s.upSlot n f).parkQ = s.parkQ := rfl
@[simp] theorem State.upSlot_ssupOc (s : State) (n : Nat) (f : SlotH → SlotH) : (s.upSlot n f).ssupOc = s.ssupOc := rfl
@[simp] theorem State.upSlot_sense (s : State) (n : Nat) (f : SlotH → SlotH) : (s.upSlot n f).sense = s.sense := rfl
@[simp] theorem State.upSlot_led (s : State) (n : Nat) (f : SlotH → SlotH) : (s.upSlot n f).led = s.led := rfl
@[simp] theorem State.upSlot_ldc (s : State) (n : Nat) (f : SlotH → SlotH) : (s.upSlot n f).ldc = s.ldc := rfl
@[simp] theorem State.upSlot_ldcRam (s : State) (n : Nat) (f : SlotH → SlotH) : (s.upSlot n f).ldcRam = s.ldcRam := rfl
@[simp] theorem State.upSlot_preps (s : State) (n : Nat) (f : SlotH → SlotH) : (s.upSlot n f).preps = s.preps := rfl
@[simp] theorem State.upSlot_woken (s : State) (n : Nat) (f : SlotH → SlotH) : (s.upSlot n f).woken = s.woken := rfl
@[simp] theorem State.upSlot_fer (s : State) (n : Nat) (f : SlotH → SlotH) : (s.upSlot n f).fer = s.fer := rfl
@[simp] theorem State.upSlot_immo (s : State) (n : Nat) (f : SlotH → SlotH) : (s.upSlot n f).immo = s.immo := rfl
@[simp] theorem State.upSlot_lf (s : State) (n : Nat) (f : SlotH → SlotH) : (s.upSlot n f).lf = s.lf := rfl
@[simp] theorem State.upSlot_can (s : State) (n : Nat) (f : SlotH → SlotH) : (s.upSlot n f).can = s.can := rfl
@[simp] theorem State.upSlot_xcvr (s : State) (n : Nat) (f : SlotH → SlotH) : (s.upSlot n f).xcvr = s.xcvr := rfl
@[simp] theorem State.upSlot_vcc5Low (s : State) (n : Nat) (f : SlotH → SlotH) : (s.upSlot n f).vcc5Low = s.vcc5Low := rfl
@[simp] theorem State.upSlot_msgRam (s : State) (n : Nat) (f : SlotH → SlotH) : (s.upSlot n f).msgRam = s.msgRam := rfl
@[simp] theorem State.upSlot_nmBus (s : State) (n : Nat) (f : SlotH → SlotH) : (s.upSlot n f).nmBus = s.nmBus := rfl
@[simp] theorem State.upSlot_nm (s : State) (n : Nat) (f : SlotH → SlotH) : (s.upSlot n f).nm = s.nm := rfl
@[simp] theorem State.upSlot_wake (s : State) (n : Nat) (f : SlotH → SlotH) : (s.upSlot n f).wake = s.wake := rfl
@[simp] theorem State.upSlot_lin (s : State) (n : Nat) (f : SlotH → SlotH) : (s.upSlot n f).lin = s.lin := rfl
@[simp] theorem State.upSlot_mac (s : State) (n : Nat) (f : SlotH → SlotH) : (s.upSlot n f).mac = s.mac := rfl
@[simp] theorem State.upSlot_nt (s : State) (n : Nat) (f : SlotH → SlotH) : (s.upSlot n f).nt = s.nt := rfl
@[simp] theorem State.upSlot_ring (s : State) (n : Nat) (f : SlotH → SlotH) : (s.upSlot n f).ring = s.ring := rfl
@[simp] theorem State.upSlot_core (s : State) (n : Nat) (f : SlotH → SlotH) : (s.upSlot n f).core = s.core := rfl
@[simp] theorem State.upSlot_dram (s : State) (n : Nat) (f : SlotH → SlotH) : (s.upSlot n f).dram = s.dram := rfl
@[simp] theorem State.upSlot_iram (s : State) (n : Nat) (f : SlotH → SlotH) : (s.upSlot n f).iram = s.iram := rfl
@[simp] theorem State.upSlot_soft (s : State) (n : Nat) (f : SlotH → SlotH) : (s.upSlot n f).soft = s.soft := rfl
@[simp] theorem State.upSlot_mbox (s : State) (n : Nat) (f : SlotH → SlotH) : (s.upSlot n f).mbox = s.mbox := rfl
@[simp] theorem State.upSlot_eccBad (s : State) (n : Nat) (f : SlotH → SlotH) : (s.upSlot n f).eccBad = s.eccBad := rfl
@[simp] theorem State.upSlot_logMin (s : State) (n : Nat) (f : SlotH → SlotH) : (s.upSlot n f).logMin = s.logMin := rfl
@[simp] theorem State.upSlot_nvm (s : State) (n : Nat) (f : SlotH → SlotH) : (s.upSlot n f).nvm = s.nvm := rfl
@[simp] theorem State.upSlot_eeprom (s : State) (n : Nat) (f : SlotH → SlotH) : (s.upSlot n f).eeprom = s.eeprom := rfl
@[simp] theorem State.upSlot_torn (s : State) (n : Nat) (f : SlotH → SlotH) : (s.upSlot n f).torn = s.torn := rfl
@[simp] theorem State.upSlot_boot (s : State) (n : Nat) (f : SlotH → SlotH) : (s.upSlot n f).boot = s.boot := rfl
@[simp] theorem State.upSlot_fuse (s : State) (n : Nat) (f : SlotH → SlotH) : (s.upSlot n f).fuse = s.fuse := rfl
@[simp] theorem State.upSlot_att (s : State) (n : Nat) (f : SlotH → SlotH) : (s.upSlot n f).att = s.att := rfl
@[simp] theorem State.upSlot_host (s : State) (n : Nat) (f : SlotH → SlotH) : (s.upSlot n f).host = s.host := rfl
@[simp] theorem State.upSlot_mon (s : State) (n : Nat) (f : SlotH → SlotH) : (s.upSlot n f).mon = s.mon := rfl
@[simp] theorem State.upSlot_cnvm (s : State) (n : Nat) (f : SlotH → SlotH) : (s.upSlot n f).cnvm = s.cnvm := rfl
@[simp] theorem State.upSlot_sram (s : State) (n : Nat) (f : SlotH → SlotH) : (s.upSlot n f).sram = s.sram := rfl
@[simp] theorem State.upSlot_pending (s : State) (n : Nat) (f : SlotH → SlotH) : (s.upSlot n f).pending = s.pending := rfl

/-! `State.upFer` changes `fer` alone. -/
@[simp] theorem State.upFer_reg (s : State) (g : Nat) (f : Fer → Fer) : (s.upFer g f).reg = s.reg := rfl
@[simp] theorem State.upFer_shadow (s : State) (g : Nat) (f : Fer → Fer) : (s.upFer g f).shadow = s.shadow := rfl
@[simp] theorem State.upFer_resp (s : State) (g : Nat) (f : Fer → Fer) : (s.upFer g f).resp = s.resp := rfl
@[simp] theorem State.upFer_free (s : State) (g : Nat) (f : Fer → Fer) : (s.upFer g f).free = s.free := rfl
@[simp] theorem State.upFer_tb (s : State) (g : Nat) (f : Fer → Fer) : (s.upFer g f).tb = s.tb := rfl
@[simp] theorem State.upFer_tbFrac (s : State) (g : Nat) (f : Fer → Fer) : (s.upFer g f).tbFrac = s.tbFrac := rfl
@[simp] theorem State.upFer_tbHid (s : State) (g : Nat) (f : Fer → Fer) : (s.upFer g f).tbHid = s.tbHid := rfl
@[simp] theorem State.upFer_sup (s : State) (g : Nat) (f : Fer → Fer) : (s.upFer g f).sup = s.sup := rfl
@[simp] theorem State.upFer_clk (s : State) (g : Nat) (f : Fer → Fer) : (s.upFer g f).clk = s.clk := rfl
@[simp] theorem State.upFer_cmp (s : State) (g : Nat) (f : Fer → Fer) : (s.upFer g f).cmp = s.cmp := rfl
@[simp] theorem State.upFer_casc (s : State) (g : Nat) (f : Fer → Fer) : (s.upFer g f).casc = s.casc := rfl
@[simp] theorem State.upFer_cascPhase (s : State) (g : Nat) (f : Fer → Fer) : (s.upFer g f).cascPhase = s.cascPhase := rfl
@[simp] theorem State.upFer_dom (s : State) (g : Nat) (f : Fer → Fer) : (s.upFer g f).dom = s.dom := rfl
@[simp] theorem State.upFer_reqs (s : State) (g : Nat) (f : Fer → Fer) : (s.upFer g f).reqs = s.reqs := rfl
@[simp] theorem State.upFer_stall (s : State) (g : Nat) (f : Fer → Fer) : (s.upFer g f).stall = s.stall := rfl
@[simp] theorem State.upFer_rind (s : State) (g : Nat) (f : Fer → Fer) : (s.upFer g f).rind = s.rind := rfl
@[simp] theorem State.upFer_wdgAlt (s : State) (g : Nat) (f : Fer → Fer) : (s.upFer g f).wdgAlt = s.wdgAlt := rfl
@[simp] theorem State.upFer_wdgReset (s : State) (g : Nat) (f : Fer → Fer) : (s.upFer g f).wdgReset = s.wdgReset := rfl
@[simp] theorem State.upFer_wdgFrom (s : State) (g : Nat) (f : Fer → Fer) : (s.upFer g f).wdgFrom = s.wdgFrom := rfl
@[simp] theorem State.upFer_wdgPause (s : State) (g : Nat) (f : Fer → Fer) : (s.upFer g f).wdgPause = s.wdgPause := rfl
@[simp] theorem State.upFer_wdgMs (s : State) (g : Nat) (f : Fer → Fer) : (s.upFer g f).wdgMs = s.wdgMs := rfl
@[simp] theorem State.upFer_gate (s : State) (g : Nat) (f : Fer → Fer) : (s.upFer g f).gate = s.gate := rfl
@[simp] theorem State.upFer_cald (s : State) (g : Nat) (f : Fer → Fer) : (s.upFer g f).cald = s.cald := rfl
@[simp] theorem State.upFer_chan (s : State) (g : Nat) (f : Fer → Fer) : (s.upFer g f).chan = s.chan := rfl
@[simp] theorem State.upFer_fio (s : State) (g : Nat) (f : Fer → Fer) : (s.upFer g f).fio = s.fio := rfl
@[simp] theorem State.upFer_keep (s : State) (g : Nat) (f : Fer → Fer) : (s.upFer g f).keep = s.keep := rfl
@[simp] theorem State.upFer_bridge (s : State) (g : Nat) (f : Fer → Fer) : (s.upFer g f).bridge = s.bridge := rfl
@[simp] theorem State.upFer_rpe (s : State) (g : Nat) (f : Fer → Fer) : (s.upFer g f).rpe = s.rpe := rfl
@[simp] theorem State.upFer_valve (s : State) (g : Nat) (f : Fer → Fer) : (s.upFer g f).valve = s.valve := rfl
@[simp] theorem State.upFer_bank (s : State) (g : Nat) (f : Fer → Fer) : (s.upFer g f).bank = s.bank := rfl
@[simp] theorem State.upFer_swi (s : State) (g : Nat) (f : Fer → Fer) : (s.upFer g f).swi = s.swi := rfl
@[simp] theorem State.upFer_parkQ (s : State) (g : Nat) (f : Fer → Fer) : (s.upFer g f).parkQ = s.parkQ := rfl
@[simp] theorem State.upFer_ssupOc (s : State) (g : Nat) (f : Fer → Fer) : (s.upFer g f).ssupOc = s.ssupOc := rfl
@[simp] theorem State.upFer_sense (s : State) (g : Nat) (f : Fer → Fer) : (s.upFer g f).sense = s.sense := rfl
@[simp] theorem State.upFer_led (s : State) (g : Nat) (f : Fer → Fer) : (s.upFer g f).led = s.led := rfl
@[simp] theorem State.upFer_ldc (s : State) (g : Nat) (f : Fer → Fer) : (s.upFer g f).ldc = s.ldc := rfl
@[simp] theorem State.upFer_ldcRam (s : State) (g : Nat) (f : Fer → Fer) : (s.upFer g f).ldcRam = s.ldcRam := rfl
@[simp] theorem State.upFer_preps (s : State) (g : Nat) (f : Fer → Fer) : (s.upFer g f).preps = s.preps := rfl
@[simp] theorem State.upFer_slots (s : State) (g : Nat) (f : Fer → Fer) : (s.upFer g f).slots = s.slots := rfl
@[simp] theorem State.upFer_woken (s : State) (g : Nat) (f : Fer → Fer) : (s.upFer g f).woken = s.woken := rfl
@[simp] theorem State.upFer_immo (s : State) (g : Nat) (f : Fer → Fer) : (s.upFer g f).immo = s.immo := rfl
@[simp] theorem State.upFer_lf (s : State) (g : Nat) (f : Fer → Fer) : (s.upFer g f).lf = s.lf := rfl
@[simp] theorem State.upFer_can (s : State) (g : Nat) (f : Fer → Fer) : (s.upFer g f).can = s.can := rfl
@[simp] theorem State.upFer_xcvr (s : State) (g : Nat) (f : Fer → Fer) : (s.upFer g f).xcvr = s.xcvr := rfl
@[simp] theorem State.upFer_vcc5Low (s : State) (g : Nat) (f : Fer → Fer) : (s.upFer g f).vcc5Low = s.vcc5Low := rfl
@[simp] theorem State.upFer_msgRam (s : State) (g : Nat) (f : Fer → Fer) : (s.upFer g f).msgRam = s.msgRam := rfl
@[simp] theorem State.upFer_nmBus (s : State) (g : Nat) (f : Fer → Fer) : (s.upFer g f).nmBus = s.nmBus := rfl
@[simp] theorem State.upFer_nm (s : State) (g : Nat) (f : Fer → Fer) : (s.upFer g f).nm = s.nm := rfl
@[simp] theorem State.upFer_wake (s : State) (g : Nat) (f : Fer → Fer) : (s.upFer g f).wake = s.wake := rfl
@[simp] theorem State.upFer_lin (s : State) (g : Nat) (f : Fer → Fer) : (s.upFer g f).lin = s.lin := rfl
@[simp] theorem State.upFer_mac (s : State) (g : Nat) (f : Fer → Fer) : (s.upFer g f).mac = s.mac := rfl
@[simp] theorem State.upFer_nt (s : State) (g : Nat) (f : Fer → Fer) : (s.upFer g f).nt = s.nt := rfl
@[simp] theorem State.upFer_ring (s : State) (g : Nat) (f : Fer → Fer) : (s.upFer g f).ring = s.ring := rfl
@[simp] theorem State.upFer_core (s : State) (g : Nat) (f : Fer → Fer) : (s.upFer g f).core = s.core := rfl
@[simp] theorem State.upFer_dram (s : State) (g : Nat) (f : Fer → Fer) : (s.upFer g f).dram = s.dram := rfl
@[simp] theorem State.upFer_iram (s : State) (g : Nat) (f : Fer → Fer) : (s.upFer g f).iram = s.iram := rfl
@[simp] theorem State.upFer_soft (s : State) (g : Nat) (f : Fer → Fer) : (s.upFer g f).soft = s.soft := rfl
@[simp] theorem State.upFer_mbox (s : State) (g : Nat) (f : Fer → Fer) : (s.upFer g f).mbox = s.mbox := rfl
@[simp] theorem State.upFer_eccBad (s : State) (g : Nat) (f : Fer → Fer) : (s.upFer g f).eccBad = s.eccBad := rfl
@[simp] theorem State.upFer_logMin (s : State) (g : Nat) (f : Fer → Fer) : (s.upFer g f).logMin = s.logMin := rfl
@[simp] theorem State.upFer_nvm (s : State) (g : Nat) (f : Fer → Fer) : (s.upFer g f).nvm = s.nvm := rfl
@[simp] theorem State.upFer_eeprom (s : State) (g : Nat) (f : Fer → Fer) : (s.upFer g f).eeprom = s.eeprom := rfl
@[simp] theorem State.upFer_torn (s : State) (g : Nat) (f : Fer → Fer) : (s.upFer g f).torn = s.torn := rfl
@[simp] theorem State.upFer_boot (s : State) (g : Nat) (f : Fer → Fer) : (s.upFer g f).boot = s.boot := rfl
@[simp] theorem State.upFer_fuse (s : State) (g : Nat) (f : Fer → Fer) : (s.upFer g f).fuse = s.fuse := rfl
@[simp] theorem State.upFer_att (s : State) (g : Nat) (f : Fer → Fer) : (s.upFer g f).att = s.att := rfl
@[simp] theorem State.upFer_host (s : State) (g : Nat) (f : Fer → Fer) : (s.upFer g f).host = s.host := rfl
@[simp] theorem State.upFer_mon (s : State) (g : Nat) (f : Fer → Fer) : (s.upFer g f).mon = s.mon := rfl
@[simp] theorem State.upFer_cnvm (s : State) (g : Nat) (f : Fer → Fer) : (s.upFer g f).cnvm = s.cnvm := rfl
@[simp] theorem State.upFer_sram (s : State) (g : Nat) (f : Fer → Fer) : (s.upFer g f).sram = s.sram := rfl
@[simp] theorem State.upFer_pending (s : State) (g : Nat) (f : Fer → Fer) : (s.upFer g f).pending = s.pending := rfl

/-! `State.setCmp` changes `cmp` alone. -/
@[simp] theorem State.setCmp_reg (s : State) (g : Nat) (x : CmpHid) : (s.setCmp g x).reg = s.reg := rfl
@[simp] theorem State.setCmp_shadow (s : State) (g : Nat) (x : CmpHid) : (s.setCmp g x).shadow = s.shadow := rfl
@[simp] theorem State.setCmp_resp (s : State) (g : Nat) (x : CmpHid) : (s.setCmp g x).resp = s.resp := rfl
@[simp] theorem State.setCmp_free (s : State) (g : Nat) (x : CmpHid) : (s.setCmp g x).free = s.free := rfl
@[simp] theorem State.setCmp_tb (s : State) (g : Nat) (x : CmpHid) : (s.setCmp g x).tb = s.tb := rfl
@[simp] theorem State.setCmp_tbFrac (s : State) (g : Nat) (x : CmpHid) : (s.setCmp g x).tbFrac = s.tbFrac := rfl
@[simp] theorem State.setCmp_tbHid (s : State) (g : Nat) (x : CmpHid) : (s.setCmp g x).tbHid = s.tbHid := rfl
@[simp] theorem State.setCmp_sup (s : State) (g : Nat) (x : CmpHid) : (s.setCmp g x).sup = s.sup := rfl
@[simp] theorem State.setCmp_clk (s : State) (g : Nat) (x : CmpHid) : (s.setCmp g x).clk = s.clk := rfl
@[simp] theorem State.setCmp_casc (s : State) (g : Nat) (x : CmpHid) : (s.setCmp g x).casc = s.casc := rfl
@[simp] theorem State.setCmp_cascPhase (s : State) (g : Nat) (x : CmpHid) : (s.setCmp g x).cascPhase = s.cascPhase := rfl
@[simp] theorem State.setCmp_dom (s : State) (g : Nat) (x : CmpHid) : (s.setCmp g x).dom = s.dom := rfl
@[simp] theorem State.setCmp_reqs (s : State) (g : Nat) (x : CmpHid) : (s.setCmp g x).reqs = s.reqs := rfl
@[simp] theorem State.setCmp_stall (s : State) (g : Nat) (x : CmpHid) : (s.setCmp g x).stall = s.stall := rfl
@[simp] theorem State.setCmp_rind (s : State) (g : Nat) (x : CmpHid) : (s.setCmp g x).rind = s.rind := rfl
@[simp] theorem State.setCmp_wdgAlt (s : State) (g : Nat) (x : CmpHid) : (s.setCmp g x).wdgAlt = s.wdgAlt := rfl
@[simp] theorem State.setCmp_wdgReset (s : State) (g : Nat) (x : CmpHid) : (s.setCmp g x).wdgReset = s.wdgReset := rfl
@[simp] theorem State.setCmp_wdgFrom (s : State) (g : Nat) (x : CmpHid) : (s.setCmp g x).wdgFrom = s.wdgFrom := rfl
@[simp] theorem State.setCmp_wdgPause (s : State) (g : Nat) (x : CmpHid) : (s.setCmp g x).wdgPause = s.wdgPause := rfl
@[simp] theorem State.setCmp_wdgMs (s : State) (g : Nat) (x : CmpHid) : (s.setCmp g x).wdgMs = s.wdgMs := rfl
@[simp] theorem State.setCmp_gate (s : State) (g : Nat) (x : CmpHid) : (s.setCmp g x).gate = s.gate := rfl
@[simp] theorem State.setCmp_cald (s : State) (g : Nat) (x : CmpHid) : (s.setCmp g x).cald = s.cald := rfl
@[simp] theorem State.setCmp_chan (s : State) (g : Nat) (x : CmpHid) : (s.setCmp g x).chan = s.chan := rfl
@[simp] theorem State.setCmp_fio (s : State) (g : Nat) (x : CmpHid) : (s.setCmp g x).fio = s.fio := rfl
@[simp] theorem State.setCmp_keep (s : State) (g : Nat) (x : CmpHid) : (s.setCmp g x).keep = s.keep := rfl
@[simp] theorem State.setCmp_bridge (s : State) (g : Nat) (x : CmpHid) : (s.setCmp g x).bridge = s.bridge := rfl
@[simp] theorem State.setCmp_rpe (s : State) (g : Nat) (x : CmpHid) : (s.setCmp g x).rpe = s.rpe := rfl
@[simp] theorem State.setCmp_valve (s : State) (g : Nat) (x : CmpHid) : (s.setCmp g x).valve = s.valve := rfl
@[simp] theorem State.setCmp_bank (s : State) (g : Nat) (x : CmpHid) : (s.setCmp g x).bank = s.bank := rfl
@[simp] theorem State.setCmp_swi (s : State) (g : Nat) (x : CmpHid) : (s.setCmp g x).swi = s.swi := rfl
@[simp] theorem State.setCmp_parkQ (s : State) (g : Nat) (x : CmpHid) : (s.setCmp g x).parkQ = s.parkQ := rfl
@[simp] theorem State.setCmp_ssupOc (s : State) (g : Nat) (x : CmpHid) : (s.setCmp g x).ssupOc = s.ssupOc := rfl
@[simp] theorem State.setCmp_sense (s : State) (g : Nat) (x : CmpHid) : (s.setCmp g x).sense = s.sense := rfl
@[simp] theorem State.setCmp_led (s : State) (g : Nat) (x : CmpHid) : (s.setCmp g x).led = s.led := rfl
@[simp] theorem State.setCmp_ldc (s : State) (g : Nat) (x : CmpHid) : (s.setCmp g x).ldc = s.ldc := rfl
@[simp] theorem State.setCmp_ldcRam (s : State) (g : Nat) (x : CmpHid) : (s.setCmp g x).ldcRam = s.ldcRam := rfl
@[simp] theorem State.setCmp_preps (s : State) (g : Nat) (x : CmpHid) : (s.setCmp g x).preps = s.preps := rfl
@[simp] theorem State.setCmp_slots (s : State) (g : Nat) (x : CmpHid) : (s.setCmp g x).slots = s.slots := rfl
@[simp] theorem State.setCmp_woken (s : State) (g : Nat) (x : CmpHid) : (s.setCmp g x).woken = s.woken := rfl
@[simp] theorem State.setCmp_fer (s : State) (g : Nat) (x : CmpHid) : (s.setCmp g x).fer = s.fer := rfl
@[simp] theorem State.setCmp_immo (s : State) (g : Nat) (x : CmpHid) : (s.setCmp g x).immo = s.immo := rfl
@[simp] theorem State.setCmp_lf (s : State) (g : Nat) (x : CmpHid) : (s.setCmp g x).lf = s.lf := rfl
@[simp] theorem State.setCmp_can (s : State) (g : Nat) (x : CmpHid) : (s.setCmp g x).can = s.can := rfl
@[simp] theorem State.setCmp_xcvr (s : State) (g : Nat) (x : CmpHid) : (s.setCmp g x).xcvr = s.xcvr := rfl
@[simp] theorem State.setCmp_vcc5Low (s : State) (g : Nat) (x : CmpHid) : (s.setCmp g x).vcc5Low = s.vcc5Low := rfl
@[simp] theorem State.setCmp_msgRam (s : State) (g : Nat) (x : CmpHid) : (s.setCmp g x).msgRam = s.msgRam := rfl
@[simp] theorem State.setCmp_nmBus (s : State) (g : Nat) (x : CmpHid) : (s.setCmp g x).nmBus = s.nmBus := rfl
@[simp] theorem State.setCmp_nm (s : State) (g : Nat) (x : CmpHid) : (s.setCmp g x).nm = s.nm := rfl
@[simp] theorem State.setCmp_wake (s : State) (g : Nat) (x : CmpHid) : (s.setCmp g x).wake = s.wake := rfl
@[simp] theorem State.setCmp_lin (s : State) (g : Nat) (x : CmpHid) : (s.setCmp g x).lin = s.lin := rfl
@[simp] theorem State.setCmp_mac (s : State) (g : Nat) (x : CmpHid) : (s.setCmp g x).mac = s.mac := rfl
@[simp] theorem State.setCmp_nt (s : State) (g : Nat) (x : CmpHid) : (s.setCmp g x).nt = s.nt := rfl
@[simp] theorem State.setCmp_ring (s : State) (g : Nat) (x : CmpHid) : (s.setCmp g x).ring = s.ring := rfl
@[simp] theorem State.setCmp_core (s : State) (g : Nat) (x : CmpHid) : (s.setCmp g x).core = s.core := rfl
@[simp] theorem State.setCmp_dram (s : State) (g : Nat) (x : CmpHid) : (s.setCmp g x).dram = s.dram := rfl
@[simp] theorem State.setCmp_iram (s : State) (g : Nat) (x : CmpHid) : (s.setCmp g x).iram = s.iram := rfl
@[simp] theorem State.setCmp_soft (s : State) (g : Nat) (x : CmpHid) : (s.setCmp g x).soft = s.soft := rfl
@[simp] theorem State.setCmp_mbox (s : State) (g : Nat) (x : CmpHid) : (s.setCmp g x).mbox = s.mbox := rfl
@[simp] theorem State.setCmp_eccBad (s : State) (g : Nat) (x : CmpHid) : (s.setCmp g x).eccBad = s.eccBad := rfl
@[simp] theorem State.setCmp_logMin (s : State) (g : Nat) (x : CmpHid) : (s.setCmp g x).logMin = s.logMin := rfl
@[simp] theorem State.setCmp_nvm (s : State) (g : Nat) (x : CmpHid) : (s.setCmp g x).nvm = s.nvm := rfl
@[simp] theorem State.setCmp_eeprom (s : State) (g : Nat) (x : CmpHid) : (s.setCmp g x).eeprom = s.eeprom := rfl
@[simp] theorem State.setCmp_torn (s : State) (g : Nat) (x : CmpHid) : (s.setCmp g x).torn = s.torn := rfl
@[simp] theorem State.setCmp_boot (s : State) (g : Nat) (x : CmpHid) : (s.setCmp g x).boot = s.boot := rfl
@[simp] theorem State.setCmp_fuse (s : State) (g : Nat) (x : CmpHid) : (s.setCmp g x).fuse = s.fuse := rfl
@[simp] theorem State.setCmp_att (s : State) (g : Nat) (x : CmpHid) : (s.setCmp g x).att = s.att := rfl
@[simp] theorem State.setCmp_host (s : State) (g : Nat) (x : CmpHid) : (s.setCmp g x).host = s.host := rfl
@[simp] theorem State.setCmp_mon (s : State) (g : Nat) (x : CmpHid) : (s.setCmp g x).mon = s.mon := rfl
@[simp] theorem State.setCmp_cnvm (s : State) (g : Nat) (x : CmpHid) : (s.setCmp g x).cnvm = s.cnvm := rfl
@[simp] theorem State.setCmp_sram (s : State) (g : Nat) (x : CmpHid) : (s.setCmp g x).sram = s.sram := rfl
@[simp] theorem State.setCmp_pending (s : State) (g : Nat) (x : CmpHid) : (s.setCmp g x).pending = s.pending := rfl

/-! `State.setCasc` changes `casc` alone. -/
@[simp] theorem State.setCasc_reg (s : State) (k : Nat) (x : CascHid) : (s.setCasc k x).reg = s.reg := rfl
@[simp] theorem State.setCasc_shadow (s : State) (k : Nat) (x : CascHid) : (s.setCasc k x).shadow = s.shadow := rfl
@[simp] theorem State.setCasc_resp (s : State) (k : Nat) (x : CascHid) : (s.setCasc k x).resp = s.resp := rfl
@[simp] theorem State.setCasc_free (s : State) (k : Nat) (x : CascHid) : (s.setCasc k x).free = s.free := rfl
@[simp] theorem State.setCasc_tb (s : State) (k : Nat) (x : CascHid) : (s.setCasc k x).tb = s.tb := rfl
@[simp] theorem State.setCasc_tbFrac (s : State) (k : Nat) (x : CascHid) : (s.setCasc k x).tbFrac = s.tbFrac := rfl
@[simp] theorem State.setCasc_tbHid (s : State) (k : Nat) (x : CascHid) : (s.setCasc k x).tbHid = s.tbHid := rfl
@[simp] theorem State.setCasc_sup (s : State) (k : Nat) (x : CascHid) : (s.setCasc k x).sup = s.sup := rfl
@[simp] theorem State.setCasc_clk (s : State) (k : Nat) (x : CascHid) : (s.setCasc k x).clk = s.clk := rfl
@[simp] theorem State.setCasc_cmp (s : State) (k : Nat) (x : CascHid) : (s.setCasc k x).cmp = s.cmp := rfl
@[simp] theorem State.setCasc_cascPhase (s : State) (k : Nat) (x : CascHid) : (s.setCasc k x).cascPhase = s.cascPhase := rfl
@[simp] theorem State.setCasc_dom (s : State) (k : Nat) (x : CascHid) : (s.setCasc k x).dom = s.dom := rfl
@[simp] theorem State.setCasc_reqs (s : State) (k : Nat) (x : CascHid) : (s.setCasc k x).reqs = s.reqs := rfl
@[simp] theorem State.setCasc_stall (s : State) (k : Nat) (x : CascHid) : (s.setCasc k x).stall = s.stall := rfl
@[simp] theorem State.setCasc_rind (s : State) (k : Nat) (x : CascHid) : (s.setCasc k x).rind = s.rind := rfl
@[simp] theorem State.setCasc_wdgAlt (s : State) (k : Nat) (x : CascHid) : (s.setCasc k x).wdgAlt = s.wdgAlt := rfl
@[simp] theorem State.setCasc_wdgReset (s : State) (k : Nat) (x : CascHid) : (s.setCasc k x).wdgReset = s.wdgReset := rfl
@[simp] theorem State.setCasc_wdgFrom (s : State) (k : Nat) (x : CascHid) : (s.setCasc k x).wdgFrom = s.wdgFrom := rfl
@[simp] theorem State.setCasc_wdgPause (s : State) (k : Nat) (x : CascHid) : (s.setCasc k x).wdgPause = s.wdgPause := rfl
@[simp] theorem State.setCasc_wdgMs (s : State) (k : Nat) (x : CascHid) : (s.setCasc k x).wdgMs = s.wdgMs := rfl
@[simp] theorem State.setCasc_gate (s : State) (k : Nat) (x : CascHid) : (s.setCasc k x).gate = s.gate := rfl
@[simp] theorem State.setCasc_cald (s : State) (k : Nat) (x : CascHid) : (s.setCasc k x).cald = s.cald := rfl
@[simp] theorem State.setCasc_chan (s : State) (k : Nat) (x : CascHid) : (s.setCasc k x).chan = s.chan := rfl
@[simp] theorem State.setCasc_fio (s : State) (k : Nat) (x : CascHid) : (s.setCasc k x).fio = s.fio := rfl
@[simp] theorem State.setCasc_keep (s : State) (k : Nat) (x : CascHid) : (s.setCasc k x).keep = s.keep := rfl
@[simp] theorem State.setCasc_bridge (s : State) (k : Nat) (x : CascHid) : (s.setCasc k x).bridge = s.bridge := rfl
@[simp] theorem State.setCasc_rpe (s : State) (k : Nat) (x : CascHid) : (s.setCasc k x).rpe = s.rpe := rfl
@[simp] theorem State.setCasc_valve (s : State) (k : Nat) (x : CascHid) : (s.setCasc k x).valve = s.valve := rfl
@[simp] theorem State.setCasc_bank (s : State) (k : Nat) (x : CascHid) : (s.setCasc k x).bank = s.bank := rfl
@[simp] theorem State.setCasc_swi (s : State) (k : Nat) (x : CascHid) : (s.setCasc k x).swi = s.swi := rfl
@[simp] theorem State.setCasc_parkQ (s : State) (k : Nat) (x : CascHid) : (s.setCasc k x).parkQ = s.parkQ := rfl
@[simp] theorem State.setCasc_ssupOc (s : State) (k : Nat) (x : CascHid) : (s.setCasc k x).ssupOc = s.ssupOc := rfl
@[simp] theorem State.setCasc_sense (s : State) (k : Nat) (x : CascHid) : (s.setCasc k x).sense = s.sense := rfl
@[simp] theorem State.setCasc_led (s : State) (k : Nat) (x : CascHid) : (s.setCasc k x).led = s.led := rfl
@[simp] theorem State.setCasc_ldc (s : State) (k : Nat) (x : CascHid) : (s.setCasc k x).ldc = s.ldc := rfl
@[simp] theorem State.setCasc_ldcRam (s : State) (k : Nat) (x : CascHid) : (s.setCasc k x).ldcRam = s.ldcRam := rfl
@[simp] theorem State.setCasc_preps (s : State) (k : Nat) (x : CascHid) : (s.setCasc k x).preps = s.preps := rfl
@[simp] theorem State.setCasc_slots (s : State) (k : Nat) (x : CascHid) : (s.setCasc k x).slots = s.slots := rfl
@[simp] theorem State.setCasc_woken (s : State) (k : Nat) (x : CascHid) : (s.setCasc k x).woken = s.woken := rfl
@[simp] theorem State.setCasc_fer (s : State) (k : Nat) (x : CascHid) : (s.setCasc k x).fer = s.fer := rfl
@[simp] theorem State.setCasc_immo (s : State) (k : Nat) (x : CascHid) : (s.setCasc k x).immo = s.immo := rfl
@[simp] theorem State.setCasc_lf (s : State) (k : Nat) (x : CascHid) : (s.setCasc k x).lf = s.lf := rfl
@[simp] theorem State.setCasc_can (s : State) (k : Nat) (x : CascHid) : (s.setCasc k x).can = s.can := rfl
@[simp] theorem State.setCasc_xcvr (s : State) (k : Nat) (x : CascHid) : (s.setCasc k x).xcvr = s.xcvr := rfl
@[simp] theorem State.setCasc_vcc5Low (s : State) (k : Nat) (x : CascHid) : (s.setCasc k x).vcc5Low = s.vcc5Low := rfl
@[simp] theorem State.setCasc_msgRam (s : State) (k : Nat) (x : CascHid) : (s.setCasc k x).msgRam = s.msgRam := rfl
@[simp] theorem State.setCasc_nmBus (s : State) (k : Nat) (x : CascHid) : (s.setCasc k x).nmBus = s.nmBus := rfl
@[simp] theorem State.setCasc_nm (s : State) (k : Nat) (x : CascHid) : (s.setCasc k x).nm = s.nm := rfl
@[simp] theorem State.setCasc_wake (s : State) (k : Nat) (x : CascHid) : (s.setCasc k x).wake = s.wake := rfl
@[simp] theorem State.setCasc_lin (s : State) (k : Nat) (x : CascHid) : (s.setCasc k x).lin = s.lin := rfl
@[simp] theorem State.setCasc_mac (s : State) (k : Nat) (x : CascHid) : (s.setCasc k x).mac = s.mac := rfl
@[simp] theorem State.setCasc_nt (s : State) (k : Nat) (x : CascHid) : (s.setCasc k x).nt = s.nt := rfl
@[simp] theorem State.setCasc_ring (s : State) (k : Nat) (x : CascHid) : (s.setCasc k x).ring = s.ring := rfl
@[simp] theorem State.setCasc_core (s : State) (k : Nat) (x : CascHid) : (s.setCasc k x).core = s.core := rfl
@[simp] theorem State.setCasc_dram (s : State) (k : Nat) (x : CascHid) : (s.setCasc k x).dram = s.dram := rfl
@[simp] theorem State.setCasc_iram (s : State) (k : Nat) (x : CascHid) : (s.setCasc k x).iram = s.iram := rfl
@[simp] theorem State.setCasc_soft (s : State) (k : Nat) (x : CascHid) : (s.setCasc k x).soft = s.soft := rfl
@[simp] theorem State.setCasc_mbox (s : State) (k : Nat) (x : CascHid) : (s.setCasc k x).mbox = s.mbox := rfl
@[simp] theorem State.setCasc_eccBad (s : State) (k : Nat) (x : CascHid) : (s.setCasc k x).eccBad = s.eccBad := rfl
@[simp] theorem State.setCasc_logMin (s : State) (k : Nat) (x : CascHid) : (s.setCasc k x).logMin = s.logMin := rfl
@[simp] theorem State.setCasc_nvm (s : State) (k : Nat) (x : CascHid) : (s.setCasc k x).nvm = s.nvm := rfl
@[simp] theorem State.setCasc_eeprom (s : State) (k : Nat) (x : CascHid) : (s.setCasc k x).eeprom = s.eeprom := rfl
@[simp] theorem State.setCasc_torn (s : State) (k : Nat) (x : CascHid) : (s.setCasc k x).torn = s.torn := rfl
@[simp] theorem State.setCasc_boot (s : State) (k : Nat) (x : CascHid) : (s.setCasc k x).boot = s.boot := rfl
@[simp] theorem State.setCasc_fuse (s : State) (k : Nat) (x : CascHid) : (s.setCasc k x).fuse = s.fuse := rfl
@[simp] theorem State.setCasc_att (s : State) (k : Nat) (x : CascHid) : (s.setCasc k x).att = s.att := rfl
@[simp] theorem State.setCasc_host (s : State) (k : Nat) (x : CascHid) : (s.setCasc k x).host = s.host := rfl
@[simp] theorem State.setCasc_mon (s : State) (k : Nat) (x : CascHid) : (s.setCasc k x).mon = s.mon := rfl
@[simp] theorem State.setCasc_cnvm (s : State) (k : Nat) (x : CascHid) : (s.setCasc k x).cnvm = s.cnvm := rfl
@[simp] theorem State.setCasc_sram (s : State) (k : Nat) (x : CascHid) : (s.setCasc k x).sram = s.sram := rfl
@[simp] theorem State.setCasc_pending (s : State) (k : Nat) (x : CascHid) : (s.setCasc k x).pending = s.pending := rfl

/-! `State.upCan` changes `can` alone. -/
@[simp] theorem State.upCan_reg (s : State) (c : Nat) (f : CanHid → CanHid) : (s.upCan c f).reg = s.reg := rfl
@[simp] theorem State.upCan_shadow (s : State) (c : Nat) (f : CanHid → CanHid) : (s.upCan c f).shadow = s.shadow := rfl
@[simp] theorem State.upCan_resp (s : State) (c : Nat) (f : CanHid → CanHid) : (s.upCan c f).resp = s.resp := rfl
@[simp] theorem State.upCan_free (s : State) (c : Nat) (f : CanHid → CanHid) : (s.upCan c f).free = s.free := rfl
@[simp] theorem State.upCan_tb (s : State) (c : Nat) (f : CanHid → CanHid) : (s.upCan c f).tb = s.tb := rfl
@[simp] theorem State.upCan_tbFrac (s : State) (c : Nat) (f : CanHid → CanHid) : (s.upCan c f).tbFrac = s.tbFrac := rfl
@[simp] theorem State.upCan_tbHid (s : State) (c : Nat) (f : CanHid → CanHid) : (s.upCan c f).tbHid = s.tbHid := rfl
@[simp] theorem State.upCan_sup (s : State) (c : Nat) (f : CanHid → CanHid) : (s.upCan c f).sup = s.sup := rfl
@[simp] theorem State.upCan_clk (s : State) (c : Nat) (f : CanHid → CanHid) : (s.upCan c f).clk = s.clk := rfl
@[simp] theorem State.upCan_cmp (s : State) (c : Nat) (f : CanHid → CanHid) : (s.upCan c f).cmp = s.cmp := rfl
@[simp] theorem State.upCan_casc (s : State) (c : Nat) (f : CanHid → CanHid) : (s.upCan c f).casc = s.casc := rfl
@[simp] theorem State.upCan_cascPhase (s : State) (c : Nat) (f : CanHid → CanHid) : (s.upCan c f).cascPhase = s.cascPhase := rfl
@[simp] theorem State.upCan_dom (s : State) (c : Nat) (f : CanHid → CanHid) : (s.upCan c f).dom = s.dom := rfl
@[simp] theorem State.upCan_reqs (s : State) (c : Nat) (f : CanHid → CanHid) : (s.upCan c f).reqs = s.reqs := rfl
@[simp] theorem State.upCan_stall (s : State) (c : Nat) (f : CanHid → CanHid) : (s.upCan c f).stall = s.stall := rfl
@[simp] theorem State.upCan_rind (s : State) (c : Nat) (f : CanHid → CanHid) : (s.upCan c f).rind = s.rind := rfl
@[simp] theorem State.upCan_wdgAlt (s : State) (c : Nat) (f : CanHid → CanHid) : (s.upCan c f).wdgAlt = s.wdgAlt := rfl
@[simp] theorem State.upCan_wdgReset (s : State) (c : Nat) (f : CanHid → CanHid) : (s.upCan c f).wdgReset = s.wdgReset := rfl
@[simp] theorem State.upCan_wdgFrom (s : State) (c : Nat) (f : CanHid → CanHid) : (s.upCan c f).wdgFrom = s.wdgFrom := rfl
@[simp] theorem State.upCan_wdgPause (s : State) (c : Nat) (f : CanHid → CanHid) : (s.upCan c f).wdgPause = s.wdgPause := rfl
@[simp] theorem State.upCan_wdgMs (s : State) (c : Nat) (f : CanHid → CanHid) : (s.upCan c f).wdgMs = s.wdgMs := rfl
@[simp] theorem State.upCan_gate (s : State) (c : Nat) (f : CanHid → CanHid) : (s.upCan c f).gate = s.gate := rfl
@[simp] theorem State.upCan_cald (s : State) (c : Nat) (f : CanHid → CanHid) : (s.upCan c f).cald = s.cald := rfl
@[simp] theorem State.upCan_chan (s : State) (c : Nat) (f : CanHid → CanHid) : (s.upCan c f).chan = s.chan := rfl
@[simp] theorem State.upCan_fio (s : State) (c : Nat) (f : CanHid → CanHid) : (s.upCan c f).fio = s.fio := rfl
@[simp] theorem State.upCan_keep (s : State) (c : Nat) (f : CanHid → CanHid) : (s.upCan c f).keep = s.keep := rfl
@[simp] theorem State.upCan_bridge (s : State) (c : Nat) (f : CanHid → CanHid) : (s.upCan c f).bridge = s.bridge := rfl
@[simp] theorem State.upCan_rpe (s : State) (c : Nat) (f : CanHid → CanHid) : (s.upCan c f).rpe = s.rpe := rfl
@[simp] theorem State.upCan_valve (s : State) (c : Nat) (f : CanHid → CanHid) : (s.upCan c f).valve = s.valve := rfl
@[simp] theorem State.upCan_bank (s : State) (c : Nat) (f : CanHid → CanHid) : (s.upCan c f).bank = s.bank := rfl
@[simp] theorem State.upCan_swi (s : State) (c : Nat) (f : CanHid → CanHid) : (s.upCan c f).swi = s.swi := rfl
@[simp] theorem State.upCan_parkQ (s : State) (c : Nat) (f : CanHid → CanHid) : (s.upCan c f).parkQ = s.parkQ := rfl
@[simp] theorem State.upCan_ssupOc (s : State) (c : Nat) (f : CanHid → CanHid) : (s.upCan c f).ssupOc = s.ssupOc := rfl
@[simp] theorem State.upCan_sense (s : State) (c : Nat) (f : CanHid → CanHid) : (s.upCan c f).sense = s.sense := rfl
@[simp] theorem State.upCan_led (s : State) (c : Nat) (f : CanHid → CanHid) : (s.upCan c f).led = s.led := rfl
@[simp] theorem State.upCan_ldc (s : State) (c : Nat) (f : CanHid → CanHid) : (s.upCan c f).ldc = s.ldc := rfl
@[simp] theorem State.upCan_ldcRam (s : State) (c : Nat) (f : CanHid → CanHid) : (s.upCan c f).ldcRam = s.ldcRam := rfl
@[simp] theorem State.upCan_preps (s : State) (c : Nat) (f : CanHid → CanHid) : (s.upCan c f).preps = s.preps := rfl
@[simp] theorem State.upCan_slots (s : State) (c : Nat) (f : CanHid → CanHid) : (s.upCan c f).slots = s.slots := rfl
@[simp] theorem State.upCan_woken (s : State) (c : Nat) (f : CanHid → CanHid) : (s.upCan c f).woken = s.woken := rfl
@[simp] theorem State.upCan_fer (s : State) (c : Nat) (f : CanHid → CanHid) : (s.upCan c f).fer = s.fer := rfl
@[simp] theorem State.upCan_immo (s : State) (c : Nat) (f : CanHid → CanHid) : (s.upCan c f).immo = s.immo := rfl
@[simp] theorem State.upCan_lf (s : State) (c : Nat) (f : CanHid → CanHid) : (s.upCan c f).lf = s.lf := rfl
@[simp] theorem State.upCan_xcvr (s : State) (c : Nat) (f : CanHid → CanHid) : (s.upCan c f).xcvr = s.xcvr := rfl
@[simp] theorem State.upCan_vcc5Low (s : State) (c : Nat) (f : CanHid → CanHid) : (s.upCan c f).vcc5Low = s.vcc5Low := rfl
@[simp] theorem State.upCan_msgRam (s : State) (c : Nat) (f : CanHid → CanHid) : (s.upCan c f).msgRam = s.msgRam := rfl
@[simp] theorem State.upCan_nmBus (s : State) (c : Nat) (f : CanHid → CanHid) : (s.upCan c f).nmBus = s.nmBus := rfl
@[simp] theorem State.upCan_nm (s : State) (c : Nat) (f : CanHid → CanHid) : (s.upCan c f).nm = s.nm := rfl
@[simp] theorem State.upCan_wake (s : State) (c : Nat) (f : CanHid → CanHid) : (s.upCan c f).wake = s.wake := rfl
@[simp] theorem State.upCan_lin (s : State) (c : Nat) (f : CanHid → CanHid) : (s.upCan c f).lin = s.lin := rfl
@[simp] theorem State.upCan_mac (s : State) (c : Nat) (f : CanHid → CanHid) : (s.upCan c f).mac = s.mac := rfl
@[simp] theorem State.upCan_nt (s : State) (c : Nat) (f : CanHid → CanHid) : (s.upCan c f).nt = s.nt := rfl
@[simp] theorem State.upCan_ring (s : State) (c : Nat) (f : CanHid → CanHid) : (s.upCan c f).ring = s.ring := rfl
@[simp] theorem State.upCan_core (s : State) (c : Nat) (f : CanHid → CanHid) : (s.upCan c f).core = s.core := rfl
@[simp] theorem State.upCan_dram (s : State) (c : Nat) (f : CanHid → CanHid) : (s.upCan c f).dram = s.dram := rfl
@[simp] theorem State.upCan_iram (s : State) (c : Nat) (f : CanHid → CanHid) : (s.upCan c f).iram = s.iram := rfl
@[simp] theorem State.upCan_soft (s : State) (c : Nat) (f : CanHid → CanHid) : (s.upCan c f).soft = s.soft := rfl
@[simp] theorem State.upCan_mbox (s : State) (c : Nat) (f : CanHid → CanHid) : (s.upCan c f).mbox = s.mbox := rfl
@[simp] theorem State.upCan_eccBad (s : State) (c : Nat) (f : CanHid → CanHid) : (s.upCan c f).eccBad = s.eccBad := rfl
@[simp] theorem State.upCan_logMin (s : State) (c : Nat) (f : CanHid → CanHid) : (s.upCan c f).logMin = s.logMin := rfl
@[simp] theorem State.upCan_nvm (s : State) (c : Nat) (f : CanHid → CanHid) : (s.upCan c f).nvm = s.nvm := rfl
@[simp] theorem State.upCan_eeprom (s : State) (c : Nat) (f : CanHid → CanHid) : (s.upCan c f).eeprom = s.eeprom := rfl
@[simp] theorem State.upCan_torn (s : State) (c : Nat) (f : CanHid → CanHid) : (s.upCan c f).torn = s.torn := rfl
@[simp] theorem State.upCan_boot (s : State) (c : Nat) (f : CanHid → CanHid) : (s.upCan c f).boot = s.boot := rfl
@[simp] theorem State.upCan_fuse (s : State) (c : Nat) (f : CanHid → CanHid) : (s.upCan c f).fuse = s.fuse := rfl
@[simp] theorem State.upCan_att (s : State) (c : Nat) (f : CanHid → CanHid) : (s.upCan c f).att = s.att := rfl
@[simp] theorem State.upCan_host (s : State) (c : Nat) (f : CanHid → CanHid) : (s.upCan c f).host = s.host := rfl
@[simp] theorem State.upCan_mon (s : State) (c : Nat) (f : CanHid → CanHid) : (s.upCan c f).mon = s.mon := rfl
@[simp] theorem State.upCan_cnvm (s : State) (c : Nat) (f : CanHid → CanHid) : (s.upCan c f).cnvm = s.cnvm := rfl
@[simp] theorem State.upCan_sram (s : State) (c : Nat) (f : CanHid → CanHid) : (s.upCan c f).sram = s.sram := rfl
@[simp] theorem State.upCan_pending (s : State) (c : Nat) (f : CanHid → CanHid) : (s.upCan c f).pending = s.pending := rfl

/-! `State.upXcv` changes `xcvr` alone. -/
@[simp] theorem State.upXcv_reg (s : State) (t : Nat) (f : Xcvr → Xcvr) : (s.upXcv t f).reg = s.reg := rfl
@[simp] theorem State.upXcv_shadow (s : State) (t : Nat) (f : Xcvr → Xcvr) : (s.upXcv t f).shadow = s.shadow := rfl
@[simp] theorem State.upXcv_resp (s : State) (t : Nat) (f : Xcvr → Xcvr) : (s.upXcv t f).resp = s.resp := rfl
@[simp] theorem State.upXcv_free (s : State) (t : Nat) (f : Xcvr → Xcvr) : (s.upXcv t f).free = s.free := rfl
@[simp] theorem State.upXcv_tb (s : State) (t : Nat) (f : Xcvr → Xcvr) : (s.upXcv t f).tb = s.tb := rfl
@[simp] theorem State.upXcv_tbFrac (s : State) (t : Nat) (f : Xcvr → Xcvr) : (s.upXcv t f).tbFrac = s.tbFrac := rfl
@[simp] theorem State.upXcv_tbHid (s : State) (t : Nat) (f : Xcvr → Xcvr) : (s.upXcv t f).tbHid = s.tbHid := rfl
@[simp] theorem State.upXcv_sup (s : State) (t : Nat) (f : Xcvr → Xcvr) : (s.upXcv t f).sup = s.sup := rfl
@[simp] theorem State.upXcv_clk (s : State) (t : Nat) (f : Xcvr → Xcvr) : (s.upXcv t f).clk = s.clk := rfl
@[simp] theorem State.upXcv_cmp (s : State) (t : Nat) (f : Xcvr → Xcvr) : (s.upXcv t f).cmp = s.cmp := rfl
@[simp] theorem State.upXcv_casc (s : State) (t : Nat) (f : Xcvr → Xcvr) : (s.upXcv t f).casc = s.casc := rfl
@[simp] theorem State.upXcv_cascPhase (s : State) (t : Nat) (f : Xcvr → Xcvr) : (s.upXcv t f).cascPhase = s.cascPhase := rfl
@[simp] theorem State.upXcv_dom (s : State) (t : Nat) (f : Xcvr → Xcvr) : (s.upXcv t f).dom = s.dom := rfl
@[simp] theorem State.upXcv_reqs (s : State) (t : Nat) (f : Xcvr → Xcvr) : (s.upXcv t f).reqs = s.reqs := rfl
@[simp] theorem State.upXcv_stall (s : State) (t : Nat) (f : Xcvr → Xcvr) : (s.upXcv t f).stall = s.stall := rfl
@[simp] theorem State.upXcv_rind (s : State) (t : Nat) (f : Xcvr → Xcvr) : (s.upXcv t f).rind = s.rind := rfl
@[simp] theorem State.upXcv_wdgAlt (s : State) (t : Nat) (f : Xcvr → Xcvr) : (s.upXcv t f).wdgAlt = s.wdgAlt := rfl
@[simp] theorem State.upXcv_wdgReset (s : State) (t : Nat) (f : Xcvr → Xcvr) : (s.upXcv t f).wdgReset = s.wdgReset := rfl
@[simp] theorem State.upXcv_wdgFrom (s : State) (t : Nat) (f : Xcvr → Xcvr) : (s.upXcv t f).wdgFrom = s.wdgFrom := rfl
@[simp] theorem State.upXcv_wdgPause (s : State) (t : Nat) (f : Xcvr → Xcvr) : (s.upXcv t f).wdgPause = s.wdgPause := rfl
@[simp] theorem State.upXcv_wdgMs (s : State) (t : Nat) (f : Xcvr → Xcvr) : (s.upXcv t f).wdgMs = s.wdgMs := rfl
@[simp] theorem State.upXcv_gate (s : State) (t : Nat) (f : Xcvr → Xcvr) : (s.upXcv t f).gate = s.gate := rfl
@[simp] theorem State.upXcv_cald (s : State) (t : Nat) (f : Xcvr → Xcvr) : (s.upXcv t f).cald = s.cald := rfl
@[simp] theorem State.upXcv_chan (s : State) (t : Nat) (f : Xcvr → Xcvr) : (s.upXcv t f).chan = s.chan := rfl
@[simp] theorem State.upXcv_fio (s : State) (t : Nat) (f : Xcvr → Xcvr) : (s.upXcv t f).fio = s.fio := rfl
@[simp] theorem State.upXcv_keep (s : State) (t : Nat) (f : Xcvr → Xcvr) : (s.upXcv t f).keep = s.keep := rfl
@[simp] theorem State.upXcv_bridge (s : State) (t : Nat) (f : Xcvr → Xcvr) : (s.upXcv t f).bridge = s.bridge := rfl
@[simp] theorem State.upXcv_rpe (s : State) (t : Nat) (f : Xcvr → Xcvr) : (s.upXcv t f).rpe = s.rpe := rfl
@[simp] theorem State.upXcv_valve (s : State) (t : Nat) (f : Xcvr → Xcvr) : (s.upXcv t f).valve = s.valve := rfl
@[simp] theorem State.upXcv_bank (s : State) (t : Nat) (f : Xcvr → Xcvr) : (s.upXcv t f).bank = s.bank := rfl
@[simp] theorem State.upXcv_swi (s : State) (t : Nat) (f : Xcvr → Xcvr) : (s.upXcv t f).swi = s.swi := rfl
@[simp] theorem State.upXcv_parkQ (s : State) (t : Nat) (f : Xcvr → Xcvr) : (s.upXcv t f).parkQ = s.parkQ := rfl
@[simp] theorem State.upXcv_ssupOc (s : State) (t : Nat) (f : Xcvr → Xcvr) : (s.upXcv t f).ssupOc = s.ssupOc := rfl
@[simp] theorem State.upXcv_sense (s : State) (t : Nat) (f : Xcvr → Xcvr) : (s.upXcv t f).sense = s.sense := rfl
@[simp] theorem State.upXcv_led (s : State) (t : Nat) (f : Xcvr → Xcvr) : (s.upXcv t f).led = s.led := rfl
@[simp] theorem State.upXcv_ldc (s : State) (t : Nat) (f : Xcvr → Xcvr) : (s.upXcv t f).ldc = s.ldc := rfl
@[simp] theorem State.upXcv_ldcRam (s : State) (t : Nat) (f : Xcvr → Xcvr) : (s.upXcv t f).ldcRam = s.ldcRam := rfl
@[simp] theorem State.upXcv_preps (s : State) (t : Nat) (f : Xcvr → Xcvr) : (s.upXcv t f).preps = s.preps := rfl
@[simp] theorem State.upXcv_slots (s : State) (t : Nat) (f : Xcvr → Xcvr) : (s.upXcv t f).slots = s.slots := rfl
@[simp] theorem State.upXcv_woken (s : State) (t : Nat) (f : Xcvr → Xcvr) : (s.upXcv t f).woken = s.woken := rfl
@[simp] theorem State.upXcv_fer (s : State) (t : Nat) (f : Xcvr → Xcvr) : (s.upXcv t f).fer = s.fer := rfl
@[simp] theorem State.upXcv_immo (s : State) (t : Nat) (f : Xcvr → Xcvr) : (s.upXcv t f).immo = s.immo := rfl
@[simp] theorem State.upXcv_lf (s : State) (t : Nat) (f : Xcvr → Xcvr) : (s.upXcv t f).lf = s.lf := rfl
@[simp] theorem State.upXcv_can (s : State) (t : Nat) (f : Xcvr → Xcvr) : (s.upXcv t f).can = s.can := rfl
@[simp] theorem State.upXcv_vcc5Low (s : State) (t : Nat) (f : Xcvr → Xcvr) : (s.upXcv t f).vcc5Low = s.vcc5Low := rfl
@[simp] theorem State.upXcv_msgRam (s : State) (t : Nat) (f : Xcvr → Xcvr) : (s.upXcv t f).msgRam = s.msgRam := rfl
@[simp] theorem State.upXcv_nmBus (s : State) (t : Nat) (f : Xcvr → Xcvr) : (s.upXcv t f).nmBus = s.nmBus := rfl
@[simp] theorem State.upXcv_nm (s : State) (t : Nat) (f : Xcvr → Xcvr) : (s.upXcv t f).nm = s.nm := rfl
@[simp] theorem State.upXcv_wake (s : State) (t : Nat) (f : Xcvr → Xcvr) : (s.upXcv t f).wake = s.wake := rfl
@[simp] theorem State.upXcv_lin (s : State) (t : Nat) (f : Xcvr → Xcvr) : (s.upXcv t f).lin = s.lin := rfl
@[simp] theorem State.upXcv_mac (s : State) (t : Nat) (f : Xcvr → Xcvr) : (s.upXcv t f).mac = s.mac := rfl
@[simp] theorem State.upXcv_nt (s : State) (t : Nat) (f : Xcvr → Xcvr) : (s.upXcv t f).nt = s.nt := rfl
@[simp] theorem State.upXcv_ring (s : State) (t : Nat) (f : Xcvr → Xcvr) : (s.upXcv t f).ring = s.ring := rfl
@[simp] theorem State.upXcv_core (s : State) (t : Nat) (f : Xcvr → Xcvr) : (s.upXcv t f).core = s.core := rfl
@[simp] theorem State.upXcv_dram (s : State) (t : Nat) (f : Xcvr → Xcvr) : (s.upXcv t f).dram = s.dram := rfl
@[simp] theorem State.upXcv_iram (s : State) (t : Nat) (f : Xcvr → Xcvr) : (s.upXcv t f).iram = s.iram := rfl
@[simp] theorem State.upXcv_soft (s : State) (t : Nat) (f : Xcvr → Xcvr) : (s.upXcv t f).soft = s.soft := rfl
@[simp] theorem State.upXcv_mbox (s : State) (t : Nat) (f : Xcvr → Xcvr) : (s.upXcv t f).mbox = s.mbox := rfl
@[simp] theorem State.upXcv_eccBad (s : State) (t : Nat) (f : Xcvr → Xcvr) : (s.upXcv t f).eccBad = s.eccBad := rfl
@[simp] theorem State.upXcv_logMin (s : State) (t : Nat) (f : Xcvr → Xcvr) : (s.upXcv t f).logMin = s.logMin := rfl
@[simp] theorem State.upXcv_nvm (s : State) (t : Nat) (f : Xcvr → Xcvr) : (s.upXcv t f).nvm = s.nvm := rfl
@[simp] theorem State.upXcv_eeprom (s : State) (t : Nat) (f : Xcvr → Xcvr) : (s.upXcv t f).eeprom = s.eeprom := rfl
@[simp] theorem State.upXcv_torn (s : State) (t : Nat) (f : Xcvr → Xcvr) : (s.upXcv t f).torn = s.torn := rfl
@[simp] theorem State.upXcv_boot (s : State) (t : Nat) (f : Xcvr → Xcvr) : (s.upXcv t f).boot = s.boot := rfl
@[simp] theorem State.upXcv_fuse (s : State) (t : Nat) (f : Xcvr → Xcvr) : (s.upXcv t f).fuse = s.fuse := rfl
@[simp] theorem State.upXcv_att (s : State) (t : Nat) (f : Xcvr → Xcvr) : (s.upXcv t f).att = s.att := rfl
@[simp] theorem State.upXcv_host (s : State) (t : Nat) (f : Xcvr → Xcvr) : (s.upXcv t f).host = s.host := rfl
@[simp] theorem State.upXcv_mon (s : State) (t : Nat) (f : Xcvr → Xcvr) : (s.upXcv t f).mon = s.mon := rfl
@[simp] theorem State.upXcv_cnvm (s : State) (t : Nat) (f : Xcvr → Xcvr) : (s.upXcv t f).cnvm = s.cnvm := rfl
@[simp] theorem State.upXcv_sram (s : State) (t : Nat) (f : Xcvr → Xcvr) : (s.upXcv t f).sram = s.sram := rfl
@[simp] theorem State.upXcv_pending (s : State) (t : Nat) (f : Xcvr → Xcvr) : (s.upXcv t f).pending = s.pending := rfl

/-! `State.upBus` changes `nmBus` alone. -/
@[simp] theorem State.upBus_reg (s : State) (b : Nat) (f : NmBus → NmBus) : (s.upBus b f).reg = s.reg := rfl
@[simp] theorem State.upBus_shadow (s : State) (b : Nat) (f : NmBus → NmBus) : (s.upBus b f).shadow = s.shadow := rfl
@[simp] theorem State.upBus_resp (s : State) (b : Nat) (f : NmBus → NmBus) : (s.upBus b f).resp = s.resp := rfl
@[simp] theorem State.upBus_free (s : State) (b : Nat) (f : NmBus → NmBus) : (s.upBus b f).free = s.free := rfl
@[simp] theorem State.upBus_tb (s : State) (b : Nat) (f : NmBus → NmBus) : (s.upBus b f).tb = s.tb := rfl
@[simp] theorem State.upBus_tbFrac (s : State) (b : Nat) (f : NmBus → NmBus) : (s.upBus b f).tbFrac = s.tbFrac := rfl
@[simp] theorem State.upBus_tbHid (s : State) (b : Nat) (f : NmBus → NmBus) : (s.upBus b f).tbHid = s.tbHid := rfl
@[simp] theorem State.upBus_sup (s : State) (b : Nat) (f : NmBus → NmBus) : (s.upBus b f).sup = s.sup := rfl
@[simp] theorem State.upBus_clk (s : State) (b : Nat) (f : NmBus → NmBus) : (s.upBus b f).clk = s.clk := rfl
@[simp] theorem State.upBus_cmp (s : State) (b : Nat) (f : NmBus → NmBus) : (s.upBus b f).cmp = s.cmp := rfl
@[simp] theorem State.upBus_casc (s : State) (b : Nat) (f : NmBus → NmBus) : (s.upBus b f).casc = s.casc := rfl
@[simp] theorem State.upBus_cascPhase (s : State) (b : Nat) (f : NmBus → NmBus) : (s.upBus b f).cascPhase = s.cascPhase := rfl
@[simp] theorem State.upBus_dom (s : State) (b : Nat) (f : NmBus → NmBus) : (s.upBus b f).dom = s.dom := rfl
@[simp] theorem State.upBus_reqs (s : State) (b : Nat) (f : NmBus → NmBus) : (s.upBus b f).reqs = s.reqs := rfl
@[simp] theorem State.upBus_stall (s : State) (b : Nat) (f : NmBus → NmBus) : (s.upBus b f).stall = s.stall := rfl
@[simp] theorem State.upBus_rind (s : State) (b : Nat) (f : NmBus → NmBus) : (s.upBus b f).rind = s.rind := rfl
@[simp] theorem State.upBus_wdgAlt (s : State) (b : Nat) (f : NmBus → NmBus) : (s.upBus b f).wdgAlt = s.wdgAlt := rfl
@[simp] theorem State.upBus_wdgReset (s : State) (b : Nat) (f : NmBus → NmBus) : (s.upBus b f).wdgReset = s.wdgReset := rfl
@[simp] theorem State.upBus_wdgFrom (s : State) (b : Nat) (f : NmBus → NmBus) : (s.upBus b f).wdgFrom = s.wdgFrom := rfl
@[simp] theorem State.upBus_wdgPause (s : State) (b : Nat) (f : NmBus → NmBus) : (s.upBus b f).wdgPause = s.wdgPause := rfl
@[simp] theorem State.upBus_wdgMs (s : State) (b : Nat) (f : NmBus → NmBus) : (s.upBus b f).wdgMs = s.wdgMs := rfl
@[simp] theorem State.upBus_gate (s : State) (b : Nat) (f : NmBus → NmBus) : (s.upBus b f).gate = s.gate := rfl
@[simp] theorem State.upBus_cald (s : State) (b : Nat) (f : NmBus → NmBus) : (s.upBus b f).cald = s.cald := rfl
@[simp] theorem State.upBus_chan (s : State) (b : Nat) (f : NmBus → NmBus) : (s.upBus b f).chan = s.chan := rfl
@[simp] theorem State.upBus_fio (s : State) (b : Nat) (f : NmBus → NmBus) : (s.upBus b f).fio = s.fio := rfl
@[simp] theorem State.upBus_keep (s : State) (b : Nat) (f : NmBus → NmBus) : (s.upBus b f).keep = s.keep := rfl
@[simp] theorem State.upBus_bridge (s : State) (b : Nat) (f : NmBus → NmBus) : (s.upBus b f).bridge = s.bridge := rfl
@[simp] theorem State.upBus_rpe (s : State) (b : Nat) (f : NmBus → NmBus) : (s.upBus b f).rpe = s.rpe := rfl
@[simp] theorem State.upBus_valve (s : State) (b : Nat) (f : NmBus → NmBus) : (s.upBus b f).valve = s.valve := rfl
@[simp] theorem State.upBus_bank (s : State) (b : Nat) (f : NmBus → NmBus) : (s.upBus b f).bank = s.bank := rfl
@[simp] theorem State.upBus_swi (s : State) (b : Nat) (f : NmBus → NmBus) : (s.upBus b f).swi = s.swi := rfl
@[simp] theorem State.upBus_parkQ (s : State) (b : Nat) (f : NmBus → NmBus) : (s.upBus b f).parkQ = s.parkQ := rfl
@[simp] theorem State.upBus_ssupOc (s : State) (b : Nat) (f : NmBus → NmBus) : (s.upBus b f).ssupOc = s.ssupOc := rfl
@[simp] theorem State.upBus_sense (s : State) (b : Nat) (f : NmBus → NmBus) : (s.upBus b f).sense = s.sense := rfl
@[simp] theorem State.upBus_led (s : State) (b : Nat) (f : NmBus → NmBus) : (s.upBus b f).led = s.led := rfl
@[simp] theorem State.upBus_ldc (s : State) (b : Nat) (f : NmBus → NmBus) : (s.upBus b f).ldc = s.ldc := rfl
@[simp] theorem State.upBus_ldcRam (s : State) (b : Nat) (f : NmBus → NmBus) : (s.upBus b f).ldcRam = s.ldcRam := rfl
@[simp] theorem State.upBus_preps (s : State) (b : Nat) (f : NmBus → NmBus) : (s.upBus b f).preps = s.preps := rfl
@[simp] theorem State.upBus_slots (s : State) (b : Nat) (f : NmBus → NmBus) : (s.upBus b f).slots = s.slots := rfl
@[simp] theorem State.upBus_woken (s : State) (b : Nat) (f : NmBus → NmBus) : (s.upBus b f).woken = s.woken := rfl
@[simp] theorem State.upBus_fer (s : State) (b : Nat) (f : NmBus → NmBus) : (s.upBus b f).fer = s.fer := rfl
@[simp] theorem State.upBus_immo (s : State) (b : Nat) (f : NmBus → NmBus) : (s.upBus b f).immo = s.immo := rfl
@[simp] theorem State.upBus_lf (s : State) (b : Nat) (f : NmBus → NmBus) : (s.upBus b f).lf = s.lf := rfl
@[simp] theorem State.upBus_can (s : State) (b : Nat) (f : NmBus → NmBus) : (s.upBus b f).can = s.can := rfl
@[simp] theorem State.upBus_xcvr (s : State) (b : Nat) (f : NmBus → NmBus) : (s.upBus b f).xcvr = s.xcvr := rfl
@[simp] theorem State.upBus_vcc5Low (s : State) (b : Nat) (f : NmBus → NmBus) : (s.upBus b f).vcc5Low = s.vcc5Low := rfl
@[simp] theorem State.upBus_msgRam (s : State) (b : Nat) (f : NmBus → NmBus) : (s.upBus b f).msgRam = s.msgRam := rfl
@[simp] theorem State.upBus_nm (s : State) (b : Nat) (f : NmBus → NmBus) : (s.upBus b f).nm = s.nm := rfl
@[simp] theorem State.upBus_wake (s : State) (b : Nat) (f : NmBus → NmBus) : (s.upBus b f).wake = s.wake := rfl
@[simp] theorem State.upBus_lin (s : State) (b : Nat) (f : NmBus → NmBus) : (s.upBus b f).lin = s.lin := rfl
@[simp] theorem State.upBus_mac (s : State) (b : Nat) (f : NmBus → NmBus) : (s.upBus b f).mac = s.mac := rfl
@[simp] theorem State.upBus_nt (s : State) (b : Nat) (f : NmBus → NmBus) : (s.upBus b f).nt = s.nt := rfl
@[simp] theorem State.upBus_ring (s : State) (b : Nat) (f : NmBus → NmBus) : (s.upBus b f).ring = s.ring := rfl
@[simp] theorem State.upBus_core (s : State) (b : Nat) (f : NmBus → NmBus) : (s.upBus b f).core = s.core := rfl
@[simp] theorem State.upBus_dram (s : State) (b : Nat) (f : NmBus → NmBus) : (s.upBus b f).dram = s.dram := rfl
@[simp] theorem State.upBus_iram (s : State) (b : Nat) (f : NmBus → NmBus) : (s.upBus b f).iram = s.iram := rfl
@[simp] theorem State.upBus_soft (s : State) (b : Nat) (f : NmBus → NmBus) : (s.upBus b f).soft = s.soft := rfl
@[simp] theorem State.upBus_mbox (s : State) (b : Nat) (f : NmBus → NmBus) : (s.upBus b f).mbox = s.mbox := rfl
@[simp] theorem State.upBus_eccBad (s : State) (b : Nat) (f : NmBus → NmBus) : (s.upBus b f).eccBad = s.eccBad := rfl
@[simp] theorem State.upBus_logMin (s : State) (b : Nat) (f : NmBus → NmBus) : (s.upBus b f).logMin = s.logMin := rfl
@[simp] theorem State.upBus_nvm (s : State) (b : Nat) (f : NmBus → NmBus) : (s.upBus b f).nvm = s.nvm := rfl
@[simp] theorem State.upBus_eeprom (s : State) (b : Nat) (f : NmBus → NmBus) : (s.upBus b f).eeprom = s.eeprom := rfl
@[simp] theorem State.upBus_torn (s : State) (b : Nat) (f : NmBus → NmBus) : (s.upBus b f).torn = s.torn := rfl
@[simp] theorem State.upBus_boot (s : State) (b : Nat) (f : NmBus → NmBus) : (s.upBus b f).boot = s.boot := rfl
@[simp] theorem State.upBus_fuse (s : State) (b : Nat) (f : NmBus → NmBus) : (s.upBus b f).fuse = s.fuse := rfl
@[simp] theorem State.upBus_att (s : State) (b : Nat) (f : NmBus → NmBus) : (s.upBus b f).att = s.att := rfl
@[simp] theorem State.upBus_host (s : State) (b : Nat) (f : NmBus → NmBus) : (s.upBus b f).host = s.host := rfl
@[simp] theorem State.upBus_mon (s : State) (b : Nat) (f : NmBus → NmBus) : (s.upBus b f).mon = s.mon := rfl
@[simp] theorem State.upBus_cnvm (s : State) (b : Nat) (f : NmBus → NmBus) : (s.upBus b f).cnvm = s.cnvm := rfl
@[simp] theorem State.upBus_sram (s : State) (b : Nat) (f : NmBus → NmBus) : (s.upBus b f).sram = s.sram := rfl
@[simp] theorem State.upBus_pending (s : State) (b : Nat) (f : NmBus → NmBus) : (s.upBus b f).pending = s.pending := rfl

/-! `State.upLin` changes `lin` alone. -/
@[simp] theorem State.upLin_reg (s : State) (l : Nat) (f : Lin → Lin) : (s.upLin l f).reg = s.reg := rfl
@[simp] theorem State.upLin_shadow (s : State) (l : Nat) (f : Lin → Lin) : (s.upLin l f).shadow = s.shadow := rfl
@[simp] theorem State.upLin_resp (s : State) (l : Nat) (f : Lin → Lin) : (s.upLin l f).resp = s.resp := rfl
@[simp] theorem State.upLin_free (s : State) (l : Nat) (f : Lin → Lin) : (s.upLin l f).free = s.free := rfl
@[simp] theorem State.upLin_tb (s : State) (l : Nat) (f : Lin → Lin) : (s.upLin l f).tb = s.tb := rfl
@[simp] theorem State.upLin_tbFrac (s : State) (l : Nat) (f : Lin → Lin) : (s.upLin l f).tbFrac = s.tbFrac := rfl
@[simp] theorem State.upLin_tbHid (s : State) (l : Nat) (f : Lin → Lin) : (s.upLin l f).tbHid = s.tbHid := rfl
@[simp] theorem State.upLin_sup (s : State) (l : Nat) (f : Lin → Lin) : (s.upLin l f).sup = s.sup := rfl
@[simp] theorem State.upLin_clk (s : State) (l : Nat) (f : Lin → Lin) : (s.upLin l f).clk = s.clk := rfl
@[simp] theorem State.upLin_cmp (s : State) (l : Nat) (f : Lin → Lin) : (s.upLin l f).cmp = s.cmp := rfl
@[simp] theorem State.upLin_casc (s : State) (l : Nat) (f : Lin → Lin) : (s.upLin l f).casc = s.casc := rfl
@[simp] theorem State.upLin_cascPhase (s : State) (l : Nat) (f : Lin → Lin) : (s.upLin l f).cascPhase = s.cascPhase := rfl
@[simp] theorem State.upLin_dom (s : State) (l : Nat) (f : Lin → Lin) : (s.upLin l f).dom = s.dom := rfl
@[simp] theorem State.upLin_reqs (s : State) (l : Nat) (f : Lin → Lin) : (s.upLin l f).reqs = s.reqs := rfl
@[simp] theorem State.upLin_stall (s : State) (l : Nat) (f : Lin → Lin) : (s.upLin l f).stall = s.stall := rfl
@[simp] theorem State.upLin_rind (s : State) (l : Nat) (f : Lin → Lin) : (s.upLin l f).rind = s.rind := rfl
@[simp] theorem State.upLin_wdgAlt (s : State) (l : Nat) (f : Lin → Lin) : (s.upLin l f).wdgAlt = s.wdgAlt := rfl
@[simp] theorem State.upLin_wdgReset (s : State) (l : Nat) (f : Lin → Lin) : (s.upLin l f).wdgReset = s.wdgReset := rfl
@[simp] theorem State.upLin_wdgFrom (s : State) (l : Nat) (f : Lin → Lin) : (s.upLin l f).wdgFrom = s.wdgFrom := rfl
@[simp] theorem State.upLin_wdgPause (s : State) (l : Nat) (f : Lin → Lin) : (s.upLin l f).wdgPause = s.wdgPause := rfl
@[simp] theorem State.upLin_wdgMs (s : State) (l : Nat) (f : Lin → Lin) : (s.upLin l f).wdgMs = s.wdgMs := rfl
@[simp] theorem State.upLin_gate (s : State) (l : Nat) (f : Lin → Lin) : (s.upLin l f).gate = s.gate := rfl
@[simp] theorem State.upLin_cald (s : State) (l : Nat) (f : Lin → Lin) : (s.upLin l f).cald = s.cald := rfl
@[simp] theorem State.upLin_chan (s : State) (l : Nat) (f : Lin → Lin) : (s.upLin l f).chan = s.chan := rfl
@[simp] theorem State.upLin_fio (s : State) (l : Nat) (f : Lin → Lin) : (s.upLin l f).fio = s.fio := rfl
@[simp] theorem State.upLin_keep (s : State) (l : Nat) (f : Lin → Lin) : (s.upLin l f).keep = s.keep := rfl
@[simp] theorem State.upLin_bridge (s : State) (l : Nat) (f : Lin → Lin) : (s.upLin l f).bridge = s.bridge := rfl
@[simp] theorem State.upLin_rpe (s : State) (l : Nat) (f : Lin → Lin) : (s.upLin l f).rpe = s.rpe := rfl
@[simp] theorem State.upLin_valve (s : State) (l : Nat) (f : Lin → Lin) : (s.upLin l f).valve = s.valve := rfl
@[simp] theorem State.upLin_bank (s : State) (l : Nat) (f : Lin → Lin) : (s.upLin l f).bank = s.bank := rfl
@[simp] theorem State.upLin_swi (s : State) (l : Nat) (f : Lin → Lin) : (s.upLin l f).swi = s.swi := rfl
@[simp] theorem State.upLin_parkQ (s : State) (l : Nat) (f : Lin → Lin) : (s.upLin l f).parkQ = s.parkQ := rfl
@[simp] theorem State.upLin_ssupOc (s : State) (l : Nat) (f : Lin → Lin) : (s.upLin l f).ssupOc = s.ssupOc := rfl
@[simp] theorem State.upLin_sense (s : State) (l : Nat) (f : Lin → Lin) : (s.upLin l f).sense = s.sense := rfl
@[simp] theorem State.upLin_led (s : State) (l : Nat) (f : Lin → Lin) : (s.upLin l f).led = s.led := rfl
@[simp] theorem State.upLin_ldc (s : State) (l : Nat) (f : Lin → Lin) : (s.upLin l f).ldc = s.ldc := rfl
@[simp] theorem State.upLin_ldcRam (s : State) (l : Nat) (f : Lin → Lin) : (s.upLin l f).ldcRam = s.ldcRam := rfl
@[simp] theorem State.upLin_preps (s : State) (l : Nat) (f : Lin → Lin) : (s.upLin l f).preps = s.preps := rfl
@[simp] theorem State.upLin_slots (s : State) (l : Nat) (f : Lin → Lin) : (s.upLin l f).slots = s.slots := rfl
@[simp] theorem State.upLin_woken (s : State) (l : Nat) (f : Lin → Lin) : (s.upLin l f).woken = s.woken := rfl
@[simp] theorem State.upLin_fer (s : State) (l : Nat) (f : Lin → Lin) : (s.upLin l f).fer = s.fer := rfl
@[simp] theorem State.upLin_immo (s : State) (l : Nat) (f : Lin → Lin) : (s.upLin l f).immo = s.immo := rfl
@[simp] theorem State.upLin_lf (s : State) (l : Nat) (f : Lin → Lin) : (s.upLin l f).lf = s.lf := rfl
@[simp] theorem State.upLin_can (s : State) (l : Nat) (f : Lin → Lin) : (s.upLin l f).can = s.can := rfl
@[simp] theorem State.upLin_xcvr (s : State) (l : Nat) (f : Lin → Lin) : (s.upLin l f).xcvr = s.xcvr := rfl
@[simp] theorem State.upLin_vcc5Low (s : State) (l : Nat) (f : Lin → Lin) : (s.upLin l f).vcc5Low = s.vcc5Low := rfl
@[simp] theorem State.upLin_msgRam (s : State) (l : Nat) (f : Lin → Lin) : (s.upLin l f).msgRam = s.msgRam := rfl
@[simp] theorem State.upLin_nmBus (s : State) (l : Nat) (f : Lin → Lin) : (s.upLin l f).nmBus = s.nmBus := rfl
@[simp] theorem State.upLin_nm (s : State) (l : Nat) (f : Lin → Lin) : (s.upLin l f).nm = s.nm := rfl
@[simp] theorem State.upLin_wake (s : State) (l : Nat) (f : Lin → Lin) : (s.upLin l f).wake = s.wake := rfl
@[simp] theorem State.upLin_mac (s : State) (l : Nat) (f : Lin → Lin) : (s.upLin l f).mac = s.mac := rfl
@[simp] theorem State.upLin_nt (s : State) (l : Nat) (f : Lin → Lin) : (s.upLin l f).nt = s.nt := rfl
@[simp] theorem State.upLin_ring (s : State) (l : Nat) (f : Lin → Lin) : (s.upLin l f).ring = s.ring := rfl
@[simp] theorem State.upLin_core (s : State) (l : Nat) (f : Lin → Lin) : (s.upLin l f).core = s.core := rfl
@[simp] theorem State.upLin_dram (s : State) (l : Nat) (f : Lin → Lin) : (s.upLin l f).dram = s.dram := rfl
@[simp] theorem State.upLin_iram (s : State) (l : Nat) (f : Lin → Lin) : (s.upLin l f).iram = s.iram := rfl
@[simp] theorem State.upLin_soft (s : State) (l : Nat) (f : Lin → Lin) : (s.upLin l f).soft = s.soft := rfl
@[simp] theorem State.upLin_mbox (s : State) (l : Nat) (f : Lin → Lin) : (s.upLin l f).mbox = s.mbox := rfl
@[simp] theorem State.upLin_eccBad (s : State) (l : Nat) (f : Lin → Lin) : (s.upLin l f).eccBad = s.eccBad := rfl
@[simp] theorem State.upLin_logMin (s : State) (l : Nat) (f : Lin → Lin) : (s.upLin l f).logMin = s.logMin := rfl
@[simp] theorem State.upLin_nvm (s : State) (l : Nat) (f : Lin → Lin) : (s.upLin l f).nvm = s.nvm := rfl
@[simp] theorem State.upLin_eeprom (s : State) (l : Nat) (f : Lin → Lin) : (s.upLin l f).eeprom = s.eeprom := rfl
@[simp] theorem State.upLin_torn (s : State) (l : Nat) (f : Lin → Lin) : (s.upLin l f).torn = s.torn := rfl
@[simp] theorem State.upLin_boot (s : State) (l : Nat) (f : Lin → Lin) : (s.upLin l f).boot = s.boot := rfl
@[simp] theorem State.upLin_fuse (s : State) (l : Nat) (f : Lin → Lin) : (s.upLin l f).fuse = s.fuse := rfl
@[simp] theorem State.upLin_att (s : State) (l : Nat) (f : Lin → Lin) : (s.upLin l f).att = s.att := rfl
@[simp] theorem State.upLin_host (s : State) (l : Nat) (f : Lin → Lin) : (s.upLin l f).host = s.host := rfl
@[simp] theorem State.upLin_mon (s : State) (l : Nat) (f : Lin → Lin) : (s.upLin l f).mon = s.mon := rfl
@[simp] theorem State.upLin_cnvm (s : State) (l : Nat) (f : Lin → Lin) : (s.upLin l f).cnvm = s.cnvm := rfl
@[simp] theorem State.upLin_sram (s : State) (l : Nat) (f : Lin → Lin) : (s.upLin l f).sram = s.sram := rfl
@[simp] theorem State.upLin_pending (s : State) (l : Nat) (f : Lin → Lin) : (s.upLin l f).pending = s.pending := rfl

/-! `State.upMac` changes `mac` alone. -/
@[simp] theorem State.upMac_reg (s : State) (k : Nat) (f : Mac → Mac) : (s.upMac k f).reg = s.reg := rfl
@[simp] theorem State.upMac_shadow (s : State) (k : Nat) (f : Mac → Mac) : (s.upMac k f).shadow = s.shadow := rfl
@[simp] theorem State.upMac_resp (s : State) (k : Nat) (f : Mac → Mac) : (s.upMac k f).resp = s.resp := rfl
@[simp] theorem State.upMac_free (s : State) (k : Nat) (f : Mac → Mac) : (s.upMac k f).free = s.free := rfl
@[simp] theorem State.upMac_tb (s : State) (k : Nat) (f : Mac → Mac) : (s.upMac k f).tb = s.tb := rfl
@[simp] theorem State.upMac_tbFrac (s : State) (k : Nat) (f : Mac → Mac) : (s.upMac k f).tbFrac = s.tbFrac := rfl
@[simp] theorem State.upMac_tbHid (s : State) (k : Nat) (f : Mac → Mac) : (s.upMac k f).tbHid = s.tbHid := rfl
@[simp] theorem State.upMac_sup (s : State) (k : Nat) (f : Mac → Mac) : (s.upMac k f).sup = s.sup := rfl
@[simp] theorem State.upMac_clk (s : State) (k : Nat) (f : Mac → Mac) : (s.upMac k f).clk = s.clk := rfl
@[simp] theorem State.upMac_cmp (s : State) (k : Nat) (f : Mac → Mac) : (s.upMac k f).cmp = s.cmp := rfl
@[simp] theorem State.upMac_casc (s : State) (k : Nat) (f : Mac → Mac) : (s.upMac k f).casc = s.casc := rfl
@[simp] theorem State.upMac_cascPhase (s : State) (k : Nat) (f : Mac → Mac) : (s.upMac k f).cascPhase = s.cascPhase := rfl
@[simp] theorem State.upMac_dom (s : State) (k : Nat) (f : Mac → Mac) : (s.upMac k f).dom = s.dom := rfl
@[simp] theorem State.upMac_reqs (s : State) (k : Nat) (f : Mac → Mac) : (s.upMac k f).reqs = s.reqs := rfl
@[simp] theorem State.upMac_stall (s : State) (k : Nat) (f : Mac → Mac) : (s.upMac k f).stall = s.stall := rfl
@[simp] theorem State.upMac_rind (s : State) (k : Nat) (f : Mac → Mac) : (s.upMac k f).rind = s.rind := rfl
@[simp] theorem State.upMac_wdgAlt (s : State) (k : Nat) (f : Mac → Mac) : (s.upMac k f).wdgAlt = s.wdgAlt := rfl
@[simp] theorem State.upMac_wdgReset (s : State) (k : Nat) (f : Mac → Mac) : (s.upMac k f).wdgReset = s.wdgReset := rfl
@[simp] theorem State.upMac_wdgFrom (s : State) (k : Nat) (f : Mac → Mac) : (s.upMac k f).wdgFrom = s.wdgFrom := rfl
@[simp] theorem State.upMac_wdgPause (s : State) (k : Nat) (f : Mac → Mac) : (s.upMac k f).wdgPause = s.wdgPause := rfl
@[simp] theorem State.upMac_wdgMs (s : State) (k : Nat) (f : Mac → Mac) : (s.upMac k f).wdgMs = s.wdgMs := rfl
@[simp] theorem State.upMac_gate (s : State) (k : Nat) (f : Mac → Mac) : (s.upMac k f).gate = s.gate := rfl
@[simp] theorem State.upMac_cald (s : State) (k : Nat) (f : Mac → Mac) : (s.upMac k f).cald = s.cald := rfl
@[simp] theorem State.upMac_chan (s : State) (k : Nat) (f : Mac → Mac) : (s.upMac k f).chan = s.chan := rfl
@[simp] theorem State.upMac_fio (s : State) (k : Nat) (f : Mac → Mac) : (s.upMac k f).fio = s.fio := rfl
@[simp] theorem State.upMac_keep (s : State) (k : Nat) (f : Mac → Mac) : (s.upMac k f).keep = s.keep := rfl
@[simp] theorem State.upMac_bridge (s : State) (k : Nat) (f : Mac → Mac) : (s.upMac k f).bridge = s.bridge := rfl
@[simp] theorem State.upMac_rpe (s : State) (k : Nat) (f : Mac → Mac) : (s.upMac k f).rpe = s.rpe := rfl
@[simp] theorem State.upMac_valve (s : State) (k : Nat) (f : Mac → Mac) : (s.upMac k f).valve = s.valve := rfl
@[simp] theorem State.upMac_bank (s : State) (k : Nat) (f : Mac → Mac) : (s.upMac k f).bank = s.bank := rfl
@[simp] theorem State.upMac_swi (s : State) (k : Nat) (f : Mac → Mac) : (s.upMac k f).swi = s.swi := rfl
@[simp] theorem State.upMac_parkQ (s : State) (k : Nat) (f : Mac → Mac) : (s.upMac k f).parkQ = s.parkQ := rfl
@[simp] theorem State.upMac_ssupOc (s : State) (k : Nat) (f : Mac → Mac) : (s.upMac k f).ssupOc = s.ssupOc := rfl
@[simp] theorem State.upMac_sense (s : State) (k : Nat) (f : Mac → Mac) : (s.upMac k f).sense = s.sense := rfl
@[simp] theorem State.upMac_led (s : State) (k : Nat) (f : Mac → Mac) : (s.upMac k f).led = s.led := rfl
@[simp] theorem State.upMac_ldc (s : State) (k : Nat) (f : Mac → Mac) : (s.upMac k f).ldc = s.ldc := rfl
@[simp] theorem State.upMac_ldcRam (s : State) (k : Nat) (f : Mac → Mac) : (s.upMac k f).ldcRam = s.ldcRam := rfl
@[simp] theorem State.upMac_preps (s : State) (k : Nat) (f : Mac → Mac) : (s.upMac k f).preps = s.preps := rfl
@[simp] theorem State.upMac_slots (s : State) (k : Nat) (f : Mac → Mac) : (s.upMac k f).slots = s.slots := rfl
@[simp] theorem State.upMac_woken (s : State) (k : Nat) (f : Mac → Mac) : (s.upMac k f).woken = s.woken := rfl
@[simp] theorem State.upMac_fer (s : State) (k : Nat) (f : Mac → Mac) : (s.upMac k f).fer = s.fer := rfl
@[simp] theorem State.upMac_immo (s : State) (k : Nat) (f : Mac → Mac) : (s.upMac k f).immo = s.immo := rfl
@[simp] theorem State.upMac_lf (s : State) (k : Nat) (f : Mac → Mac) : (s.upMac k f).lf = s.lf := rfl
@[simp] theorem State.upMac_can (s : State) (k : Nat) (f : Mac → Mac) : (s.upMac k f).can = s.can := rfl
@[simp] theorem State.upMac_xcvr (s : State) (k : Nat) (f : Mac → Mac) : (s.upMac k f).xcvr = s.xcvr := rfl
@[simp] theorem State.upMac_vcc5Low (s : State) (k : Nat) (f : Mac → Mac) : (s.upMac k f).vcc5Low = s.vcc5Low := rfl
@[simp] theorem State.upMac_msgRam (s : State) (k : Nat) (f : Mac → Mac) : (s.upMac k f).msgRam = s.msgRam := rfl
@[simp] theorem State.upMac_nmBus (s : State) (k : Nat) (f : Mac → Mac) : (s.upMac k f).nmBus = s.nmBus := rfl
@[simp] theorem State.upMac_nm (s : State) (k : Nat) (f : Mac → Mac) : (s.upMac k f).nm = s.nm := rfl
@[simp] theorem State.upMac_wake (s : State) (k : Nat) (f : Mac → Mac) : (s.upMac k f).wake = s.wake := rfl
@[simp] theorem State.upMac_lin (s : State) (k : Nat) (f : Mac → Mac) : (s.upMac k f).lin = s.lin := rfl
@[simp] theorem State.upMac_nt (s : State) (k : Nat) (f : Mac → Mac) : (s.upMac k f).nt = s.nt := rfl
@[simp] theorem State.upMac_ring (s : State) (k : Nat) (f : Mac → Mac) : (s.upMac k f).ring = s.ring := rfl
@[simp] theorem State.upMac_core (s : State) (k : Nat) (f : Mac → Mac) : (s.upMac k f).core = s.core := rfl
@[simp] theorem State.upMac_dram (s : State) (k : Nat) (f : Mac → Mac) : (s.upMac k f).dram = s.dram := rfl
@[simp] theorem State.upMac_iram (s : State) (k : Nat) (f : Mac → Mac) : (s.upMac k f).iram = s.iram := rfl
@[simp] theorem State.upMac_soft (s : State) (k : Nat) (f : Mac → Mac) : (s.upMac k f).soft = s.soft := rfl
@[simp] theorem State.upMac_mbox (s : State) (k : Nat) (f : Mac → Mac) : (s.upMac k f).mbox = s.mbox := rfl
@[simp] theorem State.upMac_eccBad (s : State) (k : Nat) (f : Mac → Mac) : (s.upMac k f).eccBad = s.eccBad := rfl
@[simp] theorem State.upMac_logMin (s : State) (k : Nat) (f : Mac → Mac) : (s.upMac k f).logMin = s.logMin := rfl
@[simp] theorem State.upMac_nvm (s : State) (k : Nat) (f : Mac → Mac) : (s.upMac k f).nvm = s.nvm := rfl
@[simp] theorem State.upMac_eeprom (s : State) (k : Nat) (f : Mac → Mac) : (s.upMac k f).eeprom = s.eeprom := rfl
@[simp] theorem State.upMac_torn (s : State) (k : Nat) (f : Mac → Mac) : (s.upMac k f).torn = s.torn := rfl
@[simp] theorem State.upMac_boot (s : State) (k : Nat) (f : Mac → Mac) : (s.upMac k f).boot = s.boot := rfl
@[simp] theorem State.upMac_fuse (s : State) (k : Nat) (f : Mac → Mac) : (s.upMac k f).fuse = s.fuse := rfl
@[simp] theorem State.upMac_att (s : State) (k : Nat) (f : Mac → Mac) : (s.upMac k f).att = s.att := rfl
@[simp] theorem State.upMac_host (s : State) (k : Nat) (f : Mac → Mac) : (s.upMac k f).host = s.host := rfl
@[simp] theorem State.upMac_mon (s : State) (k : Nat) (f : Mac → Mac) : (s.upMac k f).mon = s.mon := rfl
@[simp] theorem State.upMac_cnvm (s : State) (k : Nat) (f : Mac → Mac) : (s.upMac k f).cnvm = s.cnvm := rfl
@[simp] theorem State.upMac_sram (s : State) (k : Nat) (f : Mac → Mac) : (s.upMac k f).sram = s.sram := rfl
@[simp] theorem State.upMac_pending (s : State) (k : Nat) (f : Mac → Mac) : (s.upMac k f).pending = s.pending := rfl

/-! `State.upSat` changes `ring` alone. -/
@[simp] theorem State.upSat_reg (s : State) (d : Nat) (f : Sat → Sat) : (s.upSat d f).reg = s.reg := rfl
@[simp] theorem State.upSat_shadow (s : State) (d : Nat) (f : Sat → Sat) : (s.upSat d f).shadow = s.shadow := rfl
@[simp] theorem State.upSat_resp (s : State) (d : Nat) (f : Sat → Sat) : (s.upSat d f).resp = s.resp := rfl
@[simp] theorem State.upSat_free (s : State) (d : Nat) (f : Sat → Sat) : (s.upSat d f).free = s.free := rfl
@[simp] theorem State.upSat_tb (s : State) (d : Nat) (f : Sat → Sat) : (s.upSat d f).tb = s.tb := rfl
@[simp] theorem State.upSat_tbFrac (s : State) (d : Nat) (f : Sat → Sat) : (s.upSat d f).tbFrac = s.tbFrac := rfl
@[simp] theorem State.upSat_tbHid (s : State) (d : Nat) (f : Sat → Sat) : (s.upSat d f).tbHid = s.tbHid := rfl
@[simp] theorem State.upSat_sup (s : State) (d : Nat) (f : Sat → Sat) : (s.upSat d f).sup = s.sup := rfl
@[simp] theorem State.upSat_clk (s : State) (d : Nat) (f : Sat → Sat) : (s.upSat d f).clk = s.clk := rfl
@[simp] theorem State.upSat_cmp (s : State) (d : Nat) (f : Sat → Sat) : (s.upSat d f).cmp = s.cmp := rfl
@[simp] theorem State.upSat_casc (s : State) (d : Nat) (f : Sat → Sat) : (s.upSat d f).casc = s.casc := rfl
@[simp] theorem State.upSat_cascPhase (s : State) (d : Nat) (f : Sat → Sat) : (s.upSat d f).cascPhase = s.cascPhase := rfl
@[simp] theorem State.upSat_dom (s : State) (d : Nat) (f : Sat → Sat) : (s.upSat d f).dom = s.dom := rfl
@[simp] theorem State.upSat_reqs (s : State) (d : Nat) (f : Sat → Sat) : (s.upSat d f).reqs = s.reqs := rfl
@[simp] theorem State.upSat_stall (s : State) (d : Nat) (f : Sat → Sat) : (s.upSat d f).stall = s.stall := rfl
@[simp] theorem State.upSat_rind (s : State) (d : Nat) (f : Sat → Sat) : (s.upSat d f).rind = s.rind := rfl
@[simp] theorem State.upSat_wdgAlt (s : State) (d : Nat) (f : Sat → Sat) : (s.upSat d f).wdgAlt = s.wdgAlt := rfl
@[simp] theorem State.upSat_wdgReset (s : State) (d : Nat) (f : Sat → Sat) : (s.upSat d f).wdgReset = s.wdgReset := rfl
@[simp] theorem State.upSat_wdgFrom (s : State) (d : Nat) (f : Sat → Sat) : (s.upSat d f).wdgFrom = s.wdgFrom := rfl
@[simp] theorem State.upSat_wdgPause (s : State) (d : Nat) (f : Sat → Sat) : (s.upSat d f).wdgPause = s.wdgPause := rfl
@[simp] theorem State.upSat_wdgMs (s : State) (d : Nat) (f : Sat → Sat) : (s.upSat d f).wdgMs = s.wdgMs := rfl
@[simp] theorem State.upSat_gate (s : State) (d : Nat) (f : Sat → Sat) : (s.upSat d f).gate = s.gate := rfl
@[simp] theorem State.upSat_cald (s : State) (d : Nat) (f : Sat → Sat) : (s.upSat d f).cald = s.cald := rfl
@[simp] theorem State.upSat_chan (s : State) (d : Nat) (f : Sat → Sat) : (s.upSat d f).chan = s.chan := rfl
@[simp] theorem State.upSat_fio (s : State) (d : Nat) (f : Sat → Sat) : (s.upSat d f).fio = s.fio := rfl
@[simp] theorem State.upSat_keep (s : State) (d : Nat) (f : Sat → Sat) : (s.upSat d f).keep = s.keep := rfl
@[simp] theorem State.upSat_bridge (s : State) (d : Nat) (f : Sat → Sat) : (s.upSat d f).bridge = s.bridge := rfl
@[simp] theorem State.upSat_rpe (s : State) (d : Nat) (f : Sat → Sat) : (s.upSat d f).rpe = s.rpe := rfl
@[simp] theorem State.upSat_valve (s : State) (d : Nat) (f : Sat → Sat) : (s.upSat d f).valve = s.valve := rfl
@[simp] theorem State.upSat_bank (s : State) (d : Nat) (f : Sat → Sat) : (s.upSat d f).bank = s.bank := rfl
@[simp] theorem State.upSat_swi (s : State) (d : Nat) (f : Sat → Sat) : (s.upSat d f).swi = s.swi := rfl
@[simp] theorem State.upSat_parkQ (s : State) (d : Nat) (f : Sat → Sat) : (s.upSat d f).parkQ = s.parkQ := rfl
@[simp] theorem State.upSat_ssupOc (s : State) (d : Nat) (f : Sat → Sat) : (s.upSat d f).ssupOc = s.ssupOc := rfl
@[simp] theorem State.upSat_sense (s : State) (d : Nat) (f : Sat → Sat) : (s.upSat d f).sense = s.sense := rfl
@[simp] theorem State.upSat_led (s : State) (d : Nat) (f : Sat → Sat) : (s.upSat d f).led = s.led := rfl
@[simp] theorem State.upSat_ldc (s : State) (d : Nat) (f : Sat → Sat) : (s.upSat d f).ldc = s.ldc := rfl
@[simp] theorem State.upSat_ldcRam (s : State) (d : Nat) (f : Sat → Sat) : (s.upSat d f).ldcRam = s.ldcRam := rfl
@[simp] theorem State.upSat_preps (s : State) (d : Nat) (f : Sat → Sat) : (s.upSat d f).preps = s.preps := rfl
@[simp] theorem State.upSat_slots (s : State) (d : Nat) (f : Sat → Sat) : (s.upSat d f).slots = s.slots := rfl
@[simp] theorem State.upSat_woken (s : State) (d : Nat) (f : Sat → Sat) : (s.upSat d f).woken = s.woken := rfl
@[simp] theorem State.upSat_fer (s : State) (d : Nat) (f : Sat → Sat) : (s.upSat d f).fer = s.fer := rfl
@[simp] theorem State.upSat_immo (s : State) (d : Nat) (f : Sat → Sat) : (s.upSat d f).immo = s.immo := rfl
@[simp] theorem State.upSat_lf (s : State) (d : Nat) (f : Sat → Sat) : (s.upSat d f).lf = s.lf := rfl
@[simp] theorem State.upSat_can (s : State) (d : Nat) (f : Sat → Sat) : (s.upSat d f).can = s.can := rfl
@[simp] theorem State.upSat_xcvr (s : State) (d : Nat) (f : Sat → Sat) : (s.upSat d f).xcvr = s.xcvr := rfl
@[simp] theorem State.upSat_vcc5Low (s : State) (d : Nat) (f : Sat → Sat) : (s.upSat d f).vcc5Low = s.vcc5Low := rfl
@[simp] theorem State.upSat_msgRam (s : State) (d : Nat) (f : Sat → Sat) : (s.upSat d f).msgRam = s.msgRam := rfl
@[simp] theorem State.upSat_nmBus (s : State) (d : Nat) (f : Sat → Sat) : (s.upSat d f).nmBus = s.nmBus := rfl
@[simp] theorem State.upSat_nm (s : State) (d : Nat) (f : Sat → Sat) : (s.upSat d f).nm = s.nm := rfl
@[simp] theorem State.upSat_wake (s : State) (d : Nat) (f : Sat → Sat) : (s.upSat d f).wake = s.wake := rfl
@[simp] theorem State.upSat_lin (s : State) (d : Nat) (f : Sat → Sat) : (s.upSat d f).lin = s.lin := rfl
@[simp] theorem State.upSat_mac (s : State) (d : Nat) (f : Sat → Sat) : (s.upSat d f).mac = s.mac := rfl
@[simp] theorem State.upSat_nt (s : State) (d : Nat) (f : Sat → Sat) : (s.upSat d f).nt = s.nt := rfl
@[simp] theorem State.upSat_core (s : State) (d : Nat) (f : Sat → Sat) : (s.upSat d f).core = s.core := rfl
@[simp] theorem State.upSat_dram (s : State) (d : Nat) (f : Sat → Sat) : (s.upSat d f).dram = s.dram := rfl
@[simp] theorem State.upSat_iram (s : State) (d : Nat) (f : Sat → Sat) : (s.upSat d f).iram = s.iram := rfl
@[simp] theorem State.upSat_soft (s : State) (d : Nat) (f : Sat → Sat) : (s.upSat d f).soft = s.soft := rfl
@[simp] theorem State.upSat_mbox (s : State) (d : Nat) (f : Sat → Sat) : (s.upSat d f).mbox = s.mbox := rfl
@[simp] theorem State.upSat_eccBad (s : State) (d : Nat) (f : Sat → Sat) : (s.upSat d f).eccBad = s.eccBad := rfl
@[simp] theorem State.upSat_logMin (s : State) (d : Nat) (f : Sat → Sat) : (s.upSat d f).logMin = s.logMin := rfl
@[simp] theorem State.upSat_nvm (s : State) (d : Nat) (f : Sat → Sat) : (s.upSat d f).nvm = s.nvm := rfl
@[simp] theorem State.upSat_eeprom (s : State) (d : Nat) (f : Sat → Sat) : (s.upSat d f).eeprom = s.eeprom := rfl
@[simp] theorem State.upSat_torn (s : State) (d : Nat) (f : Sat → Sat) : (s.upSat d f).torn = s.torn := rfl
@[simp] theorem State.upSat_boot (s : State) (d : Nat) (f : Sat → Sat) : (s.upSat d f).boot = s.boot := rfl
@[simp] theorem State.upSat_fuse (s : State) (d : Nat) (f : Sat → Sat) : (s.upSat d f).fuse = s.fuse := rfl
@[simp] theorem State.upSat_att (s : State) (d : Nat) (f : Sat → Sat) : (s.upSat d f).att = s.att := rfl
@[simp] theorem State.upSat_host (s : State) (d : Nat) (f : Sat → Sat) : (s.upSat d f).host = s.host := rfl
@[simp] theorem State.upSat_mon (s : State) (d : Nat) (f : Sat → Sat) : (s.upSat d f).mon = s.mon := rfl
@[simp] theorem State.upSat_cnvm (s : State) (d : Nat) (f : Sat → Sat) : (s.upSat d f).cnvm = s.cnvm := rfl
@[simp] theorem State.upSat_sram (s : State) (d : Nat) (f : Sat → Sat) : (s.upSat d f).sram = s.sram := rfl
@[simp] theorem State.upSat_pending (s : State) (d : Nat) (f : Sat → Sat) : (s.upSat d f).pending = s.pending := rfl

/-! Reads after writes of register fields. -/

theorem State.rd_wr_same (s : State) (l : Loc) (v : Nat) : (s.wr l v).rd l = v % 2 ^ l.w := tget_tput_same ..

theorem State.rd_wr_ne (s : State) {l m : Loc} (v : Nat) (h : m.key ≠ l.key) : (s.wr l v).rd m = s.rd m := tget_tput_ne _ _ _ _ h

/-- A field reads back the value just written, truncated to its width. -/
theorem State.get_set_same (s : State) (f : Fld) (p v i j : Nat) : (s.set f p v i j).get f p i j = v % 2 ^ f.w := s.rd_wr_same ..

/-- Writing a field leaves every field at another bit address alone. -/
theorem State.get_set_ne (s : State) {f g : Fld} {p q i j a b : Nat} (v : Nat) (h : (g.loc q a b).key ≠ (f.loc p i j).key) :
    (s.set f p v i j).get g q a b = s.get g q a b := s.rd_wr_ne v h

theorem State.flag_put_same (s : State) (f : Fld) (p : Nat) (b : Bool) (i j : Nat) (h : 0 < f.w) : (s.put f p b i j).flag f p i j = b := by
  have e : (s.put f p b i j).get f p i j = b2n b % 2 ^ f.w := s.get_set_same ..
  have h2 : 1 < 2 ^ f.w := Nat.one_lt_two_pow (Nat.pos_iff_ne_zero.1 h)
  cases b
  · simp [State.flag, e, b2n]
  · simp [State.flag, e, b2n, Nat.mod_eq_of_lt h2]

theorem State.flag_put_ne (s : State) {f g : Fld} {p q i j a b : Nat} (v : Bool) (h : (g.loc q a b).key ≠ (f.loc p i j).key) :
    (s.put f p v i j).flag g q a b = s.flag g q a b := by
  have e : (s.put f p v i j).get g q a b = s.get g q a b := s.get_set_ne _ h
  simp [State.flag, e]

/-! A read of the registers or of the hidden state sees only its own part of the state. -/

@[simp] theorem State.rd_answer (s : State) (k : Answer) (v : Nat) (l : Loc) : (s.answer k v).rd l = s.rd l := rfl
@[simp] theorem State.rd_setDom (s : State) (n : Nat) (d : Dom) (l : Loc) : (s.setDom n d).rd l = s.rd l := rfl
@[simp] theorem State.rd_setCh (s : State) (c : Nat) (x : Chan) (l : Loc) : (s.setCh c x).rd l = s.rd l := rfl
@[simp] theorem State.rd_upCh (s : State) (c : Nat) (u : Chan → Chan) (l : Loc) : (s.upCh c u).rd l = s.rd l := rfl
@[simp] theorem State.rd_upPin (s : State) (c : Nat) (u : Fio → Fio) (l : Loc) : (s.upPin c u).rd l = s.rd l := rfl
@[simp] theorem State.rd_upBr (s : State) (b : Nat) (u : Bridge → Bridge) (l : Loc) : (s.upBr b u).rd l = s.rd l := rfl
@[simp] theorem State.rd_upEng (s : State) (g : Nat) (u : Rpe → Rpe) (l : Loc) : (s.upEng g u).rd l = s.rd l := rfl
@[simp] theorem State.rd_upVlv (s : State) (n : Nat) (u : Valve → Valve) (l : Loc) : (s.upVlv n u).rd l = s.rd l := rfl
@[simp] theorem State.rd_upBk (s : State) (k : Nat) (u : Bank → Bank) (l : Loc) : (s.upBk k u).rd l = s.rd l := rfl
@[simp] theorem State.rd_upSw (s : State) (n : Nat) (u : Swi → Swi) (l : Loc) : (s.upSw n u).rd l = s.rd l := rfl
@[simp] theorem State.rd_upSlot (s : State) (n : Nat) (u : SlotH → SlotH) (l : Loc) : (s.upSlot n u).rd l = s.rd l := rfl
@[simp] theorem State.rd_upFer (s : State) (g : Nat) (u : Fer → Fer) (l : Loc) : (s.upFer g u).rd l = s.rd l := rfl
@[simp] theorem State.rd_setCmp (s : State) (g : Nat) (x : CmpHid) (l : Loc) : (s.setCmp g x).rd l = s.rd l := rfl
@[simp] theorem State.rd_setCasc (s : State) (k : Nat) (x : CascHid) (l : Loc) : (s.setCasc k x).rd l = s.rd l := rfl
@[simp] theorem State.rd_upCan (s : State) (c : Nat) (u : CanHid → CanHid) (l : Loc) : (s.upCan c u).rd l = s.rd l := rfl
@[simp] theorem State.rd_upXcv (s : State) (t : Nat) (u : Xcvr → Xcvr) (l : Loc) : (s.upXcv t u).rd l = s.rd l := rfl
@[simp] theorem State.rd_upBus (s : State) (b : Nat) (u : NmBus → NmBus) (l : Loc) : (s.upBus b u).rd l = s.rd l := rfl
@[simp] theorem State.rd_upLin (s : State) (a : Nat) (u : Lin → Lin) (l : Loc) : (s.upLin a u).rd l = s.rd l := rfl
@[simp] theorem State.rd_upMac (s : State) (k : Nat) (u : Mac → Mac) (l : Loc) : (s.upMac k u).rd l = s.rd l := rfl
@[simp] theorem State.rd_upSat (s : State) (d : Nat) (u : Sat → Sat) (l : Loc) : (s.upSat d u).rd l = s.rd l := rfl
@[simp] theorem State.get_answer (s : State) (k : Answer) (v : Nat) (f : Fld) (p i j : Nat) : (s.answer k v).get f p i j = s.get f p i j := rfl
@[simp] theorem State.get_setDom (s : State) (n : Nat) (d : Dom) (f : Fld) (p i j : Nat) : (s.setDom n d).get f p i j = s.get f p i j := rfl
@[simp] theorem State.get_setCh (s : State) (c : Nat) (x : Chan) (f : Fld) (p i j : Nat) : (s.setCh c x).get f p i j = s.get f p i j := rfl
@[simp] theorem State.get_upCh (s : State) (c : Nat) (u : Chan → Chan) (f : Fld) (p i j : Nat) : (s.upCh c u).get f p i j = s.get f p i j := rfl
@[simp] theorem State.get_upPin (s : State) (c : Nat) (u : Fio → Fio) (f : Fld) (p i j : Nat) : (s.upPin c u).get f p i j = s.get f p i j := rfl
@[simp] theorem State.get_upBr (s : State) (b : Nat) (u : Bridge → Bridge) (f : Fld) (p i j : Nat) : (s.upBr b u).get f p i j = s.get f p i j := rfl
@[simp] theorem State.get_upEng (s : State) (g : Nat) (u : Rpe → Rpe) (f : Fld) (p i j : Nat) : (s.upEng g u).get f p i j = s.get f p i j := rfl
@[simp] theorem State.get_upVlv (s : State) (n : Nat) (u : Valve → Valve) (f : Fld) (p i j : Nat) : (s.upVlv n u).get f p i j = s.get f p i j := rfl
@[simp] theorem State.get_upBk (s : State) (k : Nat) (u : Bank → Bank) (f : Fld) (p i j : Nat) : (s.upBk k u).get f p i j = s.get f p i j := rfl
@[simp] theorem State.get_upSw (s : State) (n : Nat) (u : Swi → Swi) (f : Fld) (p i j : Nat) : (s.upSw n u).get f p i j = s.get f p i j := rfl
@[simp] theorem State.get_upSlot (s : State) (n : Nat) (u : SlotH → SlotH) (f : Fld) (p i j : Nat) : (s.upSlot n u).get f p i j = s.get f p i j := rfl
@[simp] theorem State.get_upFer (s : State) (g : Nat) (u : Fer → Fer) (f : Fld) (p i j : Nat) : (s.upFer g u).get f p i j = s.get f p i j := rfl
@[simp] theorem State.get_setCmp (s : State) (g : Nat) (x : CmpHid) (f : Fld) (p i j : Nat) : (s.setCmp g x).get f p i j = s.get f p i j := rfl
@[simp] theorem State.get_setCasc (s : State) (k : Nat) (x : CascHid) (f : Fld) (p i j : Nat) : (s.setCasc k x).get f p i j = s.get f p i j := rfl
@[simp] theorem State.get_upCan (s : State) (c : Nat) (u : CanHid → CanHid) (f : Fld) (p i j : Nat) : (s.upCan c u).get f p i j = s.get f p i j := rfl
@[simp] theorem State.get_upXcv (s : State) (t : Nat) (u : Xcvr → Xcvr) (f : Fld) (p i j : Nat) : (s.upXcv t u).get f p i j = s.get f p i j := rfl
@[simp] theorem State.get_upBus (s : State) (b : Nat) (u : NmBus → NmBus) (f : Fld) (p i j : Nat) : (s.upBus b u).get f p i j = s.get f p i j := rfl
@[simp] theorem State.get_upLin (s : State) (a : Nat) (u : Lin → Lin) (f : Fld) (p i j : Nat) : (s.upLin a u).get f p i j = s.get f p i j := rfl
@[simp] theorem State.get_upMac (s : State) (k : Nat) (u : Mac → Mac) (f : Fld) (p i j : Nat) : (s.upMac k u).get f p i j = s.get f p i j := rfl
@[simp] theorem State.get_upSat (s : State) (d : Nat) (u : Sat → Sat) (f : Fld) (p i j : Nat) : (s.upSat d u).get f p i j = s.get f p i j := rfl
@[simp] theorem State.flag_answer (s : State) (k : Answer) (v : Nat) (f : Fld) (p i j : Nat) : (s.answer k v).flag f p i j = s.flag f p i j := rfl
@[simp] theorem State.flag_setDom (s : State) (n : Nat) (d : Dom) (f : Fld) (p i j : Nat) : (s.setDom n d).flag f p i j = s.flag f p i j := rfl
@[simp] theorem State.flag_setCh (s : State) (c : Nat) (x : Chan) (f : Fld) (p i j : Nat) : (s.setCh c x).flag f p i j = s.flag f p i j := rfl
@[simp] theorem State.flag_upCh (s : State) (c : Nat) (u : Chan → Chan) (f : Fld) (p i j : Nat) : (s.upCh c u).flag f p i j = s.flag f p i j := rfl
@[simp] theorem State.flag_upPin (s : State) (c : Nat) (u : Fio → Fio) (f : Fld) (p i j : Nat) : (s.upPin c u).flag f p i j = s.flag f p i j := rfl
@[simp] theorem State.flag_upBr (s : State) (b : Nat) (u : Bridge → Bridge) (f : Fld) (p i j : Nat) : (s.upBr b u).flag f p i j = s.flag f p i j := rfl
@[simp] theorem State.flag_upEng (s : State) (g : Nat) (u : Rpe → Rpe) (f : Fld) (p i j : Nat) : (s.upEng g u).flag f p i j = s.flag f p i j := rfl
@[simp] theorem State.flag_upVlv (s : State) (n : Nat) (u : Valve → Valve) (f : Fld) (p i j : Nat) : (s.upVlv n u).flag f p i j = s.flag f p i j := rfl
@[simp] theorem State.flag_upBk (s : State) (k : Nat) (u : Bank → Bank) (f : Fld) (p i j : Nat) : (s.upBk k u).flag f p i j = s.flag f p i j := rfl
@[simp] theorem State.flag_upSw (s : State) (n : Nat) (u : Swi → Swi) (f : Fld) (p i j : Nat) : (s.upSw n u).flag f p i j = s.flag f p i j := rfl
@[simp] theorem State.flag_upSlot (s : State) (n : Nat) (u : SlotH → SlotH) (f : Fld) (p i j : Nat) : (s.upSlot n u).flag f p i j = s.flag f p i j := rfl
@[simp] theorem State.flag_upFer (s : State) (g : Nat) (u : Fer → Fer) (f : Fld) (p i j : Nat) : (s.upFer g u).flag f p i j = s.flag f p i j := rfl
@[simp] theorem State.flag_setCmp (s : State) (g : Nat) (x : CmpHid) (f : Fld) (p i j : Nat) : (s.setCmp g x).flag f p i j = s.flag f p i j := rfl
@[simp] theorem State.flag_setCasc (s : State) (k : Nat) (x : CascHid) (f : Fld) (p i j : Nat) : (s.setCasc k x).flag f p i j = s.flag f p i j := rfl
@[simp] theorem State.flag_upCan (s : State) (c : Nat) (u : CanHid → CanHid) (f : Fld) (p i j : Nat) : (s.upCan c u).flag f p i j = s.flag f p i j := rfl
@[simp] theorem State.flag_upXcv (s : State) (t : Nat) (u : Xcvr → Xcvr) (f : Fld) (p i j : Nat) : (s.upXcv t u).flag f p i j = s.flag f p i j := rfl
@[simp] theorem State.flag_upBus (s : State) (b : Nat) (u : NmBus → NmBus) (f : Fld) (p i j : Nat) : (s.upBus b u).flag f p i j = s.flag f p i j := rfl
@[simp] theorem State.flag_upLin (s : State) (a : Nat) (u : Lin → Lin) (f : Fld) (p i j : Nat) : (s.upLin a u).flag f p i j = s.flag f p i j := rfl
@[simp] theorem State.flag_upMac (s : State) (k : Nat) (u : Mac → Mac) (f : Fld) (p i j : Nat) : (s.upMac k u).flag f p i j = s.flag f p i j := rfl
@[simp] theorem State.flag_upSat (s : State) (d : Nat) (u : Sat → Sat) (f : Fld) (p i j : Nat) : (s.upSat d u).flag f p i j = s.flag f p i j := rfl

end Sys2Proof.Machine
end

