-- ==== Sys2Proof/Laws/Access.lean ====
section
/-! SUPPORT. What everything before a register's own effect leaves alone, and that a write which reaches its register does that
effect and nothing else. -/

namespace Sys2Proof.Machine

/-- Another requester changes only which requests hold the domain on. -/
theorem State.reached_form (s : State) (p : Nat) :
    ∃ w d, s.reached p = { s with woken := w, dom := d, resp := ⟨.ok, 0⟩ } := by
  unfold State.reached State.needPage
  cases pageDomain p with
  | none => exact ⟨s.woken, s.dom, rfl⟩
  | some n => exact ⟨_, _, rfl⟩

@[simp] theorem State.reached_reg (s : State) (p : Nat) : (s.reached p).reg = s.reg := by
  obtain ⟨w, d, h⟩ := s.reached_form p; simp [h]
@[simp] theorem State.reached_get (s : State) (p : Nat) (f : Fld) (q i j : Nat) : (s.reached p).get f q i j = s.get f q i j := by
  obtain ⟨w, d, h⟩ := s.reached_form p; simp [h, State.get, State.rd]
@[simp] theorem State.reached_flag (s : State) (p : Nat) (f : Fld) (q i j : Nat) : (s.reached p).flag f q i j = s.flag f q i j := by
  simp [State.flag]
@[simp] theorem State.reached_rd (s : State) (p : Nat) (l : Loc) : (s.reached p).rd l = s.rd l := by
  obtain ⟨w, d, h⟩ := s.reached_form p; simp [h, State.rd]

theorem breaksKey_reached (s : State) (p q off : Nat) : breaksKey (s.reached q) p off = breaksKey s p off := by simp [breaksKey]
theorem lockBroken_reached (s : State) (p q off v : Nat) : lockBroken (s.reached q) p off v = lockBroken s p off v := by
  obtain ⟨w, d, h⟩ := s.reached_form q
  simp [lockBroken, State.lockedVal, h, State.get, State.flag, State.rd]

/-- A write that reaches its register does what the register does. -/
theorem accessWrite_takes (s : State) (m : Master) (p off v : Nat) (eff : Nat → State → State) (h : s.takes p off v = true) :
    accessWrite s m p off v eff = eff v (s.reached p) := by
  simp only [State.takes, Bool.and_eq_true, Bool.not_eq_true'] at h
  obtain ⟨⟨⟨⟨⟨⟨h1, h2⟩, _⟩, h3⟩, h4⟩, h5⟩, h6⟩ := h
  have e : ((s.needPage p).answer .ok) = s.reached p := rfl
  have h4' : breaksKey (s.reached p) p off = false := by rw [breaksKey_reached, h4]
  have h5' : lockBroken (s.reached p) p off v = false := by rw [lockBroken_reached, h5]
  simp [accessWrite, checkedWrite, e, h1, h2, h3, h4', h5', h6]

/-- A register command whose write reaches its register. -/
theorem regPut_takes (s : State) (m : Master) (p off v : Nat) (ha : p ≠ ahdPage ∨ off < 0x40 ∨ off % 0x40 ≠ 0) (h : s.takes p off v = true) :
    regPut s m p off v = regEff m p off v (s.reached p) := by
  have hb : p = nvmPage → s.macroBusy = false := by
    intro e
    simp only [State.takes, Bool.and_eq_true, Bool.not_eq_true'] at h
    simpa [e] using h.1.1.1.1.2
  unfold regPut
  have h2 : (decide (p = ahdPage) && decide (0x40 ≤ off) && decide (off % 0x40 = 0)) = false := by
    rcases ha with ha | ha | ha
    · simp [ha]
    · simp; omega
    · simp [ha]
  by_cases h3 : p = nmkPage ∧ off = 0x40
  · obtain ⟨rfl, rfl⟩ := h3
    have hh : s.flag H_STAT_HELD nmkPage = false := by
      simp only [State.takes, Bool.and_eq_true, Bool.not_eq_true'] at h
      have := h.1.1.1.2
      rwa [show holdExempt nmkPage 0x40 = false from by decide, Bool.not_false, Bool.and_true] at this
    have e : regEff m nmkPage 0x40 v = ceilEff v := by
      funext t; simp [regEff, blockEff, nmkEff, show nmkPage = 0x7D from rfl, wdgPage, pageType]
    simp [show nmkPage ≠ nvmPage from by decide, show nmkPage ≠ ahdPage from by decide, ceilWrite, hh, e, accessWrite_takes s m _ _ v _ h]
  have h3 : (decide (p = nmkPage) && decide (off = 0x40)) = false := by simpa using h3
  by_cases e : p = nvmPage
  · have hp : s.pageOn p = true := by
      simp only [State.takes, Bool.and_eq_true] at h
      exact h.1.1.1.1.1.2
    subst e
    simp [hp, nvmWrite, hb rfl, accessWrite_takes s m _ off v _ h]
  · simp [h2, h3, e, accessWrite_takes s m p off v _ h]

/-- A register write, commits first. -/
theorem regWrite_takes (s : State) (m : Master) (p off v : Nat) (ha : p ≠ ahdPage ∨ off < 0x40 ∨ off % 0x40 ≠ 0)
    (h : (s.busAt p).takes p off v = true) :
    regWrite s m p off v = regEff m p off v ((s.busAt p).reached p) :=
  regPut_takes (s.busAt p) m p off v ha h

/-- No commit stands in front of a page that is no stage. -/
@[simp] theorem busAt_plain (s : State) (p : Nat) (h : stagePage p = false) : s.busAt p = s := by simp [State.busAt, h]

end Sys2Proof.Machine
end

