-- ==== Sys2Proof/Laws/Dispatch.lean ====
section
/-! SUPPORT. Every arm of `exec` as an equation, so that no proof unfolds the dispatch. -/

namespace Sys2Proof.Machine

@[simp] theorem exec_powerUp (strap : Bool) (s : State) : exec (.powerUp strap) s = execPowerUp strap s := rfl
@[simp] theorem exec_limpMapRead (s : State) : exec (.limpMapRead) s = execLimpMapRead s := rfl
@[simp] theorem exec_totalPowerLoss (s : State) : exec (.totalPowerLoss) s = execTotalPowerLoss s := rfl
@[simp] theorem exec_undervoltage (s : State) : exec (.undervoltage) s = execUndervoltage s := rfl
@[simp] theorem exec_vbatLowChange (low : Bool) (s : State) : exec (.vbatLowChange low) s = execVbatLowChange low s := rfl
@[simp] theorem exec_vbatOvChange (ov : Bool) (s : State) : exec (.vbatOvChange ov) s = execVbatOvChange ov s := rfl
@[simp] theorem exec_reverseBattery (reversed : Bool) (s : State) : exec (.reverseBattery reversed) s = execReverseBattery reversed s := rfl
@[simp] theorem exec_resetNRise (s : State) : exec (.resetNRise) s = execResetNRise s := rfl
@[simp] theorem exec_resetNLongLow (s : State) : exec (.resetNLongLow) s = execResetNLongLow s := rfl
@[simp] theorem exec_limpInputChange (n : Nat) (active : Bool) (s : State) : exec (.limpInputChange n active) s = execLimpInputChange n active s := rfl
@[simp] theorem exec_limpHomeStart (s : State) : exec (.limpHomeStart) s = execLimpHomeStart s := rfl
@[simp] theorem exec_vbatMeasurement (vbat : Nat) (vfld : Nat) (s : State) : exec (.vbatMeasurement vbat vfld) s = execVbatMeasurement vbat vfld s := rfl
@[simp] theorem exec_vfldUvChange (uv : Bool) (s : State) : exec (.vfldUvChange uv) s = execVfldUvChange uv s := rfl
@[simp] theorem exec_registerWrite (m : Master) (page : Nat) (off : Nat) (v : Word) (s : State) : exec (.registerWrite m page off v) s = execRegisterWrite m page off v s := rfl
@[simp] theorem exec_ctrlEnClear (m : Master) (page : Nat) (s : State) : exec (.ctrlEnClear m page) s = execCtrlEnClear m page s := rfl
@[simp] theorem exec_ctrlEnSet (m : Master) (page : Nat) (s : State) : exec (.ctrlEnSet m page) s = execCtrlEnSet m page s := rfl
@[simp] theorem exec_drainComplete (page : Nat) (s : State) : exec (.drainComplete page) s = execDrainComplete page s := rfl
@[simp] theorem exec_ctrlSrst (m : Master) (page : Nat) (s : State) : exec (.ctrlSrst m page) s = execCtrlSrst m page s := rfl
@[simp] theorem exec_ctrlHoldSet (m : Master) (page : Nat) (s : State) : exec (.ctrlHoldSet m page) s = execCtrlHoldSet m page s := rfl
@[simp] theorem exec_ctrlHoldClear (m : Master) (page : Nat) (s : State) : exec (.ctrlHoldClear m page) s = execCtrlHoldClear m page s := rfl
@[simp] theorem exec_shadowApplyComplete (page : Nat) (s : State) : exec (.shadowApplyComplete page) s = execShadowApplyComplete page s := rfl
@[simp] theorem exec_shadowWrite (m : Master) (page : Nat) (off : Nat) (v : Word) (s : State) : exec (.shadowWrite m page off v) s = execShadowWrite m page off v s := rfl
@[simp] theorem exec_lockkeyWrite (m : Master) (page : Nat) (v : Word) (s : State) : exec (.lockkeyWrite m page v) s = execLockkeyWrite m page v s := rfl
@[simp] theorem exec_irqSetWrite (m : Master) (page : Nat) (v : Word) (s : State) : exec (.irqSetWrite m page v) s = execIrqSetWrite m page v s := rfl
@[simp] theorem exec_irqRawClear (m : Master) (page : Nat) (v : Word) (event : Word) (s : State) : exec (.irqRawClear m page v event) s = execIrqRawClear m page v event s := rfl
@[simp] theorem exec_unmappedAccess (m : Master) (addr : Word) (wr : Option Word) (s : State) : exec (.unmappedAccess m addr wr) s = execUnmappedAccess m addr wr s := rfl
@[simp] theorem exec_domainOffAccess (m : Master) (page : Nat) (off : Nat) (wr : Option Word) (s : State) : exec (.domainOffAccess m page off wr) s = execDomainOffAccess m page off wr s := rfl
@[simp] theorem exec_stallTimeout (m : Master) (s : State) : exec (.stallTimeout m) s = execStallTimeout m s := rfl
@[simp] theorem exec_satelliteWindowAccess (m : Master) (d : Nat) (p : Nat) (off : Nat) (w : Option Word) (kind : Nat) (ans : Word) (s : State) : exec (.satelliteWindowAccess m d p off w kind ans) s = execSatelliteWindowAccess m d p off w kind ans s := rfl
@[simp] theorem exec_windowTimeout (m : Master) (s : State) : exec (.windowTimeout m) s = execWindowTimeout m s := rfl
@[simp] theorem exec_xtalFail (s : State) : exec (.xtalFail) s = execXtalFail s := rfl
@[simp] theorem exec_pllLockLoss (s : State) : exec (.pllLockLoss) s = execPllLockLoss s := rfl
@[simp] theorem exec_pllRelockTimeout (s : State) : exec (.pllRelockTimeout) s = execPllRelockTimeout s := rfl
@[simp] theorem exec_refSelWrite (m : Master) (v : Word) (s : State) : exec (.refSelWrite m v) s = execRefSelWrite m v s := rfl
@[simp] theorem exec_clockFreezeEnd (s : State) : exec (.clockFreezeEnd) s = execClockFreezeEnd s := rfl
@[simp] theorem exec_lfXtalFail (s : State) : exec (.lfXtalFail) s = execLfXtalFail s := rfl
@[simp] theorem exec_clockRestartComplete (s : State) : exec (.clockRestartComplete) s = execClockRestartComplete s := rfl
@[simp] theorem exec_tbHandoverToLf (s : State) : exec (.tbHandoverToLf) s = execTbHandoverToLf s := rfl
@[simp] theorem exec_tbHandoverToCclk (s : State) : exec (.tbHandoverToCclk) s = execTbHandoverToCclk s := rfl
@[simp] theorem exec_lfincTrim (s : State) : exec (.lfincTrim) s = execLfincTrim s := rfl
@[simp] theorem exec_incIntWrite (m : Master) (v : Word) (s : State) : exec (.incIntWrite m v) s = execIncIntWrite m v s := rfl
@[simp] theorem exec_residApply (m : Master) (s : State) : exec (.residApply m) s = execResidApply m s := rfl
@[simp] theorem exec_uncertClr (m : Master) (s : State) : exec (.uncertClr m) s = execUncertClr m s := rfl
@[simp] theorem exec_cmpHiWrite (m : Master) (g : Nat) (v : Word) (s : State) : exec (.cmpHiWrite m g v) s = execCmpHiWrite m g v s := rfl
@[simp] theorem exec_cmpModeWrite (m : Master) (g : Nat) (mode : Nat) (s : State) : exec (.cmpModeWrite m g mode) s = execCmpModeWrite m g mode s := rfl
@[simp] theorem exec_compareFire (g : Nat) (s : State) : exec (.compareFire g) s = execCompareFire g s := rfl
@[simp] theorem exec_capture (g : Nat) (src : Nat) (rising : Bool) (s : State) : exec (.capture g src rising) s = execCapture g src rising s := rfl
@[simp] theorem exec_cascCount (k : Nat) (src : Nat) (rising : Bool) (s : State) : exec (.cascCount k src rising) s = execCascCount k src rising s := rfl
@[simp] theorem exec_cascCarry (k : Nat) (s : State) : exec (.cascCarry k) s = execCascCarry k s := rfl
@[simp] theorem exec_cascCntWrite (m : Master) (k : Nat) (v : Word) (s : State) : exec (.cascCntWrite m k v) s = execCascCntWrite m k v s := rfl
@[simp] theorem exec_pwrOrder (n : Nat) (order : Nat) (autowake : Bool) (s : State) : exec (.pwrOrder n order autowake) s = execPwrOrder n order autowake s := rfl
@[simp] theorem exec_pwrOrderRequest (m : Master) (n : Nat) (order : Nat) (s : State) : exec (.pwrOrderRequest m n order) s = execPwrOrderRequest m n order s := rfl
@[simp] theorem exec_pwrReqRead (m : Master) (s : State) : exec (.pwrReqRead m) s = execPwrReqRead m s := rfl
@[simp] theorem exec_domainEntryComplete (n : Nat) (s : State) : exec (.domainEntryComplete n) s = execDomainEntryComplete n s := rfl
@[simp] theorem exec_domainPowerUpAdmit (n : Nat) (s : State) : exec (.domainPowerUpAdmit n) s = execDomainPowerUpAdmit n s := rfl
@[simp] theorem exec_domainPowerUpComplete (n : Nat) (s : State) : exec (.domainPowerUpComplete n) s = execDomainPowerUpComplete n s := rfl
@[simp] theorem exec_domainPromotion (n : Nat) (s : State) : exec (.domainPromotion n) s = execDomainPromotion n s := rfl
@[simp] theorem exec_rindSwValidWrite (m : Master) (s : State) : exec (.rindSwValidWrite m) s = execRindSwValidWrite m s := rfl
@[simp] theorem exec_wakeCauseClr (m : Master) (s : State) : exec (.wakeCauseClr m) s = execWakeCauseClr m s := rfl
@[simp] theorem exec_wakeOutWrite (m : Master) (v : Bool) (s : State) : exec (.wakeOutWrite m v) s = execWakeOutWrite m v s := rfl
@[simp] theorem exec_hcsNWake (s : State) : exec (.hcsNWake) s = execHcsNWake s := rfl
@[simp] theorem exec_wdgKick (m : Master) (v : Word) (early : Bool) (s : State) : exec (.wdgKick m v early) s = execWdgKick m v early s := rfl
@[simp] theorem exec_wdgExpiry (s : State) : exec (.wdgExpiry) s = execWdgExpiry s := rfl
@[simp] theorem exec_wdgFullResetEnd (s : State) : exec (.wdgFullResetEnd) s = execWdgFullResetEnd s := rfl
@[simp] theorem exec_channelOutWrite (m : Master) (c : Nat) (v : Word) (s : State) : exec (.channelOutWrite m c v) s = execChannelOutWrite m c v s := rfl
@[simp] theorem exec_gateSlotStart (s : State) : exec (.gateSlotStart) s = execGateSlotStart s := rfl
@[simp] theorem exec_gateAdmit (s : State) : exec (.gateAdmit) s = execGateAdmit s := rfl
@[simp] theorem exec_gateDeferExpiry (s : State) : exec (.gateDeferExpiry) s = execGateDeferExpiry s := rfl
@[simp] theorem exec_inrushWindowClose (c : Nat) (s : State) : exec (.inrushWindowClose c) s = execInrushWindowClose c s := rfl
@[simp] theorem exec_droopChange (c : Nat) (below : Bool) (s : State) : exec (.droopChange c below) s = execDroopChange c below s := rfl
@[simp] theorem exec_droopCapReached (c : Nat) (s : State) : exec (.droopCapReached c) s = execDroopCapReached c s := rfl
@[simp] theorem exec_limWrite (m : Master) (c : Nat) (v : Word) (s : State) : exec (.limWrite m c v) s = execLimWrite m c v s := rfl
@[simp] theorem exec_limitationStart (u : Stage) (s : State) : exec (.limitationStart u) s = execLimitationStart u s := rfl
@[simp] theorem exec_filteredTrip (u : Stage) (we : Nat) (s : State) : exec (.filteredTrip u we) s = execFilteredTrip u we s := rfl
@[simp] theorem exec_fastTrip (u : Stage) (s : State) : exec (.fastTrip u) s = execFastTrip u s := rfl
@[simp] theorem exec_turnOffComplete (u : Stage) (energy : Nat) (we : Nat) (s : State) : exec (.turnOffComplete u energy we) s = execTurnOffComplete u energy we s := rfl
@[simp] theorem exec_retryTimerExpiry (c : Nat) (s : State) : exec (.retryTimerExpiry c) s = execRetryTimerExpiry c s := rfl
@[simp] theorem exec_retriesReload (c : Nat) (s : State) : exec (.retriesReload c) s = execRetriesReload c s := rfl
@[simp] theorem exec_thermalLatchSet (u : Stage) (s : State) : exec (.thermalLatchSet u) s = execThermalLatchSet u s := rfl
@[simp] theorem exec_thermalLatchClear (u : Stage) (s : State) : exec (.thermalLatchClear u) s = execThermalLatchClear u s := rfl
@[simp] theorem exec_actTlClr (m : Master) (u : Stage) (s : State) : exec (.actTlClr m u) s = execActTlClr m u s := rfl
@[simp] theorem exec_actUnlock (m : Master) (u : Stage) (s : State) : exec (.actUnlock m u) s = execActUnlock m u s := rfl
@[simp] theorem exec_actFuseReset (m : Master) (c : Nat) (s : State) : exec (.actFuseReset m c) s = execActFuseReset m c s := rfl
@[simp] theorem exec_actRetryReset (m : Master) (c : Nat) (s : State) : exec (.actRetryReset m c) s = execActRetryReset m c s := rfl
@[simp] theorem exec_actDiagNow (m : Master) (c : Nat) (s : State) : exec (.actDiagNow m c) s = execActDiagNow m c s := rfl
@[simp] theorem exec_offStateCheckStart (c : Nat) (s : State) : exec (.offStateCheckStart c) s = execOffStateCheckStart c s := rfl
@[simp] theorem exec_offStateCheckSample (c : Nat) (high : Bool) (s : State) : exec (.offStateCheckSample c high) s = execOffStateCheckSample c high s := rfl
@[simp] theorem exec_senseUpdate (u : Stage) (raw : Int) (vout : Nat) (tj : Nat) (phase : Bool) (limited : Bool) (s : State) : exec (.senseUpdate u raw vout tj phase limited) s = execSenseUpdate u raw vout tj phase limited s := rfl
@[simp] theorem exec_pwmPeriodStart (u : Stage) (s : State) : exec (.pwmPeriodStart u) s = execPwmPeriodStart u s := rfl
@[simp] theorem exec_lsClampConduction (u : Stage) (energy : Nat) (s : State) : exec (.lsClampConduction u energy) s = execLsClampConduction u energy s := rfl
@[simp] theorem exec_calderaTick (temps : List Int) (inp : SwiReading) (led : LedReading) (aux : Nat) (vlf : Nat) (ivlf : Nat) (s : State) : exec (.calderaTick temps inp led aux vlf ivlf) s = execCalderaTick temps inp led aux vlf ivlf s := rfl
@[simp] theorem exec_calderaRelease (s : State) : exec (.calderaRelease) s = execCalderaRelease s := rfl
@[simp] theorem exec_calderaDrainStep (s : State) : exec (.calderaDrainStep) s = execCalderaDrainStep s := rfl
@[simp] theorem exec_ambSetWrite (m : Master) (v : Word) (s : State) : exec (.ambSetWrite m v) s = execAmbSetWrite m v s := rfl
@[simp] theorem exec_ambStale (s : State) : exec (.ambStale) s = execAmbStale s := rfl
@[simp] theorem exec_weBinBoundary (s : State) : exec (.weBinBoundary) s = execWeBinBoundary s := rfl
@[simp] theorem exec_wiringEnergyCut (c : Nat) (energy : Nat) (s : State) : exec (.wiringEnergyCut c energy) s = execWiringEnergyCut c energy s := rfl
@[simp] theorem exec_hbDriveWrite (m : Master) (b : Nat) (v : Word) (s : State) : exec (.hbDriveWrite m b v) s = execHbDriveWrite m b v s := rfl
@[simp] theorem exec_dirBrakeEnd (b : Nat) (s : State) : exec (.dirBrakeEnd b) s = execDirBrakeEnd b s := rfl
@[simp] theorem exec_brakeTimerEnd (b : Nat) (s : State) : exec (.brakeTimerEnd b) s = execBrakeTimerEnd b s := rfl
@[simp] theorem exec_stallDetect (b : Nat) (s : State) : exec (.stallDetect b) s = execStallDetect b s := rfl
@[simp] theorem exec_vdsFault (g : Nat) (sw : Nat) (s : State) : exec (.vdsFault g sw) s = execVdsFault g sw s := rfl
@[simp] theorem exec_cpUndervoltage (s : State) : exec (.cpUndervoltage) s = execCpUndervoltage s := rfl
@[simp] theorem exec_hbActClear (m : Master) (b : Nat) (s : State) : exec (.hbActClear m b) s = execHbActClear m b s := rfl
@[simp] theorem exec_chargePumpReady (s : State) : exec (.chargePumpReady) s = execChargePumpReady s := rfl
@[simp] theorem exec_wiperParkStop (g : Nat) (s : State) : exec (.wiperParkStop g) s = execWiperParkStop g s := rfl
@[simp] theorem exec_gdActZero (m : Master) (g : Nat) (offset : Int) (s : State) : exec (.gdActZero m g offset) s = execGdActZero m g offset s := rfl
@[simp] theorem exec_rippleCount (x : Crossing) (s : State) : exec (.rippleCount x) s = execRippleCount x s := rfl
@[simp] theorem exec_rippleInsert (g : Nat) (s : State) : exec (.rippleInsert g) s = execRippleInsert g s := rfl
@[simp] theorem exec_rpeLowFreqStall (g : Nat) (s : State) : exec (.rpeLowFreqStall g) s = execRpeLowFreqStall g s := rfl
@[simp] theorem exec_actNormNow (m : Master) (g : Nat) (s : State) : exec (.actNormNow m g) s = execActNormNow m g s := rfl
@[simp] theorem exec_actNormClr (m : Master) (g : Nat) (s : State) : exec (.actNormClr m g) s = execActNormClr m g s := rfl
@[simp] theorem exec_targetGo (m : Master) (g : Nat) (v : Word) (s : State) : exec (.targetGo m g v) s = execTargetGo m g v s := rfl
@[simp] theorem exec_pinchEvaluation (g : Nat) (index : Nat) (vb : Nat) (s : State) : exec (.pinchEvaluation g index vb) s = execPinchEvaluation g index vb s := rfl
@[simp] theorem exec_reversalRequest (g : Nat) (s : State) : exec (.reversalRequest g) s = execReversalRequest g s := rfl
@[simp] theorem exec_profileWrite (m : Master) (g : Nat) (off : Nat) (v : Word) (s : State) : exec (.profileWrite m g off v) s = execProfileWrite m g off v s := rfl
@[simp] theorem exec_valveOutWrite (m : Master) (n : Nat) (v : Word) (s : State) : exec (.valveOutWrite m n v) s = execValveOutWrite m n v s := rfl
@[simp] theorem exec_overlapTimeout (n : Nat) (s : State) : exec (.overlapTimeout n) s = execOverlapTimeout n s := rfl
@[simp] theorem exec_valvePeakEnd (n : Nat) (index : Nat) (s : State) : exec (.valvePeakEnd n index) s = execValvePeakEnd n index s := rfl
@[simp] theorem exec_armatureDip (n : Nat) (index : Nat) (s : State) : exec (.armatureDip n index) s = execArmatureDip n index s := rfl
@[simp] theorem exec_valveRegulationPeriod (n : Nat) (mean : Nat) (duty : Nat) (s : State) : exec (.valveRegulationPeriod n mean duty) s = execValveRegulationPeriod n mean duty s := rfl
@[simp] theorem exec_coilMeasurement (n : Nat) (mv : Nat) (ma : Nat) (s : State) : exec (.coilMeasurement n mv ma) s = execCoilMeasurement n mv ma s := rfl
@[simp] theorem exec_coilModelTick (n : Nat) (s : State) : exec (.coilModelTick n) s = execCoilModelTick n s := rfl
@[simp] theorem exec_rampDownEnd (n : Nat) (s : State) : exec (.rampDownEnd n) s = execRampDownEnd n s := rfl
@[simp] theorem exec_bankTrip (k : Nat) (fast : Bool) (s : State) : exec (.bankTrip k fast) s = execBankTrip k fast s := rfl
@[simp] theorem exec_vbkActClear (m : Master) (k : Nat) (s : State) : exec (.vbkActClear m k) s = execVbkActClear m k s := rfl
@[simp] theorem exec_valveActClear (m : Master) (n : Nat) (s : State) : exec (.valveActClear m n) s = execValveActClear m n s := rfl
@[simp] theorem exec_valveFreezeTurnOff (n : Nat) (s : State) : exec (.valveFreezeTurnOff n) s = execValveFreezeTurnOff n s := rfl
@[simp] theorem exec_fioTransitionAccept (p : Nat) (level : Bool) (edge : Nat) (s : State) : exec (.fioTransitionAccept p level edge) s = execFioTransitionAccept p level edge s := rfl
@[simp] theorem exec_fioWake (p : Nat) (level : Bool) (s : State) : exec (.fioWake p level) s = execFioWake p level s := rfl
@[simp] theorem exec_keepaliveWrite (m : Master) (v : Word) (s : State) : exec (.keepaliveWrite m v) s = execKeepaliveWrite m v s := rfl
@[simp] theorem exec_keepaliveExpiry (s : State) : exec (.keepaliveExpiry) s = execKeepaliveExpiry s := rfl
@[simp] theorem exec_kaResume (m : Master) (s : State) : exec (.kaResume m) s = execKaResume m s := rfl
@[simp] theorem exec_safePatternToggle (p : Nat) (s : State) : exec (.safePatternToggle p) s = execSafePatternToggle p s := rfl
@[simp] theorem exec_fioOpenLoad (p : Nat) (s : State) : exec (.fioOpenLoad p) s = execFioOpenLoad p s := rfl
@[simp] theorem exec_fioExtHigh (p : Nat) (s : State) : exec (.fioExtHigh p) s = execFioExtHigh p s := rfl
@[simp] theorem exec_swiTransitionAccept (n : Nat) (level : Bool) (s : State) : exec (.swiTransitionAccept n level) s = execSwiTransitionAccept n level s := rfl
@[simp] theorem exec_wettingTimerEnd (n : Nat) (s : State) : exec (.wettingTimerEnd n) s = execWettingTimerEnd n s := rfl
@[simp] theorem exec_cyclicSensePulse (g : Nat) (levels : Nat) (s : State) : exec (.cyclicSensePulse g levels) s = execCyclicSensePulse g levels s := rfl
@[simp] theorem exec_swiEvtRead (m : Master) (s : State) : exec (.swiEvtRead m) s = execSwiEvtRead m s := rfl
@[simp] theorem exec_ssupOvercurrent (k : Nat) (s : State) : exec (.ssupOvercurrent k) s = execSsupOvercurrent k s := rfl
@[simp] theorem exec_ledFrameStart (s : State) : exec (.ledFrameStart) s = execLedFrameStart s := rfl
@[simp] theorem exec_ledSyncEvent (kind : Nat) (s : State) : exec (.ledSyncEvent kind) s = execLedSyncEvent kind s := rfl
@[simp] theorem exec_swapReq (m : Master) (s : State) : exec (.swapReq m) s = execSwapReq m s := rfl
@[simp] theorem exec_ledElementTest (e : Nat) (isOpen : Bool) (isShort : Bool) (s : State) : exec (.ledElementTest e isOpen isShort) s = execLedElementTest e isOpen isShort s := rfl
@[simp] theorem exec_ledLineTrip (l : Nat) (s : State) : exec (.ledLineTrip l) s = execLedLineTrip l s := rfl
@[simp] theorem exec_lineClear (m : Master) (v : Word) (s : State) : exec (.lineClear m v) s = execLineClear m v s := rfl
@[simp] theorem exec_colHot (hot : Bool) (s : State) : exec (.colHot hot) s = execColHot hot s := rfl
@[simp] theorem exec_diagRun (m : Master) (s : State) : exec (.diagRun m) s = execDiagRun m s := rfl
@[simp] theorem exec_ledDiagSlot (shorts : Nat) (s : State) : exec (.ledDiagSlot shorts) s = execLedDiagSlot shorts s := rfl
@[simp] theorem exec_ledRestart (m : Master) (s : State) : exec (.ledRestart m) s = execLedRestart m s := rfl
@[simp] theorem exec_ldcRefresh (s : State) : exec (.ldcRefresh) s = execLdcRefresh s := rfl
@[simp] theorem exec_ldcTransferEnd (ret : Nat) (s : State) : exec (.ldcTransferEnd ret) s = execLdcTransferEnd ret s := rfl
@[simp] theorem exec_ldcFdataAccess (m : Master) (wr : Option Word) (s : State) : exec (.ldcFdataAccess m wr) s = execLdcFdataAccess m wr s := rfl
@[simp] theorem exec_slotArm (m : Master) (index : Nat) (v : Word) (devOk : Nat) (s : State) : exec (.slotArm m index v devOk) s = execSlotArm m index v devOk s := rfl
@[simp] theorem exec_triggerMatch (src : Nat) (idx : Nat) (edge : Nat) (s : State) : exec (.triggerMatch src idx edge) s = execTriggerMatch src idx edge s := rfl
@[simp] theorem exec_latchedSimmerStart (index : Nat) (s : State) : exec (.latchedSimmerStart index) s = execLatchedSimmerStart index s := rfl
@[simp] theorem exec_prepIssue (index : Nat) (n : Nat) (s : State) : exec (.prepIssue index n) s = execPrepIssue index n s := rfl
@[simp] theorem exec_ctxTrigger (m : Master) (index : Nat) (s : State) : exec (.ctxTrigger m index) s = execCtxTrigger m index s := rfl
@[simp] theorem exec_ctxConfirm (m : Master) (index : Nat) (s : State) : exec (.ctxConfirm m index) s = execCtxConfirm m index s := rfl
@[simp] theorem exec_ctxCancel (m : Master) (index : Nat) (s : State) : exec (.ctxCancel m index) s = execCtxCancel m index s := rfl
@[simp] theorem exec_commitApply (index : Nat) (s : State) : exec (.commitApply index) s = execCommitApply index s := rfl
@[simp] theorem exec_simmerDeadline (index : Nat) (s : State) : exec (.simmerDeadline index) s = execSimmerDeadline index s := rfl
@[simp] theorem exec_remoteSimmerStart (index : Nat) (ts : Nat) (s : State) : exec (.remoteSimmerStart index ts) s = execRemoteSimmerStart index ts s := rfl
@[simp] theorem exec_commitBroadcastReceive (index : Nat) (ta : Nat) (s : State) : exec (.commitBroadcastReceive index ta) s = execCommitBroadcastReceive index ta s := rfl
@[simp] theorem exec_commitAckTimeout (index : Nat) (s : State) : exec (.commitAckTimeout index) s = execCommitAckTimeout index s := rfl
@[simp] theorem exec_ferRun (m : Master) (g : Nat) (s : State) : exec (.ferRun m g) s = execFerRun m g s := rfl
@[simp] theorem exec_ferStopReq (m : Master) (g : Nat) (s : State) : exec (.ferStopReq m g) s = execFerStopReq m g s := rfl
@[simp] theorem exec_ferStartTick (g : Nat) (s : State) : exec (.ferStartTick g) s = execFerStartTick g s := rfl
@[simp] theorem exec_ferWordAct (g : Nat) (s : State) : exec (.ferWordAct g) s = execFerWordAct g s := rfl
@[simp] theorem exec_canFrameReceived (c : Nat) (f : CanFrame) (edge : Nat) (s : State) : exec (.canFrameReceived c f edge) s = execCanFrameReceived c f edge s := rfl
@[simp] theorem exec_canFrameSent (c : Nat) (edge : Nat) (s : State) : exec (.canFrameSent c edge) s = execCanFrameSent c edge s := rfl
@[simp] theorem exec_canFrameError (c : Nat) (kind : Nat) (fast : Bool) (te : Nat) (re : Nat) (s : State) : exec (.canFrameError c kind fast te re) s = execCanFrameError c kind fast te re s := rfl
@[simp] theorem exec_canTxReq (m : Master) (c : Nat) (v : Word) (s : State) : exec (.canTxReq m c v) s = execCanTxReq m c v s := rfl
@[simp] theorem exec_canTxAbort (m : Master) (c : Nat) (v : Word) (s : State) : exec (.canTxAbort m c v) s = execCanTxAbort m c v s := rfl
@[simp] theorem exec_canRxqRel (m : Master) (c : Nat) (q : Nat) (v : Word) (s : State) : exec (.canRxqRel m c q v) s = execCanRxqRel m c q v s := rfl
@[simp] theorem exec_canRxslotNewClear (m : Master) (c : Nat) (w : Nat) (v : Word) (s : State) : exec (.canRxslotNewClear m c w v) s = execCanRxslotNewClear m c w v s := rfl
@[simp] theorem exec_canTxtsPop (m : Master) (c : Nat) (s : State) : exec (.canTxtsPop m c) s = execCanTxtsPop m c s := rfl
@[simp] theorem exec_canBusoffRecovery (c : Nat) (s : State) : exec (.canBusoffRecovery c) s = execCanBusoffRecovery c s := rfl
@[simp] theorem exec_canTxdTimeout (t : Nat) (s : State) : exec (.canTxdTimeout t) s = execCanTxdTimeout t s := rfl
@[simp] theorem exec_canThermalShutdown (t : Nat) (s : State) : exec (.canThermalShutdown t) s = execCanThermalShutdown t s := rfl
@[simp] theorem exec_ctrxModeWrite (m : Master) (t : Nat) (v : Word) (s : State) : exec (.ctrxModeWrite m t v) s = execCtrxModeWrite m t v s := rfl
@[simp] theorem exec_schedStart (m : Master) (c : Nat) (s : State) : exec (.schedStart m c) s = execSchedStart m c s := rfl
@[simp] theorem exec_schedStop (m : Master) (c : Nat) (s : State) : exec (.schedStop m c) s = execSchedStop m c s := rfl
@[simp] theorem exec_awdServe (m : Master) (c : Nat) (s : State) : exec (.awdServe m c) s = execAwdServe m c s := rfl
@[simp] theorem exec_awdExpiry (c : Nat) (s : State) : exec (.awdExpiry c) s = execAwdExpiry c s := rfl
@[simp] theorem exec_timeMark (c : Nat) (e : Nat) (s : State) : exec (.timeMark c e) s = execTimeMark c e s := rfl
@[simp] theorem exec_referenceMessage (c : Nat) (f : CanFrame) (edge : Nat) (s : State) : exec (.referenceMessage c f edge) s = execReferenceMessage c f edge s := rfl
@[simp] theorem exec_linCmdRun (m : Master) (l : Nat) (s : State) : exec (.linCmdRun m l) s = execLinCmdRun m l s := rfl
@[simp] theorem exec_linCmdStop (m : Master) (l : Nat) (s : State) : exec (.linCmdStop m l) s = execLinCmdStop m l s := rfl
@[simp] theorem exec_linCmdSleep (m : Master) (l : Nat) (s : State) : exec (.linCmdSleep m l) s = execLinCmdSleep m l s := rfl
@[simp] theorem exec_linCmdWake (m : Master) (l : Nat) (s : State) : exec (.linCmdWake m l) s = execLinCmdWake m l s := rfl
@[simp] theorem exec_linSlotStart (l : Nat) (s : State) : exec (.linSlotStart l) s = execLinSlotStart l s := rfl
@[simp] theorem exec_linHeaderReceived (l : Nat) (id : Nat) (parity : Bool) (baud : Nat) (s : State) : exec (.linHeaderReceived l id parity baud) s = execLinHeaderReceived l id parity baud s := rfl
@[simp] theorem exec_linFrameEnd (l : Nat) (err : Nat) (ts : Nat) (data : List Byte) (s : State) : exec (.linFrameEnd l err ts data) s = execLinFrameEnd l err ts data s := rfl
@[simp] theorem exec_linNoResponse (l : Nat) (part : Bool) (ts : Nat) (s : State) : exec (.linNoResponse l part ts) s = execLinNoResponse l part ts s := rfl
@[simp] theorem exec_linBusIdle (l : Nat) (s : State) : exec (.linBusIdle l) s = execLinBusIdle l s := rfl
@[simp] theorem exec_linTxdTimeout (l : Nat) (s : State) : exec (.linTxdTimeout l) s = execLinTxdTimeout l s := rfl
@[simp] theorem exec_linBusWake (l : Nat) (s : State) : exec (.linBusWake l) s = execLinBusWake l s := rfl
@[simp] theorem exec_macKick (m : Master) (k : Nat) (s : State) : exec (.macKick m k) s = execMacKick m k s := rfl
@[simp] theorem exec_macFrameSent (k : Nat) (err : Nat) (ts : Nat) (tries : Nat) (s : State) : exec (.macFrameSent k err ts tries) s = execMacFrameSent k err ts tries s := rfl
@[simp] theorem exec_macFrameReceived (k : Nat) (err : Nat) (ts : Nat) (data : List Byte) (s : State) : exec (.macFrameReceived k err ts data) s = execMacFrameReceived k err ts data s := rfl
@[simp] theorem exec_mdioStart (m : Master) (v : Word) (s : State) : exec (.mdioStart m v) s = execMdioStart m v s := rfl
@[simp] theorem exec_mdioComplete (rdata : Nat) (s : State) : exec (.mdioComplete rdata) s = execMdioComplete rdata s := rfl
@[simp] theorem exec_plcaBeaconLost (s : State) : exec (.plcaBeaconLost) s = execPlcaBeaconLost s := rfl
@[simp] theorem exec_sampleCommit (m : Master) (tag : Nat) (s : State) : exec (.sampleCommit m tag) s = execSampleCommit m tag s := rfl
@[simp] theorem exec_acceptStep (m : Master) (s : State) : exec (.acceptStep m) s = execAcceptStep m s := rfl
@[simp] theorem exec_acceptRebase (m : Master) (s : State) : exec (.acceptRebase m) s = execAcceptRebase m s := rfl
@[simp] theorem exec_slewEnd (s : State) : exec (.slewEnd) s = execSlewEnd s := rfl
@[simp] theorem exec_sampleTimeout (s : State) : exec (.sampleTimeout) s = execSampleTimeout s := rfl
@[simp] theorem exec_holdoverExpiry (s : State) : exec (.holdoverExpiry) s = execHoldoverExpiry s := rfl
@[simp] theorem exec_ntSrcWrite (m : Master) (v : Word) (s : State) : exec (.ntSrcWrite m v) s = execNtSrcWrite m v s := rfl
@[simp] theorem exec_ntSecondPulse (s : State) : exec (.ntSecondPulse) s = execNtSecondPulse s := rfl
@[simp] theorem exec_canWakePattern (t : Nat) (s : State) : exec (.canWakePattern t) s = execCanWakePattern t s := rfl
@[simp] theorem exec_selectiveWakeFrame (t : Nat) (f : CanFrame) (s : State) : exec (.selectiveWakeFrame t f) s = execSelectiveWakeFrame t f s := rfl
@[simp] theorem exec_swkFrameError (t : Nat) (s : State) : exec (.swkFrameError t) s = execSwkFrameError t s := rfl
@[simp] theorem exec_swkDecoderTimeout (t : Nat) (s : State) : exec (.swkDecoderTimeout t) s = execSwkDecoderTimeout t s := rfl
@[simp] theorem exec_falseWakeWindowEnd (t : Nat) (s : State) : exec (.falseWakeWindowEnd t) s = execFalseWakeWindowEnd t s := rfl
@[simp] theorem exec_linFalseWakeWindowEnd (l : Nat) (s : State) : exec (.linFalseWakeWindowEnd l) s = execLinFalseWakeWindowEnd l s := rfl
@[simp] theorem exec_nmMessage (b : Nat) (f : CanFrame) (buf : Option Nat) (s : State) : exec (.nmMessage b f buf) s = execNmMessage b f buf s := rfl
@[simp] theorem exec_nmTimeout (b : Nat) (s : State) : exec (.nmTimeout b) s = execNmTimeout b s := rfl
@[simp] theorem exec_wbsExpiry (b : Nat) (s : State) : exec (.wbsExpiry b) s = execWbsExpiry b s := rfl
@[simp] theorem exec_needVoteWrite (m : Master) (b : Nat) (v : Word) (s : State) : exec (.needVoteWrite m b v) s = execNeedVoteWrite m b v s := rfl
@[simp] theorem exec_nmCycle (b : Nat) (s : State) : exec (.nmCycle b) s = execNmCycle b s := rfl
@[simp] theorem exec_nmCommit (m : Master) (v : Word) (s : State) : exec (.nmCommit m v) s = execNmCommit m v s := rfl
@[simp] theorem exec_deferLatch (t : Nat) (s : State) : exec (.deferLatch t) s = execDeferLatch t s := rfl
@[simp] theorem exec_deferRelease (m : Master) (s : State) : exec (.deferRelease m) s = execDeferRelease m s := rfl
@[simp] theorem exec_ceilExpiry (s : State) : exec (.ceilExpiry) s = execCeilExpiry s := rfl
@[simp] theorem exec_ceilRestart (m : Master) (s : State) : exec (.ceilRestart m) s = execCeilRestart m s := rfl
@[simp] theorem exec_keepClr (m : Master) (b : Nat) (s : State) : exec (.keepClr m b) s = execKeepClr m b s := rfl
@[simp] theorem exec_actTuneNow (m : Master) (s : State) : exec (.actTuneNow m) s = execActTuneNow m s := rfl
@[simp] theorem exec_tuningComplete (tune : Nat) (opn : Nat) (shorted : Nat) (s : State) : exec (.tuningComplete tune opn shorted) s = execTuningComplete tune opn shorted s := rfl
@[simp] theorem exec_lfShort (n : Nat) (s : State) : exec (.lfShort n) s = execLfShort n s := rfl
@[simp] theorem exec_lfOpen (n : Nat) (s : State) : exec (.lfOpen n) s = execLfOpen n s := rfl
@[simp] theorem exec_lfThermal (hot : Bool) (s : State) : exec (.lfThermal hot) s = execLfThermal hot s := rfl
@[simp] theorem exec_immoCmdGo (m : Master) (go : Nat) (mask : Nat) (s : State) : exec (.immoCmdGo m go mask) s = execImmoCmdGo m go mask s := rfl
@[simp] theorem exec_immoCmdAbort (m : Master) (s : State) : exec (.immoCmdAbort m) s = execImmoCmdAbort m s := rfl
@[simp] theorem exec_immoTpRead (m : Master) (s : State) : exec (.immoTpRead m) s = execImmoTpRead m s := rfl
@[simp] theorem exec_telegramEnd (sat : Nat) (s : State) : exec (.telegramEnd sat) s = execTelegramEnd sat s := rfl
@[simp] theorem exec_answerSlotClose (k : Nat) (viol : Bool) (resp : List Byte) (crc : List Byte) (s : State) : exec (.answerSlotClose k viol resp crc) s = execAnswerSlotClose k viol resp crc s := rfl
@[simp] theorem exec_immoVerdict (m : Master) (k : Nat) (valid : Bool) (s : State) : exec (.immoVerdict m k valid) s = execImmoVerdict m k valid s := rfl
@[simp] theorem exec_verifyTimeout (k : Nat) (s : State) : exec (.verifyTimeout k) s = execVerifyTimeout k s := rfl
@[simp] theorem exec_listeningEnd (s : State) : exec (.listeningEnd) s = execListeningEnd s := rfl
@[simp] theorem exec_repeatTelegram (s : State) : exec (.repeatTelegram) s = execRepeatTelegram s := rfl
@[simp] theorem exec_pendingExchangeStart (s : State) : exec (.pendingExchangeStart) s = execPendingExchangeStart s := rfl
@[simp] theorem exec_transponderEnd (viol : Bool) (head : List Byte) (resp : List Byte) (crc : List Byte) (s : State) : exec (.transponderEnd viol head resp crc) s = execTransponderEnd viol head resp crc s := rfl
@[simp] theorem exec_lfPoll (sat : Nat) (s : State) : exec (.lfPoll sat) s = execLfPoll sat s := rfl
@[simp] theorem exec_pollAnswer (head : Nat) (crc : Nat) (s : State) : exec (.pollAnswer head crc) s = execPollAnswer head crc s := rfl
@[simp] theorem exec_standingMinute (s : State) : exec (.standingMinute) s = execStandingMinute s := rfl
@[simp] theorem exec_actStandClr (m : Master) (s : State) : exec (.actStandClr m) s = execActStandClr m s := rfl
@[simp] theorem exec_relSend (m : Master) (s : State) : exec (.relSend m) s = execRelSend m s := rfl
@[simp] theorem exec_relRepeat (s : State) : exec (.relRepeat) s = execRelRepeat s := rfl
@[simp] theorem exec_relAck (s : State) : exec (.relAck) s = execRelAck s := rfl
@[simp] theorem exec_relGiveUp (s : State) : exec (.relGiveUp) s = execRelGiveUp s := rfl
@[simp] theorem exec_relStop (m : Master) (s : State) : exec (.relStop m) s = execRelStop m s := rfl
@[simp] theorem exec_ringSyncFrame (delta : Int) (int : Nat) (frac : Word) (dly : Nat) (hops : Nat) (tell : RingTell) (s : State) : exec (.ringSyncFrame delta int frac dly hops tell) s = execRingSyncFrame delta int frac dly hops tell s := rfl
@[simp] theorem exec_ringMasterStep (s : State) : exec (.ringMasterStep) s = execRingMasterStep s := rfl
@[simp] theorem exec_ringSyncTimeout (s : State) : exec (.ringSyncTimeout) s = execRingSyncTimeout s := rfl
@[simp] theorem exec_ringAlignment (a : Bool) (b : Bool) (broken : Bool) (s : State) : exec (.ringAlignment a b broken) s = execRingAlignment a b broken s := rfl
@[simp] theorem exec_bypassOpen (s : State) : exec (.bypassOpen) s = execBypassOpen s := rfl
@[simp] theorem exec_ringStatus (d : Nat) (limp : Nat) (low : Bool) (derating : Bool) (p0 : Bool) (locked : Bool) (total : Nat) (ups : Nat) (ahead : Nat) (share : RingShare) (s : State) : exec (.ringStatus d limp low derating p0 locked total ups ahead share) s = execRingStatus d limp low derating p0 locked total ups ahead share s := rfl
@[simp] theorem exec_ringStatusTimeout (d : Nat) (s : State) : exec (.ringStatusTimeout d) s = execRingStatusTimeout d s := rfl
@[simp] theorem exec_ringBreak (d : Nat) (port : Nat) (s : State) : exec (.ringBreak d port) s = execRingBreak d port s := rfl
@[simp] theorem exec_ringBrokenClear (s : State) : exec (.ringBrokenClear) s = execRingBrokenClear s := rfl
@[simp] theorem exec_ringWakePattern (s : State) : exec (.ringWakePattern) s = execRingWakePattern s := rfl
@[simp] theorem exec_ringWakeFrame (d : Nat) (s : State) : exec (.ringWakeFrame d) s = execRingWakeFrame d s := rfl
@[simp] theorem exec_ringIrqForward (d : Nat) (page : Nat) (s : State) : exec (.ringIrqForward d page) s = execRingIrqForward d page s := rfl
@[simp] theorem exec_ringFwdRead (m : Master) (s : State) : exec (.ringFwdRead m) s = execRingFwdRead m s := rfl
@[simp] theorem exec_sharedGateForward (d : Nat) (page : Nat) (chan : Nat) (rank : Nat) (x : Nat) (h : Nat) (prio : Nat) (t : Nat) (s : State) : exec (.sharedGateForward d page chan rank x h prio t) s = execSharedGateForward d page chan rank x h prio t s := rfl
@[simp] theorem exec_sharedAdmissionApply (page : Nat) (chan : Nat) (ok : Bool) (s : State) : exec (.sharedAdmissionApply page chan ok) s = execSharedAdmissionApply page chan ok s := rfl
@[simp] theorem exec_interruptEntry (c : Nat) (s : State) : exec (.interruptEntry c) s = execInterruptEntry c s := rfl
@[simp] theorem exec_haltResume (c : Nat) (s : State) : exec (.haltResume c) s = execHaltResume c s := rfl
@[simp] theorem exec_resultLanding (c : Nat) (s : State) : exec (.resultLanding c) s = execResultLanding c s := rfl
@[simp] theorem exec_iIll (c : Nat) (s : State) : exec (.iIll c) s = execIIll c s := rfl
@[simp] theorem exec_iAdd (c : Nat) (rd : Nat) (ra : Nat) (rb : Nat) (s : State) : exec (.iAdd c rd ra rb) s = execIAdd c rd ra rb s := rfl
@[simp] theorem exec_iSub (c : Nat) (rd : Nat) (ra : Nat) (rb : Nat) (s : State) : exec (.iSub c rd ra rb) s = execISub c rd ra rb s := rfl
@[simp] theorem exec_iAnd (c : Nat) (rd : Nat) (ra : Nat) (rb : Nat) (s : State) : exec (.iAnd c rd ra rb) s = execIAnd c rd ra rb s := rfl
@[simp] theorem exec_iOr (c : Nat) (rd : Nat) (ra : Nat) (rb : Nat) (s : State) : exec (.iOr c rd ra rb) s = execIOr c rd ra rb s := rfl
@[simp] theorem exec_iXor (c : Nat) (rd : Nat) (ra : Nat) (rb : Nat) (s : State) : exec (.iXor c rd ra rb) s = execIXor c rd ra rb s := rfl
@[simp] theorem exec_iNor (c : Nat) (rd : Nat) (ra : Nat) (rb : Nat) (s : State) : exec (.iNor c rd ra rb) s = execINor c rd ra rb s := rfl
@[simp] theorem exec_iSll (c : Nat) (rd : Nat) (ra : Nat) (rb : Nat) (s : State) : exec (.iSll c rd ra rb) s = execISll c rd ra rb s := rfl
@[simp] theorem exec_iSrl (c : Nat) (rd : Nat) (ra : Nat) (rb : Nat) (s : State) : exec (.iSrl c rd ra rb) s = execISrl c rd ra rb s := rfl
@[simp] theorem exec_iSra (c : Nat) (rd : Nat) (ra : Nat) (rb : Nat) (s : State) : exec (.iSra c rd ra rb) s = execISra c rd ra rb s := rfl
@[simp] theorem exec_iSlli (c : Nat) (rd : Nat) (ra : Nat) (sh : Nat) (s : State) : exec (.iSlli c rd ra sh) s = execISlli c rd ra sh s := rfl
@[simp] theorem exec_iSrli (c : Nat) (rd : Nat) (ra : Nat) (sh : Nat) (s : State) : exec (.iSrli c rd ra sh) s = execISrli c rd ra sh s := rfl
@[simp] theorem exec_iSrai (c : Nat) (rd : Nat) (ra : Nat) (sh : Nat) (s : State) : exec (.iSrai c rd ra sh) s = execISrai c rd ra sh s := rfl
@[simp] theorem exec_iMin (c : Nat) (rd : Nat) (ra : Nat) (rb : Nat) (s : State) : exec (.iMin c rd ra rb) s = execIMin c rd ra rb s := rfl
@[simp] theorem exec_iMax (c : Nat) (rd : Nat) (ra : Nat) (rb : Nat) (s : State) : exec (.iMax c rd ra rb) s = execIMax c rd ra rb s := rfl
@[simp] theorem exec_iMinu (c : Nat) (rd : Nat) (ra : Nat) (rb : Nat) (s : State) : exec (.iMinu c rd ra rb) s = execIMinu c rd ra rb s := rfl
@[simp] theorem exec_iMaxu (c : Nat) (rd : Nat) (ra : Nat) (rb : Nat) (s : State) : exec (.iMaxu c rd ra rb) s = execIMaxu c rd ra rb s := rfl
@[simp] theorem exec_iClz (c : Nat) (rd : Nat) (ra : Nat) (s : State) : exec (.iClz c rd ra) s = execIClz c rd ra s := rfl
@[simp] theorem exec_iBswap (c : Nat) (rd : Nat) (ra : Nat) (s : State) : exec (.iBswap c rd ra) s = execIBswap c rd ra s := rfl
@[simp] theorem exec_iAdds (c : Nat) (rd : Nat) (ra : Nat) (rb : Nat) (s : State) : exec (.iAdds c rd ra rb) s = execIAdds c rd ra rb s := rfl
@[simp] theorem exec_iSubs (c : Nat) (rd : Nat) (ra : Nat) (rb : Nat) (s : State) : exec (.iSubs c rd ra rb) s = execISubs c rd ra rb s := rfl
@[simp] theorem exec_iMul (c : Nat) (rd : Nat) (ra : Nat) (rb : Nat) (s : State) : exec (.iMul c rd ra rb) s = execIMul c rd ra rb s := rfl
@[simp] theorem exec_iMulh (c : Nat) (rd : Nat) (ra : Nat) (rb : Nat) (s : State) : exec (.iMulh c rd ra rb) s = execIMulh c rd ra rb s := rfl
@[simp] theorem exec_iMulhu (c : Nat) (rd : Nat) (ra : Nat) (rb : Nat) (s : State) : exec (.iMulhu c rd ra rb) s = execIMulhu c rd ra rb s := rfl
@[simp] theorem exec_iMac (c : Nat) (rd : Nat) (ra : Nat) (rb : Nat) (s : State) : exec (.iMac c rd ra rb) s = execIMac c rd ra rb s := rfl
@[simp] theorem exec_iDiv (c : Nat) (rd : Nat) (ra : Nat) (rb : Nat) (s : State) : exec (.iDiv c rd ra rb) s = execIDiv c rd ra rb s := rfl
@[simp] theorem exec_iDivu (c : Nat) (rd : Nat) (ra : Nat) (rb : Nat) (s : State) : exec (.iDivu c rd ra rb) s = execIDivu c rd ra rb s := rfl
@[simp] theorem exec_iRem (c : Nat) (rd : Nat) (ra : Nat) (rb : Nat) (s : State) : exec (.iRem c rd ra rb) s = execIRem c rd ra rb s := rfl
@[simp] theorem exec_iRemu (c : Nat) (rd : Nat) (ra : Nat) (rb : Nat) (s : State) : exec (.iRemu c rd ra rb) s = execIRemu c rd ra rb s := rfl
@[simp] theorem exec_iCeq (c : Nat) (rd : Nat) (ra : Nat) (rb : Nat) (s : State) : exec (.iCeq c rd ra rb) s = execICeq c rd ra rb s := rfl
@[simp] theorem exec_iCne (c : Nat) (rd : Nat) (ra : Nat) (rb : Nat) (s : State) : exec (.iCne c rd ra rb) s = execICne c rd ra rb s := rfl
@[simp] theorem exec_iClt (c : Nat) (rd : Nat) (ra : Nat) (rb : Nat) (s : State) : exec (.iClt c rd ra rb) s = execIClt c rd ra rb s := rfl
@[simp] theorem exec_iCltu (c : Nat) (rd : Nat) (ra : Nat) (rb : Nat) (s : State) : exec (.iCltu c rd ra rb) s = execICltu c rd ra rb s := rfl
@[simp] theorem exec_iCle (c : Nat) (rd : Nat) (ra : Nat) (rb : Nat) (s : State) : exec (.iCle c rd ra rb) s = execICle c rd ra rb s := rfl
@[simp] theorem exec_iCleu (c : Nat) (rd : Nat) (ra : Nat) (rb : Nat) (s : State) : exec (.iCleu c rd ra rb) s = execICleu c rd ra rb s := rfl
@[simp] theorem exec_iSel (c : Nat) (rd : Nat) (ra : Nat) (rb : Nat) (rc : Nat) (s : State) : exec (.iSel c rd ra rb rc) s = execISel c rd ra rb rc s := rfl
@[simp] theorem exec_iAddi (c : Nat) (rd : Nat) (ra : Nat) (imm : Nat) (s : State) : exec (.iAddi c rd ra imm) s = execIAddi c rd ra imm s := rfl
@[simp] theorem exec_iAndi (c : Nat) (rd : Nat) (ra : Nat) (imm : Nat) (s : State) : exec (.iAndi c rd ra imm) s = execIAndi c rd ra imm s := rfl
@[simp] theorem exec_iOri (c : Nat) (rd : Nat) (ra : Nat) (imm : Nat) (s : State) : exec (.iOri c rd ra imm) s = execIOri c rd ra imm s := rfl
@[simp] theorem exec_iXori (c : Nat) (rd : Nat) (ra : Nat) (imm : Nat) (s : State) : exec (.iXori c rd ra imm) s = execIXori c rd ra imm s := rfl
@[simp] theorem exec_iLui (c : Nat) (rd : Nat) (imm : Nat) (s : State) : exec (.iLui c rd imm) s = execILui c rd imm s := rfl
@[simp] theorem exec_iClti (c : Nat) (rd : Nat) (ra : Nat) (imm : Nat) (s : State) : exec (.iClti c rd ra imm) s = execIClti c rd ra imm s := rfl
@[simp] theorem exec_iCltiu (c : Nat) (rd : Nat) (ra : Nat) (imm : Nat) (s : State) : exec (.iCltiu c rd ra imm) s = execICltiu c rd ra imm s := rfl
@[simp] theorem exec_iCeqi (c : Nat) (rd : Nat) (ra : Nat) (imm : Nat) (s : State) : exec (.iCeqi c rd ra imm) s = execICeqi c rd ra imm s := rfl
@[simp] theorem exec_iLdw (c : Nat) (rd : Nat) (ra : Nat) (imm : Nat) (s : State) : exec (.iLdw c rd ra imm) s = execILdw c rd ra imm s := rfl
@[simp] theorem exec_iLdh (c : Nat) (rd : Nat) (ra : Nat) (imm : Nat) (s : State) : exec (.iLdh c rd ra imm) s = execILdh c rd ra imm s := rfl
@[simp] theorem exec_iLdhu (c : Nat) (rd : Nat) (ra : Nat) (imm : Nat) (s : State) : exec (.iLdhu c rd ra imm) s = execILdhu c rd ra imm s := rfl
@[simp] theorem exec_iLdb (c : Nat) (rd : Nat) (ra : Nat) (imm : Nat) (s : State) : exec (.iLdb c rd ra imm) s = execILdb c rd ra imm s := rfl
@[simp] theorem exec_iLdbu (c : Nat) (rd : Nat) (ra : Nat) (imm : Nat) (s : State) : exec (.iLdbu c rd ra imm) s = execILdbu c rd ra imm s := rfl
@[simp] theorem exec_iStw (c : Nat) (rs : Nat) (ra : Nat) (imm : Nat) (s : State) : exec (.iStw c rs ra imm) s = execIStw c rs ra imm s := rfl
@[simp] theorem exec_iSth (c : Nat) (rs : Nat) (ra : Nat) (imm : Nat) (s : State) : exec (.iSth c rs ra imm) s = execISth c rs ra imm s := rfl
@[simp] theorem exec_iStb (c : Nat) (rs : Nat) (ra : Nat) (imm : Nat) (s : State) : exec (.iStb c rs ra imm) s = execIStb c rs ra imm s := rfl
@[simp] theorem exec_iLdwp (c : Nat) (rd : Nat) (ra : Nat) (imm : Nat) (s : State) : exec (.iLdwp c rd ra imm) s = execILdwp c rd ra imm s := rfl
@[simp] theorem exec_iStwp (c : Nat) (rs : Nat) (ra : Nat) (imm : Nat) (s : State) : exec (.iStwp c rs ra imm) s = execIStwp c rs ra imm s := rfl
@[simp] theorem exec_iSwp (c : Nat) (rd : Nat) (ra : Nat) (rb : Nat) (s : State) : exec (.iSwp c rd ra rb) s = execISwp c rd ra rb s := rfl
@[simp] theorem exec_iIn (c : Nat) (rd : Nat) (ra : Nat) (imm : Nat) (kind : Nat) (ans : Word) (s : State) : exec (.iIn c rd ra imm kind ans) s = execIIn c rd ra imm kind ans s := rfl
@[simp] theorem exec_iOut (c : Nat) (rs : Nat) (ra : Nat) (imm : Nat) (kind : Nat) (s : State) : exec (.iOut c rs ra imm kind) s = execIOut c rs ra imm kind s := rfl
@[simp] theorem exec_iInp (c : Nat) (rd : Nat) (ra : Nat) (imm : Nat) (kind : Nat) (ans : Word) (s : State) : exec (.iInp c rd ra imm kind ans) s = execIInp c rd ra imm kind ans s := rfl
@[simp] theorem exec_iOutp (c : Nat) (rs : Nat) (ra : Nat) (imm : Nat) (kind : Nat) (s : State) : exec (.iOutp c rs ra imm kind) s = execIOutp c rs ra imm kind s := rfl
@[simp] theorem exec_iBz (c : Nat) (rc : Nat) (off : Nat) (s : State) : exec (.iBz c rc off) s = execIBz c rc off s := rfl
@[simp] theorem exec_iBnz (c : Nat) (rc : Nat) (off : Nat) (s : State) : exec (.iBnz c rc off) s = execIBnz c rc off s := rfl
@[simp] theorem exec_iJump (c : Nat) (off : Nat) (s : State) : exec (.iJump c off) s = execIJump c off s := rfl
@[simp] theorem exec_iCall (c : Nat) (off : Nat) (s : State) : exec (.iCall c off) s = execICall c off s := rfl
@[simp] theorem exec_iJr (c : Nat) (ra : Nat) (s : State) : exec (.iJr c ra) s = execIJr c ra s := rfl
@[simp] theorem exec_iCallr (c : Nat) (ra : Nat) (s : State) : exec (.iCallr c ra) s = execICallr c ra s := rfl
@[simp] theorem exec_iRet (c : Nat) (s : State) : exec (.iRet c) s = execIRet c s := rfl
@[simp] theorem exec_iReti (c : Nat) (s : State) : exec (.iReti c) s = execIReti c s := rfl
@[simp] theorem exec_iLoop (c : Nat) (lvl : Nat) (ra : Nat) (len : Nat) (s : State) : exec (.iLoop c lvl ra len) s = execILoop c lvl ra len s := rfl
@[simp] theorem exec_iLoopi (c : Nat) (lvl : Nat) (count : Nat) (len : Nat) (s : State) : exec (.iLoopi c lvl count len) s = execILoopi c lvl count len s := rfl
@[simp] theorem exec_iLbrk (c : Nat) (lvl : Nat) (s : State) : exec (.iLbrk c lvl) s = execILbrk c lvl s := rfl
@[simp] theorem exec_iRep (c : Nat) (ok : Bool) (s : State) : exec (.iRep c ok) s = execIRep c ok s := rfl
@[simp] theorem exec_iMfc (c : Nat) (rd : Nat) (idx : Nat) (s : State) : exec (.iMfc c rd idx) s = execIMfc c rd idx s := rfl
@[simp] theorem exec_iMtc (c : Nat) (ra : Nat) (idx : Nat) (s : State) : exec (.iMtc c ra idx) s = execIMtc c ra idx s := rfl
@[simp] theorem exec_iSys (c : Nat) (imm : Nat) (s : State) : exec (.iSys c imm) s = execISys c imm s := rfl
@[simp] theorem exec_iBrk (c : Nat) (imm : Nat) (s : State) : exec (.iBrk c imm) s = execIBrk c imm s := rfl
@[simp] theorem exec_iHalt (c : Nat) (s : State) : exec (.iHalt c) s = execIHalt c s := rfl
@[simp] theorem exec_iSpill (c : Nat) (s : State) : exec (.iSpill c) s = execISpill c s := rfl
@[simp] theorem exec_iFill (c : Nat) (s : State) : exec (.iFill c) s = execIFill c s := rfl
@[simp] theorem exec_reservedEncoding (c : Nat) (s : State) : exec (.reservedEncoding c) s = execReservedEncoding c s := rfl
@[simp] theorem exec_mboxPush (m : Master) (b : Nat) (v : Word) (s : State) : exec (.mboxPush m b v) s = execMboxPush m b v s := rfl
@[simp] theorem exec_mboxPop (m : Master) (b : Nat) (s : State) : exec (.mboxPop m b) s = execMboxPop m b s := rfl
@[simp] theorem exec_irqSoftSet (m : Master) (c : Nat) (hi : Bool) (v : Word) (s : State) : exec (.irqSoftSet m c hi v) s = execIrqSoftSet m c hi v s := rfl
@[simp] theorem exec_irqSoftClr (m : Master) (c : Nat) (hi : Bool) (v : Word) (s : State) : exec (.irqSoftClr m c hi v) s = execIrqSoftClr m c hi v s := rfl
@[simp] theorem exec_wbufWrite (m : Master) (j : Nat) (v : Word) (s : State) : exec (.wbufWrite m j v) s = execWbufWrite m j v s := rfl
@[simp] theorem exec_wcmd (m : Master) (page : Nat) (off : Nat) (len : Nat) (s : State) : exec (.wcmd m page off len) s = execWcmd m page off len s := rfl
@[simp] theorem exec_wbufRel (m : Master) (s : State) : exec (.wbufRel m) s = execWbufRel m s := rfl
@[simp] theorem exec_pageWriteStart (s : State) : exec (.pageWriteStart) s = execPageWriteStart s := rfl
@[simp] theorem exec_pageWriteComplete (s : State) : exec (.pageWriteComplete) s = execPageWriteComplete s := rfl
@[simp] theorem exec_lowvWaitExpiry (s : State) : exec (.lowvWaitExpiry) s = execLowvWaitExpiry s := rfl
@[simp] theorem exec_protWrite (m : Master) (bp : Nat) (s : State) : exec (.protWrite m bp) s = execProtWrite m bp s := rfl
@[simp] theorem exec_pwPresent (m : Master) (part : Nat) (kind : Bool) (s : State) : exec (.pwPresent m part kind) s = execPwPresent m part kind s := rfl
@[simp] theorem exec_pwChange (m : Master) (part : Nat) (kind : Bool) (s : State) : exec (.pwChange m part kind) s = execPwChange m part kind s := rfl
@[simp] theorem exec_pwClose (m : Master) (part : Nat) (kind : Bool) (s : State) : exec (.pwClose m part kind) s = execPwClose m part kind s := rfl
@[simp] theorem exec_lockoutEnd (part : Nat) (s : State) : exec (.lockoutEnd part) s = execLockoutEnd part s := rfl
@[simp] theorem exec_recRead (m : Master) (k : Nat) (s : State) : exec (.recRead m k) s = execRecRead m k s := rfl
@[simp] theorem exec_recWrite (m : Master) (k : Nat) (s : State) : exec (.recWrite m k) s = execRecWrite m k s := rfl
@[simp] theorem exec_cntRead (m : Master) (k : Nat) (s : State) : exec (.cntRead m k) s = execCntRead m k s := rfl
@[simp] theorem exec_cntInc (m : Master) (k : Nat) (s : State) : exec (.cntInc m k) s = execCntInc m k s := rfl
@[simp] theorem exec_cntRaise (m : Master) (k : Nat) (s : State) : exec (.cntRaise m k) s = execCntRaise m k s := rfl
@[simp] theorem exec_cntClear (m : Master) (k : Nat) (s : State) : exec (.cntClear m k) s = execCntClear m k s := rfl
@[simp] theorem exec_recErase (m : Master) (k : Nat) (s : State) : exec (.recErase m k) s = execRecErase m k s := rfl
@[simp] theorem exec_recCommandDone (k : Nat) (s : State) : exec (.recCommandDone k) s = execRecCommandDone k s := rfl
@[simp] theorem exec_skimMarginRead (weak : List Nat) (ue : List Nat) (corr : Nat) (s : State) : exec (.skimMarginRead weak ue corr) s = execSkimMarginRead weak ue corr s := rfl
@[simp] theorem exec_skimRefresh (s : State) : exec (.skimRefresh) s = execSkimRefresh s := rfl
@[simp] theorem exec_hkRomBoot (s : State) : exec (.hkRomBoot) s = execHkRomBoot s := rfl
@[simp] theorem exec_coreReload (c : Nat) (s : State) : exec (.coreReload c) s = execCoreReload c s := rfl
@[simp] theorem exec_updStart (m : Master) (slot : Bool) (s : State) : exec (.updStart m slot) s = execUpdStart m slot s := rfl
@[simp] theorem exec_updFinish (m : Master) (slot : Bool) (s : State) : exec (.updFinish m slot) s = execUpdFinish m slot s := rfl
@[simp] theorem exec_updAbort (m : Master) (slot : Bool) (s : State) : exec (.updAbort m slot) s = execUpdAbort m slot s := rfl
@[simp] theorem exec_imageQuarterWrite (a : Nat) (l : List Word) (s : State) : exec (.imageQuarterWrite a l) s = execImageQuarterWrite a l s := rfl
@[simp] theorem exec_imageBlockProgrammed (b : Nat) (s : State) : exec (.imageBlockProgrammed b) s = execImageBlockProgrammed b s := rfl
@[simp] theorem exec_digestVerifyComplete (s : State) : exec (.digestVerifyComplete) s = execDigestVerifyComplete s := rfl
@[simp] theorem exec_chgTrialNext (m : Master) (s : State) : exec (.chgTrialNext m) s = execChgTrialNext m s := rfl
@[simp] theorem exec_chgHoldAll (m : Master) (s : State) : exec (.chgHoldAll m) s = execChgHoldAll m s := rfl
@[simp] theorem exec_chgReload (m : Master) (v : Nat) (s : State) : exec (.chgReload m v) s = execChgReload m v s := rfl
@[simp] theorem exec_chgReady (m : Master) (v : Nat) (s : State) : exec (.chgReady m v) s = execChgReady m v s := rfl
@[simp] theorem exec_chgSwitch (m : Master) (s : State) : exec (.chgSwitch m) s = execChgSwitch m s := rfl
@[simp] theorem exec_chgReleaseAll (m : Master) (s : State) : exec (.chgReleaseAll m) s = execChgReleaseAll m s := rfl
@[simp] theorem exec_chgHealthOk (m : Master) (s : State) : exec (.chgHealthOk m) s = execChgHealthOk m s := rfl
@[simp] theorem exec_chgRestart (m : Master) (s : State) : exec (.chgRestart m) s = execChgRestart m s := rfl
@[simp] theorem exec_chgHoldExpiry (s : State) : exec (.chgHoldExpiry) s = execChgHoldExpiry s := rfl
@[simp] theorem exec_healthWindowExpiry (s : State) : exec (.healthWindowExpiry) s = execHealthWindowExpiry s := rfl
@[simp] theorem exec_rootProgram (m : Master) (r : Nat) (ok : Bool) (s : State) : exec (.rootProgram m r ok) s = execRootProgram m r ok s := rfl
@[simp] theorem exec_rootSeal (m : Master) (ok : Bool) (s : State) : exec (.rootSeal m ok) s = execRootSeal m ok s := rfl
@[simp] theorem exec_rootReturn (m : Master) (ok : Bool) (s : State) : exec (.rootReturn m ok) s = execRootReturn m ok s := rfl
@[simp] theorem exec_attGo (m : Master) (s : State) : exec (.attGo m) s = execAttGo m s := rfl
@[simp] theorem exec_attReportDone (t : Nat) (s : State) : exec (.attReportDone t) s = execAttReportDone t s := rfl
@[simp] theorem exec_spiFrame (words : List Word) (extra : Nat) (wins : List (Nat × Nat)) (s : State) : exec (.spiFrame words extra wins) s = execSpiFrame words extra wins s := rfl
@[simp] theorem exec_udpRequest (k : Nat) (dst : Word) (src : Word) (port : Nat) (dport : Nat) (plain : Bool) (sum : Bool) (words : List Word) (wins : List (Nat × Nat)) (s : State) : exec (.udpRequest k dst src port dport plain sum words wins) s = execUdpRequest k dst src port dport plain sum words wins s := rfl
@[simp] theorem exec_ringHostRequest (words : List Word) (s : State) : exec (.ringHostRequest words) s = execRingHostRequest words s := rfl
@[simp] theorem exec_ringRequestTimeout (s : State) : exec (.ringRequestTimeout) s = execRingRequestTimeout s := rfl
@[simp] theorem exec_hostNop (tag : Nat) (s : State) : exec (.hostNop tag) s = execHostNop tag s := rfl
@[simp] theorem exec_hostRead (tag : Nat) (count : Nat) (space : Nat) (addr : Word) (wins : List (Nat × Nat)) (s : State) : exec (.hostRead tag count space addr wins) s = execHostRead tag count space addr wins s := rfl
@[simp] theorem exec_hostWrite (tag : Nat) (count : Nat) (space : Nat) (addr : Word) (words : List Word) (wins : List (Nat × Nat)) (s : State) : exec (.hostWrite tag count space addr words wins) s = execHostWrite tag count space addr words wins s := rfl
@[simp] theorem exec_hostReadFix (tag : Nat) (count : Nat) (space : Nat) (addr : Word) (wins : List (Nat × Nat)) (s : State) : exec (.hostReadFix tag count space addr wins) s = execHostReadFix tag count space addr wins s := rfl
@[simp] theorem exec_hostWriteFix (tag : Nat) (count : Nat) (space : Nat) (addr : Word) (words : List Word) (wins : List (Nat × Nat)) (s : State) : exec (.hostWriteFix tag count space addr words wins) s = execHostWriteFix tag count space addr words wins s := rfl
@[simp] theorem exec_monRead (space : Nat) (addr : Word) (n : Nat) (wins : List (Nat × Nat)) (s : State) : exec (.monRead space addr n wins) s = execMonRead space addr n wins s := rfl
@[simp] theorem exec_monWrite (space : Nat) (addr : Word) (words : List Word) (wins : List (Nat × Nat)) (s : State) : exec (.monWrite space addr words wins) s = execMonWrite space addr words wins s := rfl
@[simp] theorem exec_monDump (space : Nat) (addr : Word) (n : Nat) (wins : List (Nat × Nat)) (s : State) : exec (.monDump space addr n wins) s = execMonDump space addr n wins s := rfl
@[simp] theorem exec_monBlockLoad (space : Nat) (addr : Word) (words : List Word) (crc : Word) (s : State) : exec (.monBlockLoad space addr words crc) s = execMonBlockLoad space addr words crc s := rfl
@[simp] theorem exec_monHalt (c : Nat) (s : State) : exec (.monHalt c) s = execMonHalt c s := rfl
@[simp] theorem exec_monStep (c : Nat) (n : Nat) (s : State) : exec (.monStep c n) s = execMonStep c n s := rfl
@[simp] theorem exec_monResume (c : Nat) (s : State) : exec (.monResume c) s = execMonResume c s := rfl
@[simp] theorem exec_monEndDebug (c : Nat) (s : State) : exec (.monEndDebug c) s = execMonEndDebug c s := rfl
@[simp] theorem exec_monPrintState (c : Nat) (s : State) : exec (.monPrintState c) s = execMonPrintState c s := rfl
@[simp] theorem exec_monPrintLog (s : State) : exec (.monPrintLog) s = execMonPrintLog s := rfl
@[simp] theorem exec_monSetRate (r : Nat) (s : State) : exec (.monSetRate r) s = execMonSetRate r s := rfl
@[simp] theorem exec_monChallenge (s : State) : exec (.monChallenge) s = execMonChallenge s := rfl
@[simp] theorem exec_monAnswer (slot : Nat) (sig : List Byte) (s : State) : exec (.monAnswer slot sig) s = execMonAnswer slot sig s := rfl
@[simp] theorem exec_monClose (s : State) : exec (.monClose) s = execMonClose s := rfl
@[simp] theorem exec_eccFill (m : Master) (s : State) : exec (.eccFill m) s = execEccFill m s := rfl
@[simp] theorem exec_scrubStep (m : Nat) (c : Nat) (a : Nat) (cols : List Nat) (last : Bool) (s : State) : exec (.scrubStep m c a cols last) s = execScrubStep m c a cols last s := rfl
@[simp] theorem exec_logDeltaWrite (m : Master) (index : Nat) (v : Word) (s : State) : exec (.logDeltaWrite m index v) s = execLogDeltaWrite m index v s := rfl
@[simp] theorem exec_logMinuteTick (hot : Int) (s : State) : exec (.logMinuteTick hot) s = execLogMinuteTick hot s := rfl
@[simp] theorem exec_resetNFall (s : State) : exec (.resetNFall) s = execResetNFall s := rfl
@[simp] theorem exec_uncertSaturation (s : State) : exec (.uncertSaturation) s = execUncertSaturation s := rfl
@[simp] theorem exec_limitationEnd (u : Stage) (we : Nat) (s : State) : exec (.limitationEnd u we) s = execLimitationEnd u we s := rfl
@[simp] theorem exec_swiRawChange (n : Nat) (level : Bool) (s : State) : exec (.swiRawChange n level) s = execSwiRawChange n level s := rfl
@[simp] theorem exec_lfPollEnd (s : State) : exec (.lfPollEnd) s = execLfPollEnd s := rfl
@[simp] theorem exec_commitAcknowledgement (index : Nat) (d : Nat) (s : State) : exec (.commitAcknowledgement index d) s = execCommitAcknowledgement index d s := rfl
@[simp] theorem exec_canThermalRecovery (t : Nat) (s : State) : exec (.canThermalRecovery t) s = execCanThermalRecovery t s := rfl
@[simp] theorem exec_canBusDominantTimeout (t : Nat) (s : State) : exec (.canBusDominantTimeout t) s = execCanBusDominantTimeout t s := rfl
@[simp] theorem exec_vcc5RegulationChange (low : Bool) (s : State) : exec (.vcc5RegulationChange low) s = execVcc5RegulationChange low s := rfl
@[simp] theorem exec_canIntegrationComplete (c : Nat) (s : State) : exec (.canIntegrationComplete c) s = execCanIntegrationComplete c s := rfl
@[simp] theorem exec_plcaBeaconSeen (s : State) : exec (.plcaBeaconSeen) s = execPlcaBeaconSeen s := rfl

end Sys2Proof.Machine
end

