-- ==== Sys2Proof/WellFormed.lean ====
section
/-! DEFINITION. Which commands are well formed: every operand lies in the range its rule gives it (pages of R60, word
offsets of R61, instances of each kind, masters of R74). -/

namespace Sys2Proof

/-- A word offset of a 4 KiB page (R57, R61). -/
def offOk (o : Nat) : Bool := o < 4096 && o % 4 == 0

/-- Whether a command names only units, pages and codes that the KV1 has. -/
def Instr.wf : Instr → Bool
  | .powerUp _ => true
  | .limpMapRead => true
  | .totalPowerLoss => true
  | .undervoltage => true
  | .vbatLowChange _ => true
  | .vbatOvChange _ => true
  | .reverseBattery _ => true
  | .resetNRise => true
  | .resetNLongLow => true
  | .limpInputChange n _ => n < 4
  | .limpHomeStart => true
  | .vbatMeasurement vbat vfld => vbat < 65536 && vfld < 65536
  | .vfldUvChange _ => true
  | .registerWrite m page off _ => m.ok && page < 160 && offOk off
  | .ctrlEnClear m page => m.ok && page < 160
  | .ctrlEnSet m page => m.ok && page < 160
  | .drainComplete page => page < 160
  | .ctrlSrst m page => m.ok && page < 160
  | .ctrlHoldSet m page => m.ok && page < 160
  | .ctrlHoldClear m page => m.ok && page < 160
  | .shadowApplyComplete page => page < 160
  | .shadowWrite m page off _ => m.ok && page < 160 && offOk off
  | .lockkeyWrite m page _ => m.ok && page < 160
  | .irqSetWrite m page _ => m.ok && page < 160
  | .irqRawClear m page _ _ => m.ok && page < 160
  | .unmappedAccess m _ _ => m.ok
  | .domainOffAccess m page off _ => m.ok && page < 160 && offOk off
  | .stallTimeout m => m.ok
  | .satelliteWindowAccess m d p off _ kind _ => m.ok && d < 7 && p < 160 && offOk off && kind < 7
  | .windowTimeout m => m.ok
  | .xtalFail => true
  | .pllLockLoss => true
  | .pllRelockTimeout => true
  | .refSelWrite m _ => m.ok
  | .clockFreezeEnd => true
  | .lfXtalFail => true
  | .clockRestartComplete => true
  | .tbHandoverToLf => true
  | .tbHandoverToCclk => true
  | .lfincTrim => true
  | .incIntWrite m _ => m.ok
  | .residApply m => m.ok
  | .uncertClr m => m.ok
  | .cmpHiWrite m g _ => m.ok && g < 64
  | .cmpModeWrite m g mode => m.ok && g < 64 && mode < 4
  | .compareFire g => g < 64
  | .capture g src _ => g < 64 && src < 256
  | .cascCount k src _ => k < 16 && src < 256
  | .cascCarry k => k < 16
  | .cascCntWrite m k _ => m.ok && k < 16
  | .pwrOrder n order _ => n < 12 && order < 4
  | .pwrOrderRequest m n order => m.ok && n < 12 && order < 4
  | .pwrReqRead m => m.ok
  | .domainEntryComplete n => n < 12
  | .domainPowerUpAdmit n => n < 12
  | .domainPowerUpComplete n => n < 12
  | .domainPromotion n => n < 12
  | .rindSwValidWrite m => m.ok
  | .wakeCauseClr m => m.ok
  | .wakeOutWrite m _ => m.ok
  | .hcsNWake => true
  | .wdgKick m _ _ => m.ok
  | .wdgExpiry => true
  | .wdgFullResetEnd => true
  | .channelOutWrite m c _ => m.ok && c < 86
  | .gateSlotStart => true
  | .gateAdmit => true
  | .gateDeferExpiry => true
  | .inrushWindowClose c => c < 46
  | .droopChange c _ => c < 46
  | .droopCapReached c => c < 46
  | .limWrite m c _ => m.ok && c < 46
  | .limitationStart u => u.ok
  | .filteredTrip u _ => u.ok
  | .fastTrip u => u.ok
  | .turnOffComplete u _ _ => u.ok
  | .retryTimerExpiry c => c < 86
  | .retriesReload c => c < 86
  | .thermalLatchSet u => u.ok
  | .thermalLatchClear u => u.ok
  | .actTlClr m u => m.ok && u.ok
  | .actUnlock m u => m.ok && u.ok
  | .actFuseReset m c => m.ok && c < 46
  | .actRetryReset m c => m.ok && c < 86
  | .actDiagNow m c => m.ok && c < 62
  | .offStateCheckStart c => c < 62
  | .offStateCheckSample c _ => c < 62
  | .senseUpdate u _ vout tj _ _ => u.ok && vout < 65536 && tj < 65536
  | .pwmPeriodStart u => match u with | .chan c => c < 62 | .bridge b => b < 24 | _ => false
  | .lsClampConduction u _ => u.ok
  | .calderaTick _ inp led _ _ ivlf => inp.ok && led.ok && ivlf < 65536
  | .calderaRelease => true
  | .calderaDrainStep => true
  | .ambSetWrite m _ => m.ok
  | .ambStale => true
  | .weBinBoundary => true
  | .wiringEnergyCut c _ => c < 62
  | .hbDriveWrite m b _ => m.ok && b < 24
  | .dirBrakeEnd b => b < 24
  | .brakeTimerEnd b => b < 24
  | .stallDetect b => b < 24
  | .vdsFault g sw => g < 4 && sw < 4
  | .cpUndervoltage => true
  | .hbActClear m b => m.ok && b < 24
  | .chargePumpReady => true
  | .wiperParkStop g => g < 4
  | .gdActZero m g _ => m.ok && g < 4
  | .rippleCount x => x.ok
  | .rippleInsert g => g < 4
  | .rpeLowFreqStall g => g < 4
  | .actNormNow m g => m.ok && g < 4
  | .actNormClr m g => m.ok && g < 4
  | .targetGo m g _ => m.ok && g < 4
  | .pinchEvaluation g index vb => g < 4 && index < 65536 && vb < 65536
  | .reversalRequest g => g < 4
  | .profileWrite m g off _ => m.ok && g < 4 && offOk off
  | .valveOutWrite m n _ => m.ok && n < 8
  | .overlapTimeout n => n < 8
  | .valvePeakEnd n index => n < 8 && index < 4096
  | .armatureDip n index => n < 8 && index < 4096
  | .valveRegulationPeriod n mean duty => n < 8 && mean < 4096 && duty < 4096
  | .coilMeasurement n mv ma => n < 8 && mv < 65536 && ma < 4096
  | .coilModelTick n => n < 8
  | .rampDownEnd n => n < 8
  | .bankTrip k _ => k < 4
  | .vbkActClear m k => m.ok && k < 4
  | .valveActClear m n => m.ok && n < 8
  | .valveFreezeTurnOff n => n < 8
  | .fioTransitionAccept p _ _ => p < 24
  | .fioWake p _ => p < 24
  | .keepaliveWrite m _ => m.ok
  | .keepaliveExpiry => true
  | .kaResume m => m.ok
  | .safePatternToggle p => p < 24
  | .fioOpenLoad p => p < 24
  | .fioExtHigh p => p < 24
  | .swiTransitionAccept n _ => n < 48
  | .wettingTimerEnd n => n < 48
  | .cyclicSensePulse g levels => g < 4 && levels < 4096
  | .swiEvtRead m => m.ok
  | .ssupOvercurrent k => k < 4
  | .ledFrameStart => true
  | .ledSyncEvent kind => kind < 3
  | .swapReq m => m.ok
  | .ledElementTest e _ _ => e < 144
  | .ledLineTrip l => l < 12
  | .lineClear m _ => m.ok
  | .colHot _ => true
  | .diagRun m => m.ok
  | .ledDiagSlot shorts => shorts < 2048
  | .ledRestart m => m.ok
  | .ldcRefresh => true
  | .ldcTransferEnd _ => true
  | .ldcFdataAccess m _ => m.ok
  | .slotArm m index _ devOk => m.ok && index < 63 && devOk < 128
  | .triggerMatch src idx edge => src < 16 && idx < 256 && edge < 4
  | .latchedSimmerStart index => index < 63
  | .prepIssue index n => index < 63 && n < 4
  | .ctxTrigger m index => m.ok && index < 63
  | .ctxConfirm m index => m.ok && index < 63
  | .ctxCancel m index => m.ok && index < 63
  | .commitApply index => index < 63
  | .simmerDeadline index => index < 63
  | .remoteSimmerStart index _ => index < 63
  | .commitBroadcastReceive index _ => index < 63
  | .commitAckTimeout index => index < 63
  | .ferRun m g => m.ok && g < 6
  | .ferStopReq m g => m.ok && g < 6
  | .ferStartTick g => g < 6
  | .ferWordAct g => g < 6
  | .canFrameReceived c f _ => c < 8 && f.ok
  | .canFrameSent c _ => c < 8
  | .canFrameError c kind _ te re => c < 8 && kind < 7 && te < 257 && re < 129
  | .canTxReq m c _ => m.ok && c < 8
  | .canTxAbort m c _ => m.ok && c < 8
  | .canRxqRel m c q _ => m.ok && c < 8 && q < 2
  | .canRxslotNewClear m c w _ => m.ok && c < 8 && w < 2
  | .canTxtsPop m c => m.ok && c < 8
  | .canBusoffRecovery c => c < 8
  | .canTxdTimeout t => t < 6
  | .canThermalShutdown t => t < 6
  | .ctrxModeWrite m t _ => m.ok && t < 6
  | .schedStart m c => m.ok && c < 4
  | .schedStop m c => m.ok && c < 4
  | .awdServe m c => m.ok && c < 4
  | .awdExpiry c => c < 4
  | .timeMark c e => c < 4 && e < 64
  | .referenceMessage c f _ => c < 4 && f.ok
  | .linCmdRun m l => m.ok && l < 12
  | .linCmdStop m l => m.ok && l < 12
  | .linCmdSleep m l => m.ok && l < 12
  | .linCmdWake m l => m.ok && l < 12
  | .linSlotStart l => l < 12
  | .linHeaderReceived l id _ baud => l < 12 && id < 64 && baud < 65536
  | .linFrameEnd l err _ _ => l < 12 && err < 4
  | .linNoResponse l _ _ => l < 12
  | .linBusIdle l => l < 12
  | .linTxdTimeout l => l < 12
  | .linBusWake l => l < 12
  | .macKick m k => m.ok && k < 2
  | .macFrameSent k err _ tries => k < 2 && err < 8 && tries < 17
  | .macFrameReceived k err _ _ => k < 2 && err < 8
  | .mdioStart m _ => m.ok
  | .mdioComplete rdata => rdata < 65536
  | .plcaBeaconLost => true
  | .sampleCommit m tag => m.ok && tag < 65536
  | .acceptStep m => m.ok
  | .acceptRebase m => m.ok
  | .slewEnd => true
  | .sampleTimeout => true
  | .holdoverExpiry => true
  | .ntSrcWrite m _ => m.ok
  | .ntSecondPulse => true
  | .canWakePattern t => t < 6
  | .selectiveWakeFrame t f => t < 6 && f.ok
  | .swkFrameError t => t < 6
  | .swkDecoderTimeout t => t < 6
  | .falseWakeWindowEnd t => t < 6
  | .linFalseWakeWindowEnd l => l < 12
  | .nmMessage b f _ => b < 8 && f.ok
  | .nmTimeout b => b < 8
  | .wbsExpiry b => b < 8
  | .needVoteWrite m b _ => m.ok && b < 8
  | .nmCycle b => b < 8
  | .nmCommit m _ => m.ok
  | .deferLatch t => t < 18
  | .deferRelease m => m.ok
  | .ceilExpiry => true
  | .ceilRestart m => m.ok
  | .keepClr m b => m.ok && b < 8
  | .actTuneNow m => m.ok
  | .tuningComplete tune opn shorted => tune < 1073741824 && opn < 64 && shorted < 64
  | .lfShort n => n < 6
  | .lfOpen n => n < 6
  | .lfThermal _ => true
  | .immoCmdGo m go mask => m.ok && go < 4 && mask < 64
  | .immoCmdAbort m => m.ok
  | .immoTpRead m => m.ok
  | .telegramEnd sat => sat < 64
  | .answerSlotClose k _ _ _ => k < 8
  | .immoVerdict m k _ => m.ok && k < 8
  | .verifyTimeout k => k < 8
  | .listeningEnd => true
  | .repeatTelegram => true
  | .pendingExchangeStart => true
  | .transponderEnd _ _ _ _ => true
  | .lfPoll sat => sat < 64
  | .pollAnswer head crc => head < 256 && crc < 256
  | .standingMinute => true
  | .actStandClr m => m.ok
  | .relSend m => m.ok
  | .relRepeat => true
  | .relAck => true
  | .relGiveUp => true
  | .relStop m => m.ok
  | .ringSyncFrame _ int _ dly hops _ => int < 65536 && dly < 256 && hops < 16
  | .ringMasterStep => true
  | .ringSyncTimeout => true
  | .ringAlignment _ _ _ => true
  | .bypassOpen => true
  | .ringStatus d limp _ _ _ _ _ ups _ share => d < 7 && limp < 16 && ups < 13 && share.ok
  | .ringStatusTimeout d => d < 7
  | .ringBreak d port => d < 8 && port < 3
  | .ringBrokenClear => true
  | .ringWakePattern => true
  | .ringWakeFrame d => d < 8
  | .ringIrqForward d page => d < 7 && page < 139
  | .ringFwdRead m => m.ok
  | .sharedGateForward d page chan rank _ _ prio _ => d < 7 && page < 139 && chan < 16 && rank < 7 && prio < 4
  | .sharedAdmissionApply page chan _ => page < 139 && chan < 16
  | .interruptEntry c => c < 12
  | .haltResume c => c < 12
  | .resultLanding c => c < 12
  | .iIll c => c < 12
  | .iAdd c rd ra rb => c < 12 && rd < 32 && ra < 32 && rb < 32
  | .iSub c rd ra rb => c < 12 && rd < 32 && ra < 32 && rb < 32
  | .iAnd c rd ra rb => c < 12 && rd < 32 && ra < 32 && rb < 32
  | .iOr c rd ra rb => c < 12 && rd < 32 && ra < 32 && rb < 32
  | .iXor c rd ra rb => c < 12 && rd < 32 && ra < 32 && rb < 32
  | .iNor c rd ra rb => c < 12 && rd < 32 && ra < 32 && rb < 32
  | .iSll c rd ra rb => c < 12 && rd < 32 && ra < 32 && rb < 32
  | .iSrl c rd ra rb => c < 12 && rd < 32 && ra < 32 && rb < 32
  | .iSra c rd ra rb => c < 12 && rd < 32 && ra < 32 && rb < 32
  | .iSlli c rd ra sh => c < 12 && rd < 32 && ra < 32 && sh < 32
  | .iSrli c rd ra sh => c < 12 && rd < 32 && ra < 32 && sh < 32
  | .iSrai c rd ra sh => c < 12 && rd < 32 && ra < 32 && sh < 32
  | .iMin c rd ra rb => c < 12 && rd < 32 && ra < 32 && rb < 32
  | .iMax c rd ra rb => c < 12 && rd < 32 && ra < 32 && rb < 32
  | .iMinu c rd ra rb => c < 12 && rd < 32 && ra < 32 && rb < 32
  | .iMaxu c rd ra rb => c < 12 && rd < 32 && ra < 32 && rb < 32
  | .iClz c rd ra => c < 12 && rd < 32 && ra < 32
  | .iBswap c rd ra => c < 12 && rd < 32 && ra < 32
  | .iAdds c rd ra rb => c < 12 && rd < 32 && ra < 32 && rb < 32
  | .iSubs c rd ra rb => c < 12 && rd < 32 && ra < 32 && rb < 32
  | .iMul c rd ra rb => c < 12 && rd < 32 && ra < 32 && rb < 32
  | .iMulh c rd ra rb => c < 12 && rd < 32 && ra < 32 && rb < 32
  | .iMulhu c rd ra rb => c < 12 && rd < 32 && ra < 32 && rb < 32
  | .iMac c rd ra rb => c < 12 && rd < 32 && ra < 32 && rb < 32
  | .iDiv c rd ra rb => c < 12 && rd < 32 && ra < 32 && rb < 32
  | .iDivu c rd ra rb => c < 12 && rd < 32 && ra < 32 && rb < 32
  | .iRem c rd ra rb => c < 12 && rd < 32 && ra < 32 && rb < 32
  | .iRemu c rd ra rb => c < 12 && rd < 32 && ra < 32 && rb < 32
  | .iCeq c rd ra rb => c < 12 && rd < 32 && ra < 32 && rb < 32
  | .iCne c rd ra rb => c < 12 && rd < 32 && ra < 32 && rb < 32
  | .iClt c rd ra rb => c < 12 && rd < 32 && ra < 32 && rb < 32
  | .iCltu c rd ra rb => c < 12 && rd < 32 && ra < 32 && rb < 32
  | .iCle c rd ra rb => c < 12 && rd < 32 && ra < 32 && rb < 32
  | .iCleu c rd ra rb => c < 12 && rd < 32 && ra < 32 && rb < 32
  | .iSel c rd ra rb rc => c < 12 && rd < 32 && ra < 32 && rb < 32 && rc < 32
  | .iAddi c rd ra imm => c < 12 && rd < 32 && ra < 32 && imm < 65536
  | .iAndi c rd ra imm => c < 12 && rd < 32 && ra < 32 && imm < 65536
  | .iOri c rd ra imm => c < 12 && rd < 32 && ra < 32 && imm < 65536
  | .iXori c rd ra imm => c < 12 && rd < 32 && ra < 32 && imm < 65536
  | .iLui c rd imm => c < 12 && rd < 32 && imm < 65536
  | .iClti c rd ra imm => c < 12 && rd < 32 && ra < 32 && imm < 65536
  | .iCltiu c rd ra imm => c < 12 && rd < 32 && ra < 32 && imm < 65536
  | .iCeqi c rd ra imm => c < 12 && rd < 32 && ra < 32 && imm < 65536
  | .iLdw c rd ra imm => c < 12 && rd < 32 && ra < 32 && imm < 65536
  | .iLdh c rd ra imm => c < 12 && rd < 32 && ra < 32 && imm < 65536
  | .iLdhu c rd ra imm => c < 12 && rd < 32 && ra < 32 && imm < 65536
  | .iLdb c rd ra imm => c < 12 && rd < 32 && ra < 32 && imm < 65536
  | .iLdbu c rd ra imm => c < 12 && rd < 32 && ra < 32 && imm < 65536
  | .iStw c rs ra imm => c < 12 && rs < 32 && ra < 32 && imm < 65536
  | .iSth c rs ra imm => c < 12 && rs < 32 && ra < 32 && imm < 65536
  | .iStb c rs ra imm => c < 12 && rs < 32 && ra < 32 && imm < 65536
  | .iLdwp c rd ra imm => c < 12 && rd < 32 && ra < 32 && imm < 65536
  | .iStwp c rs ra imm => c < 12 && rs < 32 && ra < 32 && imm < 65536
  | .iSwp c rd ra rb => c < 12 && rd < 32 && ra < 32 && rb < 32
  | .iIn c rd ra imm kind _ => c < 12 && rd < 32 && ra < 32 && imm < 65536 && kind < 7
  | .iOut c rs ra imm kind => c < 12 && rs < 32 && ra < 32 && imm < 65536 && kind < 7
  | .iInp c rd ra imm kind _ => c < 12 && rd < 32 && ra < 32 && imm < 65536 && kind < 7
  | .iOutp c rs ra imm kind => c < 12 && rs < 32 && ra < 32 && imm < 65536 && kind < 7
  | .iBz c rc off => c < 12 && rc < 32 && off < 2097152
  | .iBnz c rc off => c < 12 && rc < 32 && off < 2097152
  | .iJump c off => c < 12 && off < 67108864
  | .iCall c off => c < 12 && off < 67108864
  | .iJr c ra => c < 12 && ra < 32
  | .iCallr c ra => c < 12 && ra < 32
  | .iRet c => c < 12
  | .iReti c => c < 12
  | .iLoop c lvl ra len => c < 12 && lvl < 3 && ra < 32 && 1 ≤ len && len < 4096
  | .iLoopi c lvl count len => c < 12 && lvl < 3 && count < 4096 && 1 ≤ len && len < 4096
  | .iLbrk c lvl => c < 12 && lvl < 3
  | .iRep c _ => c < 12
  | .iMfc c rd idx => c < 12 && rd < 32 && idx < 256
  | .iMtc c ra idx => c < 12 && ra < 32 && idx < 256
  | .iSys c imm => c < 12 && imm < 65536
  | .iBrk c imm => c < 12 && imm < 65536
  | .iHalt c => c < 12
  | .iSpill c => c < 12
  | .iFill c => c < 12
  | .reservedEncoding c => c < 12
  | .mboxPush m b _ => m.ok && b < 32
  | .mboxPop m b => m.ok && b < 32
  | .irqSoftSet m c _ _ => m.ok && c < 12
  | .irqSoftClr m c _ _ => m.ok && c < 12
  | .wbufWrite m j _ => m.ok && j < 16
  | .wcmd m page off len => m.ok && page < 2048 && off < 64 && len < 128
  | .wbufRel m => m.ok
  | .pageWriteStart => true
  | .pageWriteComplete => true
  | .lowvWaitExpiry => true
  | .protWrite m bp => m.ok && bp < 4096
  | .pwPresent m part _ => m.ok && part < 8
  | .pwChange m part _ => m.ok && part < 8
  | .pwClose m part _ => m.ok && part < 8
  | .lockoutEnd part => part < 8
  | .recRead m k => m.ok && k < 4
  | .recWrite m k => m.ok && k < 4
  | .cntRead m k => m.ok && k < 4
  | .cntInc m k => m.ok && k < 4
  | .cntRaise m k => m.ok && k < 4
  | .cntClear m k => m.ok && k < 4
  | .recErase m k => m.ok && k < 4
  | .recCommandDone k => k < 4
  | .skimMarginRead _ _ corr => corr < 17
  | .skimRefresh => true
  | .hkRomBoot => true
  | .coreReload c => c < 12
  | .updStart m _ => m.ok
  | .updFinish m _ => m.ok
  | .updAbort m _ => m.ok
  | .imageQuarterWrite _ _ => true
  | .imageBlockProgrammed _ => true
  | .digestVerifyComplete => true
  | .chgTrialNext m => m.ok
  | .chgHoldAll m => m.ok
  | .chgReload m v => m.ok && v < 4096
  | .chgReady m v => m.ok && v < 4096
  | .chgSwitch m => m.ok
  | .chgReleaseAll m => m.ok
  | .chgHealthOk m => m.ok
  | .chgRestart m => m.ok
  | .chgHoldExpiry => true
  | .healthWindowExpiry => true
  | .rootProgram m r _ => m.ok && r < 4
  | .rootSeal m _ => m.ok
  | .rootReturn m _ => m.ok
  | .attGo m => m.ok
  | .attReportDone t => t < 65536
  | .spiFrame _ extra _ => extra < 32
  | .udpRequest k _ _ port dport _ _ _ _ => k < 2 && port < 65536 && dport < 65536
  | .ringHostRequest _ => true
  | .ringRequestTimeout => true
  | .hostNop tag => tag < 256
  | .hostRead tag count space _ _ => tag < 256 && count < 256 && space < 4
  | .hostWrite tag count space _ _ _ => tag < 256 && count < 256 && space < 4
  | .hostReadFix tag count space _ _ => tag < 256 && count < 256 && space < 4
  | .hostWriteFix tag count space _ _ _ => tag < 256 && count < 256 && space < 4
  | .monRead space _ _ _ => space < 27
  | .monWrite space _ _ _ => space < 27
  | .monDump space _ _ _ => space < 27
  | .monBlockLoad space _ _ _ => space < 27
  | .monHalt c => c < 12
  | .monStep c _ => c < 12
  | .monResume c => c < 12
  | .monEndDebug c => c < 12
  | .monPrintState c => c < 12
  | .monPrintLog => true
  | .monSetRate _ => true
  | .monChallenge => true
  | .monAnswer _ _ => true
  | .monClose => true
  | .eccFill m => m.ok
  | .scrubStep m c _ cols _ => m < 6 && c < 12 && cols.all (· < 1152)
  | .logDeltaWrite m index _ => m.ok && index < 741
  | .logMinuteTick _ => true
  | .resetNFall => true
  | .uncertSaturation => true
  | .limitationEnd u _ => u.ok
  | .swiRawChange n _ => n < 48
  | .lfPollEnd => true
  | .commitAcknowledgement index d => index < 63 && d < 7
  | .canThermalRecovery t => t < 6
  | .canBusDominantTimeout t => t < 6
  | .vcc5RegulationChange _ => true
  | .canIntegrationComplete c => c < 8
  | .plcaBeaconSeen => true

end Sys2Proof
end

