-- ==== Sys2Proof/Tests/Slice0.lean ====
section
/-! SUPPORT. The author's own tests: ill-formed commands are refused, single steps with results worked out from the spec by hand, and for
every statement states and operands that meet its hypotheses. -/

set_option maxRecDepth 4000
set_option linter.unusedVariables false
set_option Elab.async false

namespace Sys2Proof.Tests

open Sys2Proof Sys2Proof.Machine

/-! Well-formed commands. -/

/-- A classical data frame without data. -/
def okFrame : CanFrame := { dlc := 0, fdf := false, brs := false, esi := false, rtr := false, xtd := false, id := 5, data := [] }
/-- A frame whose DLC is outside its four bits. -/
def badFrame : CanFrame := { okFrame with dlc := 16 }

theorem test_wf_operand_types : ([.ce 8, .ne 2] : List Master).all (fun m => !m.ok) && ([.chan 86, .bridge 24, .valve 8, .bank 4] : List Stage).all (fun u => !u.ok) &&
    ([{ okFrame with dlc := 16 }, { okFrame with id := 2048 }, { okFrame with id := 2 ^ 29, xtd := true }, { okFrame with fdf := true, rtr := true },
      { okFrame with dlc := 3 }, { okFrame with rtr := true, dlc := 1, data := [7] }] : List CanFrame).all (fun f => !f.ok) = true := by decide

/-- One well-formed command of every constructor. -/
theorem test_wf_accepts_1 : ([.powerUp false, .limpMapRead, .totalPowerLoss, .undervoltage, .vbatLowChange false, .vbatOvChange false, .reverseBattery false, .resetNRise,
    .resetNLongLow, .limpInputChange 0 false, .limpHomeStart, .vbatMeasurement 0 0, .vfldUvChange false, .registerWrite .hk 0 0 0,
    .ctrlEnClear .hk 0, .ctrlEnSet .hk 0, .drainComplete 0, .ctrlSrst .hk 0, .ctrlHoldSet .hk 0, .ctrlHoldClear .hk 0, .shadowApplyComplete 0,
    .shadowWrite .hk 0 0 0, .lockkeyWrite .hk 0 0, .irqSetWrite .hk 0 0, .irqRawClear .hk 0 0 0, .unmappedAccess .hk 0 none,
    .domainOffAccess .hk 0 0 none, .stallTimeout .hk, .satelliteWindowAccess .hk 0 0 0 none 0 0, .windowTimeout .hk, .xtalFail, .pllLockLoss,
    .pllRelockTimeout, .refSelWrite .hk 0, .clockFreezeEnd, .lfXtalFail, .clockRestartComplete, .tbHandoverToLf, .tbHandoverToCclk, .lfincTrim,
    .incIntWrite .hk 0, .residApply .hk, .uncertClr .hk, .cmpHiWrite .hk 0 0, .cmpModeWrite .hk 0 0, .compareFire 0, .capture 0 0 false,
    .cascCount 0 0 false, .cascCarry 0, .cascCntWrite .hk 0 0, .pwrOrder 0 0 false, .pwrOrderRequest .hk 0 0, .pwrReqRead .hk,
    .domainEntryComplete 0, .domainPowerUpAdmit 0, .domainPowerUpComplete 0, .domainPromotion 0, .rindSwValidWrite .hk, .wakeCauseClr .hk,
    .wakeOutWrite .hk false] : List Instr).all (fun i => i.wf == true) = true := by
  decide +kernel

theorem test_wf_accepts_2 : ([.hcsNWake, .wdgKick .hk 0 false, .wdgExpiry, .wdgFullResetEnd, .channelOutWrite .hk 0 0, .gateSlotStart, .gateAdmit, .gateDeferExpiry,
    .inrushWindowClose 0, .droopChange 0 false, .droopCapReached 0, .limWrite .hk 0 0, .limitationStart (.chan 0), .filteredTrip (.chan 0) 0,
    .fastTrip (.chan 0), .turnOffComplete (.chan 0) 0 0, .retryTimerExpiry 0, .retriesReload 0, .thermalLatchSet (.chan 0),
    .thermalLatchClear (.chan 0), .actTlClr .hk (.chan 0), .actUnlock .hk (.chan 0), .actFuseReset .hk 0, .actRetryReset .hk 0,
    .actDiagNow .hk 0, .offStateCheckStart 0, .offStateCheckSample 0 false, .senseUpdate (.chan 0) 0 0 0 false false, .pwmPeriodStart (.chan 0),
    .lsClampConduction (.chan 0) 0, .calderaTick [] ⟨[], []⟩ ⟨[], []⟩ 0 0 0, .calderaRelease, .calderaDrainStep, .ambSetWrite .hk 0, .ambStale,
    .weBinBoundary, .wiringEnergyCut 0 0, .hbDriveWrite .hk 0 0, .dirBrakeEnd 0, .brakeTimerEnd 0, .stallDetect 0, .vdsFault 0 0,
    .cpUndervoltage, .hbActClear .hk 0, .chargePumpReady, .wiperParkStop 0, .gdActZero .hk 0 0, .rippleCount ⟨0, 0⟩, .rippleInsert 0,
    .rpeLowFreqStall 0, .actNormNow .hk 0, .actNormClr .hk 0, .targetGo .hk 0 0, .pinchEvaluation 0 0 0, .reversalRequest 0,
    .profileWrite .hk 0 0 0, .valveOutWrite .hk 0 0, .overlapTimeout 0, .valvePeakEnd 0 0, .armatureDip 0 0] : List Instr).all (fun i => i.wf == true) = true := by
  decide +kernel

theorem test_wf_accepts_3 : ([.valveRegulationPeriod 0 0 0, .coilMeasurement 0 0 0, .coilModelTick 0, .rampDownEnd 0, .bankTrip 0 false, .vbkActClear .hk 0,
    .valveActClear .hk 0, .valveFreezeTurnOff 0, .fioTransitionAccept 0 false 0, .fioWake 0 false, .keepaliveWrite .hk 0, .keepaliveExpiry,
    .kaResume .hk, .safePatternToggle 0, .fioOpenLoad 0, .fioExtHigh 0, .swiTransitionAccept 0 false, .wettingTimerEnd 0, .cyclicSensePulse 0 0,
    .swiEvtRead .hk, .ssupOvercurrent 0, .ledFrameStart, .ledSyncEvent 0, .swapReq .hk, .ledElementTest 0 false false, .ledLineTrip 0,
    .lineClear .hk 0, .colHot false, .diagRun .hk, .ledDiagSlot 0, .ledRestart .hk, .ldcRefresh, .ldcTransferEnd 0, .ldcFdataAccess .hk none,
    .slotArm .hk 0 0 0, .triggerMatch 0 0 0, .latchedSimmerStart 0, .prepIssue 0 0, .ctxTrigger .hk 0, .ctxConfirm .hk 0, .ctxCancel .hk 0,
    .commitApply 0, .simmerDeadline 0, .remoteSimmerStart 0 0, .commitBroadcastReceive 0 0, .commitAckTimeout 0, .ferRun .hk 0,
    .ferStopReq .hk 0, .ferStartTick 0, .ferWordAct 0, .canFrameReceived 0 okFrame 0, .canFrameSent 0 0, .canFrameError 0 0 false 0 0,
    .canTxReq .hk 0 0, .canTxAbort .hk 0 0, .canRxqRel .hk 0 0 0, .canRxslotNewClear .hk 0 0 0, .canTxtsPop .hk 0, .canBusoffRecovery 0,
    .canTxdTimeout 0] : List Instr).all (fun i => i.wf == true) = true := by
  decide +kernel

theorem test_wf_accepts_4 : ([.canThermalShutdown 0, .ctrxModeWrite .hk 0 0, .schedStart .hk 0, .schedStop .hk 0, .awdServe .hk 0, .awdExpiry 0, .timeMark 0 0,
    .referenceMessage 0 okFrame 0, .linCmdRun .hk 0, .linCmdStop .hk 0, .linCmdSleep .hk 0, .linCmdWake .hk 0, .linSlotStart 0,
    .linHeaderReceived 0 0 false 0, .linFrameEnd 0 0 0 [], .linNoResponse 0 false 0, .linBusIdle 0, .linTxdTimeout 0, .linBusWake 0,
    .macKick .hk 0, .macFrameSent 0 0 0 0, .macFrameReceived 0 0 0 [], .mdioStart .hk 0, .mdioComplete 0, .plcaBeaconLost, .sampleCommit .hk 0,
    .acceptStep .hk, .acceptRebase .hk, .slewEnd, .sampleTimeout, .holdoverExpiry, .ntSrcWrite .hk 0, .ntSecondPulse, .canWakePattern 0,
    .selectiveWakeFrame 0 okFrame, .swkFrameError 0, .swkDecoderTimeout 0, .falseWakeWindowEnd 0, .linFalseWakeWindowEnd 0,
    .nmMessage 0 okFrame none, .nmTimeout 0, .wbsExpiry 0, .needVoteWrite .hk 0 0, .nmCycle 0, .nmCommit .hk 0, .deferLatch 0, .deferRelease .hk,
    .ceilExpiry, .ceilRestart .hk, .keepClr .hk 0, .actTuneNow .hk, .tuningComplete 0 0 0, .lfShort 0, .lfOpen 0, .lfThermal false,
    .immoCmdGo .hk 0 0, .immoCmdAbort .hk, .immoTpRead .hk, .telegramEnd 0, .answerSlotClose 0 false [] []] : List Instr).all (fun i => i.wf == true) = true := by
  decide +kernel

theorem test_wf_accepts_5 : ([.immoVerdict .hk 0 false, .verifyTimeout 0, .listeningEnd, .repeatTelegram, .pendingExchangeStart, .transponderEnd false [] [] [], .lfPoll 0,
    .pollAnswer 0 0, .standingMinute, .actStandClr .hk, .relSend .hk, .relRepeat, .relAck, .relGiveUp, .relStop .hk,
    .ringSyncFrame 0 0 0 0 0 ⟨false, 0⟩, .ringMasterStep, .ringSyncTimeout, .ringAlignment false false false, .bypassOpen,
    .ringStatus 0 0 false false false false 0 0 0 ⟨[], 0⟩, .ringStatusTimeout 0, .ringBreak 0 0, .ringBrokenClear, .ringWakePattern,
    .ringWakeFrame 0, .ringIrqForward 0 0, .ringFwdRead .hk, .sharedGateForward 0 0 0 0 0 0 0 0, .sharedAdmissionApply 0 0 false,
    .interruptEntry 0, .haltResume 0, .resultLanding 0, .iIll 0, .iAdd 0 0 0 0, .iSub 0 0 0 0, .iAnd 0 0 0 0, .iOr 0 0 0 0, .iXor 0 0 0 0,
    .iNor 0 0 0 0, .iSll 0 0 0 0, .iSrl 0 0 0 0, .iSra 0 0 0 0, .iSlli 0 0 0 0, .iSrli 0 0 0 0, .iSrai 0 0 0 0, .iMin 0 0 0 0, .iMax 0 0 0 0,
    .iMinu 0 0 0 0, .iMaxu 0 0 0 0, .iClz 0 0 0, .iBswap 0 0 0, .iAdds 0 0 0 0, .iSubs 0 0 0 0, .iMul 0 0 0 0, .iMulh 0 0 0 0, .iMulhu 0 0 0 0,
    .iMac 0 0 0 0, .iDiv 0 0 0 0, .iDivu 0 0 0 0] : List Instr).all (fun i => i.wf == true) = true := by
  decide +kernel

theorem test_wf_accepts_6 : ([.iRem 0 0 0 0, .iRemu 0 0 0 0, .iCeq 0 0 0 0, .iCne 0 0 0 0, .iClt 0 0 0 0, .iCltu 0 0 0 0, .iCle 0 0 0 0, .iCleu 0 0 0 0, .iSel 0 0 0 0 0,
    .iAddi 0 0 0 0, .iAndi 0 0 0 0, .iOri 0 0 0 0, .iXori 0 0 0 0, .iLui 0 0 0, .iClti 0 0 0 0, .iCltiu 0 0 0 0, .iCeqi 0 0 0 0, .iLdw 0 0 0 0,
    .iLdh 0 0 0 0, .iLdhu 0 0 0 0, .iLdb 0 0 0 0, .iLdbu 0 0 0 0, .iStw 0 0 0 0, .iSth 0 0 0 0, .iStb 0 0 0 0, .iLdwp 0 0 0 0, .iStwp 0 0 0 0,
    .iSwp 0 0 0 0, .iIn 0 0 0 0 0 0, .iOut 0 0 0 0 0, .iInp 0 0 0 0 0 0, .iOutp 0 0 0 0 0, .iBz 0 0 0, .iBnz 0 0 0, .iJump 0 0, .iCall 0 0,
    .iJr 0 0, .iCallr 0 0, .iRet 0, .iReti 0, .iLoop 0 0 0 1, .iLoopi 0 0 0 1, .iLbrk 0 0, .iRep 0 false, .iMfc 0 0 0, .iMtc 0 0 0, .iSys 0 0,
    .iBrk 0 0, .iHalt 0, .iSpill 0, .iFill 0, .reservedEncoding 0, .mboxPush .hk 0 0, .mboxPop .hk 0, .irqSoftSet .hk 0 false 0,
    .irqSoftClr .hk 0 false 0, .wbufWrite .hk 0 0, .wcmd .hk 0 0 0, .wbufRel .hk, .pageWriteStart] : List Instr).all (fun i => i.wf == true) = true := by
  decide +kernel

theorem test_wf_accepts_7 : ([.pageWriteComplete, .lowvWaitExpiry, .protWrite .hk 0, .pwPresent .hk 0 false, .pwChange .hk 0 false, .pwClose .hk 0 false, .lockoutEnd 0,
    .recRead .hk 0, .recWrite .hk 0, .cntRead .hk 0, .cntInc .hk 0, .cntRaise .hk 0, .cntClear .hk 0, .recErase .hk 0, .recCommandDone 0,
    .skimMarginRead [] [] 0, .skimRefresh, .hkRomBoot, .coreReload 0, .updStart .hk false, .updFinish .hk false, .updAbort .hk false,
    .imageQuarterWrite 0 [], .imageBlockProgrammed 0, .digestVerifyComplete, .chgTrialNext .hk, .chgHoldAll .hk, .chgReload .hk 0,
    .chgReady .hk 0, .chgSwitch .hk, .chgReleaseAll .hk, .chgHealthOk .hk, .chgRestart .hk, .chgHoldExpiry, .healthWindowExpiry,
    .rootProgram .hk 0 false, .rootSeal .hk false, .rootReturn .hk false, .attGo .hk, .attReportDone 0, .spiFrame [] 0 [],
    .udpRequest 0 0 0 0 0 false false [] [], .ringHostRequest [], .ringRequestTimeout, .hostNop 0, .hostRead 0 0 0 0 [],
    .hostWrite 0 0 0 0 [] [], .hostReadFix 0 0 0 0 [], .hostWriteFix 0 0 0 0 [] [], .monRead 0 0 0 [], .monWrite 0 0 [] [], .monDump 0 0 0 [],
    .monBlockLoad 0 0 [] 0, .monHalt 0, .monStep 0 0, .monResume 0, .monEndDebug 0, .monPrintState 0, .monPrintLog, .monSetRate 0] : List Instr).all (fun i => i.wf == true) = true := by
  decide +kernel

theorem test_wf_accepts_8 : ([.monChallenge, .monAnswer 0 [], .monClose, .eccFill .hk, .scrubStep 0 0 0 [] false, .logDeltaWrite .hk 0 0, .logMinuteTick 0, .resetNFall,
    .uncertSaturation, .limitationEnd (.chan 0) 0, .swiRawChange 0 false, .lfPollEnd, .commitAcknowledgement 0 0, .canThermalRecovery 0,
    .canBusDominantTimeout 0, .vcc5RegulationChange false, .canIntegrationComplete 0, .plcaBeaconSeen] : List Instr).all (fun i => i.wf == true) = true := by
  decide +kernel

/-- One ill-formed command for every check of a constructor. -/
theorem test_wf_refuses_1 : ([.limpInputChange 4 false, .vbatMeasurement 65536 0, .vbatMeasurement 0 65536, .registerWrite (.ce 8) 0 0 0, .registerWrite .hk 160 0 0,
    .registerWrite .hk 0 4096 0, .registerWrite .hk 0 2 0, .ctrlEnClear (.ce 8) 0, .ctrlEnClear .hk 160, .ctrlEnSet (.ce 8) 0,
    .ctrlEnSet .hk 160, .drainComplete 160, .ctrlSrst (.ce 8) 0, .ctrlSrst .hk 160, .ctrlHoldSet (.ce 8) 0, .ctrlHoldSet .hk 160,
    .ctrlHoldClear (.ce 8) 0, .ctrlHoldClear .hk 160, .shadowApplyComplete 160, .shadowWrite (.ce 8) 0 0 0, .shadowWrite .hk 160 0 0,
    .shadowWrite .hk 0 4096 0, .shadowWrite .hk 0 2 0, .lockkeyWrite (.ce 8) 0 0, .lockkeyWrite .hk 160 0, .irqSetWrite (.ce 8) 0 0,
    .irqSetWrite .hk 160 0, .irqRawClear (.ce 8) 0 0 0, .irqRawClear .hk 160 0 0, .unmappedAccess (.ce 8) 0 none,
    .domainOffAccess (.ce 8) 0 0 none, .domainOffAccess .hk 160 0 none, .domainOffAccess .hk 0 4096 none, .domainOffAccess .hk 0 2 none,
    .stallTimeout (.ce 8), .satelliteWindowAccess (.ce 8) 0 0 0 none 0 0, .satelliteWindowAccess .hk 7 0 0 none 0 0,
    .satelliteWindowAccess .hk 0 160 0 none 0 0, .satelliteWindowAccess .hk 0 0 4096 none 0 0, .satelliteWindowAccess .hk 0 0 2 none 0 0,
    .satelliteWindowAccess .hk 0 0 0 none 7 0, .windowTimeout (.ce 8), .refSelWrite (.ce 8) 0, .incIntWrite (.ce 8) 0, .residApply (.ce 8),
    .uncertClr (.ce 8), .cmpHiWrite (.ce 8) 0 0, .cmpHiWrite .hk 64 0, .cmpModeWrite (.ce 8) 0 0, .cmpModeWrite .hk 64 0, .cmpModeWrite .hk 0 4,
    .compareFire 64, .capture 64 0 false, .capture 0 256 false, .cascCount 16 0 false, .cascCount 0 256 false, .cascCarry 16,
    .cascCntWrite (.ce 8) 0 0, .cascCntWrite .hk 16 0, .pwrOrder 12 0 false] : List Instr).all (fun i => i.wf == false) = true := by
  decide +kernel

theorem test_wf_refuses_2 : ([.pwrOrder 0 4 false, .pwrOrderRequest (.ce 8) 0 0, .pwrOrderRequest .hk 12 0, .pwrOrderRequest .hk 0 4, .pwrReqRead (.ce 8),
    .domainEntryComplete 12, .domainPowerUpAdmit 12, .domainPowerUpComplete 12, .domainPromotion 12, .rindSwValidWrite (.ce 8),
    .wakeCauseClr (.ce 8), .wakeOutWrite (.ce 8) false, .wdgKick (.ce 8) 0 false, .channelOutWrite (.ce 8) 0 0, .channelOutWrite .hk 86 0,
    .inrushWindowClose 46, .droopChange 46 false, .droopCapReached 46, .limWrite (.ce 8) 0 0, .limWrite .hk 46 0, .limitationStart (.chan 86),
    .filteredTrip (.chan 86) 0, .fastTrip (.chan 86), .turnOffComplete (.chan 86) 0 0, .retryTimerExpiry 86, .retriesReload 86,
    .thermalLatchSet (.chan 86), .thermalLatchClear (.chan 86), .actTlClr (.ce 8) (.chan 0), .actTlClr .hk (.chan 86),
    .actUnlock (.ce 8) (.chan 0), .actUnlock .hk (.chan 86), .actFuseReset (.ce 8) 0, .actFuseReset .hk 46, .actRetryReset (.ce 8) 0,
    .actRetryReset .hk 86, .actDiagNow (.ce 8) 0, .actDiagNow .hk 62, .offStateCheckStart 62, .offStateCheckSample 62 false,
    .senseUpdate (.chan 86) 0 0 0 false false, .senseUpdate (.chan 0) 0 65536 0 false false, .senseUpdate (.chan 0) 0 0 65536 false false,
    .pwmPeriodStart (.valve 0), .pwmPeriodStart (.chan 62), .pwmPeriodStart (.bridge 24), .lsClampConduction (.chan 86) 0,
    .calderaTick [] ⟨[3, 65536], []⟩ ⟨[], []⟩ 0 0 0, .calderaTick [] ⟨[], List.replicate 5 (0, 0)⟩ ⟨[], []⟩ 0 0 0,
    .calderaTick [] ⟨[], []⟩ ⟨List.replicate 13 (0, 0), []⟩ 0 0 0, .calderaTick [] ⟨[], []⟩ ⟨[], List.replicate 13 0⟩ 0 0 0,
    .calderaTick [] ⟨[], []⟩ ⟨[], []⟩ 0 0 65536, .ambSetWrite (.ce 8) 0, .wiringEnergyCut 62 0, .hbDriveWrite (.ce 8) 0 0,
    .hbDriveWrite .hk 24 0, .dirBrakeEnd 24, .brakeTimerEnd 24, .stallDetect 24, .vdsFault 4 0] : List Instr).all (fun i => i.wf == false) = true := by
  decide +kernel

theorem test_wf_refuses_3 : ([.vdsFault 0 4, .hbActClear (.ce 8) 0, .hbActClear .hk 24, .wiperParkStop 4, .gdActZero (.ce 8) 0 0, .gdActZero .hk 4 0, .rippleCount ⟨4, 0⟩,
    .rippleInsert 4, .rpeLowFreqStall 4, .actNormNow (.ce 8) 0, .actNormNow .hk 4, .actNormClr (.ce 8) 0, .actNormClr .hk 4,
    .targetGo (.ce 8) 0 0, .targetGo .hk 4 0, .pinchEvaluation 4 0 0, .pinchEvaluation 0 65536 0, .pinchEvaluation 0 0 65536, .reversalRequest 4,
    .profileWrite (.ce 8) 0 0 0, .profileWrite .hk 4 0 0, .profileWrite .hk 0 4096 0, .profileWrite .hk 0 2 0, .valveOutWrite (.ce 8) 0 0,
    .valveOutWrite .hk 8 0, .overlapTimeout 8, .valvePeakEnd 8 0, .valvePeakEnd 0 4096, .armatureDip 8 0, .armatureDip 0 4096,
    .valveRegulationPeriod 8 0 0, .valveRegulationPeriod 0 4096 0, .valveRegulationPeriod 0 0 4096, .coilMeasurement 8 0 0,
    .coilMeasurement 0 65536 0, .coilMeasurement 0 0 4096, .coilModelTick 8, .rampDownEnd 8, .bankTrip 4 false, .vbkActClear (.ce 8) 0,
    .vbkActClear .hk 4, .valveActClear (.ce 8) 0, .valveActClear .hk 8, .valveFreezeTurnOff 8, .fioTransitionAccept 24 false 0,
    .fioWake 24 false, .keepaliveWrite (.ce 8) 0, .kaResume (.ce 8), .safePatternToggle 24, .fioOpenLoad 24, .fioExtHigh 24,
    .swiTransitionAccept 48 false, .wettingTimerEnd 48, .cyclicSensePulse 4 0, .cyclicSensePulse 0 4096, .swiEvtRead (.ce 8), .ssupOvercurrent 4,
    .ledSyncEvent 3, .swapReq (.ce 8), .ledElementTest 144 false false] : List Instr).all (fun i => i.wf == false) = true := by
  decide +kernel

theorem test_wf_refuses_4 : ([.ledLineTrip 12, .lineClear (.ce 8) 0, .diagRun (.ce 8), .ledDiagSlot 2048, .ledRestart (.ce 8), .ldcFdataAccess (.ce 8) none,
    .slotArm (.ce 8) 0 0 0, .slotArm .hk 63 0 0, .slotArm .hk 0 0 128, .triggerMatch 16 0 0, .triggerMatch 0 256 0, .triggerMatch 0 0 4,
    .latchedSimmerStart 63, .prepIssue 63 0, .prepIssue 0 4, .ctxTrigger (.ce 8) 0, .ctxTrigger .hk 63, .ctxConfirm (.ce 8) 0,
    .ctxConfirm .hk 63, .ctxCancel (.ce 8) 0, .ctxCancel .hk 63, .commitApply 63, .simmerDeadline 63, .remoteSimmerStart 63 0,
    .commitBroadcastReceive 63 0, .commitAckTimeout 63, .ferRun (.ce 8) 0, .ferRun .hk 6, .ferStopReq (.ce 8) 0, .ferStopReq .hk 6,
    .ferStartTick 6, .ferWordAct 6, .canFrameReceived 8 okFrame 0, .canFrameReceived 0 badFrame 0, .canFrameSent 8 0,
    .canFrameError 8 0 false 0 0, .canFrameError 0 7 false 0 0, .canFrameError 0 0 false 257 0, .canFrameError 0 0 false 0 129,
    .canTxReq (.ce 8) 0 0, .canTxReq .hk 8 0, .canTxAbort (.ce 8) 0 0, .canTxAbort .hk 8 0, .canRxqRel (.ce 8) 0 0 0, .canRxqRel .hk 8 0 0,
    .canRxqRel .hk 0 2 0, .canRxslotNewClear (.ce 8) 0 0 0, .canRxslotNewClear .hk 8 0 0, .canRxslotNewClear .hk 0 2 0, .canTxtsPop (.ce 8) 0,
    .canTxtsPop .hk 8, .canBusoffRecovery 8, .canTxdTimeout 6, .canThermalShutdown 6, .ctrxModeWrite (.ce 8) 0 0, .ctrxModeWrite .hk 6 0,
    .schedStart (.ce 8) 0, .schedStart .hk 4, .schedStop (.ce 8) 0, .schedStop .hk 4] : List Instr).all (fun i => i.wf == false) = true := by
  decide +kernel

theorem test_wf_refuses_5 : ([.awdServe (.ce 8) 0, .awdServe .hk 4, .awdExpiry 4, .timeMark 4 0, .timeMark 0 64, .referenceMessage 4 okFrame 0,
    .referenceMessage 0 badFrame 0, .linCmdRun (.ce 8) 0, .linCmdRun .hk 12, .linCmdStop (.ce 8) 0, .linCmdStop .hk 12, .linCmdSleep (.ce 8) 0,
    .linCmdSleep .hk 12, .linCmdWake (.ce 8) 0, .linCmdWake .hk 12, .linSlotStart 12, .linHeaderReceived 12 0 false 0,
    .linHeaderReceived 0 64 false 0, .linHeaderReceived 0 0 false 65536, .linFrameEnd 12 0 0 [], .linFrameEnd 0 4 0 [],
    .linNoResponse 12 false 0, .linBusIdle 12, .linTxdTimeout 12, .linBusWake 12, .macKick (.ce 8) 0, .macKick .hk 2, .macFrameSent 2 0 0 0,
    .macFrameSent 0 8 0 0, .macFrameSent 0 0 0 17, .macFrameReceived 2 0 0 [], .macFrameReceived 0 8 0 [], .mdioStart (.ce 8) 0,
    .mdioComplete 65536, .sampleCommit (.ce 8) 0, .sampleCommit .hk 65536, .acceptStep (.ce 8), .acceptRebase (.ce 8), .ntSrcWrite (.ce 8) 0,
    .canWakePattern 6, .selectiveWakeFrame 6 okFrame, .selectiveWakeFrame 0 badFrame, .swkFrameError 6, .swkDecoderTimeout 6,
    .falseWakeWindowEnd 6, .linFalseWakeWindowEnd 12, .nmMessage 8 okFrame none, .nmMessage 0 badFrame none, .nmTimeout 8, .wbsExpiry 8,
    .needVoteWrite (.ce 8) 0 0, .needVoteWrite .hk 8 0, .nmCycle 8, .nmCommit (.ce 8) 0, .deferLatch 18, .deferRelease (.ce 8),
    .ceilRestart (.ce 8), .keepClr (.ce 8) 0, .keepClr .hk 8, .actTuneNow (.ce 8)] : List Instr).all (fun i => i.wf == false) = true := by
  decide +kernel

theorem test_wf_refuses_6 : ([.tuningComplete 1073741824 0 0, .tuningComplete 0 64 0, .tuningComplete 0 0 64, .lfShort 6, .lfOpen 6, .immoCmdGo (.ce 8) 0 0,
    .immoCmdGo .hk 4 0, .immoCmdGo .hk 0 64, .immoCmdAbort (.ce 8), .immoTpRead (.ce 8), .telegramEnd 64, .answerSlotClose 8 false [] [],
    .immoVerdict (.ce 8) 0 false, .immoVerdict .hk 8 false, .verifyTimeout 8, .lfPoll 64, .pollAnswer 256 0, .pollAnswer 0 256,
    .actStandClr (.ce 8), .relSend (.ce 8), .relStop (.ce 8), .ringSyncFrame 0 65536 0 0 0 ⟨false, 0⟩, .ringSyncFrame 0 0 0 256 0 ⟨false, 0⟩,
    .ringSyncFrame 0 0 0 0 16 ⟨false, 0⟩, .ringStatus 7 0 false false false false 0 0 0 ⟨[], 0⟩,
    .ringStatus 0 16 false false false false 0 0 0 ⟨[], 0⟩, .ringStatus 0 0 false false false false 0 13 0 ⟨[], 0⟩,
    .ringStatus 0 0 false false false false 0 0 0 ⟨[], 8⟩, .ringStatusTimeout 7, .ringBreak 8 0, .ringBreak 0 3, .ringWakeFrame 8,
    .ringIrqForward 7 0, .ringIrqForward 0 139, .ringFwdRead (.ce 8), .sharedGateForward 7 0 0 0 0 0 0 0, .sharedGateForward 0 139 0 0 0 0 0 0,
    .sharedGateForward 0 0 16 0 0 0 0 0, .sharedGateForward 0 0 0 7 0 0 0 0, .sharedGateForward 0 0 0 0 0 0 4 0,
    .sharedAdmissionApply 139 0 false, .sharedAdmissionApply 0 16 false, .interruptEntry 12, .haltResume 12, .resultLanding 12, .iIll 12,
    .iAdd 12 0 0 0, .iAdd 0 32 0 0, .iAdd 0 0 32 0, .iAdd 0 0 0 32, .iSub 12 0 0 0, .iSub 0 32 0 0, .iSub 0 0 32 0, .iSub 0 0 0 32,
    .iAnd 12 0 0 0, .iAnd 0 32 0 0, .iAnd 0 0 32 0, .iAnd 0 0 0 32, .iOr 12 0 0 0, .iOr 0 32 0 0] : List Instr).all (fun i => i.wf == false) = true := by
  decide +kernel

theorem test_wf_refuses_7 : ([.iOr 0 0 32 0, .iOr 0 0 0 32, .iXor 12 0 0 0, .iXor 0 32 0 0, .iXor 0 0 32 0, .iXor 0 0 0 32, .iNor 12 0 0 0, .iNor 0 32 0 0, .iNor 0 0 32 0,
    .iNor 0 0 0 32, .iSll 12 0 0 0, .iSll 0 32 0 0, .iSll 0 0 32 0, .iSll 0 0 0 32, .iSrl 12 0 0 0, .iSrl 0 32 0 0, .iSrl 0 0 32 0,
    .iSrl 0 0 0 32, .iSra 12 0 0 0, .iSra 0 32 0 0, .iSra 0 0 32 0, .iSra 0 0 0 32, .iSlli 12 0 0 0, .iSlli 0 32 0 0, .iSlli 0 0 32 0,
    .iSlli 0 0 0 32, .iSrli 12 0 0 0, .iSrli 0 32 0 0, .iSrli 0 0 32 0, .iSrli 0 0 0 32, .iSrai 12 0 0 0, .iSrai 0 32 0 0, .iSrai 0 0 32 0,
    .iSrai 0 0 0 32, .iMin 12 0 0 0, .iMin 0 32 0 0, .iMin 0 0 32 0, .iMin 0 0 0 32, .iMax 12 0 0 0, .iMax 0 32 0 0, .iMax 0 0 32 0,
    .iMax 0 0 0 32, .iMinu 12 0 0 0, .iMinu 0 32 0 0, .iMinu 0 0 32 0, .iMinu 0 0 0 32, .iMaxu 12 0 0 0, .iMaxu 0 32 0 0, .iMaxu 0 0 32 0,
    .iMaxu 0 0 0 32, .iClz 12 0 0, .iClz 0 32 0, .iClz 0 0 32, .iBswap 12 0 0, .iBswap 0 32 0, .iBswap 0 0 32, .iAdds 12 0 0 0, .iAdds 0 32 0 0,
    .iAdds 0 0 32 0, .iAdds 0 0 0 32] : List Instr).all (fun i => i.wf == false) = true := by
  decide +kernel

theorem test_wf_refuses_8 : ([.iSubs 12 0 0 0, .iSubs 0 32 0 0, .iSubs 0 0 32 0, .iSubs 0 0 0 32, .iMul 12 0 0 0, .iMul 0 32 0 0, .iMul 0 0 32 0, .iMul 0 0 0 32,
    .iMulh 12 0 0 0, .iMulh 0 32 0 0, .iMulh 0 0 32 0, .iMulh 0 0 0 32, .iMulhu 12 0 0 0, .iMulhu 0 32 0 0, .iMulhu 0 0 32 0, .iMulhu 0 0 0 32,
    .iMac 12 0 0 0, .iMac 0 32 0 0, .iMac 0 0 32 0, .iMac 0 0 0 32, .iDiv 12 0 0 0, .iDiv 0 32 0 0, .iDiv 0 0 32 0, .iDiv 0 0 0 32,
    .iDivu 12 0 0 0, .iDivu 0 32 0 0, .iDivu 0 0 32 0, .iDivu 0 0 0 32, .iRem 12 0 0 0, .iRem 0 32 0 0, .iRem 0 0 32 0, .iRem 0 0 0 32,
    .iRemu 12 0 0 0, .iRemu 0 32 0 0, .iRemu 0 0 32 0, .iRemu 0 0 0 32, .iCeq 12 0 0 0, .iCeq 0 32 0 0, .iCeq 0 0 32 0, .iCeq 0 0 0 32,
    .iCne 12 0 0 0, .iCne 0 32 0 0, .iCne 0 0 32 0, .iCne 0 0 0 32, .iClt 12 0 0 0, .iClt 0 32 0 0, .iClt 0 0 32 0, .iClt 0 0 0 32,
    .iCltu 12 0 0 0, .iCltu 0 32 0 0, .iCltu 0 0 32 0, .iCltu 0 0 0 32, .iCle 12 0 0 0, .iCle 0 32 0 0, .iCle 0 0 32 0, .iCle 0 0 0 32,
    .iCleu 12 0 0 0, .iCleu 0 32 0 0, .iCleu 0 0 32 0, .iCleu 0 0 0 32] : List Instr).all (fun i => i.wf == false) = true := by
  decide +kernel

theorem test_wf_refuses_9 : ([.iSel 12 0 0 0 0, .iSel 0 32 0 0 0, .iSel 0 0 32 0 0, .iSel 0 0 0 32 0, .iSel 0 0 0 0 32, .iAddi 12 0 0 0, .iAddi 0 32 0 0, .iAddi 0 0 32 0,
    .iAddi 0 0 0 65536, .iAndi 12 0 0 0, .iAndi 0 32 0 0, .iAndi 0 0 32 0, .iAndi 0 0 0 65536, .iOri 12 0 0 0, .iOri 0 32 0 0, .iOri 0 0 32 0,
    .iOri 0 0 0 65536, .iXori 12 0 0 0, .iXori 0 32 0 0, .iXori 0 0 32 0, .iXori 0 0 0 65536, .iLui 12 0 0, .iLui 0 32 0, .iLui 0 0 65536,
    .iClti 12 0 0 0, .iClti 0 32 0 0, .iClti 0 0 32 0, .iClti 0 0 0 65536, .iCltiu 12 0 0 0, .iCltiu 0 32 0 0, .iCltiu 0 0 32 0,
    .iCltiu 0 0 0 65536, .iCeqi 12 0 0 0, .iCeqi 0 32 0 0, .iCeqi 0 0 32 0, .iCeqi 0 0 0 65536, .iLdw 12 0 0 0, .iLdw 0 32 0 0, .iLdw 0 0 32 0,
    .iLdw 0 0 0 65536, .iLdh 12 0 0 0, .iLdh 0 32 0 0, .iLdh 0 0 32 0, .iLdh 0 0 0 65536, .iLdhu 12 0 0 0, .iLdhu 0 32 0 0, .iLdhu 0 0 32 0,
    .iLdhu 0 0 0 65536, .iLdb 12 0 0 0, .iLdb 0 32 0 0, .iLdb 0 0 32 0, .iLdb 0 0 0 65536, .iLdbu 12 0 0 0, .iLdbu 0 32 0 0, .iLdbu 0 0 32 0,
    .iLdbu 0 0 0 65536, .iStw 12 0 0 0, .iStw 0 32 0 0, .iStw 0 0 32 0, .iStw 0 0 0 65536] : List Instr).all (fun i => i.wf == false) = true := by
  decide +kernel

theorem test_wf_refuses_10 : ([.iSth 12 0 0 0, .iSth 0 32 0 0, .iSth 0 0 32 0, .iSth 0 0 0 65536, .iStb 12 0 0 0, .iStb 0 32 0 0, .iStb 0 0 32 0, .iStb 0 0 0 65536,
    .iLdwp 12 0 0 0, .iLdwp 0 32 0 0, .iLdwp 0 0 32 0, .iLdwp 0 0 0 65536, .iStwp 12 0 0 0, .iStwp 0 32 0 0, .iStwp 0 0 32 0, .iStwp 0 0 0 65536,
    .iSwp 12 0 0 0, .iSwp 0 32 0 0, .iSwp 0 0 32 0, .iSwp 0 0 0 32, .iIn 12 0 0 0 0 0, .iIn 0 32 0 0 0 0, .iIn 0 0 32 0 0 0,
    .iIn 0 0 0 65536 0 0, .iIn 0 0 0 0 7 0, .iOut 12 0 0 0 0, .iOut 0 32 0 0 0, .iOut 0 0 32 0 0, .iOut 0 0 0 65536 0, .iOut 0 0 0 0 7,
    .iInp 12 0 0 0 0 0, .iInp 0 32 0 0 0 0, .iInp 0 0 32 0 0 0, .iInp 0 0 0 65536 0 0, .iInp 0 0 0 0 7 0, .iOutp 12 0 0 0 0, .iOutp 0 32 0 0 0,
    .iOutp 0 0 32 0 0, .iOutp 0 0 0 65536 0, .iOutp 0 0 0 0 7, .iBz 12 0 0, .iBz 0 32 0, .iBz 0 0 2097152, .iBnz 12 0 0, .iBnz 0 32 0,
    .iBnz 0 0 2097152, .iJump 12 0, .iJump 0 67108864, .iCall 12 0, .iCall 0 67108864, .iJr 12 0, .iJr 0 32, .iCallr 12 0, .iCallr 0 32,
    .iRet 12, .iReti 12, .iLoop 12 0 0 1, .iLoop 0 3 0 1, .iLoop 0 0 32 1, .iLoop 0 0 0 0] : List Instr).all (fun i => i.wf == false) = true := by
  decide +kernel

theorem test_wf_refuses_11 : ([.iLoop 0 0 0 4096, .iLoopi 12 0 0 1, .iLoopi 0 3 0 1, .iLoopi 0 0 4096 1, .iLoopi 0 0 0 0, .iLoopi 0 0 0 4096, .iLbrk 12 0, .iLbrk 0 3,
    .iRep 12 false, .iMfc 12 0 0, .iMfc 0 32 0, .iMfc 0 0 256, .iMtc 12 0 0, .iMtc 0 32 0, .iMtc 0 0 256, .iSys 12 0, .iSys 0 65536, .iBrk 12 0,
    .iBrk 0 65536, .iHalt 12, .iSpill 12, .iFill 12, .reservedEncoding 12, .mboxPush (.ce 8) 0 0, .mboxPush .hk 32 0, .mboxPop (.ce 8) 0,
    .mboxPop .hk 32, .irqSoftSet (.ce 8) 0 false 0, .irqSoftSet .hk 12 false 0, .irqSoftClr (.ce 8) 0 false 0, .irqSoftClr .hk 12 false 0,
    .wbufWrite (.ce 8) 0 0, .wbufWrite .hk 16 0, .wcmd (.ce 8) 0 0 0, .wcmd .hk 2048 0 0, .wcmd .hk 0 64 0, .wcmd .hk 0 0 128, .wbufRel (.ce 8),
    .protWrite (.ce 8) 0, .protWrite .hk 4096, .pwPresent (.ce 8) 0 false, .pwPresent .hk 8 false, .pwChange (.ce 8) 0 false,
    .pwChange .hk 8 false, .pwClose (.ce 8) 0 false, .pwClose .hk 8 false, .lockoutEnd 8, .recRead (.ce 8) 0, .recRead .hk 4,
    .recWrite (.ce 8) 0, .recWrite .hk 4, .cntRead (.ce 8) 0, .cntRead .hk 4, .cntInc (.ce 8) 0, .cntInc .hk 4, .cntRaise (.ce 8) 0,
    .cntRaise .hk 4, .cntClear (.ce 8) 0, .cntClear .hk 4, .recErase (.ce 8) 0] : List Instr).all (fun i => i.wf == false) = true := by
  decide +kernel

theorem test_wf_refuses_12 : ([.recErase .hk 4, .recCommandDone 4, .skimMarginRead [] [] 17, .coreReload 12, .updStart (.ce 8) false, .updFinish (.ce 8) false,
    .updAbort (.ce 8) false, .chgTrialNext (.ce 8), .chgHoldAll (.ce 8), .chgReload (.ce 8) 0, .chgReload .hk 4096, .chgReady (.ce 8) 0,
    .chgReady .hk 4096, .chgSwitch (.ce 8), .chgReleaseAll (.ce 8), .chgHealthOk (.ce 8), .chgRestart (.ce 8), .rootProgram (.ce 8) 0 false,
    .rootProgram .hk 4 false, .rootSeal (.ce 8) false, .rootReturn (.ce 8) false, .attGo (.ce 8), .attReportDone 65536, .spiFrame [] 32 [],
    .udpRequest 2 0 0 0 0 false false [] [], .udpRequest 0 0 0 65536 0 false false [] [], .udpRequest 0 0 0 0 65536 false false [] [],
    .hostNop 256, .hostRead 256 0 0 0 [], .hostRead 0 256 0 0 [], .hostRead 0 0 4 0 [], .hostWrite 256 0 0 0 [] [], .hostWrite 0 256 0 0 [] [],
    .hostWrite 0 0 4 0 [] [], .hostReadFix 256 0 0 0 [], .hostReadFix 0 256 0 0 [], .hostReadFix 0 0 4 0 [], .hostWriteFix 256 0 0 0 [] [],
    .hostWriteFix 0 256 0 0 [] [], .hostWriteFix 0 0 4 0 [] [], .monRead 27 0 0 [], .monWrite 27 0 [] [], .monDump 27 0 0 [],
    .monBlockLoad 27 0 [] 0, .monHalt 12, .monStep 12 0, .monResume 12, .monEndDebug 12, .monPrintState 12, .eccFill (.ce 8),
    .scrubStep 6 0 0 [] false, .scrubStep 0 12 0 [] false, .scrubStep 0 0 0 [3, 1152] false, .logDeltaWrite (.ce 8) 0 0,
    .logDeltaWrite .hk 741 0, .limitationEnd (.chan 86) 0, .swiRawChange 48 false, .commitAcknowledgement 63 0, .commitAcknowledgement 0 7,
    .canThermalRecovery 6] : List Instr).all (fun i => i.wf == false) = true := by
  decide +kernel

theorem test_wf_refuses_13 : ([.canBusDominantTimeout 6, .canIntegrationComplete 8] : List Instr).all (fun i => i.wf == false) = true := by
  decide +kernel

/-! States for the tests. -/

/-- The state after reset with some register fields written. -/
def st (l : List (Loc × Nat)) : State := l.foldl (fun s x => s.wr x.1 x.2) State.reset
/-- Page A of a limp-home map that lists channel 3 for LIMP0, without its CRC. -/
def mapPage : List Byte := [34, 0xC5, 0, 0, 8] ++ List.replicate 31 0 ++ [7, 0] ++ List.replicate 22 0
/-- A state whose EEPROM holds copy A of a limp-home map that lists channel 3 for LIMP0. -/
def mapState : State := { State.reset with eeprom := mputBytes [] 0xFF (1344 * 64) (mapPage ++ (leBytes (crc32c (mapPage.map BitVec.toNat)) 4).map (BitVec.ofNat 8)) }
/-- The state after reset with core 0 as given and a running clock. -/
def coreSt (k : Core) : State := { State.reset with core := [(0, k)], clk := { frozen := false, restarting := false } }
/-- The state after reset with the mailboxes as given. -/
def mboxSt (l : Table (List Nat)) : State := { State.reset with mbox := l }
/-- The state after reset in which the ROM can run. -/
def bootSt : State := { st [(CLK_STAT_PLL_LOCK.loc clkPage, 1)] with clk := { frozen := false, restarting := false }, sup := { State.reset.sup with alive := true, inReset := false } }
/-- A core that has just started is as it must be. -/
theorem coreOk_new (r : Bool) : ({ run := r } : Core).Ok := by
  constructor <;> simp [tget]
/-- Every core of a state with one running core is as it must be. -/
theorem coresOk_run (q : List Instr) : CoresOk { coreSt { run := true } with pending := q } := by
  intro c
  simp only [State.cr, coreSt, tget]
  split
  · exact coreOk_new true
  · exact coreOk_new false
/-- The memories of a state after reset are in their form. -/
theorem memoriesOk_run (q : List Instr) : MemoriesOk { coreSt { run := true } with pending := q } :=
  ⟨rfl, rfl, rfl, rfl, fun _ => ⟨rfl, rfl⟩⟩

/-! Single steps. -/

/-- A condition on the state that a command leads to. -/
def leads (i : Instr) (s : State) (p : State → Bool) : Bool :=
  match exec i s with
  | .next t => p t
  | .fault _ => false
  | .refused _ => false

/-- A running core 0 with w0 and w1 as given. -/
def twoRegs (a b : Nat) : State := coreSt { run := true, pc := 64, win := tput (tput [] 0 0 a) 1 0 b }

/-- What the next instruction of core 0 reads from w2. -/
def w2After (i : Instr) (s : State) (v : Nat) : Bool := leads i s fun t => (t.seen 0).reg 10 == v

/-! R486, R487: operations of the Sirham at their edges. -/

theorem test_add_wraps : w2After (.iAdd 0 10 8 9) (twoRegs 0xFFFFFFFF 2) 1 = true := by decide +kernel
theorem test_add_dest_is_source : leads (.iAdd 0 8 8 9) (twoRegs 5 6) (fun t => (t.seen 0).reg 8 == 11 && (t.seen 0).reg 9 == 6) = true := by decide +kernel
theorem test_sub_borrows : w2After (.iSub 0 10 8 9) (twoRegs 1 2) 0xFFFFFFFF = true := by decide +kernel
theorem test_sra_sign : w2After (.iSra 0 10 8 9) (twoRegs 0x80000000 36) 0xF8000000 = true := by decide +kernel
theorem test_srl_zero : w2After (.iSrl 0 10 8 9) (twoRegs 0x80000000 36) 0x08000000 = true := by decide +kernel
theorem test_clz_zero : w2After (.iClz 0 10 8) (twoRegs 0 0) 32 = true := by decide +kernel
theorem test_bswap : w2After (.iBswap 0 10 8) (twoRegs 0x11223344 0) 0x44332211 = true := by decide +kernel
theorem test_adds_saturates : w2After (.iAdds 0 10 8 9) (twoRegs 0x7FFFFFFF 1) 0x7FFFFFFF = true := by decide +kernel
theorem test_subs_saturates : w2After (.iSubs 0 10 8 9) (twoRegs 0x80000000 1) 0x80000000 = true := by decide +kernel
theorem test_clt_signed : w2After (.iClt 0 10 8 9) (twoRegs 0xFFFFFFFF 0) 1 = true := by decide +kernel
theorem test_cltu_unsigned : w2After (.iCltu 0 10 8 9) (twoRegs 0xFFFFFFFF 0) 0 = true := by decide +kernel
theorem test_addi_sign_extends : w2After (.iAddi 0 10 8 0xFFFF) (twoRegs 5 0) 4 = true := by decide +kernel
theorem test_mul_third : leads (.iMul 0 10 8 9) (twoRegs 6 7) (fun t => (t.seen 0).reg 10 == 0 && (t.seen 0).tick.reg 10 == 0 && (t.seen 0).tick.tick.reg 10 == 42) = true := by
  decide +kernel
theorem test_mulh_signed : leads (.iMulh 0 10 8 9) (twoRegs 0xFFFFFFFF 0xFFFFFFFF) (fun t => (t.seen 0).tick.tick.reg 10 == 0) = true := by decide +kernel
theorem test_mulhu_unsigned : leads (.iMulhu 0 10 8 9) (twoRegs 0xFFFFFFFF 0xFFFFFFFF) (fun t => (t.seen 0).tick.tick.reg 10 == 0xFFFFFFFE) = true := by decide +kernel
theorem test_div_truncates : leads (.iDiv 0 10 8 9) (twoRegs 0xFFFFFFF9 2) (fun t => t.cr 0 |>.pend.any fun p => p.left == 12 && p.val == 0xFFFFFFFD) = true := by decide +kernel
theorem test_rem_sign : leads (.iRem 0 10 8 9) (twoRegs 0xFFFFFFF9 2) (fun t => t.cr 0 |>.pend.any fun p => p.left == 12 && p.val == 0xFFFFFFFF) = true := by decide +kernel

/-! R488 to R500: memory, calls and traps. -/

theorem test_sth_big_value : leads (.iSth 0 8 9 2) (twoRegs 0x12345678 0x100) (fun t => t.dGet 0 0x100 4 == 0x56780000) = true := by decide +kernel
theorem test_ldh_sign : leads (.iLdh 0 10 9 0) { twoRegs 0 0x100 with dram := [(0, mputN [] 0 0x100 2 0x8001)] }
    (fun t => (t.seen 0).reg 10 == 0 && (t.seen 0).tick.reg 10 == 0xFFFF8001) = true := by decide +kernel
theorem test_ldw_misaligned : leads (.iLdw 0 10 9 2) (twoRegs 0 0x100) (fun t => (t.cr 0).ecause == 3 && (t.cr 0).epc == 64 && (t.cr 0).pc == 16 * 3 && (t.cr 0).frames == 2) = true := by
  decide +kernel
theorem test_call_slides : leads (.iCall 0 4) (twoRegs 0 0) (fun t => (t.cr 0).pc == 68 && (t.cr 0).frames == 1 && (t.cr 0).slot.isSome) = true := by decide +kernel
theorem test_sys_next : leads (.iSys 0 5) (twoRegs 0 0) (fun t => (t.cr 0).epc == 68 && (t.cr 0).eval == 5 && (t.cr 0).pc == 16 * 7 && (t.cr 0).exl && !(t.cr 0).ie) = true := by
  decide +kernel
theorem test_ret_underflow : leads (.iRet 0) (twoRegs 0 0) (fun t => (t.cr 0).wepc == 64 && (t.cr 0).wt && (t.cr 0).pc == 16 * 5 && (t.cr 0).frames == 1) = true := by decide +kernel

/-! R71, R65, R504, R511 and others: registers, mailboxes and pages. -/

theorem test_second_key_unlocks : leads (.lockkeyWrite (.ce 2) 0x10 0xA5A50010) (st [(H_LOCKSTAT_KEY1_SEEN.loc 0x10, 1)])
    (fun t => t.flag H_LOCKSTAT_UNLOCKED 0x10 && t.get H_LOCKSTAT_MASTER 0x10 == 3) = true := by decide +kernel
theorem test_second_key_first_fails : leads (.lockkeyWrite (.ce 2) 0x10 0xA5A50010) (st [])
    (fun t => !t.flag H_LOCKSTAT_UNLOCKED 0x10 && t.get H_LOCKSTAT_FAILS 0x10 == 1 && t.get H_EVT_CNT_REJECTED 0x10 == 1 && t.flag H_STAT_ERR 0x10) = true := by
  decide +kernel
theorem test_mailbox_ninth_word : leads (.mboxPush .hk 0 9) (mboxSt [(0, [1, 2, 3, 4, 5, 6, 7, 8])])
    (fun t => tget t.mbox 0 [] == [1, 2, 3, 4, 5, 6, 7, 8]) = true := by decide +kernel
/-- R511's example: 10 bytes at offset 60 go to offsets 60 to 63 and 0 to 5. -/
theorem test_page_write_wraps : (eeStore State.reset 3 60 [10, 11, 12, 13, 14, 15, 16, 17, 18, 19]).eeprom =
    [(192, 14), (193, 15), (194, 16), (195, 17), (196, 18), (197, 19), (252, 10), (253, 11), (254, 12), (255, 13)] := by decide +kernel
/-- The usual check values of CRC-32C and of CRC-8 with polynomial 0x07 over the text 123456789. -/
theorem test_crc_check_values : crc32c ([49, 50, 51, 52, 53, 54, 55, 56, 57] : List Nat) = 0xE3069283 ∧ crc8 [49, 50, 51, 52, 53, 54, 55, 56, 57] = 0xF4 := by decide +kernel
/-- R582: an error in 16 adjacent columns meets each codeword once, one in 17 meets a codeword twice. -/
theorem test_adjacent_columns : ((List.range 16).all fun k => flipsOf ((List.range 16).map (7 + ·)) k == 1) = true ∧ flipsOf ((List.range 17).map (7 + ·)) 7 = 2 := by
  decide +kernel
/-- R581, R582, R584: one flipped bit is corrected, two in one codeword stay uncorrectable. -/
theorem test_scrub_two_flips : (scrubStep State.reset 2 0 0 [0, 16] false).isBad 2 0 0 = true ∧ (scrubStep State.reset 2 0 0 [0] false).isBad 2 0 0 = false := by
  decide +kernel
theorem test_no_word_is_a_command : decodeTableWord 32 0x20001000 = none := rfl
theorem test_idle_clock_passes : step State.reset = .next (ringTick State.reset) := rfl
/-- A state in which core 0 issues and both of its operands are words. -/
theorem test_witness_Computes : (twoRegs 3 4).issues 0 = true ∧ ∀ r ∈ [8, 9], ((twoRegs 3 4).seen 0).reg r < 2 ^ 32 := by decide +kernel

/-! For every statement that has hypotheses: states and operands that meet them. -/

theorem test_witness_StepRunsFront : ∃ (s : State), (s.pending = []) :=
  ⟨State.reset, by decide +kernel⟩

theorem test_witness_BusCommands :
    (∃ (s b : State) (page off : Nat) (v : Word), (s.busAt page = b) ∧ (b.takes page off v.toNat = true) ∧ (page ≠ ahdPage ∨ off < 0x40 ∨ off %
      0x40 ≠ 0)) ∧
    (∃ (s : State) (i : Nat) (v : Word), (s.takes ahdPage (slotOff i 0) v.toNat = true) ∧ (s.flag H_STAT_HELD ahdPage = false)) ∧
    (∃ (s b : State) (page off : Nat), (s.busAt page = b) ∧ (b.clk.frozen = false) ∧ (pageUsed page = true) ∧ (b.pageOn page = true) ∧ (page ≠
      nvmPage) ∧ (page ≠ ahdPage ∨ off % 0x40 ≠ 0) ∧ (page ≠ nmkPage ∨ off ≠ 0x40) ∧ (b.flag H_STAT_HELD page = true) ∧ (holdExempt page off
      = false) ∧ (breaksKey b page off = false) ∧ ((tget b.shadow page []).length < 64)) ∧
    (∃ (s b : State) (page : Nat), (s.busAt page = b) ∧ (b.takes page 8 (4 * b2n (b.flag H_CTRL_HOLD page)) = true) ∧ (b.flag H_CTRL_EN page =
      true) ∧ (b.flag H_STAT_DRAINING page = false) ∧ (page ≠ govPage)) ∧
    (∃ (s b : State) (page : Nat), (s.busAt page = b) ∧ (b.takes page 8 (1 + 4 * b2n (b.flag H_CTRL_HOLD page)) = true) ∧ (b.flag H_CTRL_EN page
      = false) ∧ (b.flag H_STAT_DRAINING page = false) ∧ (page ≠ 0x7F ∨ b.flag CLK_CFG_REFCLK_OUT clkPage = true)) ∧
    (∃ (s : State) (page : Nat), (s.pageOn page = true) ∧ (s.flag H_STAT_DRAINING page = true) ∧ (s.drained page = true) ∧ (s.flag H_CTRL_EN
      page = false)) ∧
    (∃ (s b : State) (page : Nat), (s.busAt page = b) ∧ (b.takes page 8 (b2n (b.flag H_CTRL_EN page) + 2 + 4 * b2n (b.flag H_CTRL_HOLD page)) =
      true) ∧ (b.flag H_CTRL_EN page = false) ∧ (b.flag H_STAT_IDLE page = true) ∧ ((b.reached page).drained page = true) ∧ (page ≠ govPage)
      ∧ ((softReset (b.reached page) page).flag H_CTRL_EN page = false)) ∧
    (∃ (s b : State) (m : Master) (page : Nat), (s.busAt page = b) ∧ (b.takes page 8 (b2n (b.flag H_CTRL_EN page) + 4) = true) ∧ (m = .hk ∨ m =
      .host) ∧ (b.flag H_CTRL_HOLD page = false) ∧ (page ≠ govPage ∨ b.flag H_CTRL_EN page = true)) ∧
    (∃ (s b : State) (m : Master) (page : Nat), (s.busAt page = b) ∧ (b.takes page 8 (b2n (b.flag H_CTRL_EN page)) = true) ∧ (m = .hk ∨ m =
      .host) ∧ (b.flag H_CTRL_HOLD page = true) ∧ (page ≠ govPage ∨ b.flag H_CTRL_EN page = true) ∧ (page < 0x70 ∨ 0x74 ≤ page)) ∧
    (∃ (s : State) (page : Nat), (s.pageOn page = true) ∧ (s.flag H_STAT_HELD page = true) ∧ (s.flag H_CTRL_HOLD page = false)) ∧
    (∃ (s b : State) (page : Nat), (s.busAt page = b) ∧ (b.clk.frozen = false) ∧ (pageUsed page = true) ∧ (b.pageOn page = true) ∧ (page ≠
      nvmPage ∨ b.macroBusy = false)) ∧
    (∃ (s b : State) (page : Nat) (v : Word), (s.busAt page = b) ∧ (b.takes page 0x18 v.toNat = true)) ∧
    (∃ (s : State) (page : Nat) (v : Word), (s.takes page 0x10 v.toNat = true)) ∧
    (∃ (s : State) (page : Nat) (v event : Word), (s.takes page 0x10 v.toNat = true) ∧ (event ≠ 0)) ∧
    (∃ (s : State) (addr : Word), (s.clk.frozen = false) ∧ (addr.toNat % 4 = 0) ∧ (0x8B000 ≤ addr.toNat) ∧ (addr.toNat < 0x1100000 ∨ 0x1800000 ≤
      addr.toNat ∨ 0xA0000 ≤ addr.toNat % 0x100000)) ∧
    (∃ (s : State) (page n : Nat), (s.clk.frozen = false) ∧ (pageDomain page = some n) ∧ (pageUsed page = true) ∧ (s.domOn n = false) ∧ (s.flag
      PWR_DOMAIN_AUTOWAKE 2 n = false)) ∧
    (∃ (s : State) (c : Nat) (r : Stall), (c < 12) ∧ (s.stall = [(c, r)]) ∧ (r.window = 0) ∧ (r.nvm = false) ∧ (r.retry = false) ∧ (r.since +
      200000 ≤ s.tb)) ∧
    (∃ (s : State) (c n : Nat) (r : Stall), (c < 12) ∧ (s.stall = [(c, r)]) ∧ (r.window = n + 1) ∧ (r.retry = false) ∧ (r.since + 250000 ≤
      s.tb)) ∧
    (∃ (s : State) (m : Master) (d : Nat), ((tget s.stall m.key {}).window = 0) ∧ (s.isMaster = true) ∧ (bitOf (s.get RING_MAP ringPage) d =
      true)) :=
  ⟨⟨State.reset, State.reset, 4, 0x14, 7, by decide +kernel⟩,
   ⟨State.reset, 3, 0x300, by decide +kernel⟩,
   ⟨st [(H_STAT_HELD.loc 4, 1)], st [(H_STAT_HELD.loc 4, 1)], 4, 0x40, by decide +kernel⟩,
   ⟨st [(H_CTRL_EN.loc 0x70, 1)], st [(H_CTRL_EN.loc 0x70, 1)], 0x70, by decide +kernel⟩,
   ⟨State.reset, State.reset, 0x10, by decide +kernel⟩,
   ⟨st [(H_STAT_DRAINING.loc 0x70, 1)], 0x70, by decide +kernel⟩,
   ⟨State.reset, State.reset, 0x70, by decide +kernel⟩,
   ⟨State.reset, State.reset, .host, 0x70, by decide +kernel⟩,
   ⟨st [(H_CTRL_HOLD.loc 0x10, 1)], st [(H_CTRL_HOLD.loc 0x10, 1)], .host, 0x10, by decide +kernel⟩,
   ⟨st [(H_STAT_HELD.loc 0x10, 1)], 0x10, by decide +kernel⟩,
   ⟨State.reset, State.reset, 0x10, by decide +kernel⟩,
   ⟨State.reset, State.reset, 0x10, 2, by decide +kernel⟩,
   ⟨st [(H_IRQ_RAW.loc 0x10, 3)], 0x10, 2, by decide +kernel⟩,
   ⟨st [(H_IRQ_RAW.loc 0x10, 3)], 0x10, 2, 6, by decide +kernel⟩,
   ⟨State.reset, 0xB0000, by decide +kernel⟩,
   ⟨st [(PWR_DOMAIN_AUTOWAKE.loc 2 3, 0)] |>.setDom 3 { actual := .off }, 0x70, 3, by decide +kernel⟩,
   ⟨{ st [] with tb := 300000, stall := [(0, { page := 0x70 })] }, 0, { page := 0x70 }, by decide +kernel⟩,
   ⟨{ st [] with tb := 300000, stall := [(0, { page := 0x70, window := 3 })] }, 0, 2, { page := 0x70, window := 3 }, by decide +kernel⟩,
   ⟨st [(RING_STAT_ROLE.loc ringPage, 1), (RING_MAP.loc ringPage, 2)], .host, 1, by decide +kernel⟩⟩

theorem test_witness_SupplyCommands :
    (∃ (s : State), (s.sup.alive = false)) ∧
    (∃ (s : State), (s.sup.alive = true)) ∧
    (∃ (s : State), (s.sup.alive = true) ∧ (s.nvm.run = none) ∧ (∀ k, s.boot.wrote ≠ some (k, s.tb))) ∧
    (∃ (s : State), (s.sup.alive = true) ∧ (s.sup.uv = false)) ∧
    (∃ (s : State) (c : Nat), (s.sup.alive = true) ∧ (c < 22)) ∧
    (∃ (s : State) (k : Nat), (s.sup.alive = true) ∧ (s.nvm.run = none) ∧ (s.boot.wrote = some (k, s.tb))) ∧
    (∃ (s : State) (t : Nat), (s.sup.lowSince = some t) ∧ (s.sup.rst = false) ∧ (s.sup.alive = true) ∧ (s.sup.inReset = false) ∧ (s.tb - t <
      1000)) ∧
    (∃ (s : State) (t : Nat), (s.sup.lowSince = some t) ∧ (s.sup.rst = false) ∧ (s.sup.alive = true) ∧ (s.sup.inReset = false) ∧ (1000 ≤ s.tb -
      t) ∧ (s.tb - t < 10000000)) ∧
    (∃ (s : State) (t : Nat), (s.sup.lowSince = some t) ∧ (s.sup.rst = true) ∧ (s.sup.alive = true)) ∧
    (∃ (s : State) (t : Nat), (s.sup.lowSince = some t) ∧ (t + 10000000 ≤ s.tb) ∧ (s.sup.alive = true)) ∧
    (∃ (s : State) (p : Nat), (s.sup.alive = true) ∧ (s.sup.limpRead = false) ∧ (s.mapCopy = some p)) ∧
    (∃ (s : State), (s.sup.alive = true) ∧ (s.sup.limpRead = false) ∧ (s.mapCopy = none)) ∧
    (∃ (s : State), (s.sup.limpRead = false)) ∧
    (∃ (n : Nat) (active : Bool) (s : State), (s.sup.alive = true) ∧ (s.limpAct n = !active) ∧ (s.sup.limpRead = true)) ∧
    (∃ (s : State) (c : Nat), (s.sup.alive = true) ∧ (s.sup.limpRead = true) ∧ (s.domOn 7 = false) ∧ (s.sup.limpSlot ≤ s.tb / 250000) ∧
      ((List.range 62).find? s.limpDue = some c)) ∧
    (∃ (vbat vfld : Nat) (s : State), ((((s.set SUP_VBAT_VBAT_MV supPage vbat).set SUP_VBAT_VFLD_MV supPage vfld).each (List.range 8) fun u n =>
      vRiseVbat u n vbat).domOn 7 = false)) ∧
    (∃ (vbat vfld : Nat) (s : State), ((((s.set SUP_VBAT_VBAT_MV supPage vbat).set SUP_VBAT_VFLD_MV supPage vfld).each (List.range 8) fun u n =>
      vRiseVbat u n vbat).domOn 7 = true)) ∧
    (∃ (s : State), (s.flag GOV_QUEUE_SCALED govPage = false) ∧ (s.vbat < 9000)) ∧
    (∃ (s : State), (s.flag GOV_QUEUE_SCALED govPage = true ∨ 9000 ≤ s.vbat)) :=
  ⟨⟨{ State.reset with sup := { alive := false } }, by decide +kernel⟩,
   ⟨State.reset, by decide +kernel⟩,
   ⟨State.reset, ⟨by decide, by decide, fun _ h => nomatch h⟩⟩,
   ⟨State.reset, by decide +kernel⟩,
   ⟨State.reset, 4, by decide +kernel⟩,
   ⟨{ State.reset with boot := { wrote := some (1, 0) } }, 1, by decide +kernel⟩,
   ⟨{ State.reset with tb := 500, sup := { lowSince := some 0 } }, 0, by decide +kernel⟩,
   ⟨{ State.reset with tb := 5000, sup := { lowSince := some 0 } }, 0, by decide +kernel⟩,
   ⟨{ State.reset with sup := { lowSince := some 0, rst := true, inReset := true } }, 0, by decide +kernel⟩,
   ⟨{ State.reset with tb := 10000000, sup := { lowSince := some 0 } }, 0, by decide +kernel⟩,
   ⟨mapState, 1344, by decide +kernel⟩,
   ⟨State.reset, by decide +kernel⟩,
   ⟨State.reset, by decide +kernel⟩,
   ⟨2, true, { State.reset with sup := { limpRead := true } }, by decide +kernel⟩,
   ⟨{ (st [(SUP_STAT_LIMP_ACT.loc supPage, 1)]) with sup := { limpRead := true, limpMap := [8, 0, 0, 0] }, dom := [(7, { actual := .off })] }, 3, by decide +kernel⟩,
   ⟨13500, 24000, { State.reset with dom := [(7, { actual := .off })] }, by decide +kernel⟩,
   ⟨8000, 24000, st [(SUP_VBAT_VBAT_MV.loc 4, 13500)], by decide +kernel⟩,
   ⟨st [(SUP_VBAT_VBAT_MV.loc 4, 8000)], by decide +kernel⟩,
   ⟨st [(SUP_VBAT_VBAT_MV.loc 4, 13500)], by decide +kernel⟩⟩

theorem test_witness_WatchdogAndClockCommands :
    (∃ (s : State) (m : Master) (v : Word) (early : Bool), (s.takes wdgPage 0x44 v.toNat = true) ∧ (m = .hk) ∧ (v.toNat = s.kickValue) ∧ (11 *
      s.kickPoint ≤ 10 * s.wdgElapsed ∨ (9 * s.kickPoint ≤ 10 * s.wdgElapsed ∧ early = false))) ∧
    (∃ (s : State) (m : Master) (v : Word) (early : Bool), (s.takes wdgPage 0x44 v.toNat = true) ∧ (m ≠ .hk ∨ v.toNat ≠ s.kickValue ∨ 10 *
      s.wdgElapsed < 9 * s.kickPoint ∨ (10 * s.wdgElapsed < 11 * s.kickPoint ∧ early = true))) ∧
    (∃ (s : State), (s.sup.alive = true) ∧ (s.domOn 0 = true) ∧ (s.wdgPause = none) ∧ (900000 * s.wdgMs ≤ s.wdgElapsed) ∧ (s.get
      WDG_CFG_ESCALATE wdgPage = 0)) ∧
    (∃ (s : State), (s.wdgElapsed < 900000 * s.wdgMs ∨ s.wdgPause ≠ none)) ∧
    (∃ (s : State), (s.wdgReset = true)) ∧
    (∃ (s : State), (s.flag CLK_STAT_REF_ACT clkPage = false) ∧ (s.pllStopped = false) ∧ (s.clk.restarting = false)) ∧
    (∃ (s : State), (s.clk.frozen = false) ∧ (s.flag CLK_STAT_PLL_LOCK clkPage = true)) ∧
    (∃ (s : State), (s.clk.frozen = true) ∧ (s.clk.cause = 2) ∧ (s.clk.since + 200000 ≤ s.tb)) ∧
    (∃ (s : State) (v : Word), (s.takes clkPage 0x40 v.toNat = true) ∧ (s.flag H_LOCKSTAT_UNLOCKED clkPage = false ∨ v.toNat % 2 = s.get
      CLK_STAT_REF_ACT clkPage ∨ s.flag CLK_STAT_PLL_LOCK clkPage = false) ∧ (bitOf v.toNat 2 = s.flag CLK_CFG_LFXTAL_EN clkPage)) ∧
    (∃ (s : State) (v : Word), (s.takes clkPage 0x40 v.toNat = true) ∧ (s.flag H_LOCKSTAT_UNLOCKED clkPage = true) ∧ (v.toNat % 2 ≠ s.get
      CLK_STAT_REF_ACT clkPage) ∧ (bitOf v.toNat 2 = s.flag CLK_CFG_LFXTAL_EN clkPage) ∧ (s.flag CLK_STAT_PLL_LOCK clkPage = true)) ∧
    (∃ (s u : State), (s.clk.frozen = true) ∧ (u =
      ({ s with clk := { s.clk with frozen := false, cause := 0 }, cald := { s.cald with froze := true } } : State).each (List.range 8)
      vThaw)) ∧
    (∃ (s : State), (s.flag CLK_STAT_LF_ON_RC clkPage = false) ∧ (s.flag CLK_CFG_LFXTAL_EN clkPage = true) ∧ (s.onLf = false)) ∧
    (∃ (s : State), (s.flag CLK_STAT_LF_ON_RC clkPage = false) ∧ (s.flag CLK_CFG_LFXTAL_EN clkPage = true) ∧ (s.onLf = true)) ∧
    (∃ (s : State), (s.clk.restarting = true) ∧ (s.sup.alive = true) ∧ (s.sup.inReset = false) ∧ ((restartDone s).sup.cold = true) ∧
      ((restartDone s).clocksRun = true)) :=
  ⟨⟨State.reset, .hk, 0xC35A, false, by decide +kernel⟩,
   ⟨State.reset, .ce 1, 0xC35A, false, by decide +kernel⟩,
   ⟨{ (st [(WDG_CFG_ESCALATE.loc wdgPage, 0)]) with tb := 2000000000 }, by decide +kernel⟩,
   ⟨State.reset, by decide +kernel⟩,
   ⟨{ State.reset with wdgReset := true }, by decide +kernel⟩,
   ⟨{ State.reset with clk := { restarting := false } }, by decide +kernel⟩,
   ⟨st [(CLK_STAT_PLL_LOCK.loc clkPage, 1)], by decide +kernel⟩,
   ⟨{ State.reset with tb := 200000, clk := { frozen := true, cause := 2 } }, by decide +kernel⟩,
   ⟨State.reset, 4, by decide +kernel⟩,
   ⟨st [(CLK_STAT_PLL_LOCK.loc clkPage, 1), (H_LOCKSTAT_UNLOCKED.loc clkPage, 1)], 5, by decide +kernel⟩,
   ⟨{ State.reset with clk := { frozen := true } }, ({ State.reset with clk := { frozen := false }, cald := { froze := true } } : State).each (List.range 8) vThaw, by decide +kernel⟩,
   ⟨st [(TB_STAT_SRC.loc tbPage, 0)], by decide +kernel⟩,
   ⟨State.reset, by decide +kernel⟩,
   ⟨State.reset, by decide +kernel⟩⟩

theorem test_witness_TimeBaseCommands :
    (∃ (s : State) (v : Word), (s.takes tbPage 0x4C v.toNat = true) ∧ (s.ntOwns = false) ∧ (incOk (v.toNat % 65536) (s.get TB_INC_FRAC tbPage) =
      true) ∧ ((s.reached tbPage).ntOwns = false)) ∧
    (∃ (s : State) (v : Word), (s.takes tbPage 0x4C v.toNat = true) ∧ (incOk (v.toNat % 65536) (s.get TB_INC_FRAC tbPage) = false)) ∧
    (∃ (s : State) (t : Nat), (s.onLf = false) ∧ (s.tbHid.hold = false) ∧ (s.flag CLK_STAT_REF_ACT clkPage = false) ∧ (s.flag CLK_STAT_PLL_LOCK
      clkPage = true) ∧ (s.tbHid.trimFrom = some t)) ∧
    (∃ (s : State), (s.tbHid.hold = true) ∧ (s.onLf = false) ∧ (satAdd 32 (s.get TB_HANDOVER_RESID tbPage) (s.tbHid.holdCnt * (s.tbHid.incInt *
      2 ^ 32 + s.tbHid.incFrac) / 2 ^ 32) ≠ 0)) ∧
    (∃ (s : State), (s.onLf = true) ∧ (s.flag CLK_STAT_PLL_LOCK clkPage = true) ∧ (s.clk.frozen = false)) ∧
    (∃ (s : State), (s.takes tbPage 0x68 1 = true)) ∧
    (∃ (s : State), (s.takes tbPage 0x68 2 = true)) ∧
    (∃ (s : State), (s.uncRate ≠ 0) ∧ (s.flag TB_STAT_UNCERT_SAT tbPage = false)) ∧
    (∃ (s : State) (g : Nat) (v : Word), (g < 64) ∧ (s.takes (cmpPage g) (0x44 + 0x20 * (g % 16)) v.toNat = true) ∧ (s.get CMP_CFG_MODE (cmpPage
      g) (g % 16) = 1)) ∧
    (∃ (s : State) (g mode : Nat), (g < 64) ∧ (mode ≠ 1) ∧ (mode < 3) ∧ (s.takes (cmpPage g) (0x48 + 0x20 * (g % 16)) (plainRead s (cmpPage g)
      (0x48 + 0x20 * (g % 16)) / 4 * 4 + mode) = true)) ∧
    (∃ (s : State) (g : Nat), (s.cmpArmed g = true) ∧ (s.cmpPassed (s.cmpH g).val = true) ∧ ((s.cmpH g).late = false) ∧ (s.flag CMP_STAT_FIRED
      (cmpPage g) (g % 16) = false)) ∧
    (∃ (s : State) (g : Nat), (s.cmpArmed g = true) ∧ (s.cmpPassed (s.cmpH g).val = true) ∧ ((s.cmpH g).late = false) ∧ (s.flag CMP_STAT_FIRED
      (cmpPage g) (g % 16) = true)) ∧
    (∃ (s : State) (g src : Nat) (rising : Bool), (s.captures g src = true) ∧ (edgeTakes (s.get CMP_CFG_EDGE (cmpPage g) (g % 16)) rising =
      true) ∧ (s.flag CMP_STAT_CAPT (cmpPage g) (g % 16) = false)) ∧
    (∃ (s : State) (g src : Nat) (rising : Bool), (s.captures g src = true) ∧ (edgeTakes (s.get CMP_CFG_EDGE (cmpPage g) (g % 16)) rising =
      true) ∧ (s.flag CMP_STAT_CAPT (cmpPage g) (g % 16) = true)) ∧
    (∃ (s : State) (k src : Nat) (rising : Bool), (s.cascTakes k src = true) ∧ (0xE0 ≤ src ∨ edgeTakes (s.get CASC_CFG_EDGE cascPage k) rising =
      true) ∧ ((s.cascH k).write = none) ∧ (s.get CASC_CNT cascPage k + 1 < 2 ^ 32)) ∧
    (∃ (s : State) (k : Nat), (k % 2 = 1) ∧ ((s.cascH k).carry = true) ∧ ((s.cascH k).write = none) ∧ (s.flag CASC_CFG_LINK cascPage k = true) ∧
      (s.flag CASC_CFG_RUN cascPage k = true) ∧ (s.inPark = false) ∧ (s.get CASC_CNT cascPage k + 1 < 2 ^ 32)) ∧
    (∃ (s : State) (k : Nat) (v : Word), (s.takes cascPage (0x40 + 8 * k) v.toNat = true)) :=
  ⟨⟨st [(H_LOCKSTAT_UNLOCKED.loc tbPage, 1)], 5, by decide +kernel⟩,
   ⟨st [(H_LOCKSTAT_UNLOCKED.loc tbPage, 1)], 6, by decide +kernel⟩,
   ⟨{ st [(TB_STAT_SRC.loc tbPage, 0), (CLK_STAT_PLL_LOCK.loc clkPage, 1)] with tbHid := { trimFrom := some 0 } }, 0, by decide +kernel⟩,
   ⟨{ st [(TB_STAT_SRC.loc tbPage, 0)] with tbHid := { hold := true, holdCnt := 40 } }, by decide +kernel⟩,
   ⟨st [(CLK_STAT_PLL_LOCK.loc clkPage, 1)], by decide +kernel⟩,
   ⟨State.reset, by decide +kernel⟩,
   ⟨State.reset, by decide +kernel⟩,
   ⟨st [(TB_STAT_SRC.loc tbPage, 1), (CLK_STAT_LF_ON_RC.loc clkPage, 1)], by decide +kernel⟩,
   ⟨st [((CMP_CFG_MODE.loc 6 3), 1)], 3, 9, by decide +kernel⟩,
   ⟨st [((CMP_CFG_MODE.loc 6 3), 1), ((CMP_CFG_SRC.loc 6 3), 1)], 3, 2, by decide +kernel⟩,
   ⟨st [((CMP_STAT_ARMED.loc 6 3), 1)], 3, by decide +kernel⟩,
   ⟨st [((CMP_STAT_ARMED.loc 6 3), 1), ((CMP_STAT_FIRED.loc 6 3), 1)], 3, by decide +kernel⟩,
   ⟨st [((CMP_CFG_MODE.loc 6 3), 2), ((CMP_CFG_SRC.loc 6 3), 0x49), ((CMP_CFG_EDGE.loc 6 3), 3), ((CMP_STAT_CAPT.loc 6 3), 0)], 3, 0x49, true, by decide +kernel⟩,
   ⟨st [((CMP_CFG_MODE.loc 6 3), 2), ((CMP_CFG_SRC.loc 6 3), 0x49), ((CMP_CFG_EDGE.loc 6 3), 3), ((CMP_STAT_CAPT.loc 6 3), 1)], 3, 0x49, true, by decide +kernel⟩,
   ⟨st [(CASC_CFG_RUN.loc cascPage 2, 1), (CASC_CFG_SRC.loc cascPage 2, 0x49), (CASC_CFG_EDGE.loc cascPage 2, 3)], 2, 0x49, true, by decide +kernel⟩,
   ⟨st [(CASC_CFG_RUN.loc cascPage 3, 1), (CASC_CFG_LINK.loc cascPage 3, 1)] |>.setCasc 3 { carry := true }, 3, by decide +kernel⟩,
   ⟨State.reset, 3, 7, by decide +kernel⟩⟩

theorem test_witness_PowerDomainCommands :
    (∃ (s : State) (n order : Nat) (aw : Bool), (n < 12) ∧ (order < 4) ∧ (s.takes pwrPage (0x40 + 4 * n) (order + 256 * b2n aw) = true) ∧
      (((((s.reached pwrPage).put PWR_DOMAIN_AUTOWAKE pwrPage aw n).need n).orderRefused n order) = false)) ∧
    (∃ (s : State) (n order : Nat) (aw : Bool), (n < 12) ∧ (order < 4) ∧ (s.takes pwrPage (0x40 + 4 * n) (order + 256 * b2n aw) = true) ∧
      (((((s.reached pwrPage).put PWR_DOMAIN_AUTOWAKE pwrPage aw n).need n).orderRefused n order) = true)) ∧
    (∃ (s : State) (m : Master) (n order : Nat), (m ≠ .hk) ∧ (s.takes pwrPage (0x40 + 4 * n) order = true) ∧ (s.reqs.length < 16)) ∧
    (∃ (s : State) (m : Master) (n order : Nat), (m ≠ .hk) ∧ (s.takes pwrPage (0x40 + 4 * n) order = true) ∧ (16 ≤ s.reqs.length)) ∧
    (∃ (s : State) (e : PwrReq) (q : List PwrReq), (s.reqs = e :: q)) ∧
    (∃ (s : State), (s.reqs = [])) ∧
    (∃ (s : State) (n : Nat), ((s.getDom n).phase = .entering) ∧ (s.entryRest n = true)) ∧
    (∃ (s : State) (n : Nat), ((s.getDom n).phase = .ramping) ∧ (s.pllStopped = false) ∧ ((s.getDom n).actual = .off) ∧ ((s.getDom n).latched =
      none) ∧ (n ≠ 5)) ∧
    (∃ (s : State) (n : Nat), (s.domAdmits n = true)) ∧
    (∃ (s : State) (n : Nat) (e : GateEntry), (s.waiting (.dom n) = some e) ∧ (1 < e.rank) ∧ (e.t + s.get GOV_DEFER2_DOM govPage * 1000000 ≤
      s.tb) ∧ (s.gateOpen = true)) ∧
    (∃ (s : State), (s.takes rindPage 0x40 (2 ^ 12) = true)) ∧
    (∃ (s : State) (m : Master), (m ≠ .hk) ∧ (s.takes rindPage 0x40 (2 ^ 12) = true)) :=
  ⟨⟨State.reset, 3, 2, false, by decide +kernel⟩,
   ⟨State.reset, 0, 3, false, by decide +kernel⟩,
   ⟨State.reset, .ce 1, 3, 2, by decide +kernel⟩,
   ⟨{ State.reset with reqs := List.replicate 16 ⟨1, 2, 1⟩ }, .ce 1, 3, 2, by decide +kernel⟩,
   ⟨{ State.reset with reqs := [⟨1, 2, 1⟩] }, ⟨1, 2, 1⟩, [], by decide +kernel⟩,
   ⟨State.reset, by decide +kernel⟩,
   ⟨State.reset |>.setDom 3 { phase := .entering, target := .off }, 3, by decide +kernel⟩,
   ⟨State.reset |>.setDom 3 { phase := .ramping, actual := .off }, 3, by decide +kernel⟩,
   ⟨(({ st [(SUP_VBAT_VBAT_MV.loc 4, 13500)] with clk := { restarting := false } } : State).setDom 7 { phase := .queued, actual := .off }), 7, by decide +kernel⟩,
   ⟨{ State.reset with tb := 10000000000, gate := { queue := [{ req := .dom 3, rank := 6 }] } }, 3, { req := .dom 3, rank := 6 }, by decide +kernel⟩,
   ⟨State.reset, by decide +kernel⟩,
   ⟨State.reset, .se, by decide +kernel⟩⟩

theorem test_witness_WakeAndGateCommands :
    (∃ (s : State), (s.takes wakePage 0x44 (2 ^ 31) = true)) ∧
    (∃ (s : State) (v : Bool), (s.takes wakePage 0x58 (b2n v) = true)) ∧
    (∃ (s : State), (s.domOn 5 = false) ∧ (s.wakeOn 9 = true) ∧ ((localWake s).flag WAKE_DEFER_ACTIVE wakePage = false) ∧ ((localWake s).inPark
      = false)) ∧
    (∃ (s : State), (s.domOn 5 = false) ∧ (s.wakeOn 9 = true) ∧ ((localWake s).flag WAKE_DEFER_ACTIVE wakePage = true)) ∧
    (∃ (s : State), (s.takes wakePage 0x5C 4 = true) ∧ (s.flag WAKE_DEFER_ACTIVE wakePage = true)) ∧
    (∃ (s : State), (s.gate.slot < s.tb / 250000)) ∧
    (∃ (s : State) (e : GateEntry) (c : Nat), (s.gateHead = some e) ∧ (e.req = .chan c) ∧ (s.gateOpen = true) ∧ (s.admits e = true)) ∧
    (∃ (s : State) (e : GateEntry), (s.gateHead = some e) ∧ (e.req.isLoad = true) ∧ (s.gateOpen = true) ∧ (s.admits e = false)) ∧
    (∃ (s : State), (s.gateOpen = true)) ∧
    (∃ (s : State), (s.gateHead = none)) :=
  ⟨⟨State.reset, by decide +kernel⟩,
   ⟨State.reset, true, by decide +kernel⟩,
   ⟨st [(WAKE_SRC_EN.loc wakePage, 0x1FF)] |>.setDom 5 { actual := .off }, by decide +kernel⟩,
   ⟨st [(WAKE_SRC_EN.loc wakePage, 0x1FF), (WAKE_DEFER_ACTIVE.loc wakePage, 1)] |>.setDom 5 { actual := .off }, by decide +kernel⟩,
   ⟨st [(WAKE_DEFER_ACTIVE.loc wakePage, 1)], by decide +kernel⟩,
   ⟨{ State.reset with tb := 600000 }, by decide +kernel⟩,
   ⟨{ st [(SUP_VBAT_VBAT_MV.loc 4, 13500)] with gate := { queue := [{ req := .chan 3, x := 1000 }] } }, { req := .chan 3, x := 1000 }, 3, by decide +kernel⟩,
   ⟨{ st [(SUP_VBAT_VBAT_MV.loc 4, 5500)] with gate := { queue := [{ req := .chan 3, x := 1000 }] } }, { req := .chan 3, x := 1000 }, by decide +kernel⟩,
   ⟨State.reset, by decide +kernel⟩,
   ⟨State.reset, by decide +kernel⟩⟩

theorem test_witness_ChannelCommands :
    (∃ (s z s1 : State) (c : Nat) (v : Word), (z = s.commitsFirst) ∧ (z.takes (chPage c) ((cOn c).key / 32 % 4096) v.toNat = true) ∧ ((c < 62 ∧
      (z.reached (chPage c)).rd (cMode c) = 2) = False) ∧ (s1 = plainWrite (z.reached (chPage c)) (chPage c) ((cOn c).key / 32 % 4096)
      v.toNat) ∧ (s1.limpHolds c = false) ∧ (s1.safeAct c = false) ∧ (s1.chSt c = stOff) ∧ ((s1.isOn c && s1.accepts (chPage c)) = true)) ∧
    (∃ (s z s1 : State) (c : Nat) (v : Word), (z = s.commitsFirst) ∧ (z.takes (chPage c) ((cOn c).key / 32 % 4096) v.toNat = true) ∧ ((c < 62 ∧
      (z.reached (chPage c)).rd (cMode c) = 2) = False) ∧ (s1 = plainWrite (z.reached (chPage c)) (chPage c) ((cOn c).key / 32 % 4096)
      v.toNat) ∧ (s1.limpHolds c = false) ∧ (s1.safeAct c = false) ∧ (s1.chSt c = stOn) ∧ ((s1.isOn c && s1.accepts (chPage c)) = false)) ∧
    (∃ (s z : State) (c : Nat) (v : Word), (z = s.commitsFirst) ∧ (c < 62) ∧ (z.takes (chPage c) ((cOn c).key / 32 % 4096) v.toNat = true) ∧
      ((z.reached (chPage c)).rd (cMode c) = 2)) ∧
    (∃ (s : State) (c : Nat) (v : Word), (s.takes (chPage c) 0x44 v.toNat = true)) ∧
    (∃ (s : State) (c : Nat), (s.cf (cInrush c) = true) ∧ ((s.ch c).pauseFrom = none) ∧ (s.get HS_LIM_TINR (chPage c) * 100000 ≤ (s.ch
      c).winUsed + (s.tb - (s.ch c).winFrom)) ∧ ((s.closeWin c).chSt c = stInrush)) ∧
    (∃ (s : State) (c : Nat), (s.cf (cInrush c) = true) ∧ ((s.ch c).pauseFrom = none) ∧ ((s.ch c).capped = false)) ∧
    (∃ (s : State) (c t : Nat), (s.cf (cInrush c) = true) ∧ ((s.ch c).pauseFrom = some t)) ∧
    (∃ (s : State) (c t : Nat), ((s.ch c).pauseFrom = some t) ∧ (s.cf (cInrush c) = true) ∧ (2 * s.get HS_LIM_TINR (chPage c) * 100000 ≤ (s.ch
      c).paused + (s.tb - t))) ∧
    (∃ (s u : State) (c t : Nat), (c < 86) ∧ (u = (s.wr (cRetries c) 31).wr (cWeWait c) 0) ∧ ((s.ch c).retryEnd = some t) ∧ (s.chSt c =
      stRetryWait) ∧ (t ≤ s.tb) ∧ ((c < 62 ∧ (s.tb < s.cald.weFullUntil ∨ s.eWe c < s.sW c + (s.ch c).weLast)) = False) ∧ (s.pageOn (chPage
      c) = true) ∧ (s.rd (cRetries c) = 31)) ∧
    (∃ (s u : State) (c t n : Nat), (c < 86) ∧ (u = (s.wr (cRetries c) n).wr (cWeWait c) 0) ∧ ((s.ch c).retryEnd = some t) ∧ (s.chSt c =
      stRetryWait) ∧ (t ≤ s.tb) ∧ ((c < 62 ∧ (s.tb < s.cald.weFullUntil ∨ s.eWe c < s.sW c + (s.ch c).weLast)) = False) ∧ (s.pageOn (chPage
      c) = true) ∧ (s.rd (cRetries c) = n + 1) ∧ (n < 30) ∧ ((s.ch c).uncounted = false)) ∧
    (∃ (s : State) (c t : Nat), (c < 62) ∧ ((s.ch c).retryEnd = some t) ∧ (s.chSt c = stRetryWait) ∧ (t ≤ s.tb) ∧ (s.pageOn (chPage c) = true) ∧
      (s.tb < s.cald.weFullUntil ∨ s.eWe c < s.sW c + (s.ch c).weLast)) ∧
    (∃ (s : State) (c : Nat), (s.chSt c = stOn ∨ s.chSt c = stLimp) ∧ ((s.ch c).onFrom + 1000000000 ≤ s.tb)) ∧
    (∃ (s s1 : State) (c : Nat), (s.takes (chPage c) (chActOff c) 8 = true) ∧ (s1 = s.reached (chPage c)) ∧ (s1.fuseReset c ≤ sgn 16 (s1.rd
      (cWireT c)))) ∧
    (∃ (s s1 : State) (c : Nat), (s.takes (chPage c) (chActOff c) 8 = true) ∧ (s1 = s.reached (chPage c)) ∧ (¬ s1.fuseReset c ≤ sgn 16 (s1.rd
      (cWireT c)))) ∧
    (∃ (s s1 : State) (c : Nat), (s.takes (chPage c) (chActOff c) 4 = true) ∧ (s1 = s.reached (chPage c))) ∧
    (∃ (s s1 : State) (c : Nat), (s.takes (chPage c) (chActOff c) 16 = true) ∧ (s1 = s.reached (chPage c)) ∧ (s1.checkable c = true)) ∧
    (∃ (s : State) (c : Nat), (s.checkable c = true) ∧ ((s.ch c).check = 0) ∧ ((s.ch c).runTb + s.rd (cOffPeriod c) * 1000000 ≤ s.tb) ∧
      (s.pageOn (chPage c) = true)) ∧
    (∃ (s : State) (c : Nat), (s.checkable c = true) ∧ ((s.ch c).check = 1) ∧ ((s.ch c).checkTb + 500000 ≤ s.tb)) ∧
    (∃ (s : State) (c : Nat), (s.checkable c = true) ∧ ((s.ch c).check = 2) ∧ ((s.ch c).checkTb + 500000 ≤ s.tb)) ∧
    (∃ (s : State) (c : Nat), (s.checkable c = false)) ∧
    (∃ (s : State) (c : Nat), (conducting (s.chSt c) = false)) ∧
    (∃ (s u w : State) (c d per : Nat), (conducting (s.chSt c) = true) ∧ (s.rd (cMode c) ≠ 0) ∧ (s.clk.frozen = false) ∧ ((s.tb + pwmPeriod
      (s.ch c).freq - (s.ch c).phase * pwmPeriod (s.ch c).freq / 4096 % pwmPeriod (s.ch c).freq) % pwmPeriod (s.ch c).freq < 10) ∧ (u = (if
      (s.ch c).duty = 4095 then s else s.settleFilt c).showDuty c) ∧ (d = u.effDutyOf c) ∧ (per = pwmPeriod (u.rd (cFreq c))) ∧ (2 *
      u.edgeNs c ≤ d * per / 4095) ∧ (2 * u.edgeNs c ≤ per - d * per / 4095) ∧ (w = u.wr (cDutyClamp c) 0)) ∧
    (∃ (s : State) (c e : Nat), (conducting ((s.addWe c e).chSt c) = true) ∧ ((s.addWe c e).cf (cLimiting c) = true) ∧ ((s.addWe c e).pageOn
      (chPage c) = true) ∧ ((s.addWe c e).clk.frozen = false) ∧ ((s.addWe c e).eWe c ≤ (s.addWe c e).sW c)) :=
  ⟨⟨st [(cEn 3, 1)], (st [(cEn 3, 1)]).commitsFirst, plainWrite ((st [(cEn 3, 1)]).commitsFirst.reached (chPage 3)) (chPage 3) ((cOn 3).key / 32 % 4096) 1, 3, 1, by decide +kernel⟩,
   ⟨st [(cEn 3, 1), (cState 3, 3), (cOn 3, 1)], (st [(cEn 3, 1), (cState 3, 3), (cOn 3, 1)]).commitsFirst, plainWrite ((st [(cEn 3, 1), (cState 3, 3), (cOn 3, 1)]).commitsFirst.reached (chPage 3)) (chPage 3) ((cOn 3).key / 32 % 4096) 0, 3, 0, by decide +kernel⟩,
   ⟨st [(cMode 3, 2)], (st [(cMode 3, 2)]).commitsFirst, 3, 1, by decide +kernel⟩,
   ⟨st [(H_LOCKSTAT_UNLOCKED.loc (chPage 3), 1)], 3, 0x20202020, by decide +kernel⟩,
   ⟨{ st [(cInrush 3, 1), (cState 3, 2)] with tb := 5000000000 }, 3, by decide +kernel⟩,
   ⟨{ st [(cInrush 3, 1), (cState 3, 2)] with tb := 5000000 }, 3, by decide +kernel⟩,
   ⟨({ st [(cInrush 3, 1), (cState 3, 2)] with tb := 5000000 } : State).upCh 3 fun x => { x with pauseFrom := some 4000000 }, 3, 4000000, by decide +kernel⟩,
   ⟨({ st [(cInrush 3, 1), (cState 3, 2)] with tb := 500000000 } : State).upCh 3 fun x => { x with pauseFrom := some 4000000 }, 3, 4000000, by decide +kernel⟩,
   ⟨({ st [(cState 3, 5), (cRetries 3, 31)] with tb := 500000000 } : State).upCh 3 fun x => { x with retryEnd := some 4000000 }, ((({ st [(cState 3, 5), (cRetries 3, 31)] with tb := 500000000 } : State).upCh 3 fun x => { x with retryEnd := some 4000000 }).wr (cRetries 3) 31).wr (cWeWait 3) 0, 3, 4000000, by decide +kernel⟩,
   ⟨({ st [(cState 3, 5), (cRetries 3, 2)] with tb := 500000000 } : State).upCh 3 fun x => { x with retryEnd := some 4000000 }, ((({ st [(cState 3, 5), (cRetries 3, 2)] with tb := 500000000 } : State).upCh 3 fun x => { x with retryEnd := some 4000000 }).wr (cRetries 3) 1).wr (cWeWait 3) 0, 3, 4000000, 1, by decide +kernel⟩,
   ⟨(({ st [(cState 3, 5), (cRetries 3, 2)] with tb := 500000000 } : State).upCh 3 fun x => { x with retryEnd := some 4000000 }).upCh 3 fun x => { x with weLast := 40000 }, 3, 4000000, by decide +kernel⟩,
   ⟨{ st [(cState 3, 3)] with tb := 2000000000 }, 3, by decide +kernel⟩,
   ⟨st [(cWireT 3, 3000)], (st [(cWireT 3, 3000)]).reached (chPage 3), 3, by decide +kernel⟩,
   ⟨st [(cWireT 3, 100)], (st [(cWireT 3, 100)]).reached (chPage 3), 3, by decide +kernel⟩,
   ⟨State.reset, (State.reset).reached (chPage 3), 3, by decide +kernel⟩,
   ⟨st [(SUP_VBAT_VBAT_MV.loc 4, 13500), (cStbEn 3, 1)], (st [(SUP_VBAT_VBAT_MV.loc 4, 13500), (cStbEn 3, 1)]).reached (chPage 3), 3, by decide +kernel⟩,
   ⟨{ st [(SUP_VBAT_VBAT_MV.loc 4, 13500), (cStbEn 3, 1)] with tb := 10000000000 }, 3, by decide +kernel⟩,
   ⟨({ st [(SUP_VBAT_VBAT_MV.loc 4, 13500), (cStbEn 3, 1)] with tb := 10000000 } : State).upCh 3 fun x => { x with check := 1 }, 3, by decide +kernel⟩,
   ⟨({ st [(SUP_VBAT_VBAT_MV.loc 4, 13500), (cStbEn 3, 1)] with tb := 10000000 } : State).upCh 3 fun x => { x with check := 2 }, 3, by decide +kernel⟩,
   ⟨State.reset, 3, by decide +kernel⟩,
   ⟨State.reset, 3, by decide +kernel⟩,
   ⟨({ st [(cState 3, 3), (cMode 3, 1), (cDuty 3, 2000), (cFreq 3, 100)] with tb := 0, clk := { frozen := false, restarting := false } } : State), (({ st [(cState 3, 3), (cMode 3, 1), (cDuty 3, 2000), (cFreq 3, 100)] with tb := 0, clk := { frozen := false, restarting := false } } : State)).showDuty 3, ((({ st [(cState 3, 3), (cMode 3, 1), (cDuty 3, 2000), (cFreq 3, 100)] with tb := 0, clk := { frozen := false, restarting := false } } : State)).showDuty 3).wr (cDutyClamp 3) 0, 3, 2000, 10000000, by decide +kernel⟩,
   ⟨{ st [(cState 3, 3), (cLimiting 3, 1), (cWe 3, 0)] with clk := { frozen := false, restarting := false } }, 3, 2000, by decide +kernel⟩⟩

theorem test_witness_ChannelStageCommands :
    (∃ (s : State) (c : Nat), (conducting (s.chSt c) = true) ∧ (s.cf (cLimiting c) = false) ∧ ((s.ch c).clearFrom = none)) ∧
    (∃ (s : State) (c t : Nat), (conducting (s.chSt c) = true) ∧ (s.cf (cLimiting c) = false) ∧ ((s.ch c).clearFrom = some t)) ∧
    (∃ (s : State) (c : Nat), (s.cf (cLimiting c) = true)) ∧
    (∃ (s : State) (c : Nat), (conducting (s.chSt c) = true) ∧ (s.cf (cLimiting c) = true) ∧ (s.pageOn (chPage c) = true) ∧ (s.clk.frozen =
      false) ∧ (tfiltNs (s.rd (cTfilt c)) ≤ s.limTime c)) ∧
    (∃ (s : State) (c : Nat), ((s.ch c).preheat = false) ∧ (s.pageOn (chPage c) = true) ∧ (conducting (s.chSt c) = true)) ∧
    (∃ (s : State) (c e we : Nat), ((s.addWe c we).chSt c = stTurnOff) ∧ (((s.addWe c we).addClamp c e).pageOn (chPage c) = true)) ∧
    (∃ (s : State) (c e we : Nat), ((s.addWe c we).chSt c = stTurnOff) ∧ (((s.addWe c we).addClamp c e).pageOn (chPage c) = false)) ∧
    (∃ (s : State) (c : Nat), (c < 62) ∧ ((s.ch c).latch = false) ∧ (s.pageOn (chPage c) = true) ∧ (s.coupledNow c = false) ∧ (s.chSt c =
      stLocked)) ∧
    (∃ (s : State) (c : Nat), (62 ≤ c) ∧ ((s.ch c).latch = false) ∧ ((s.ch c).retryEnd = none) ∧ (s.pageOn (chPage c) = true) ∧ (conducting
      ((((s.wr (cTlHold c) 1).chFault c (cfTherm c) 2).upCh c fun x => { x with latch := true }).chSt c) = true)) ∧
    (∃ (s : State) (c : Nat), ((s.ch c).latch = true) ∧ (s.cf (cTlAuto c) = true) ∧ (sgn 16 (s.rd (cTj c)) ≤ Config.releaseTemp)) ∧
    (∃ (s s1 : State) (c : Nat), (s.takes (chPage c) (chActOff c) 1 = true) ∧ (s1 = s.reached (chPage c)) ∧ ((s1.ch c).latch = true) ∧
      (Config.releaseTemp < sgn 16 (s1.rd (cTj c)))) ∧
    (∃ (s s1 : State) (c : Nat), (s.takes (chPage c) (chActOff c) 1 = true) ∧ (s1 = s.reached (chPage c)) ∧ ((s1.ch c).latch = true) ∧ (¬
      Config.releaseTemp < sgn 16 (s1.rd (cTj c)))) ∧
    (∃ (s s1 : State) (c : Nat), (s.takes (chPage c) (chActOff c) 2 = true) ∧ (s1 = s.reached (chPage c)) ∧ (s1.budget c ≤ 4 * s1.rd (cFill c))) ∧
    (∃ (s s1 : State) (c : Nat), (s.takes (chPage c) (chActOff c) 2 = true) ∧ (s1 = s.reached (chPage c)) ∧ (¬ s1.budget c ≤ 4 * s1.rd (cFill
      c))) ∧
    (∃ (s : State) (c : Nat), (62 ≤ c) ∧ (s.pageOn (chPage c) = true)) ∧
    (∃ (s : State) (c : Nat), (c < 62) ∧ (s.domOn 7 = true) ∧ (s.chSt c = stTurnOff)) ∧
    (∃ (s : State) (c : Nat), (46 ≤ c) ∧ (c < 62) ∧ (s.domOn 7 = true) ∧ (s.chSt c ≠ stTurnOff)) :=
  ⟨⟨st [(cState 3, 3)], 3, by decide +kernel⟩,
   ⟨({ st [(cState 3, 3)] with tb := 60000 } : State).upCh 3 fun x => { x with clearFrom := some 0, filt := 7 }, 3, 0, by decide +kernel⟩,
   ⟨({ st [(cState 3, 3), (cLimiting 3, 1)] with tb := 60000 } : State).upCh 3 fun x => { x with level := true }, 3, by decide +kernel⟩,
   ⟨({ st [(cState 3, 3), (cLimiting 3, 1)] with tb := 60000000 } : State).upCh 3 fun x => { x with limFrom := some 0 }, 3, by decide +kernel⟩,
   ⟨st [(cState 3, 3)], 3, by decide +kernel⟩,
   ⟨st [(cState 3, 4)], 3, 4, 5, by decide +kernel⟩,
   ⟨{ (st [(cState 70, 4)]) with dom := [(9, { actual := .retention })] }, 70, 4, 5, by decide +kernel⟩,
   ⟨st [(cState 3, 7)], 3, by decide +kernel⟩,
   ⟨st [(cState 70, 3)], 70, by decide +kernel⟩,
   ⟨(st [(cTlAuto 3, 1)]).upCh 3 fun x => { x with latch := true }, 3, by decide +kernel⟩,
   ⟨(st [(cTj 3, 3000)]).upCh 3 fun x => { x with latch := true }, ((st [(cTj 3, 3000)]).upCh 3 fun x => { x with latch := true }).reached (chPage 3), 3, by decide +kernel⟩,
   ⟨(State.reset).upCh 3 fun x => { x with latch := true }, ((State.reset).upCh 3 fun x => { x with latch := true }).reached (chPage 3), 3, by decide +kernel⟩,
   ⟨st [(cFill 3, 65000)], (st [(cFill 3, 65000)]).reached (chPage 3), 3, by decide +kernel⟩,
   ⟨st [(cFill 3, 0)], (st [(cFill 3, 0)]).reached (chPage 3), 3, by decide +kernel⟩,
   ⟨State.reset, 70, by decide +kernel⟩,
   ⟨st [(cState 3, 4)], 3, by decide +kernel⟩,
   ⟨State.reset, 50, by decide +kernel⟩⟩

theorem test_witness_CalderaCommands :
    (∃ (s : State) (vpins : List Nat), ((swiVpins s vpins).domOn 7 = false)) ∧
    (∃ (s s0 s1 s2 s3 : State) (temps : List Int) (vpins : List Nat) (ivlf : Nat), (s0 = swiVpins s vpins) ∧ (s0.domOn 7 = true) ∧
      (s0.clk.frozen = false) ∧ (s1 = takeTemps (autoUnlock (bif s0.cald.froze then decayBuckets s0 s0.domOn (expNeg (s0.estUs * 1048576 /
      2000000)) 1073741824 else decayBuckets s0 s0.domOn decay1ms 1000000000000)) temps) ∧ (s2 = wireTick (bif (s1.cald.firstEst ||
      s1.cald.gap.isSome) then wireFirst s1 else s1) s0.estUs) ∧ (s3 = bif s2.domOn 11 then s2.set ACC_MEAS_I_VLF 0x82 ivlf else s2)) ∧
    (∃ (s : State) (t : Nat), (s.cald.underSince = some t) ∧ (s.flag H_CTRL_EN caldPage = true) ∧ (s.derated = true) ∧ (t + 100000000 ≤ s.tb) ∧
      (s.cald.lastUndo + 10000000 ≤ s.tb) ∧ (s.domOn 7 = true) ∧ (s.clk.frozen = false)) ∧
    (∃ (s : State), (s.domOn 7 = true) ∧ (s.flag H_CTRL_EN caldPage = false) ∧ (s.derated = true) ∧ (s.cald.lastUndo + 10000000 ≤ s.tb) ∧
      (s.clk.frozen = false)) ∧
    (∃ (s s1 : State) (p old : Nat) (r : List Derate), (s.cald.actions = .cap p old :: r) ∧ (s.domOn 7 = true) ∧ (s.flag H_CTRL_EN caldPage =
      false) ∧ (s.cald.lastUndo + 10000000 ≤ s.tb) ∧ (s.clk.frozen = false) ∧ (s.get (capFld p) caldPage + 512 < 4095) ∧ (s1 =
      { s with cald := { s.cald with actions := r, lastUndo := s.tb } }.set (capFld p) caldPage (s.get (capFld p) caldPage + 512))) ∧
    (∃ (s s1 : State) (u : Req) (r : List Derate), (s.cald.actions = .shed u :: r) ∧ (s.domOn 7 = true) ∧ (s.flag H_CTRL_EN caldPage = false) ∧
      (s.cald.lastUndo + 10000000 ≤ s.tb) ∧ (s.clk.frozen = false) ∧ (s1 =
      { s with cald := { s.cald with actions := r, lastUndo := s.tb } })) ∧
    (∃ (s : State) (v : Word), (s.takes caldPage 0x44 v.toNat = true)) ∧
    (∃ (s : State), (s.domOn 7 = true) ∧ (s.flag CALD_CFG_AMB_SRC caldPage = true) ∧ (s.flag CALD_AMB_STALE caldPage = false) ∧ (s.cald.ambTb +
      10000000000 ≤ s.tb)) :=
  ⟨⟨State.reset |>.setDom 7 { actual := .off }, [5000, 12000], by decide +kernel⟩,
   ⟨{ State.reset with clk := { frozen := false, restarting := false } }, _, _, _, _, [100], [5000, 12000], 5, rfl, by decide +kernel, by decide +kernel, rfl, rfl, rfl⟩,
   ⟨{ st [(H_CTRL_EN.loc caldPage, 1)] with tb := 200000000, clk := { frozen := false, restarting := false }, cald := { underSince := some 3, actions := [.cap 1 4095] } }, 3, by decide +kernel⟩,
   ⟨{ st [(H_CTRL_EN.loc caldPage, 0)] with tb := 200000000, clk := { frozen := false, restarting := false }, cald := { actions := [.shed (.chan 3)] } }, by decide +kernel⟩,
   ⟨{ st [(CALD_CAPS_P1.loc caldPage, 100), (H_CTRL_EN.loc caldPage, 0)] with tb := 200000000, clk := { frozen := false, restarting := false }, cald := { actions := [.cap 1 700] } }, ({ st [(CALD_CAPS_P1.loc caldPage, 100), (H_CTRL_EN.loc caldPage, 0)] with tb := 200000000, clk := { frozen := false, restarting := false }, cald := { actions := [], lastUndo := 200000000 } } : State).set CALD_CAPS_P1 caldPage 612, 1, 700, [], by decide +kernel⟩,
   ⟨{ st [(H_CTRL_EN.loc caldPage, 0)] with tb := 200000000, clk := { frozen := false, restarting := false }, cald := { actions := [.shed (.chan 3)] } }, { st [(H_CTRL_EN.loc caldPage, 0)] with tb := 200000000, clk := { frozen := false, restarting := false }, cald := { actions := [], lastUndo := 200000000 } }, .chan 3, [], by decide +kernel⟩,
   ⟨State.reset, 400, by decide +kernel⟩,
   ⟨{ st [(CALD_CFG_AMB_SRC.loc caldPage, 1), (CALD_AMB_STALE.loc caldPage, 0)] with tb := 20000000000 }, by decide +kernel⟩⟩

theorem test_witness_BridgeCommands :
    (∃ (s z : State) (b : Nat) (v : Word), (z = s.commitsFirst) ∧ (z.takes (brPage b) (brOutOff b) v.toNat = true) ∧ (((z.reached (brPage
      b)).lead b != b || (z.reached (brPage b)).badDrive b (v.toNat % 8)) = true)) ∧
    (∃ (s z : State) (b : Nat) (v : Word) (s1 : State), (b < 20) ∧ (z = s.commitsFirst) ∧ (z.takes (brPage b) (brOutOff b) v.toNat = true) ∧
      (((z.reached (brPage b)).lead b != b || (z.reached (brPage b)).badDrive b (v.toNat % 8)) = false) ∧ (s1 = (plainWrite (z.reached
      (brPage b)) (brPage b) (brOutOff b) v.toNat).upBr b fun x => { x with auto := false }) ∧ (s1.brAccepts b = true) ∧ (s1.brSt b = bsOff)
      ∧ (driving (s1.rd (bDrive b)) = true)) ∧
    (∃ (s z : State) (b : Nat) (v : Word) (s1 : State), (b < 20) ∧ (z = s.commitsFirst) ∧ (z.takes (brPage b) (brOutOff b) v.toNat = true) ∧
      (((z.reached (brPage b)).lead b != b || (z.reached (brPage b)).badDrive b (v.toNat % 8)) = false) ∧ (s1 = (plainWrite (z.reached
      (brPage b)) (brPage b) (brOutOff b) v.toNat).upBr b fun x => { x with auto := false }) ∧ (s1.brAccepts b = true) ∧ (s1.brSt b = bsRun)
      ∧ (driving (s1.rd (bDrive b)) = false)) ∧
    (∃ (s z : State) (b : Nat) (v : Word) (s1 : State), (b < 20) ∧ (z = s.commitsFirst) ∧ (z.takes (brPage b) (brOutOff b) v.toNat = true) ∧
      (((z.reached (brPage b)).lead b != b || (z.reached (brPage b)).badDrive b (v.toNat % 8)) = false) ∧ (s1 = (plainWrite (z.reached
      (brPage b)) (brPage b) (brOutOff b) v.toNat).upBr b fun x => { x with auto := false }) ∧ (s1.brAccepts b = true) ∧ (s1.brSt b = bsRun)
      ∧ (driving (s1.rd (bDrive b)) = true) ∧ (driving ((z.reached (brPage b)).rd (bDrive b)) = true) ∧ ((s1.rd (bDrive b) != (s1.br
      b).lastDrive) = true)) ∧
    (∃ (s : State) (b l : Nat), (s.lead b = l) ∧ (s.brSt l = bsDirBrake) ∧ ((s.br l).timerEnd ≤ s.tb) ∧ ((s.br l).refused = false)) ∧
    (∃ (s : State) (b l : Nat), (s.lead b = l) ∧ ((s.br l).timerEnd ≤ s.tb) ∧ (s.brSt l = bsSafeBrake ∨ s.brSt l = bsStopped) ∧ ((s.br l).next ≠
      bsQueued)) ∧
    (∃ (s : State) (b l : Nat), (s.lead b = l) ∧ ((s.br l).timerEnd ≤ s.tb) ∧ (s.brSt l = bsSafeBrake ∨ s.brSt l = bsStopped) ∧ ((s.br l).next =
      bsQueued)) ∧
    (∃ (s : State) (b t : Nat), ((s.br b).stallFrom = some t) ∧ (t + s.stallNs b ≤ s.tb) ∧ (s.brSt b = bsRun) ∧ (b < 20)) ∧
    (∃ (s s1 : State) (b : Nat), (s.takes (brPage b) (if isGd b then 0x70 else 0x6C) 4 = true) ∧ (s1 = s.reached (brPage b)) ∧ (s1.brLatched b =
      false)) ∧
    (∃ (s : State) (b : Nat), (s.brFlows b = true) ∧ (s.gdOver b = true) ∧ ((s.br b).limFrom = none) ∧ ((s.br b).clearFrom = none)) ∧
    (∃ (s : State) (b t : Nat) (l : Bridge), (s.brFlows b = true) ∧ (s.gdOver b = true) ∧ ((s.br b).limFrom = none) ∧ ((s.br b).clearFrom = some
      t) ∧ (l = s.br (s.lead b))) ∧
    (∃ (s : State) (b t : Nat), ((s.br b).limFrom = some t) ∧ (isGd b = false ∨ s.gdOver b = false)) ∧
    (∃ (s : State) (b t : Nat), ((s.br b).limFrom = some t) ∧ (brTfiltNs (s.rd (bTfilt b)) ≤ (s.br b).filt + (s.tb - t)) ∧ (s.clk.frozen =
      false)) ∧
    (∃ (s : State) (b : Nat), (s.brFlows b = true)) ∧
    (∃ (s : State) (b eh el : Nat), (b < 20) ∧ (s.domOn 7 = true) ∧ (s.get HB_CLAMP_FILL_HS (brPage b) + eh < s.get HB_CLAMP_CFG_BUDGET (brPage
      b)) ∧ (s.get HB_CLAMP_FILL_LS (brPage b) + el < s.get HB_CLAMP_CFG_BUDGET (brPage b)) ∧ (s.get HB_CLAMP_CFG_BUDGET (brPage b) < 2 ^
      16)) ∧
    (∃ (s : State) (b : Nat), (b < 20) ∧ ((s.br b).latch = false)) ∧
    (∃ (s : State) (b : Nat), ((s.br b).latch = true) ∧ (s.flag HB_CFG_TL_AUTO (brPage b) = true) ∧ (sgn 16 (s.get HB_TJ (brPage b)) ≤
      Config.releaseTemp)) :=
  ⟨⟨State.reset, (State.reset).commitsFirst, 2, 7, by decide +kernel⟩,
   ⟨st [(bEn 2, 1)], (st [(bEn 2, 1)]).commitsFirst, 2, 1, (plainWrite ((st [(bEn 2, 1)]).commitsFirst.reached (brPage 2)) (brPage 2) (brOutOff 2) 1).upBr 2 fun x => { x with auto := false }, by decide +kernel⟩,
   ⟨st [(bEn 2, 1), (bState 2, 2)], (st [(bEn 2, 1), (bState 2, 2)]).commitsFirst, 2, 0, (plainWrite ((st [(bEn 2, 1), (bState 2, 2)]).commitsFirst.reached (brPage 2)) (brPage 2) (brOutOff 2) 0).upBr 2 fun x => { x with auto := false }, by decide +kernel⟩,
   ⟨st [(bEn 2, 1), (bState 2, 2), (bDrive 2, 1)], (st [(bEn 2, 1), (bState 2, 2), (bDrive 2, 1)]).commitsFirst, 2, 2, (plainWrite ((st [(bEn 2, 1), (bState 2, 2), (bDrive 2, 1)]).commitsFirst.reached (brPage 2)) (brPage 2) (brOutOff 2) 2).upBr 2 fun x => { x with auto := false }, by decide +kernel⟩,
   ⟨st [(bState 2, 4)], 2, 2, by decide +kernel⟩,
   ⟨st [(bState 2, 10)], 2, 2, by decide +kernel⟩,
   ⟨(st [(bState 2, 10)]).upBr 2 fun x => { x with next := bsQueued }, 2, 2, by decide +kernel⟩,
   ⟨({ st [(bState 2, 2)] with tb := 100000000000 } : State).upBr 2 fun x => { x with stallFrom := some 5 }, 2, 5, by decide +kernel⟩,
   ⟨(st [(bState 2, 6)]).upBr 2 fun x => { x with lockTrip := true }, ((st [(bState 2, 6)]).upBr 2 fun x => { x with lockTrip := true }).reached (brPage 2), 2, by decide +kernel⟩,
   ⟨st [(bState 2, 2)], 2, by decide +kernel⟩,
   ⟨({ (st [(bState 2, 2)]) with tb := 200000 } : State).upBr 2 fun x => { x with clearFrom := some 100, filt := 7 }, 2, 100, { clearFrom := some 100, filt := 7 }, by decide +kernel⟩,
   ⟨({ st [(bState 2, 2)] with tb := 1000 } : State).upBr 2 fun x => { x with limFrom := some 5 }, 2, 5, by decide +kernel⟩,
   ⟨({ st [(bState 2, 2)] with tb := 100000000000 } : State).upBr 2 fun x => { x with limFrom := some 5 }, 2, 5, by decide +kernel⟩,
   ⟨st [(bState 2, 2)], 2, by decide +kernel⟩,
   ⟨st [(HB_CLAMP_FILL_HS.loc 0x40, 3), (HB_CLAMP_FILL_LS.loc 0x40, 3)], 0, 4, 5, by decide +kernel⟩,
   ⟨st [(bState 2, 2)], 2, by decide +kernel⟩,
   ⟨(st [(HB_CFG_TL_AUTO.loc 0x42, 1), (HB_TJ.loc 0x42, 0)]).upBr 2 fun x => { x with latch := true }, 2, by decide +kernel⟩⟩

theorem test_witness_GateDriverAndRippleCommands :
    (∃ (s : State), (s.gate.pumpOn = true)) ∧
    (∃ (s : State) (g : Nat), (s.flag GD_PARK_EN (0x54 + g) = true) ∧ (s.brSt (20 + g) = bsRun) ∧ ((s.br (20 + g)).parkDue = true)) ∧
    (∃ (s s1 : State) (g : Nat), (s.takes (0x54 + g) 0x70 32 = true) ∧ (s1 = s.reached (0x54 + g)) ∧ (s1.brSt (20 + g) = bsOff)) ∧
    (∃ (s s1 : State) (g : Nat), (s.takes (0x54 + g) 0x70 32 = true) ∧ (s1 = s.reached (0x54 + g)) ∧ (s1.brSt (20 + g) ≠ bsOff)) ∧
    (∃ (s : State) (g t : Nat), ((s.eng g).lowFrom = some t) ∧ (t + 50000000 < s.tb) ∧ (s.brSt (20 + g) = bsRun) ∧ (s.flag RPE_CFG_EN rpePage g
      = true)) ∧
    (∃ (s : State) (g amp : Nat), (s.counts g = true) ∧ (s.brSt (20 + g) ≠ bsOff) ∧ ((s.eng g).lastCross = none) ∧ (s.get RPE_RIP_HYST rpePage g
      * (s.br (20 + g)).lastI ≤ amp * 100)) ∧
    (∃ (s : State) (g amp t : Nat), (s.counts g = true) ∧ (s.brSt (20 + g) ≠ bsOff) ∧ ((s.eng g).lastCross = some t) ∧ (4000000000 ≤ (s.tb - t)
      * 10 * s.ripFreq g) ∧ (s.get RPE_RIP_HYST rpePage g * (s.br (20 + g)).lastI ≤ amp * 100)) ∧
    (∃ (s : State) (g t : Nat), (s.brSt (20 + g) ≠ bsOff) ∧ ((s.eng g).lastCross = some t) ∧ ((s.tb - t) * 10 * s.ripFreq g < 4000000000)) ∧
    (∃ (s : State) (g amp : Nat), (s.brSt (20 + g) ≠ bsOff) ∧ (amp * 100 < s.get RPE_RIP_HYST rpePage g * (s.br (20 + g)).lastI)) ∧
    (∃ (s : State) (g : Nat), (s.counts g = true) ∧ (s.brSt (20 + g) = bsOff) ∧ (s.get RPE_RIP_FMIN rpePage g ≤ s.get RPE_F_EST_FREQ rpePage g)
      ∧ ((rpeCount (s.bump RPE_STAT_INSERTED rpePage g) g).get RPE_STAT_INSERTED rpePage g ≤ (rpeCount (s.bump RPE_STAT_INSERTED rpePage g)
      g).get RPE_TRAVEL_NORM_TOL rpePage g)) ∧
    (∃ (s : State) (g amp : Nat), (s.counts g = true) ∧ (s.brSt (20 + g) ≠ bsOff) ∧ (s.brSt (20 + g) ≠ bsReversing) ∧ ((s.br (20 + g)).auto =
      false) ∧ ((s.eng g).lastCross = none) ∧ (s.get RPE_RIP_HYST rpePage g * (s.br (20 + g)).lastI ≤ amp * 100) ∧ (g < 4) ∧ (-(s.get
      RPE_TRAVEL_MARGIN rpePage g : Int) ≤ s.pos g + s.countStep g) ∧ (s.pos g + s.countStep g ≤ (s.get RPE_TRAVEL_MAX rpePage g : Int) +
      (s.get RPE_TRAVEL_MARGIN rpePage g : Int))) ∧
    (∃ (s s1 : State) (g t : Nat), (s.counts g = true) ∧ (s.brSt (20 + g) ≠ bsOff) ∧ ((s.eng g).lastCross = some t) ∧ (16000000000 < (s.tb - t)
      * 10 * s.ripFreq g) ∧ (s1 = rpeCount ((s.upEng g fun x => { x with lastCross := some (t + 1000000000 / s.ripFreq g) }).bump
      RPE_STAT_INSERTED rpePage g) g) ∧ (s1.get RPE_TRAVEL_NORM_TOL rpePage g < s1.get RPE_STAT_INSERTED rpePage g)) ∧
    (∃ (s : State) (g : Nat), (s.takes rpePage (rpeOff g 0x34) 1 = true) ∧ ((s.reached rpePage).brSt (20 + g) ≠ bsRun)) ∧
    (∃ (s : State) (g : Nat), (s.takes rpePage (rpeOff g 0x34) 2 = true)) ∧
    (∃ (s s1 : State) (g : Nat) (v : Word), (s.takes rpePage (rpeOff g 0x30) (v.toNat ||| 2 ^ 31) = true) ∧ (s1 = (s.reached rpePage).set
      RPE_TARGET_POS rpePage ((v.toNat ||| 2 ^ 31) % 65536) g) ∧ ((((v.toNat ||| 2 ^ 31) % 65536 : Nat) : Int) < s1.pos g) ∧ (s1.flag
      RPE_STAT_NORM rpePage g = false)) ∧
    (∃ (s s1 : State) (g : Nat) (v : Word), (s.takes rpePage (rpeOff g 0x30) (v.toNat ||| 2 ^ 31) = true) ∧ (s1 = (s.reached rpePage).set
      RPE_TARGET_POS rpePage ((v.toNat ||| 2 ^ 31) % 65536) g) ∧ ((((v.toNat ||| 2 ^ 31) % 65536 : Nat) : Int) = s1.pos g)) ∧
    (∃ (s s1 : State) (g : Nat) (v : Word), (s.takes rpePage (rpeOff g 0x30) (v.toNat ||| 2 ^ 31) = true) ∧ (s1 = (s.reached rpePage).set
      RPE_TARGET_POS rpePage ((v.toNat ||| 2 ^ 31) % 65536) g) ∧ (s1.pos g < (((v.toNat ||| 2 ^ 31) % 65536 : Nat) : Int)) ∧ (s1.brSt (20 +
      g) ≠ bsReversing)) ∧
    (∃ (s : State) (g : Nat), (s.flag RPE_CFG_PINCH_EN rpePage g = false) ∧ (g < 4)) ∧
    (∃ (s : State) (g : Nat), (s.brSt (20 + g) = bsReversing) ∧ ((s.eng g).rev = .brake) ∧ ((s.eng g).revTb + s.get RPE_REV_DELAY rpePage g *
      1000000 ≤ s.tb)) ∧
    (∃ (s s1 : State) (g off : Nat) (v : Word), (s.takes rpePage off v.toNat = true) ∧ (s1 = s.reached rpePage) ∧ ((s1.brSt (20 + g) = bsRun ||
      (0x800 ≤ off && s1.flag RPE_PROF_LOCK rpePage)) = true)) ∧
    (∃ (s s1 : State) (g off : Nat) (v : Word), (s.takes rpePage off v.toNat = true) ∧ (s1 = s.reached rpePage) ∧ ((s1.brSt (20 + g) = bsRun ||
      (0x800 ≤ off && s1.flag RPE_PROF_LOCK rpePage)) = false)) :=
  ⟨⟨{ State.reset with gate := { pumpOn := true } }, by decide +kernel⟩,
   ⟨(st [(GD_PARK_EN.loc 0x55, 1), (bState 21, 2)]).upBr 21 fun x => { x with parkDue := true }, 1, by decide +kernel⟩,
   ⟨State.reset, State.reset.reached 0x55, 1, by decide +kernel⟩,
   ⟨st [(bState 21, 2)], (st [(bState 21, 2)]).reached 0x55, 1, by decide +kernel⟩,
   ⟨({ st [(bState 21, 2), (RPE_CFG_EN.loc rpePage 1, 1)] with tb := 90000000 } : State).upEng 1 fun x => { x with lowFrom := some 4 }, 1, 4, by decide +kernel⟩,
   ⟨{ st [(RPE_CFG_EN.loc rpePage 1, 1), (bState 21, 2), (RPE_RIP_FMAX.loc rpePage 1, 900), (RPE_TRAVEL_MAX.loc rpePage 1, 500), (RPE_STAT_INSERTED.loc rpePage 1, 90), (RPE_TRAVEL_NORM_TOL.loc rpePage 1, 9)] with tb := 900000000000, clk := { frozen := false, restarting := false } }, 1, 50, by decide +kernel⟩,
   ⟨({ st [(RPE_CFG_EN.loc rpePage 1, 1), (bState 21, 2), (RPE_RIP_FMAX.loc rpePage 1, 900), (RPE_TRAVEL_MAX.loc rpePage 1, 500), (RPE_STAT_INSERTED.loc rpePage 1, 90), (RPE_TRAVEL_NORM_TOL.loc rpePage 1, 9)] with tb := 900000000000, clk := { frozen := false, restarting := false } } : State).upEng 1 fun x => { x with lastCross := some 4 }, 1, 50, 4, by decide +kernel⟩,
   ⟨(st [(bState 21, 2)]).upEng 1 fun x => { x with lastCross := some 0 }, 1, 0, by decide +kernel⟩,
   ⟨(st [(bState 21, 2), (RPE_RIP_HYST.loc rpePage 1, 20)]).upBr 21 fun x => { x with lastI := 400 }, 1, 1, by decide +kernel⟩,
   ⟨{ st [(RPE_CFG_EN.loc rpePage 1, 1), (RPE_TRAVEL_NORM_TOL.loc rpePage 1, 9), (RPE_F_EST_FREQ.loc rpePage 1, 900)] with clk := { frozen := false, restarting := false } }, 1, by decide +kernel⟩,
   ⟨{ st [(RPE_CFG_EN.loc rpePage 1, 1), (bState 21, 2), (RPE_RIP_FMAX.loc rpePage 1, 900), (RPE_TRAVEL_MAX.loc rpePage 1, 500), (RPE_STAT_INSERTED.loc rpePage 1, 90), (RPE_TRAVEL_NORM_TOL.loc rpePage 1, 9)] with tb := 900000000000, clk := { frozen := false, restarting := false } }, 1, 50, by decide +kernel⟩,
   ⟨({ st [(RPE_CFG_EN.loc rpePage 1, 1), (bState 21, 2), (RPE_RIP_FMAX.loc rpePage 1, 900), (RPE_TRAVEL_MAX.loc rpePage 1, 500), (RPE_STAT_INSERTED.loc rpePage 1, 90), (RPE_TRAVEL_NORM_TOL.loc rpePage 1, 9)] with tb := 900000000000, clk := { frozen := false, restarting := false } } : State).upEng 1 fun x => { x with lastCross := some 4 }, rpeCount (((({ st [(RPE_CFG_EN.loc rpePage 1, 1), (bState 21, 2), (RPE_RIP_FMAX.loc rpePage 1, 900), (RPE_TRAVEL_MAX.loc rpePage 1, 500), (RPE_STAT_INSERTED.loc rpePage 1, 90), (RPE_TRAVEL_NORM_TOL.loc rpePage 1, 9)] with tb := 900000000000, clk := { frozen := false, restarting := false } } : State).upEng 1 fun x => { x with lastCross := some 4 }).upEng 1 fun x => { x with lastCross := some (4 + 1000000000 / State.ripFreq (({ st [(RPE_CFG_EN.loc rpePage 1, 1), (bState 21, 2), (RPE_RIP_FMAX.loc rpePage 1, 900), (RPE_TRAVEL_MAX.loc rpePage 1, 500), (RPE_STAT_INSERTED.loc rpePage 1, 90), (RPE_TRAVEL_NORM_TOL.loc rpePage 1, 9)] with tb := 900000000000, clk := { frozen := false, restarting := false } } : State).upEng 1 fun x => { x with lastCross := some 4 }) 1) }).bump RPE_STAT_INSERTED rpePage 1) 1, 1, 4, by decide +kernel⟩,
   ⟨State.reset, 1, by decide +kernel⟩,
   ⟨State.reset, 1, by decide +kernel⟩,
   ⟨st [(RPE_POS.loc rpePage 1, 50)], ((st [(RPE_POS.loc rpePage 1, 50)]).reached rpePage).set RPE_TARGET_POS rpePage 7 1, 1, 7, by decide +kernel⟩,
   ⟨st [(RPE_POS.loc rpePage 1, 50)], ((st [(RPE_POS.loc rpePage 1, 50)]).reached rpePage).set RPE_TARGET_POS rpePage 50 1, 1, 50, by decide +kernel⟩,
   ⟨st [(RPE_POS.loc rpePage 1, 50)], ((st [(RPE_POS.loc rpePage 1, 50)]).reached rpePage).set RPE_TARGET_POS rpePage 70 1, 1, 70, by decide +kernel⟩,
   ⟨State.reset, 1, by decide +kernel⟩,
   ⟨({ st [(bState 21, 9)] with tb := 900000000000 } : State).upEng 1 fun x => { x with rev := .brake }, 1, by decide +kernel⟩,
   ⟨st [(bState 21, 2)], (st [(bState 21, 2)]).reached rpePage, 1, 0xA00, 70, by decide +kernel⟩,
   ⟨State.reset, State.reset.reached rpePage, 1, 0xA00, 70, by decide +kernel⟩⟩

theorem test_witness_ValveAndBankCommands :
    (∃ (s z s1 : State) (n : Nat) (v : Word), (z = s.commitsFirst) ∧ (z.takes (vPage n) 0x44 v.toNat = true) ∧ (s1 = z.reached (vPage n)) ∧
      (v.toNat % 2 = 1) ∧ (s1.vSt n = vsOff) ∧ ((s1.put VLV_OUT_ON (vPage n) true).accepts (vPage n) = true)) ∧
    (∃ (s z s1 : State) (n : Nat) (v : Word), (z = s.commitsFirst) ∧ (z.takes (vPage n) 0x44 v.toNat = true) ∧ (s1 = z.reached (vPage n)) ∧
      (v.toNat % 2 = 0) ∧ (s1.vSt n = vsHold)) ∧
    (∃ (s z s1 : State) (n : Nat) (v : Word), (z = s.commitsFirst) ∧ (z.takes (vPage n) 0x44 v.toNat = true) ∧ (s1 = z.reached (vPage n)) ∧
      (v.toNat % 2 = 0) ∧ (s1.vSt n = vsQueued)) ∧
    (∃ (s : State) (n : Nat), (s.vSt n = vsDeferred) ∧ ((s.vlv n).waitFrom + s.get VBK_CFG_OVERLAP_TMAX bankPage * 1000000 ≤ s.tb)) ∧
    (∃ (s s1 s2 : State) (n i : Nat), (s.vSt n = vsPeak) ∧ ((s.vlv n).reached = none) ∧ (s.peakTarget n ≤ i) ∧ (s1 = vDiagnose (s.upVlv n fun x
      => { x with reached := some s.tb }) n i true) ∧ (s1.vSt n = vsPeak) ∧ (s1.get VLV_CFG_MODE (vPage n) = 0 ∨ s1.get VLV_PH2_T_PEAK
      (vPage n) = 0) ∧ (s2 = (s1.upVlv n fun x => { x with ditherJ := 0 }).setV n (if s1.get VLV_CFG_MODE (vPage n) = 1 then vsHold else
      vsRegulate))) ∧
    (∃ (s s2 : State) (n t : Nat), (s.vSt n = vsPeak) ∧ ((s.vlv n).reached = some t) ∧ (t + s.get VLV_PH2_T_PEAK (vPage n) * 1000000 ≤ s.tb) ∧
      (s2 = (s.upVlv n fun x => { x with ditherJ := 0 }).setV n (if s.get VLV_CFG_MODE (vPage n) = 1 then vsHold else vsRegulate))) ∧
    (∃ (s : State) (n : Nat), (s.vSt n = vsPeak) ∧ ((s.vlv n).reached = none) ∧ (s.flag VLV_DIAG_DIP_EN (vPage n) = true)) ∧
    (∃ (s : State) (n : Nat), (s.vSt n = vsHold) ∧ ((s.tb % 50000 + 50000 - 6250 * n) % 50000 < 10) ∧ (s.clk.frozen = false)) ∧
    (∃ (s : State) (n mv ma : Nat), (n < 8) ∧ (s.coilQuiet n = true) ∧ (200 ≤ ma) ∧ (s.domOn 10 = true) ∧ (mv * 1000 / ma < 65536) ∧ (s.get
      VLV_N_MEAS (vPage n) < 2)) ∧
    (∃ (s : State), (s.domOn 8 = true)) ∧
    (∃ (s : State), (s.domOn 8 = false)) ∧
    (∃ (s : State) (n : Nat), (s.vSt n = vsRamp) ∧ ((s.vlv n).target ≤ 1000) ∧ ((s.vlv n).next ≠ vsDeferred)) ∧
    (∃ (s : State) (n : Nat), (s.vSt n = vsRamp) ∧ ((s.vlv n).target ≤ 1000) ∧ ((s.vlv n).next = vsDeferred)) ∧
    (∃ (s s1 : State) (n : Nat), (s.takes (vPage n) 0x74 4 = true) ∧ (s1 = s.reached (vPage n))) ∧
    (∃ (s : State) (n : Nat), (s.clk.frozen = true) ∧ (s.clk.since + 50000 < s.tb) ∧ (s.vDrives n = true) ∧ ((s.vlv n).limFrom = none) ∧ ((s.vlv
      n).clearFrom = none)) ∧
    (∃ (s : State) (n : Nat), (s.vDrives n = true) ∧ ((s.vlv n).limFrom = none) ∧ ((s.vlv n).clearFrom = none)) ∧
    (∃ (s : State) (n t : Nat), (s.vDrives n = true) ∧ ((s.vlv n).limFrom = none) ∧ ((s.vlv n).clearFrom = some t)) ∧
    (∃ (s : State) (n t : Nat), ((s.vlv n).limFrom = some t)) ∧
    (∃ (s : State) (n t : Nat), ((s.vlv n).limFrom = some t) ∧ (tfiltNs (s.get VLV_CFG_TFILT (vPage n)) ≤ (s.vlv n).filt + (s.tb - t)) ∧
      (s.clk.frozen = false)) ∧
    (∃ (s : State) (n : Nat), (s.vDrives n = true)) ∧
    (∃ (s s1 : State) (n e : Nat), (s1 = vClampCheck (vAddClamp s n e) n) ∧ ((s1.vlv n).pulse = 0)) ∧
    (∃ (s : State) (n : Nat), ((s.vlv n).latch = false)) ∧
    (∃ (s : State) (n : Nat), ((s.vlv n).latch = true) ∧ (s.flag VLV_CFG_TL_AUTO (vPage n) = true) ∧ ((s.vlv n).tj ≤ Config.releaseTemp)) ∧
    (∃ (s s1 : State) (n : Nat), (s.takes (vPage n) 0x74 1 = true) ∧ (s1 = s.reached (vPage n)) ∧ ((s1.vlv n).latch = true) ∧
      (Config.releaseTemp < (s1.vlv n).tj)) ∧
    (∃ (s s1 : State) (n : Nat), (s.takes (vPage n) 0x74 2 = true) ∧ (s1 = s.reached (vPage n)) ∧ (100 ≤ s1.get VLV_CLAMP_FILL (vPage n))) ∧
    (∃ (s s1 : State) (n : Nat), (s.takes (vPage n) 0x74 2 = true) ∧ (s1 = s.reached (vPage n)) ∧ (¬ 100 ≤ s1.get VLV_CLAMP_FILL (vPage n))) ∧
    (∃ (s : State) (n : Nat), (s.flag VBK_STAT_ON bankPage (bankOf n) = true)) ∧
    (∃ (s : State) (k : Nat), (s.flag VBK_STAT_ON bankPage k = true)) ∧
    (∃ (s : State) (k : Nat), (s.bankFiltered k = true)) ∧
    (∃ (s s1 : State) (k : Nat), (s.takes bankPage (0x114 + 0x20 * k) 1 = true) ∧ (s1 = s.reached bankPage) ∧ ((s1.bk k).latch = false)) ∧
    (∃ (s : State) (k : Nat), (s.flag VBK_STAT_ON bankPage k = true) ∧ ((s.bk k).limFrom = none) ∧ ((s.bk k).clearFrom = none)) ∧
    (∃ (s : State) (k t : Nat), ((s.bk k).limFrom = some t)) ∧
    (∃ (s : State) (k : Nat), ((s.bk k).latch = false)) ∧
    (∃ (s : State) (k : Nat), ((s.bk k).latch = true) ∧ (sgn 16 (s.get VBK_TJ bankPage k) ≤ Config.releaseTemp)) :=
  ⟨⟨st [(H_CTRL_EN.loc (vPage 2), 1)], (st [(H_CTRL_EN.loc (vPage 2), 1)]).commitsFirst, (st [(H_CTRL_EN.loc (vPage 2), 1)]).commitsFirst.reached (vPage 2), 2, 1, by decide +kernel⟩,
   ⟨st [(VLV_CHSTAT_STATE.loc (vPage 2), 4)], (st [(VLV_CHSTAT_STATE.loc (vPage 2), 4)]).commitsFirst, (st [(VLV_CHSTAT_STATE.loc (vPage 2), 4)]).commitsFirst.reached (vPage 2), 2, 0, by decide +kernel⟩,
   ⟨st [(VLV_CHSTAT_STATE.loc (vPage 2), 2)], (st [(VLV_CHSTAT_STATE.loc (vPage 2), 2)]).commitsFirst, (st [(VLV_CHSTAT_STATE.loc (vPage 2), 2)]).commitsFirst.reached (vPage 2), 2, 0, by decide +kernel⟩,
   ⟨{ st [(VLV_CHSTAT_STATE.loc (vPage 2), 1)] with tb := 90000000000 }, 2, by decide +kernel⟩,
   ⟨st [(VLV_CHSTAT_STATE.loc (vPage 2), 3), (VLV_CFG_MODE.loc (vPage 2), 0)], vDiagnose ((st [(VLV_CHSTAT_STATE.loc (vPage 2), 3), (VLV_CFG_MODE.loc (vPage 2), 0)]).upVlv 2 fun x => { x with reached := some 0 }) 2 2500 true, _, 2, 2500, by decide, by decide, by decide, rfl, by decide +kernel, by decide +kernel, rfl⟩,
   ⟨({ st [(VLV_CHSTAT_STATE.loc (vPage 2), 3)] with tb := 900000000000 } : State).upVlv 2 fun x => { x with reached := some 0 }, _, 2, 0, by decide, by decide, by decide, rfl⟩,
   ⟨st [(VLV_CHSTAT_STATE.loc (vPage 2), 3), (VLV_DIAG_DIP_EN.loc (vPage 2), 1)], 2, by decide +kernel⟩,
   ⟨{ st [(VLV_CHSTAT_STATE.loc (vPage 2), 4)] with tb := 12500, clk := { frozen := false, restarting := false } }, 2, by decide +kernel⟩,
   ⟨{ st [(VLV_CHSTAT_STATE.loc (vPage 2), 4)] with tb := 90000000 }, 2, 9000, 900, by decide +kernel⟩,
   ⟨State.reset, by decide +kernel⟩,
   ⟨State.reset |>.setDom 8 { actual := .off }, by decide +kernel⟩,
   ⟨st [(VLV_CHSTAT_STATE.loc (vPage 2), 6)], 2, by decide +kernel⟩,
   ⟨(st [(VLV_CHSTAT_STATE.loc (vPage 2), 6)]).upVlv 2 fun x => { x with next := vsDeferred }, 2, by decide +kernel⟩,
   ⟨State.reset, State.reset.reached (vPage 2), 2, by decide +kernel⟩,
   ⟨{ st [(VLV_CHSTAT_STATE.loc (vPage 2), 4)] with tb := 90000, clk := { frozen := true } }, 2, by decide +kernel⟩,
   ⟨st [(VLV_CHSTAT_STATE.loc (vPage 2), 4)], 2, by decide +kernel⟩,
   ⟨({ st [(VLV_CHSTAT_STATE.loc (vPage 2), 4)] with tb := 90000 } : State).upVlv 2 fun x => { x with clearFrom := some 7, filt := 9, duty := 4095 }, 2, 7, by decide +kernel⟩,
   ⟨(st [(VLV_CHSTAT_STATE.loc (vPage 2), 4)]).upVlv 2 fun x => { x with limFrom := some 0 }, 2, 0, by decide +kernel⟩,
   ⟨({ st [(VLV_CHSTAT_STATE.loc (vPage 2), 4)] with tb := 90000000000 } : State).upVlv 2 fun x => { x with limFrom := some 0 }, 2, 0, by decide +kernel⟩,
   ⟨st [(VLV_CHSTAT_STATE.loc (vPage 2), 4)], 2, by decide +kernel⟩,
   ⟨State.reset, vClampCheck (vAddClamp State.reset 2 0) 2, 2, 0, by decide +kernel⟩,
   ⟨st [(VLV_CHSTAT_STATE.loc (vPage 2), 4)], 2, by decide +kernel⟩,
   ⟨(st [(VLV_CFG_TL_AUTO.loc (vPage 2), 1)]).upVlv 2 fun x => { x with latch := true, tj := 0 }, 2, by decide +kernel⟩,
   ⟨(State.reset).upVlv 2 fun x => { x with latch := true, tj := 3000 }, ((State.reset).upVlv 2 fun x => { x with latch := true, tj := 3000 }).reached (vPage 2), 2, by decide +kernel⟩,
   ⟨st [(VLV_CLAMP_FILL.loc (vPage 2), 100)], (st [(VLV_CLAMP_FILL.loc (vPage 2), 100)]).reached (vPage 2), 2, by decide +kernel⟩,
   ⟨st [(VLV_CLAMP_FILL.loc (vPage 2), 99)], (st [(VLV_CLAMP_FILL.loc (vPage 2), 99)]).reached (vPage 2), 2, by decide +kernel⟩,
   ⟨st [(VBK_STAT_ON.loc bankPage 1, 1)], 2, by decide +kernel⟩,
   ⟨st [(VBK_STAT_ON.loc bankPage 1, 1)], 1, by decide +kernel⟩,
   ⟨({ State.reset with tb := 90000000000, clk := { frozen := false, restarting := false } } : State).upBk 1 fun x => { x with limFrom := some 0 }, 1, by decide +kernel⟩,
   ⟨State.reset, State.reset.reached bankPage, 1, by decide +kernel⟩,
   ⟨st [(VBK_STAT_ON.loc bankPage 1, 1)], 1, by decide +kernel⟩,
   ⟨(State.reset).upBk 1 fun x => { x with limFrom := some 0 }, 1, 0, by decide +kernel⟩,
   ⟨State.reset, 1, by decide +kernel⟩,
   ⟨(st [(VBK_TJ.loc bankPage 1, 0)]).upBk 1 fun x => { x with latch := true }, 1, by decide +kernel⟩⟩

theorem test_witness_FieldInputCommands :
    (∃ (s z : State) (v : Word), (v.toNat = 0xA55A) ∧ (s.takes fldPage 0x44 v.toNat = true) ∧ (z = (keepExpire (s.reached fldPage)).feed)) ∧
    (∃ (s : State) (v : Word), (v.toNat ≠ 0xA55A) ∧ (s.takes fldPage 0x44 v.toNat = true)) ∧
    (∃ (s : State) (t : Nat), (s.keep.deadline = some t) ∧ (s.flag FLD0_KA_CFG_EN fldPage = true) ∧ (t ≤ s.tb) ∧ (s.domOn 9 = true)) ∧
    (∃ (s : State), (s.takes fldPage 0x4C 1 = true) ∧ (((s.reached fldPage).flag FLD0_KA_STAT_EXPIRED fldPage && (s.reached fldPage).keep.fed) =
      true)) ∧
    (∃ (s : State), (s.takes fldPage 0x4C 1 = true) ∧ (((s.reached fldPage).flag FLD0_KA_STAT_EXPIRED fldPage && (s.reached fldPage).keep.fed) =
      false)) ∧
    (∃ (s : State) (p : Nat), (s.isOutput (62 + p) = true) ∧ (s.safeAct (62 + p) = true) ∧ (s.safePattern p = true) ∧ (s.chSt (62 + p) = stOn)) ∧
    (∃ (s : State) (p : Nat), (s.isOutput (62 + p) = true) ∧ (s.safeAct (62 + p) = true) ∧ (s.safePattern p = true) ∧ (s.chSt (62 + p) = stOff)
      ∧ (s.wanted (62 + p) = true) ∧ (s.offHalf (62 + p) = false)) ∧
    (∃ (s : State) (p : Nat), (s.safeAct (62 + p) = true) ∧ (s.safePattern p = true) ∧ (s.chSt (62 + p) = stOff) ∧ (s.offHalf (62 + p) = true)) ∧
    (∃ (s : State) (p t : Nat), ((s.pin p).lowFrom = some t) ∧ (s.chSt (62 + p) = stOn) ∧ (t + 20000000 ≤ s.tb)) ∧
    (∃ (s : State) (p t : Nat), ((s.pin p).highFrom = some t) ∧ (s.isOutput (62 + p) = true) ∧ (s.chSt (62 + p) = stOff) ∧ (t + 20000000 ≤ s.tb)
      ∧ ((s.ch (62 + p)).offFrom + 20000000 ≤ s.tb)) ∧
    (∃ (s : State) (uv : Bool), (s.domOn 9 = true) ∧ ((uv && !s.flag FLD0_KA_STAT_VFLD_UV fldPage) = true)) ∧
    (∃ (s : State) (uv : Bool), (s.domOn 9 = true) ∧ ((uv && !s.flag FLD0_KA_STAT_VFLD_UV fldPage) = false)) ∧
    (∃ (s s1 : State) (p edge : Nat) (lev : Bool), (s.fioReady p lev edge = true) ∧ (s1 = levelEventAt (fioAccept (fioRaw s p lev) p lev
      (s.fioRun p edge)) (0x31 + p) lev (s.fioRun p edge)) ∧ ((s1.wakeOn 2 && s1.flag FLD_CFG_WAKE_EN (pinPage p) (p % 12)) = false)) ∧
    (∃ (s : State) (p : Nat), ((s.getDom 9).actual = .retention) ∧ (s.isOutput (62 + p) = false) ∧ (s.flag FLD_CFG_WAKE_EN (pinPage p) (p % 12)
      = true)) ∧
    (∃ (s : State) (n : Nat) (lev : Bool), (n < 48) ∧ (s.fldOn = true) ∧ (s.swiEnabled n = true) ∧ (s.flag H_CTRL_EN (swiPage n) = true) ∧
      (s.flag SWI_STATE_RAW (swiPage n) (n % 16) ≠ lev) ∧ ((s.sw n).firstUntil = none)) ∧
    (∃ (s : State) (n : Nat) (lev : Bool), (s.swiReady n lev = true)) ∧
    (∃ (s : State) (n t : Nat), ((s.sw n).wetEnd = some t) ∧ (t ≤ s.tb)) ∧
    (∃ (s t : State) (g : Nat), (s.senses = true) ∧ (t = senseTurn s) ∧ (bitOf t.sense.done g = false) ∧ (t.sense.start + g * 1000000000 / 32768
      ≤ t.tb)) ∧
    (∃ (s : State), (s.fldOn = true) ∧ (s.sup.cold = false)) ∧
    (∃ (s : State) (g : Nat), ((senseTurn s).senseDue g = false)) ∧
    (∃ (s : State) (e : ParkEvt) (q : List ParkEvt), (s.clk.frozen = false) ∧ (s.domOn 9 = true) ∧ (s.parkQ = e :: q)) ∧
    (∃ (s : State), (s.clk.frozen = false) ∧ (s.domOn 9 = true) ∧ (s.parkQ = [])) ∧
    (∃ (s : State) (k : Nat), (s.fldOn = true) ∧ (bitsOf (s.get SWI_SSUP_MODE swi0) (2 * k) 2 ≠ 0) ∧ (bitOf (s.get SWI_SSUP_OC swi0) k = false)) ∧
    (∃ (s : State) (k : Nat), (s.fldOn = false) ∧ (bitsOf (s.get SWI_SSUP_MODE swi0) (2 * k) 2 ≠ 0)) ∧
    (∃ (s : State) (k : Nat), (bitsOf (s.get SWI_SSUP_MODE swi0) (2 * k) 2 = 0)) :=
  ⟨⟨State.reset, (keepExpire (State.reset.reached fldPage)).feed, 0xA55A, by decide +kernel⟩,
   ⟨State.reset, 0xA55B, by decide +kernel⟩,
   ⟨{ st [(FLD0_KA_CFG_EN.loc fldPage, 1)] with tb := 1000, keep := { deadline := some 7 } }, 7, by decide +kernel⟩,
   ⟨{ st [(FLD0_KA_STAT_EXPIRED.loc fldPage, 1)] with keep := { fed := true } }, by decide +kernel⟩,
   ⟨State.reset, by decide +kernel⟩,
   ⟨st [(FLD_CFG_DIR.loc 0x62 3, 1), (FLD_STATE_SAFE_ACT.loc 0x62 3, 1), (FLD_CFG_SAFE.loc 0x62 3, 3), (cState 65, 3)], 3, by decide +kernel⟩,
   ⟨st [(FLD_CFG_DIR.loc 0x62 3, 1), (FLD_STATE_SAFE_ACT.loc 0x62 3, 1), (FLD_CFG_SAFE.loc 0x62 3, 3), (cEn 65, 1)], 3, by decide +kernel⟩,
   ⟨{ st [(FLD_CFG_DIR.loc 0x62 3, 1), (FLD_STATE_SAFE_ACT.loc 0x62 3, 1), (FLD_CFG_SAFE.loc 0x62 3, 3)] with tb := 600000000 }, 3, by decide +kernel⟩,
   ⟨({ st [(cState 65, 3)] with tb := 90000000 } : State).upPin 3 fun x => { x with lowFrom := some 0 }, 3, 0, by decide +kernel⟩,
   ⟨({ st [(FLD_CFG_DIR.loc 0x62 3, 1)] with tb := 90000000 } : State).upPin 3 fun x => { x with highFrom := some 0 }, 3, 0, by decide +kernel⟩,
   ⟨State.reset, true, by decide +kernel⟩,
   ⟨State.reset, false, by decide +kernel⟩,
   ⟨{ State.reset with tb := 90000000 }, levelEventAt (fioAccept (fioRaw { State.reset with tb := 90000000 } 3 true) 3 true (State.fioRun { State.reset with tb := 90000000 } 3 0)) 0x34 true (State.fioRun { State.reset with tb := 90000000 } 3 0), 3, 0, true, by decide +kernel⟩,
   ⟨(st [(FLD_CFG_WAKE_EN.loc 0x62 3, 1)]).setDom 9 { actual := .retention }, 3, by decide +kernel⟩,
   ⟨st [(SWI_CFG_EN.loc 0x64 3, 1), (H_CTRL_EN.loc 0x64, 1)], 3, true, by decide +kernel⟩,
   ⟨{ st [(SWI_CFG_EN.loc 0x64 3, 1), (H_CTRL_EN.loc 0x64, 1), (SWI_STATE_RAW.loc 0x64 3, 1)] with tb := 900000000 }, 3, true, by decide +kernel⟩,
   ⟨({ State.reset with tb := 900000000 } : State).upSw 3 fun x => { x with wetEnd := some 4 }, 3, 4, by decide +kernel⟩,
   ⟨{ State.reset with tb := 90000000 } |>.setDom 9 { actual := .off }, senseTurn ({ State.reset with tb := 90000000 } |>.setDom 9 { actual := .off }), 0, by decide +kernel⟩,
   ⟨{ State.reset with sup := { State.reset.sup with cold := false } }, by decide +kernel⟩,
   ⟨State.reset, 3, by decide +kernel⟩,
   ⟨{ State.reset with parkQ := [{ input := 3, level := true, tb := 5 }] }, { input := 3, level := true, tb := 5 }, [], by decide +kernel⟩,
   ⟨State.reset, by decide +kernel⟩,
   ⟨st [(SWI_SSUP_MODE.loc swi0, 255)], 1, by decide +kernel⟩,
   ⟨st [(SWI_SSUP_MODE.loc swi0, 255)] |>.setDom 9 { actual := .off }, 1, by decide +kernel⟩,
   ⟨st [(SWI_SSUP_MODE.loc swi0, 0)], 1, by decide +kernel⟩⟩

theorem test_witness_LightingCommands :
    (∃ (s : State), (s.takes ledPage 0x58 1 = true) ∧ (s.led.missTb = none)) ∧
    (∃ (s : State) (t n : Nat), (s.takes ledPage 0x58 1 = true) ∧ (s.led.missTb = some (t, n)) ∧ (t < s.tb)) ∧
    (∃ (s z : State) (n : Nat), (s.takes ledPage 0x58 1 = true) ∧ (s.led.missTb = some (s.tb, n)) ∧ (z = (s.reached ledPage).put LED_SWAP_PEND
      ledPage true)) ∧
    (∃ (s : State) (k : Nat), (s.domOn 9 = true) ∧ (s.syncDue k = true) ∧ (s.flag LED_SWAP_PEND ledPage = true) ∧ (s.led.frameTb ≠ some s.tb)) ∧
    (∃ (s : State) (k : Nat), (s.domOn 9 = true) ∧ (s.syncDue k = true) ∧ (s.flag LED_SWAP_PEND ledPage = true) ∧ (s.led.frameTb = some s.tb)) ∧
    (∃ (s : State) (k : Nat), (s.domOn 9 = true) ∧ (s.syncDue k = true) ∧ (s.flag LED_SWAP_PEND ledPage = false)) ∧
    (∃ (s : State) (k : Nat), (s.syncDue k = false)) ∧
    (∃ (s : State), (s.domOn 9 = true) ∧ (s.frameDue = true) ∧ (s.led.restart = false) ∧ (s.led.armed = true) ∧ (s.led.shed = false) ∧ (s.flag
      LED_SWAP_PEND ledPage = true) ∧ (s.flag LDC_STAT2_BUSY ldcPage = false)) ∧
    (∃ (s : State), (s.domOn 9 = true) ∧ (s.frameDue = true) ∧ (s.led.restart = false) ∧ (s.led.armed = true) ∧ (s.led.shed = false) ∧ (s.flag
      LED_SWAP_PEND ledPage = true) ∧ (s.flag LDC_STAT2_BUSY ldcPage = true) ∧ (s.led.postponed = false)) ∧
    (∃ (s : State) (e : Nat), (s.scanOn = true) ∧ (s.led.dark = false) ∧ (2000 ≤ s.ledValue e * 10 * s.get LED_SCAN_DIV ledPage) ∧ (bitOf (s.get
      LED_STAT2_LINE_LOCK ledPage) (e / 12) = false) ∧ (e < 32)) ∧
    (∃ (s : State) (l : Nat), (s.scanOn = true) ∧ (s.led.dark = false) ∧ (bitOf (s.get LED_STAT2_LINE_LOCK ledPage) l = false)) ∧
    (∃ (s : State) (v : Word), (s.takes ledPage 0x64 (v.toNat % 4096) = true)) ∧
    (∃ (s : State), (s.led.hot = false)) ∧
    (∃ (s : State), (s.takes ledPage 0x64 65536 = true)) ∧
    (∃ (s : State), (s.led.diag = 1) ∧ (s.scanOn = false ∨ s.led.tested = false)) ∧
    (∃ (s : State), (s.led.diag = 4) ∧ (s.scanOn = false ∨ s.led.tested = false)) ∧
    (∃ (s : State), (s.takes ledPage 0x64 131072 = true) ∧ (((s.reached ledPage).scanOn || (s.reached ledPage).led.shed || ((s.reached
      ledPage).waiting .led).isSome || !(s.reached ledPage).accepts ledPage) = false) ∧ ((s.reached ledPage).shedding ((s.reached
      ledPage).get LED_CFG_PRIO ledPage) = false)) ∧
    (∃ (s : State) (t : Nat), (s.accepts ldcPage = true) ∧ (s.get LDC_REFRESH ldcPage ≠ 0) ∧ (s.ldc.start = some t) ∧ (t + s.get LDC_REFRESH
      ldcPage * 1000000 ≤ s.tb) ∧ (s.flag LDC_STAT2_BUSY ldcPage = false)) ∧
    (∃ (s : State), (s.ldc.start = none)) ∧
    (∃ (s : State), (s.flag LDC_STAT2_BUSY ldcPage = true) ∧ (s.flag LDC_CFG_VERIFY ldcPage = false) ∧ (s.ldc.due = false)) ∧
    (∃ (s : State) (v : Word), (s.takes ldcPage 0x4C v.toNat = true)) ∧
    (∃ (s : State), (s.clk.frozen = false) ∧ (s.pageOn ldcPage = true)) :=
  ⟨⟨State.reset, by decide +kernel⟩,
   ⟨{ State.reset with tb := 9, led := { missTb := some (4, 2) } }, 4, 2, by decide +kernel⟩,
   ⟨{ State.reset with tb := 9, led := { missTb := some (9, 2) } }, (State.reached { State.reset with tb := 9, led := { missTb := some (9, 2) } } ledPage).put LED_SWAP_PEND ledPage true, 2, by decide +kernel⟩,
   ⟨st [(LED_SWAP_PEND.loc ledPage, 1)], 0, by decide +kernel⟩,
   ⟨{ st [(LED_SWAP_PEND.loc ledPage, 1)] with led := { frameTb := some 0 } }, 0, by decide +kernel⟩,
   ⟨State.reset, 0, by decide +kernel⟩,
   ⟨State.reset, 1, by decide +kernel⟩,
   ⟨{ st [(LED_SWAP_PEND.loc ledPage, 1)] with led := { armed := true } }, by decide +kernel⟩,
   ⟨{ st [(LED_SWAP_PEND.loc ledPage, 1), (LDC_STAT2_BUSY.loc ldcPage, 1)] with led := { armed := true } }, by decide +kernel⟩,
   ⟨st [(LED_STAT2_SCAN_ON.loc ledPage, 1), (LED_SCAN_DIV.loc ledPage, 8), (LED_BUF0_O.loc ledPage 1, 255)], 3, by decide +kernel⟩,
   ⟨st [(LED_STAT2_SCAN_ON.loc ledPage, 1)], 3, by decide +kernel⟩,
   ⟨State.reset, 3, by decide +kernel⟩,
   ⟨State.reset, by decide +kernel⟩,
   ⟨State.reset, by decide +kernel⟩,
   ⟨{ State.reset with led := { diag := 1 } }, by decide +kernel⟩,
   ⟨{ State.reset with led := { diag := 4 } }, by decide +kernel⟩,
   ⟨st [(H_CTRL_EN.loc ledPage, 1)], by decide +kernel⟩,
   ⟨{ st [(H_CTRL_EN.loc ldcPage, 1), (LDC_REFRESH.loc ldcPage, 5)] with tb := 900000000, ldc := { start := some 5 } }, 5, by decide +kernel⟩,
   ⟨State.reset, by decide +kernel⟩,
   ⟨st [(LDC_STAT2_BUSY.loc ldcPage, 1), (LDC_CFG_VERIFY.loc ldcPage, 0)], by decide +kernel⟩,
   ⟨State.reset, 77, by decide +kernel⟩,
   ⟨State.reset, by decide +kernel⟩⟩

theorem test_witness_ActAheadCommands :
    (∃ (s s1 : State) (m : Master) (i devOk : Nat) (v : Word), ((s.flag H_STAT_HELD ahdPage && s.domOn 7) = false) ∧ (s.takes ahdPage (slotOff i
      0) (v.toNat ||| 16) = true) ∧ (s1 = s.reached ahdPage) ∧ ((ctxBody m i (v.toNat ||| 16) devOk s1).2 = true)) ∧
    (∃ (s s1 : State) (m : Master) (i devOk : Nat) (v : Word), ((s.flag H_STAT_HELD ahdPage && s.domOn 7) = false) ∧ (s.takes ahdPage (slotOff i
      0) (v.toNat ||| 16) = true) ∧ (s1 = s.reached ahdPage) ∧ ((ctxBody m i (v.toNat ||| 16) devOk s1).2 = false)) ∧
    (∃ (s : State) (m : Master) (i v : Nat), (m ≠ .ring) ∧ (i < 63) ∧ (v = plainRead s ahdPage (slotOff i 0) % 2 ^ 28 + 2 ^ 30) ∧ (s.takes
      ahdPage (slotOff i 0) v = true) ∧ ((s.flag H_STAT_HELD ahdPage && s.domOn 7) = false) ∧ (s.flag AHD_CTX_CTRL_REMOTE ahdPage i = true)) ∧
    (∃ (s s1 : State) (m : Master) (i v : Nat), (v = plainRead s ahdPage (slotOff i 0) % 2 ^ 28 + 2 ^ 29) ∧ (s.takes ahdPage (slotOff i 0) v =
      true) ∧ ((s.flag H_STAT_HELD ahdPage && s.domOn 7) = false) ∧ ((ctxBody m i v 0 (s.reached ahdPage)).2 = false) ∧ (s1 = (ctxBody m i v
      0 (s.reached ahdPage)).1)) ∧
    (∃ (s s1 : State) (m : Master) (i v : Nat), (v = plainRead s ahdPage (slotOff i 0) % 2 ^ 28 + 2 ^ 31) ∧ (s.takes ahdPage (slotOff i 0) v =
      true) ∧ ((s.flag H_STAT_HELD ahdPage && s.domOn 7) = false) ∧ ((ctxBody m i v 0 (s.reached ahdPage)).2 = false) ∧ (s1 = (ctxBody m i v
      0 (s.reached ahdPage)).1)) ∧
    (∃ (s s1 : State) (m : Master) (i v : Nat), (v = plainRead s ahdPage (slotOff i 0) % 2 ^ 28 + 2 ^ 30) ∧ (s.takes ahdPage (slotOff i 0) v =
      true) ∧ ((s.flag H_STAT_HELD ahdPage && s.domOn 7) = false) ∧ ((ctxBody m i v 0 (s.reached ahdPage)).2 = false) ∧ (s1 = (ctxBody m i v
      0 (s.reached ahdPage)).1)) ∧
    (∃ (s : State) (src idx edge : Nat), ((∀ e < 32, s.entryMatches e src idx edge = false))) ∧
    (∃ (s : State) (src idx edge e : Nat), (e < 32) ∧ ((∀ k < 32, s.entryMatches k src idx edge = decide (k = e)))) ∧
    (∃ (s s1 : State) (src idx edge e : Nat), (e < 32) ∧ ((∀ k < 32, s.entryMatches k src idx edge = decide (k = e))) ∧ (s1 = (((s.bump
      AHT_CNT_TRIGGERS ahtPage).set AHT_LAST_SRC ahtPage src).set AHT_LAST_IDX ahtPage idx).set AHT_LAST_ENTRY ahtPage e) ∧ (s1.domOn 7 =
      true) ∧ (s1.mayStart (s.get AHT_SLOT ahtPage e - 1) = true)) ∧
    (∃ (s : State) (i : Nat), (s.slotSt i = 1)) ∧
    (∃ (s : State) (i : Nat), (s.commitDue i = true)) ∧
    (∃ (s : State) (i : Nat), ((s.slotH i).ts + s.get AHD_DEADLINE ahdPage i * 1000 + 10 ≤ s.tb)) ∧
    (∃ (s : State) (i : Nat), ((s.slotH i).ts + s.get AHD_DEADLINE ahdPage i * 1000 ≤ s.tb) ∧ (s.tb < (s.slotH i).ts + s.get AHD_DEADLINE
      ahdPage i * 1000 + 10) ∧ (s.slotSt i = 1)) ∧
    (∃ (s : State) (i : Nat), (s.slotSt i = 1) ∧ (s.slotPreps i = []) ∧ ((s.slotH i).ts + s.get AHD_DEADLINE ahdPage i * 1000 + 10 ≤ s.tb) ∧ (i
      < 31) ∧ (s.flag AHD_QUENCH_RESTORE_DOMAINS ahdPage i = false)) ∧
    (∃ (s : State) (i ts : Nat), (s.accepts ahdPage = true) ∧ (s.domOn 7 = true) ∧ (s.armed i = true) ∧ (s.flag AHD_CTX_CTRL_REMOTE ahdPage i =
      true) ∧ (s.slotSt i = 0) ∧ ((simmer s i 0 0 0 ts).tb < ts + (simmer s i 0 0 0 ts).get AHD_DEADLINE ahdPage i * 1000)) ∧
    (∃ (s u : State) (i ta : Nat), (s.flag AHD_CTX_CTRL_REMOTE ahdPage i = true) ∧ (s.get AHD_CONFIRM_KIND ahdPage i = 6) ∧ (s.slotSt i = 1) ∧
      (u = ((s.set AHD_CTX_CTRL_STATE ahdPage 2 i).set AHD_CTX_LAT_T_CONF ahdPage (min ((s.tb - (s.slotH i).ts) / 10000) 65535) i).upSlot i
      fun x =>
      { x with confTb := s.tb, confWas := s.get AHD_CTX_LAT_T_CONF ahdPage i, boilAt := ta, applied := false, waits := [], admitted := false, expired := false, unacked := s.get AHD_CTX_CTRL_SPAN ahdPage i })) ∧
    (∃ (s : State) (i : Nat), (s.slotSt i = 2) ∧ ((s.slotH i).unacked ≠ 0) ∧ ((s.slotH i).boilAt + 10000 ≤ s.tb)) :=
  ⟨⟨State.reset, State.reset.reached ahdPage, .hk, 3, 0, 0, by decide +kernel⟩,
   ⟨st [(AHD_DEADLINE.loc ahdPage 3, 50)], (st [(AHD_DEADLINE.loc ahdPage 3, 50)]).reached ahdPage, .hk, 3, 0, 0, by decide +kernel⟩,
   ⟨st [(AHD_CTX_CTRL_REMOTE.loc ahdPage 3, 1)], .hk, 3, plainRead (st [(AHD_CTX_CTRL_REMOTE.loc ahdPage 3, 1)]) ahdPage (slotOff 3 0) % 2 ^ 28 + 2 ^ 30, by decide +kernel⟩,
   ⟨st [(AHD_CTX_CTRL_STATE.loc ahdPage 3, 1)], (ctxBody .hk 3 (plainRead (st [(AHD_CTX_CTRL_STATE.loc ahdPage 3, 1)]) ahdPage (slotOff 3 0) % 2 ^ 28 + 2 ^ 29) 0 ((st [(AHD_CTX_CTRL_STATE.loc ahdPage 3, 1)]).reached ahdPage)).1, .hk, 3, plainRead (st [(AHD_CTX_CTRL_STATE.loc ahdPage 3, 1)]) ahdPage (slotOff 3 0) % 2 ^ 28 + 2 ^ 29, by decide +kernel⟩,
   ⟨st [(AHD_CTX_CTRL_STATE.loc ahdPage 3, 1)], (ctxBody .hk 3 (plainRead (st [(AHD_CTX_CTRL_STATE.loc ahdPage 3, 1)]) ahdPage (slotOff 3 0) % 2 ^ 28 + 2 ^ 31) 0 ((st [(AHD_CTX_CTRL_STATE.loc ahdPage 3, 1)]).reached ahdPage)).1, .hk, 3, plainRead (st [(AHD_CTX_CTRL_STATE.loc ahdPage 3, 1)]) ahdPage (slotOff 3 0) % 2 ^ 28 + 2 ^ 31, by decide +kernel⟩,
   ⟨st [(AHD_CTX_CTRL_STATE.loc ahdPage 3, 1)], (ctxBody .hk 3 (plainRead (st [(AHD_CTX_CTRL_STATE.loc ahdPage 3, 1)]) ahdPage (slotOff 3 0) % 2 ^ 28 + 2 ^ 30) 0 ((st [(AHD_CTX_CTRL_STATE.loc ahdPage 3, 1)]).reached ahdPage)).1, .hk, 3, plainRead (st [(AHD_CTX_CTRL_STATE.loc ahdPage 3, 1)]) ahdPage (slotOff 3 0) % 2 ^ 28 + 2 ^ 30, by decide +kernel⟩,
   ⟨State.reset, 1, 2, 1, by decide +kernel⟩,
   ⟨st [(AHT_EN.loc ahtPage 5, 1), (AHT_SLOT.loc ahtPage 5, 3), (AHT_SRC.loc ahtPage 5, 3), (AHT_IDX.loc ahtPage 5, 2)], 3, 2, 1, 5, by decide +kernel⟩,
   ⟨st [(AHT_EN.loc ahtPage 5, 1), (AHT_SLOT.loc ahtPage 5, 3), (AHT_SRC.loc ahtPage 5, 3), (AHT_IDX.loc ahtPage 5, 2), (H_CTRL_EN.loc ahdPage, 1), (AHD_CTX_CTRL_ARM.loc ahdPage 2, 1)], ((((st [(AHT_EN.loc ahtPage 5, 1), (AHT_SLOT.loc ahtPage 5, 3), (AHT_SRC.loc ahtPage 5, 3), (AHT_IDX.loc ahtPage 5, 2), (H_CTRL_EN.loc ahdPage, 1), (AHD_CTX_CTRL_ARM.loc ahdPage 2, 1)]).bump AHT_CNT_TRIGGERS ahtPage).set AHT_LAST_SRC ahtPage 3).set AHT_LAST_IDX ahtPage 2).set AHT_LAST_ENTRY ahtPage 5, 3, 2, 1, 5, by decide +kernel⟩,
   ⟨st [(AHD_CTX_CTRL_STATE.loc ahdPage 3, 1)], 3, by decide +kernel⟩,
   ⟨{ st [(AHD_CTX_CTRL_STATE.loc ahdPage 3, 2)] with tb := 50 }, 3, by decide +kernel⟩,
   ⟨{ st [(AHD_CTX_CTRL_STATE.loc ahdPage 3, 1)] with tb := 900000 }, 3, by decide +kernel⟩,
   ⟨{ st [(AHD_CTX_CTRL_STATE.loc ahdPage 3, 1), (AHD_DEADLINE.loc ahdPage 3, 0)] with tb := 0 }, 3, by decide +kernel⟩,
   ⟨{ st [(AHD_CTX_CTRL_STATE.loc ahdPage 3, 1), (AHD_CTX_CTRL_ARM.loc ahdPage 3, 1), (AHD_QUENCH_RESTORE_DOMAINS.loc ahdPage 3, 0)] with tb := 900000 }, 3, by decide +kernel⟩,
   ⟨st [(AHD_CTX_CTRL_REMOTE.loc ahdPage 3, 1), (AHD_CTX_CTRL_ARM.loc ahdPage 3, 1), (AHD_DEADLINE.loc ahdPage 3, 50), (H_CTRL_EN.loc ahdPage, 1)], 3, 0, by decide +kernel⟩,
   ⟨st [(AHD_CTX_CTRL_REMOTE.loc ahdPage 3, 1), (AHD_CONFIRM_KIND.loc ahdPage 3, 6), (AHD_CTX_CTRL_STATE.loc ahdPage 3, 1)], ((State.set (st [(AHD_CTX_CTRL_REMOTE.loc ahdPage 3, 1), (AHD_CONFIRM_KIND.loc ahdPage 3, 6), (AHD_CTX_CTRL_STATE.loc ahdPage 3, 1)]) AHD_CTX_CTRL_STATE ahdPage 2 3).set AHD_CTX_LAT_T_CONF ahdPage 0 3).upSlot 3 fun x => { x with boilAt := 250000 }, 3, 250000, by decide +kernel⟩,
   ⟨({ st [(AHD_CTX_CTRL_STATE.loc ahdPage 3, 2)] with tb := 20000 } : State).upSlot 3 fun x => { x with unacked := 1 }, 3, by decide +kernel⟩⟩

theorem test_witness_FerlysCommands :
    (∃ (s : State) (g : Nat), (s.takes ferPage (ferCtrlOff g) 1 = true) ∧ ((ferRun g (s.reached ferPage)).2 = true)) ∧
    (∃ (s s1 : State) (g : Nat), (s.takes ferPage (ferCtrlOff g) 1 = true) ∧ (s1 = s.reached ferPage) ∧ ((s1.ferRuns g || s1.get FER_GCFG_LEN
      ferPage g = 0 || 768 < s1.get FER_GCFG_START ferPage g + s1.get FER_GCFG_LEN ferPage g || !s1.ferMapOk g || !s1.accepts ferPage) =
      false)) ∧
    (∃ (s : State) (g : Nat), (s.takes ferPage (ferCtrlOff g) 2 = true) ∧ ((s.reached ferPage).ferRuns g = true)) ∧
    (∃ (s s1 : State) (g t : Nat), (s.ferStart g = some t) ∧ (s.ferRuns g = true) ∧ (s.flag FER_GSTAT_WAIT_TRIG ferPage g = true) ∧ ((s.ferH
      g).stop = none) ∧ (∀ a, (s.ferH g).asked = some a → t < a) ∧ (t ≤ s.tb) ∧ (s1 = (s.put FER_GSTAT_WAIT_TRIG ferPage false g).set
      FER_GSTAT_POS ferPage (s.get FER_GCFG_START ferPage g) g)) ∧
    (∃ (s : State) (g t f : Nat), (s.ferRuns g = true) ∧ (s.ferGoes g = false) ∧ (s.ferEnds g = some (t, f)) ∧ (t ≤ s.tb) ∧ ((List.range g).any
      s.ferDue = false)) ∧
    (∃ (s : State) (g : Nat), (s.ferDue g = false ∨ (List.range g).any s.ferDue = true)) ∧
    (∃ (s s1 : State) (g pos c w : Nat), (s.ferGoes g = true) ∧ ((List.range g).any s.ferDue = false) ∧ (s.ferRuns g = true) ∧ (pos = s.get
      FER_GSTAT_POS ferPage g) ∧ (pos < s.get FER_GCFG_START ferPage g + s.get FER_GCFG_LEN ferPage g) ∧ (w = s.get FER_TABLE ferPage pos) ∧
      (w % 8192 ≠ 0) ∧ ((s.ferH g).tick + w % 8192 * 100000 ≤ s.tb) ∧ (w / 2 ^ 30 = 0) ∧ (s.ferMap g (bitsOf w 13 4) = some c) ∧ (s1 =
      s.upFer g fun x => { x with tick := x.tick + w % 8192 * 100000, burst := 1 })) :=
  ⟨⟨State.reset, 1, by decide +kernel⟩,
   ⟨st [(FER_GCFG_LEN.loc ferPage 1, 5), (H_CTRL_EN.loc ferPage, 1)], (st [(FER_GCFG_LEN.loc ferPage 1, 5), (H_CTRL_EN.loc ferPage, 1)]).reached ferPage, 1, by decide +kernel⟩,
   ⟨st [(FER_GSTAT_RUNNING.loc ferPage 1, 1)], 1, by decide +kernel⟩,
   ⟨{ st [(FER_GSTAT_RUNNING.loc ferPage 1, 1), (FER_GSTAT_WAIT_TRIG.loc ferPage 1, 1)] with tb := 900000 }, (({ st [(FER_GSTAT_RUNNING.loc ferPage 1, 1), (FER_GSTAT_WAIT_TRIG.loc ferPage 1, 1)] with tb := 900000 } : State).put FER_GSTAT_WAIT_TRIG ferPage false 1).set FER_GSTAT_POS ferPage 0 1, 1, 100000, by decide +kernel, by decide +kernel, by decide +kernel, by decide +kernel, (by intro a h; exact nomatch (show (none : Option Nat) = some a from h)), by decide +kernel, by decide +kernel⟩,
   ⟨(st [(FER_GSTAT_RUNNING.loc ferPage 1, 1)]).upFer 1 fun x => { x with stop := some (0, 1) }, 1, 0, 1, by decide +kernel⟩,
   ⟨State.reset, 1, by decide +kernel⟩,
   ⟨{ st [(FER_GSTAT_RUNNING.loc ferPage 1, 1), (FER_GCFG_LEN.loc ferPage 1, 5), (FER_TABLE.loc ferPage 0, 131073), (FER_MAP_CODE.loc ferPage 1 0, 3)] with tb := 900000 }, ({ st [(FER_GSTAT_RUNNING.loc ferPage 1, 1), (FER_GCFG_LEN.loc ferPage 1, 5), (FER_TABLE.loc ferPage 0, 131073), (FER_MAP_CODE.loc ferPage 1 0, 3)] with tb := 900000 } : State).upFer 1 fun x => { x with tick := 100000, burst := 1 }, 1, 0, 3, 131073, by decide +kernel⟩⟩

theorem test_witness_CanControllerCommands :
    (∃ (s : State) (c : Nat) (v : Word), (s.takes (canPage c) 0x8C v.toNat = true)) ∧
    (∃ (s s1 : State) (c : Nat) (v : Word), (c < 8) ∧ (s.takes (canPage c) 0x8C v.toNat = true) ∧ (s1 = s.reached (canPage c)) ∧ (s1.canSends c
      = false) ∧ (s1.get CAN_TX_PEND (canPage c) < 2 ^ 32)) ∧
    (∃ (s : State) (c : Nat) (v : Word), (s.takes (canPage c) 0x90 v.toNat = true)) ∧
    (∃ (s : State) (c : Nat) (f : CanFrame), (s.canAlive c = true) ∧ (6 ≤ c ∨ s.modeAct c = 1 ∨ s.modeAct c = 2) ∧ (f.fdf = false ∨ s.flag
      CAN_CFG_FD_EN (canPage c) = true)) ∧
    (∃ (s : State) (c : Nat) (f : CanFrame), (f.fdf = true) ∧ (s.flag CAN_CFG_FD_EN (canPage c) = false)) ∧
    (∃ (s : State) (c : Nat), (s.canAlive c = true) ∧ ((s.canH c).cur = none)) ∧
    (∃ (s : State) (c b : Nat), (c < 8) ∧ (s.canAlive c = true) ∧ (s.canDrives c = true) ∧ ((s.canH c).cur = some b) ∧ (b < 32) ∧ ((s.canH c).te
      < 96) ∧ ((s.canH c).re < 96) ∧ (s.canSends c = false) ∧ (s.flag H_CTRL_EN (canPage c) = false) ∧ (bitOf (s.canH c).head 9 = false) ∧
      (s.get CAN_TX_PEND (canPage c) < 2 ^ 32) ∧ (s.get CAN_TX_DONE (canPage c) < 2 ^ 32)) ∧
    (∃ (s : State) (c : Nat), (s.canAlive c = true) ∧ (6 ≤ c)) ∧
    (∃ (s s1 : State) (c : Nat), (s.canAlive c = true) ∧ (6 ≤ c) ∧ (s1 = ((canAttempt s c).set CAN_BUSSTAT_ARB_ERR (canPage c) 1).irq (canPage
      c) 16)) ∧
    (∃ (s s1 : State) (c q n : Nat) (v : Word), (s.takes (canPage c) (if q = 0 then 0x64 else 0x70) v.toNat = true) ∧ (s1 = s.reached (canPage
      c)) ∧ (n = v.toNat % 128) ∧ (n = 0 ∨ s1.get (rxUsed q) (canPage c) < n)) ∧
    (∃ (s s1 : State) (c q n : Nat) (v : Word), (s.takes (canPage c) (if q = 0 then 0x64 else 0x70) v.toNat = true) ∧ (s1 = s.reached (canPage
      c)) ∧ (n = v.toNat % 128) ∧ ((n = 0 || decide (s1.get (rxUsed q) (canPage c) < n)) = false) ∧ ((s1.canH c).loss = none)) ∧
    (∃ (s s1 : State) (c q n : Nat) (v : Word) (l : CanLoss), (s.takes (canPage c) (if q = 0 then 0x64 else 0x70) v.toNat = true) ∧ (s1 =
      s.reached (canPage c)) ∧ (n = v.toNat % 128) ∧ ((n = 0 || decide (s1.get (rxUsed q) (canPage c) < n)) = false) ∧ ((s1.canH c).loss =
      some l)) ∧
    (∃ (s : State) (c w : Nat) (v : Word), (s.takes (canPage c) (if w = 0 then 0x80 else 0x84) v.toNat = true)) ∧
    (∃ (s : State) (c : Nat), (s.takes (canPage c) 0xB4 1 = true) ∧ (((s.reached (canPage c)).canH c).tsq = [])) ∧
    (∃ (s : State) (c tag ts : Nat) (q : List (Nat × Nat)), (s.takes (canPage c) 0xB4 1 = true) ∧ (((s.reached (canPage c)).canH c).tsq = (tag,
      ts) :: q)) ∧
    (∃ (s : State) (c : Nat), (s.domOn 3 = true) ∧ (s.flag H_CTRL_EN (canPage c) = true) ∧ (s.flag CAN_BUSSTAT_BUSOFF (canPage c) = true) ∧
      (s.flag CAN_CFG_BUSOFF_AUTO (canPage c) = true)) ∧
    (∃ (s : State) (c : Nat), (s.domOn 3 = true) ∧ (s.flag H_CTRL_EN (canPage c) = true) ∧ (s.get CAN_BUSSTAT_ACTIVITY (canPage c) = 0) ∧
      (s.flag CAN_BUSSTAT_BUSOFF (canPage c) = false)) :=
  ⟨⟨State.reset, 2, 1, by decide +kernel⟩,
   ⟨st [(CAN_TXSLOT_COUNT.loc (canPage 2), 4)], (st [(CAN_TXSLOT_COUNT.loc (canPage 2), 4)]).reached (canPage 2), 2, 1, by decide +kernel⟩,
   ⟨State.reset, 2, 1, by decide +kernel⟩,
   ⟨st [(H_CTRL_EN.loc (canPage 2), 1), (CAN_BUSSTAT_ACTIVITY.loc (canPage 2), 1), (CTRX_MODE.loc ctrxPage 2, 1)], 2, { id := 5, dlc := 0, data := [], xtd := false, fdf := false, brs := false, esi := false, rtr := false }, by decide +kernel⟩,
   ⟨st [(CAN_CFG_FD_EN.loc (canPage 2), 0)], 2, { id := 5, dlc := 0, data := [], xtd := false, fdf := true, brs := false, esi := false, rtr := false }, by decide +kernel⟩,
   ⟨st [(H_CTRL_EN.loc (canPage 2), 1), (CAN_BUSSTAT_ACTIVITY.loc (canPage 2), 1)], 2, by decide +kernel⟩,
   ⟨(st [(H_STAT_DRAINING.loc (canPage 2), 1), (CAN_BUSSTAT_ACTIVITY.loc (canPage 2), 3), (CAN_TX_PEND.loc (canPage 2), 3), (CTRX_MODE.loc ctrxPage 2, 1)]).upCan 2 fun x => { x with cur := some 1, te := 5 }, 2, 1, by decide +kernel⟩,
   ⟨st [(H_CTRL_EN.loc (canPage 6), 1), (CAN_BUSSTAT_ACTIVITY.loc (canPage 6), 1)], 6, by decide +kernel⟩,
   ⟨st [(H_CTRL_EN.loc (canPage 6), 1), (CAN_BUSSTAT_ACTIVITY.loc (canPage 6), 1)], ((canAttempt (st [(H_CTRL_EN.loc (canPage 6), 1), (CAN_BUSSTAT_ACTIVITY.loc (canPage 6), 1)]) 6).set CAN_BUSSTAT_ARB_ERR (canPage 6) 1).irq (canPage 6) 16, 6, by decide +kernel⟩,
   ⟨State.reset, State.reset.reached (canPage 2), 2, 0, 1, 1, by decide +kernel⟩,
   ⟨st [(CAN_RXQ0_STAT_USED.loc (canPage 2), 3), (CAN_RXQ0_CFG_DEPTH.loc (canPage 2), 8)], (st [(CAN_RXQ0_STAT_USED.loc (canPage 2), 3), (CAN_RXQ0_CFG_DEPTH.loc (canPage 2), 8)]).reached (canPage 2), 2, 0, 2, 2, by decide +kernel⟩,
   ⟨(st [(CAN_RXQ0_STAT_USED.loc (canPage 2), 3), (CAN_RXQ0_CFG_DEPTH.loc (canPage 2), 8)]).upCan 2 fun x => { x with loss := some { tb := 0, queue := 0, frame := { id := 5, dlc := 0, data := [], xtd := false, fdf := false, brs := false, esi := false, rtr := false }, lone := false, filter := 0, ts := 0, seen := false } }, ((st [(CAN_RXQ0_STAT_USED.loc (canPage 2), 3), (CAN_RXQ0_CFG_DEPTH.loc (canPage 2), 8)]).upCan 2 fun x => { x with loss := some { tb := 0, queue := 0, frame := { id := 5, dlc := 0, data := [], xtd := false, fdf := false, brs := false, esi := false, rtr := false }, lone := false, filter := 0, ts := 0, seen := false } }).reached (canPage 2), 2, 0, 2, 2, { tb := 0, queue := 0, frame := { id := 5, dlc := 0, data := [], xtd := false, fdf := false, brs := false, esi := false, rtr := false }, lone := false, filter := 0, ts := 0, seen := false }, by decide +kernel⟩,
   ⟨State.reset, 2, 0, 2, by decide +kernel⟩,
   ⟨State.reset, 2, by decide +kernel⟩,
   ⟨State.reset.upCan 2 fun x => { x with tsq := [(1, 2)] }, 2, 1, 2, [], by decide +kernel⟩,
   ⟨st [(H_CTRL_EN.loc (canPage 2), 1), (CAN_BUSSTAT_BUSOFF.loc (canPage 2), 1), (CAN_CFG_BUSOFF_AUTO.loc (canPage 2), 1)], 2, by decide +kernel⟩,
   ⟨st [(H_CTRL_EN.loc (canPage 2), 1)], 2, by decide +kernel⟩⟩

theorem test_witness_CanScheduleCommands :
    (∃ (s : State) (t : Nat) (v : Word), (s.takes ctrxPage (0x100 + 0x40 * t) v.toNat = true) ∧ (v.toNat % 8 ≠ 1)) ∧
    (∃ (s : State) (t : Nat) (v : Word), (s.takes ctrxPage (0x100 + 0x40 * t) v.toNat = true) ∧ (v.toNat % 8 = 1)) ∧
    (∃ (s : State) (t : Nat), (s.modeAct t = 1)) ∧
    (∃ (s : State) (c : Nat), (s.takes (canPage c) 0x110 1 = true)) ∧
    (∃ (s : State) (c : Nat), (s.takes (canPage c) 0x110 2 = true)) ∧
    (∃ (s : State) (c : Nat), (s.takes (canPage c) 0x110 4 = true)) ∧
    (∃ (s : State) (c t : Nat), ((s.canH c).tt.awd = some t) ∧ (s.domOn 3 = true) ∧ (t ≤ s.tb) ∧ (s.flag H_STAT_HELD (canPage c) = false)) ∧
    (∃ (s s1 : State) (c e w : Nat), (s.domOn 3 = true) ∧ (s.ttOn c = true) ∧ ((s.canH c).tt.running = true) ∧ ((s.canH c).tt.next ≤ e) ∧ (e <
      s.get CAN_TRIGLIST_COUNT (canPage c)) ∧ (w = s.trigWord c e 0) ∧ (trigMark w ≤ s.cycleTime c) ∧ (s1 = s.upTt c fun x =>
      { x with next := e + 1 }) ∧ (s1.get CAN_SCHED_STAT_CYCLE (canPage c) % 2 ^ trigRepeat w = trigOffset w)) :=
  ⟨⟨State.reset, 2, 2, by decide +kernel⟩,
   ⟨State.reset, 2, 1, by decide +kernel⟩,
   ⟨st [(CTRX_MODE.loc ctrxPage 2, 1)], 2, by decide +kernel⟩,
   ⟨State.reset, 2, by decide +kernel⟩,
   ⟨State.reset, 2, by decide +kernel⟩,
   ⟨State.reset, 2, by decide +kernel⟩,
   ⟨State.reset.upTt 2 fun x => { x with awd := some 0 }, 2, 0, by decide +kernel⟩,
   ⟨(st [(CAN_SCHED_CFG_EN.loc (canPage 2), 1), (CAN_TRIGLIST_COUNT.loc (canPage 2), 3)]).upTt 2 fun x => { x with running := true }, ((st [(CAN_SCHED_CFG_EN.loc (canPage 2), 1), (CAN_TRIGLIST_COUNT.loc (canPage 2), 3)]).upTt 2 fun x => { x with running := true }).upTt 2 fun x => { x with next := 1 }, 2, 0, 0, by decide +kernel⟩⟩

theorem test_witness_LinCommands :
    (∃ (s z : State) (l : Nat), (s.takes (linPage l) (linCmdOff l) 1 = true) ∧ (z = s.reached (linPage l))) ∧
    (∃ (s z : State) (l : Nat), (s.takes (linPage l) (linCmdOff l) 2 = true) ∧ (z = s.reached (linPage l)) ∧ (z.lg LIN_STAT_STATE l = 1)) ∧
    (∃ (s z : State) (l : Nat), (s.takes (linPage l) (linCmdOff l) 4 = true) ∧ (z = s.reached (linPage l)) ∧ (z.commander l = true) ∧ (z.lg
      LIN_STAT_STATE l = 1)) ∧
    (∃ (s z : State) (l : Nat), (s.takes (linPage l) (linCmdOff l) 8 = true) ∧ (z = s.reached (linPage l)) ∧ (z.linOn l = true) ∧ ((z.linH
      l).cur = none)) ∧
    (∃ (s z : State) (l : Nat) (f : LinFrame), (s.takes (linPage l) (linCmdOff l) 8 = true) ∧ (z = s.reached (linPage l)) ∧ (z.linOn l = true) ∧
      ((z.linH l).cur = some f)) ∧
    (∃ (s : State) (l : Nat), (s.takes (linPage l) (linCmdOff l) 1 = true) ∧ ((s.reached (linPage l)).commander l = true) ∧ ((s.reached (linPage
      l)).linOn l = true) ∧ ((s.reached (linPage l)).lg LIN_STAT_STATE l = 0)) ∧
    (∃ (s : State) (l t : Nat), ((s.linH l).slotAt = some t) ∧ (s.linOn l = true) ∧ (s.lg LIN_STAT_STATE l = 1) ∧ (t ≤ s.tb)) ∧
    (∃ (s : State) (l t : Nat), ((s.linH l).slotAt = some t) ∧ (s.linOn l = true) ∧ (s.lg LIN_STAT_STATE l = 1) ∧ (t ≤ s.tb) ∧ ((s.linH l).sleep
      = false) ∧ ((s.linH l).stop = true)) ∧
    (∃ (s : State) (l : Nat), (s.linOn l = true) ∧ (s.commander l = false) ∧ (s.lg LIN_TRX_MODE l = 1)) ∧
    (∃ (s : State) (l : Nat) (f : LinFrame), ((s.linH l).cur = some f) ∧ (s.domOn 3 = true)) ∧
    (∃ (s : State) (l ts : Nat) (f : LinFrame), ((s.linH l).cur = some f) ∧ (s.domOn 3 = true) ∧ (s.linLate l f ts = true)) ∧
    (∃ (s : State) (l : Nat), (s.linOn l = true) ∧ ((s.linH l).cur = none) ∧ ((s.linH l).idle = false) ∧ ((s.linH l).active + 4000000000 ≤
      s.tb)) ∧
    (∃ (s : State) (l : Nat), (s.linOn l = true) ∧ (s.lg LIN_TRX_MODE l = 1)) ∧
    (∃ (s : State) (l : Nat), (s.lg LIN_TRX_MODE l = 2)) :=
  ⟨⟨st [(LIN_STAT_STATE.loc (linPage 5) 1, 1), (LIN_CFG_ROLE.loc (linPage 5) 1, 1), (H_CTRL_EN.loc (linPage 5), 1)], (st [(LIN_STAT_STATE.loc (linPage 5) 1, 1), (LIN_CFG_ROLE.loc (linPage 5) 1, 1), (H_CTRL_EN.loc (linPage 5), 1)]).reached (linPage 5), 5, by decide +kernel⟩,
   ⟨st [(LIN_STAT_STATE.loc (linPage 5) 1, 1), (LIN_CFG_ROLE.loc (linPage 5) 1, 1), (H_CTRL_EN.loc (linPage 5), 1)], (st [(LIN_STAT_STATE.loc (linPage 5) 1, 1), (LIN_CFG_ROLE.loc (linPage 5) 1, 1), (H_CTRL_EN.loc (linPage 5), 1)]).reached (linPage 5), 5, by decide +kernel⟩,
   ⟨st [(LIN_STAT_STATE.loc (linPage 5) 1, 1), (LIN_CFG_ROLE.loc (linPage 5) 1, 1), (H_CTRL_EN.loc (linPage 5), 1)], (st [(LIN_STAT_STATE.loc (linPage 5) 1, 1), (LIN_CFG_ROLE.loc (linPage 5) 1, 1), (H_CTRL_EN.loc (linPage 5), 1)]).reached (linPage 5), 5, by decide +kernel⟩,
   ⟨st [(LIN_STAT_STATE.loc (linPage 5) 1, 1), (LIN_CFG_ROLE.loc (linPage 5) 1, 1), (H_CTRL_EN.loc (linPage 5), 1)], (st [(LIN_STAT_STATE.loc (linPage 5) 1, 1), (LIN_CFG_ROLE.loc (linPage 5) 1, 1), (H_CTRL_EN.loc (linPage 5), 1)]).reached (linPage 5), 5, by decide +kernel⟩,
   ⟨(st [(LIN_STAT_STATE.loc (linPage 5) 1, 1), (LIN_CFG_ROLE.loc (linPage 5) 1, 1), (H_CTRL_EN.loc (linPage 5), 1)]).upLin 5 fun x => { x with cur := some { id := 3 } }, ((st [(LIN_STAT_STATE.loc (linPage 5) 1, 1), (LIN_CFG_ROLE.loc (linPage 5) 1, 1), (H_CTRL_EN.loc (linPage 5), 1)]).upLin 5 fun x => { x with cur := some { id := 3 } }).reached (linPage 5), 5, { id := 3 }, by decide +kernel⟩,
   ⟨st [(LIN_CFG_ROLE.loc (linPage 5) 1, 1), (H_CTRL_EN.loc (linPage 5), 1)], 5, by decide +kernel⟩,
   ⟨(st [(LIN_STAT_STATE.loc (linPage 5) 1, 1), (H_CTRL_EN.loc (linPage 5), 1)]).upLin 5 fun x => { x with slotAt := some 0 }, 5, 0, by decide +kernel⟩,
   ⟨(st [(LIN_STAT_STATE.loc (linPage 5) 1, 1), (H_CTRL_EN.loc (linPage 5), 1)]).upLin 5 fun x => { x with slotAt := some 0, stop := true }, 5, 0, by decide +kernel⟩,
   ⟨st [(LIN_TRX_MODE.loc (linPage 5) 1, 1), (LIN_CFG_ROLE.loc (linPage 5) 1, 0), (H_CTRL_EN.loc (linPage 5), 1)], 5, by decide +kernel⟩,
   ⟨State.reset.upLin 5 fun x => { x with cur := some { id := 3 } }, 5, { id := 3 }, by decide +kernel⟩,
   ⟨{ st [(LIN_CFG_BAUD.loc (linPage 5) 1, 19200), (LIN_STAT2_BAUD_MEAS.loc (linPage 5) 1, 19200)] with tb := 900000000000 }.upLin 5 fun x => { x with cur := some { id := 3 } }, 5, 7, { id := 3 }, by decide +kernel⟩,
   ⟨{ st [(H_CTRL_EN.loc (linPage 5), 1)] with tb := 5000000000 }, 5, by decide +kernel⟩,
   ⟨st [(LIN_TRX_MODE.loc (linPage 5) 1, 1), (H_CTRL_EN.loc (linPage 5), 1)], 5, by decide +kernel⟩,
   ⟨st [(LIN_TRX_MODE.loc (linPage 5) 1, 2)], 5, by decide +kernel⟩⟩

theorem test_witness_EthernetCommands :
    (∃ (s : State) (k : Nat), (s.takes (macPage k) 0xA0 1 = true) ∧ ((s.reached (macPage k)).accepts (macPage k) = true)) ∧
    (∃ (s : State) (k : Nat), (s.takes (macPage k) 0xA0 1 = true) ∧ ((s.reached (macPage k)).accepts (macPage k) = false)) ∧
    (∃ (s : State) (k : Nat), (s.domOn 5 = true) ∧ ((s.macH k).sending = true)) ∧
    (∃ (s : State) (k err : Nat) (d : List Byte), (s.macUp k = true) ∧ (s.flag MAC_MCFG_RX_EN (macPage k) = true) ∧ (err ≠ 1) ∧ (etherOk d =
      true) ∧ (s.hostTakes k d = false) ∧ (s.macTakes k d = true) ∧ (bitOf (s.sramWord (s.rxDesc k (s.get MAC_HEAD_RX (macPage k)) + 4)) 31
      = false)) ∧
    (∃ (s : State) (k err : Nat) (d : List Byte), (s.macTakes k d = false ∨ etherOk d = false ∨ s.hostTakes k d = true ∨ err = 1)) ∧
    (∃ (s : State) (v : Word), (s.takes 0x7F 0x104 v.toNat = true) ∧ (bitsOf v.toNat 10 2 = 1) ∧ ((s.reached 0x7F).flag MAC_MDIO_BUSY 0x7F =
      false)) ∧
    (∃ (s : State) (v : Word), (s.takes 0x7F 0x104 v.toNat = true) ∧ (bitsOf v.toNat 10 2 = 1) ∧ ((s.reached 0x7F).flag MAC_MDIO_BUSY 0x7F =
      true)) ∧
    (∃ (s : State), (s.domOn 5 = true) ∧ (s.flag MAC_MDIO_BUSY 0x7F = true) ∧ (s.get MAC_MDIO_OP 0x7F = 2)) ∧
    (∃ (s : State), (s.domOn 5 = true) ∧ (s.flag MAC_PHYSTAT_BEACON 0x7E = true)) ∧
    (∃ (s : State), (s.domOn 5 = true) ∧ (s.flag H_CTRL_EN 0x7E = true)) :=
  ⟨⟨st [(H_CTRL_EN.loc (macPage 1), 1)], 1, by decide +kernel⟩,
   ⟨State.reset, 1, by decide +kernel⟩,
   ⟨State.reset.upMac 1 fun x => { x with sending := true }, 1, by decide +kernel⟩,
   ⟨st [(H_CTRL_EN.loc (macPage 1), 1), (CLK_STAT_REF_ACT.loc 1, 0), (MAC_MCFG_RX_EN.loc (macPage 1), 1), (MAC_MCFG_PROMISC.loc (macPage 1), 1)], 1, 0, List.replicate 64 1, by decide +kernel⟩,
   ⟨State.reset, 1, 0, [1], by decide +kernel⟩,
   ⟨State.reset, 1024, by decide +kernel⟩,
   ⟨st [(MAC_MDIO_BUSY.loc 0x7F, 1)], 1024, by decide +kernel⟩,
   ⟨st [(MAC_MDIO_BUSY.loc 0x7F, 1), (MAC_MDIO_OP.loc 0x7F, 2)], by decide +kernel⟩,
   ⟨st [(MAC_PHYSTAT_BEACON.loc 0x7E, 1)], by decide +kernel⟩,
   ⟨st [(H_CTRL_EN.loc 0x7E, 1)], by decide +kernel⟩⟩

theorem test_witness_NetworkTimeAndSleepCommands :
    (∃ (s : State) (tag : Nat), (s.takes ntPage 0x54 (2 ^ 31 + tag) = true) ∧ (tag < 2 ^ 31) ∧ ((s.reached ntPage).get NTIME_CFG_SRC ntPage ≠
      1)) ∧
    (∃ (s : State) (tag : Nat), (s.takes ntPage 0x54 (2 ^ 31 + tag) = true) ∧ (tag < 2 ^ 31) ∧ ((s.reached ntPage).get NTIME_CFG_SRC ntPage = 1)
      ∧ ((s.reached ntPage).flag NTIME_STAT_RING_OWNED ntPage = false) ∧ (((s.reached ntPage).set NTIME_SAMPLE_CTRL_MASTER ntPage (2 ^ 31 +
      tag)).accepts ntPage = true)) ∧
    (∃ (s : State), (s.takes ntPage 0x78 1 = true) ∧ (s.nt.before = none) ∧ ((s.reached ntPage).flag NTIME_STAT_JUMP_REFUSED ntPage = false)) ∧
    (∃ (s z : State) (r : Acted), (s.takes ntPage 0x78 1 = true) ∧ (z = s.reached ntPage) ∧ ((ntUndo z).2 = true) ∧ (r = ntAgree 1 (ntUndo
      z).1)) ∧
    (∃ (s : State), (s.takes ntPage 0x78 2 = true) ∧ (s.nt.before = none) ∧ ((s.reached ntPage).flag NTIME_STAT_JUMP_REFUSED ntPage = false)) ∧
    (∃ (s z : State) (r : Acted), (s.takes ntPage 0x78 2 = true) ∧ (z = s.reached ntPage) ∧ ((ntUndo z).2 = true) ∧ (r = ntAgree 2 (ntUndo
      z).1)) ∧
    (∃ (s z u y : State) (pend : Int), (s.takes ntPage 0x78 1 = true) ∧ (z = s.reached ntPage) ∧ (s.nt.before = none) ∧ (z.flag
      NTIME_STAT_RING_OWNED ntPage = false) ∧ (z.flag NTIME_STAT_JUMP_REFUSED ntPage = true) ∧ (pend = sgn 64 (z.get NTIME_PEND_LO ntPage +
      2 ^ 32 * z.get NTIME_PEND_HI ntPage)) ∧ (u = ntSettle (z.set NTIME_MASTER_ACT ntPage z.nt.tag)) ∧ (y = ntState
      { u with nt := { u.nt with sync := u.tb } } 1) ∧ (0 ≤ pend)) ∧
    (∃ (s z : State), (s.takes ntPage 0x78 1 = true) ∧ (z = s.reached ntPage) ∧ (s.nt.before = none) ∧ (sgn 64 (z.get NTIME_PEND_LO ntPage + 2 ^
      32 * z.get NTIME_PEND_HI ntPage) < 0)) ∧
    (∃ (s z u y : State) (pend : Int), (s.takes ntPage 0x78 2 = true) ∧ (z = s.reached ntPage) ∧ (s.nt.before = none) ∧ (z.flag
      NTIME_STAT_RING_OWNED ntPage = false) ∧ (z.flag NTIME_STAT_JUMP_REFUSED ntPage = true) ∧ (pend = sgn 64 (z.get NTIME_PEND_LO ntPage +
      2 ^ 32 * z.get NTIME_PEND_HI ntPage)) ∧ (u = ntSettle (z.set NTIME_MASTER_ACT ntPage z.nt.tag)) ∧ (y = ntState
      { u with nt := { u.nt with sync := u.tb } } 1)) ∧
    (∃ (s : State), (s.domOn 3 = true) ∧ (s.flag NTIME_STAT_SLEWING ntPage = true) ∧ (s.slewDue = true)) ∧
    (∃ (s : State), (s.domOn 3 = true) ∧ (s.get NTIME_STAT_STATE ntPage = 1) ∧ (s.nt.sync + s.get NTIME_CFG2_SAMPLE_TO ntPage * 1000000000 ≤
      s.tb)) ∧
    (∃ (s : State), (s.domOn 3 = true) ∧ (s.get NTIME_STAT_STATE ntPage = 2) ∧ (s.get NTIME_CFG2_HOLDOVER_MAX ntPage ≤ s.holdT)) ∧
    (∃ (s z t : State) (v : Word), (s.takes ntPage 0x40 v.toNat = true) ∧ (z = s.reached ntPage) ∧ (t = plainWrite z ntPage 0x40 v.toNat)) ∧
    (∃ (s : State), (s.nt.slew = 0) ∧ (s.get NTIME_STAT_STATE ntPage ≠ 0)) ∧
    (∃ (s : State), (s.domOn 3 = true) ∧ (s.get NTIME_STAT_STATE ntPage ≠ 0) ∧ (s.nt.sec < s.ntNow / 1000000000)) ∧
    (∃ (s : State), (s.ntNow / 1000000000 ≤ s.nt.sec ∨ s.get NTIME_STAT_STATE ntPage = 0)) ∧
    (∃ (s : State) (c : Nat) (f : CanFrame), (s.domOn 3 = true) ∧ (s.ttOn c = true) ∧ ((s.canH c).tt.running = true) ∧ (s.isRef c f = true)) ∧
    (∃ (s : State) (t : Nat), (s.get CTRX_STAT_MODE_ACT ctrxPage t = 3)) ∧
    (∃ (s : State) (t : Nat), (s.get CTRX_STAT_MODE_ACT ctrxPage t = 4) ∧ (s.flag CTRX_SWK_STAT_CFG_ERR ctrxPage t = false)) ∧
    (∃ (s s0 s1 : State) (t : Nat) (f : CanFrame), (s.swkArmed t = true) ∧ (f.fdf = false) ∧ (s0 = s.upXcv t fun x => { x with heard := s.tb })
      ∧ (s1 = s0.set CTRX_SWK_STAT_FEC ctrxPage (s0.get CTRX_SWK_STAT_FEC ctrxPage t - 1) t) ∧ (s1.swkMatch t f = true)) ∧
    (∃ (s : State) (t : Nat), (s.swkArmed t = true) ∧ (s.get CTRX_SWK_STAT_FEC ctrxPage t < 31)) ∧
    (∃ (s : State) (t : Nat), (s.swkArmed t = true) ∧ (s.get CTRX_SWK_STAT_FEC ctrxPage t = 31)) ∧
    (∃ (s : State) (t : Nat), ((s.xcv t).heard + 600000000 ≤ s.tb)) ∧
    (∃ (s : State) (t : Nat), (s.tb < (s.xcv t).heard + 600000000)) ∧
    (∃ (s : State) (t a ts : Nat), ((s.xcv t).window = some (a, ts)) ∧ (a + s.get CTRX_FW_WINDOW ctrxPage t * 1000000 ≤ s.tb)) ∧
    (∃ (s : State) (l k a : Nat), ((s.nm.linWin.find? fun e => e.1 == l) = some (k, a)) ∧ (a + s.get NMK_LIN_FW_WINDOW nmkPage * 1000000 ≤
      s.tb)) ∧
    (∃ (s : State) (b : Nat) (f : CanFrame), (s.domOn 3 = true) ∧ (s.isNm b f none = true) ∧ (6 ≤ b) ∧ (s.nm.commit = none)) ∧
    (∃ (s : State) (u : NmCommit) (b : Nat) (f : CanFrame), (s.domOn 3 = true) ∧ (s.isNm b f none = true) ∧ (6 ≤ b) ∧ (s.nm.commit = some u) ∧
      (u.tb = s.tb)) ∧
    (∃ (s : State) (b : Nat), (s.domOn 3 = true) ∧ (s.nmSt b = 2) ∧ ((s.bus b).timer ≤ s.tb)) ∧
    (∃ (s : State) (b : Nat), (s.domOn 3 = true) ∧ (s.nmSt b = 3) ∧ ((s.bus b).wbs ≤ s.tb)) ∧
    (∃ (s : State) (b : Nat) (v : Word), (s.takes nmkPage (0x114 + 0x40 * b) v.toNat = true) ∧ (bitOf v.toNat 0 = false ∨ s.nm.commit = none)) ∧
    (∃ (s : State) (u : NmCommit) (b : Nat) (v : Word), (s.takes nmkPage (0x114 + 0x40 * b) v.toNat = true) ∧ (bitOf v.toNat 0 = true) ∧
      (s.nm.commit = some u) ∧ (u.tb = s.tb)) ∧
    (∃ (s : State) (b : Nat), (s.domOn 3 = true) ∧ (s.nmSt b = 1) ∧ ((s.bus b).cycle ≤ s.tb)) ∧
    (∃ (s : State) (v : Word), (s.takes nmkPage 0x48 v.toNat = true) ∧ ((s.reached nmkPage).commitOkNm v.toNat = false)) ∧
    (∃ (s : State) (v : Word), (s.takes nmkPage 0x48 v.toNat = true) ∧ ((s.reached nmkPage).commitOkNm v.toNat = true)) ∧
    (∃ (s : State) (v : Word) (b : Nat), (b < 6) ∧ (s.takes nmkPage 0x48 v.toNat = true) ∧ (v.toNat = 2 ^ b) ∧ ((s.reached nmkPage).nmSt b = 4)
      ∧ ((s.bus b).kev = none) ∧ (s.flag NMK_CFG_SLEEP_MODE nmkPage b = false)) ∧
    (∃ (s : State) (t : Nat), (s.tb ≤ s.nm.watchEnd) ∧ (t < 6) ∧ (bitOf s.nm.watchCan t = true)) ∧
    (∃ (s : State), (s.domOn 3 = true) ∧ ((ceilCount s).nm.ceilLeft = 0) ∧ (((ceilCount s).flag NMK_CEIL_EN nmkPage && (ceilCount s).anyVote) =
      true)) ∧
    (∃ (s : State) (v : Nat), (v = plainRead s nmkPage 0x40 ||| 2 ^ 17) ∧ (s.flag H_STAT_HELD nmkPage = false) ∧ (s.takes nmkPage 0x40 v =
      true)) ∧
    (∃ (s : State) (b : Nat), (s.takes nmkPage (0x11C + 0x40 * b) 1 = true)) ∧
    (∃ (s : State) (b k : Nat), (b < 8) ∧ (k < 16) ∧ (s.takes nmkPage (0x11C + 0x40 * b) 1 = true)) :=
  ⟨⟨State.reset, 3, by decide +kernel⟩,
   ⟨st [(NTIME_CFG_SRC.loc ntPage, 1), (H_CTRL_EN.loc ntPage, 1)], 3, by decide +kernel⟩,
   ⟨State.reset, by decide +kernel⟩,
   ⟨{ st [(NTIME_CFG_SRC.loc ntPage, 1), (H_CTRL_EN.loc ntPage, 1)] with nt := { before := some {} } }, ({ st [(NTIME_CFG_SRC.loc ntPage, 1), (H_CTRL_EN.loc ntPage, 1)] with nt := { before := some {} } }).reached ntPage, _, by decide +kernel, rfl, by decide +kernel, rfl⟩,
   ⟨State.reset, by decide +kernel⟩,
   ⟨{ st [(NTIME_CFG_SRC.loc ntPage, 1), (H_CTRL_EN.loc ntPage, 1)] with nt := { before := some {} } }, ({ st [(NTIME_CFG_SRC.loc ntPage, 1), (H_CTRL_EN.loc ntPage, 1)] with nt := { before := some {} } }).reached ntPage, _, by decide +kernel, rfl, by decide +kernel, rfl⟩,
   ⟨st [(NTIME_STAT_JUMP_REFUSED.loc ntPage, 1), (NTIME_PEND_LO.loc ntPage, 9)], _, _, _, 9, by decide +kernel, rfl, by decide +kernel, by decide +kernel, by decide +kernel, by decide +kernel, rfl, rfl, by decide +kernel⟩,
   ⟨st [(NTIME_STAT_JUMP_REFUSED.loc ntPage, 1), (NTIME_PEND_HI.loc ntPage, 2147483648)], (st [(NTIME_STAT_JUMP_REFUSED.loc ntPage, 1), (NTIME_PEND_HI.loc ntPage, 2147483648)]).reached ntPage, by decide +kernel⟩,
   ⟨st [(NTIME_STAT_JUMP_REFUSED.loc ntPage, 1), (NTIME_PEND_LO.loc ntPage, 9)], _, _, _, 9, by decide +kernel, rfl, by decide +kernel, by decide +kernel, by decide +kernel, by decide +kernel, rfl, rfl⟩,
   ⟨st [(NTIME_STAT_SLEWING.loc ntPage, 1)], by decide +kernel⟩,
   ⟨{ st [(NTIME_STAT_STATE.loc ntPage, 1)] with tb := 900000000000 }, by decide +kernel⟩,
   ⟨{ st [(NTIME_STAT_STATE.loc ntPage, 2), (NTIME_CFG2_HOLDOVER_MAX.loc ntPage, 5)] with nt := { last := some 0 }, tb := 900000000000 }, by decide +kernel⟩,
   ⟨st [(H_LOCKSTAT_UNLOCKED.loc ntPage, 1)], _, _, 0x3E801, by decide +kernel, rfl, rfl⟩,
   ⟨st [(NTIME_STAT_STATE.loc ntPage, 1)], by decide +kernel⟩,
   ⟨{ st [(NTIME_STAT_STATE.loc ntPage, 2)] with tb := 5000000000 }, by decide +kernel⟩,
   ⟨State.reset, by decide +kernel⟩,
   ⟨(st [(CAN_SCHED_CFG_EN.loc (canPage 2), 1), (CAN_SCHED_CFG_LEVEL2.loc (canPage 2), 0), (CAN_REFMSG_ID.loc (canPage 2), 8)]).upTt 2 fun x => { x with running := true }, 2, { id := 9, dlc := 1, data := [3], xtd := false, fdf := false, brs := false, esi := false, rtr := false }, by decide +kernel⟩,
   ⟨st [(CTRX_STAT_MODE_ACT.loc ctrxPage 2, 3)], 2, by decide +kernel⟩,
   ⟨st [(CTRX_STAT_MODE_ACT.loc ctrxPage 2, 4)], 2, by decide +kernel⟩,
   ⟨(st [(CTRX_STAT_MODE_ACT.loc ctrxPage 2, 4)]).upXcv 2 fun x => { x with armed := true }, ((st [(CTRX_STAT_MODE_ACT.loc ctrxPage 2, 4)]).upXcv 2 fun x => { x with armed := true }).upXcv 2 fun x => { x with heard := 0 }, (((st [(CTRX_STAT_MODE_ACT.loc ctrxPage 2, 4)]).upXcv 2 fun x => { x with armed := true }).upXcv 2 fun x => { x with heard := 0 }).set CTRX_SWK_STAT_FEC ctrxPage 0 2, 2, { id := 0, dlc := 0, data := [], xtd := false, fdf := false, brs := false, esi := false, rtr := false }, by decide +kernel⟩,
   ⟨(st [(CTRX_STAT_MODE_ACT.loc ctrxPage 2, 4)]).upXcv 2 fun x => { x with armed := true }, 2, by decide +kernel⟩,
   ⟨(st [(CTRX_STAT_MODE_ACT.loc ctrxPage 2, 4), (CTRX_SWK_STAT_FEC.loc ctrxPage 2, 31)]).upXcv 2 fun x => { x with armed := true }, 2, by decide +kernel⟩,
   ⟨{ State.reset with tb := 700000000 }, 2, by decide +kernel⟩,
   ⟨State.reset, 2, by decide +kernel⟩,
   ⟨({ State.reset with tb := 900000000000 } : State).upXcv 2 fun x => { x with window := some (0, 4) }, 2, 0, 4, by decide +kernel⟩,
   ⟨{ State.reset with tb := 900000000000, nm := { linWin := [(5, 0)] } }, 5, 5, 0, by decide +kernel⟩,
   ⟨st [(NMK_CFG_EN.loc nmkPage 6, 1), (NMK_ID_HI.loc nmkPage 6, 99), (NMK_ID_LO.loc nmkPage 6, 0), (NMK_CFG_SRC_BYTE.loc nmkPage 6, 0)], 6, { id := 9, dlc := 1, data := [3], xtd := false, fdf := false, brs := false, esi := false, rtr := false }, by decide +kernel⟩,
   ⟨{ st [(NMK_CFG_EN.loc nmkPage 6, 1), (NMK_ID_HI.loc nmkPage 6, 99), (NMK_ID_LO.loc nmkPage 6, 0), (NMK_CFG_SRC_BYTE.loc nmkPage 6, 0)] with nm := { commit := some {} } }, {}, 6, { id := 9, dlc := 1, data := [3], xtd := false, fdf := false, brs := false, esi := false, rtr := false }, by decide +kernel⟩,
   ⟨st [(NMK_STAT_STATE.loc nmkPage 2, 2)], 2, by decide +kernel⟩,
   ⟨st [(NMK_STAT_STATE.loc nmkPage 2, 3)], 2, by decide +kernel⟩,
   ⟨State.reset, 2, 1, by decide +kernel⟩,
   ⟨{ State.reset with nm := { commit := some {} } }, {}, 2, 1, by decide +kernel⟩,
   ⟨st [(NMK_STAT_STATE.loc nmkPage 2, 1)], 2, by decide +kernel⟩,
   ⟨State.reset, 4, by decide +kernel⟩,
   ⟨st [(NMK_STAT_STATE.loc nmkPage 2, 4)], 4, by decide +kernel⟩,
   ⟨st [(NMK_STAT_STATE.loc nmkPage 2, 4), (NMK_CFG_SLEEP_MODE.loc nmkPage 2, 0)], 4, 2, by decide +kernel⟩,
   ⟨{ State.reset with nm := { watchEnd := 7, watchCan := 4 } }, 2, by decide +kernel⟩,
   ⟨{ st [(NMK_CEIL_EN.loc nmkPage, 1), (NMK_STAT_VOTE_EFF.loc nmkPage 2, 1)] with nm := { ceilLeft := 0 } }, by decide +kernel⟩,
   ⟨State.reset, plainRead State.reset nmkPage 0x40 ||| 2 ^ 17, by decide +kernel⟩,
   ⟨State.reset, 2, by decide +kernel⟩,
   ⟨State.reset, 2, 3, by decide +kernel⟩⟩

theorem test_witness_AccessCommands :
    (∃ (s : State), (s.takes accPage 0x4C 1 = true)) ∧
    (∃ (s z : State), (s.lf.tune = true) ∧ (s.domOn 11 = true) ∧ (s.immoSending = false) ∧ (s.lf.polling = false) ∧ (s.flag SUP_STAT_VBAT_OV 4 =
      false) ∧ (s.get ACC_LF_MASK_EN accPage = 0) ∧ (z = s)) ∧
    (∃ (s : State) (opn shorted n : Nat), (s.lf.tune = true) ∧ (s.domOn 11 = true) ∧ (s.immoSending = false) ∧ (s.lf.polling = false) ∧ (s.flag
      SUP_STAT_VBAT_OV 4 = false) ∧ (n < 6) ∧ (bitOf (s.get ACC_LF_MASK_EN accPage) n = true) ∧ (bitOf (opn ||| shorted ||| s.lfOff) n =
      false)) ∧
    (∃ (s : State), (s.domOn 11 = true)) ∧
    (∃ (s : State) (t : Nat), (s.lf.pollNext = some t) ∧ (t ≤ s.tb) ∧ (s.lf.polling = false) ∧ ((pollAfter s t).immo.run.isSome = true)) ∧
    (∃ (s : State) (t : Nat), (s.lf.pollNext = some t) ∧ (t ≤ s.tb) ∧ (s.lf.polling = false) ∧ (s.immo.run = none) ∧ (s.flag SUP_STAT_VBAT_OV 4
      = false) ∧ (s.order 11 ≠ 3) ∧ (s.order 7 ≠ 3)) ∧
    (∃ (s : State), (s.pollOver = true)) ∧
    (∃ (s : State), (s.pollOver = true) ∧ ((s.getDom 11).restore = none) ∧ ((s.getDom 7).restore = none)) ∧
    (∃ (s : State) (head crc : Nat), (s.pollHears head crc = true)) ∧
    (∃ (s : State), (s.lf.standTb + (s.get ACC_STAND_MIN accPage + 1) * 60000000000 ≤ s.tb)) ∧
    (∃ (s : State), (s.takes accPage 0x4C 2 = true)) :=
  ⟨⟨State.reset, by decide +kernel⟩,
   ⟨{ st [(ACC_LF_MASK_EN.loc accPage, 0)] with lf := { tune := true } }, { st [(ACC_LF_MASK_EN.loc accPage, 0)] with lf := { tune := true } }, by decide +kernel⟩,
   ⟨{ st [(ACC_LF_MASK_EN.loc accPage, 63)] with lf := { tune := true } }, 0, 2, 0, by decide +kernel⟩,
   ⟨State.reset, by decide +kernel⟩,
   ⟨{ State.reset with lf := { pollNext := some 0 }, immo := { run := some { start := true } } }, 0, by decide +kernel⟩,
   ⟨{ State.reset with lf := { pollNext := some 0 } }, 0, by decide +kernel⟩,
   ⟨{ State.reset with tb := 90000000, lf := { polling := true, pollFrom := some 0 } }, by decide +kernel⟩,
   ⟨{ State.reset with tb := 90000000, lf := { polling := true, pollFrom := some 0 } }, by decide +kernel⟩,
   ⟨{ st [(H_CTRL_EN.loc accPage, 1), (ACC_UHF_EN.loc accPage, 1), (IMMO_KEYS_LEARNT.loc immoPage, 4), (IMMO_VID.loc immoPage, 3)] with lf := { polling := true } }, 67, crc8 [67], by decide +kernel⟩,
   ⟨{ State.reset with tb := 60000000000 }, by decide +kernel⟩,
   ⟨State.reset, by decide +kernel⟩⟩

theorem test_witness_ImmobiliserAndReleaseCommands :
    (∃ (s : State) (go mask : Nat), (go < 3) ∧ (go ≠ 0) ∧ (mask < 64) ∧ (s.takes immoPage 0x4C (go + mask * 256) = true)) ∧
    (∃ (s : State) (mask : Nat), (mask < 64) ∧ (s.takes immoPage 0x4C (3 + mask * 256) = true)) ∧
    (∃ (s : State), (s.takes immoPage 0x4C 4 = true)) ∧
    (∃ (s : State) (x : Xreq), (s.takes immoPage 0x4C 4 = true) ∧ (s.immo.run = some x)) ∧
    (∃ (s : State), (s.takes immoPage 0x4C 8 = true)) ∧
    (∃ (s : State), (s.immo.run.isSome = true) ∧ (s.get IMMO_XSTAT_STATE immoPage = 1) ∧ (s.domOn 11 = true) ∧ (s.telegramDue ≤ s.tb)) ∧
    (∃ (s : State) (k : Nat) (viol : Bool) (bytes heard crc : List Byte), (s.get IMMO_XSTAT_STATE immoPage = 2) ∧ (s.slotTurn k = true) ∧
      (s.domOn 11 = true) ∧ (s.flag ACC_UHF_EN accPage = true) ∧ (bytes = heard ++ crc) ∧ (viol = true)) ∧
    (∃ (s : State) (k : Nat) (viol : Bool) (bytes heard crc : List Byte), (s.get IMMO_XSTAT_STATE immoPage = 2) ∧ (s.slotTurn k = true) ∧
      (s.domOn 11 = true) ∧ (s.flag ACC_UHF_EN accPage = true) ∧ (bytes = heard ++ crc) ∧ (viol = false) ∧ (bytes = [])) ∧
    (∃ (s : State) (k : Nat) (viol : Bool) (resp bytes heard crc : List Byte), (s.get IMMO_XSTAT_STATE immoPage = 2) ∧ (s.slotTurn k = true) ∧
      (s.domOn 11 = true) ∧ (s.flag ACC_UHF_EN accPage = true) ∧ (bytes = heard ++ crc) ∧ (viol = false) ∧ (resp.length = 8) ∧ (bytes = resp
      ++ [BitVec.ofNat 8 (crc16 (resp.map BitVec.toNat) / 256), BitVec.ofNat 8 (crc16 (resp.map BitVec.toNat))])) ∧
    (∃ (s : State) (k : Nat) (viol : Bool) (bytes heard crc : List Byte), (s.get IMMO_XSTAT_STATE immoPage = 2) ∧ (s.slotTurn k = true) ∧
      (s.domOn 11 = true) ∧ (s.flag ACC_UHF_EN accPage = true) ∧ (bytes = heard ++ crc) ∧ (viol = false) ∧ (bytes ≠ []) ∧ (bytes.length ≠
      10)) ∧
    (∃ (s : State) (k : Nat) (viol : Bool) (bytes heard crc : List Byte), (s.get IMMO_XSTAT_STATE immoPage = 2) ∧ (s.slotTurn k = true) ∧
      (s.domOn 11 = true) ∧ (s.flag ACC_UHF_EN accPage = true) ∧ (bytes = heard ++ crc) ∧ (viol = false) ∧ (bytes.length = 10) ∧ (crc16
      ((bytes.map BitVec.toNat).take 8) ≠ (bytes.map BitVec.toNat).getD 8 0 * 256 + (bytes.map BitVec.toNat).getD 9 0)) ∧
    (∃ (s : State) (k : Nat) (bytes heard crc : List Byte), (s.get IMMO_XSTAT_STATE immoPage = 2) ∧ (s.slotTurn k = true) ∧ (s.domOn 11 = true)
      ∧ (s.flag ACC_UHF_EN accPage = false) ∧ (bytes = heard ++ crc)) ∧
    (∃ (s : State) (m : Master) (k : Nat) (v : Bool), (m ≠ .se) ∧ (s.takes immoPage 0xA4 (k + 256 * b2n v) = true)) ∧
    (∃ (s z : State) (k : Nat) (v : Bool), (k < 8) ∧ (s.takes immoPage 0xA4 (k + 256 * b2n v) = true) ∧ (z = s.reached immoPage) ∧
      ((z.immo.undo.all fun u => u.tb != z.tb || z.immo.run.isSome) = true) ∧ ((z.immo.run.isNone || z.slotClass k != 1 || bitOf
      z.immo.judged k) = true)) ∧
    (∃ (s z y : State) (k : Nat), (k < 8) ∧ (s.takes immoPage 0xA4 k = true) ∧ (z = s.reached immoPage) ∧ ((z.immo.undo.all fun u => u.tb !=
      z.tb || z.immo.run.isSome) = true) ∧ ((z.immo.run.isNone || z.slotClass k != 1 || bitOf z.immo.judged k) = false) ∧ (y = z.upImmo fun
      x => { x with judged := setBit x.judged k }) ∧ (y.immoWinner = none)) ∧
    (∃ (s z y : State) (k w : Nat), (k < 8) ∧ (s.takes immoPage 0xA4 (k + 256) = true) ∧ (z = s.reached immoPage) ∧ ((z.immo.undo.all fun u =>
      u.tb != z.tb || z.immo.run.isSome) = true) ∧ ((z.immo.run.isNone || z.slotClass k != 1 || bitOf z.immo.judged k) = false) ∧ (y =
      (z.upImmo fun x => { x with judged := setBit x.judged k }).set IMMO_SLOTSTAT_VALID immoPage (setBit ((z.upImmo fun x =>
      { x with judged := setBit x.judged k }).get IMMO_SLOTSTAT_VALID immoPage) k)) ∧ (y.immoWinner = some w)) ∧
    (∃ (s z t : State) (u : ImmoUndo) (k : Nat) (v : Bool), (k < 8) ∧ (s.takes immoPage 0xA4 (k + 256 * b2n v) = true) ∧ (z = s.reached
      immoPage) ∧ (z.immo.run = none) ∧ (z.immo.undo = some u) ∧ (u.tb = z.tb) ∧ (t = ((immoRegs.zip u.regs).foldl (fun s x => s.set x.1
      immoPage x.2) z).upImmo fun y => { y with run := u.run, tp := u.tp, endTb := u.endTb, await := u.await, undo := none }) ∧
      ((immoVerdict t k v).1.immo.run = none) ∧ ((immoVerdict t k v).2 = false)) ∧
    (∃ (s z t : State) (u : ImmoUndo) (k : Nat), (k < 8) ∧ (s.takes immoPage 0xA4 (k + 256 * b2n false) = true) ∧ (z = s.reached immoPage) ∧
      (z.immo.run = none) ∧ (z.immo.undo = some u) ∧ (u.tb = z.tb) ∧ (t = ((immoRegs.zip u.regs).foldl (fun s x => s.set x.1 immoPage x.2)
      z).upImmo fun y => { y with run := u.run, tp := u.tp, endTb := u.endTb, await := u.await, undo := none }) ∧ ((immoVerdict t k
      false).1.immo.run.isSome = true) ∧ ((immoVerdict t k false).2 = false)) ∧
    (∃ (s : State), (s.domOn 11 = true)) ∧
    (∃ (s : State), (s.domOn 11 = true) ∧ (s.immo.run.isSome = true) ∧ (s.get IMMO_XSTAT_STATE immoPage = 2) ∧ (s.immoDone = true)) ∧
    (∃ (s : State), (s.domOn 11 = true) ∧ (s.immo.run.isSome = true) ∧ (s.immo.await = none) ∧ (s.get IMMO_XSTAT_STATE immoPage = 3) ∧
      (s.immo.since + 1000000 ≤ s.tb) ∧ (s.flag SUP_STAT_VBAT_OV 4 = false)) ∧
    (∃ (s : State), (s.domOn 11 = true) ∧ (s.immo.run.isSome = true) ∧ (s.immo.await = none) ∧ (s.get IMMO_XSTAT_STATE immoPage = 3) ∧
      (s.immo.since + 1000000 ≤ s.tb) ∧ (s.flag SUP_STAT_VBAT_OV 4 = true)) ∧
    (∃ (s : State) (x : Xreq), (s.immo.pend = some x) ∧ (s.domOn 11 = true) ∧ (s.immo.run = none) ∧ (s.lf.polling = false) ∧ (s.immo.endTb +
      1000000 ≤ s.tb)) ∧
    (∃ (s : State), (s.domOn 11 = true) ∧ (s.immo.run.isSome = true) ∧ (s.get IMMO_XSTAT_STATE immoPage = 4) ∧ (s.immo.closed = 0) ∧
      (s.immo.since + 28552000 ≤ s.tb) ∧ (andNot (s.get IMMO_XSTAT_MASK immoPage) s.lf.lost = 0)) ∧
    (∃ (s t : State) (k : Byte) (resp bytes head heard crc : List Byte), (s.domOn 11 = true) ∧ (s.immo.run.isSome = true) ∧ (s.get
      IMMO_XSTAT_STATE immoPage = 4) ∧ (s.immo.closed = 0) ∧ (s.immo.since + 28552000 ≤ s.tb) ∧ (andNot (s.get IMMO_XSTAT_MASK immoPage)
      s.lf.lost ≠ 0) ∧ (resp.length = 8) ∧ (bytes = head ++ heard ++ crc) ∧ (bytes = [k] ++ resp ++ [BitVec.ofNat 8 (crc16 (resp.map
      BitVec.toNat) / 256), BitVec.ofNat 8 (crc16 (resp.map BitVec.toNat))]) ∧ (t = immoSlotClose s (k.toNat % 8) 1 (answerWord (resp.map
      BitVec.toNat)) (answerWord ((resp.map BitVec.toNat).drop 4))) ∧ (t.slotClass (k.toNat % 8) = 1)) ∧
    (∃ (s t : State) (viol : Bool) (bytes head heard crc : List Byte), (s.domOn 11 = true) ∧ (s.immo.run.isSome = true) ∧ (s.get
      IMMO_XSTAT_STATE immoPage = 4) ∧ (s.immo.closed = 0) ∧ (s.immo.since + 28552000 ≤ s.tb) ∧ (andNot (s.get IMMO_XSTAT_MASK immoPage)
      s.lf.lost ≠ 0) ∧ (bytes = head ++ heard ++ crc) ∧ (answerClass viol ((bytes.map BitVec.toNat).drop 1) ≠ 1) ∧ (t = immoSlotClose s
      ((bytes.map BitVec.toNat).getD 0 0 % 8) (answerClass viol ((bytes.map BitVec.toNat).drop 1)) (answerWord ((bytes.map
      BitVec.toNat).drop 1)) (answerWord ((bytes.map BitVec.toNat).drop 5))) ∧ (t.slotClass ((bytes.map BitVec.toNat).getD 0 0 % 8) ≠ 1)) ∧
    (∃ (s z : State) (m : Master), (s.takes immoPage 0xAC 1 = true) ∧ (z = s.reached immoPage) ∧ (z.relOk m = false)) ∧
    (∃ (s z : State) (m : Master), (s.takes immoPage 0xAC 1 = true) ∧ (z = s.reached immoPage) ∧ (z.relOk m = true)) ∧
    (∃ (s : State), (s.relDue = true) ∧ (s.get IMMO_REL_STAT_SENT immoPage < s.get IMMO_REL_CFG_REPEAT immoPage) ∧ ((!s.domOn 3 || bitOf (s.get
      CAN_TX_PEND (canPage s.relCan)) s.relBuf) = true)) ∧
    (∃ (s : State), (s.relDue = true) ∧ (s.get IMMO_REL_STAT_SENT immoPage < s.get IMMO_REL_CFG_REPEAT immoPage) ∧ ((!s.domOn 3 || bitOf (s.get
      CAN_TX_PEND (canPage s.relCan)) s.relBuf) = false)) ∧
    (∃ (s : State), (s.relBegan = true) ∧ ((s.immo.relUndo.all fun u => u.tb != s.tb) = true)) ∧
    (∃ (s : State) (u : RelUndo), (s.relBegan = true) ∧ (s.immo.relUndo = some u) ∧ (u.tb = s.tb)) ∧
    (∃ (s : State), (s.relDue = true) ∧ (s.get IMMO_REL_CFG_REPEAT immoPage ≤ s.get IMMO_REL_STAT_SENT immoPage)) ∧
    (∃ (s : State), (s.takes immoPage 0xAC 2 = true)) :=
  ⟨⟨State.reset, 1, 3, by decide +kernel⟩,
   ⟨State.reset, 3, by decide +kernel⟩,
   ⟨State.reset, by decide +kernel⟩,
   ⟨{ State.reset with immo := { run := some { start := true } } }, { start := true }, by decide +kernel⟩,
   ⟨State.reset, by decide +kernel⟩,
   ⟨{ st [(IMMO_XSTAT_STATE.loc immoPage, 1)] with tb := 90000000, immo := { run := some { start := true } } }, by decide +kernel⟩,
   ⟨{ st [(IMMO_XSTAT_STATE.loc immoPage, 2), (IMMO_SLOTSTAT_CLASS.loc immoPage, 65532), (IMMO_KEYS_LEARNT.loc immoPage, 1), (ACC_UHF_EN.loc accPage, 1)] with tb := 90000000, immo := { run := some { start := true } } }, 0, true, [1], [1], [], by decide +kernel⟩,
   ⟨{ st [(IMMO_XSTAT_STATE.loc immoPage, 2), (IMMO_SLOTSTAT_CLASS.loc immoPage, 65532), (IMMO_KEYS_LEARNT.loc immoPage, 1), (ACC_UHF_EN.loc accPage, 1)] with tb := 90000000, immo := { run := some { start := true } } }, 0, false, [], [], [], by decide +kernel⟩,
   ⟨{ st [(IMMO_XSTAT_STATE.loc immoPage, 2), (IMMO_SLOTSTAT_CLASS.loc immoPage, 65532), (IMMO_KEYS_LEARNT.loc immoPage, 1), (ACC_UHF_EN.loc accPage, 1)] with tb := 90000000, immo := { run := some { start := true } } }, 0, false, [1, 2, 3, 4, 5, 6, 7, 8], [1, 2, 3, 4, 5, 6, 7, 8] ++ [BitVec.ofNat 8 (crc16 (([1, 2, 3, 4, 5, 6, 7, 8] : List Byte).map BitVec.toNat) / 256), BitVec.ofNat 8 (crc16 (([1, 2, 3, 4, 5, 6, 7, 8] : List Byte).map BitVec.toNat))], [1, 2, 3, 4, 5, 6, 7, 8], [BitVec.ofNat 8 (crc16 (([1, 2, 3, 4, 5, 6, 7, 8] : List Byte).map BitVec.toNat) / 256), BitVec.ofNat 8 (crc16 (([1, 2, 3, 4, 5, 6, 7, 8] : List Byte).map BitVec.toNat))], by decide +kernel⟩,
   ⟨{ st [(IMMO_XSTAT_STATE.loc immoPage, 2), (IMMO_SLOTSTAT_CLASS.loc immoPage, 65532), (IMMO_KEYS_LEARNT.loc immoPage, 1), (ACC_UHF_EN.loc accPage, 1)] with tb := 90000000, immo := { run := some { start := true } } }, 0, false, [1, 2], [1, 2], [], by decide +kernel⟩,
   ⟨{ st [(IMMO_XSTAT_STATE.loc immoPage, 2), (IMMO_SLOTSTAT_CLASS.loc immoPage, 65532), (IMMO_KEYS_LEARNT.loc immoPage, 1), (ACC_UHF_EN.loc accPage, 1)] with tb := 90000000, immo := { run := some { start := true } } }, 0, false, List.replicate 10 1, List.replicate 10 1, [], by decide +kernel⟩,
   ⟨{ st [(IMMO_XSTAT_STATE.loc immoPage, 2), (IMMO_SLOTSTAT_CLASS.loc immoPage, 65532), (IMMO_KEYS_LEARNT.loc immoPage, 1), (ACC_UHF_EN.loc accPage, 0)] with tb := 90000000, immo := { run := some { start := true } } }, 0, [7, 8], [7], [8], by decide +kernel⟩,
   ⟨State.reset, .hk, 2, true, by decide +kernel⟩,
   ⟨State.reset, State.reset.reached immoPage, 2, true, by decide +kernel⟩,
   ⟨{ st [(IMMO_XSTAT_STATE.loc immoPage, 2), (IMMO_SLOTSTAT_CLASS.loc immoPage, 65533), (IMMO_KEYS_LEARNT.loc immoPage, 1), (ACC_UHF_EN.loc accPage, 1)] with immo := { run := some { start := true } } }, ({ st [(IMMO_XSTAT_STATE.loc immoPage, 2), (IMMO_SLOTSTAT_CLASS.loc immoPage, 65533), (IMMO_KEYS_LEARNT.loc immoPage, 1), (ACC_UHF_EN.loc accPage, 1)] with immo := { run := some { start := true } } } : State).reached immoPage, (({ st [(IMMO_XSTAT_STATE.loc immoPage, 2), (IMMO_SLOTSTAT_CLASS.loc immoPage, 65533), (IMMO_KEYS_LEARNT.loc immoPage, 1), (ACC_UHF_EN.loc accPage, 1)] with immo := { run := some { start := true } } } : State).reached immoPage).upImmo fun x => { x with judged := 1 }, 0, by decide +kernel⟩,
   ⟨{ st [(IMMO_XSTAT_STATE.loc immoPage, 2), (IMMO_SLOTSTAT_CLASS.loc immoPage, 65533), (IMMO_KEYS_LEARNT.loc immoPage, 1), (ACC_UHF_EN.loc accPage, 1)] with immo := { run := some { start := true } } }, ({ st [(IMMO_XSTAT_STATE.loc immoPage, 2), (IMMO_SLOTSTAT_CLASS.loc immoPage, 65533), (IMMO_KEYS_LEARNT.loc immoPage, 1), (ACC_UHF_EN.loc accPage, 1)] with immo := { run := some { start := true } } } : State).reached immoPage, ((({ st [(IMMO_XSTAT_STATE.loc immoPage, 2), (IMMO_SLOTSTAT_CLASS.loc immoPage, 65533), (IMMO_KEYS_LEARNT.loc immoPage, 1), (ACC_UHF_EN.loc accPage, 1)] with immo := { run := some { start := true } } } : State).reached immoPage).upImmo fun x => { x with judged := 1 }).set IMMO_SLOTSTAT_VALID immoPage 1, 0, 0, by decide +kernel⟩,
   ⟨{ st [(IMMO_SLOTSTAT_CLASS.loc immoPage, 0xFFFD), (IMMO_KEYS_LEARNT.loc immoPage, 1), (IMMO_RESULT_OUTCOME.loc immoPage, 3)] with immo := { undo := some { run := some { start := true }, regs := [0, 0, 0, 0, 2, 0, 0] } } }, _, _, { run := some { start := true }, regs := [0, 0, 0, 0, 2, 0, 0] }, 0, true, by decide +kernel, by decide +kernel, rfl, by decide +kernel, by decide +kernel, by decide +kernel, rfl, by decide +kernel, by decide +kernel⟩,
   ⟨{ st [(IMMO_SLOTSTAT_CLASS.loc immoPage, 0xFFFD), (IMMO_KEYS_LEARNT.loc immoPage, 1), (IMMO_RESULT_OUTCOME.loc immoPage, 3)] with immo := { undo := some { run := some { start := true }, regs := [0, 0, 0, 0, 2, 0, 0] } } }, _, _, { run := some { start := true }, regs := [0, 0, 0, 0, 2, 0, 0] }, 0, by decide +kernel, by decide +kernel, rfl, by decide +kernel, by decide +kernel, by decide +kernel, rfl, by decide +kernel, by decide +kernel⟩,
   ⟨State.reset, by decide +kernel⟩,
   ⟨{ st [(IMMO_XSTAT_STATE.loc immoPage, 2), (IMMO_SLOTSTAT_CLASS.loc immoPage, 65535), (IMMO_KEYS_LEARNT.loc immoPage, 1), (ACC_UHF_EN.loc accPage, 1)] with tb := 90000000, immo := { run := some { start := true } } }, by decide +kernel⟩,
   ⟨{ st [(IMMO_XSTAT_STATE.loc immoPage, 3)] with tb := 2000000, immo := { run := some { start := true } } }, by decide +kernel⟩,
   ⟨{ st [(IMMO_XSTAT_STATE.loc immoPage, 3), (SUP_STAT_VBAT_OV.loc 4, 1)] with tb := 2000000, immo := { run := some { start := true } } }, by decide +kernel⟩,
   ⟨{ State.reset with tb := 2000000, immo := { pend := some { start := true } } }, { start := true }, by decide +kernel⟩,
   ⟨{ st [(IMMO_XSTAT_STATE.loc immoPage, 4)] with tb := 28552000, immo := { run := some { start := true, tp := true }, tp := true } }, by decide +kernel⟩,
   ⟨{ st [(IMMO_XSTAT_STATE.loc immoPage, 4), (IMMO_XSTAT_MASK.loc immoPage, 32)] with tb := 28552000, immo := { run := some { start := true, tp := true }, tp := true } }, _, 2, [1, 2, 3, 4, 5, 6, 7, 8], _, [2], [1, 2, 3, 4, 5, 6, 7, 8], [BitVec.ofNat 8 (crc16 (([1, 2, 3, 4, 5, 6, 7, 8] : List Byte).map BitVec.toNat) / 256), BitVec.ofNat 8 (crc16 (([1, 2, 3, 4, 5, 6, 7, 8] : List Byte).map BitVec.toNat))], by decide +kernel, by decide +kernel, by decide +kernel, by decide +kernel, by decide +kernel, by decide +kernel, by decide +kernel, rfl, rfl, rfl, by decide +kernel⟩,
   ⟨{ st [(IMMO_XSTAT_STATE.loc immoPage, 4), (IMMO_XSTAT_MASK.loc immoPage, 32)] with tb := 28552000, immo := { run := some { start := true, tp := true }, tp := true } }, _, true, [], [], [], [], by decide +kernel, by decide +kernel, by decide +kernel, by decide +kernel, by decide +kernel, by decide +kernel, by decide +kernel, by decide +kernel, rfl, by decide +kernel⟩,
   ⟨State.reset, State.reset.reached immoPage, .hk, by decide +kernel⟩,
   ⟨{ st [(IMMO_RESULT_OUTCOME.loc immoPage, 1), (IMMO_RESULT_PURPOSE.loc immoPage, 1), (H_CTRL_EN.loc (canPage 0), 1), (IMMO_REL_CFG_CAN.loc immoPage, 0)] with immo := { grantTb := some 0 } }, ({ st [(IMMO_RESULT_OUTCOME.loc immoPage, 1), (IMMO_RESULT_PURPOSE.loc immoPage, 1), (H_CTRL_EN.loc (canPage 0), 1), (IMMO_REL_CFG_CAN.loc immoPage, 0)] with immo := { grantTb := some 0 } } : State).reached immoPage, .se, by decide +kernel⟩,
   ⟨{ st [(IMMO_REL_STAT_ACTIVE.loc immoPage, 1), (IMMO_REL_CFG_REPEAT.loc immoPage, 9), (IMMO_REL_CFG_CAN.loc immoPage, 0), (IMMO_REL_CFG_BUF.loc immoPage, 0), (CAN_TX_PEND.loc (canPage 0), 1)] with tb := 200000000 }, by decide +kernel⟩,
   ⟨{ st [(IMMO_REL_STAT_ACTIVE.loc immoPage, 1), (IMMO_REL_CFG_REPEAT.loc immoPage, 9)] with tb := 200000000 }, by decide +kernel⟩,
   ⟨st [(IMMO_REL_STAT_ACTIVE.loc immoPage, 1), (IMMO_REL_STAT_SENT.loc immoPage, 2)], by decide +kernel⟩,
   ⟨{ st [(IMMO_REL_STAT_ACTIVE.loc immoPage, 1), (IMMO_REL_STAT_SENT.loc immoPage, 2)] with immo := { relUndo := some { sent := 1 } } }, { sent := 1 }, by decide +kernel⟩,
   ⟨{ st [(IMMO_REL_STAT_ACTIVE.loc immoPage, 1), (IMMO_REL_CFG_REPEAT.loc immoPage, 0)] with tb := 200000000 }, by decide +kernel⟩,
   ⟨State.reset, by decide +kernel⟩⟩

theorem test_witness_RingCommands :
    (∃ (s : State), (s.ringOn = true) ∧ (s.isMaster = false)) ∧
    (∃ (s z : State) (d : Int) (dly hops : Nat) (sh : RingTell), (s.ringOn = true) ∧ (s.isMaster = false) ∧ (z = (((s.set RING_TB_ERR ringPage
      (unsgn 16 (satSgn 16 d))).set RING_LINK_DLY ringPage dly).set RING_LINK_HOPS ringPage hops).upRing fun x =>
      { x with sync := some s.tb, owed := sh.owed, owedAt := if sh.owed = x.owed then x.owedAt else (s.tb / 1000000 + 1) * 1000000 }) ∧
      (z.flag RING_STAT_LOCKED ringPage = false) ∧ (d < -10)) ∧
    (∃ (s : State), (s.ringOn = true) ∧ (s.isMaster = true) ∧ (s.ring.owed ≠ 0) ∧ (s.ring.owedAt ≤ s.tb)) ∧
    (∃ (s : State), (s.ringOn = true) ∧ (s.isMaster = false) ∧ (s.flag RING_STAT_LOCKED ringPage = true) ∧ (s.ring.owed ≠ 0) ∧ (s.ring.owedAt ≤
      s.tb)) ∧
    (∃ (s : State), (s.ringOn = true) ∧ (s.isMaster = false) ∧ (s.flag RING_STAT_LOCKED ringPage = false)) ∧
    (∃ (s : State) (t : Nat), (s.ring.sync = some t) ∧ (t + 64000 ≤ s.tb)) ∧
    (∃ (s : State), (s.ringOn = true)) ∧
    (∃ (s : State) (t : Nat), (s.ring.aligned = some t) ∧ (s.ringOn = true) ∧ (t + 20000 ≤ s.tb)) ∧
    (∃ (s : State), (s.ringOn = true) ∧ (s.isMaster = true)) ∧
    (∃ (s : State) (d limp : Nat), (s.ringOn = true) ∧ (s.isMaster = true) ∧ (d < 7) ∧ (limp < 16)) ∧
    (∃ (s : State) (d t : Nat), ((s.sat d).seen = some t) ∧ (bitOf (s.get RING_MAP ringPage) d = true) ∧ (t + 3000000 ≤ s.tb)) ∧
    (∃ (s : State), (s.isMaster = true) ∧ ((s.flag RING_STAT_LINK_A ringPage && s.flag RING_STAT_LINK_B ringPage) = true)) ∧
    (∃ (s : State), (s.inPark = true) ∧ (s.flag H_CTRL_EN ringPage = true) ∧ (s.flag RING_CFG_PARK_WAKE ringPage = true)) ∧
    (∃ (s : State), (s.ringOn = true) ∧ (s.isMaster = true) ∧ (s.ring.fwd = [])) ∧
    (∃ (s : State), (s.ring.fwd = [])) ∧
    (∃ (s : State) (a b : Nat) (q : List (Nat × Nat)), (s.ring.fwd = (a, b) :: q)) ∧
    (∃ (s : State) (d : Nat), (s.gateTakes d = true)) ∧
    (∃ (s : State), (s.isMaster = false)) :=
  ⟨⟨{ st [(H_CTRL_EN.loc ringPage, 1)] with clk := { frozen := false, restarting := false } }, by decide +kernel⟩,
   ⟨{ st [(H_CTRL_EN.loc ringPage, 1)] with clk := { frozen := false, restarting := false } }, (((({ st [(H_CTRL_EN.loc ringPage, 1)] with clk := { frozen := false, restarting := false } } : State).set RING_TB_ERR ringPage 65486).set RING_LINK_DLY ringPage 30).set RING_LINK_HOPS ringPage 2).upRing fun x => { x with sync := some 0 }, -50, 30, 2, ⟨false, 0⟩, by decide +kernel⟩,
   ⟨({ st [(H_CTRL_EN.loc ringPage, 1), (RING_STAT_ROLE.loc ringPage, 1)] with clk := { frozen := false, restarting := false }, tb := 9000000000 } : State).upRing fun x => { x with owed := 7 }, by decide +kernel⟩,
   ⟨{ st [(H_CTRL_EN.loc ringPage, 1), (RING_STAT_LOCKED.loc ringPage, 1)] with clk := { frozen := false, restarting := false }, ring := { owed := 5 } }, by decide +kernel⟩,
   ⟨{ st [(H_CTRL_EN.loc ringPage, 1)] with clk := { frozen := false, restarting := false } }, by decide +kernel⟩,
   ⟨({ st [(H_CTRL_EN.loc ringPage, 1), (RING_STAT_ROLE.loc ringPage, 1)] with clk := { frozen := false, restarting := false }, tb := 9000000000 } : State).upRing fun x => { x with sync := some 7 }, 7, by decide +kernel⟩,
   ⟨{ st [(H_CTRL_EN.loc ringPage, 1)] with clk := { frozen := false, restarting := false } }, by decide +kernel⟩,
   ⟨({ st [(H_CTRL_EN.loc ringPage, 1), (RING_STAT_ROLE.loc ringPage, 1)] with clk := { frozen := false, restarting := false }, tb := 9000000000 } : State).upRing fun x => { x with aligned := some 7 }, 7, by decide +kernel⟩,
   ⟨{ st [(H_CTRL_EN.loc ringPage, 1), (RING_STAT_ROLE.loc ringPage, 1)] with clk := { frozen := false, restarting := false }, tb := 9000000000 }, by decide +kernel⟩,
   ⟨{ st [(H_CTRL_EN.loc ringPage, 1), (RING_STAT_ROLE.loc ringPage, 1)] with clk := { frozen := false, restarting := false }, tb := 9000000000 }, 1, 0, by decide +kernel⟩,
   ⟨({ st [(RING_MAP.loc ringPage, 2)] with tb := 9000000 } : State).upSat 1 fun x => { x with seen := some 0 }, 1, 0, by decide +kernel⟩,
   ⟨{ st [(H_CTRL_EN.loc ringPage, 1), (RING_STAT_ROLE.loc ringPage, 1), (RING_STAT_LINK_A.loc ringPage, 1), (RING_STAT_LINK_B.loc ringPage, 1), (RING_STAT_BROKEN.loc ringPage, 1)] with tb := 9 }, by decide +kernel⟩,
   ⟨(List.range 12).foldl (fun (s : State) n => s.setDom n { actual := .off }) (st [(H_CTRL_EN.loc ringPage, 1), (RING_CFG_PARK_WAKE.loc ringPage, 1)]), by decide +kernel⟩,
   ⟨{ st [(H_CTRL_EN.loc ringPage, 1), (RING_STAT_ROLE.loc ringPage, 1)] with clk := { frozen := false, restarting := false }, tb := 9000000000 }, by decide +kernel⟩,
   ⟨{ st [(H_CTRL_EN.loc ringPage, 1), (RING_STAT_ROLE.loc ringPage, 1)] with clk := { frozen := false, restarting := false }, tb := 9000000000 }, by decide +kernel⟩,
   ⟨({ st [(H_CTRL_EN.loc ringPage, 1), (RING_STAT_ROLE.loc ringPage, 1)] with clk := { frozen := false, restarting := false }, tb := 9000000000 } : State).upRing fun x => { x with fwd := [(1, 2)] }, 1, 2, [], by decide +kernel⟩,
   ⟨st [(H_CTRL_EN.loc ringPage, 1), (RING_STAT_ROLE.loc ringPage, 1), (RING_CFG_SHARED_GATE.loc ringPage, 1), (RING_MAP.loc ringPage, 2), (RING_SATSTAT_LOCKED.loc ringPage 1, 1)], 1, by decide +kernel⟩,
   ⟨{ st [(H_CTRL_EN.loc ringPage, 1)] with clk := { frozen := false, restarting := false } }, by decide +kernel⟩⟩

theorem test_witness_CoreArithmetic : ∃ (sh : Nat), (sh < 32) :=
  ⟨1, by decide +kernel⟩

theorem test_witness_CoreCompares :
    (∃ (imm : Nat), (imm < 2 ^ 16)) ∧
    (∃ (i : Nat), (i = 0x0B ∨ i = 0x0F ∨ i = 0x13 ∨ 0x15 ≤ i ∧ i < 0x18 ∨ 0x19 ≤ i ∧ i < 0x1C ∨ 0x1D ≤ i)) :=
  ⟨⟨1, by decide +kernel⟩,
   ⟨0x0B, by decide +kernel⟩⟩

theorem test_witness_CoreMemoryAccess :
    (∃ (s : State) (c ra imm a : Nat), (s.issues c = true) ∧ (a = ((s.seen c).word ra + immWord imm).toNat) ∧ (s.dReach c a false = none) ∧
      (s.isBad (dPlace a).1 (ownerOf (dPlace a).1 c) (dPlace a).2 = false) ∧ (4 ∣ a)) ∧
    (∃ (s : State) (c ra imm a : Nat), (s.issues c = true) ∧ (a = ((s.seen c).word ra + immWord imm).toNat) ∧ (s.dReach c a false = none) ∧
      (s.isBad (dPlace a).1 (ownerOf (dPlace a).1 c) (dPlace a).2 = false) ∧ (2 ∣ a)) ∧
    (∃ (s : State) (c ra imm a : Nat), (s.issues c = true) ∧ (a = ((s.seen c).word ra + immWord imm).toNat) ∧ (s.dReach c a false = none) ∧
      (s.isBad (dPlace a).1 (ownerOf (dPlace a).1 c) (dPlace a).2 = false)) ∧
    (∃ (s : State) (c ra imm a : Nat), (s.issues c = true) ∧ (a = ((s.seen c).word ra + immWord imm).toNat) ∧ (s.dReach c a true = none) ∧
      (s.isBad (dPlace a).1 (ownerOf (dPlace a).1 c) (dPlace a).2 = false) ∧ (4 ∣ a)) ∧
    (∃ (s : State) (c ra imm a : Nat), (s.issues c = true) ∧ (a = ((s.seen c).word ra + immWord imm).toNat) ∧ (s.dReach c a true = none) ∧
      (s.isBad (dPlace a).1 (ownerOf (dPlace a).1 c) (dPlace a).2 = false) ∧ (2 ∣ a)) ∧
    (∃ (s : State) (c ra imm a : Nat), (s.issues c = true) ∧ (a = ((s.seen c).word ra + immWord imm).toNat) ∧ (s.dReach c a true = none) ∧
      (s.isBad (dPlace a).1 (ownerOf (dPlace a).1 c) (dPlace a).2 = false)) ∧
    (∃ (s : State) (c ra a : Nat), (s.issues c = true) ∧ (a = ((s.seen c).word ra).toNat) ∧ (s.dReach c a false = none) ∧ (s.isBad (dPlace a).1
      (ownerOf (dPlace a).1 c) (dPlace a).2 = false) ∧ (4 ∣ a)) ∧
    (∃ (s : State) (c ra a : Nat), (s.issues c = true) ∧ (a = ((s.seen c).word ra).toNat) ∧ (s.dReach c a true = none) ∧ (s.isBad (dPlace a).1
      (ownerOf (dPlace a).1 c) (dPlace a).2 = false) ∧ (4 ∣ a)) ∧
    (∃ (s : State) (c ra a : Nat), (s.issues c = true) ∧ (a = (s.seen c).reg ra) ∧ (a < 0x8000 ∨ 0x10000000 ≤ a ∧ a < 0x10200000) ∧ (s.dReach c
      a true = none) ∧ (s.isBad (dPlace a).1 (ownerOf (dPlace a).1 c) (dPlace a).2 = false) ∧ (4 ∣ a)) ∧
    (∃ (s : State) (c ra imm a : Nat), (s.issues c = true) ∧ (a = ((s.seen c).word ra + immWord imm).toNat) ∧ (¬ 4 ∣ a)) ∧
    (∃ (s : State) (c ra imm a : Nat), (s.issues c = true) ∧ (a = ((s.seen c).word ra + immWord imm).toNat) ∧ (¬ 2 ∣ a)) ∧
    (∃ (s : State) (c ra : Nat), (s.issues c = true) ∧ (4 ∣ (s.seen c).reg ra) ∧ (0x20000000 ≤ (s.seen c).reg ra)) ∧
    (∃ (s : State) (c : Nat), (s.issues c = true) ∧ ((s.seen c).frames = 1)) ∧
    (∃ (s : State) (c p : Nat) (k : Core), (s.issues c = true) ∧ (k = s.seen c) ∧ (k.frames ≠ 1) ∧ (p = k.spillp) ∧ (p + 64 ≤ 0x8000) ∧ (4 ∣ p)
      ∧ (∀ i < 16, s.isBad 1 c (p + 4 * i) = false)) ∧
    (∃ (s : State) (c : Nat), (s.issues c = true) ∧ ((s.seen c).frames = 15)) ∧
    (∃ (s : State) (c p : Nat) (k : Core), (s.issues c = true) ∧ (k = s.seen c) ∧ (k.frames ≠ 15) ∧ (k.spillp = p + 64) ∧ (p + 64 ≤ 0x8000) ∧ (4
      ∣ p) ∧ (∀ i < 16, s.isBad 1 c (p + 4 * i) = false)) :=
  ⟨⟨coreSt { run := true, glob := [(1, 0x1200), (2, 77), (3, 0x10000040), (4, 0x4000)], win := [(0, 5)], pc := 64, vbase := 2048 }, 0, 1, 8, 0x1208, by decide +kernel⟩,
   ⟨coreSt { run := true, glob := [(1, 0x1200), (2, 77), (3, 0x10000040), (4, 0x4000)], win := [(0, 5)], pc := 64, vbase := 2048 }, 0, 1, 8, 0x1208, by decide +kernel⟩,
   ⟨coreSt { run := true, glob := [(1, 0x1200), (2, 77), (3, 0x10000040), (4, 0x4000)], win := [(0, 5)], pc := 64, vbase := 2048 }, 0, 1, 8, 0x1208, by decide +kernel⟩,
   ⟨coreSt { run := true, glob := [(1, 0x1200), (2, 77), (3, 0x10000040), (4, 0x4000)], win := [(0, 5)], pc := 64, vbase := 2048 }, 0, 1, 8, 0x1208, by decide +kernel⟩,
   ⟨coreSt { run := true, glob := [(1, 0x1200), (2, 77), (3, 0x10000040), (4, 0x4000)], win := [(0, 5)], pc := 64, vbase := 2048 }, 0, 1, 8, 0x1208, by decide +kernel⟩,
   ⟨coreSt { run := true, glob := [(1, 0x1200), (2, 77), (3, 0x10000040), (4, 0x4000)], win := [(0, 5)], pc := 64, vbase := 2048 }, 0, 1, 8, 0x1208, by decide +kernel⟩,
   ⟨coreSt { run := true, glob := [(1, 0x1200), (2, 77), (3, 0x10000040), (4, 0x4000)], win := [(0, 5)], pc := 64, vbase := 2048 }, 0, 1, 0x1200, by decide +kernel⟩,
   ⟨coreSt { run := true, glob := [(1, 0x1200), (2, 77), (3, 0x10000040), (4, 0x4000)], win := [(0, 5)], pc := 64, vbase := 2048 }, 0, 1, 0x1200, by decide +kernel⟩,
   ⟨coreSt { run := true, glob := [(1, 0x1200), (2, 77), (3, 0x10000040), (4, 0x4000)], win := [(0, 5)], pc := 64, vbase := 2048 }, 0, 1, 0x1200, by decide +kernel⟩,
   ⟨coreSt { run := true, glob := [(1, 0x1200), (2, 77), (3, 0x10000040), (4, 0x4000)], win := [(0, 5)], pc := 64, vbase := 2048 }, 0, 1, 2, 0x1202, by decide +kernel⟩,
   ⟨coreSt { run := true, glob := [(1, 0x1200), (2, 77), (3, 0x10000040), (4, 0x4000)], win := [(0, 5)], pc := 64, vbase := 2048 }, 0, 1, 3, 0x1203, by decide +kernel⟩,
   ⟨coreSt { run := true, glob := [(1, 0x20000000)] }, 0, 1, by decide +kernel⟩,
   ⟨coreSt { run := true }, 0, by decide +kernel⟩,
   ⟨coreSt { run := true, spillp := 0x2000, frames := 3, base := 32, win := [(1, 9)] }, 0, 0x2000, (coreSt { run := true, spillp := 0x2000, frames := 3, base := 32, win := [(1, 9)] }).seen 0, by decide +kernel⟩,
   ⟨coreSt { run := true, frames := 15 }, 0, by decide +kernel⟩,
   ⟨coreSt { run := true, spillp := 0x2000, frames := 3, base := 32, win := [(1, 9)] }, 0, 0x1FC0, (coreSt { run := true, spillp := 0x2000, frames := 3, base := 32, win := [(1, 9)] }).seen 0, by decide +kernel⟩⟩

theorem test_witness_CoreBranches :
    (∃ (s : State) (c rc : Nat), (s.issues c = true) ∧ ((s.seen c).slot = none) ∧ ((s.cr c).reg rc = 0) ∧ (4 ∣ (s.seen c).pc)) ∧
    (∃ (s : State) (c : Nat), (s.issues c = true) ∧ ((s.seen c).slot.isSome = true)) ∧
    (∃ (s : State) (c rc : Nat), (s.issues c = true) ∧ ((s.seen c).slot = none) ∧ ((s.cr c).reg rc ≠ 0) ∧ (4 ∣ (s.seen c).pc)) ∧
    (∃ (s : State) (c rc : Nat), (s.issues c = true) ∧ ((s.seen c).slot = none) ∧ ((s.cr c).reg rc ≠ 0)) ∧
    (∃ (s : State) (c rc : Nat), (s.issues c = true) ∧ ((s.seen c).slot = none) ∧ ((s.cr c).reg rc = 0)) ∧
    (∃ (s : State) (c : Nat), (s.issues c = true) ∧ ((s.seen c).slot = none) ∧ (4 ∣ (s.seen c).pc)) ∧
    (∃ (s : State) (c : Nat), (s.issues c = true) ∧ ((s.seen c).slot = none)) ∧
    (∃ (s : State) (c : Nat), (s.issues c = true) ∧ ((s.seen c).slot = none) ∧ (4 ∣ (s.seen c).pc) ∧ ((s.seen c).frames ≠ 15)) ∧
    (∃ (s : State) (c : Nat), (s.issues c = true) ∧ ((s.seen c).slot = none) ∧ ((s.seen c).frames ≠ 15)) ∧
    (∃ (s : State) (c : Nat), (s.issues c = true) ∧ ((s.seen c).slot = none) ∧ ((s.seen c).frames ≠ 1)) ∧
    (∃ (s : State) (c : Nat), (s.issues c = true) ∧ ((s.seen c).slot = none) ∧ ((s.seen c).frames = 15)) ∧
    (∃ (s : State) (c : Nat), (s.issues c = true) ∧ ((s.seen c).slot = none) ∧ ((s.seen c).frames = 1)) ∧
    (∃ (k : Core) (d : Slot), (k.rep = none) ∧ (k.slot = some d) ∧ (d.call = false) ∧ (d.ret = false)) ∧
    (∃ (k : Core) (d : Slot), (k.rep = none) ∧ (k.slot = some d) ∧ (d.call = true) ∧ (k.frames < 15)) ∧
    (∃ (k : Core) (d : Slot), (k.rep = none) ∧ (k.slot = some d) ∧ (d.call = false) ∧ (d.ret = true) ∧ (1 < k.frames)) :=
  ⟨⟨coreSt { run := true, glob := [(1, 0x1200), (2, 77), (3, 0x10000040), (4, 0x4000)], win := [(0, 5)], pc := 64, vbase := 2048 }, 0, 9, by decide +kernel⟩,
   ⟨coreSt { run := true, slot := some { addr := 4, target := 8 } }, 0, by decide +kernel⟩,
   ⟨coreSt { run := true, glob := [(1, 0x1200), (2, 77), (3, 0x10000040), (4, 0x4000)], win := [(0, 5)], pc := 64, vbase := 2048 }, 0, 1, by decide +kernel⟩,
   ⟨coreSt { run := true, glob := [(1, 0x1200), (2, 77), (3, 0x10000040), (4, 0x4000)], win := [(0, 5)], pc := 64, vbase := 2048 }, 0, 1, by decide +kernel⟩,
   ⟨coreSt { run := true, glob := [(1, 0x1200), (2, 77), (3, 0x10000040), (4, 0x4000)], win := [(0, 5)], pc := 64, vbase := 2048 }, 0, 9, by decide +kernel⟩,
   ⟨coreSt { run := true, glob := [(1, 0x1200), (2, 77), (3, 0x10000040), (4, 0x4000)], win := [(0, 5)], pc := 64, vbase := 2048 }, 0, by decide +kernel⟩,
   ⟨coreSt { run := true, glob := [(1, 0x1200), (2, 77), (3, 0x10000040), (4, 0x4000)], win := [(0, 5)], pc := 64, vbase := 2048 }, 0, by decide +kernel⟩,
   ⟨coreSt { run := true, glob := [(1, 0x1200), (2, 77), (3, 0x10000040), (4, 0x4000)], win := [(0, 5)], pc := 64, vbase := 2048 }, 0, by decide +kernel⟩,
   ⟨coreSt { run := true, glob := [(1, 0x1200), (2, 77), (3, 0x10000040), (4, 0x4000)], win := [(0, 5)], pc := 64, vbase := 2048 }, 0, by decide +kernel⟩,
   ⟨coreSt { run := true, frames := 2 }, 0, by decide +kernel⟩,
   ⟨coreSt { run := true, frames := 15 }, 0, by decide +kernel⟩,
   ⟨coreSt { run := true, glob := [(1, 0x1200), (2, 77), (3, 0x10000040), (4, 0x4000)], win := [(0, 5)], pc := 64, vbase := 2048 }, 0, by decide +kernel⟩,
   ⟨{ slot := some { addr := 4, target := 8 } }, { addr := 4, target := 8 }, by decide +kernel⟩,
   ⟨{ slot := some { addr := 4, target := 8, call := true } }, { addr := 4, target := 8, call := true }, by decide +kernel⟩,
   ⟨{ slot := some { addr := 4, target := 8, ret := true }, frames := 2 }, { addr := 4, target := 8, ret := true }, by decide +kernel⟩⟩

theorem test_witness_CoreLoops :
    (∃ (s : State) (c lvl ra len n : Nat) (k : Core), (s.issues c = true) ∧ (n = (s.seen c).reg ra % 65536) ∧ (n ≠ 0) ∧ (len < 4096) ∧ (4 ∣
      (s.seen c).pc) ∧ ((s.seen c).slot = none) ∧ (k =
      { s.seen c with lstart := tput (s.seen c).lstart lvl 0 (((s.seen c).pc + 4) % 65536), lend := tput (s.seen c).lend lvl 0 (((s.seen c).pc + 4 * len) % 65536), lcount := tput (s.seen c).lcount lvl 0 n })) ∧
    (∃ (s : State) (c lvl ra len n : Nat) (k : Core), (s.issues c = true) ∧ (n = (s.seen c).reg ra % 65536) ∧ (n = 0) ∧ (len < 4096) ∧ (4 ∣
      (s.seen c).pc) ∧ ((s.seen c).slot = none) ∧ (k =
      { s.seen c with lstart := tput (s.seen c).lstart lvl 0 (((s.seen c).pc + 4) % 65536), lend := tput (s.seen c).lend lvl 0 (((s.seen c).pc + 4 * len) % 65536), lcount := tput (s.seen c).lcount lvl 0 n })
      ∧ (k.rep = none)) ∧
    (∃ (s : State) (c lvl count len n : Nat) (k : Core), (s.issues c = true) ∧ (n = count) ∧ (n ≠ 0) ∧ (count < 4096) ∧ (len < 4096) ∧ (4 ∣
      (s.seen c).pc) ∧ ((s.seen c).slot = none) ∧ (k =
      { s.seen c with lstart := tput (s.seen c).lstart lvl 0 (((s.seen c).pc + 4) % 65536), lend := tput (s.seen c).lend lvl 0 (((s.seen c).pc + 4 * len) % 65536), lcount := tput (s.seen c).lcount lvl 0 n })) ∧
    (∃ (s : State) (c lvl count len n : Nat) (k : Core), (s.issues c = true) ∧ (n = count) ∧ (n = 0) ∧ (count < 4096) ∧ (len < 4096) ∧ (4 ∣
      (s.seen c).pc) ∧ ((s.seen c).slot = none) ∧ (k =
      { s.seen c with lstart := tput (s.seen c).lstart lvl 0 (((s.seen c).pc + 4) % 65536), lend := tput (s.seen c).lend lvl 0 (((s.seen c).pc + 4 * len) % 65536), lcount := tput (s.seen c).lcount lvl 0 n })
      ∧ (k.rep = none)) ∧
    (∃ (s : State) (c : Nat), (s.issues c = true)) ∧
    (∃ (k : Core) (l : Nat), (k.rep = none) ∧ (k.slot = none) ∧ (k.level = some l) ∧ (tget k.lend l 0 = k.pc) ∧ (1 < tget k.lcount l 0)) ∧
    (∃ (k : Core) (l : Nat), (k.rep = none) ∧ (k.slot = none) ∧ (k.level = some l) ∧ (tget k.lend l 0 = k.pc) ∧ (tget k.lcount l 0 = 1)) ∧
    (∃ (k : Core), (k.rep = none) ∧ (k.slot = none) ∧ (∀ l, k.level = some l → tget k.lend l 0 ≠ k.pc)) ∧
    (∃ (k : Core) (n : Nat), (k.rep = some n) ∧ (1 < n)) ∧
    (∃ (k : Core), (k.rep = some 1)) ∧
    (∃ (s : State) (c : Nat), (s.issues c = true) ∧ ((s.seen c).slot.isSome = true)) ∧
    (∃ (s : State) (c : Nat), (s.issues c = true) ∧ ((s.seen c).slot = none) ∧ ((s.seen c).rpt ≠ 0)) ∧
    (∃ (s : State) (c : Nat) (k : Core), (s.issues c = true) ∧ ((s.seen c).slot = none) ∧ ((s.seen c).rpt = 0) ∧ (k = (s.seen c).loopEnd (s.seen
      c).pc)) ∧
    (∃ (s : State) (c idx : Nat), (s.issues c = true) ∧ (idx ≠ 0x1C) ∧ (idx ≠ 0x1D)) :=
  ⟨⟨coreSt { run := true, glob := [(1, 0x1200), (2, 77), (3, 0x10000040), (4, 0x4000)], win := [(0, 5)], pc := 64, vbase := 2048 }, 0, 1, 2, 3, 77, { (coreSt { run := true, glob := [(1, 0x1200), (2, 77), (3, 0x10000040), (4, 0x4000)], win := [(0, 5)], pc := 64, vbase := 2048 }).seen 0 with lstart := tput [] 1 0 68, lend := tput [] 1 0 76, lcount := tput [] 1 0 77 }, by decide +kernel⟩,
   ⟨coreSt { run := true, glob := [(1, 0x1200), (2, 77), (3, 0x10000040), (4, 0x4000)], win := [(0, 5)], pc := 64, vbase := 2048 }, 0, 1, 9, 3, 0, { (coreSt { run := true, glob := [(1, 0x1200), (2, 77), (3, 0x10000040), (4, 0x4000)], win := [(0, 5)], pc := 64, vbase := 2048 }).seen 0 with lstart := tput [] 1 0 68, lend := tput [] 1 0 76, lcount := tput [] 1 0 0 }, by decide +kernel⟩,
   ⟨coreSt { run := true, glob := [(1, 0x1200), (2, 77), (3, 0x10000040), (4, 0x4000)], win := [(0, 5)], pc := 64, vbase := 2048 }, 0, 1, 7, 3, 7, { (coreSt { run := true, glob := [(1, 0x1200), (2, 77), (3, 0x10000040), (4, 0x4000)], win := [(0, 5)], pc := 64, vbase := 2048 }).seen 0 with lstart := tput [] 1 0 68, lend := tput [] 1 0 76, lcount := tput [] 1 0 7 }, by decide +kernel⟩,
   ⟨coreSt { run := true, glob := [(1, 0x1200), (2, 77), (3, 0x10000040), (4, 0x4000)], win := [(0, 5)], pc := 64, vbase := 2048 }, 0, 1, 0, 3, 0, { (coreSt { run := true, glob := [(1, 0x1200), (2, 77), (3, 0x10000040), (4, 0x4000)], win := [(0, 5)], pc := 64, vbase := 2048 }).seen 0 with lstart := tput [] 1 0 68, lend := tput [] 1 0 76, lcount := tput [] 1 0 0 }, by decide +kernel⟩,
   ⟨coreSt { run := true, glob := [(1, 0x1200), (2, 77), (3, 0x10000040), (4, 0x4000)], win := [(0, 5)], pc := 64, vbase := 2048 }, 0, by decide +kernel⟩,
   ⟨{ lend := [(1, 8)], lstart := [(1, 4)], lcount := [(0, 3), (1, 2)], pc := 8 }, 1, by decide +kernel⟩,
   ⟨{ lend := [(1, 8)], lstart := [(1, 4)], lcount := [(0, 3), (1, 1)], pc := 8 }, 1, by decide +kernel⟩,
   ⟨{}, (by refine ⟨rfl, rfl, ?_⟩; intro l h; simp [Core.level, tget] at h)⟩,
   ⟨{ rep := some 3 }, 3, by decide +kernel⟩,
   ⟨{ rep := some 1 }, by decide +kernel⟩,
   ⟨coreSt { run := true, slot := some { addr := 4, target := 8 } }, 0, by decide +kernel⟩,
   ⟨coreSt { run := true, rpt := 3 }, 0, by decide +kernel⟩,
   ⟨coreSt { run := true }, 0, ((coreSt { run := true }).seen 0).loopEnd 0, by decide +kernel⟩,
   ⟨coreSt { run := true, glob := [(1, 0x1200), (2, 77), (3, 0x10000040), (4, 0x4000)], win := [(0, 5)], pc := 64, vbase := 2048 }, 0, 0x14, by decide +kernel⟩⟩

theorem test_witness_CoreTraps :
    (∃ (s : State) (c : Nat), (s.issues c = true) ∧ (∀ p ∈ (s.seen c).pend, p.left ≤ 12) ∧ ((s.seen c).wt = false) ∧ ((s.seen c).exl = false) ∧
      ((s.seen c).frames < 15) ∧ ((s.seen c).slot = none) ∧ ((s.seen c).rep = none) ∧ (c < 12)) ∧
    (∃ (s : State) (c : Nat), (s.issues c = true) ∧ (bitOf (s.get MON_STAT_DEBUG monPage) c = false) ∧ (∀ p ∈ (s.seen c).pend, p.left ≤ 12) ∧
      ((s.seen c).wt = false) ∧ ((s.seen c).exl = false) ∧ ((s.seen c).frames < 15) ∧ ((s.seen c).slot = none) ∧ ((s.seen c).rep = none) ∧
      (c < 12)) ∧
    (∃ (s : State) (c : Nat), (s.issues c = true) ∧ (bitOf (s.get MON_STAT_DEBUG monPage) c = true)) ∧
    (∃ (k : Core) (d : Slot) (v : Nat), (k.wt = false) ∧ (k.exl = false) ∧ (k.frames < 15) ∧ (k.slot = some d) ∧ (v < 256)) ∧
    (∃ (k : Core), (k.wt = true ∨ k.exl = true ∧ k.frames ≠ 15)) ∧
    (∃ (c : Nat), (c < 12)) ∧
    (∃ (k : Core), (k.wt = false) ∧ (k.frames = 15)) ∧
    (∃ (k : Core), (k.wt = false)) ∧
    (∃ (s : State) (c : Nat), (s.issues c = true) ∧ ((s.seen c).slot = none) ∧ ((s.seen c).wt = true)) ∧
    (∃ (s : State) (c : Nat), (s.issues c = true) ∧ ((s.seen c).slot = none) ∧ ((s.seen c).wt = false) ∧ (1 < (s.seen c).frames)) ∧
    (∃ (s : State) (c : Nat), (s.issues c = true) ∧ ((s.seen c).slot = none) ∧ ((s.seen c).wt = false) ∧ ((s.seen c).frames = 1)) :=
  ⟨⟨coreSt { run := true, pc := 64, vbase := 2048, ie := true, base := 16, frames := 2 }, 0, by decide +kernel⟩,
   ⟨coreSt { run := true, pc := 64, vbase := 2048, ie := true, base := 16, frames := 2 }, 0, by decide +kernel⟩,
   ⟨(coreSt { run := true, glob := [(1, 0x1200), (2, 77), (3, 0x10000040), (4, 0x4000)], win := [(0, 5)], pc := 64, vbase := 2048 }).set MON_STAT_DEBUG monPage 1, 0, by decide +kernel⟩,
   ⟨{ slot := some { addr := 4, target := 8 } }, { addr := 4, target := 8 }, 2, by decide +kernel⟩,
   ⟨{ exl := true }, by decide +kernel⟩,
   ⟨0, by decide +kernel⟩,
   ⟨{ frames := 15 }, by decide +kernel⟩,
   ⟨{}, by decide +kernel⟩,
   ⟨coreSt { run := true, wt := true }, 0, by decide +kernel⟩,
   ⟨coreSt { run := true, exl := true, frames := 2 }, 0, by decide +kernel⟩,
   ⟨coreSt { run := true }, 0, by decide +kernel⟩⟩

theorem test_witness_CoreEvents :
    (∃ (s : State) (c l : Nat), (s.lineUp c = some l) ∧ (s.irqReady c = true) ∧ ((s.cr c).pend = []) ∧ ((s.cr c).frames < 15) ∧ (c < 12)) ∧
    (∃ (s : State) (c l : Nat), (s.lineUp c = some l) ∧ (s.irqReady c = true) ∧ ((s.cr c).pend = []) ∧ ((s.cr c).frames = 15)) ∧
    (∃ (s : State) (c : Nat), (((s.cr c).halt && s.coreClocked c || s.irqReady c) = true)) ∧
    (∃ (s : State) (c : Nat), (s.issues c = true) ∧ (c ≠ 0)) ∧
    (∃ (s : State), (s.issues 0 = true) ∧ ((s.getDom 0).latched = none)) ∧
    (∃ (s t : State) (o : Nat), (s.issues 0 = true) ∧ ((s.getDom 0).latched = some o) ∧ ((s.getDom 0).phase = .stable) ∧ (t = s.setCr 0
      { (s.seen 0).finish with halt := true })) ∧
    (∃ (s : State) (c l : Nat), ((s.cr c).halt = true) ∧ (s.lineUp c = some l) ∧ (s.coreClocked c = true)) ∧
    (∃ (s : State) (c : Nat) (v : Word), (s.takes irqPage (0x110 + 0x20 * c) v.toNat = true)) ∧
    (∃ (s : State) (c : Nat) (v : Word), (s.takes irqPage (0x114 + 0x20 * c) v.toNat = true)) ∧
    (∃ (s : State) (c i : Nat) (v : Word), (s.takes irqPage (0x118 + 0x20 * c) v.toNat = true) ∧ (i < 32)) ∧
    (∃ (s : State) (c i : Nat) (v : Word), (s.takes irqPage (0x11C + 0x20 * c) v.toNat = true) ∧ (i < 32)) ∧
    (∃ (s : State) (b : Nat) (v : Word), (s.takes mboxPage (0x104 + 16 * b) v.toNat = true) ∧ ((tget s.mbox b []).length < 8)) ∧
    (∃ (s : State) (b : Nat) (v : Word), (s.takes mboxPage (0x104 + 16 * b) v.toNat = true) ∧ (8 ≤ (tget s.mbox b []).length) ∧ (b < 32)) ∧
    (∃ (s : State) (b w : Nat) (q : List Nat), (s.clk.frozen = false) ∧ (s.domOn 6 = true) ∧ (tget s.mbox b [] = w :: q) ∧ (q.length < 8)) ∧
    (∃ (s : State) (b : Nat), (s.clk.frozen = false) ∧ (s.domOn 6 = true) ∧ (tget s.mbox b [] = []) ∧ (b < 32)) :=
  ⟨⟨{ (coreSt { run := true, pc := 64, vbase := 2048, ie := true }).wr (IRQ_EN_LO.loc irqPage 0) 32 with soft := [(0, 32)] }, 0, 5, by decide +kernel⟩,
   ⟨{ (coreSt { run := true, pc := 64, vbase := 2048, ie := true, frames := 15 }).wr (IRQ_EN_LO.loc irqPage 0) 32 with soft := [(0, 32)] }, 0, 5, by decide +kernel⟩,
   ⟨coreSt { run := true, halt := true, pend := [{ left := 1, dest := .glob 3, val := 9 }] }, 0, by decide +kernel⟩,
   ⟨{ (coreSt {}) with core := [(11, { run := true })], dom := [(7, { (coreSt {}).getDom 0 with phase := .stable })] }, 11, by decide +kernel⟩,
   ⟨coreSt {run := true }, by decide +kernel⟩,
   ⟨(coreSt {run := true }).setDom 0 { (coreSt {}).getDom 0 with latched := some 1 }, ((coreSt {run := true }).setDom 0 { (coreSt {}).getDom 0 with latched := some 1 }).setCr 0 { (((coreSt {run := true }).setDom 0 { (coreSt {}).getDom 0 with latched := some 1 }).seen 0).finish with halt := true }, 1, by decide +kernel⟩,
   ⟨{ (coreSt { run := true, pc := 64, vbase := 2048, halt := true }).wr (IRQ_EN_LO.loc irqPage 0) 32 with soft := [(0, 32)] }, 0, 5, by decide +kernel⟩,
   ⟨State.reset, 2, 5, by decide +kernel⟩,
   ⟨State.reset, 2, 5, by decide +kernel⟩,
   ⟨{ State.reset with soft := [(2, 21)] }, 2, 2, 5, by decide +kernel⟩,
   ⟨{ State.reset with soft := [(2, 21)] }, 2, 2, 5, by decide +kernel⟩,
   ⟨mboxSt [(2, [7])], 2, 5, by decide +kernel⟩,
   ⟨mboxSt [(2, [7, 6, 5, 4, 3, 2, 1, 0])], 2, 5, by decide +kernel⟩,
   ⟨mboxSt [(2, [7, 6])], 2, 7, [6], by decide +kernel⟩,
   ⟨mboxSt [], 2, by decide +kernel⟩⟩

theorem test_witness_CoreBusAccess :
    (∃ (s t : State) (c ra imm kind a : Nat) (ans : Word), (s.issues c = true) ∧ (a = ((s.seen c).word ra + immWord imm).toNat) ∧ (4 ∣ a) ∧ (t =
      ioAccess (s.setCr c (s.seen c)) (Master.ofCode c) a none kind ans.toNat) ∧ (t.cr c = s.seen c) ∧ (t.resp.kind = .ok)) ∧
    (∃ (s t : State) (c ra imm kind a : Nat) (ans : Word), (s.issues c = true) ∧ (a = ((s.seen c).word ra + immWord imm).toNat) ∧ (4 ∣ a) ∧ (t =
      ioAccess (s.setCr c (s.seen c)) (Master.ofCode c) a none kind ans.toNat) ∧ (t.cr c = s.seen c) ∧ (t.resp.kind ≠ .ok) ∧ (t.resp.kind ≠
      .none)) ∧
    (∃ (s t : State) (c ra imm kind a : Nat) (ans : Word), (s.issues c = true) ∧ (a = ((s.seen c).word ra + immWord imm).toNat) ∧ (4 ∣ a) ∧ (t =
      ioAccess (s.setCr c (s.seen c)) (Master.ofCode c) a none kind ans.toNat) ∧ (t.cr c = s.seen c) ∧ (t.resp.kind = .none)) ∧
    (∃ (s : State) (c ra imm a : Nat), (s.issues c = true) ∧ (a = ((s.seen c).word ra + immWord imm).toNat) ∧ (¬ 4 ∣ a)) ∧
    (∃ (s t : State) (c ra kind a : Nat) (ans : Word), (s.issues c = true) ∧ (a = ((s.seen c).word ra).toNat) ∧ (4 ∣ a) ∧ (t = ioAccess (s.setCr
      c (s.seen c)) (Master.ofCode c) a none kind ans.toNat) ∧ (t.cr c = s.seen c) ∧ (t.resp.kind = .ok)) ∧
    (∃ (s t : State) (c ra kind a : Nat) (ans : Word), (s.issues c = true) ∧ (a = ((s.seen c).word ra).toNat) ∧ (4 ∣ a) ∧ (t = ioAccess (s.setCr
      c (s.seen c)) (Master.ofCode c) a none kind ans.toNat) ∧ (t.cr c = s.seen c) ∧ (t.resp.kind ≠ .ok) ∧ (t.resp.kind ≠ .none)) ∧
    (∃ (s t : State) (c ra kind a : Nat) (ans : Word), (s.issues c = true) ∧ (a = ((s.seen c).word ra).toNat) ∧ (4 ∣ a) ∧ (t = ioAccess (s.setCr
      c (s.seen c)) (Master.ofCode c) a none kind ans.toNat) ∧ (t.cr c = s.seen c) ∧ (t.resp.kind = .none)) ∧
    (∃ (s : State) (c ra a : Nat), (s.issues c = true) ∧ (a = ((s.seen c).word ra).toNat) ∧ (¬ 4 ∣ a)) ∧
    (∃ (s t : State) (c rs ra imm kind a : Nat), (s.issues c = true) ∧ (a = ((s.seen c).word ra + immWord imm).toNat) ∧ (4 ∣ a) ∧ (t = ioAccess
      (s.setCr c (s.seen c)) (Master.ofCode c) a (some ((s.seen c).reg rs)) kind 0) ∧ (t.cr c = s.seen c) ∧ (t.resp.kind = .ok)) ∧
    (∃ (s t : State) (c rs ra imm kind a : Nat), (s.issues c = true) ∧ (a = ((s.seen c).word ra + immWord imm).toNat) ∧ (4 ∣ a) ∧ (t = ioAccess
      (s.setCr c (s.seen c)) (Master.ofCode c) a (some ((s.seen c).reg rs)) kind 0) ∧ (t.cr c = s.seen c) ∧ (t.resp.kind ≠ .ok) ∧
      (t.resp.kind ≠ .none)) ∧
    (∃ (s t : State) (c rs ra imm kind a : Nat), (s.issues c = true) ∧ (a = ((s.seen c).word ra + immWord imm).toNat) ∧ (4 ∣ a) ∧ (t = ioAccess
      (s.setCr c (s.seen c)) (Master.ofCode c) a (some ((s.seen c).reg rs)) kind 0) ∧ (t.cr c = s.seen c) ∧ (t.resp.kind = .none)) ∧
    (∃ (s t : State) (c rs ra kind a : Nat), (s.issues c = true) ∧ (a = ((s.seen c).word ra).toNat) ∧ (4 ∣ a) ∧ (t = ioAccess (s.setCr c (s.seen
      c)) (Master.ofCode c) a (some ((s.seen c).reg rs)) kind 0) ∧ (t.cr c = s.seen c) ∧ (t.resp.kind = .ok)) ∧
    (∃ (s t : State) (c rs ra kind a : Nat), (s.issues c = true) ∧ (a = ((s.seen c).word ra).toNat) ∧ (4 ∣ a) ∧ (t = ioAccess (s.setCr c (s.seen
      c)) (Master.ofCode c) a (some ((s.seen c).reg rs)) kind 0) ∧ (t.cr c = s.seen c) ∧ (t.resp.kind ≠ .ok) ∧ (t.resp.kind ≠ .none)) ∧
    (∃ (s t : State) (c rs ra kind a : Nat), (s.issues c = true) ∧ (a = ((s.seen c).word ra).toNat) ∧ (4 ∣ a) ∧ (t = ioAccess (s.setCr c (s.seen
      c)) (Master.ofCode c) a (some ((s.seen c).reg rs)) kind 0) ∧ (t.cr c = s.seen c) ∧ (t.resp.kind = .none)) :=
  ⟨⟨coreSt { run := true, glob := [(1, 0x3000)] }, ioAccess ((coreSt { run := true, glob := [(1, 0x3000)] }).setCr 0 ((coreSt { run := true, glob := [(1, 0x3000)] }).seen 0)) (Master.ofCode 0) 0x3004 none 0 0, 0, 1, 4, 0, 0x3004, 0, by decide +kernel⟩,
   ⟨coreSt { run := true, glob := [(1, 0x2000000)] }, ioAccess ((coreSt { run := true, glob := [(1, 0x2000000)] }).setCr 0 ((coreSt { run := true, glob := [(1, 0x2000000)] }).seen 0)) (Master.ofCode 0) 0x2000004 none 0 0, 0, 1, 4, 0, 0x2000004, 0, by decide +kernel⟩,
   ⟨((coreSt { run := true, glob := [(1, 0x70000)] }).setDom 3 { actual := .off, target := .off }).wr (PWR_DOMAIN_AUTOWAKE.loc 2 3) 1, ioAccess ((((coreSt { run := true, glob := [(1, 0x70000)] }).setDom 3 { actual := .off, target := .off }).wr (PWR_DOMAIN_AUTOWAKE.loc 2 3) 1).setCr 0 ((((coreSt { run := true, glob := [(1, 0x70000)] }).setDom 3 { actual := .off, target := .off }).wr (PWR_DOMAIN_AUTOWAKE.loc 2 3) 1).seen 0)) (Master.ofCode 0) 0x70004 none 0 0, 0, 1, 4, 0, 0x70004, 0, by decide +kernel⟩,
   ⟨coreSt { run := true, glob := [(1, 0x3002)] }, 0, 1, 4, 0x3006, by decide +kernel⟩,
   ⟨coreSt { run := true, glob := [(1, 0x3000)] }, ioAccess ((coreSt { run := true, glob := [(1, 0x3000)] }).setCr 0 ((coreSt { run := true, glob := [(1, 0x3000)] }).seen 0)) (Master.ofCode 0) 0x3000 none 0 0, 0, 1, 0, 0x3000, 0, by decide +kernel⟩,
   ⟨coreSt { run := true, glob := [(1, 0x2000000)] }, ioAccess ((coreSt { run := true, glob := [(1, 0x2000000)] }).setCr 0 ((coreSt { run := true, glob := [(1, 0x2000000)] }).seen 0)) (Master.ofCode 0) 0x2000000 none 0 0, 0, 1, 0, 0x2000000, 0, by decide +kernel⟩,
   ⟨((coreSt { run := true, glob := [(1, 0x70000)] }).setDom 3 { actual := .off, target := .off }).wr (PWR_DOMAIN_AUTOWAKE.loc 2 3) 1, ioAccess ((((coreSt { run := true, glob := [(1, 0x70000)] }).setDom 3 { actual := .off, target := .off }).wr (PWR_DOMAIN_AUTOWAKE.loc 2 3) 1).setCr 0 ((((coreSt { run := true, glob := [(1, 0x70000)] }).setDom 3 { actual := .off, target := .off }).wr (PWR_DOMAIN_AUTOWAKE.loc 2 3) 1).seen 0)) (Master.ofCode 0) 0x70000 none 0 0, 0, 1, 0, 0x70000, 0, by decide +kernel⟩,
   ⟨coreSt { run := true, glob := [(1, 0x3002)] }, 0, 1, 0x3002, by decide +kernel⟩,
   ⟨coreSt { run := true, glob := [(1, 0x3000)] }, ioAccess ((coreSt { run := true, glob := [(1, 0x3000)] }).setCr 0 ((coreSt { run := true, glob := [(1, 0x3000)] }).seen 0)) (Master.ofCode 0) 0x3004 (some 0) 0 0, 0, 5, 1, 4, 0, 0x3004, by decide +kernel⟩,
   ⟨coreSt { run := true, glob := [(1, 0x2000000)] }, ioAccess ((coreSt { run := true, glob := [(1, 0x2000000)] }).setCr 0 ((coreSt { run := true, glob := [(1, 0x2000000)] }).seen 0)) (Master.ofCode 0) 0x2000004 (some 0) 0 0, 0, 5, 1, 4, 0, 0x2000004, by decide +kernel⟩,
   ⟨((coreSt { run := true, glob := [(1, 0x70000)] }).setDom 3 { actual := .off, target := .off }).wr (PWR_DOMAIN_AUTOWAKE.loc 2 3) 1, ioAccess ((((coreSt { run := true, glob := [(1, 0x70000)] }).setDom 3 { actual := .off, target := .off }).wr (PWR_DOMAIN_AUTOWAKE.loc 2 3) 1).setCr 0 ((((coreSt { run := true, glob := [(1, 0x70000)] }).setDom 3 { actual := .off, target := .off }).wr (PWR_DOMAIN_AUTOWAKE.loc 2 3) 1).seen 0)) (Master.ofCode 0) 0x70004 (some 0) 0 0, 0, 5, 1, 4, 0, 0x70004, by decide +kernel⟩,
   ⟨coreSt { run := true, glob := [(1, 0x3000)] }, ioAccess ((coreSt { run := true, glob := [(1, 0x3000)] }).setCr 0 ((coreSt { run := true, glob := [(1, 0x3000)] }).seen 0)) (Master.ofCode 0) 0x3000 (some 0) 0 0, 0, 5, 1, 0, 0x3000, by decide +kernel⟩,
   ⟨coreSt { run := true, glob := [(1, 0x2000000)] }, ioAccess ((coreSt { run := true, glob := [(1, 0x2000000)] }).setCr 0 ((coreSt { run := true, glob := [(1, 0x2000000)] }).seen 0)) (Master.ofCode 0) 0x2000000 (some 0) 0 0, 0, 5, 1, 0, 0x2000000, by decide +kernel⟩,
   ⟨((coreSt { run := true, glob := [(1, 0x70000)] }).setDom 3 { actual := .off, target := .off }).wr (PWR_DOMAIN_AUTOWAKE.loc 2 3) 1, ioAccess ((((coreSt { run := true, glob := [(1, 0x70000)] }).setDom 3 { actual := .off, target := .off }).wr (PWR_DOMAIN_AUTOWAKE.loc 2 3) 1).setCr 0 ((((coreSt { run := true, glob := [(1, 0x70000)] }).setDom 3 { actual := .off, target := .off }).wr (PWR_DOMAIN_AUTOWAKE.loc 2 3) 1).seen 0)) (Master.ofCode 0) 0x70000 (some 0) 0 0, 0, 5, 1, 0, 0x70000, by decide +kernel⟩⟩

theorem test_witness_EepromCommands :
    (∃ (s : State) (m : Master) (j : Nat) (v : Word), (j < 16) ∧ (s.takes nvmPage (0x100 + 4 * j) v.toNat = true) ∧ (s.wbufMine m = true)) ∧
    (∃ (s : State) (m : Master) (j : Nat) (v : Word), (j < 16) ∧ (s.takes nvmPage (0x100 + 4 * j) v.toNat = true) ∧ (s.wbufMine m = false)) ∧
    (∃ (s : State) (m : Master), (s.macroBusy = true) ∧ (12 ≤ m.code)) ∧
    (∃ (s : State) (m : Master), (s.macroBusy = true) ∧ (m.code < 12)) ∧
    (∃ (s : State) (m : Master) (p off len : Nat), (p < 2048) ∧ (off < 64) ∧ (len < 128) ∧ (s.takes nvmPage 0x48 (p + off * 2 ^ 16 + len * 2 ^
      24) = true) ∧ (s.accepts nvmPage = true) ∧ (s.wbufMine m = true) ∧ (s.wcmdBlocked p m.code = false)) ∧
    (∃ (s : State) (m : Master) (p off len : Nat), (p < 2048) ∧ (off < 64) ∧ (len < 128) ∧ (s.takes nvmPage 0x48 (p + off * 2 ^ 16 + len * 2 ^
      24) = true) ∧ (s.wbufMine m = false)) ∧
    (∃ (s : State) (m : Master) (p off len : Nat), (p < 2048) ∧ (off < 64) ∧ (len < 128) ∧ (s.takes nvmPage 0x48 (p + off * 2 ^ 16 + len * 2 ^
      24) = true) ∧ (s.accepts nvmPage = true) ∧ (s.wbufMine m = true) ∧ (s.wcmdBlocked p m.code = true)) ∧
    (∃ (s : State) (p off len : Nat), (p < 2048) ∧ (off < 64) ∧ (len < 128) ∧ (s.takes nvmPage 0x48 (p + off * 2 ^ 16 + len * 2 ^ 24) = true) ∧
      (s.accepts nvmPage = false)) ∧
    (∃ (s : State) (m : Master), (s.takes nvmPage 0x4C 1 = true) ∧ (s.wbufMine m = true)) ∧
    (∃ (s : State) (m : Master), (s.takes nvmPage 0x4C 1 = true) ∧ (s.wbufMine m = false)) ∧
    (∃ (s : State) (o : NvOp) (q : List NvOp) (w : NvWrite), (s.domRuns 10 = true) ∧ (s.nvm.queue = o :: q) ∧ (s.nvm.run = none) ∧ (s.nvm.result
      = none) ∧ (nvPlan s (o.atTurn s) s.nvm.stage = some w) ∧ (6000 ≤ s.vbat ∨ o.waitsVbat = false)) ∧
    (∃ (s : State) (o : NvOp) (q : List NvOp) (w : NvWrite), (s.domRuns 10 = true) ∧ (s.nvm.queue = o :: q) ∧ (s.nvm.run = none) ∧ (s.nvm.result
      = none) ∧ (nvPlan s (o.atTurn s) s.nvm.stage = some w) ∧ (s.vbat < 6000) ∧ (o.waitsVbat = true)) ∧
    (∃ (s : State) (t p off : Nat) (d : List Byte) (q : List NvOp), (s.nvm.waitFrom = some t) ∧ (s.domOn 10 = true) ∧ (s.vbat < 6000) ∧ (t +
      s.get NVM_CFG_LOWV_WAIT nvmPage * 1000000 ≤ s.tb) ∧ (s.nvm.queue = .direct p off d :: q)) ∧
    (∃ (s : State) (t : Nat) (r : RecCmd) (q : List NvOp), (s.nvm.waitFrom = some t) ∧ (s.domOn 10 = true) ∧ (s.vbat < 6000) ∧ (t + s.get
      NVM_CFG_LOWV_WAIT nvmPage * 1000000 ≤ s.tb) ∧ (s.nvm.queue = .cmd r :: q)) ∧
    (∃ (s : State) (bp : Nat), (bp < 4096) ∧ (s.takes nvmPage 0x50 bp = true) ∧ (s.flag H_LOCKSTAT_UNLOCKED nvmPage = true) ∧ (s.accepts nvmPage
      = true)) ∧
    (∃ (s : State) (bp : Nat), (bp < 4096) ∧ (s.takes nvmPage 0x50 bp = true) ∧ (s.flag H_LOCKSTAT_UNLOCKED nvmPage = true) ∧ (s.accepts nvmPage
      = false)) ∧
    (∃ (s : State) (bp : Nat), (bp < 4096) ∧ (s.takes nvmPage 0x50 bp = true) ∧ (s.flag H_LOCKSTAT_UNLOCKED nvmPage = false)) ∧
    (∃ (s : State) (part : Nat) (k : Bool), (part = 6 ∨ part = 7) ∧ (s.takes nvmPage 0x5C (part + 16 * b2n k + 256) = true) ∧ (s.accepts nvmPage
      = true) ∧ ((s.pwPart part).lockEnd = none) ∧ ((if k then (s.pwPart part).wr else (s.pwPart part).rd) = s.nvm.pwLo + 2 ^ 32 *
      s.nvm.pwHi)) ∧
    (∃ (s : State) (part : Nat) (k : Bool) (e : Nat), (part = 6 ∨ part = 7) ∧ (s.takes nvmPage 0x5C (part + 16 * b2n k + 256) = true) ∧
      (s.accepts nvmPage = true) ∧ ((s.pwPart part).lockEnd = some e) ∧ (e ≤ s.tb) ∧ ((if k then (s.pwPart part).wr else (s.pwPart part).rd)
      = s.nvm.pwLo + 2 ^ 32 * s.nvm.pwHi)) ∧
    (∃ (s : State) (part : Nat) (k : Bool), (part = 6 ∨ part = 7) ∧ (s.takes nvmPage 0x5C (part + 16 * b2n k + 256) = true) ∧ (s.accepts nvmPage
      = true) ∧ ((s.pwPart part).lockEnd = none) ∧ ((if k then (s.pwPart part).wr else (s.pwPart part).rd) ≠ s.nvm.pwLo + 2 ^ 32 *
      s.nvm.pwHi)) ∧
    (∃ (s : State) (part : Nat) (k : Bool) (e : Nat), (part = 6 ∨ part = 7) ∧ (s.takes nvmPage 0x5C (part + 16 * b2n k + 256) = true) ∧
      ((s.pwPart part).lockEnd = some e) ∧ (s.tb < e)) ∧
    (∃ (s : State) (part : Nat) (k : Bool), (part = 6 ∨ part = 7) ∧ (s.takes nvmPage 0x5C (part + 16 * b2n k + 256) = true) ∧ (s.accepts nvmPage
      = false)) ∧
    (∃ (s : State) (m : Master) (part : Nat) (k : Bool), (part = 6 ∨ part = 7) ∧ (s.takes nvmPage 0x5C (part + 16 * b2n k + 512) = true) ∧
      (s.accepts nvmPage = true) ∧ (s.pwOpen part (b2n k) m.code = true)) ∧
    (∃ (s : State) (m : Master) (part : Nat) (k : Bool), (part = 6 ∨ part = 7) ∧ (s.takes nvmPage 0x5C (part + 16 * b2n k + 512) = true) ∧
      (s.pwOpen part (b2n k) m.code = false ∨ s.accepts nvmPage = false)) ∧
    (∃ (s : State) (part : Nat) (k : Bool), (part = 6 ∨ part = 7) ∧ (s.takes nvmPage 0x5C (part + 16 * b2n k + 768) = true)) ∧
    (∃ (s : State) (part t : Nat), ((s.pwPart part).lockEnd = some t) ∧ (t ≤ s.tb)) :=
  ⟨⟨State.reset, .hk, 3, 77, by decide +kernel⟩,
   ⟨st [(NVM_WSTAT_WOWNER.loc nvmPage, 3)], .hk, 3, 77, by decide +kernel⟩,
   ⟨{ State.reset with nvm := { run := some ⟨3, 0, []⟩ } }, .host, by decide +kernel⟩,
   ⟨{ State.reset with nvm := { run := some ⟨3, 0, []⟩ } }, .hk, by decide +kernel⟩,
   ⟨st [(H_CTRL_EN.loc nvmPage, 1), (NVM_WBUF.loc nvmPage 1, 0x01020304)], .hk, 5, 2, 4, by decide +kernel⟩,
   ⟨st [(NVM_WSTAT_WOWNER.loc nvmPage, 3)], .hk, 5, 2, 4, by decide +kernel⟩,
   ⟨st [(H_CTRL_EN.loc nvmPage, 1)], .hk, 1290, 2, 4, by decide +kernel⟩,
   ⟨State.reset, 5, 2, 4, by decide +kernel⟩,
   ⟨st [(NVM_WSTAT_WOWNER.loc nvmPage, 0)], .hk, by decide +kernel⟩,
   ⟨st [(NVM_WSTAT_WOWNER.loc nvmPage, 3)], .hk, by decide +kernel⟩,
   ⟨({ State.reset with nvm := { queue := [.direct 5 62 [1, 2, 3]] } } : State).set SUP_VBAT_VBAT_MV 4 12000, .direct 5 62 [1, 2, 3], [], ⟨5, 62, [1, 2, 3]⟩, by decide +kernel⟩,
   ⟨({ State.reset with nvm := { queue := [.direct 5 62 [1, 2, 3]] } } : State).set SUP_VBAT_VBAT_MV 4 5000, .direct 5 62 [1, 2, 3], [], ⟨5, 62, [1, 2, 3]⟩, by decide +kernel⟩,
   ⟨{ (({ State.reset with nvm := { queue := [.direct 5 62 [1, 2, 3]], waitFrom := some 0 } } : State).set SUP_VBAT_VBAT_MV 4 5000).set NVM_CFG_LOWV_WAIT nvmPage 10 with tb := 20000000 }, 0, 5, 62, [1, 2, 3], [], by decide +kernel⟩,
   ⟨{ (({ State.reset with nvm := { queue := [.cmd ⟨0, 4, 0, 1030, 0, 0, 0, [], 0⟩], waitFrom := some 0 } } : State).set SUP_VBAT_VBAT_MV 4 5000).set NVM_CFG_LOWV_WAIT nvmPage 10 with tb := 20000000 }, 0, ⟨0, 4, 0, 1030, 0, 0, 0, [], 0⟩, [], by decide +kernel⟩,
   ⟨st [(H_LOCKSTAT_UNLOCKED.loc nvmPage, 1), (H_CTRL_EN.loc nvmPage, 1)], 3, by decide +kernel⟩,
   ⟨st [(H_LOCKSTAT_UNLOCKED.loc nvmPage, 1)], 3, by decide +kernel⟩,
   ⟨State.reset, 0, by decide +kernel⟩,
   ⟨{ st [(H_CTRL_EN.loc nvmPage, 1)] with nvm := { p6 := { wr := 5, tries := 3 }, pwLo := 5 } }, 6, true, by decide +kernel⟩,
   ⟨{ st [(H_CTRL_EN.loc nvmPage, 1)] with nvm := { p6 := { wr := 5, tries := 8, lockEnd := some 0 }, pwLo := 5 } }, 6, true, 0, by decide +kernel⟩,
   ⟨{ st [(H_CTRL_EN.loc nvmPage, 1)] with nvm := { p6 := { wr := 5, tries := 3 }, pwLo := 6 } }, 6, true, by decide +kernel⟩,
   ⟨{ State.reset with nvm := { p6 := { wr := 5, lockEnd := some 9 }, pwLo := 5 } }, 6, true, 9, by decide +kernel⟩,
   ⟨{ State.reset with nvm := { p6 := { wr := 5 }, pwLo := 5 } }, 6, true, by decide +kernel⟩,
   ⟨{ st [(H_CTRL_EN.loc nvmPage, 1)] with nvm := { opens := [(6, 1, 0)] } }, .hk, 6, true, by decide +kernel⟩,
   ⟨State.reset, .hk, 6, true, by decide +kernel⟩,
   ⟨{ State.reset with nvm := { opens := [(6, 1, 0)] } }, 6, true, by decide +kernel⟩,
   ⟨{ State.reset with nvm := { p6 := { wr := 5, lockEnd := some 0 } } }, 6, 0, by decide +kernel⟩⟩

theorem test_witness_EepromPageWrite :
    (∃ (s : State) (w : NvWrite) (q : List NvOp), (s.nvm.run = some w) ∧ (s.nvm.queue = .direct w.page w.off w.data :: q) ∧ (s.domOn 10 = true)
      ∧ (s.stall = []) ∧ (s.nvm.stage = 0) ∧ (w.data.length ≤ 64)) ∧
    (∃ (s : State) (w : NvWrite) (q : List NvOp) (i : Nat), (s.nvm.run = some w) ∧ (s.nvm.queue = .direct w.page w.off w.data :: q) ∧ (s.domOn
      10 = true) ∧ (s.stall = []) ∧ (s.nvm.stage = 0) ∧ (w.data.length ≤ 64) ∧ (∃ j, j < w.data.length ∧ i = (64 * w.page + (w.off + j) %
      64) / 4)) :=
  ⟨⟨{ State.reset with nvm := { queue := [.direct 5 62 [1, 2, 3]], run := some ⟨5, 62, [1, 2, 3]⟩ } }, ⟨5, 62, [1, 2, 3]⟩, [], by decide +kernel⟩,
   ⟨{ ({ State.reset with nvm := { queue := [.direct 5 62 [1, 2, 3]], run := some ⟨5, 62, [1, 2, 3]⟩ } } : State) with torn := [(95, true, 7)] }, ⟨5, 62, [1, 2, 3]⟩, [], 95, ⟨by decide +kernel, by decide +kernel, by decide +kernel, by decide +kernel, by decide +kernel, by decide +kernel, 0, by decide +kernel, by decide +kernel⟩⟩⟩

theorem test_witness_RecordEngineCommands :
    (∃ (s : State) (k : Nat), (s.takes recPage (0x100 + 0x80 * k) 1 = true) ∧ (s.flag REC_STAT_BUSY recPage k = false) ∧ (s.accepts recPage =
      true)) ∧
    (∃ (s : State) (k : Nat), (s.takes recPage (0x100 + 0x80 * k) 1 = true) ∧ (s.flag REC_STAT_BUSY recPage k = true ∨ s.accepts recPage =
      false)) ∧
    (∃ (s : State) (k : Nat), (s.takes recPage (0x100 + 0x80 * k) 2 = true) ∧ (s.flag REC_STAT_BUSY recPage k = false) ∧ (s.accepts recPage =
      true)) ∧
    (∃ (s : State) (k : Nat), (s.takes recPage (0x100 + 0x80 * k) 2 = true) ∧ (s.flag REC_STAT_BUSY recPage k = true ∨ s.accepts recPage =
      false)) ∧
    (∃ (s : State) (k : Nat), (s.takes recPage (0x100 + 0x80 * k) 3 = true) ∧ (s.flag REC_STAT_BUSY recPage k = false) ∧ (s.accepts recPage =
      true)) ∧
    (∃ (s : State) (k : Nat), (s.takes recPage (0x100 + 0x80 * k) 3 = true) ∧ (s.flag REC_STAT_BUSY recPage k = true ∨ s.accepts recPage =
      false)) ∧
    (∃ (s : State) (k : Nat), (s.takes recPage (0x100 + 0x80 * k) 4 = true) ∧ (s.flag REC_STAT_BUSY recPage k = false) ∧ (s.accepts recPage =
      true)) ∧
    (∃ (s : State) (k : Nat), (s.takes recPage (0x100 + 0x80 * k) 4 = true) ∧ (s.flag REC_STAT_BUSY recPage k = true ∨ s.accepts recPage =
      false)) ∧
    (∃ (s : State) (k : Nat), (s.takes recPage (0x100 + 0x80 * k) 5 = true) ∧ (s.flag REC_STAT_BUSY recPage k = false) ∧ (s.accepts recPage =
      true)) ∧
    (∃ (s : State) (k : Nat), (s.takes recPage (0x100 + 0x80 * k) 5 = true) ∧ (s.flag REC_STAT_BUSY recPage k = true ∨ s.accepts recPage =
      false)) ∧
    (∃ (s : State) (k : Nat), (s.takes recPage (0x100 + 0x80 * k) 6 = true) ∧ (s.flag REC_STAT_BUSY recPage k = false) ∧ (s.accepts recPage =
      true)) ∧
    (∃ (s : State) (k : Nat), (s.takes recPage (0x100 + 0x80 * k) 6 = true) ∧ (s.flag REC_STAT_BUSY recPage k = true ∨ s.accepts recPage =
      false)) ∧
    (∃ (s : State) (k : Nat), (s.takes recPage (0x100 + 0x80 * k) 7 = true) ∧ (s.flag REC_STAT_BUSY recPage k = false) ∧ (s.accepts recPage =
      true)) ∧
    (∃ (s : State) (k : Nat), (s.takes recPage (0x100 + 0x80 * k) 7 = true) ∧ (s.flag REC_STAT_BUSY recPage k = true ∨ s.accepts recPage =
      false)) ∧
    (∃ (s : State) (r : RecCmd) (q : List NvOp) (e : Nat), (s.domOn 10 = true) ∧ (s.nvm.queue = .cmd r :: q) ∧ (s.nvm.run = none) ∧ (r.k < 4) ∧
      (s.nvm.result = none) ∧ (s.nvm.stage = 0) ∧ (recError s r = some e) ∧ (e < 8)) ∧
    (∃ (s : State) (r : RecCmd) (q : List NvOp), (s.domOn 10 = true) ∧ (s.nvm.queue = .cmd r :: q) ∧ (s.nvm.run = none) ∧ (r.k < 4) ∧
      (s.nvm.result = none) ∧ (s.nvm.stage = 0) ∧ (recError s r = none) ∧ (r.op = 1) ∧ (s.recSlot r.a r.b = none)) ∧
    (∃ (s : State) (r : RecCmd) (q : List NvOp) (e : Nat), (s.domOn 10 = true) ∧ (s.nvm.queue = .cmd r :: q) ∧ (s.nvm.run = none) ∧ (r.k < 4) ∧
      (s.nvm.result = some e) ∧ (e < 8)) ∧
    (∃ (s : State), (s.domOn 10 = true) ∧ (s.flag NVM_CFG_SKIM_EN nvmPage = true) ∧ (s.skimDue = true) ∧ (s.nvm.queue = [])) ∧
    (∃ (s : State), (s.domOn 10 = true) ∧ (s.flag NVM_CFG_SKIM_EN nvmPage = true) ∧ (s.skimDue = true) ∧ (s.nvm.queue = []) ∧ (s.nvm.run = none)
      ∧ (s.nvm.stage = 0) ∧ (s.nvm.result = none) ∧ (((List.range 16).all fun w => !s.eeFixed (16 * (s.cntValue 1794 % 2048) + w)) = true) ∧
      (s.cntValue 1794 < 0xFFFFFF)) ∧
    (∃ (s : State), (s.domOn 10 = true) ∧ (s.flag NVM_CFG_SKIM_EN nvmPage = true) ∧ (s.skimDue = true) ∧ (s.nvm.queue = []) ∧ (s.nvm.run = none)
      ∧ (s.nvm.stage = 0) ∧ (s.nvm.result = none) ∧ (((List.range 16).all fun w => !s.eeFixed (16 * (s.cntValue 1794 % 2048) + w)) = true) ∧
      (s.cntValue 1794 = 0xFFFFFF)) ∧
    (∃ (s : State) (w p : Nat), (s.domOn 10 = true) ∧ (s.flag NVM_CFG_SKIM_EN nvmPage = true) ∧ (s.skimDue = true) ∧ (s.nvm.queue = []) ∧
      (s.nvm.run = none) ∧ (s.nvm.stage = 0) ∧ (s.nvm.result = none) ∧ (((List.range 16).all fun w => !s.eeFixed (16 * (s.cntValue 1794 %
      2048) + w)) = true) ∧ (s.cntValue 1794 < 0xFFFFFF) ∧ (w < 16) ∧ (p = s.cntValue 1794 % 2048) ∧ (s.eeUe (16 * p + w) = false)) ∧
    (∃ (s : State) (p w v x : Nat) (q : List NvOp), (s.nvm.queue = .refresh p w v :: q) ∧ (s.nvm.result = some x)) :=
  ⟨⟨st [(H_CTRL_EN.loc recPage, 1), (REC_ARG_PAGE_A.loc recPage 2, 1030)], 2, by decide +kernel⟩,
   ⟨State.reset, 2, by decide +kernel⟩,
   ⟨st [(H_CTRL_EN.loc recPage, 1), (REC_ARG_PAGE_A.loc recPage 2, 1030)], 2, by decide +kernel⟩,
   ⟨State.reset, 2, by decide +kernel⟩,
   ⟨st [(H_CTRL_EN.loc recPage, 1), (REC_ARG_PAGE_A.loc recPage 2, 1030)], 2, by decide +kernel⟩,
   ⟨State.reset, 2, by decide +kernel⟩,
   ⟨st [(H_CTRL_EN.loc recPage, 1), (REC_ARG_PAGE_A.loc recPage 2, 1030)], 2, by decide +kernel⟩,
   ⟨State.reset, 2, by decide +kernel⟩,
   ⟨st [(H_CTRL_EN.loc recPage, 1), (REC_ARG_PAGE_A.loc recPage 2, 1030)], 2, by decide +kernel⟩,
   ⟨State.reset, 2, by decide +kernel⟩,
   ⟨st [(H_CTRL_EN.loc recPage, 1), (REC_ARG_PAGE_A.loc recPage 2, 1030)], 2, by decide +kernel⟩,
   ⟨State.reset, 2, by decide +kernel⟩,
   ⟨st [(H_CTRL_EN.loc recPage, 1), (REC_ARG_PAGE_A.loc recPage 2, 1030)], 2, by decide +kernel⟩,
   ⟨State.reset, 2, by decide +kernel⟩,
   ⟨{ State.reset with nvm := { queue := [.cmd ⟨2, 1, 0, 5, 6, 0, 0, [], 0⟩] } }, ⟨2, 1, 0, 5, 6, 0, 0, [], 0⟩, [], 4, by decide +kernel⟩,
   ⟨{ State.reset with nvm := { queue := [.cmd ⟨2, 1, 0, 5, 8, 0, 0, [], 0⟩] } }, ⟨2, 1, 0, 5, 8, 0, 0, [], 0⟩, [], by decide +kernel⟩,
   ⟨{ State.reset with nvm := { queue := [.cmd ⟨2, 4, 0, 1030, 8, 0, 0, [], 0⟩], result := some 0, stage := 1 } }, ⟨2, 4, 0, 1030, 8, 0, 0, [], 0⟩, [], 0, by decide +kernel⟩,
   ⟨{ st [(NVM_CFG_SKIM_EN.loc nvmPage, 1)] with nvm := { skimFrom := some 0, skimLeft := 0 } }, by decide +kernel⟩,
   ⟨{ st [(NVM_CFG_SKIM_EN.loc nvmPage, 1)] with nvm := { skimFrom := some 0, skimLeft := 0 } }, by decide +kernel⟩,
   ⟨{ st [(NVM_CFG_SKIM_EN.loc nvmPage, 1)] with nvm := { skimFrom := some 0, skimLeft := 0 }, eeprom := mputBytes [] 0xFF (64 * 1794 + 60) (([0xFF, 0xFF, 0xFF] ++ [crc8 [0xFF, 0xFF, 0xFF]]).map (BitVec.ofNat 8)) }, by decide +kernel⟩,
   ⟨{ st [(NVM_CFG_SKIM_EN.loc nvmPage, 1)] with nvm := { skimFrom := some 0, skimLeft := 0 } }, 3, 0, by decide +kernel⟩,
   ⟨{ State.reset with nvm := { queue := [.refresh 5 3 7], result := some 0 } }, 5, 3, 7, 0, [], by decide +kernel⟩⟩

theorem test_witness_ChangeoverCommands :
    (∃ (s z : State) (k : Nat), (s.takes cnvmPage 0x60 1 = true) ∧ (z = s.reached cnvmPage) ∧ (z.inactive = some k) ∧ (z.slotState k = 1) ∧
      (z.chg = 0) ∧ (z.accepts cnvmPage = true)) ∧
    (∃ (s z : State) (k : Nat), (s.takes cnvmPage 0x60 2 = true) ∧ (z = s.reached cnvmPage) ∧ (z.inactive = some k) ∧ (z.slotState k = 1) ∧
      (z.chg = 0) ∧ (z.accepts cnvmPage = true)) ∧
    (∃ (s z : State) (k : Nat) (x : Component), (s.takes cnvmPage 0x60 3 = true) ∧ (z = s.reached cnvmPage) ∧ (z.chg = 1) ∧ (z.boot.active =
      some k) ∧ (z.coreComp k 0 = some x)) ∧
    (∃ (s z : State), (s.takes cnvmPage 0x60 4 = true) ∧ (z = s.reached cnvmPage) ∧ (z.chg = 1 ∨ z.chg = 2)) ∧
    (∃ (s z : State) (k : Nat), (s.takes cnvmPage 0x60 5 = true) ∧ (z = s.reached cnvmPage) ∧ (z.chg = 3) ∧ (z.boot.active = some k) ∧ (z.tb ≤
      z.boot.healthFrom + 5000000000)) ∧
    (∃ (s z : State), (s.takes cnvmPage 0x60 5 = true) ∧ (z = s.reached cnvmPage) ∧ (z.boot.healthFrom + 5000000000 < z.tb)) ∧
    (∃ (s z : State), (s.takes cnvmPage 0x60 6 = true) ∧ (z = s.reached cnvmPage)) ∧
    (∃ (s : State) (m : Master), (s.takes cnvmPage 0x60 1 = true) ∧ (m ≠ .hk)) ∧
    (∃ (s : State) (m : Master), (s.takes cnvmPage 0x60 5 = true) ∧ (m ≠ .hk)) ∧
    (∃ (s : State) (c : Nat), (s.takes cnvmPage 0x64 (2 ^ c) = true) ∧ (0 < c) ∧ (c < 12)) ∧
    (∃ (s z : State) (v old : Nat), (s.takes cnvmPage 0x68 v = true) ∧ (z = s.reached cnvmPage) ∧ (old = z.get CNVM_CHG_READY cnvmPage) ∧ (old <
      2 ^ 11)) ∧
    (∃ (s : State), (s.chg = 1 ∨ s.chg = 2) ∧ (s.boot.holdFrom + 150000000 ≤ s.tb)) ∧
    (∃ (s : State), (s.chg = 3) ∧ (s.boot.healthFrom + 5000000000 < s.tb) ∧ (s.boot.due = false)) ∧
    (∃ (n : Nat), (n < 8)) :=
  ⟨⟨putSlot ({ st [(H_CTRL_EN.loc cnvmPage, 1)] with boot := { active := some 0 } }) 1 1 5, ((putSlot ({ st [(H_CTRL_EN.loc cnvmPage, 1)] with boot := { active := some 0 } }) 1 1 5 : State).reached cnvmPage), 1, by decide +kernel⟩,
   ⟨putSlot ({ st [(H_CTRL_EN.loc cnvmPage, 1)] with boot := { active := some 0 } }) 1 1 5, ((putSlot ({ st [(H_CTRL_EN.loc cnvmPage, 1)] with boot := { active := some 0 } }) 1 1 5 : State).reached cnvmPage), 1, by decide +kernel⟩,
   ⟨{ st [(CNVM_CHG_STAT_STATE.loc cnvmPage, 1)] with boot := { active := some 0 }, cnvm := mputBytes [] 0xFF 0x20 ([0, 0, 0, 0, 0, 0, 0, 0, 0, 0, 0, 0, 0, 0, 0, 0, 0, 0, 0, 0, 64] ++ List.replicate 75 0), core := [(0, { run := true, slot := some { addr := 0, target := 4 } })] }, (({ st [(CNVM_CHG_STAT_STATE.loc cnvmPage, 1)] with boot := { active := some 0 }, cnvm := mputBytes [] 0xFF 0x20 ([0, 0, 0, 0, 0, 0, 0, 0, 0, 0, 0, 0, 0, 0, 0, 0, 0, 0, 0, 0, 64] ++ List.replicate 75 0), core := [(0, { run := true, slot := some { addr := 0, target := 4 } })] } : State).reached cnvmPage), 0, ⟨0, 0, 0, 0, 0, 64⟩, by decide +kernel⟩,
   ⟨st [(CNVM_CHG_STAT_STATE.loc cnvmPage, 1)], ((st [(CNVM_CHG_STAT_STATE.loc cnvmPage, 1)] : State).reached cnvmPage), by decide +kernel⟩,
   ⟨{ st [(CNVM_CHG_STAT_STATE.loc cnvmPage, 3)] with boot := { active := some 1, trying := true } }, (({ st [(CNVM_CHG_STAT_STATE.loc cnvmPage, 3)] with boot := { active := some 1, trying := true } } : State).reached cnvmPage), 1, by decide +kernel⟩,
   ⟨{ st [(CNVM_CHG_STAT_STATE.loc cnvmPage, 3)] with tb := 5000000001, boot := { active := some 1, trying := true } }, (({ st [(CNVM_CHG_STAT_STATE.loc cnvmPage, 3)] with tb := 5000000001, boot := { active := some 1, trying := true } } : State).reached cnvmPage), by decide +kernel⟩,
   ⟨State.reset, ((State.reset : State).reached cnvmPage), by decide +kernel⟩,
   ⟨State.reset, .host, by decide +kernel⟩,
   ⟨State.reset, .host, by decide +kernel⟩,
   ⟨{ State.reset with core := [(3, { run := true })] }, 3, by decide +kernel⟩,
   ⟨State.reset, State.reset.reached cnvmPage, 2048, 0, by decide +kernel⟩,
   ⟨{ st [(CNVM_CHG_STAT_STATE.loc cnvmPage, 1)] with tb := 200000000 }, by decide +kernel⟩,
   ⟨{ st [(CNVM_CHG_STAT_STATE.loc cnvmPage, 3)] with tb := 6000000000, boot := { due := false } }, by decide +kernel⟩,
   ⟨5, by decide +kernel⟩⟩

theorem test_witness_BootAndUpdateCommands :
    (∃ (s : State), (s.boot.due = true) ∧ (s.clocksRun = true) ∧ (s.domOn 0 = true) ∧ (s.romReady = true) ∧ (∀ k < 2, s.slotState k ≠ 2 ∧
      s.slotState k ≠ 3 ∧ s.slotState k ≠ 4)) ∧
    (∃ (s : State), (s.boot.due = true) ∧ (s.clocksRun = true) ∧ (s.domOn 0 = true) ∧ (s.romReady = true)) ∧
    (∃ (s : State), (s.boot.due = true) ∧ (s.clocksRun = true) ∧ (s.domOn 0 = true) ∧ (s.romReady = false)) ∧
    (∃ (s : State) (c k n : Nat), (s.boot.active = some k) ∧ (s.boot.start.contains c = true) ∧ (c ≠ 0) ∧ (s.boot.due = false) ∧ (s.clocksRun =
      true) ∧ (targetDomain c = some n) ∧ (s.domOn n = true) ∧ (s.domOn 6 = false)) ∧
    (∃ (s : State) (c k n : Nat) (x : Component), (s.boot.active = some k) ∧ (s.boot.start.contains c = true) ∧ (c ≠ 0) ∧ (s.boot.due = false) ∧
      (s.clocksRun = true) ∧ (targetDomain c = some n) ∧ (s.domOn n = true) ∧ (s.domOn 6 = true) ∧ (s.coreComp k c = some x) ∧
      (s.compBlocksOk k x = true)) ∧
    (∃ (s z : State) (m : Master) (slot : Bool), (s.takes cnvmPage 0x50 (1 + 256 * b2n slot) = true) ∧ (m = .hk ∨ m.code = 12) ∧ (z = if s.flag
      CNVM_BOOT_RECOVERY cnvmPage then (s.reached cnvmPage).set CNVM_UPD_SLOT cnvmPage (b2n slot) else s.reached cnvmPage) ∧ (z.accepts
      cnvmPage = true) ∧ (z.onTrial = false) ∧ (z.changing = false) ∧ (z.updState = 0 ∨ z.updState = 4 ∨ z.updState = 5)) ∧
    (∃ (s z : State) (m : Master) (slot : Bool), (s.takes cnvmPage 0x50 (1 + 256 * b2n slot) = true) ∧ (m = .hk ∨ m.code = 12) ∧ (z = if s.flag
      CNVM_BOOT_RECOVERY cnvmPage then (s.reached cnvmPage).set CNVM_UPD_SLOT cnvmPage (b2n slot) else s.reached cnvmPage) ∧ (z.onTrial =
      true ∨ z.changing = true ∨ z.accepts cnvmPage = false)) ∧
    (∃ (s : State) (m : Master) (slot : Bool), (s.takes cnvmPage 0x50 (1 + 256 * b2n slot) = true) ∧ (m ≠ .hk) ∧ (m.code ≠ 12) ∧ (s.flag
      CNVM_BOOT_RECOVERY cnvmPage = false)) ∧
    (∃ (s z : State) (m : Master) (slot : Bool), (s.takes cnvmPage 0x50 (2 + 256 * b2n slot) = true) ∧ (m = .hk ∨ m.code = 12) ∧ (z = if s.flag
      CNVM_BOOT_RECOVERY cnvmPage then (s.reached cnvmPage).set CNVM_UPD_SLOT cnvmPage (b2n slot) else s.reached cnvmPage) ∧ (z.updState =
      2) ∧ (∀ b < z.nblk z.updSlot, 10 ≤ b → z.boot.got.contains b = true)) ∧
    (∃ (s z : State) (m : Master) (slot : Bool) (b : Nat), (s.takes cnvmPage 0x50 (2 + 256 * b2n slot) = true) ∧ (m = .hk ∨ m.code = 12) ∧ (z =
      if s.flag CNVM_BOOT_RECOVERY cnvmPage then (s.reached cnvmPage).set CNVM_UPD_SLOT cnvmPage (b2n slot) else s.reached cnvmPage) ∧
      (z.updState = 2) ∧ (b < z.nblk z.updSlot) ∧ (10 ≤ b) ∧ (z.boot.got.contains b = false)) ∧
    (∃ (s z : State) (m : Master) (slot : Bool), (s.takes cnvmPage 0x50 (3 + 256 * b2n slot) = true) ∧ (m = .hk ∨ m.code = 12) ∧ (z = if s.flag
      CNVM_BOOT_RECOVERY cnvmPage then (s.reached cnvmPage).set CNVM_UPD_SLOT cnvmPage (b2n slot) else s.reached cnvmPage) ∧ (z.updState ≠
      0)) ∧
    (∃ (s : State) (a : Nat) (l : List Word), (s.domOn 6 = true) ∧ (l.length ≠ 256 ∨ ¬ 1024 ∣ a ∨ s.takesBlock (a / 4096) = false)) ∧
    (∃ (s : State) (a : Nat) (l : List Word), (s.domOn 6 = true) ∧ (l.length = 256) ∧ (1024 ∣ a) ∧ (s.takesBlock (a / 4096) = true) ∧
      (s.boot.bufs = [])) ∧
    (∃ (s : State) (a : Nat) (l : List Word) (x y : BlkBuf), (s.domOn 6 = true) ∧ (l.length = 256) ∧ (1024 ∣ a) ∧ (s.takesBlock (a / 4096) =
      true) ∧ (s.boot.bufs = [x]) ∧ (x.blk = a / 4096) ∧ (x.full = false) ∧ (y =
      { x with quarters := tput x.quarters (a / 1024 % 4) [] ((l.flatMap fun w => leBytes w.toNat 4).map fun v => BitVec.ofNat 8 v) }) ∧
      (y.quarters.length = 4)) ∧
    (∃ (s : State) (b : Nat) (x : BlkBuf), (s.domOn 6 = true) ∧ (s.boot.bufs = [x]) ∧ (x.blk = b) ∧ (x.full = true)) ∧
    (∃ (s : State), (s.domOn 6 = true) ∧ (s.updState = 3) ∧ (s.keccakAt 1 = true)) :=
  ⟨⟨bootSt, by decide +kernel⟩,
   ⟨bootSt, by decide +kernel⟩,
   ⟨(bootSt).setDom 6 { actual := .off, target := .off }, by decide +kernel⟩,
   ⟨({ bootSt with boot := { due := false, active := some 0, start := [3] }, cnvm := mputBytes [] 0xFF 0x20 ([3] ++ List.replicate 15 0 ++ [64] ++ List.replicate 79 0) } : State).setDom 6 { actual := .off, target := .off }, 3, 0, 1, by decide +kernel⟩,
   ⟨{ bootSt with boot := { due := false, active := some 0, start := [3] }, cnvm := mputBytes [] 0xFF 0x20 ([3] ++ List.replicate 15 0 ++ [64] ++ List.replicate 79 0) }, 3, 0, 1, ⟨3, 0, 0, 0, 64, 0⟩, by decide +kernel⟩,
   ⟨{ st [(H_CTRL_EN.loc cnvmPage, 1)] with boot := { active := some 0, got := [3] } }, (({ st [(H_CTRL_EN.loc cnvmPage, 1)] with boot := { active := some 0, got := [3] } } : State).reached cnvmPage), .hk, false, by decide +kernel⟩,
   ⟨putSlot ({ State.reset with boot := { active := some 0 } }) 1 2 5, ((putSlot ({ State.reset with boot := { active := some 0 } }) 1 2 5 : State).reached cnvmPage), .hk, false, by decide +kernel⟩,
   ⟨State.reset, .se, false, by decide +kernel⟩,
   ⟨{ st [(CNVM_UPD_STAT_STATE.loc cnvmPage, 2)] with cnvm := mputN [] 0xFF (slotBase 1 + 0x10) 2 11, boot := { active := some 0, got := [10] } }, (({ st [(CNVM_UPD_STAT_STATE.loc cnvmPage, 2)] with cnvm := mputN [] 0xFF (slotBase 1 + 0x10) 2 11, boot := { active := some 0, got := [10] } } : State).reached cnvmPage), .hk, false, by decide +kernel⟩,
   ⟨{ st [(CNVM_UPD_STAT_STATE.loc cnvmPage, 2)] with boot := { active := some 0, got := [10] } }, (({ st [(CNVM_UPD_STAT_STATE.loc cnvmPage, 2)] with boot := { active := some 0, got := [10] } } : State).reached cnvmPage), .hk, false, 11, by decide +kernel⟩,
   ⟨{ st [(CNVM_UPD_STAT_STATE.loc cnvmPage, 2)] with boot := { active := some 0, got := [10] } }, (({ st [(CNVM_UPD_STAT_STATE.loc cnvmPage, 2)] with boot := { active := some 0, got := [10] } } : State).reached cnvmPage), .host, false, by decide +kernel⟩,
   ⟨State.reset, 4096, [], by decide +kernel⟩,
   ⟨{ st [(CNVM_UPD_STAT_STATE.loc cnvmPage, 1)] with boot := { active := some 0 } }, 5120, List.replicate 256 7, by decide +kernel⟩,
   ⟨{ st [(CNVM_UPD_STAT_STATE.loc cnvmPage, 1)] with boot := { active := some 0, bufs := [{ blk := 1, quarters := [(0, []), (1, []), (2, [5])] }] } }, 7168, List.replicate 256 7, { blk := 1, quarters := [(0, []), (1, []), (2, [5])] }, { blk := 1, quarters := [(0, []), (1, []), (2, [5]), (3, ((List.replicate 256 (7 : Word)).flatMap fun w => leBytes w.toNat 4).map fun v => BitVec.ofNat 8 v)] }, by decide +kernel⟩,
   ⟨{ st [(CNVM_UPD_STAT_STATE.loc cnvmPage, 1)] with boot := { active := some 0, bufs := [{ blk := 1, full := true }] } }, 1, { blk := 1, full := true }, by decide +kernel⟩,
   ⟨{ st [(CNVM_UPD_STAT_STATE.loc cnvmPage, 3)] with boot := { active := some 0, keccak := [1] } }, by decide +kernel⟩⟩

theorem test_witness_LifecycleAndAttestationCommands :
    (∃ (s : State) (m : Master) (r : Nat) (ok : Bool), (s.takes secPage 0x48 (256 + r) = true) ∧ (m = .hk ∨ m.code = 12) ∧ (s.flag
      H_LOCKSTAT_UNLOCKED secPage = true) ∧ (s.accepts secPage = true) ∧ (r < 4) ∧ (s.fuse.lc = 0) ∧ (s.rootState r = 0) ∧ (ok = true) ∧
      (s.fuse.root.length = 4)) ∧
    (∃ (s : State) (m : Master) (r : Nat), (s.takes secPage 0x48 (256 + r) = true) ∧ (m = .hk ∨ m.code = 12) ∧ (s.flag H_LOCKSTAT_UNLOCKED
      secPage = true) ∧ (s.accepts secPage = true) ∧ (r < 4) ∧ (s.fuse.lc ≠ 0)) ∧
    (∃ (s : State) (m : Master) (r : Nat), (s.takes secPage 0x48 (256 + r) = true) ∧ (m = .hk ∨ m.code = 12) ∧ (s.flag H_LOCKSTAT_UNLOCKED
      secPage = true) ∧ (s.accepts secPage = true) ∧ (r < 4) ∧ (s.fuse.lc = 0) ∧ (s.rootState r ≠ 0)) ∧
    (∃ (s : State) (m : Master) (r : Nat) (ok : Bool), (s.takes secPage 0x48 (256 + r) = true) ∧ (m = .hk ∨ m.code = 12) ∧ (s.flag
      H_LOCKSTAT_UNLOCKED secPage = true) ∧ (s.accepts secPage = true) ∧ (r < 4) ∧ (s.fuse.lc = 0) ∧ (s.rootState r = 0) ∧ (ok = false)) ∧
    (∃ (s : State) (m : Master) (r : Nat), (s.takes secPage 0x48 (256 + r) = true) ∧ (r < 4) ∧ ((m ≠ .hk ∧ m.code ≠ 12) ∨ s.flag
      H_LOCKSTAT_UNLOCKED secPage = false ∨ s.accepts secPage = false)) ∧
    (∃ (s : State) (m : Master) (r : Nat) (ok : Bool), (s.takes secPage 0x48 (512) = true) ∧ (m = .hk ∨ m.code = 12) ∧ (s.flag
      H_LOCKSTAT_UNLOCKED secPage = true) ∧ (s.accepts secPage = true) ∧ (r < 4) ∧ (s.rootState r = 1) ∧ (s.fuse.lc = 0) ∧ (ok = true)) ∧
    (∃ (s : State) (m : Master), (s.takes secPage 0x48 (512) = true) ∧ (m = .hk ∨ m.code = 12) ∧ (s.flag H_LOCKSTAT_UNLOCKED secPage = true) ∧
      (s.accepts secPage = true) ∧ (∀ r < 4, s.rootState r ≠ 1)) ∧
    (∃ (s : State) (m : Master) (r : Nat), (s.takes secPage 0x48 (512) = true) ∧ (m = .hk ∨ m.code = 12) ∧ (s.flag H_LOCKSTAT_UNLOCKED secPage =
      true) ∧ (s.accepts secPage = true) ∧ (r < 4) ∧ (s.rootState r = 1) ∧ (s.fuse.lc ≠ 0)) ∧
    (∃ (s : State) (m : Master), (s.takes secPage 0x48 (768) = true) ∧ (m = .hk ∨ m.code = 12) ∧ (s.flag H_LOCKSTAT_UNLOCKED secPage = true) ∧
      (s.accepts secPage = true) ∧ (s.fuse.lc = 1)) ∧
    (∃ (s : State) (m : Master), (s.takes secPage 0x48 (768) = true) ∧ (m = .hk ∨ m.code = 12) ∧ (s.flag H_LOCKSTAT_UNLOCKED secPage = true) ∧
      (s.accepts secPage = true) ∧ (s.fuse.lc ≠ 1)) ∧
    (∃ (s : State) (m : Master) (a : Nat), (s.takes attPage 0x40 1 = true) ∧ (m = .se ∨ m = .hk ∨ m.code = 12) ∧ (s.accepts attPage = true) ∧
      (s.flag ATT_STAT_BUSY attPage = false) ∧ (a = s.get ATT_BUF attPage) ∧ (0x10000000 ≤ a) ∧ (a + 50176 ≤ 0x10200000) ∧ (16 ∣ a)) ∧
    (∃ (s : State) (m : Master), (s.takes attPage 0x40 1 = true) ∧ (m = .se ∨ m = .hk ∨ m.code = 12) ∧ (s.accepts attPage = true) ∧ (s.flag
      ATT_STAT_BUSY attPage = true)) ∧
    (∃ (s : State) (m : Master) (a : Nat), (s.takes attPage 0x40 1 = true) ∧ (m = .se ∨ m = .hk ∨ m.code = 12) ∧ (s.accepts attPage = true) ∧
      (s.flag ATT_STAT_BUSY attPage = false) ∧ (a = s.get ATT_BUF attPage) ∧ (a < 0x10000000 ∨ 0x10200000 < a + 50176 ∨ ¬ 16 ∣ a)) ∧
    (∃ (s : State), (s.domOn 4 = true) ∧ (s.domOn 6 = true) ∧ (s.flag ATT_STAT_BUSY attPage = true) ∧ (s.keccakAt 2 = true) ∧ (0x10000000 ≤
      s.att.buf)) :=
  ⟨⟨st [(H_LOCKSTAT_UNLOCKED.loc secPage, 1), (H_CTRL_EN.loc secPage, 1)], .hk, 2, true, by decide +kernel⟩,
   ⟨{ st [(H_LOCKSTAT_UNLOCKED.loc secPage, 1), (H_CTRL_EN.loc secPage, 1)] with fuse := { lc := 1 } }, .hk, 2, by decide +kernel⟩,
   ⟨{ st [(H_LOCKSTAT_UNLOCKED.loc secPage, 1), (H_CTRL_EN.loc secPage, 1)] with fuse := { root := [0, 0, 2, 0] } }, .hk, 2, by decide +kernel⟩,
   ⟨{ st [(H_LOCKSTAT_UNLOCKED.loc secPage, 1), (H_CTRL_EN.loc secPage, 1)] with fuse := {} }, .hk, 2, false, by decide +kernel⟩,
   ⟨State.reset, .hk, 2, by decide +kernel⟩,
   ⟨{ st [(H_LOCKSTAT_UNLOCKED.loc secPage, 1), (H_CTRL_EN.loc secPage, 1)] with fuse := { root := [0, 1, 0, 0] } }, .hk, 1, true, by decide +kernel⟩,
   ⟨st [(H_LOCKSTAT_UNLOCKED.loc secPage, 1), (H_CTRL_EN.loc secPage, 1)], .hk, by decide +kernel⟩,
   ⟨{ st [(H_LOCKSTAT_UNLOCKED.loc secPage, 1), (H_CTRL_EN.loc secPage, 1)] with fuse := { root := [0, 1, 0, 0], lc := 1 } }, .hk, 1, by decide +kernel⟩,
   ⟨{ st [(H_LOCKSTAT_UNLOCKED.loc secPage, 1), (H_CTRL_EN.loc secPage, 1)] with fuse := { lc := 1 } }, .hk, by decide +kernel⟩,
   ⟨st [(H_LOCKSTAT_UNLOCKED.loc secPage, 1), (H_CTRL_EN.loc secPage, 1)], .hk, by decide +kernel⟩,
   ⟨st [(H_CTRL_EN.loc attPage, 1), (ATT_BUF.loc attPage, 0x10000100)], .se, 0x10000100, by decide +kernel⟩,
   ⟨st [(H_CTRL_EN.loc attPage, 1), (ATT_STAT_BUSY.loc attPage, 1)], .se, by decide +kernel⟩,
   ⟨st [(H_CTRL_EN.loc attPage, 1), (ATT_BUF.loc attPage, 8)], .se, 8, by decide +kernel⟩,
   ⟨{ st [(ATT_STAT_BUSY.loc attPage, 1)] with att := { buf := 0x10000100 }, boot := { keccak := [2] } }, by decide +kernel⟩⟩

theorem test_witness_HostPortCommands :
    (∃ (s : State), (s.clk.frozen = false) ∧ (s.domOn 5 = true) ∧ (s.host.run = none) ∧ (s.host.queue = []) ∧ (s.accepts hostPage = true)) ∧
    (∃ (s : State) (addr : Word), (s.clk.frozen = false) ∧ (s.domOn 5 = true) ∧ (s.host.run = none) ∧ (s.host.queue = []) ∧ (s.accepts hostPage
      = true) ∧ (s.isMaster = false ∨ s.get HOST_CFG_RING_TGT hostPage = 0) ∧ (s.domOn 6 = true) ∧ (4 ∣ addr.toNat) ∧ (0x10000000 ≤
      addr.toNat) ∧ (addr.toNat < 0x10200000) ∧ (s.isBad 2 0 (addr.toNat - 0x10000000) = false)) ∧
    (∃ (s : State) (addr : Word), (s.clk.frozen = false) ∧ (s.domOn 5 = true) ∧ (s.host.run = none) ∧ (s.host.queue = []) ∧ (s.accepts hostPage
      = true) ∧ (s.isMaster = false ∨ s.get HOST_CFG_RING_TGT hostPage = 0) ∧ (¬ 4 ∣ addr.toNat)) ∧
    (∃ (s : State), (s.clk.frozen = false) ∧ (s.domOn 5 = true) ∧ (s.host.run = none) ∧ (s.accepts hostPage = false)) ∧
    (∃ (s : State) (r : HostReq), (s.clk.frozen = false) ∧ (s.domOn 5 = true) ∧ (s.host.run = some r)) ∧
    (∃ (s : State) (a b c : Word), (s.clk.frozen = false) ∧ (s.domOn 5 = true) ∧ (s.host.run = none) ∧ (s.host.queue = []) ∧ (s.accepts hostPage
      = true) ∧ (a.toNat < 2 ^ 28) ∧ (a.toNat % 1024 = 0) ∧ (a.toNat / 1024 % 4 ≠ 3) ∧ (c.toNat = hostCrc [a.toNat, b.toNat])) ∧
    (∃ (s : State) (a b c : Word), (s.clk.frozen = false) ∧ (s.domOn 5 = true) ∧ (s.host.run = none) ∧ (s.host.queue = []) ∧ (s.accepts hostPage
      = true) ∧ (a.toNat < 2 ^ 28) ∧ (c.toNat ≠ hostCrc [a.toNat, b.toNat])) ∧
    (∃ (s : State) (n : Nat), (s.clk.frozen = false) ∧ (s.domOn 5 = true) ∧ (s.host.run = none) ∧ (s.host.queue = []) ∧ (s.accepts hostPage =
      true) ∧ (n ≠ 0)) ∧
    (∃ (s : State) (k : Nat) (dst src : Word) (dport : Nat) (plain : Bool), (s.udpTakes k dst.toNat src.toNat dport plain = false)) ∧
    (∃ (s : State) (k : Nat) (dst src : Word) (dport : Nat) (plain : Bool), (s.udpTakes k dst.toNat src.toNat dport plain = true)) ∧
    (∃ (s : State) (k : Nat) (dst src : Word) (dport : Nat) (plain : Bool) (a b c : Word), (s.udpTakes k dst.toNat src.toNat dport plain = true)
      ∧ (a.toNat < 2 ^ 28) ∧ (a.toNat % 1024 = 0) ∧ (a.toNat / 1024 % 4 ≠ 3) ∧ (c.toNat = hostCrc [a.toNat, b.toNat]) ∧ (s.host.run = none)
      ∧ (s.host.queue = []) ∧ (s.host.last = none)) ∧
    (∃ (s : State) (k : Nat) (dst src : Word) (port dport : Nat) (plain : Bool) (a b c : Word) (r : List Nat), (s.udpTakes k dst.toNat src.toNat
      dport plain = true) ∧ (a.toNat < 2 ^ 28) ∧ (a.toNat % 1024 = 0) ∧ (a.toNat / 1024 % 4 ≠ 3) ∧ (c.toNat = hostCrc [a.toNat, b.toNat]) ∧
      (s.host.last = some (src.toNat, port, a.toNat / 2 ^ 20 % 256, c.toNat, r))) ∧
    (∃ (s : State) (r : HostReq), (s.ringOn = true) ∧ (s.isMaster = true) ∧ (s.host.run = some r) ∧ (r.src = 0) ∧ (s.get HOST_STAT_STATE
      hostPage = 2) ∧ (s.host.queue = [])) ∧
    (∃ (s : State) (a b c : Word), (s.clk.frozen = false) ∧ (s.domOn 5 = true) ∧ (s.host.run = none) ∧ (s.host.queue = []) ∧ (s.accepts hostPage
      = true) ∧ (s.ringOn = true) ∧ (s.isMaster = false) ∧ (a.toNat < 2 ^ 28) ∧ (a.toNat % 1024 = 0) ∧ (a.toNat / 1024 % 4 ≠ 3) ∧ (c.toNat =
      hostCrc [a.toNat, b.toNat])) ∧
    (∃ (s : State) (r : HostReq), (s.host.run = some r) ∧ (r.src = 0) ∧ (s.get HOST_STAT_STATE hostPage = 2) ∧ (r.since + 2000000 ≤ s.tb) ∧
      (s.domOn 5 = true) ∧ (s.host.queue = [])) :=
  ⟨⟨st [(H_CTRL_EN.loc hostPage, 1)], by decide +kernel⟩,
   ⟨st [(H_CTRL_EN.loc hostPage, 1)], 0x10000040, by decide +kernel⟩,
   ⟨st [(H_CTRL_EN.loc hostPage, 1)], 0x10000041, by decide +kernel⟩,
   ⟨st [(H_CTRL_EN.loc hostPage, 0)], by decide +kernel⟩,
   ⟨{ State.reset with host := { run := some { op := 1, tag := 3 } } }, { op := 1, tag := 3 }, by decide +kernel⟩,
   ⟨st [(H_CTRL_EN.loc hostPage, 1)], 0x00700000, 5, BitVec.ofNat 32 (hostCrc [0x00700000, 5]), by decide +kernel⟩,
   ⟨st [(H_CTRL_EN.loc hostPage, 1)], 0x00700000, 5, 1, by decide +kernel⟩,
   ⟨st [(H_CTRL_EN.loc hostPage, 1)], 3, by decide +kernel⟩,
   ⟨st [(H_CTRL_EN.loc hostPage, 1), (H_CTRL_EN.loc (macPage 0), 1), (HOST_CFG_UDP_EN.loc hostPage, 1), (HOST_IP.loc hostPage, 0x0A000001), (HOST_UDP_PORT.loc hostPage, 900), (HOST_CFG_ALLOW_ANY.loc hostPage, 1)], 0, 0x0A000001, 0x0A000002, 900, false, by decide +kernel⟩,
   ⟨st [(H_CTRL_EN.loc hostPage, 1), (H_CTRL_EN.loc (macPage 0), 1), (HOST_CFG_UDP_EN.loc hostPage, 1), (HOST_IP.loc hostPage, 0x0A000001), (HOST_UDP_PORT.loc hostPage, 900), (HOST_CFG_ALLOW_ANY.loc hostPage, 1)], 0, 0x0A000001, 0x0A000002, 900, true, by decide +kernel⟩,
   ⟨st [(H_CTRL_EN.loc hostPage, 1), (H_CTRL_EN.loc (macPage 0), 1), (HOST_CFG_UDP_EN.loc hostPage, 1), (HOST_IP.loc hostPage, 0x0A000001), (HOST_UDP_PORT.loc hostPage, 900), (HOST_CFG_ALLOW_ANY.loc hostPage, 1)], 0, 0x0A000001, 0x0A000002, 900, true, 0x00700000, 5, BitVec.ofNat 32 (hostCrc [0x00700000, 5]), by decide +kernel⟩,
   ⟨{ st [(H_CTRL_EN.loc hostPage, 1), (H_CTRL_EN.loc (macPage 0), 1), (HOST_CFG_UDP_EN.loc hostPage, 1), (HOST_IP.loc hostPage, 0x0A000001), (HOST_UDP_PORT.loc hostPage, 900), (HOST_CFG_ALLOW_ANY.loc hostPage, 1)] with host := { last := some (0x0A000002, 5000, 7, hostCrc [0x00700000, 5], [9]) } }, 0, 0x0A000001, 0x0A000002, 5000, 900, true, 0x00700000, 5, BitVec.ofNat 32 (hostCrc [0x00700000, 5]), [9], by decide +kernel⟩,
   ⟨{ st [(H_CTRL_EN.loc ringPage, 1), (RING_STAT_ROLE.loc ringPage, 1), (HOST_STAT_STATE.loc hostPage, 2)] with clk := { frozen := false, restarting := false }, host := { run := some { op := 1 } } }, { op := 1 }, by decide +kernel⟩,
   ⟨{ st [(H_CTRL_EN.loc hostPage, 1), (H_CTRL_EN.loc ringPage, 1)] with clk := { frozen := false, restarting := false } }, 0x00700000, 5, BitVec.ofNat 32 (hostCrc [0x00700000, 5]), by decide +kernel⟩,
   ⟨{ st [(HOST_STAT_STATE.loc hostPage, 2)] with tb := 3000000, host := { run := some { op := 1 } } }, { op := 1 }, by decide +kernel⟩⟩

theorem test_witness_MonitorAccessCommands :
    (∃ (s : State) (addr : Word), (s.monUp = true ∧ s.clk.frozen = false) ∧ (s.fuse.lc ≠ 1 ∨ s.flag MON_STAT_OPEN monPage = true) ∧ (s.domOn 6 =
      true) ∧ (4 ∣ addr.toNat) ∧ (0x10000000 ≤ addr.toNat) ∧ (addr.toNat < 0x10200000) ∧ (s.isBad 2 0 (addr.toNat - 0x10000000) = false)) ∧
    (∃ (s z : State) (n : Nat), (s.monUp = true ∧ s.clk.frozen = false) ∧ (s.fuse.lc ≠ 1 ∨ s.flag MON_STAT_OPEN monPage = true) ∧ (z = s.bump
      MON_CNT_CMDS monPage) ∧ (n = 0 ∨ 100 < n)) ∧
    (∃ (s z : State), (s.monUp = true ∧ s.clk.frozen = false) ∧ (z = s.bump MON_CNT_CMDS monPage) ∧ (s.fuse.lc = 1) ∧ (s.flag MON_STAT_OPEN
      monPage = false)) ∧
    (∃ (s z : State) (n : Nat), (s.monUp = true ∧ s.clk.frozen = false) ∧ (s.fuse.lc ≠ 1 ∨ s.flag MON_STAT_OPEN monPage = true) ∧ (z = s.bump
      MON_CNT_CMDS monPage) ∧ (n = 0 ∨ 10000 < n)) ∧
    (∃ (s z : State) (r : Nat), (s.monUp = true ∧ s.clk.frozen = false) ∧ (z = s.bump MON_CNT_CMDS monPage) ∧ (9600 ≤ r) ∧ (r ≤ 3000000)) ∧
    (∃ (s z : State) (r : Nat), (s.monUp = true ∧ s.clk.frozen = false) ∧ (z = s.bump MON_CNT_CMDS monPage) ∧ (r < 9600 ∨ 3000000 < r)) :=
  ⟨⟨{ State.reset with sup := { State.reset.sup with alive := true } }, 0x10000040, by decide +kernel⟩,
   ⟨{ State.reset with sup := { State.reset.sup with alive := true } }, (({ State.reset with sup := { State.reset.sup with alive := true } } : State).bump MON_CNT_CMDS monPage), 0, by decide +kernel⟩,
   ⟨{ { State.reset with sup := { State.reset.sup with alive := true } } with fuse := { lc := 1 } }, (({ { State.reset with sup := { State.reset.sup with alive := true } } with fuse := { lc := 1 } } : State).bump MON_CNT_CMDS monPage), by decide +kernel⟩,
   ⟨{ State.reset with sup := { State.reset.sup with alive := true } }, (({ State.reset with sup := { State.reset.sup with alive := true } } : State).bump MON_CNT_CMDS monPage), 0, by decide +kernel⟩,
   ⟨{ State.reset with sup := { State.reset.sup with alive := true } }, (({ State.reset with sup := { State.reset.sup with alive := true } } : State).bump MON_CNT_CMDS monPage), 115200, by decide +kernel⟩,
   ⟨{ State.reset with sup := { State.reset.sup with alive := true } }, (({ State.reset with sup := { State.reset.sup with alive := true } } : State).bump MON_CNT_CMDS monPage), 9599, by decide +kernel⟩⟩

theorem test_witness_MonitorDebugCommands :
    (∃ (s : State) (c : Nat), (s.monUp = true ∧ s.clk.frozen = false) ∧ (s.fuse.lc ≠ 1 ∨ s.flag MON_STAT_OPEN monPage = true) ∧ (c < 12) ∧
      ((s.cr c).held = false) ∧ ((s.cr c).slot = none) ∧ ((s.cr c).rep = none) ∧ (s.stall = [])) ∧
    (∃ (s : State) (c : Nat), (s.monUp = true ∧ s.clk.frozen = false) ∧ (s.fuse.lc ≠ 1 ∨ s.flag MON_STAT_OPEN monPage = true) ∧ (c < 12) ∧
      ((s.cr c).held = false) ∧ ((s.cr c).slot.isSome = true)) ∧
    (∃ (s : State) (c : Nat), (s.monUp = true ∧ s.clk.frozen = false) ∧ (s.fuse.lc ≠ 1 ∨ s.flag MON_STAT_OPEN monPage = true) ∧ ((s.cr c).held =
      true)) ∧
    (∃ (s z : State) (c : Nat), (s.monUp = true ∧ s.clk.frozen = false) ∧ (s.fuse.lc ≠ 1 ∨ s.flag MON_STAT_OPEN monPage = true) ∧ (z = s.bump
      MON_CNT_CMDS monPage) ∧ ((s.cr c).held = false)) ∧
    (∃ (s : State) (c : Nat), (s.monUp = true ∧ s.clk.frozen = false) ∧ (s.fuse.lc ≠ 1 ∨ s.flag MON_STAT_OPEN monPage = true) ∧ (s.debugging c =
      true)) ∧
    (∃ (s : State), (s.monUp = true ∧ s.clk.frozen = false) ∧ (s.fuse.lc ≠ 1 ∨ s.flag MON_STAT_OPEN monPage = true)) ∧
    (∃ (s z : State) (c : Nat), (s.monUp = true ∧ s.clk.frozen = false) ∧ (s.fuse.lc ≠ 1 ∨ s.flag MON_STAT_OPEN monPage = true) ∧ (z = s.bump
      MON_CNT_CMDS monPage) ∧ (((s.cr c).halt || (s.cr c).held) = true)) ∧
    (∃ (s z : State), (s.monUp = true ∧ s.clk.frozen = false) ∧ (s.fuse.lc ≠ 1 ∨ s.flag MON_STAT_OPEN monPage = true) ∧ (z = s.bump MON_CNT_CMDS
      monPage) ∧ (s.domOn 10 = true)) ∧
    (∃ (s : State), (s.monUp = true ∧ s.clk.frozen = false) ∧ (s.domOn 4 = true)) ∧
    (∃ (s : State) (c : List Nat), (s.monUp = true ∧ s.clk.frozen = false) ∧ (s.mon.chal = some c)) ∧
    (∃ (s z : State), (s.monUp = true ∧ s.clk.frozen = false) ∧ (z = s.bump MON_CNT_CMDS monPage) ∧ (s.mon.chal = none)) ∧
    (∃ (s z : State), (s.monUp = true ∧ s.clk.frozen = false) ∧ (z = s.bump MON_CNT_CMDS monPage)) :=
  ⟨⟨{ State.reset with sup := { State.reset.sup with alive := true } }, 2, by decide +kernel⟩,
   ⟨{ ({ State.reset with sup := { State.reset.sup with alive := true } }) with core := [(2, { run := true, slot := some { addr := 0, target := 8 } })] }, 2, by decide +kernel⟩,
   ⟨{ ({ State.reset with sup := { State.reset.sup with alive := true } }) with core := [(2, { run := true, held := true })], reg := (({ State.reset with sup := { State.reset.sup with alive := true } } : State).set MON_STAT_DEBUG monPage 4).reg }, 2, by decide +kernel⟩,
   ⟨{ State.reset with sup := { State.reset.sup with alive := true } }, (({ State.reset with sup := { State.reset.sup with alive := true } } : State).bump MON_CNT_CMDS monPage), 2, by decide +kernel⟩,
   ⟨{ ({ State.reset with sup := { State.reset.sup with alive := true } }) with core := [(2, { run := true, held := true })], reg := (({ State.reset with sup := { State.reset.sup with alive := true } } : State).set MON_STAT_DEBUG monPage 4).reg }, 2, by decide +kernel⟩,
   ⟨{ ({ State.reset with sup := { State.reset.sup with alive := true } }) with core := [(2, { run := true, held := true })], reg := (({ State.reset with sup := { State.reset.sup with alive := true } } : State).set MON_STAT_DEBUG monPage 4).reg }, by decide +kernel⟩,
   ⟨{ ({ State.reset with sup := { State.reset.sup with alive := true } }) with core := [(2, { run := true, held := true })], reg := (({ State.reset with sup := { State.reset.sup with alive := true } } : State).set MON_STAT_DEBUG monPage 4).reg }, (({ ({ State.reset with sup := { State.reset.sup with alive := true } }) with core := [(2, { run := true, held := true })], reg := (({ State.reset with sup := { State.reset.sup with alive := true } } : State).set MON_STAT_DEBUG monPage 4).reg } : State).bump MON_CNT_CMDS monPage), 2, by decide +kernel⟩,
   ⟨{ State.reset with sup := { State.reset.sup with alive := true } }, (({ State.reset with sup := { State.reset.sup with alive := true } } : State).bump MON_CNT_CMDS monPage), by decide +kernel⟩,
   ⟨{ State.reset with sup := { State.reset.sup with alive := true } }, by decide +kernel⟩,
   ⟨{ ({ State.reset with sup := { State.reset.sup with alive := true } }) with mon := { chal := some [1] } }, [1], by decide +kernel⟩,
   ⟨{ State.reset with sup := { State.reset.sup with alive := true } }, (({ State.reset with sup := { State.reset.sup with alive := true } } : State).bump MON_CNT_CMDS monPage), by decide +kernel⟩,
   ⟨{ State.reset with sup := { State.reset.sup with alive := true } }, (({ State.reset with sup := { State.reset.sup with alive := true } } : State).bump MON_CNT_CMDS monPage), by decide +kernel⟩⟩

theorem test_witness_IntegrityCommands :
    (∃ (cols : List Nat) (lo : Nat), (∀ x ∈ cols, lo ≤ x ∧ x < lo + 16)) ∧
    (∃ (cols : List Nat) (lo : Nat), (∀ x ∈ cols, lo ≤ x ∧ x < lo + 32)) ∧
    (∃ (s : State) (m c a lo : Nat) (cols : List Nat), (m < 6) ∧ (m ≠ 3) ∧ (∀ n, memDomain m c = some n → s.domOn n = true) ∧ (s.domOn 6 = true)
      ∧ (s.isBad m c a = false) ∧ (∀ x ∈ cols, lo ≤ x ∧ x < lo + 16) ∧ (flipsOf cols (a / 8 % 16) = 1)) ∧
    (∃ (s : State) (m c a lo : Nat) (cols : List Nat), (m < 6) ∧ (m ≠ 3) ∧ (∀ n, memDomain m c = some n → s.domOn n = true) ∧ (s.domOn 6 = true)
      ∧ (s.isBad m c a = false) ∧ (∀ x ∈ cols, lo ≤ x ∧ x < lo + 16) ∧ (flipsOf cols (a / 8 % 16) = 0)) ∧
    (∃ (s : State) (m c a : Nat) (cols : List Nat), (m < 6) ∧ (c < 12) ∧ (a < 2 ^ 32) ∧ (m ≠ 3) ∧ (∀ n, memDomain m c = some n → s.domOn n =
      true) ∧ (s.domOn 6 = true) ∧ (flipsOf cols (a / 8 % 16) = 2)) ∧
    (∃ (s : State) (m c a : Nat), (m < 6) ∧ (c < 12) ∧ (a < 2 ^ 32) ∧ (m ≠ 3) ∧ (∀ n, memDomain m c = some n → s.domOn n = true) ∧ (s.domOn 6 =
      true) ∧ (s.isBad m c a = true)) ∧
    (∃ (s : State) (m c a k : Nat) (cols : List Nat), (m < 6) ∧ (c < 12) ∧ (a < 2 ^ 32) ∧ (m ≠ 3) ∧ (∀ n, memDomain m c = some n → s.domOn n =
      true) ∧ (s.domOn 6 = true) ∧ (k < 16) ∧ (flipsOf cols k = 2)) ∧
    (∃ (s : State) (c a : Nat), (s.domOn 6 = true) ∧ (s.isBad 2 c a = false)) ∧
    (∃ (s : State) (k a : Nat), (s.takes eccPage 0x70 1 = true) ∧ (s.flag H_LOCKSTAT_UNLOCKED eccPage = true) ∧ (k = s.get ECC_FILL_MEM eccPage)
      ∧ (2 ≤ k) ∧ (a = s.get ECC_FILL_ADDR eccPage / 8 * 8)) ∧
    (∃ (s : State), (s.takes eccPage 0x70 1 = true) ∧ (s.flag H_LOCKSTAT_UNLOCKED eccPage = false)) ∧
    (∃ (s : State) (i : Nat) (v : Word), (s.takes logPage (0x400 + 4 * i) v.toNat = true) ∧ (i < 741) ∧ (i % 8 ≠ 7 ∨ 720 ≤ i) ∧ (s.rd (deltaLoc
      (2 * i)) < 2 ^ 16) ∧ (s.rd (deltaLoc (2 * i + 1)) < 2 ^ 16)) ∧
    (∃ (s : State) (i : Nat) (v : Word), (s.takes logPage (0x400 + 4 * i) v.toNat = true) ∧ (i < 720) ∧ (i % 8 = 7)) ∧
    (∃ (s : State), (s.logMin < s.tb / 60000000000)) :=
  ⟨⟨[5, 6, 20], 5, by decide +kernel⟩,
   ⟨[5, 6, 21], 5, by decide +kernel⟩,
   ⟨State.reset, 2, 0, 64, 3, [8, 9], ⟨by decide, by decide, by intro n h; simp [memDomain] at h; subst h; decide +kernel, by decide +kernel, by decide +kernel, by decide, by decide +kernel⟩⟩,
   ⟨State.reset, 2, 0, 64, 3, [9], ⟨by decide, by decide, by intro n h; simp [memDomain] at h; subst h; decide +kernel, by decide +kernel, by decide +kernel, by decide, by decide +kernel⟩⟩,
   ⟨State.reset, 2, 0, 70, [8, 24], ⟨by decide, by decide, by decide, by decide, by intro n h; simp [memDomain] at h; subst h; decide +kernel, by decide +kernel, by decide +kernel⟩⟩,
   ⟨{ State.reset with eccBad := [(2, 0, 64)] }, 2, 0, 70, ⟨by decide, by decide, by decide, by decide, by intro n h; simp [memDomain] at h; subst h; decide +kernel, by decide +kernel, by decide +kernel⟩⟩,
   ⟨State.reset, 2, 0, 70, 3, [3, 19], ⟨by decide, by decide, by decide, by decide, by intro n h; simp [memDomain] at h; subst h; decide +kernel, by decide +kernel, by decide, by decide +kernel⟩⟩,
   ⟨State.reset, 0, 64, by decide +kernel⟩,
   ⟨{ st [(H_LOCKSTAT_UNLOCKED.loc eccPage, 1), (ECC_FILL_MEM.loc eccPage, 2), (ECC_FILL_ADDR.loc eccPage, 64)] with eccBad := [(2, 0, 64)] }, 2, 64, by decide +kernel⟩,
   ⟨State.reset, by decide +kernel⟩,
   ⟨st [(deltaLoc 4, 9), (deltaLoc 5, 7)], 2, 0x00020003, by decide +kernel⟩,
   ⟨st [(deltaLoc 14, 9)], 7, 9, by decide +kernel⟩,
   ⟨{ State.reset with tb := 60000000000 }, by decide +kernel⟩⟩

theorem test_witness_EventBeatsClear : ∃ (s : State) (page b : Nat) (v : Word), (s.takes page 0x10 v.toNat = true) ∧ (b < 32) :=
  ⟨st [(H_IRQ_RAW.loc 0x10, 3)], 0x10, 1, 2, by decide +kernel⟩

theorem test_witness_UnlockSequence :
    (∃ (s : State) (p : Nat) (v : Word), (pageUsed p = true) ∧ (s.clk.frozen = false) ∧ (s.pageOn p = true) ∧ (p ≠ nvmPage) ∧ (v.toNat =
      0x5A5A0000 + p) ∧ (s.flag H_LOCKSTAT_KEY1_SEEN p = false)) ∧
    (∃ (s : State) (p : Nat) (v : Word), (pageUsed p = true) ∧ (s.clk.frozen = false) ∧ (s.pageOn p = true) ∧ (p ≠ nvmPage) ∧ (v.toNat =
      0xA5A50000 + p) ∧ (s.flag H_LOCKSTAT_KEY1_SEEN p = true)) ∧
    (∃ (s : State) (p : Nat) (v : Word), (pageUsed p = true) ∧ (s.clk.frozen = false) ∧ (s.pageOn p = true) ∧ (p ≠ nvmPage) ∧ (v.toNat =
      0xA5A50000 + p) ∧ (s.flag H_LOCKSTAT_KEY1_SEEN p = false)) ∧
    (∃ (s : State) (p : Nat) (v : Word), (pageUsed p = true) ∧ (s.clk.frozen = false) ∧ (s.pageOn p = true) ∧ (p ≠ nvmPage) ∧ (v.toNat =
      0x5A5A0000 + p) ∧ (s.flag H_LOCKSTAT_KEY1_SEEN p = true)) ∧
    (∃ (s : State) (p : Nat) (v : Word), (pageUsed p = true) ∧ (s.clk.frozen = false) ∧ (s.pageOn p = true) ∧ (p ≠ nvmPage) ∧ (v.toNat ≠
      0x5A5A0000 + p) ∧ (v.toNat ≠ 0xA5A50000 + p) ∧ (s.flag H_LOCKSTAT_KEY1_SEEN p = true)) ∧
    (∃ (s : State) (p : Nat) (v : Word), (pageUsed p = true) ∧ (s.clk.frozen = false) ∧ (s.pageOn p = true) ∧ (p ≠ nvmPage) ∧ (v.toNat ≠
      0x5A5A0000 + p) ∧ (v.toNat ≠ 0xA5A50000 + p) ∧ (s.flag H_LOCKSTAT_KEY1_SEEN p = false)) ∧
    (∃ (s : State) (p off : Nat) (v : Word), (pageUsed p = true) ∧ (s.clk.frozen = false) ∧ (s.pageOn p = true) ∧ (p ≠ nvmPage) ∧ (p ≠ ahdPage)
      ∧ (p ≠ nmkPage) ∧ (off ≠ 0x20) ∧ (off < 0x40 ∨ s.flag H_STAT_HELD p = false) ∧ (s.flag H_LOCKSTAT_KEY1_SEEN p = true) ∧ (s.flag
      H_LOCKSTAT_UNLOCKED p = false) ∧ (lockBroken s p off v.toNat = true)) :=
  ⟨⟨st [(H_LOCKSTAT_KEY1_SEEN.loc 0x10, 0)], 0x10, 0x5A5A0010, by decide +kernel⟩,
   ⟨st [(H_LOCKSTAT_KEY1_SEEN.loc 0x10, 1)], 0x10, 0xA5A50010, by decide +kernel⟩,
   ⟨st [(H_LOCKSTAT_KEY1_SEEN.loc 0x10, 0)], 0x10, 0xA5A50010, by decide +kernel⟩,
   ⟨st [(H_LOCKSTAT_KEY1_SEEN.loc 0x10, 1)], 0x10, 0x5A5A0010, by decide +kernel⟩,
   ⟨st [(H_LOCKSTAT_KEY1_SEEN.loc 0x10, 1)], 0x10, 7, by decide +kernel⟩,
   ⟨st [(H_LOCKSTAT_KEY1_SEEN.loc 0x10, 0)], 0x10, 7, by decide +kernel⟩,
   ⟨st [(H_LOCKSTAT_KEY1_SEEN.loc 0x10, 1)], 0x10, 0x40, 0xFFFFFFFF, by decide +kernel⟩⟩

theorem test_witness_RegisterFile :
    (∃ (r : Nat), (r < 8)) ∧
    (∃ (k : Core) (i : Nat), (k.base < 248) ∧ (i < 8)) ∧
    (∃ (k : Core), (k.base < 248)) ∧
    (∃ (b d i j : Nat), (b < 248) ∧ (0 < d) ∧ (d < 15) ∧ (8 ≤ i) ∧ (i < 24) ∧ (8 ≤ j) ∧ (j < 24)) ∧
    (∃ (k : Core) (d : Dest) (r : Nat), (k.dest r = some d)) ∧
    (∃ (k : Core) (d : Dest) (r q : Nat), (k.dest r = some d) ∧ (q < 32) ∧ (r < 32) ∧ (q ≠ r) ∧ (k.base < 248)) :=
  ⟨⟨3, by decide +kernel⟩,
   ⟨{}, 3, by decide +kernel⟩,
   ⟨{ base := 240 }, by decide +kernel⟩,
   ⟨16, 14, 23, 8, by decide +kernel⟩,
   ⟨{}, .glob 3, 3, by decide +kernel⟩,
   ⟨{}, .glob 3, 3, 9, by decide +kernel⟩⟩

theorem test_witness_ResultDistances :
    (∃ (k : Core) (n r : Nat), (k.pend = []) ∧ (0 < r) ∧ (r < 32) ∧ (1 ≤ n) ∧ (k.base < 248)) ∧
    (∃ (k : Core) (r : Nat), (k.pend = []) ∧ (0 < r) ∧ (r < 32) ∧ (k.base < 248)) ∧
    (∃ (k : Core) (n : Nat), (∀ p ∈ k.pend, p.left ≤ n)) :=
  ⟨⟨{}, 3, 9, by decide +kernel⟩,
   ⟨{}, 11, by decide +kernel⟩,
   ⟨{ pend := [{ left := 3, dest := .glob 1, val := 2 }] }, 3, by decide +kernel⟩⟩

theorem test_witness_CoreStartState :
    (∃ (c entry : Nat), (c < 12) ∧ (entry < 65536) ∧ (4 ∣ entry)) ∧
    (∃ (s : State) (c k n entry : Nat) (x : Component), (s.boot.active = some k) ∧ (s.boot.start.contains c = true) ∧ (c ≠ 0) ∧ (s.boot.due =
      false) ∧ (s.clocksRun = true) ∧ (targetDomain c = some n) ∧ (s.domOn n = true) ∧ (s.domOn 6 = true) ∧ (s.coreComp k c = some x) ∧
      (s.compBlocksOk k x = true) ∧ (x.entry = entry) ∧ (entry < 65536) ∧ (4 ∣ entry)) :=
  ⟨⟨3, 64, by decide +kernel⟩,
   ⟨{ bootSt with boot := { due := false, active := some 0, start := [3] }, cnvm := mputBytes [] 0xFF 0x20 ([3] ++ List.replicate 15 0 ++ [64] ++ List.replicate 79 0) }, 3, 0, 1, 64, ⟨3, 0, 0, 0, 64, 0⟩, by decide +kernel⟩⟩

theorem test_witness_DSpaceReadAfterWrite :
    (∃ (a n : Nat), (a + n ≤ 0x8000 ∨ 0x10000000 ≤ a ∧ a + n ≤ 0x10200000 ∨ 0x20000000 ≤ a ∧ a + n ≤ 0x20004000)) ∧
    (∃ (a n i : Nat), (a + n ≤ 0x8000 ∨ 0x10000000 ≤ a ∧ a + n ≤ 0x10200000 ∨ 0x20000000 ≤ a ∧ a + n ≤ 0x20004000) ∧ (i < n)) ∧
    (∃ (a n b : Nat), (a + n ≤ 0x8000 ∨ 0x10000000 ≤ a ∧ a + n ≤ 0x10200000 ∨ 0x20000000 ≤ a ∧ a + n ≤ 0x20004000) ∧ (b < 0x8000 ∨ 0x10000000 ≤
      b) ∧ (b < a ∨ a + n ≤ b)) ∧
    (∃ (c d : Nat), (d ≠ c)) :=
  ⟨⟨0x7FFC, 4, by decide +kernel⟩,
   ⟨0x7FFC, 4, 3, by decide +kernel⟩,
   ⟨0x7FFC, 4, 0x10000000, by decide +kernel⟩,
   ⟨3, 4, by decide +kernel⟩⟩

theorem test_witness_CoreFrame :
    (∃ (s t : State) (i : Instr) (c d : Nat), (i.coreOf = some c) ∧ (exec i s = .next t) ∧ (d ≠ c)) ∧
    (∃ (s t : State) (i : Instr) (c : Nat), (i.coreOf = some c) ∧ (i.storesD = false) ∧ (exec i s = .next t)) ∧
    (∃ (s t : State) (c rs ra imm a b : Nat), (exec (.iStw c rs ra imm) s = .next t) ∧ (a = ((s.seen c).word ra + immWord imm).toNat) ∧ (b <
      0x8000 ∨ 0x10000000 ≤ b) ∧ (b < a ∨ a + 4 ≤ b)) ∧
    (∃ (s t : State) (c rs ra imm a b : Nat), (exec (.iSth c rs ra imm) s = .next t) ∧ (a = ((s.seen c).word ra + immWord imm).toNat) ∧ (b <
      0x8000 ∨ 0x10000000 ≤ b) ∧ (b < a ∨ a + 2 ≤ b)) ∧
    (∃ (s t : State) (c rs ra imm a b : Nat), (exec (.iStb c rs ra imm) s = .next t) ∧ (a = ((s.seen c).word ra + immWord imm).toNat) ∧ (b <
      0x8000 ∨ 0x10000000 ≤ b) ∧ (b < a ∨ a + 1 ≤ b)) :=
  ⟨⟨coreSt { run := true }, coreAlu (coreSt { run := true }) 0 1 0 fun k => add32 (k.reg 1) (k.reg 2), .iAdd 0 0 1 2, 0, 3, ⟨rfl, rfl, by decide⟩⟩,
   ⟨coreSt { run := true }, coreAlu (coreSt { run := true }) 0 1 0 fun k => add32 (k.reg 1) (k.reg 2), .iAdd 0 0 1 2, 0, ⟨rfl, rfl, rfl⟩⟩,
   ⟨coreSt { run := true }, coreStore (coreSt { run := true }) 0 0 0 (sx16 0) 4 none, 0, 0, 0, 0, 0, 64, ⟨rfl, by decide, by decide, by decide⟩⟩,
   ⟨coreSt { run := true }, coreStore (coreSt { run := true }) 0 0 0 (sx16 0) 2 none, 0, 0, 0, 0, 0, 64, ⟨rfl, by decide, by decide, by decide⟩⟩,
   ⟨coreSt { run := true }, coreStore (coreSt { run := true }) 0 0 0 (sx16 0) 1 none, 0, 0, 0, 0, 0, 64, ⟨rfl, by decide, by decide, by decide⟩⟩⟩

theorem test_witness_ChurnCounterValue :
    (∃ (s : State) (p i : Nat), (i < 16) ∧ (s.cntOk p i = true)) ∧
    (∃ (s : State) (p : Nat), (∀ i < 16, s.cntOk p i = false)) ∧
    (∃ (r : RecCmd), (r.k < 4)) :=
  ⟨⟨{ State.reset with eeprom := mputBytes [] 0xFF (64 * 5) ([0, 0, 0, 0] : List Byte) }, 5, 0, by decide +kernel⟩,
   ⟨State.reset, 5, by decide +kernel⟩,
   ⟨⟨0, 3, 0, 5, 0, 0, 0, [], 0⟩, by decide +kernel⟩⟩

theorem test_witness_ProtectedWrite : ∃ (s : State) (m : Master) (p off len : Nat), (p < 2048) ∧ (off < 64) ∧ (len < 128) ∧ (s.takes nvmPage 0x48 (p + off * 2 ^ 16 + len * 2 ^
      24) = true) ∧ (s.wbufMine m = true) ∧ (s.accepts nvmPage = true) ∧ (s.wcmdBlocked p m.code = true) :=
  ⟨st [(H_CTRL_EN.loc nvmPage, 1)], .host, 1290, 2, 4, by decide +kernel⟩

theorem test_witness_BrokenFrame : ∃ (s : State) (a : Word) (l : List Word) (n : Nat), (s.clk.frozen = false) ∧ (s.domOn 5 = true) ∧ (s.host.run = none) ∧ (s.accepts hostPage
      = true) ∧ (n ≠ 0 ∨ l.length + 1 < (if a.toNat / 2 ^ 28 = 2 ∨ a.toNat / 2 ^ 28 = 4 then 3 + (if a.toNat / 4096 % 256 = 0 then 256 else
      a.toNat / 4096 % 256) else 3)) :=
  ⟨st [(H_CTRL_EN.loc hostPage, 1)], 0x20001000, [5], 0, by decide +kernel⟩

theorem test_witness_RingWindowGone :
    (∃ (s : State) (d t0 : Nat), (d < 7) ∧ ((s.sat d).seen = some t0) ∧ (bitOf (s.get RING_MAP  ringPage) d = true) ∧ (t0 + 3000000 ≤ s.tb) ∧
      (s.get RING_MAP ringPage < 2 ^ 7)) ∧
    (∃ (s : State) (m : Master) (d : Nat), (s.isMaster = true) ∧ (bitOf (s.get RING_MAP ringPage) d = false) ∧ ((tget s.stall m.key {}).window ≠
      d + 1)) :=
  ⟨⟨({ st [(RING_MAP.loc ringPage, 3)] with tb := 9000000 } : State).upSat 1 fun x => { x with seen := some 0 }, 1, 0, by decide +kernel⟩,
   ⟨st [(RING_STAT_ROLE.loc ringPage, 1)], .hk, 3, by decide +kernel⟩⟩

theorem test_witness_CoreInvariantKept : ∃ (s t : State) (i : Instr) (q : List Instr) (c : Nat), (CoresOk s) ∧ (s.pending = i :: q) ∧ (i.coreOf = some c) ∧ (step s = .next t) :=
  ⟨{ coreSt { run := true } with pending := [.iAdd 0 1 2 3] }, coreAlu (coreSt { run := true }) 0 1 1 fun k => add32 (k.reg 2) (k.reg 3), .iAdd 0 1 2 3, [], 0, ⟨coresOk_run _, rfl, rfl, rfl⟩⟩

theorem test_witness_MemoriesKept : ∃ (s t : State) (i : Instr) (q : List Instr) (c : Nat), (MemoriesOk s) ∧ (s.pending = i :: q) ∧ (i.coreOf = some c) ∧ (step s = .next t) :=
  ⟨{ coreSt { run := true } with pending := [.iAdd 0 1 2 3] }, coreAlu (coreSt { run := true }) 0 1 1 fun k => add32 (k.reg 2) (k.reg 3), .iAdd 0 1 2 3, [], 0, ⟨memoriesOk_run _, rfl, rfl, rfl⟩⟩

end Sys2Proof.Tests
end

section
/-! PROOFS. A write to the IRQ_RAW register of a page's header (R73), and the part of the state that the routing of an interrupt (R74) cannot
reach: it powers domains up, so it writes the DOMAIN registers of PWR only, and these stand outside every page's header. -/

namespace Sys2Proof.Machine

/-! Masks of bits. -/

theorem andNot_div_two (v m : Nat) : andNot v m / 2 = andNot (v / 2) (m / 2) := by
  have hle : v &&& m ≤ v := Nat.and_le_left
  have hbit : (v &&& m) % 2 = 1 ↔ v % 2 = 1 ∧ m % 2 = 1 := Nat.and_mod_two_eq_one
  unfold andNot
  rw [← Nat.and_div_two]
  omega

theorem testBit_andNot (v m i : Nat) : (andNot v m).testBit i = (v.testBit i && !m.testBit i) := by
  induction i generalizing v m with
  | zero =>
    have hle : v &&& m ≤ v := Nat.and_le_left
    have hbit : (v &&& m) % 2 = 1 ↔ v % 2 = 1 ∧ m % 2 = 1 := Nat.and_mod_two_eq_one
    rw [Bool.eq_iff_iff]
    simp only [andNot, Nat.testBit_zero, Bool.and_eq_true, Bool.not_eq_true', decide_eq_true_eq, decide_eq_false_iff_not]
    omega
  | succ i ih => rw [Nat.testBit_succ, andNot_div_two, ih, ← Nat.testBit_succ, ← Nat.testBit_succ]

theorem testBit_mod_word {b : Nat} (v : Nat) (hb : b < 32) : (v % 2 ^ 32).testBit b = v.testBit b := by
  rw [Nat.testBit_mod_two_pow, decide_eq_true hb, Bool.true_and]

theorem and_ne_zero_iff_common_bit (v m : Nat) : v &&& m ≠ 0 ↔ ∃ b, v.testBit b = true ∧ m.testBit b = true := by
  constructor
  · intro h
    obtain ⟨b, hb⟩ := Nat.exists_testBit_of_ne_zero h
    exact ⟨b, by simpa using hb⟩
  · rintro ⟨b, hv, hm⟩ h
    have hb : (v &&& m).testBit b = true := by simp [hv, hm]
    simp [h] at hb

/-! Registers that the power-up of a domain does not write. -/

/-- A field of the DOMAIN registers of PWR (R90): they stand from offset 0x40 on, one word per domain. -/
def Fld.ofDomain (f : Fld) : Prop := f.off = 0x40 ∧ f.blk = ⟨0, 12, 4, 1, 0⟩ ∧ f.lo < 32

theorem keyOff_domain {f : Fld} (hf : f.ofDomain) {n : Nat} (hn : n < 12) : keyOff (f.loc 2 n).key = 0x40 + 4 * n := by
  obtain ⟨hoff, hblk, hlo⟩ := hf
  simp only [keyOff, Fld.loc, bitKey, Fld.pos, hoff, hblk]
  omega

section
variable {l : Loc} (hl : keyOff l.key < 0x40) {n : Nat} (hn : n < 12)
include hl hn

theorem rd_set_domain (s : State) {f : Fld} (hf : f.ofDomain) (v : Nat) : (s.set f 2 v n).rd l = s.rd l :=
  s.rd_wr_ne v fun e => by
    have h := keyOff_domain hf hn
    rw [← e] at h
    omega

theorem rd_putDom (s : State) (d : Dom) : (s.putDom n d).rd l = s.rd l :=
  rd_set_domain hl hn (s.setDom n d) (f := PWR_DOMAIN_STATE) ⟨rfl, rfl, by decide⟩ _

theorem rd_put_wakeDenied (s : State) (b : Bool) : (s.put PWR_DOMAIN_WAKE_DENIED 2 b n).rd l = s.rd l :=
  rd_set_domain hl hn s ⟨rfl, rfl, by decide⟩ _

theorem rd_markHw (s : State) : (s.markHw n).rd l = s.rd l :=
  (rd_set_domain hl hn (s.set PWR_DOMAIN_ORDER 2 0 n) (f := PWR_DOMAIN_HW_WOKEN) ⟨rfl, rfl, by decide⟩ _).trans
    (rd_set_domain hl hn s ⟨rfl, rfl, by decide⟩ 0)

theorem rd_startPowerUp (s : State) (rank : Nat) : (s.startPowerUp n rank).rd l = s.rd l := by
  rw [← rd_putDom hl hn s { s.getDom n with phase := .queued, reqTb := s.tb }]
  unfold State.startPowerUp
  dsimp only
  split <;> split <;> rfl

theorem rd_requestUp (s : State) (rank : Nat) : (s.requestUp n rank).rd l = s.rd l := by
  unfold State.requestUp
  dsimp only
  split
  case h_1 =>
    split
    · rfl
    · exact rd_startPowerUp hl hn s rank
  case h_2 => rfl
  case h_3 =>
    unfold State.raiseRank
    split
    · split <;> rfl
    · rfl
  case h_4 => rfl

theorem rd_hwUp_markHw (s : State) (rank : Nat) : (s.hwUp n rank State.markHw).rd l = s.rd l := by
  have h7 : 7 < 12 := by decide
  unfold State.hwUp
  dsimp only
  split
  · rfl
  · split
    · exact rd_put_wakeDenied hl hn s true
    · split
      · rw [rd_put_wakeDenied hl hn, rd_put_wakeDenied hl h7]
      · rw [rd_requestUp hl hn, rd_markHw hl hn]
        split
        · rw [rd_requestUp hl h7, rd_markHw hl h7]
        · rfl

theorem rd_hwPowerUp (s : State) : (s.hwPowerUp n).rd l = s.rd l :=
  rd_hwUp_markHw hl hn ((s.unpoll 7).unpoll n) 6

end

/-- So the domain that an interrupt wakes is one whose register PWR has (R74, R89). -/
theorem targetDomain_lt {t n : Nat} (h : targetDomain t = some n) : n < 12 := by
  grind [targetDomain]

theorem rd_irqForward (s : State) (p : Nat) (l : Loc) : (s.irqForward p).rd l = s.rd l := by
  unfold State.irqForward
  split <;> rfl

theorem rd_routeWake {l : Loc} (hl : keyOff l.key < 0x40) (s : State) (p : Nat) : (s.routeWake p).rd l = s.rd l := by
  unfold State.routeWake
  split
  · split
    case h_1 n hn => exact rd_hwPowerUp hl (targetDomain_lt hn) s
    case h_2 => rfl
  · rfl

/-- The routing of an interrupt that rises reaches no page header (R73, R74). -/
theorem rd_risen {l : Loc} (hl : keyOff l.key < 0x40) (s : State) (p : Nat) (t : State) : (s.risen p t).rd l = t.rd l := by
  unfold State.risen
  rw [rd_routeWake hl]
  split
  · exact rd_irqForward t p l
  · rfl

/-! IRQ_RAW of a page. -/

theorem keyOff_irqRaw (p : Nat) : keyOff (H_IRQ_RAW.loc p).key = 0x10 := by
  simp only [keyOff, Fld.loc, bitKey, Fld.pos, H_IRQ_RAW, Blk.one]
  omega

@[simp] theorem irqRaw_risen (s : State) (p : Nat) (t : State) (q : Nat) : (s.risen p t).get H_IRQ_RAW q = t.get H_IRQ_RAW q :=
  rd_risen (by rw [keyOff_irqRaw]; decide) s p t

theorem irqRaw_bit_set (s : State) (p x : Nat) {b : Nat} (hb : b < 32) :
    bitOf ((s.set H_IRQ_RAW p x).get H_IRQ_RAW p) b = x.testBit b := by
  rw [State.get_set_same]
  exact testBit_mod_word x hb

/-- IRQ_RAW is the only field at its offset in every page, so the write acts on it alone, as W1C (R4, R73). -/
theorem irqRaw_bit_headerEff (m : Master) (p v : Nat) {b : Nat} (s : State) (hb : b < 32) :
    bitOf ((headerEff m p 0x10 v s).get H_IRQ_RAW p) b = (bitOf (s.get H_IRQ_RAW p) b && !v.testBit b) := by
  have he : headerEff m p 0x10 v s = s.risen p (s.set H_IRQ_RAW p (andNot (s.get H_IRQ_RAW p) (v % 2 ^ 32))) := rfl
  rw [he, irqRaw_risen, irqRaw_bit_set s p _ hb, testBit_andNot, testBit_mod_word v hb]
  rfl

theorem irqRaw_bit_raiseMask (s : State) (p m : Nat) {b : Nat} (hb : b < 32) :
    bitOf ((s.raiseMask p m).get H_IRQ_RAW p) b = (bitOf (s.get H_IRQ_RAW p) b || m.testBit b) := by
  have hne : (H_IRQ_RAW.loc p).key ≠ (H_EVT_CNT_EVENTS.loc p).key := by
    simp only [Fld.loc, bitKey, Fld.pos, H_IRQ_RAW, H_EVT_CNT_EVENTS, Blk.one]
    omega
  unfold State.raiseMask
  rw [State.get_set_ne _ _ hne, irqRaw_bit_set s p _ hb, Nat.testBit_or]
  rfl

theorem irqActive_iff (s : State) (p : Nat) :
    s.irqActive p = true ↔ ∃ b, bitOf (s.get H_IRQ_RAW p) b = true ∧ bitOf (s.get H_IRQ_EN p) b = true :=
  bne_iff_ne.trans (and_ne_zero_iff_common_bit (s.get H_IRQ_RAW p) (s.get H_IRQ_EN p))

theorem execIrqRawClear_takes (s : State) (m : Master) (p : Nat) (v event : Word) (h : s.takes p 0x10 v.toNat = true) :
    execIrqRawClear m p v event s = .next (if event = 0 then headerEff m p 0x10 v.toNat (s.reached p)
      else (s.reached p).risen p ((headerEff m p 0x10 v.toNat (s.reached p)).raiseMask p event.toNat)) := by
  unfold execIrqRawClear
  rw [accessWrite_takes s m p 0x10 v.toNat _ h]

/-- Settles O46: the write clears its bits first, the event sets its own after it, and neither reaches another bit. -/
theorem eventBeatsClear : Obligations.EventBeatsClear := by
  unfold Obligations.EventBeatsClear
  refine ⟨irqActive_iff, fun s m page b v event ht hb => ?_⟩
  have hclear : bitOf ((headerEff m page 0x10 v.toNat (s.reached page)).get H_IRQ_RAW page) b =
      (bitOf (s.get H_IRQ_RAW page) b && !v.getLsbD b) := by
    rw [irqRaw_bit_headerEff m page v.toNat (s.reached page) hb, State.reached_get]
    rfl
  refine ⟨_, execIrqRawClear_takes s m page v event ht, ?_⟩
  split
  case isTrue h0 => simp [hclear, h0]
  case isFalse =>
    rw [irqRaw_risen, irqRaw_bit_raiseMask _ page _ hb, hclear, Bool.or_comm]
    rfl

end Sys2Proof.Machine
end

section
/-! PROOFS. A satellite device that is silent (R460): its MAP bit clears, and what its dropping out does besides (the routing of the
interrupt, R74, and the quench of the slots that name it, R333, R338) writes no field at MAP's bit address, so the other bits stay. -/

namespace Sys2Proof.Machine

/-! MAP in the register store. -/

/-- What a register store holds of RING.MAP. -/
def ringMapOf (r : Table Nat) : Nat := tget r (RING_MAP.loc ringPage).key 0

theorem get_ringMap (s : State) : s.get RING_MAP ringPage = ringMapOf s.reg := rfl

/-- A field that no page and no place in its block brings to the bit address of MAP (bit 1 of offset 0x48): it stands at another bit, or
it stands at bit 1 of a word whose offset in each block of 0x20 is not 8. -/
def Fld.missesMap (f : Fld) : Bool :=
  decide (f.lo < 32) && (f.lo != 1 || (f.blk.s1 % 32 == 0 && f.blk.s2 % 32 == 0 && (f.blk.base + f.off) % 32 != 8))

theorem key_ne_of_missesMap {f : Fld} (h : f.missesMap = true) (p i j : Nat) : (RING_MAP.loc ringPage).key ≠ (f.loc p i j).key := by
  intro e
  have hm : (RING_MAP.loc ringPage).key = (0x84 * 4096 + 0x48) * 32 + 1 := rfl
  have hk : (f.loc p i j).key = (p * 4096 + (f.blk.base + i * f.blk.s1 + j * f.blk.s2 + f.off)) * 32 + f.lo := rfl
  rw [hm, hk] at e
  simp only [Fld.missesMap, Bool.and_eq_true, Bool.or_eq_true, bne_iff_ne, beq_iff_eq, decide_eq_true_eq] at h
  obtain ⟨hlo, hbit | ⟨⟨h1, h2⟩, hoff⟩⟩ := h
  · omega
  · have hi : i * f.blk.s1 % 32 = 0 := by rw [Nat.mul_mod, h1, Nat.mul_zero, Nat.zero_mod]
    have hj : j * f.blk.s2 % 32 = 0 := by rw [Nat.mul_mod, h2, Nat.mul_zero, Nat.zero_mod]
    omega

section
variable {f : Fld} (hf : f.missesMap = true)
include hf

@[simp] theorem ringMapOf_set (s : State) (p v i j : Nat) : ringMapOf (s.set f p v i j).reg = ringMapOf s.reg :=
  s.rd_wr_ne (m := RING_MAP.loc ringPage) v (key_ne_of_missesMap hf p i j)

@[simp] theorem ringMapOf_put (s : State) (p : Nat) (b : Bool) (i j : Nat) : ringMapOf (s.put f p b i j).reg = ringMapOf s.reg :=
  ringMapOf_set hf s p _ i j

@[simp] theorem ringMapOf_bump (s : State) (p i j : Nat) : ringMapOf (s.bump f p i j).reg = ringMapOf s.reg :=
  ringMapOf_set hf s p _ i j

end

theorem ringMapOf_ite {c : Prop} [Decidable c] {s a b : State} (ha : ringMapOf a.reg = ringMapOf s.reg) (hb : ringMapOf b.reg = ringMapOf s.reg) :
    ringMapOf (if c then a else b).reg = ringMapOf s.reg := by
  split
  · exact ha
  · exact hb

theorem ringMapOf_foldl {α : Type} (f : State → α → State) (hf : ∀ s a, ringMapOf (f s a).reg = ringMapOf s.reg) (l : List α) (s : State) :
    ringMapOf (l.foldl f s).reg = ringMapOf s.reg :=
  List.foldlRecOn (motive := fun t => ringMapOf t.reg = ringMapOf s.reg) l f rfl fun t ht a _ => (hf t a).trans ht

theorem ringMapOf_each (f : State → Nat → State) (hf : ∀ s n, ringMapOf (f s n).reg = ringMapOf s.reg) (l : List Nat) (s : State) :
    ringMapOf (s.each l f).reg = ringMapOf s.reg :=
  ringMapOf_foldl f hf l s

/-! The power-up of a domain (R95, R96), and what an event of a page does (R73, R74). -/

@[simp] theorem ringMapOf_putDom (s : State) (n : Nat) (d : Dom) : ringMapOf (s.putDom n d).reg = ringMapOf s.reg :=
  ringMapOf_set (by decide) (s.setDom n d) 2 _ n 0

@[simp] theorem ringMapOf_startPowerUp (s : State) (n rank : Nat) : ringMapOf (s.startPowerUp n rank).reg = ringMapOf s.reg := by
  rw [← ringMapOf_putDom s n { s.getDom n with phase := .queued, reqTb := s.tb }]
  unfold State.startPowerUp
  dsimp only
  split <;> split <;> rfl

@[simp] theorem ringMapOf_raiseRank (s : State) (n rank : Nat) : ringMapOf (s.raiseRank n rank).reg = ringMapOf s.reg := by
  unfold State.raiseRank
  split
  · split <;> rfl
  · rfl

@[simp] theorem ringMapOf_requestUp (s : State) (n rank : Nat) : ringMapOf (s.requestUp n rank).reg = ringMapOf s.reg := by
  unfold State.requestUp
  dsimp only
  split
  · split <;> simp
  all_goals simp

@[simp] theorem ringMapOf_markHw (s : State) (n : Nat) : ringMapOf (s.markHw n).reg = ringMapOf s.reg := by
  simp (disch := decide) [State.markHw]

@[simp] theorem ringMapOf_hwPowerUpAt (s : State) (n rank : Nat) : ringMapOf (s.hwPowerUpAt n rank).reg = ringMapOf s.reg := by
  unfold State.hwPowerUpAt State.hwUp State.unpoll
  dsimp only
  split
  · simp
  · split
    · simp (disch := decide)
    · split
      · simp (disch := decide)
      · split <;> simp

@[simp] theorem ringMapOf_irq (s : State) (p b : Nat) : ringMapOf (s.irq p b).reg = ringMapOf s.reg := by
  have hraise : ringMapOf (s.raise p b).reg = ringMapOf s.reg := by simp (disch := decide) [State.raise, State.raiseMask]
  have hforward : ringMapOf ((s.raise p b).irqForward p).reg = ringMapOf (s.raise p b).reg := rd_irqForward _ p (RING_MAP.loc ringPage)
  have hwake (t : State) : ringMapOf (t.routeWake p).reg = ringMapOf t.reg := by
    unfold State.routeWake
    split
    · split
      · exact ringMapOf_hwPowerUpAt t _ 6
      · rfl
    · rfl
  unfold State.irq State.risen
  rw [hwake]
  split
  · exact hforward.trans hraise
  · exact hraise

@[simp] theorem ringMapOf_logDev (s : State) (p : Nat) : ringMapOf (s.logDev p).reg = ringMapOf s.reg := by
  have hwr (v : Nat) : ringMapOf (s.wr (deltaLoc (1440 + p)) v).reg = ringMapOf s.reg := by
    unfold deltaLoc
    split
    · exact ringMapOf_set (f := LOG_DELTA_E) (by decide) s logPage v _ 0
    · exact ringMapOf_set (f := LOG_DELTA_O) (by decide) s logPage v _ 0
  unfold State.logDev State.logCount
  dsimp only
  split
  · exact hwr _
  · split <;> simp (disch := decide) [hwr]

/-! What the end of a preparation undoes (R333): the valve, the charge pump, SPEC, the exchange of the immobiliser, the staged frame. -/

@[simp] theorem ringMapOf_queueStart (s : State) (e : GateEntry) : ringMapOf (s.queueStart e).reg = ringMapOf s.reg := by
  unfold State.queueStart State.wantPsv State.enqueue
  split <;> simp

@[simp] theorem ringMapOf_rawV (s : State) (n st : Nat) : ringMapOf (s.rawV n st).reg = ringMapOf s.reg := by
  unfold State.rawV vEnter
  dsimp only
  split
  · rfl
  · split <;> split <;> simp (disch := decide)

@[simp] theorem ringMapOf_showBank (s : State) (k : Nat) : ringMapOf (s.showBank k).reg = ringMapOf s.reg := by
  simp (disch := decide) [State.showBank]

@[simp] theorem ringMapOf_recordShed (s : State) (u : Req) : ringMapOf (s.recordShed u).reg = ringMapOf s.reg := by
  simp (disch := decide) [State.recordShed]

@[simp] theorem ringMapOf_takeToken (s : State) (n : Nat) : ringMapOf (s.takeToken n).reg = ringMapOf s.reg := by
  unfold State.takeToken
  split <;> simp

@[simp] theorem ringMapOf_releaseToken (s : State) (n : Nat) : ringMapOf (s.releaseToken n).reg = ringMapOf s.reg := by
  unfold State.releaseToken
  dsimp only
  split
  · split <;> simp
  · simp

@[simp] theorem ringMapOf_bankCheck (s : State) (k : Nat) : ringMapOf (s.bankCheck k).reg = ringMapOf s.reg := by
  unfold State.bankCheck
  dsimp only
  split <;> simp (disch := decide)

@[simp] theorem ringMapOf_withdraw (s : State) (r : Req) : ringMapOf (s.withdraw r).reg = ringMapOf s.reg := rfl

@[simp] theorem ringMapOf_setV (s : State) (n st : Nat) : ringMapOf (s.setV n st).reg = ringMapOf s.reg := by
  unfold State.setV
  split <;> simp

@[simp] theorem ringMapOf_pumpCheck (s : State) (k : Nat) : ringMapOf (pumpCheck s k).reg = ringMapOf s.reg := by
  unfold pumpCheck
  dsimp only
  split
  · simp
  · split
    · exact ringMapOf_each _ (fun s g => ringMapOf_put (f := GD_CHSTAT_CP_OK) (by decide) s _ _ _ _) _ _
    · rfl

@[simp] theorem ringMapOf_specShow (s : State) (t : Nat) : ringMapOf (specShow s t).reg = ringMapOf s.reg := by
  refine ringMapOf_ite ?channel (ringMapOf_ite rfl (ringMapOf_ite ?bridge (ringMapOf_ite ?driver (ringMapOf_ite ?valve rfl))))
  all_goals simp (disch := decide)

@[simp] theorem ringMapOf_specAll (s : State) (l : List Nat) : ringMapOf (specAll s l).reg = ringMapOf s.reg :=
  ringMapOf_each specShow ringMapOf_specShow l s

@[simp] theorem ringMapOf_immoAbort (s : State) (cause : Nat) : ringMapOf (immoAbort s cause).reg = ringMapOf s.reg := by
  unfold immoAbort immoEnd State.upImmo
  split <;> simp (disch := decide)

@[simp] theorem ringMapOf_immoDrop (s : State) (slot : Nat) : ringMapOf (immoDrop s slot).reg = ringMapOf s.reg := by
  unfold immoDrop State.upImmo
  dsimp only
  split
  · split <;> simp
  · rfl

@[simp] theorem ringMapOf_canUnstage (s : State) (c b : Nat) : ringMapOf (canUnstage s c b).reg = ringMapOf s.reg :=
  ringMapOf_set (by decide) s _ _ 0 0

@[simp] theorem ringMapOf_dropReserve (s : State) (slot : Nat) : ringMapOf (s.dropReserve slot).reg = ringMapOf s.reg := rfl

/-- What a preparation held lapses by its kind, and SPEC follows. -/
theorem ringMapOf_prepUndo (s : State) (p : Prep) : ringMapOf (prepUndo s p).reg = ringMapOf s.reg := by
  refine ringMapOf_ite ?output (ringMapOf_ite ?search (ringMapOf_ite ?frame (ringMapOf_ite ?reserve rfl)))
  case output =>
    rw [ringMapOf_specShow]
    exact ringMapOf_ite rfl (ringMapOf_ite (ringMapOf_ite (ringMapOf_pumpCheck _ _) rfl)
      (ringMapOf_ite rfl (ringMapOf_ite rfl (ringMapOf_ite (ringMapOf_setV _ _ _) rfl))))
  case search => exact ringMapOf_ite (ringMapOf_immoDrop _ _) rfl
  case frame => exact ringMapOf_ite (ringMapOf_canUnstage _ _ _) rfl
  case reserve => exact ringMapOf_specAll _ _

/-! A quench (R332 to R334). -/

theorem ringMapOf_setSlotBit {lo hi : Fld} (hlo : lo.missesMap = true) (hhi : hi.missesMap = true) (s : State) (i : Nat) :
    ringMapOf (setSlotBit s lo hi i).reg = ringMapOf s.reg := by
  unfold setSlotBit
  split <;> simp [hlo, hhi]

@[simp] theorem ringMapOf_slotIdle (s : State) (i : Nat) : ringMapOf (slotIdle s i).reg = ringMapOf s.reg := by
  simp (disch := decide) [slotIdle]

@[simp] theorem ringMapOf_beginEntry (s : State) (n o : Nat) : ringMapOf (s.beginEntry n o).reg = ringMapOf s.reg :=
  ringMapOf_ite rfl (ringMapOf_putDom s n _)

theorem ringMapOf_takeOrder (s : State) (n o : Nat) (halted : Bool) : ringMapOf (s.takeOrder n o halted).reg = ringMapOf s.reg := by
  have horder (d : Dom) : ringMapOf ((s.set PWR_DOMAIN_ORDER pwrPage o n).putDom n d).reg = ringMapOf s.reg := by simp (disch := decide)
  unfold State.takeOrder
  refine ringMapOf_ite (horder _) (ringMapOf_ite (ringMapOf_ite (horder _) ?_) (ringMapOf_ite (horder _) ?_))
  · rw [ringMapOf_requestUp]
    exact ringMapOf_ite ((ringMapOf_hwPowerUpAt _ 7 6).trans (horder _)) (horder _)
  · rw [ringMapOf_beginEntry, horder]

@[simp] theorem ringMapOf_applyOrder (s : State) (n o : Nat) (halted : Bool) : ringMapOf (s.applyOrder n o halted).reg = ringMapOf s.reg := by
  unfold State.applyOrder
  split
  · rw [ringMapOf_irq, ringMapOf_put (by decide)]
  · exact ringMapOf_takeOrder s n o halted

@[simp] theorem ringMapOf_restoreDomains (s : State) (i : Nat) : ringMapOf (restoreDomains s i).reg = ringMapOf s.reg := by
  unfold restoreDomains
  dsimp only
  split
  · exact ringMapOf_foldl _ (fun s (w : Woken) => ringMapOf_applyOrder s w.dom w.prior false) _ _
  · rfl

/-- A quench writes fields of the outputs, the slots, the report and PWR, and none of them is MAP. -/
theorem ringMapOf_quench (s : State) (i code : Nat) : ringMapOf (quench s i code).reg = ringMapOf s.reg := by
  unfold quench
  dsimp only
  split
  · rfl
  · rw [ringMapOf_restoreDomains, ringMapOf_slotIdle, ringMapOf_irq, ringMapOf_setSlotBit (by decide) (by decide), ringMapOf_bump (by decide),
      ringMapOf_set (by decide), ringMapOf_set (by decide), ringMapOf_foldl prepUndo ringMapOf_prepUndo]

/-! A satellite device drops out (R338, R460). -/

theorem and_two_pow_eq_ite (v d : Nat) : v &&& 2 ^ d = if v.testBit d = true then 2 ^ d else 0 := by
  refine Nat.eq_of_testBit_eq fun i => ?_
  rw [Nat.testBit_and, Nat.testBit_two_pow]
  by_cases hi : d = i
  · subst hi
    split <;> simp [*]
  · split <;> simp [hi]

theorem clrBit_eq_andNot (v d : Nat) : clrBit v d = andNot v (2 ^ d) := by
  unfold clrBit andNot
  rw [and_two_pow_eq_ite]
  split <;> rfl

theorem testBit_clrBit (v d b : Nat) : (clrBit v d).testBit b = (v.testBit b && b != d) := by
  rw [clrBit_eq_andNot, testBit_andNot, Nat.testBit_two_pow]
  by_cases hb : b = d
  · simp [hb]
  · simp [hb, Ne.symm hb]

theorem clrBit_le (v d : Nat) : clrBit v d ≤ v := by
  unfold clrBit
  split
  · exact Nat.sub_le ..
  · exact Nat.le_refl v

/-- MAP has 7 bits (R460), so the bit is all that changes of a value it can hold. -/
theorem get_ringMap_clear (s : State) (d : Nat) (hd : bitOf (s.get RING_MAP ringPage) d = true) (hw : s.get RING_MAP ringPage < 2 ^ 7) :
    (ringMap s d false).get RING_MAP ringPage = clrBit (s.get RING_MAP ringPage) d := by
  have hclr : clrBit (s.get RING_MAP ringPage) d < 2 ^ 7 := Nat.lt_of_le_of_lt (clrBit_le _ d) hw
  unfold ringMap
  rw [if_neg (by simp [hd]), get_ringMap, ringMapOf_irq, ← get_ringMap]
  exact (State.get_set_same ..).trans (Nat.mod_eq_of_lt hclr)

theorem get_ringMap_satGone (s : State) (d : Nat) (hd : bitOf (s.get RING_MAP ringPage) d = true) (hw : s.get RING_MAP ringPage < 2 ^ 7) :
    (satGone s d).get RING_MAP ringPage = clrBit (s.get RING_MAP ringPage) d := by
  have hquench (s : State) (i : Nat) : ringMapOf (if bitOf (s.span i) d then quench s i 4 else s).reg = ringMapOf s.reg := by
    split
    · exact ringMapOf_quench s i 4
    · rfl
  exact (ringMapOf_each _ hquench _ _).trans (get_ringMap_clear (satBack s d) d hd hw)

theorem exec_ringStatusTimeout_silent {s : State} {d t0 : Nat} (hseen : (s.sat d).seen = some t0)
    (hd : bitOf (s.get RING_MAP ringPage) d = true) (ht : t0 + 3000000 ≤ s.tb) : exec (.ringStatusTimeout d) s = .next (satGone s d) := by
  simp [execRingStatusTimeout, hseen, hd, ht]

/-! An access through a window whose device has no MAP bit (R78, R460). -/

theorem windowAccess_unmapped {s : State} {d : Nat} (hd : bitOf (s.get RING_MAP ringPage) d = false) (m : Master) (p off : Nat) (w : Option Nat)
    (kind ans : Nat) : windowAccess s m d p off w kind ans = s.answer .unmapped := by
  simp [windowAccess, hd]

/-- An access that does not wait at this window takes no answer from it: it is an access of its own. -/
theorem windowAnswer_of_not_waiting {s : State} {m : Master} {d : Nat} (h : (tget s.stall m.key {}).window ≠ d + 1) (p off : Nat)
    (w : Option Nat) (kind ans : Nat) : windowAnswer s m d p off w kind ans = windowAccess s m d p off w kind ans := by
  simp [windowAnswer, h]

/-- Settles O56: the drop-out clears the bit, no other part of it writes MAP, and a window whose bit is clear answers nothing else. -/
theorem ringWindowGone : Obligations.RingWindowGone := by
  unfold Obligations.RingWindowGone
  refine ⟨fun s d t0 b _ hseen hd ht hw => ?_, fun s m d p off kind w ans _ hd hwin => ?_⟩
  · have hmap : (satGone s d).get RING_MAP ringPage = clrBit (s.get RING_MAP ringPage) d := get_ringMap_satGone s d hd hw
    exact ⟨_, exec_ringStatusTimeout_silent hseen hd ht, by simp only [hmap, bitOf, testBit_clrBit]⟩
  · rw [exec_satelliteWindowAccess, execSatelliteWindowAccess, windowAnswer_of_not_waiting hwin, windowAccess_unmapped hd]

end Sys2Proof.Machine
end

section
/-! PROOFS. The register file of a Sirham core (R479): which physical register a register code names in the frame at a base, what a window
slide makes of the names (R480), and that a result lands in the register that its code reads and in no other. -/

namespace Sys2Proof.Machine

/-! The ring of 248 windowed registers. -/

theorem winIdx_lt (b w : Nat) : winIdx b w < 248 := Nat.mod_lt _ (by decide)

/-- Sliding the base by `n` registers renames a register by `n`. -/
theorem winIdx_slide (b n w : Nat) : winIdx ((b + n) % 248) w = winIdx b (n + w) := by
  rw [winIdx, winIdx, Nat.mod_add_mod, Nat.add_assoc]

/-- Seen from one base, 248 successive names are 248 registers. -/
theorem winIdx_inj {b v w : Nat} (hv : v < 248) (hw : w < 248) (h : winIdx b v = winIdx b w) : v = w := by
  unfold winIdx at h
  omega

/-- Of two frames up to 14 calls apart, w8 to w23 of the first lie below w8 of the second, and all of them within one turn of the ring. -/
theorem winIdx_ne_of_frames {d i j : Nat} (b : Nat) (hd : 0 < d) (hd' : d < 15) (hi : i < 24) (hj : 8 ≤ j) (hj' : j < 24) :
    winIdx b i ≠ winIdx ((b + 16 * d) % 248) j := by
  rw [winIdx_slide]
  intro h
  have hij : i = 16 * d + j := winIdx_inj (by omega) (by omega) h
  omega

/-! What a register code names. -/

@[simp] theorem Core.reg_zero (k : Core) : k.reg 0 = 0 := rfl

@[simp] theorem Core.result_zero (k : Core) (n v : Nat) : k.result n 0 v = k := rfl

theorem Core.reg_of_global (k : Core) {r : Nat} (h0 : r ≠ 0) (h : r < 8) : k.reg r = tget k.glob r 0 := by
  rw [Core.reg, if_neg h0, if_pos h]

theorem Core.reg_of_windowed (k : Core) {r : Nat} (h : 8 ≤ r) : k.reg r = tget k.win (winIdx k.base (r - 8)) 0 := by
  rw [Core.reg, if_neg (by omega), if_neg (by omega)]

theorem Core.reg_global_congr {k k' : Core} {r : Nat} (hg : k'.glob = k.glob) (h : r < 8) : k'.reg r = k.reg r := by
  by_cases h0 : r = 0
  · subst h0
    rfl
  · rw [reg_of_global _ h0 h, reg_of_global _ h0 h, hg]

theorem Core.reg_windowed_congr {k k' : Core} {q r : Nat} (hw : k'.win = k.win) (hq : 8 ≤ q) (hr : 8 ≤ r)
    (hi : winIdx k'.base (q - 8) = winIdx k.base (r - 8)) : k'.reg q = k.reg r := by
  rw [reg_of_windowed _ hq, reg_of_windowed _ hr, hw, hi]

/-- The two kinds of register that a result can land in. -/
theorem Core.dest_cases {k : Core} {r : Nat} {d : Dest} (h : k.dest r = some d) :
    (r ≠ 0 ∧ r < 8 ∧ d = .glob r) ∨ (8 ≤ r ∧ d = .win (winIdx k.base (r - 8))) := by
  unfold Core.dest at h
  split at h
  case isTrue => cases h
  case isFalse h0 =>
    split at h
    case isTrue h8 => exact .inl ⟨h0, h8, (Option.some.inj h).symm⟩
    case isFalse h8 => exact .inr ⟨by omega, (Option.some.inj h).symm⟩

/-! Landing. -/

theorem Core.reg_land_same {k : Core} {d : Dest} {r : Nat} (v : Nat) (h : k.dest r = some d) : (k.land d v).reg r = v := by
  obtain ⟨h0, h8, rfl⟩ | ⟨h8, rfl⟩ := dest_cases h
  · exact (reg_of_global _ h0 h8).trans (tget_tput_same ..)
  · exact (reg_of_windowed _ h8).trans (tget_tput_same ..)

theorem Core.reg_land_ne {k : Core} {d : Dest} {q r : Nat} (v : Nat) (h : k.dest r = some d) (hq : q < 32) (hr : r < 32) (hne : q ≠ r) :
    (k.land d v).reg q = k.reg q := by
  by_cases hq8 : q < 8
  · obtain ⟨_, _, rfl⟩ | ⟨_, rfl⟩ := dest_cases h
    · by_cases h0 : q = 0
      · subst h0
        rfl
      · rw [reg_of_global _ h0 hq8, reg_of_global _ h0 hq8]
        exact tget_tput_ne _ _ _ _ hne
    · exact reg_global_congr rfl hq8
  · have hq8' : 8 ≤ q := Nat.le_of_not_lt hq8
    obtain ⟨_, _, rfl⟩ | ⟨hr8, rfl⟩ := dest_cases h
    · exact reg_windowed_congr rfl hq8' hq8' rfl
    · have hidx : winIdx k.base (q - 8) ≠ winIdx k.base (r - 8) := fun e => by
        have := winIdx_inj (by omega) (by omega) e
        omega
      rw [reg_of_windowed _ hq8', reg_of_windowed _ hq8']
      exact tget_tput_ne _ _ _ _ hidx

/-- Settles O48: every name is a place on the ring of 248 registers counted from the frame's base, so a call shifts the names by 16 and a
result reaches the one place that its code names. -/
theorem registerFile : Obligations.RegisterFile := by
  unfold Obligations.RegisterFile
  refine ⟨fun k n v => ⟨k.reg_zero, k.result_zero n v⟩, fun k r hr => ⟨Core.reg_global_congr rfl hr, Core.reg_global_congr rfl hr⟩,
    fun k i _ _ => ?_, fun k hk => ?_, fun b d i j _ hd hd' _ hi hj hj' => ⟨winIdx_lt b i, winIdx_ne_of_frames b hd hd' hi hj hj'⟩,
    fun k d r v h => Core.reg_land_same v h, fun k d r q v h hq hr hne _ => Core.reg_land_ne v h hq hr hne⟩
  · have hidx : winIdx k.slideIn.base i = winIdx k.base (16 + i) := winIdx_slide k.base 16 i
    refine ⟨hidx, Core.reg_windowed_congr rfl (by omega) (by omega) ?_⟩
    rw [Nat.add_sub_cancel_left, hidx]
    congr 1
    omega
  · change ((k.base + 16) % 248 + 232) % 248 = k.base
    omega

end Sys2Proof.Machine
end

section
/-! PROOFS. The start of a Sirham core (R483): the core's state that a start leaves, its EN_LO and EN_HI, which no other write of a start
reaches, and that CORE_RELOAD on a component whose blocks pass is such a start (R10, R544). -/

namespace Sys2Proof.Machine

/-! What a start writes. -/

@[simp] theorem cr_setCr_same (s : State) (c : Nat) (k : Core) : (s.setCr c k).cr c = k := tget_tput_same ..

theorem rd_setCr (s : State) (c : Nat) (k : Core) {l : Loc} (h : l.key ≠ (IRQ_CORESTAT_HALTED.loc irqPage).key) :
    (s.setCr c k).rd l = s.rd l :=
  State.rd_wr_ne _ _ h

@[simp] theorem cr_nvCoreStart (s : State) (c d : Nat) : (nvCoreStart s c).cr d = s.cr d := by
  unfold nvCoreStart
  dsimp only
  split <;> rfl

theorem rd_nvCoreStart (s : State) (c : Nat) {l : Loc} (h : l.key ≠ (NVM_WSTAT_WOWNER.loc nvmPage).key) : (nvCoreStart s c).rd l = s.rd l := by
  unfold nvCoreStart
  dsimp only
  split
  · exact State.rd_wr_ne s 15 h
  · rfl

/-! The core. -/

theorem align4_of_dvd {a : Nat} (h : 4 ∣ a) : align4 a = a := Nat.div_mul_cancel h

theorem cr_startAt (s : State) (c : Nat) {entry : Nat} (he : entry < 65536) (h4 : 4 ∣ entry) :
    (startAt s c entry).cr c = { run := true, pc := entry } := by
  unfold startAt coreStart
  rw [cr_nvCoreStart, cr_setCr_same, Nat.mod_eq_of_lt he, align4_of_dvd h4]

theorem Core.reg_of_start (pc r : Nat) : ({ run := true, pc := pc } : Core).reg r = 0 := by
  unfold Core.reg
  split
  · rfl
  · split <;> rfl

/-- The reset values of R482. -/
theorem Core.ctl_of_start (pc c i : Nat) :
    ({ run := true, pc := pc } : Core).ctl c i = if i = 6 then 1 else if i = 0x18 then c else 0 := by
  unfold Core.ctl
  split <;> simp_all [tget, b2n]

/-! The enables of the core's lines. -/

/-- The bit addresses of the enables: page IRQ from offset 0x100 on, where a start writes nothing else. -/
def Loc.inEnables (l : Loc) : Prop := keyPage l.key = irqPage ∧ 0x100 ≤ keyOff l.key

theorem inEnables_enLo {c : Nat} (hc : c < 12) : (IRQ_EN_LO.loc irqPage c).inEnables := by
  simp only [Loc.inEnables, keyPage, keyOff, Fld.loc, bitKey, Fld.pos, IRQ_EN_LO, irqPage]
  omega

theorem inEnables_enHi {c : Nat} (hc : c < 12) : (IRQ_EN_HI.loc irqPage c).inEnables := by
  simp only [Loc.inEnables, keyPage, keyOff, Fld.loc, bitKey, Fld.pos, IRQ_EN_HI, irqPage]
  omega

theorem enLo_key_ne_enHi (c : Nat) : (IRQ_EN_LO.loc irqPage c).key ≠ (IRQ_EN_HI.loc irqPage c).key := by
  simp only [Fld.loc, bitKey, Fld.pos, IRQ_EN_LO, IRQ_EN_HI]
  omega

theorem key_ne_of_inEnables {l m : Loc} (hl : l.inEnables) (hm : keyPage m.key ≠ irqPage ∨ keyOff m.key < 0x100) : l.key ≠ m.key := by
  intro e
  obtain ⟨hpage, hoff⟩ := hl
  rw [e] at hpage hoff
  omega

/-- Of what a start does, only the clearing of the two enables reaches an enable. -/
theorem rd_startAt_of_inEnables (s : State) (c entry : Nat) {l : Loc} (hl : l.inEnables) :
    (startAt s c entry).rd l = ((s.set IRQ_EN_LO irqPage 0 c).set IRQ_EN_HI irqPage 0 c).rd l := by
  unfold startAt coreStart
  rw [rd_nvCoreStart _ _ (key_ne_of_inEnables hl (by decide)), rd_setCr _ _ _ (key_ne_of_inEnables hl (by decide))]
  exact State.rd_wr_ne _ _ (key_ne_of_inEnables hl (by decide))

theorem enLo_startAt (s : State) {c : Nat} (entry : Nat) (hc : c < 12) : (startAt s c entry).get IRQ_EN_LO irqPage c = 0 :=
  calc (startAt s c entry).get IRQ_EN_LO irqPage c
      = ((s.set IRQ_EN_LO irqPage 0 c).set IRQ_EN_HI irqPage 0 c).get IRQ_EN_LO irqPage c :=
        rd_startAt_of_inEnables s c entry (inEnables_enLo hc)
    _ = (s.set IRQ_EN_LO irqPage 0 c).get IRQ_EN_LO irqPage c := State.get_set_ne _ _ (enLo_key_ne_enHi c)
    _ = 0 := State.get_set_same ..

theorem enHi_startAt (s : State) {c : Nat} (entry : Nat) (hc : c < 12) : (startAt s c entry).get IRQ_EN_HI irqPage c = 0 :=
  (rd_startAt_of_inEnables s c entry (inEnables_enHi hc)).trans (State.get_set_same ..)

/-! CORE_RELOAD. What it checks of the image stands in the code NVM and the ECC record, which stopping the core leaves alone. -/

theorem targetDomain_core_lt {c n : Nat} (h : targetDomain c = some n) : c < 12 := by
  refine Nat.lt_of_not_le fun hc => ?_
  have hnone : targetDomain c = none := by
    rw [targetDomain, if_neg (by omega), if_neg (by omega), if_neg (by omega), if_neg (by omega), if_neg (by omega)]
  rw [hnone] at h
  cases h

@[simp] theorem orphan_cnvm (s : State) (c : Nat) : (orphan s c).cnvm = s.cnvm := by
  unfold orphan
  split <;> rfl

@[simp] theorem orphan_eccBad (s : State) (c : Nat) : (orphan s c).eccBad = s.eccBad := by
  unfold orphan
  split <;> rfl

theorem coreComp_congr {s t : State} (h : t.cnvm = s.cnvm) (k c : Nat) : t.coreComp k c = s.coreComp k c := by
  simp only [State.coreComp, State.comps, State.comp, State.cn, h]

theorem compBlocksOk_congr {s t : State} (h : t.cnvm = s.cnvm) (he : t.eccBad = s.eccBad) (k : Nat) (x : Component) :
    t.compBlocksOk k x = s.compBlocksOk k x := by
  simp only [State.compBlocksOk, State.blockOk, State.cnBytes, State.cn, h, he]

/-- A component whose blocks pass is loaded into the stopped core, which starts at its entry. -/
theorem reloadCore_of_compBlocksOk {s : State} {k c : Nat} {x : Component} (hx : s.coreComp k c = some x) (hok : s.compBlocksOk k x = true) :
    reloadCore s k c = startAt (loadDram (loadIram (startDone (coreStop s c) c) k c 0 x) k c x) c x.entry := by
  have hx' : (startDone (coreStop s c) c).coreComp k c = some x := (coreComp_congr (orphan_cnvm s c) k c).trans hx
  have hok' : (startDone (coreStop s c) c).compBlocksOk k x = true :=
    (compBlocksOk_congr (orphan_cnvm s c) (orphan_eccBad s c) k x).trans hok
  unfold reloadCore
  simp only [hx', hok', if_true]

theorem exec_coreReload_ready {s : State} {c k n : Nat} (hk : s.boot.active = some k) (hstart : s.boot.start.contains c = true) (hc : c ≠ 0)
    (hdue : s.boot.due = false) (hclk : s.clocksRun = true) (hn : targetDomain c = some n) (hon : s.domOn n = true) (hmem : s.domOn 6 = true) :
    exec (.coreReload c) s = .next (reloadCore s k c) := by
  simp only [exec_coreReload, execCoreReload, hk, hstart, hdue, hclk, hn, hmem, Option.any_some, hon, bne_iff_ne.2 hc, Bool.not_false,
    Bool.and_self, if_true]

/-- Settles O50: a start replaces the whole core by the reset one at its entry and clears its enables, and a reload ends in such a start. -/
theorem coreStartState : Obligations.CoreStartState := by
  unfold Obligations.CoreStartState
  have hcore (s : State) (c : Nat) {entry : Nat} (he : entry < 65536) (h4 : 4 ∣ entry) :
      (∀ r, ((startAt s c entry).cr c).reg r = 0) ∧
        ∀ i, ((startAt s c entry).cr c).ctl c i = if i = 6 then 1 else if i = 0x18 then c else 0 := by
    rw [cr_startAt s c he h4]
    exact ⟨Core.reg_of_start entry, Core.ctl_of_start entry c⟩
  refine ⟨fun s c entry hc he h4 => ?_, fun s c k n entry x hk hstart hc0 hdue hclk hn hon hmem hx hok hentry he h4 => ?_⟩
  · obtain ⟨hreg, hctl⟩ := hcore s c he h4
    refine ⟨hreg, hctl, enLo_startAt s entry hc, enHi_startAt s entry hc, ?_, ?_⟩ <;> rw [cr_startAt s c he h4]
  · subst hentry
    have hc : c < 12 := targetDomain_core_lt hn
    refine ⟨_, (exec_coreReload_ready hk hstart hc0 hdue hclk hn hon hmem).trans
      (congrArg Host.Outcome.next (reloadCore_of_compBlocksOk hx hok)), ?_⟩
    obtain ⟨hreg, hctl⟩ := hcore _ c he h4
    exact ⟨hreg, hctl, enLo_startAt _ _ hc, enHi_startAt _ _ hc, congrArg Core.pc (cr_startAt _ c he h4)⟩

end Sys2Proof.Machine
end

section
/-! PROOFS. The value of a churn counter (R527): which words of its page are valid, that the value is the greatest of theirs, and where the
record engine shows it. -/

namespace Sys2Proof.Machine

/-- The CRC-8 of R527 takes its bytes one after another. -/
theorem crc8_append (l : List Nat) (b : Nat) :
    crc8 (l ++ [b]) = (List.range 8).foldl (fun c _ => crc8Bit c) (crc8 l ^^^ b) := by
  simp only [crc8, List.foldl_append, List.foldl_cons, List.foldl_nil]

theorem leBytes_three (w : Nat) : leBytes w 3 = [w % 256, w / 256 % 256, w / 65536 % 256] := by
  simp [leBytes, List.range_succ]

/-! The valid words of a counter page. -/

theorem cntOk_iff (s : State) (p i : Nat) :
    s.cntOk p i = true ↔ s.eeWord (16 * p + i) ≠ 0xFFFFFFFF ∧ s.eeWord (16 * p + i) / 2 ^ 24 = crc8 (leBytes (s.eeWord (16 * p + i)) 3) ∧
      s.eeWord (16 * p + i) % 16 = i ∧ s.eeUe (16 * p + i) = false := by
  simp only [State.cntOk, Bool.and_eq_true, bne_iff_ne, beq_iff_eq, Bool.not_eq_true', and_assoc]

theorem mem_cntWords {s : State} {p w : Nat} :
    w ∈ s.cntWords p ↔ ∃ i < 16, s.cntOk p i = true ∧ w = s.eeWord (16 * p + i) % 2 ^ 24 := by
  simp only [State.cntWords, List.mem_map, List.mem_filter, List.mem_range, and_assoc, eq_comm]

theorem cntWords_eq_nil {s : State} {p : Nat} (h : ∀ i < 16, s.cntOk p i = false) : s.cntWords p = [] := by
  refine List.eq_nil_iff_forall_not_mem.2 fun w hw => ?_
  obtain ⟨i, hi, hok, -⟩ := mem_cntWords.1 hw
  exact Bool.false_ne_true ((h i hi).symm.trans hok)

/-! The counter's value. -/

/-- The value is the greatest of the valid words' values and 0. -/
theorem max?_cntWords (s : State) (p : Nat) : (0 :: s.cntWords p).max? = some (s.cntValue p) := List.max?_cons'

theorem le_cntValue {s : State} {p w : Nat} (h : w ∈ s.cntWords p) : w ≤ s.cntValue p :=
  (List.max?_eq_some_iff.1 (max?_cntWords s p)).2 w (List.mem_cons_of_mem 0 h)

theorem cntValue_eq_zero_or_mem (s : State) (p : Nat) : s.cntValue p = 0 ∨ s.cntValue p ∈ s.cntWords p :=
  List.mem_cons.1 (List.max?_eq_some_iff.1 (max?_cntWords s p)).1

theorem cntValue_mem {s : State} {p w : Nat} (h : w ∈ s.cntWords p) : s.cntValue p ∈ s.cntWords p := by
  rcases cntValue_eq_zero_or_mem s p with h0 | hmem
  · have hw : w = s.cntValue p := Nat.le_antisymm (le_cntValue h) (h0 ▸ Nat.zero_le w)
    exact hw ▸ h
  · exact hmem

theorem cntValue_lt (s : State) (p : Nat) : s.cntValue p < 2 ^ 24 := by
  rcases cntValue_eq_zero_or_mem s p with h0 | hmem
  · rw [h0]
    decide
  · obtain ⟨i, -, -, hv⟩ := mem_cntWords.1 hmem
    rw [hv]
    exact Nat.mod_lt _ (by decide)

/-! What the record engine shows (R530). -/

theorem recValue_cntShow (s : State) (r : RecCmd) : (cntShow s r).get REC_VALUE recPage r.k = s.cntValue r.a := by
  have hne : (REC_VALUE.loc recPage r.k).key ≠ (REC_VALUE_EMPTY.loc recPage r.k).key := by
    simp only [Fld.loc, bitKey, Fld.pos, REC_VALUE, REC_VALUE_EMPTY]
    omega
  unfold cntShow
  exact (State.get_set_ne _ _ hne).trans ((State.get_set_same ..).trans (Nat.mod_eq_of_lt (cntValue_lt s r.a)))

theorem recValueEmpty_cntShow (s : State) (r : RecCmd) : (cntShow s r).flag REC_VALUE_EMPTY recPage r.k = s.cntEmpty r.a :=
  State.flag_put_same _ _ _ _ _ _ (by decide)

/-- Settles O53: a counter's value is the greatest of its valid words' values, which `max?` gives as a member of the list that bounds it. -/
theorem churnCounterValue : Obligations.ChurnCounterValue := by
  unfold Obligations.ChurnCounterValue
  refine ⟨fun b l => ⟨rfl, crc8_append l b⟩, fun s p i => ?_, fun s p i hi hok => ?_, fun s p h => ?_,
    fun s r _ => ⟨recValue_cntShow s r, recValueEmpty_cntShow s r⟩⟩
  · have hmod : s.eeWord (16 * p + i) % 2 ^ 24 % 16 = s.eeWord (16 * p + i) % 16 := Nat.mod_mod_of_dvd _ (by decide)
    rw [hmod, ← leBytes_three]
    exact cntOk_iff s p i
  · have hw : s.eeWord (16 * p + i) % 2 ^ 24 ∈ s.cntWords p := mem_cntWords.2 ⟨i, hi, hok, rfl⟩
    exact ⟨le_cntValue hw, mem_cntWords.1 (cntValue_mem hw)⟩
  · have hnil : s.cntWords p = [] := cntWords_eq_nil h
    simp only [State.cntValue, State.cntEmpty, hnil, List.foldl_nil, List.isEmpty_nil, and_self]

end Sys2Proof.Machine
end

section
/-! PROOFS. A direct write that names a protected byte (R512): the write ends in one rejection with PROT_ERR and its interrupt, and what the
routing of the interrupt does besides (R74) reaches neither the registers of the EEPROM's page nor the state of
its engine nor its bytes. -/

namespace Sys2Proof.Machine

/-! What an interrupt leaves alone. -/

/-- The registers outside the page of PWR (2), the hidden state of the EEPROM's engine and the EEPROM's bytes. -/
def State.nvmSide (s : State) : (Loc → Nat) × Nvm × List Host.Cell :=
  (fun l => if keyPage l.key = 2 then 0 else s.rd l, s.nvm, s.eeprom)

theorem rd_of_nvmSide {s t : State} (h : t.nvmSide = s.nvmSide) {l : Loc} (hl : keyPage l.key ≠ 2) : t.rd l = s.rd l := by
  simpa only [State.nvmSide, if_neg hl] using congrFun (congrArg Prod.fst h) l

theorem nvm_of_nvmSide {s t : State} (h : t.nvmSide = s.nvmSide) : t.nvm = s.nvm := congrArg (·.2.1) h

theorem eeprom_of_nvmSide {s t : State} (h : t.nvmSide = s.nvmSide) : t.eeprom = s.eeprom := congrArg (·.2.2) h

@[simp] theorem nvmSide_setDom (s : State) (n : Nat) (d : Dom) : (s.setDom n d).nvmSide = s.nvmSide := rfl

@[simp] theorem nvmSide_enqueue (s : State) (e : GateEntry) : (s.enqueue e).nvmSide = s.nvmSide := rfl

@[simp] theorem nvmSide_withdraw (s : State) (r : Req) : (s.withdraw r).nvmSide = s.nvmSide := rfl

@[simp] theorem nvmSide_raiseRank (s : State) (n rank : Nat) : (s.raiseRank n rank).nvmSide = s.nvmSide := by
  unfold State.raiseRank
  split
  · split <;> simp
  · rfl

@[simp] theorem nvmSide_irqForward (s : State) (p : Nat) : (s.irqForward p).nvmSide = s.nvmSide := by
  unfold State.irqForward
  split <;> rfl

theorem keyPage_domain {f : Fld} (hf : f.ofDomain) {n : Nat} (hn : n < 12) : keyPage (f.loc 2 n).key = 2 := by
  obtain ⟨hoff, hblk, hlo⟩ := hf
  simp only [keyPage, Fld.loc, bitKey, Fld.pos, hoff, hblk]
  omega

section
variable {n : Nat} (hn : n < 12)
include hn

theorem nvmSide_set_domain (s : State) {f : Fld} (hf : f.ofDomain) (v : Nat) : (s.set f 2 v n).nvmSide = s.nvmSide := by
  have hrd (l : Loc) (hl : keyPage l.key ≠ 2) : (s.set f 2 v n).rd l = s.rd l :=
    s.rd_wr_ne v fun e => hl (e ▸ keyPage_domain hf hn)
  exact congrArg (·, s.nvm, s.eeprom) (funext fun l => ite_congr rfl (fun _ => rfl) (hrd l))

theorem nvmSide_put_wakeDenied (s : State) (b : Bool) : (s.put PWR_DOMAIN_WAKE_DENIED 2 b n).nvmSide = s.nvmSide :=
  nvmSide_set_domain hn s ⟨rfl, rfl, by decide⟩ _

theorem nvmSide_markHw (s : State) : (s.markHw n).nvmSide = s.nvmSide :=
  (nvmSide_set_domain hn _ (f := PWR_DOMAIN_HW_WOKEN) ⟨rfl, rfl, by decide⟩ _).trans (nvmSide_set_domain hn s ⟨rfl, rfl, by decide⟩ 0)

theorem nvmSide_startPowerUp (s : State) (rank : Nat) : (s.startPowerUp n rank).nvmSide = s.nvmSide := by
  have hput (d : Dom) : (s.putDom n d).nvmSide = s.nvmSide := nvmSide_set_domain hn (s.setDom n d) ⟨rfl, rfl, by decide⟩ _
  rw [← hput { s.getDom n with phase := .queued, reqTb := s.tb }]
  unfold State.startPowerUp
  dsimp only
  split <;> split <;> rfl

theorem nvmSide_requestUp (s : State) (rank : Nat) : (s.requestUp n rank).nvmSide = s.nvmSide := by
  unfold State.requestUp
  dsimp only
  split
  case h_1 =>
    split
    · rfl
    · exact nvmSide_startPowerUp hn s rank
  all_goals simp

theorem nvmSide_hwPowerUp (s : State) : (s.hwPowerUp n).nvmSide = s.nvmSide := by
  have horder (t : State) {k : Nat} (hk : k < 12) : ((t.markHw k).requestUp k 6).nvmSide = t.nvmSide :=
    (nvmSide_requestUp hk _ 6).trans (nvmSide_markHw hk t)
  have hdeny (t : State) {k : Nat} (hk : k < 12) := nvmSide_put_wakeDenied hk t true
  have h7 : 7 < 12 := by decide
  have hup (t : State) : (t.hwUp n 6 State.markHw).nvmSide = t.nvmSide := by
    unfold State.hwUp
    dsimp only
    split
    · rfl
    · split
      · exact hdeny t hn
      · split
        · exact (hdeny _ hn).trans (hdeny t h7)
        · rw [horder _ hn]
          split
          · exact horder t h7
          · rfl
  exact hup ((s.unpoll 7).unpoll n)

end

@[simp] theorem nvmSide_routeWake (s : State) (p : Nat) : (s.routeWake p).nvmSide = s.nvmSide := by
  unfold State.routeWake
  split
  · split
    case h_1 n hn => exact nvmSide_hwPowerUp (targetDomain_lt hn) s
    case h_2 => rfl
  · rfl

theorem nvmSide_irq (s : State) (p b : Nat) : (s.irq p b).nvmSide = (s.raise p b).nvmSide := by
  unfold State.irq State.risen
  rw [nvmSide_routeWake]
  split
  · exact nvmSide_irqForward _ p
  · rfl

/-! The rejection. -/

theorem get_reject_err (s : State) (p : Nat) : (s.reject p).get H_STAT_ERR p = 1 := by
  have hne : (H_STAT_ERR.loc p).key ≠ (H_EVT_CNT_REJECTED.loc p).key := by
    simp only [Fld.loc, bitKey, Fld.pos, H_STAT_ERR, H_EVT_CNT_REJECTED, Blk.one]
    omega
  exact (State.get_set_ne _ _ hne).trans (State.get_set_same ..)

theorem get_reject_rejected (s : State) (p : Nat) :
    (s.reject p).get H_EVT_CNT_REJECTED p = min (s.get H_EVT_CNT_REJECTED p + 1) 65535 := by
  have hlt : satAdd 16 (s.get H_EVT_CNT_REJECTED p) 1 < 2 ^ 16 := Nat.lt_of_le_of_lt (Nat.min_le_right ..) (by decide)
  exact (State.get_set_same ..).trans (Nat.mod_eq_of_lt hlt)

/-- The state after the rejection of a write that names a protected byte (R512). -/
def State.protErr (s : State) : State := ((s.reject nvmPage).put NVM_WSTAT_PROT_ERR nvmPage true).irq nvmPage 1

theorem nvm_protErr (s : State) : s.protErr.nvm = s.nvm := (nvm_of_nvmSide (nvmSide_irq _ nvmPage 1)).trans rfl

theorem eeprom_protErr (s : State) : s.protErr.eeprom = s.eeprom := (eeprom_of_nvmSide (nvmSide_irq _ nvmPage 1)).trans rfl

/-- The interrupt writes IRQ_RAW and the count of events of the page, and no other field of it. -/
theorem get_protErr (s : State) {f : Fld} (hp : keyPage (f.loc nvmPage).key ≠ 2) (hraw : (f.loc nvmPage).key ≠ (H_IRQ_RAW.loc nvmPage).key)
    (hev : (f.loc nvmPage).key ≠ (H_EVT_CNT_EVENTS.loc nvmPage).key) :
    s.protErr.get f nvmPage = ((s.reject nvmPage).put NVM_WSTAT_PROT_ERR nvmPage true).get f nvmPage :=
  (rd_of_nvmSide (nvmSide_irq _ nvmPage 1) hp).trans ((State.get_set_ne _ _ hev).trans (State.get_set_ne _ _ hraw))

theorem flag_protErr_protErr (s : State) : s.protErr.flag NVM_WSTAT_PROT_ERR nvmPage = true := by
  rw [State.flag, get_protErr s (by decide) (by decide) (by decide)]
  exact State.flag_put_same _ NVM_WSTAT_PROT_ERR nvmPage true 0 0 (by decide)

theorem flag_protErr_err (s : State) : s.protErr.flag H_STAT_ERR nvmPage = true := by
  rw [State.flag, get_protErr s (by decide) (by decide) (by decide), State.put, State.get_set_ne _ _ (by decide), get_reject_err]
  rfl

theorem get_protErr_rejected (s : State) :
    s.protErr.get H_EVT_CNT_REJECTED nvmPage = min (s.get H_EVT_CNT_REJECTED nvmPage + 1) 65535 := by
  rw [get_protErr s (by decide) (by decide) (by decide), State.put, State.get_set_ne _ _ (by decide), get_reject_rejected]

/-! WCMD. -/

@[simp] theorem State.reached_nvm (s : State) (p : Nat) : (s.reached p).nvm = s.nvm := by
  obtain ⟨w, d, h⟩ := s.reached_form p
  rw [h]

@[simp] theorem State.reached_eeprom (s : State) (p : Nat) : (s.reached p).eeprom = s.eeprom := by
  obtain ⟨w, d, h⟩ := s.reached_form p
  rw [h]

theorem wcmdBlocked_reached (s : State) (q p m : Nat) : (s.reached q).wcmdBlocked p m = s.wcmdBlocked p m := by
  simp only [State.wcmdBlocked, State.bpCovers, State.mayWrite, State.pwOpen, State.reached_nvm]

theorem nvmWrite_takes {s : State} {off v : Nat} (m : Master) (eff : Nat → State → State) (h : s.takes nvmPage off v = true) :
    nvmWrite s m off v eff = eff v (s.reached nvmPage) := by
  have hidle : s.macroBusy = false := by
    simp only [State.takes, Bool.and_eq_true, Bool.not_eq_true'] at h
    obtain ⟨⟨⟨⟨⟨-, hidle⟩, -⟩, -⟩, -⟩, -⟩ := h
    simpa only [beq_self_eq_true, Bool.true_and] using hidle
  rw [nvmWrite, hidle, if_neg Bool.false_ne_true, accessWrite_takes s m nvmPage off v eff h]

theorem wcmdEff_blocked {s : State} {m : Master} {v : Nat} (hacc : s.accepts nvmPage = true) (hmine : s.wbufMine m = true)
    (hblk : s.wcmdBlocked (v % 2048) m.code = true) :
    wcmdEff m v s = if 12 ≤ m.code then s.protErr.answer .guarded else s.protErr := by
  simp only [wcmdEff, hacc, hmine, hblk, Bool.not_true, Bool.or_self, Bool.false_eq_true, if_false, if_true]
  rfl

/-- A WCMD that names a protected byte ends in the rejection, which the host port and the ring are told (R512). -/
theorem exec_wcmd_blocked {s : State} {m : Master} {p off len : Nat} (hp : p < 2048)
    (ht : s.takes nvmPage 0x48 (p + off * 2 ^ 16 + len * 2 ^ 24) = true) (hmine : s.wbufMine m = true) (hacc : s.accepts nvmPage = true)
    (hblk : s.wcmdBlocked p m.code = true) :
    exec (.wcmd m p off len) s =
      .next (if 12 ≤ m.code then (s.reached nvmPage).protErr.answer .guarded else (s.reached nvmPage).protErr) := by
  have hpage : (p + off * 2 ^ 16 + len * 2 ^ 24) % 2048 = p := by omega
  have hacc' : (s.reached nvmPage).accepts nvmPage = true := by simpa only [State.accepts, State.reached_flag] using hacc
  have hmine' : (s.reached nvmPage).wbufMine m = true := by simpa only [State.wbufMine, State.reached_get] using hmine
  have hblk' : (s.reached nvmPage).wcmdBlocked ((p + off * 2 ^ 16 + len * 2 ^ 24) % 2048) m.code = true := by
    rw [hpage, wcmdBlocked_reached, hblk]
  exact congrArg Host.Outcome.next ((nvmWrite_takes m _ ht).trans (wcmdEff_blocked hacc' hmine' hblk'))

/-- Settles O54: the write ends in the rejection, and the answer to the host port or the ring adds nothing to it but the kind of the answer. -/
theorem protectedWrite : Obligations.ProtectedWrite := by
  unfold Obligations.ProtectedWrite
  refine ⟨fun s m p off len hp _ _ ht hmine hacc hblk => ⟨_, exec_wcmd_blocked hp ht hmine hacc hblk, ?_⟩, rfl⟩
  have hcnt : (s.reached nvmPage).protErr.get H_EVT_CNT_REJECTED nvmPage = min (s.get H_EVT_CNT_REJECTED nvmPage + 1) 65535 := by
    rw [get_protErr_rejected, State.reached_get]
  have hnvm : (s.reached nvmPage).protErr.nvm = s.nvm := (nvm_protErr _).trans (s.reached_nvm nvmPage)
  have hee : (s.reached nvmPage).protErr.eeprom = s.eeprom := (eeprom_protErr _).trans (s.reached_eeprom nvmPage)
  split
  case isTrue => exact ⟨flag_protErr_protErr _, flag_protErr_err _, hcnt, hnvm, hee, fun _ => rfl⟩
  case isFalse h => exact ⟨flag_protErr_protErr _, flag_protErr_err _, hcnt, hnvm, hee, fun hc => absurd hc h⟩

end Sys2Proof.Machine
end

section
/-! PROOFS. A frame that is broken off (R566): the frame itself does what the rule says, but the frame after it serves the requests that wait
in the host port's queue once its own request has run, and one of them can end in a full reset, which takes the host port and with it the
words that HSDO carried. -/

namespace Sys2Proof.Machine

theorem completes_next {s : State} {P : State → Prop} : Completes (.next s) P ↔ P s := by
  constructor
  · rintro ⟨t, ht, hP⟩
    cases ht
    exact hP
  · intro hP
    exact ⟨s, rfl, hP⟩

/-- A frame with bits beyond its words holds no request, whatever its words are (R566). -/
theorem exec_spiFrame_extra (a : Word) (l : List Word) {n : Nat} (hn : n ≠ 0) (wins : List (Nat × Nat)) (s : State) :
    exec (.spiFrame (a :: l) n wins) s = .next (spiFrame s (.bad (a.toNat / 2 ^ 28) (a.toNat / 2 ^ 20 % 256))) := by
  simp only [exec_spiFrame, execSpiFrame, List.map_cons, List.getD_cons_zero, bne_iff_ne, ne_eq, hn, not_false_eq_true, if_true]

theorem respWords_ne_nil (op tag status done next : Nat) (out : List Nat) : respWords op tag status done next out ≠ [] := List.cons_ne_nil _ _

/-- A UDP request to write WDG.KICK, which from any master but the HK counts as an expiry at once (R111). -/
def kickRequest : HostReq := { src := 1, op := 2, tag := 7, count := 1, addr := wdgPage * 4096 + WDG_KICK.off, words := [0] }

/-- The host port runs, the first expiry of the watchdog is to be a full reset (R112), and a kick by the host waits. -/
def kickWaits : State :=
  { ((State.reset.set WDG_CFG_ESCALATE wdgPage 1).put H_CTRL_EN hostPage true).put H_STAT_IDLE hostPage false with host := { queue := [kickRequest] } }

/-- The NOP after a frame of 97 bits puts BAD_CRC on HSDO, then serves the kick that waits, and nothing of the host port is left. -/
theorem host_nop_after_brokenFrame_kickWaits : (spiRequest (spiFrame kickWaits (.bad 0 0)) 0 0 0 0 0 [] []).host = {} := by
  decide +kernel

/-- Refutes O55: it does not ask that no request waits, and in `kickWaits` the one that waits resets the device within the next frame's
command, so that HSDO holds no answer at its end. -/
theorem not_brokenFrame : ¬ Obligations.BrokenFrame := by
  unfold Obligations.BrokenFrame
  intro h
  have hframe : exec (.spiFrame [0, 0, 0] 1 []) kickWaits = .next (spiFrame kickWaits (.bad 0 0)) :=
    exec_spiFrame_extra 0 [0, 0] Nat.one_ne_zero [] kickWaits
  have hbroken := h kickWaits 0 [0, 0] 1 [] 0 rfl rfl rfl (by decide) (.inl Nat.one_ne_zero)
  rw [hframe, completes_next] at hbroken
  obtain ⟨-, -, -, -, -, -, -, -, hnop⟩ := hbroken
  rw [exec_hostNop, execHostNop, completes_next, host_nop_after_brokenFrame_kickWaits] at hnop
  exact respWords_ne_nil _ _ _ _ _ _ hnop.symm

end Sys2Proof.Machine
end

section
/-! PROOFS. A core is as it must be after each part of an instruction: the landing of results (R476), the slides of the window (R480), the loop-end
test (R495), the end of a delay slot (R492, R493) and the entry to a trap (R498 to R500). -/

namespace Sys2Proof.Machine

theorem tget_tput_all {α : Type} [DecidableEq α] {P : α → Prop} {t : Table α} {d v : α} (ht : ∀ j, P (tget t j d)) (hv : P v) (k j : Nat) :
    P (tget (tput t k d v) j d) := by
  by_cases hj : j = k
  · rw [hj, tget_tput_same]
    exact hv
  · rw [tget_tput_ne _ _ _ _ hj]
    exact ht j

theorem align4_lt {v n : Nat} (h : v < n) : align4 v < n := Nat.lt_of_le_of_lt (Nat.div_mul_le_self v 4) h

theorem align4_mod (v : Nat) : align4 v % 4 = 0 := Nat.mul_mod_left (v / 4) 4

/-- An address that PC, LSTART or LEND can hold: aligned, within I-space (R475, R482). -/
def IsPc (a : Nat) : Prop := a < 65536 ∧ a % 4 = 0

theorem isPc_add {a : Nat} (h : a % 4 = 0) {n : Nat} (hn : n % 4 = 0) : IsPc ((a + n) % 65536) :=
  ⟨Nat.mod_lt _ (by decide), by omega⟩

theorem isPc_align4 (v : Nat) : IsPc (align4 (v % 65536)) := ⟨align4_lt (Nat.mod_lt v (by decide)), align4_mod _⟩

/-- Loop registers as they must be (R482). -/
def LoopsOk (start last count : Table Nat) : Prop :=
  ∀ l, tget start l 0 < 65536 ∧ tget start l 0 % 4 = 0 ∧ tget last l 0 < 65536 ∧ tget last l 0 % 4 = 0 ∧ tget count l 0 < 65536

namespace LoopsOk
variable {start last count : Table Nat} (h : LoopsOk start last count)
include h

theorem putStart (l : Nat) {a : Nat} (ha : IsPc a) : LoopsOk (tput start l 0 a) last count := fun j =>
  have hj := tget_tput_all (P := IsPc) (fun i => ⟨(h i).1, (h i).2.1⟩) ha l j
  ⟨hj.1, hj.2, (h j).2.2⟩

theorem putLast (l : Nat) {a : Nat} (ha : IsPc a) : LoopsOk start (tput last l 0 a) count := fun j =>
  have hj := tget_tput_all (P := IsPc) (fun i => ⟨(h i).2.2.1, (h i).2.2.2.1⟩) ha l j
  ⟨(h j).1, (h j).2.1, hj.1, hj.2, (h j).2.2.2.2⟩

theorem putCount (l : Nat) {n : Nat} (hn : n < 65536) : LoopsOk start last (tput count l 0 n) := fun j =>
  ⟨(h j).1, (h j).2.1, (h j).2.2.1, (h j).2.2.2.1, tget_tput_all (P := (· < 65536)) (fun i => (h i).2.2.2.2) hn l j⟩

omit h in
theorem ite {c : Prop} [Decidable c] {a b : Table Nat} (ha : LoopsOk start last a) (hb : LoopsOk start last b) :
    LoopsOk start last (if c then a else b) := by
  split
  · exact ha
  · exact hb

end LoopsOk

namespace Core

/-- A core as the instruction that it issues sees it: as it must be, and so are the loop registers that the end test uses (R506). -/
structure SeenOk (k : Core) : Prop where
  ok : k.Ok
  old : ∀ o, k.loopOld = some o → LoopsOk o.lstart o.lend o.lcount

namespace Ok
variable {k : Core} (h : k.Ok)
include h

theorem reg_lt (r : Nat) : k.reg r < 2 ^ 32 := by
  unfold reg
  split
  · decide
  · split
    · exact h.regs.1 r
    · exact h.regs.2 _

theorem vector_isPc (v : Nat) : IsPc (k.vector v) := isPc_add (by have := h.vbase.2; omega) (by omega)

theorem setPc {a : Nat} (ha : IsPc a) : { k with pc := a }.Ok := { h with pc := ha }

/-- A core at the entry to a window trap (R499). -/
theorem windowEntry {a : Nat} (ha : IsPc a) (back : Nat) : ({ k with wepc := back, wt := true, slot := none, rep := none, pc := a } : Core).Ok :=
  { h with slot := nofun, pc := ha }

/-- A core at the entry to another trap (R499). -/
theorem trapEntry {a : Nat} (ha : IsPc a) (back cause ev : Nat) (ie : Bool) :
    ({ k with epc := back, ecause := cause, eval := ev, pie := ie, ie := false, exl := true, slot := none, rep := none, pc := a } : Core).Ok :=
  { h with slot := nofun, pc := ha }

/-! Landing. -/

theorem mtc (i : Nat) {v : Nat} (hv : v < 2 ^ 32) : (k.mtc i v).Ok := by
  unfold Core.mtc
  split
  case h_3 => exact { h with vbase := by dsimp only; omega }
  case h_4 => exact { h with spillp := ⟨align4_lt hv, align4_mod v⟩ }
  case h_6 | h_7 | h_8 => exact { h with loops := LoopsOk.putStart h.loops _ (isPc_align4 v) }
  case h_9 | h_10 | h_11 => exact { h with loops := LoopsOk.putLast h.loops _ (isPc_align4 v) }
  case h_12 | h_13 | h_14 => exact { h with loops := LoopsOk.putCount h.loops _ (Nat.mod_lt v (by decide)) }
  case h_15 => exact { h with rpt := Nat.mod_lt v (by decide) }
  case h_16 => exact { h with ibank := by dsimp only; omega }
  all_goals exact { h with }

theorem land (d : Dest) {v : Nat} (hv : v < 2 ^ 32) : (k.land d v).Ok := by
  cases d with
  | glob n => exact { h with regs := ⟨tget_tput_all (P := (· < 2 ^ 32)) h.regs.1 hv n, h.regs.2⟩ }
  | win p => exact { h with regs := ⟨h.regs.1, tget_tput_all (P := (· < 2 ^ 32)) h.regs.2 hv p⟩ }
  | ctl i => exact h.mtc i hv

theorem setPend {l : List Landing} (hl : ∀ p ∈ l, p.val < 2 ^ 32) : { k with pend := l }.Ok := { h with pend := hl }

theorem addPend {p : Landing} (hp : p.val < 2 ^ 32) : { k with pend := k.pend ++ [p] }.Ok :=
  h.setPend fun q hq => (List.mem_append.1 hq).elim (h.pend q) fun e => List.mem_singleton.1 e ▸ hp

end Ok

@[simp] theorem loopOld_mtc (k : Core) (i v : Nat) : (k.mtc i v).loopOld = k.loopOld := by
  unfold mtc
  split <;> rfl

@[simp] theorem loopOld_land (k : Core) (d : Dest) (v : Nat) : (k.land d v).loopOld = k.loopOld := by
  cases d with
  | ctl i => exact k.loopOld_mtc i v
  | _ => rfl

theorem Ok.seenOk_of_land {k : Core} {old : Option LoopOld} (l : List Landing) (h : k.Ok) (hold : k.loopOld = old) (hl : ∀ p ∈ l, p.val < 2 ^ 32) :
    (l.foldl (fun k p => k.land p.dest p.val) k).Ok ∧ (l.foldl (fun k p => k.land p.dest p.val) k).loopOld = old :=
  List.foldlRecOn (motive := fun k : Core => k.Ok ∧ k.loopOld = old) l _ ⟨h, hold⟩ fun k hk p hp =>
    ⟨hk.1.land p.dest (hl p hp), (k.loopOld_land p.dest p.val).trans hk.2⟩

/-- The loop registers that the end test sees are those before the landing (R506). -/
theorem Ok.tick {k : Core} (h : k.Ok) : k.tick.SeenOk := by
  have hrest : ∀ p ∈ (k.pend.filter fun p => 1 < p.left).map fun p => { p with left := p.left - 1 }, p.val < 2 ^ 32 := by
    intro p hp
    obtain ⟨q, hq, rfl⟩ := List.mem_map.1 hp
    exact h.pend q (List.mem_filter.1 hq).1
  have hdue : ∀ p ∈ k.pend.filter fun p => p.left ≤ 1, p.val < 2 ^ 32 := fun p hp => h.pend p (List.mem_filter.1 hp).1
  obtain ⟨hok, hold⟩ := Ok.seenOk_of_land _ (k := { k with pend := _, loopOld := k.loopSeen _ }) { h.setPend hrest with } rfl hdue
  refine ⟨hok, fun o ho => ?_⟩
  have he : k.loopSeen (k.pend.filter fun p => p.left ≤ 1) = some o := hold.symm.trans ho
  unfold loopSeen at he
  dsimp only at he
  split at he
  · cases he
  · cases he
    exact h.loops

theorem Ok.flush {k : Core} (h : k.Ok) : k.flush.Ok := List.foldlRecOn (motive := Core.Ok) _ _ h fun _ hk _ _ => hk.tick.ok

/-! Results and slides of the window. -/

namespace Ok
variable {k : Core} (h : k.Ok)
include h

theorem result (n r v : Nat) : (k.result n r v).Ok := by
  unfold Core.result
  split
  · exact h.addPend (Nat.mod_lt _ (by decide))
  · exact h

theorem control (c idx : Nat) {v : Nat} (hv : v < 2 ^ 32) : (k.control c idx v).Ok := h.addPend hv

theorem slideIn : k.slideIn.Ok := by
  have hf := h.frames
  have hb := h.base
  refine { h with frames := ?_, base := ?_ } <;> simp only [Core.slideIn]
  · split <;> omega
  · omega

theorem slideOut : k.slideOut.Ok := by
  have hf := h.frames
  have hb := h.base
  refine { h with frames := ?_, base := ?_ } <;> simp only [Core.slideOut]
  · split <;> omega
  · omega

theorem stepped : k.stepped.Ok := by
  unfold Core.stepped
  split
  · exact { h with }
  · exact h

/-! The end of an instruction. -/

theorem transfer {d : Slot} (hd : IsPc d.target) : (k.transfer d).Ok := by
  have h0 : ({ k with pc := d.target, slot := none } : Core).Ok := { h with pc := hd, slot := nofun }
  unfold Core.transfer
  dsimp only
  split
  · exact (h0.slideIn.addPend (Nat.mod_lt _ (by decide))).stepped
  · split
    · exact h0.slideOut.stepped
    · exact h0.stepped

end Ok

namespace SeenOk
variable {k : Core} (h : k.SeenOk)
include h

theorem loops_atTest : LoopsOk k.atTest.lstart k.atTest.lend k.atTest.lcount := by
  unfold atTest
  split
  case h_1 o ho => exact h.old o ho
  case h_2 => exact h.ok.loops

theorem loopEnd {a : Nat} (ha : a % 4 = 0) : (k.loopEnd a).Ok := by
  have hgo : ({ k with pc := (a + 4) % 65536, loopOld := none } : Core).Ok := { h.ok with pc := isPc_add ha rfl }
  unfold Core.loopEnd
  dsimp only
  split
  case h_2 => exact hgo
  case h_1 l _ =>
    obtain ⟨hs, hs4, -, -, hn⟩ := h.loops_atTest l
    split
    case isFalse => exact hgo
    case isTrue =>
      refine { hgo with pc := ?_, loops := ?_ }
      · dsimp only
        split
        · exact ⟨hs, hs4⟩
        · exact isPc_add ha rfl
      · exact LoopsOk.ite h.ok.loops (LoopsOk.putCount h.ok.loops l (by omega))

theorem finish : k.finish.Ok := by
  unfold Core.finish
  split
  · split
    · exact { h.ok with }
    · exact (SeenOk.loopEnd (k := { k with rep := none }) ⟨{ h.ok with }, h.old⟩ h.ok.pc.2).stepped
  · split
    case h_1 d hd => exact h.ok.transfer (h.ok.slot d hd)
    case h_2 => exact (h.loopEnd h.ok.pc.2).stepped

theorem setLoop (l : Nat) {a b n : Nat} (ha : IsPc a) (hb : IsPc b) (hn : n < 65536) : (k.setLoop l a b n).SeenOk := by
  have hput {x y z : Table Nat} (hl : LoopsOk x y z) : LoopsOk (tput x l 0 a) (tput y l 0 b) (tput z l 0 n) :=
    ((hl.putStart l ha).putLast l hb).putCount l hn
  refine ⟨{ h.ok with loops := hput h.ok.loops }, fun o ho => ?_⟩
  obtain ⟨x, hx, rfl⟩ := Option.map_eq_some_iff.1 ho
  exact hput (h.old x hx)

theorem breakLoop (l : Nat) : (k.breakLoop l).SeenOk := by
  obtain ⟨hs, hs4, he, he4, -⟩ := h.ok.loops l
  exact h.setLoop l ⟨hs, hs4⟩ ⟨he, he4⟩ (by decide)

theorem result (n r v : Nat) : (k.result n r v).SeenOk := by
  refine ⟨h.ok.result n r v, ?_⟩
  unfold Core.result
  split <;> exact h.old

end SeenOk
end Core

end Sys2Proof.Machine
end

section
/-! PROOFS. What a Sirham command leaves alone: the routing of an interrupt (R74) and the power-up of a domain (R89) write the registers and the
hidden state of the supply, the gate and the ring; besides these a command writes its own core and, if it stores, D-space. -/

namespace Sys2Proof.Machine

/-! What an interrupt and a power-up leave alone. -/

/-- The state without the parts that an interrupt or a power-up writes. -/
def State.quiet (s : State) : State := { s with reg := [], clk := {}, dom := [], woken := [], gate := {}, ring := {} }

@[simp] theorem quiet_set (s : State) (f : Fld) (p v i j : Nat) : (s.set f p v i j).quiet = s.quiet := rfl

@[simp] theorem quiet_put (s : State) (f : Fld) (p : Nat) (b : Bool) (i j : Nat) : (s.put f p b i j).quiet = s.quiet := rfl

@[simp] theorem quiet_bump (s : State) (f : Fld) (p i j : Nat) : (s.bump f p i j).quiet = s.quiet := rfl

@[simp] theorem quiet_wr (s : State) (l : Loc) (v : Nat) : (s.wr l v).quiet = s.quiet := rfl

@[simp] theorem quiet_setDom (s : State) (n : Nat) (d : Dom) : (s.setDom n d).quiet = s.quiet := rfl

@[simp] theorem quiet_raiseRank (s : State) (n rank : Nat) : (s.raiseRank n rank).quiet = s.quiet := by
  unfold State.raiseRank
  split
  · split <;> rfl
  · rfl

@[simp] theorem quiet_startPowerUp (s : State) (n rank : Nat) : (s.startPowerUp n rank).quiet = s.quiet := by
  unfold State.startPowerUp
  dsimp only
  split <;> split <;> rfl

@[simp] theorem quiet_requestUp (s : State) (n rank : Nat) : (s.requestUp n rank).quiet = s.quiet := by
  unfold State.requestUp
  dsimp only
  split
  · split <;> simp
  all_goals simp

@[simp] theorem quiet_markHw (s : State) (n : Nat) : (s.markHw n).quiet = s.quiet := rfl

@[simp] theorem quiet_unpoll (s : State) (n : Nat) : (s.unpoll n).quiet = s.quiet := rfl

@[simp] theorem quiet_need (s : State) (n : Nat) : (s.need n).quiet = s.quiet := rfl

@[simp] theorem quiet_hwPowerUpAt (s : State) (n rank : Nat) : (s.hwPowerUpAt n rank).quiet = s.quiet := by
  unfold State.hwPowerUpAt State.hwUp
  dsimp only
  split
  · simp
  · split
    · simp
    · split
      · simp
      · split <;> simp

@[simp] theorem quiet_hwPowerUp (s : State) (n : Nat) : (s.hwPowerUp n).quiet = s.quiet := quiet_hwPowerUpAt s n 6

@[simp] theorem quiet_routeWake (s : State) (p : Nat) : (s.routeWake p).quiet = s.quiet := by
  unfold State.routeWake
  split
  · split <;> simp
  · rfl

@[simp] theorem quiet_irqForward (s : State) (p : Nat) : (s.irqForward p).quiet = s.quiet := by
  unfold State.irqForward
  split <;> rfl

@[simp] theorem quiet_risen (s : State) (p : Nat) (t : State) : (s.risen p t).quiet = t.quiet := by
  unfold State.risen
  split <;> simp

@[simp] theorem quiet_irq (s : State) (p b : Nat) : (s.irq p b).quiet = s.quiet := quiet_risen s p (s.raise p b)

@[simp] theorem quiet_logDev (s : State) (p : Nat) : (s.logDev p).quiet = s.quiet := by
  unfold State.logDev State.logCount
  dsimp only
  split
  · rfl
  · split <;> simp

@[simp] theorem quiet_eccUe (s : State) (m c a : Nat) (scrub : Bool) : (eccUe s m c a scrub).quiet = s.quiet := by
  unfold eccUe
  dsimp only
  split <;> split <;> simp

/-- A part of the state that `quiet` keeps is the same in states that agree on it. -/
theorem eq_of_quiet {α : Type} {s t : State} (f : State → α) (hf : ∀ u : State, f u.quiet = f u) (h : t.quiet = s.quiet) : f t = f s :=
  (hf t).symm.trans ((congrArg f h).trans (hf s))

/-- The state without what an interrupt, a power-up, a free value, a waiting access or a pause of the watchdog writes. -/
def State.still (s : State) : State := { s.quiet with free := 0, stall := [], wdgPause := none }

theorem still_of_quiet {s t : State} (h : t.quiet = s.quiet) : t.still = s.still := by rw [State.still, h, State.still]

@[simp] theorem still_fresh (s : State) (n : Nat) : (s.fresh n).2.still = s.still := rfl

@[simp] theorem still_irq (s : State) (p b : Nat) : (s.irq p b).still = s.still := still_of_quiet (quiet_irq s p b)

@[simp] theorem still_eccUe (s : State) (m c a : Nat) (scrub : Bool) : (eccUe s m c a scrub).still = s.still :=
  still_of_quiet (quiet_eccUe s m c a scrub)

theorem still_setStall (s : State) (l : Table Stall) : ({ s with stall := l } : State).still = s.still := rfl

@[simp] theorem still_dStall (s : State) (c a : Nat) : (dStall s c a).still = s.still :=
  (still_setStall _ _).trans (still_of_quiet ((quiet_hwPowerUp (s.need 6) 6).trans (quiet_need s 6)))

/-- A part of the state that `still` keeps is the same in states that agree on it. -/
theorem eq_of_still {α : Type} {s t : State} (f : State → α) (hf : ∀ u : State, f u.still = f u) (h : t.still = s.still) : f t = f s :=
  (hf t).symm.trans ((congrArg f h).trans (hf s))

/-! What a command of a core may change. -/

/-- The state without what a Sirham command may change. -/
def State.beyond (s : State) : State := { s.still with core := [], dram := [], sram := [], rind := [] }

/-- What every Sirham command of core `c` keeps from `s` to `t`; `stores` tells whether the command may store to D-space. -/
structure Within (c : Nat) (stores : Bool) (s t : State) : Prop where
  beyond : t.beyond = s.beyond
  cores : ∀ d ≠ c, t.cr d = s.cr d
  drams : ∀ d ≠ c, tget t.dram d [] = tget s.dram d []
  loads : stores = false → t.dram = s.dram ∧ t.sram = s.sram ∧ t.rind = s.rind
  wf : MemoriesOk s → MemoriesOk t
  ok : (s.cr c).Ok → (t.cr c).Ok

namespace Within
variable {c : Nat} {w : Bool} {s t u : State}

theorem refl (c : Nat) (w : Bool) (s : State) : Within c w s s := ⟨rfl, fun _ _ => rfl, fun _ _ => rfl, fun _ => ⟨rfl, rfl, rfl⟩, id, id⟩

theorem trans (h : Within c w s t) (g : Within c w t u) : Within c w s u where
  beyond := g.beyond.trans h.beyond
  cores d hd := (g.cores d hd).trans (h.cores d hd)
  drams d hd := (g.drams d hd).trans (h.drams d hd)
  loads hw := by
    obtain ⟨h1, h2, h3⟩ := h.loads hw
    obtain ⟨g1, g2, g3⟩ := g.loads hw
    exact ⟨g1.trans h1, g2.trans h2, g3.trans h3⟩
  wf := g.wf ∘ h.wf
  ok := g.ok ∘ h.ok

theorem of_still (c : Nat) (w : Bool) (h : t.still = s.still) : Within c w s t := by
  have hcore : t.core = s.core := eq_of_still State.core (fun _ => rfl) h
  have hdram : t.dram = s.dram := eq_of_still State.dram (fun _ => rfl) h
  have hiram : t.iram = s.iram := eq_of_still State.iram (fun _ => rfl) h
  have hsram : t.sram = s.sram := eq_of_still State.sram (fun _ => rfl) h
  have hrind : t.rind = s.rind := eq_of_still State.rind (fun _ => rfl) h
  have hcnvm : t.cnvm = s.cnvm := eq_of_still State.cnvm (fun _ => rfl) h
  have hee : t.eeprom = s.eeprom := eq_of_still State.eeprom (fun _ => rfl) h
  refine ⟨?_, fun d _ => ?_, fun d _ => ?_, fun _ => ⟨hdram, hsram, hrind⟩, fun hm => ?_, fun hk => ?_⟩
  · rw [State.beyond, h, State.beyond]
  · rw [State.cr, hcore, State.cr]
  · rw [hdram]
  · simpa only [MemoriesOk, hsram, hrind, hcnvm, hee, hdram, hiram] using hm
  · rwa [State.cr, hcore]

theorem setCr {k : Core} (h : Within c w s t) (hk : (s.cr c).Ok → k.Ok) : Within c w s (t.setCr c k) where
  beyond := h.beyond
  cores d hd := (tget_tput_ne _ _ _ _ hd).trans (h.cores d hd)
  drams := h.drams
  loads := h.loads
  wf := h.wf
  ok hs := (cr_setCr_same t c k).symm ▸ hk hs

/-- A store reaches D-RAM of its own core, shared SRAM or the rind (R58), and keeps their form. -/
theorem dPut (s : State) (c a n v : Nat) : Within c true s (s.dPut c a n v) := by
  unfold State.dPut
  dsimp only
  split
  · refine ⟨rfl, fun _ _ => rfl, fun d hd => tget_tput_ne _ _ _ _ hd, nofun, ?_, id⟩
    rintro ⟨hs, hr, hc, he, hm⟩
    exact ⟨hs, hr, hc, he, fun d => ⟨tget_tput_all (P := fun m => Memory.wf 0 m = true) (fun j => (hm j).1) (wf_mputN n _ v (hm c).1) c d, (hm d).2⟩⟩
  · split
    · refine ⟨rfl, fun _ _ => rfl, fun _ _ => rfl, nofun, ?_, id⟩
      rintro ⟨hs, hm⟩
      exact ⟨wf_mputN n _ v hs, hm⟩
    · split
      · refine ⟨rfl, fun _ _ => rfl, fun _ _ => rfl, nofun, ?_, id⟩
        rintro ⟨hs, hr, hm⟩
        exact ⟨hs, wf_mputN n _ v hr, hm⟩
      · exact refl c true s

theorem each (f : State → Nat → State) (h : ∀ s i, Within c w s (f s i)) (l : List Nat) (s : State) : Within c w s (s.each l f) :=
  List.foldlRecOn (motive := Within c w s) l f (refl c w s) fun t ht i _ => ht.trans (h t i)

end Within

/-! Traps. -/

section
variable {c : Nat} {k : Core} (w : Bool) (s : State) (hk : (s.cr c).Ok → k.Ok)
include hk

theorem within_coreFault : Within c w s (coreFault s c k) :=
  ((Within.refl c w s).setCr (k := { k with faulted := true }) fun h => { hk h with }).trans (Within.of_still c w (still_irq _ irqPage c))

theorem within_windowTrap (v back : Nat) : Within c w s (windowTrap s c k v back) := by
  unfold windowTrap
  split
  · exact within_coreFault w s hk
  · refine (Within.refl c w s).setCr fun h => ?_
    have hf := (hk h).flush
    exact hf.windowEntry (hf.vector_isPc v) back

theorem within_coreTrap (v ev : Nat) (next : Bool) : Within c w s (coreTrap s c k v ev next) := by
  unfold coreTrap
  split
  · exact within_coreFault w s hk
  · split
    · exact within_windowTrap w s hk 4 k.here
    · refine (Within.refl c w s).setCr fun h => ?_
      have hf := (hk h).flush.slideIn
      exact hf.trapEntry (hf.vector_isPc v) _ _ ev _

theorem within_illegal : Within c w s (illegal s c k) :=
  (Within.of_still c w (still_fresh s (2 ^ 32))).trans (within_coreTrap w (s.fresh (2 ^ 32)).2 hk 0 _ false)

end

theorem within_fetchTrap (c : Nat) (w : Bool) (s : State) : Within c w s (fetchTrap s c) := by
  have he : (eccUe s 0 c (s.cr c).fetchAt false).cr c = s.cr c :=
    eq_of_still (State.cr · c) (fun _ => rfl) (still_eccUe s 0 c (s.cr c).fetchAt false)
  exact (Within.of_still c w (still_eccUe ..)).trans (within_coreTrap w _ (fun h => (he ▸ h).tick.ok) 6 _ false)

/-! Instructions that issue. -/

/-- What an instruction does of itself stays within core `c`, and leaves that core for the end of the instruction as it must be. -/
def Res.Keeps (c : Nat) (w : Bool) (s : State) (k : Core) : Res → Prop
  | .ok t x => Within c w s t ∧ (k.SeenOk → x.SeenOk)
  | .trap t _ _ => t.still = s.still
  | .stall t => t.still = s.still

theorem within_coreIssue {c : Nat} {w : Bool} {f : State → Core → Res} (s : State) (hf : ∀ k, (f s k).Keeps c w s k) :
    Within c w s (coreIssue s c f) := by
  have hk := hf (s.cr c).tick
  unfold coreIssue
  dsimp only
  split
  · exact Within.refl c w s
  · split
    · exact within_fetchTrap c w s
    · split
      case h_1 t x hr =>
        rw [hr] at hk
        obtain ⟨ht, hx⟩ := hk
        exact ht.setCr fun h => (hx h.tick).finish
      case h_2 t v ev hr =>
        rw [hr] at hk
        have hcr : t.cr c = s.cr c := eq_of_still (State.cr · c) (fun _ => rfl) hk
        exact (Within.of_still c w hk).trans (within_coreTrap w t (fun h => (hcr ▸ h).tick.ok) v ev false)
      case h_3 t hr =>
        rw [hr] at hk
        exact Within.of_still c w hk

theorem keeps_dAccess {c a n : Nat} {w wr : Bool} {s : State} {k : Core} {go : State → Res} (hgo : (go s).Keeps c w s k) :
    (dAccess s c a n wr go).Keeps c w s k := by
  unfold dAccess
  split
  · exact rfl
  · split
    · exact still_dStall s c a
    · exact rfl
    · dsimp only
      split
      · exact still_eccUe ..
      · exact hgo

theorem keeps_spillReach {c a : Nat} {w wr : Bool} {s : State} {k : Core} {go : State → Res} (hgo : (go s).Keeps c w s k) :
    (spillReach s c a wr go).Keeps c w s k := by
  unfold spillReach
  split
  · exact keeps_dAccess hgo
  · exact hgo

theorem within_coreAlu (c n rd : Nat) (w : Bool) (s : State) (f : Core → Nat) : Within c w s (coreAlu s c n rd f) :=
  within_coreIssue s fun k => ⟨Within.refl c w s, fun h => h.result n rd (f k)⟩

/-- The base register of LDWP and STWP (R488). -/
theorem Core.SeenOk.addBase {k x : Core} (h : k.SeenOk) (inc : Option Nat) (ra : Nat) :
    (match inc with | some d => k.result 1 ra (add32 (x.reg ra) d) | none => k).SeenOk := by
  cases inc with
  | none => exact h
  | some d => exact h.result 1 ra _

theorem within_coreLoad (c rd ra off n : Nat) (w : Bool) (s : State) (f : Nat → Nat) (inc : Option Nat) :
    Within c w s (coreLoad s c rd ra off n f inc) :=
  within_coreIssue s fun _ => keeps_dAccess ⟨Within.refl c w s, fun h => (h.result 2 rd _).addBase inc ra⟩

theorem within_coreStore (c rs ra off n : Nat) (s : State) (inc : Option Nat) : Within c true s (coreStore s c rs ra off n inc) :=
  within_coreIssue s fun _ => keeps_dAccess ⟨Within.dPut s c _ n _, fun h => h.addBase inc ra⟩

theorem within_coreSwap (c rd ra rb : Nat) (s : State) : Within c true s (coreSwap s c rd ra rb) := by
  refine within_coreIssue s fun k => ?_
  dsimp only
  split
  · exact rfl
  · exact keeps_dAccess ⟨Within.dPut s c _ 4 _, fun h => h.result 2 rd _⟩

theorem within_coreSpill (c : Nat) (s : State) : Within c true s (coreSpill s c) := by
  refine within_coreIssue s fun k => ?_
  dsimp only
  split
  case isTrue => exact ⟨Within.refl c true s, id⟩
  case isFalse hf =>
    split
    · exact rfl
    · refine keeps_spillReach ⟨Within.each _ (fun s _ => Within.dPut s c _ 4 _) _ s, fun h => ⟨?_, h.old⟩⟩
      have hfr := h.ok.frames
      have hsp := h.ok.spillp
      exact { h.ok with frames := ⟨by dsimp only; omega, by dsimp only; omega⟩, spillp := ⟨Nat.mod_lt _ (by decide), by dsimp only [add32]; omega⟩ }

theorem mgetN_lt (m : List Host.Cell) (d : Byte) (a n : Nat) : mgetN m d a n < 256 ^ n := by
  induction n generalizing a with
  | zero => exact Nat.one_pos
  | succ n ih =>
    have hb := (mget m d a).isLt
    have ht := ih (a + 1)
    rw [mgetN, Nat.pow_succ]
    omega

theorem dGet_lt (s : State) (c a n : Nat) : s.dGet c a n < 256 ^ n := by
  unfold State.dGet
  dsimp only
  split
  · exact mgetN_lt ..
  · split
    · exact mgetN_lt ..
    · split <;> exact mgetN_lt ..

theorem within_coreFill (c : Nat) (w : Bool) (s : State) : Within c w s (coreFill s c) := by
  refine within_coreIssue s fun k => ?_
  dsimp only
  split
  case isTrue => exact ⟨Within.refl c w s, id⟩
  case isFalse hf =>
    generalize ha : add32 k.spillp (2 ^ 32 - 64) = a
    split
    · exact rfl
    · refine keeps_spillReach ⟨Within.refl c w s, fun h => ⟨?_, h.old⟩⟩
      have hfr := h.ok.frames
      have hsp := h.ok.spillp
      have ha4 : a < 2 ^ 32 ∧ a % 4 = 0 := by
        rw [← ha, add32]
        omega
      have hwin (b : Nat) : ∀ r, tget ((List.range 16).foldl (fun x i => tput x (winIdx b i) 0 (s.dGet c (a + 4 * i) 4)) k.win) r 0 < 2 ^ 32 :=
        List.foldlRecOn (motive := fun x => ∀ r, tget x r 0 < 2 ^ 32) _ _ h.ok.regs.2
          fun x hx i _ => tget_tput_all (P := (· < 2 ^ 32)) hx (dGet_lt s c _ 4) _
      exact { h.ok with frames := ⟨by dsimp only; omega, by dsimp only; omega⟩, spillp := ha4, regs := ⟨h.ok.regs.1, hwin _⟩ }

theorem within_coreLoop (c lvl len : Nat) (w : Bool) (s : State) (count : Core → Nat) : Within c w s (coreLoop s c lvl len count) := by
  refine within_coreIssue s fun k => ?_
  have hset (h : k.SeenOk) : (k.setLoop lvl ((k.pc + 4) % 65536) ((k.pc + 4 * len) % 65536) (count k % 65536)).SeenOk :=
    h.setLoop lvl (isPc_add h.ok.pc.2 rfl) (isPc_add h.ok.pc.2 (Nat.mul_mod_right 4 len)) (Nat.mod_lt _ (by decide))
  dsimp only
  split
  · refine ⟨Within.refl c w s, fun h => ⟨?_, (hset h).old⟩⟩
    have htarget : IsPc (((k.pc + 4 * len) % 65536 + 4) % 65536) := isPc_add (isPc_add h.ok.pc.2 (Nat.mul_mod_right 4 len)).2 rfl
    exact { (hset h).ok with slot := fun d hd => Option.some.inj hd ▸ htarget }
  · exact ⟨Within.refl c w s, hset⟩

theorem within_coreBreak (c lvl : Nat) (w : Bool) (s : State) :
    Within c w s (coreIssue s c fun s k => .ok s (k.breakLoop lvl)) :=
  within_coreIssue s fun _ => ⟨Within.refl c w s, fun h => h.breakLoop lvl⟩

theorem within_coreControl (c ra idx : Nat) (w : Bool) (s : State) :
    Within c w s (coreIssue s c fun s k => .ok s (k.control c idx (k.reg ra))) :=
  within_coreIssue s fun _ => ⟨Within.refl c w s, fun h => ⟨h.ok.control c idx (h.ok.reg_lt ra), h.old⟩⟩

/-! Instructions with an end of their own. -/

theorem within_coreBranch (c : Nat) (w : Bool) (s : State) (goal : Core → Option Nat) (call ret : Bool) :
    Within c w s (coreBranch s c goal call ret) := by
  unfold coreBranch
  dsimp only
  split
  · exact Within.refl c w s
  · split
    · exact within_fetchTrap c w s
    · split
      · exact within_illegal w s fun h => h.tick.ok
      · split
        · exact within_windowTrap w s (fun h => h.tick.ok) 4 _
        · split
          · exact within_windowTrap w s (fun h => h.tick.ok) 5 _
          · refine (Within.refl c w s).setCr fun h => ?_
            have hpc := h.tick.ok.pc.2
            refine { h.tick.ok with pc := isPc_add hpc rfl, slot := fun d hd => Option.some.inj hd ▸ ?_ }
            dsimp only
            split
            · exact isPc_align4 _
            · exact isPc_add hpc rfl

theorem within_coreRep (c : Nat) (w ok : Bool) (s : State) : Within c w s (coreRep s c ok) := by
  unfold coreRep
  dsimp only
  split
  · exact Within.refl c w s
  · split
    · exact within_fetchTrap c w s
    · split
      · exact within_illegal w s fun h => h.tick.ok
      · refine (Within.refl c w s).setCr fun h => ?_
        have he := h.tick.loopEnd h.tick.ok.pc.2
        split
        · exact (he.setPc (isPc_add he.pc.2 rfl)).stepped
        · exact { he with }

theorem within_coreReti (c : Nat) (w : Bool) (s : State) : Within c w s (coreReti s c) := by
  unfold coreReti
  dsimp only
  split
  · exact Within.refl c w s
  · split
    · exact within_fetchTrap c w s
    · split
      · exact within_illegal w s fun h => h.tick.ok
      · split
        · refine (Within.refl c w s).setCr fun h => Core.Ok.stepped ?_
          exact { h.tick.ok with pc := isPc_align4 _ }
        · split
          · exact within_windowTrap w s (fun h => h.tick.ok) 5 _
          · refine (Within.refl c w s).setCr fun h => Core.Ok.stepped (Core.Ok.slideOut ?_)
            exact { h.tick.ok with pc := isPc_align4 _ }

theorem within_coreSys (c imm : Nat) (w : Bool) (s : State) : Within c w s (coreSys s c imm) := by
  unfold coreSys
  split
  · exact Within.refl c w s
  · split
    · exact within_fetchTrap c w s
    · exact within_coreTrap w s (fun h => h.tick.ok) 7 imm true

theorem within_coreIll (c : Nat) (w : Bool) (s : State) : Within c w s (coreIll s c) := by
  unfold coreIll
  split
  · exact Within.refl c w s
  · split
    · exact within_fetchTrap c w s
    · exact within_illegal w s fun h => h.tick.ok

theorem still_wdgHold (s : State) (c : Nat) : (s.wdgHold c).still = s.still := by
  unfold State.wdgHold
  split <;> rfl

theorem within_coreBrk (c imm : Nat) (w : Bool) (s : State) : Within c w s (coreBrk s c imm) := by
  unfold coreBrk
  split
  · exact Within.refl c w s
  · split
    · exact within_fetchTrap c w s
    · split
      · refine Within.trans ((Within.refl c w s).setCr fun h => ?_) (Within.of_still c w ((still_irq ..).trans (still_wdgHold _ c)))
        exact { h.tick.ok with }
      · exact within_coreTrap w s (fun h => h.tick.ok) 8 imm false

/-! Events of a core. -/

theorem within_coreInterrupt (c l : Nat) (w : Bool) (s : State) : Within c w s (coreInterrupt s c l) := by
  unfold coreInterrupt
  dsimp only
  split
  · exact within_windowTrap w s id 4 _
  · refine (Within.of_still c w (still_fresh s (2 ^ 32))).setCr fun h => ?_
    exact { h.slideIn with pc := h.slideIn.vector_isPc _ }

theorem within_landing (c : Nat) (w : Bool) (s : State) : Within c w s (s.setCr c (s.cr c).tick) :=
  (Within.refl c w s).setCr fun h => h.tick.ok

theorem within_resume (c : Nat) (w : Bool) (s : State) : Within c w s (s.setCr c { s.cr c with halt := false }) :=
  (Within.refl c w s).setCr fun h => { h with }

end Sys2Proof.Machine
end

section
/-! PROOFS. A reserved encoding (R505): the alterations that free values choose reach the core and its D-RAM, and what ends the instruction is the
end or the trap of any other. -/

namespace Sys2Proof.Machine

theorem Within.of_loads {c : Nat} {s t : State} (w : Bool) (h : Within c false s t) : Within c w s t :=
  { h with loads := fun _ => h.loads rfl }

/-- What the alterations of a reserved encoding of core `c` keep from `s` to `u`. -/
structure Alters (c : Nat) (s u : State) : Prop where
  within : Within c true s u
  core : u.cr c = s.cr c
  sram : u.sram = s.sram
  rind : u.rind = s.rind

theorem Alters.trans {c : Nat} {s t u : State} (h : Alters c s t) (g : Alters c t u) : Alters c s u :=
  ⟨h.within.trans g.within, g.core.trans h.core, g.sram.trans h.sram, g.rind.trans h.rind⟩

theorem Alters.of_still (c : Nat) {s t : State} (h : t.still = s.still) : Alters c s t :=
  ⟨Within.of_still c true h, eq_of_still (State.cr · c) (fun _ => rfl) h, eq_of_still State.sram (fun _ => rfl) h,
    eq_of_still State.rind (fun _ => rfl) h⟩

theorem dPut_dram (s : State) (c n v : Nat) {a : Nat} (ha : a < 0x8000) :
    s.dPut c a n v = { s with dram := tput s.dram c [] (mputN (tget s.dram c []) 0 a n v) } := by
  rw [State.dPut, dPlace, if_pos ha]
  rfl

theorem Alters.dPut (s : State) (c n v : Nat) {a : Nat} (ha : a < 0x8000) : Alters c s (s.dPut c a n v) := by
  have h := dPut_dram s c n v ha
  refine ⟨Within.dPut s c a n v, ?_, ?_, ?_⟩
  · rw [h]
    rfl
  · rw [h]
  · rw [h]

theorem fresh_lt (s : State) {n : Nat} (h : 0 < n) : (s.fresh n).1 < n := Nat.mod_lt _ h

theorem Core.SeenOk.land {k : Core} (h : k.SeenOk) (d : Dest) {v : Nat} (hv : v < 2 ^ 32) : (k.land d v).SeenOk :=
  ⟨h.ok.land d hv, k.loopOld_land d v ▸ h.old⟩

theorem Core.SeenOk.mtc {k : Core} (h : k.SeenOk) (i : Nat) {v : Nat} (hv : v < 2 ^ 32) : (k.mtc i v).SeenOk := h.land (.ctl i) hv

/-- One alteration (R505). -/
theorem reservedAlter_keeps (s : State) (c : Nat) (k : Core) :
    Alters c s (reservedAlter s c k).1 ∧ (k.SeenOk → (reservedAlter s c k).2.SeenOk) := by
  have hat := fresh_lt (s.fresh 3).2 (n := 8192) (by decide)
  have hv := fresh_lt ((s.fresh 3).2.fresh 8192).2 (n := 2 ^ 32) (by decide)
  have hfree : Alters c s (((s.fresh 3).2.fresh 8192).2.fresh (2 ^ 32)).2 := Alters.of_still c rfl
  unfold reservedAlter
  dsimp only
  split
  · refine ⟨hfree, fun h => ?_⟩
    dsimp only
    split
    · split
      · exact h
      · exact h.land _ hv
    · exact h.land _ hv
  · split
    · exact ⟨hfree.trans (Alters.dPut _ c 4 _ (by omega)), id⟩
    · split
      case h_4 =>
        refine ⟨hfree, fun h => ⟨{ h.ok with frames := ?_ }, h.old⟩⟩
        dsimp only
        omega
      case h_5 =>
        refine ⟨hfree, fun h => ?_⟩
        dsimp only
        split
        · refine ⟨{ h.ok with ibank := ?_ }, h.old⟩
          dsimp only
          omega
        · exact h
      case h_6 => exact ⟨hfree, fun h => h.mtc _ hv⟩
      all_goals exact ⟨hfree, fun h => ⟨{ h.ok with }, h.old⟩⟩

theorem reservedAlter_foldl_keeps (c : Nat) (l : List Nat) (s : State) (k : Core) :
    Alters c s (l.foldl (fun r _ => reservedAlter r.1 c r.2) (s, k)).1 ∧
      (k.SeenOk → (l.foldl (fun r _ => reservedAlter r.1 c r.2) (s, k)).2.SeenOk) :=
  List.foldlRecOn (motive := fun r : State × Core => Alters c s r.1 ∧ (k.SeenOk → r.2.SeenOk)) l _ ⟨Alters.of_still c rfl, id⟩
    fun r hr _ _ =>
      have h := reservedAlter_keeps r.1 c r.2
      ⟨hr.1.trans h.1, h.2 ∘ hr.2⟩

theorem coreReserved_alters (s : State) (c : Nat) : ∃ u, Alters c s u ∧ Within c false u (coreReserved s c) := by
  unfold coreReserved
  dsimp only
  split
  · exact ⟨s, Alters.of_still c rfl, Within.refl c false s⟩
  · split
    · exact ⟨s, Alters.of_still c rfl, within_fetchTrap c false s⟩
    · obtain ⟨hu, hk⟩ := reservedAlter_foldl_keeps c (List.range (s.fresh 65).1) (s.fresh 65).2 ((s.fresh 65).2.cr c).tick
      generalize (List.range (s.fresh 65).1).foldl (fun r _ => reservedAlter r.1 c r.2) ((s.fresh 65).2, ((s.fresh 65).2.cr c).tick) = r at hu hk ⊢
      have hdraw : Alters c s (s.fresh 65).2 := Alters.of_still c rfl
      have hall : Alters c s ((r.1.fresh 81).2.fresh (2 ^ 32)).2 := (hdraw.trans hu).trans (Alters.of_still c rfl)
      have hseen (h : (((r.1.fresh 81).2.fresh (2 ^ 32)).2.cr c).Ok) : r.2.SeenOk := hk (hall.core ▸ h).tick
      refine ⟨_, hall, ?_⟩
      split
      · exact (Within.refl c false _).setCr fun h => (hseen h).finish
      · split
        · exact within_windowTrap false _ (fun h => (hseen h).ok) _ _
        · exact within_coreTrap false _ (fun h => (hseen h).ok) _ _ false

theorem within_coreReserved (c : Nat) (s : State) : Within c true s (coreReserved s c) := by
  obtain ⟨u, hu, ht⟩ := coreReserved_alters s c
  exact hu.within.trans (ht.of_loads true)

/-! The parts of the state that `Within` keeps whole. -/

theorem Within.part {α : Type} {c : Nat} {w : Bool} {s t : State} (h : Within c w s t) (f : State → α)
    (hf : ∀ u : State, f u.beyond = f u) : f t = f s :=
  (hf t).symm.trans ((congrArg f h.beyond).trans (hf s))

/-- Settles O32: the alterations reach the core and its D-RAM alone, and the end of the instruction stores nothing. -/
theorem coreReservedEncodings : Obligations.CoreReservedEncodings := by
  unfold Obligations.CoreReservedEncodings
  intro s c
  obtain ⟨u, hu, ht⟩ := coreReserved_alters s c
  have hw := within_coreReserved c s
  obtain ⟨-, hsram, hrind⟩ := ht.loads rfl
  exact ⟨_, rfl, hw.part State.iram fun _ => rfl, hsram.trans hu.sram, hrind.trans hu.rind, hw.part State.cnvm fun _ => rfl,
    hw.part State.eeprom fun _ => rfl, hw.part State.mbox fun _ => rfl, hw.part State.soft fun _ => rfl,
    fun d hd => ⟨hw.cores d hd, hw.drams d hd⟩⟩

end Sys2Proof.Machine
end

section
/-! PROOFS. Every Sirham command but IN, OUT, INP, OUTP and HALT stays within its core and, if it stores, D-space; and it keeps the core and the
memories as they must be. -/

namespace Sys2Proof.Machine

theorem within_of_next {i : Instr} {c : Nat} {w : Bool} {s t u : State} (h : exec i s = .next t) (hi : exec i s = .next u)
    (hu : Within c w s u) : Within c w s t := by
  rw [hi] at h
  exact Host.Outcome.next.inj h ▸ hu

theorem within_execInterruptEntry {c : Nat} {s t : State} (h : execInterruptEntry c s = .next t) : Within c false s t := by
  unfold execInterruptEntry at h
  split at h
  case h_1 l _ =>
    rw [← Host.Outcome.next.inj h]
    split
    · exact within_coreInterrupt c l false s
    · exact Within.refl c false s
  case h_2 => exact Host.Outcome.next.inj h ▸ Within.refl c false s

theorem within_ite {c : Nat} {w : Bool} {s t : State} (b : Prop) [Decidable b] (h : Within c w s t) : Within c w s (if b then t else s) := by
  split
  · exact h
  · exact Within.refl c w s

theorem within_exec {i : Instr} {c : Nat} {s t : State} (hi : i.coreOf = some c) (h : exec i s = .next t) : Within c i.storesD s t := by
  cases i with
  | iAdd | iSub | iAnd | iOr | iXor | iNor | iSll | iSrl | iSra | iSlli | iSrli | iSrai | iMin | iMax | iMinu | iMaxu | iClz | iBswap | iAdds
  | iSubs | iMul | iMulh | iMulhu | iMac | iDiv | iDivu | iRem | iRemu | iCeq | iCne | iClt | iCltu | iCle | iCleu | iSel | iAddi | iAndi
  | iOri | iXori | iLui | iClti | iCltiu | iCeqi | iMfc =>
    cases hi
    exact within_of_next h rfl (within_coreAlu ..)
  | iLdw | iLdh | iLdhu | iLdb | iLdbu | iLdwp =>
    cases hi
    exact within_of_next h rfl (within_coreLoad ..)
  | iStw | iSth | iStb | iStwp =>
    cases hi
    exact within_of_next h rfl (within_coreStore ..)
  | iSwp =>
    cases hi
    exact within_of_next h rfl (within_coreSwap ..)
  | iBz | iBnz | iJump | iCall | iJr | iCallr | iRet =>
    cases hi
    exact within_of_next h rfl (within_coreBranch ..)
  | iReti =>
    cases hi
    exact within_of_next h rfl (within_coreReti ..)
  | iLoop | iLoopi =>
    cases hi
    exact within_of_next h rfl (within_coreLoop ..)
  | iLbrk =>
    cases hi
    exact within_of_next h rfl (within_coreBreak ..)
  | iRep =>
    cases hi
    exact within_of_next h rfl (within_coreRep ..)
  | iMtc =>
    cases hi
    exact within_of_next h rfl (within_coreControl ..)
  | iSys =>
    cases hi
    exact within_of_next h rfl (within_coreSys ..)
  | iBrk =>
    cases hi
    exact within_of_next h rfl (within_coreBrk ..)
  | iSpill =>
    cases hi
    exact within_of_next h rfl (within_coreSpill ..)
  | iFill =>
    cases hi
    exact within_of_next h rfl (within_coreFill ..)
  | iIll =>
    cases hi
    exact within_of_next h rfl (within_coreIll ..)
  | reservedEncoding =>
    cases hi
    exact within_of_next h rfl (within_coreReserved ..)
  | interruptEntry =>
    cases hi
    exact within_execInterruptEntry h
  | resultLanding =>
    cases hi
    exact within_of_next h rfl (within_ite _ (within_landing ..))
  | haltResume =>
    cases hi
    exact within_of_next h rfl (within_ite _ (within_resume ..))
  | _ => cases hi

theorem Within.coresOk {c : Nat} {w : Bool} {s t : State} (h : Within c w s t) (hs : CoresOk s) : CoresOk t := by
  intro d
  by_cases hd : d = c
  · exact hd ▸ h.ok (hs c)
  · exact h.cores d hd ▸ hs d

/-- Settles O58: a command of core `c` leaves the other cores alone and its own as it must be. -/
theorem coreInvariantKept : Obligations.CoreInvariantKept := by
  unfold Obligations.CoreInvariantKept
  intro s t i q c hs hq hi hstep
  simp only [step, hq] at hstep
  exact (within_exec hi hstep).coresOk hs

/-- Settles O59: the stores of a command of core `c` keep the memories in their form, and it changes no other. -/
theorem memoriesKept : Obligations.MemoriesKept := by
  unfold Obligations.MemoriesKept
  intro s t i q c hs hq hi hstep
  simp only [step, hq] at hstep
  exact (within_exec hi hstep).wf hs

theorem memoryWf_nil (d : Byte) : Memory.wf d [] = true := rfl

/-- Settles O57: after reset every core is the default one, and no memory lists a byte. -/
theorem coreInvariantReset : Obligations.CoreInvariantReset := by
  unfold Obligations.CoreInvariantReset
  refine ⟨fun c => ?_, memoryWf_nil 0, memoryWf_nil 0, memoryWf_nil 0xFF, memoryWf_nil 0xFF, fun _ => ⟨memoryWf_nil 0, memoryWf_nil 0⟩⟩
  have hcore : State.reset.cr c = {} := rfl
  rw [hcore]
  exact {
    frames := by decide
    base := by decide
    pc := by decide
    slot := nofun
    loops := fun l => by simp [tget]
    vbase := by decide
    spillp := by decide
    rpt := by decide
    ibank := by decide
    regs := ⟨fun r => by simp [tget], fun r => by simp [tget]⟩
    pend := nofun }
  
end Sys2Proof.Machine
end

section
/-! PROOFS. The arithmetic of a Sirham core (R486, R487): each number with which the model computes is the word that bit vectors give. -/

namespace Sys2Proof.Machine

/-! Signed values. -/

theorem sgn_eq_toInt {w : Nat} (hw : 0 < w) (v : Nat) : sgn w v = (BitVec.ofNat w v).toInt := by
  have hpow : 2 ^ w = 2 * 2 ^ (w - 1) := by rw [← Nat.pow_succ', Nat.succ_eq_add_one, Nat.sub_add_cancel hw]
  have hcast : (2 : Int) ^ w = ((2 ^ w : Nat) : Int) := by norm_cast
  rw [sgn, BitVec.toInt_eq_toNat_cond, BitVec.toNat_ofNat, hcast]
  split <;> split <;> omega

theorem unsgn_eq_toNat (w : Nat) (z : Int) : unsgn w z = (BitVec.ofInt w z).toNat := (BitVec.toNat_ofInt z).symm

theorem si_eq_toInt (v : Nat) : si v = (BitVec.ofNat 32 v).toInt := sgn_eq_toInt (by decide) v

theorem unsgn_toInt {w : Nat} (x : BitVec w) : unsgn w x.toInt = x.toNat := by rw [unsgn_eq_toNat, BitVec.ofInt_toInt]

theorem ofNat_mod_word {v : Nat} : v % 2 ^ 32 = (BitVec.ofNat 32 v).toNat := (BitVec.toNat_ofNat v 32).symm

theorem toNat_mod_word (x : BitVec 32) : x.toNat % 2 ^ 32 = x.toNat := Nat.mod_eq_of_lt x.isLt

theorem ofNat_toNat_of_lt {v : Nat} (h : v < 2 ^ 32) : (BitVec.ofNat 32 v).toNat = v := (BitVec.toNat_ofNat v 32).trans (Nat.mod_eq_of_lt h)

/-- The sign extension of an immediate (R487). -/
theorem sx16_eq (imm : Nat) : sx16 imm = (immWord imm).toNat := by
  rw [sx16, sgn_eq_toInt (by decide), ← BitVec.toInt_signExtend_of_le (show 16 ≤ 32 by decide), unsgn_toInt, immWord]

theorem sgn_imm (imm : Nat) : sgn 16 imm = (immWord imm).toInt := by
  rw [sgn_eq_toInt (by decide), immWord, BitVec.toInt_signExtend_of_le (show 16 ≤ 32 by decide)]

theorem add32_eq (a b : Nat) : add32 a b = (BitVec.ofNat 32 a + BitVec.ofNat 32 b).toNat := by
  rw [add32, ← BitVec.ofNat_add, BitVec.toNat_ofNat]

theorem add32_sx16 (a imm : Nat) : add32 a (sx16 imm) = (BitVec.ofNat 32 a + immWord imm).toNat := by
  rw [add32_eq, sx16_eq, BitVec.ofNat_toNat, BitVec.setWidth_eq]

theorem add32_zero (a : Nat) : add32 a 0 = (BitVec.ofNat 32 a).toNat := by rw [add32, Nat.add_zero, BitVec.toNat_ofNat]

theorem sub32_eq (a : Nat) {b : Nat} (h : b < 2 ^ 32) : add32 a (2 ^ 32 - b) = (BitVec.ofNat 32 a - BitVec.ofNat 32 b).toNat := by
  rw [add32, BitVec.toNat_sub, ofNat_toNat_of_lt h, BitVec.toNat_ofNat]
  omega

/-! Logic and shifts. -/

theorem and_mod_word (a b : Nat) : (a &&& b) % 2 ^ 32 = (BitVec.ofNat 32 a &&& BitVec.ofNat 32 b).toNat := by
  rw [BitVec.toNat_and, BitVec.toNat_ofNat, BitVec.toNat_ofNat, Nat.and_mod_two_pow]

theorem or_mod_word (a b : Nat) : (a ||| b) % 2 ^ 32 = (BitVec.ofNat 32 a ||| BitVec.ofNat 32 b).toNat := by
  rw [BitVec.toNat_or, BitVec.toNat_ofNat, BitVec.toNat_ofNat, Nat.or_mod_two_pow]

theorem xor_mod_word (a b : Nat) : (a ^^^ b) % 2 ^ 32 = (BitVec.ofNat 32 a ^^^ BitVec.ofNat 32 b).toNat := by
  rw [BitVec.toNat_xor, BitVec.toNat_ofNat, BitVec.toNat_ofNat, Nat.xor_mod_two_pow]

theorem nor_eq (a b : Nat) : not32 (a ||| b) = (~~~(BitVec.ofNat 32 a ||| BitVec.ofNat 32 b)).toNat := by
  rw [not32, or_mod_word, BitVec.toNat_not]

theorem shl_mod_word (a n : Nat) : a * 2 ^ n % 2 ^ 32 = (BitVec.ofNat 32 a <<< n).toNat := by
  rw [BitVec.toNat_shiftLeft, Nat.shiftLeft_eq, BitVec.toNat_ofNat, Nat.mod_mul_mod]

theorem shr_eq {a : Nat} (h : a < 2 ^ 32) (n : Nat) : a / 2 ^ n = (BitVec.ofNat 32 a >>> n).toNat := by
  rw [BitVec.toNat_ushiftRight, Nat.shiftRight_eq_div_pow, ofNat_toNat_of_lt h]

theorem sra_eq (a n : Nat) : sra a n = ((BitVec.ofNat 32 a).sshiftRight n).toNat := by
  rw [sra, si_eq_toInt, ← unsgn_toInt, BitVec.toInt_sshiftRight, Int.shiftRight_eq_div_pow]

/-- CLZ (R486): the first set bit from the top is the one that `BitVec.clz` counts to. -/
theorem clz_eq (v : Nat) : clz v = (BitVec.ofNat 32 v).clz.toNat := by
  have hbit (i : Nat) : bitOf v (31 - i) = (BitVec.ofNat 32 v).getLsbD (31 - i) := by
    rw [BitVec.getLsbD_ofNat, decide_eq_true (by omega : 31 - i < 32), Bool.true_and, bitOf]
  unfold clz
  simp only [hbit]
  by_cases h0 : BitVec.ofNat 32 v = 0#32
  · have hnone : ((List.range 32).find? fun i => (BitVec.ofNat 32 v).getLsbD (31 - i)) = none :=
      List.find?_eq_none.2 fun i _ => by simp [h0]
    rw [hnone, BitVec.clz_eq_iff_eq_zero.2 h0]
    rfl
  · have htop := BitVec.getLsbD_true_clz_of_ne_zero (by decide) h0
    have hlt : (BitVec.ofNat 32 v).clz.toNat < 32 := BitVec.lt_def.1 (BitVec.clz_lt_iff_ne_zero.2 h0)
    have hsome : ((List.range 32).find? fun i => (BitVec.ofNat 32 v).getLsbD (31 - i)) = some (BitVec.ofNat 32 v).clz.toNat := by
      refine List.find?_range_eq_some.2 ⟨htop, List.mem_range.2 hlt, fun j hj => ?_⟩
      have hsmall : (BitVec.ofNat 32 v).toNat < 2 ^ (31 - j) :=
        Nat.lt_of_lt_of_le BitVec.toNat_lt_two_pow_sub_clz (Nat.pow_le_pow_right (by decide) (by omega))
      rw [Bool.not_eq_true', BitVec.getLsbD, Nat.testBit_lt_two_pow hsmall]
    rw [hsome, Option.getD_some]

theorem toNat_append_eq {m n : Nat} (x : BitVec m) (y : BitVec n) : (x ++ y).toNat = x.toNat * 2 ^ n + y.toNat := by
  rw [BitVec.toNat_append, ← Nat.shiftLeft_add_eq_or_of_lt y.isLt, Nat.shiftLeft_eq]

theorem bswap_eq (v : Nat) : bswap v = ((BitVec.ofNat 32 v).extractLsb' 0 8 ++ (BitVec.ofNat 32 v).extractLsb' 8 8 ++
    (BitVec.ofNat 32 v).extractLsb' 16 8 ++ (BitVec.ofNat 32 v).extractLsb' 24 8).toNat := by
  have hbyte {i : Nat} (hi : i ≤ 24) : v % 2 ^ 32 / 2 ^ i % 2 ^ 8 = v / 2 ^ i % 2 ^ 8 := by
    rw [← Nat.mod_mul_right_div_self, ← Nat.mod_mul_right_div_self, ← Nat.pow_add, Nat.mod_mod_of_dvd _ (Nat.pow_dvd_pow 2 (by omega))]
  simp only [toNat_append_eq, BitVec.extractLsb'_toNat, Nat.shiftRight_eq_div_pow, BitVec.toNat_ofNat, bswap]
  rw [hbyte (by decide), hbyte (by decide), hbyte (by decide), hbyte (by decide), Nat.pow_zero, Nat.div_one]
  simp only [Nat.reducePow]
  omega

/-! Minimum, maximum and saturation. -/

theorem min_signed_eq (a b : Nat) : (if si a ≤ si b then a else b) % 2 ^ 32 =
    (if (BitVec.ofNat 32 a).sle (BitVec.ofNat 32 b) then BitVec.ofNat 32 a else BitVec.ofNat 32 b).toNat := by
  simp only [si_eq_toInt, ← BitVec.sle_iff_toInt_le]
  split <;> exact ofNat_mod_word

theorem max_signed_eq (a b : Nat) : (if si a ≤ si b then b else a) % 2 ^ 32 =
    (if (BitVec.ofNat 32 a).sle (BitVec.ofNat 32 b) then BitVec.ofNat 32 b else BitVec.ofNat 32 a).toNat := by
  simp only [si_eq_toInt, ← BitVec.sle_iff_toInt_le]
  split <;> exact ofNat_mod_word

theorem ofNat_le_iff {a b : Nat} (ha : a < 2 ^ 32) (hb : b < 2 ^ 32) : BitVec.ofNat 32 a ≤ BitVec.ofNat 32 b ↔ a ≤ b := by
  rw [BitVec.le_def, ofNat_toNat_of_lt ha, ofNat_toNat_of_lt hb]

theorem ofNat_lt_iff {a b : Nat} (ha : a < 2 ^ 32) (hb : b < 2 ^ 32) : BitVec.ofNat 32 a < BitVec.ofNat 32 b ↔ a < b := by
  rw [BitVec.lt_def, ofNat_toNat_of_lt ha, ofNat_toNat_of_lt hb]

theorem min_unsigned_eq {a b : Nat} (ha : a < 2 ^ 32) (hb : b < 2 ^ 32) :
    min a b = (if BitVec.ofNat 32 a ≤ BitVec.ofNat 32 b then BitVec.ofNat 32 a else BitVec.ofNat 32 b).toNat := by
  rw [apply_ite BitVec.toNat, ofNat_toNat_of_lt ha, ofNat_toNat_of_lt hb, Nat.min_def]
  simp only [ofNat_le_iff ha hb]

theorem max_unsigned_eq {a b : Nat} (ha : a < 2 ^ 32) (hb : b < 2 ^ 32) :
    max a b = (if BitVec.ofNat 32 a ≤ BitVec.ofNat 32 b then BitVec.ofNat 32 b else BitVec.ofNat 32 a).toNat := by
  rw [apply_ite BitVec.toNat, ofNat_toNat_of_lt ha, ofNat_toNat_of_lt hb, Nat.max_def]
  simp only [ofNat_le_iff ha hb]

theorem satSgn_eq (z : Int) : unsgn 32 (satSgn 32 z) = (BitVec.ofInt 32 (max (-2 ^ 31) (min (2 ^ 31 - 1) z))).toNat := by
  have hclamp : max (min z (2 ^ (32 - 1) - 1)) (-2 ^ (32 - 1)) = max (-2 ^ 31) (min (2 ^ 31 - 1) z) :=
    (Int.max_comm ..).trans (congrArg (max _) (Int.min_comm ..))
  exact (unsgn_eq_toNat ..).trans (congrArg (fun y => (BitVec.ofInt 32 y).toNat) hclamp)

/-! Products and quotients. -/

theorem mul_mod_word (a b : Nat) : a * b % 2 ^ 32 = (BitVec.ofNat 32 a * BitVec.ofNat 32 b).toNat := by
  rw [← BitVec.ofNat_mul, BitVec.toNat_ofNat]

theorem mac_mod_word (d a b : Nat) : (d + a * b) % 2 ^ 32 = (BitVec.ofNat 32 d + BitVec.ofNat 32 a * BitVec.ofNat 32 b).toNat := by
  rw [← BitVec.ofNat_mul, ← BitVec.ofNat_add, BitVec.toNat_ofNat]

theorem mulh_eq (a b : Nat) : unsgn 32 (si a * si b / 2 ^ 32) =
    (((BitVec.ofNat 32 a).signExtend 64 * (BitVec.ofNat 32 b).signExtend 64).extractLsb' 32 32).toNat := by
  have hprod : (BitVec.ofNat 32 a).signExtend 64 * (BitVec.ofNat 32 b).signExtend 64 = BitVec.ofInt 64 (si a * si b) := by
    rw [BitVec.ofInt_mul, si_eq_toInt, si_eq_toInt, ← BitVec.toInt_signExtend_of_le (show 32 ≤ 64 by decide) (x := BitVec.ofNat 32 a),
      ← BitVec.toInt_signExtend_of_le (show 32 ≤ 64 by decide) (x := BitVec.ofNat 32 b), BitVec.ofInt_toInt, BitVec.ofInt_toInt]
  rw [hprod, BitVec.extractLsb'_toNat, BitVec.toNat_ofInt, Nat.shiftRight_eq_div_pow, unsgn]
  generalize si a * si b = z
  omega

theorem mulhu_eq {a b : Nat} (ha : a < 2 ^ 32) (hb : b < 2 ^ 32) : a * b / 2 ^ 32 =
    (((BitVec.ofNat 32 a).setWidth 64 * (BitVec.ofNat 32 b).setWidth 64).extractLsb' 32 32).toNat := by
  have hlt : a * b < 2 ^ 32 * 2 ^ 32 := Nat.mul_lt_mul'' ha hb
  rw [BitVec.extractLsb'_toNat, BitVec.toNat_mul, BitVec.toNat_setWidth, BitVec.toNat_setWidth, ofNat_toNat_of_lt ha, ofNat_toNat_of_lt hb,
    Nat.mod_eq_of_lt (by omega : a < 2 ^ 64), Nat.mod_eq_of_lt (by omega : b < 2 ^ 64), Nat.mod_eq_of_lt (by omega : a * b < 2 ^ 64), Nat.shiftRight_eq_div_pow]
  omega

theorem tdiv_eq (a b : Nat) : unsgn 32 ((si a).tdiv (si b)) = ((BitVec.ofNat 32 a).sdiv (BitVec.ofNat 32 b)).toNat := by
  rw [unsgn_eq_toNat, si_eq_toInt, si_eq_toInt]
  refine congrArg BitVec.toNat (BitVec.eq_of_toInt_eq ?_)
  rw [BitVec.toInt_ofInt, BitVec.toInt_sdiv]

theorem tmod_eq (a b : Nat) : unsgn 32 ((si a).tmod (si b)) = ((BitVec.ofNat 32 a).srem (BitVec.ofNat 32 b)).toNat := by
  rw [si_eq_toInt, si_eq_toInt, ← BitVec.toInt_srem, unsgn_toInt]

theorem div_eq_udiv {a b : Nat} (ha : a < 2 ^ 32) (hb : b < 2 ^ 32) : a / b = (BitVec.ofNat 32 a / BitVec.ofNat 32 b).toNat := by
  rw [BitVec.toNat_udiv, ofNat_toNat_of_lt ha, ofNat_toNat_of_lt hb]

theorem mod_eq_umod {a b : Nat} (ha : a < 2 ^ 32) (hb : b < 2 ^ 32) : a % b = (BitVec.ofNat 32 a % BitVec.ofNat 32 b).toNat := by
  rw [BitVec.toNat_umod, ofNat_toNat_of_lt ha, ofNat_toNat_of_lt hb]

end Sys2Proof.Machine
end

section
/-! PROOFS. An instruction that its core issues (R475, R478): what each shared way of running one comes to on such a state. -/

namespace Sys2Proof.Machine

theorem issues_iff (s : State) (c : Nat) : s.issues c = true ↔ s.canIssue c = true ∧ s.isBad 0 c (s.cr c).fetchAt = false := by
  rw [State.issues, Bool.and_eq_true, Bool.not_eq_true']

theorem coreIssue_issues {s : State} {c : Nat} (h : s.issues c = true) (f : State → Core → Res) :
    coreIssue s c f = match f s (s.seen c) with
      | .ok t k => t.setCr c k.finish
      | .trap t v ev => coreTrap t c (s.seen c) v ev
      | .stall t => t := by
  obtain ⟨hcan, hgood⟩ := (issues_iff s c).1 h
  simp only [coreIssue, hcan, hgood, Bool.not_true, Bool.false_eq_true, if_false]
  rfl

section
variable {s t : State} {c : Nat} {f : State → Core → Res} (h : s.issues c = true)
include h

theorem coreIssue_ok {k : Core} (hf : f s (s.seen c) = .ok t k) : coreIssue s c f = t.setCr c k.finish := by rw [coreIssue_issues h, hf]

theorem coreIssue_trap {v ev : Nat} (hf : f s (s.seen c) = .trap t v ev) : coreIssue s c f = coreTrap t c (s.seen c) v ev := by
  rw [coreIssue_issues h, hf]

end

theorem Core.result_congr (k : Core) (n r : Nat) {v w : Nat} (h : v % 2 ^ 32 = w % 2 ^ 32) : k.result n r v = k.result n r w := by
  simp only [Core.result, h]

theorem computes_of_alu {i : Instr} {c n rd : Nat} {src : List Nat} {f v : Core → Nat} (hi : ∀ s, exec i s = .next (coreAlu s c n rd f))
    (hf : ∀ k : Core, (∀ r ∈ src, k.reg r < 2 ^ 32) → f k % 2 ^ 32 = v k % 2 ^ 32) : Computes i c n rd src v := by
  intro s hs hsrc
  rw [hi, ← Core.result_congr _ n rd (hf _ hsrc)]
  exact congrArg Host.Outcome.next (coreIssue_ok hs rfl)

theorem computes_of_eq {i : Instr} {c n rd : Nat} {f v : Core → Nat} (hi : ∀ s, exec i s = .next (coreAlu s c n rd f))
    (hf : ∀ k, f k = v k) : Computes i c n rd [] v := computes_of_alu hi fun k _ => congrArg (· % 2 ^ 32) (hf k)

theorem computes_of_mod {i : Instr} {c n rd : Nat} {f : Core → Nat} {x : Core → BitVec 32} (hi : ∀ s, exec i s = .next (coreAlu s c n rd f))
    (hf : ∀ k, f k % 2 ^ 32 = (x k).toNat) : Computes i c n rd [] fun k => (x k).toNat :=
  computes_of_alu hi fun k _ => (hf k).trans (toNat_mod_word (x k)).symm

theorem computes_of_lt {i : Instr} {c n rd a : Nat} {f v : Core → Nat} (hi : ∀ s, exec i s = .next (coreAlu s c n rd f))
    (hf : ∀ k : Core, k.reg a < 2 ^ 32 → f k = v k) : Computes i c n rd [a] v :=
  computes_of_alu hi fun k hk => congrArg (· % 2 ^ 32) (hf k (hk a List.mem_cons_self))

theorem computes_of_lt_lt {i : Instr} {c n rd a b : Nat} {f v : Core → Nat} (hi : ∀ s, exec i s = .next (coreAlu s c n rd f))
    (hf : ∀ k : Core, k.reg a < 2 ^ 32 → k.reg b < 2 ^ 32 → f k = v k) : Computes i c n rd [a, b] v :=
  computes_of_alu hi fun k hk =>
    congrArg (· % 2 ^ 32) (hf k (hk a List.mem_cons_self) (hk b (List.mem_cons_of_mem a List.mem_cons_self)))

/-- Settles O26: each of the model's numbers is, modulo the width of a register, the word that bit vectors give. -/
theorem coreArithmetic : Obligations.CoreArithmetic := by
  unfold Obligations.CoreArithmetic
  refine ⟨?add, ?sub, ?and, ?or, ?xor, ?nor, ?sll, ?srl, ?sra, ?min, ?max, ?minu, ?maxu, ?adds, ?subs, ?slli, ?srli, ?srai, ?clz, ?bswap,
    ?mul, ?mulh, ?mulhu, ?mac, ?div, ?divu, ?rem, ?remu⟩
  case add => exact fun _ _ _ _ => computes_of_eq (fun _ => rfl) fun _ => add32_eq ..
  case sub => exact fun _ _ _ _ => computes_of_lt (fun _ => rfl) fun _ hb => sub32_eq _ hb
  case and => exact fun _ _ _ _ => computes_of_mod (fun _ => rfl) fun _ => and_mod_word ..
  case or => exact fun _ _ _ _ => computes_of_mod (fun _ => rfl) fun _ => or_mod_word ..
  case xor => exact fun _ _ _ _ => computes_of_mod (fun _ => rfl) fun _ => xor_mod_word ..
  case nor => exact fun _ _ _ _ => computes_of_eq (fun _ => rfl) fun _ => nor_eq ..
  case sll => exact fun _ _ _ _ => computes_of_mod (fun _ => rfl) fun _ => shl_mod_word ..
  case srl => exact fun _ _ _ _ => computes_of_lt (fun _ => rfl) fun _ ha => shr_eq ha _
  case sra => exact fun _ _ _ _ => computes_of_eq (fun _ => rfl) fun _ => sra_eq ..
  case min => exact fun _ _ _ _ => computes_of_mod (fun _ => rfl) fun _ => min_signed_eq ..
  case max => exact fun _ _ _ _ => computes_of_mod (fun _ => rfl) fun _ => max_signed_eq ..
  case minu => exact fun _ _ _ _ => computes_of_lt_lt (fun _ => rfl) fun _ ha hb => min_unsigned_eq ha hb
  case maxu => exact fun _ _ _ _ => computes_of_lt_lt (fun _ => rfl) fun _ ha hb => max_unsigned_eq ha hb
  case adds => exact fun _ _ _ _ => computes_of_eq (fun _ => rfl) fun _ => by rw [satSgn_eq, si_eq_toInt, si_eq_toInt, Core.word, Core.word]
  case subs => exact fun _ _ _ _ => computes_of_eq (fun _ => rfl) fun _ => by rw [satSgn_eq, si_eq_toInt, si_eq_toInt, Core.word, Core.word]
  case slli => exact fun _ _ _ _ _ => computes_of_mod (fun _ => rfl) fun _ => shl_mod_word ..
  case srli => exact fun _ _ _ _ _ => computes_of_lt (fun _ => rfl) fun _ ha => shr_eq ha _
  case srai => exact fun _ _ _ _ _ => computes_of_eq (fun _ => rfl) fun _ => sra_eq ..
  case clz => exact fun _ _ _ => computes_of_eq (fun _ => rfl) fun _ => clz_eq _
  case bswap => exact fun _ _ _ => computes_of_eq (fun _ => rfl) fun _ => bswap_eq _
  case mul => exact fun _ _ _ _ => computes_of_mod (fun _ => rfl) fun _ => mul_mod_word ..
  case mulh => exact fun _ _ _ _ => computes_of_eq (fun _ => rfl) fun _ => mulh_eq ..
  case mulhu => exact fun _ _ _ _ => computes_of_lt_lt (fun _ => rfl) fun _ ha hb => mulhu_eq ha hb
  case mac => exact fun _ _ _ _ => computes_of_mod (fun _ => rfl) fun _ => mac_mod_word ..
  case div =>
    exact fun _ _ _ _ => computes_of_lt (fun _ => rfl) fun _ _ => ite_congr rfl (fun _ => rfl) fun _ => tdiv_eq ..
  case divu =>
    exact fun _ _ _ _ => computes_of_lt_lt (fun _ => rfl) fun _ ha hb => ite_congr rfl (fun _ => rfl) fun _ => div_eq_udiv ha hb
  case rem =>
    exact fun _ _ _ _ => computes_of_lt_lt (fun _ => rfl) fun _ _ _ => ite_congr rfl (fun _ => rfl) fun _ => tmod_eq ..
  case remu =>
    refine fun _ _ ra rb => computes_of_lt_lt (fun _ => rfl) fun k ha hb => ?_
    split
    case isTrue h0 => rw [h0, Nat.mod_zero]
    case isFalse => exact mod_eq_umod ha hb

/-! Compares and immediates. -/

theorem b2n_decide (p : Prop) [Decidable p] : b2n (decide p) = if p then 1 else 0 := by simp only [b2n, decide_eq_true_eq]

theorem setWidth_imm {imm : Nat} (h : imm < 2 ^ 16) : (BitVec.ofNat 16 imm).setWidth 32 = BitVec.ofNat 32 imm := by
  apply BitVec.eq_of_toNat_eq
  rw [BitVec.toNat_setWidth, BitVec.toNat_ofNat, BitVec.toNat_ofNat, Nat.mod_eq_of_lt h]

theorem sx16_lt (imm : Nat) : sx16 imm < 2 ^ 32 := sx16_eq imm ▸ (immWord imm).isLt

theorem ofNat_sx16 (imm : Nat) : BitVec.ofNat 32 (sx16 imm) = immWord imm := by rw [sx16_eq, BitVec.ofNat_toNat, BitVec.setWidth_eq]

theorem ctl_unassigned (k : Core) (c : Nat) {i : Nat}
    (h : i = 0x0B ∨ i = 0x0F ∨ i = 0x13 ∨ 0x15 ≤ i ∧ i < 0x18 ∨ 0x19 ≤ i ∧ i < 0x1C ∨ 0x1D ≤ i) : k.ctl c i = 0 := by
  unfold Core.ctl
  split
  case h_21 => rfl
  all_goals omega

/-- Settles O27: as O26, and MFC of each index by the definition of the control registers. -/
theorem coreCompares : Obligations.CoreCompares := by
  unfold Obligations.CoreCompares
  refine ⟨?ceq, ?cne, ?clt, ?cltu, ?cle, ?cleu, ?sel, ?addi, ?andi, ?ori, ?xori, ?clti, ?cltiu, ?ceqi, ?lui, ?mfc, ?status, ?unassigned⟩
  case ceq => exact fun _ _ _ _ => computes_of_eq (fun _ => rfl) fun _ => b2n_decide _
  case cne => exact fun _ _ _ _ => computes_of_eq (fun _ => rfl) fun k => by simp only [b2n, bne_iff_ne]
  case clt => exact fun _ _ _ _ => computes_of_eq (fun _ => rfl) fun _ => by rw [b2n_decide, si_eq_toInt, si_eq_toInt, Core.word, Core.word]
  case cltu =>
    exact fun _ _ _ _ => computes_of_lt_lt (fun _ => rfl) fun _ ha hb => by simp only [b2n_decide, Core.word, ofNat_lt_iff ha hb]
  case cle => exact fun _ _ _ _ => computes_of_eq (fun _ => rfl) fun _ => by rw [b2n_decide, si_eq_toInt, si_eq_toInt, Core.word, Core.word]
  case cleu =>
    exact fun _ _ _ _ => computes_of_lt_lt (fun _ => rfl) fun _ ha hb => by simp only [b2n_decide, Core.word, ofNat_le_iff ha hb]
  case sel => exact fun _ _ _ _ _ => computes_of_eq (fun _ => rfl) fun _ => by simp only [bne_iff_ne]
  case addi => exact fun _ _ _ _ _ => computes_of_eq (fun _ => rfl) fun _ => add32_sx16 ..
  case andi => exact fun _ _ _ _ hi => computes_of_mod (fun _ => rfl) fun _ => by rw [and_mod_word, setWidth_imm hi, Core.word]
  case ori => exact fun _ _ _ _ hi => computes_of_mod (fun _ => rfl) fun _ => by rw [or_mod_word, setWidth_imm hi, Core.word]
  case xori => exact fun _ _ _ _ hi => computes_of_mod (fun _ => rfl) fun _ => by rw [xor_mod_word, setWidth_imm hi, Core.word]
  case clti => exact fun _ _ _ _ _ => computes_of_eq (fun _ => rfl) fun _ => by rw [b2n_decide, si_eq_toInt, sgn_imm, Core.word]
  case cltiu =>
    exact fun _ _ _ imm _ => computes_of_lt (fun _ => rfl) fun _ ha => by
      simp only [b2n_decide, Core.word, ← ofNat_sx16, ofNat_lt_iff ha (sx16_lt imm)]
  case ceqi =>
    refine fun _ _ ra imm _ => computes_of_lt (fun _ => rfl) fun k ha => ?_
    have hiff : BitVec.ofNat 32 (k.reg ra) = immWord imm ↔ k.reg ra = sx16 imm := by
      rw [← BitVec.toNat_inj, ofNat_toNat_of_lt ha, sx16_eq]
    simp only [Core.word, hiff]
    exact b2n_decide _
  case lui => exact fun _ _ _ _ => computes_of_eq (fun _ => rfl) fun _ => rfl
  case mfc => exact fun _ _ _ => computes_of_eq (fun _ => rfl) fun _ => rfl
  case status =>
    intro k c
    have hbit (n : Nat) (b : Bool) : n * (if b = true then 1 else 0) = if b = true then n else 0 := by
      cases b
      · rfl
      · exact Nat.mul_one n
    simp only [Core.ctl, b2n, hbit]
  case unassigned => exact fun k c i h => ctl_unassigned k c h

end Sys2Proof.Machine
end

section
/-! PROOFS. The branch family (R487, R492, R493): the target, the entry to the delay slot, and what the end of the slot does. -/

namespace Sys2Proof.Machine

/-! The landing of results leaves PC alone. -/

@[simp] theorem Core.pc_mtc (k : Core) (i v : Nat) : (k.mtc i v).pc = k.pc := by
  unfold Core.mtc
  split <;> rfl

@[simp] theorem Core.pc_land (k : Core) (d : Dest) (v : Nat) : (k.land d v).pc = k.pc := by
  cases d with
  | ctl i => exact k.pc_mtc i v
  | _ => rfl

theorem Core.pc_tick (k : Core) : k.tick.pc = k.pc :=
  List.foldlRecOn (motive := fun x : Core => x.pc = k.pc) _ _ rfl fun x hx _ _ => (x.pc_land _ _).trans hx

/-- The target of a branch with a `w`-bit word offset (R487). -/
theorem align4_branchTo (k : Core) (off : Nat) {w : Nat} (hw : 0 < w) (h4 : 4 ∣ k.pc) :
    align4 (branchTo k off w % 65536) = (((k.pc : Int) + 4 * (BitVec.ofNat w off).toInt) % 65536).toNat := by
  rw [align4, branchTo, sgn_eq_toInt hw, unsgn]
  generalize (BitVec.ofNat w off).toInt = z
  omega

/-! Issue of a branch. -/

section
variable {s : State} {c : Nat} (h : s.issues c = true) (goal : Core → Option Nat) (call ret : Bool)
include h

theorem coreBranch_slot (hslot : (s.seen c).slot.isSome = true) : coreBranch s c goal call ret = illegal s c (s.seen c) := by
  obtain ⟨hcan, hgood⟩ := (issues_iff s c).1 h
  rw [State.seen] at hslot ⊢
  simp only [coreBranch, hcan, hgood, hslot, Bool.not_true, Bool.false_eq_true, if_false, if_true]

theorem coreBranch_overflow (hslot : (s.seen c).slot = none) (hf : (s.seen c).frames = 15) :
    coreBranch s c goal true ret = windowTrap s c (s.seen c) 4 (s.seen c).pc := by
  obtain ⟨hcan, hgood⟩ := (issues_iff s c).1 h
  rw [State.seen] at hslot hf ⊢
  simp only [coreBranch, hcan, hgood, hslot, hf, Option.isSome_none, Bool.not_true, Bool.false_eq_true, if_false, decide_true, Bool.and_true, if_true]

theorem coreBranch_underflow (hslot : (s.seen c).slot = none) (hf : (s.seen c).frames = 1) :
    coreBranch s c goal false true = windowTrap s c (s.seen c) 5 (s.seen c).pc := by
  obtain ⟨hcan, hgood⟩ := (issues_iff s c).1 h
  rw [State.seen] at hslot hf ⊢
  simp only [coreBranch, hcan, hgood, hslot, hf, Option.isSome_none, Bool.not_true, Bool.false_eq_true, if_false, Bool.false_and, decide_true,
    Bool.and_true, if_true]

/-- A branch that takes no trap keeps its target and moves PC to the delay slot (R492). -/
theorem coreBranch_delay (hslot : (s.seen c).slot = none) (hcall : call = true → (s.seen c).frames ≠ 15) (hret : ret = true → (s.seen c).frames ≠ 1)
    {t : Nat} (ht : ((goal (s.cr c)).elim (((s.seen c).pc + 8) % 65536) fun a => align4 (a % 65536)) = t) :
    coreBranch s c goal call ret = s.setCr c { s.seen c with
      slot := some { addr := (s.seen c).pc, target := t, call := call && (goal (s.cr c)).isSome, ret := ret && (goal (s.cr c)).isSome },
      pc := ((s.seen c).pc + 4) % 65536 } := by
  obtain ⟨hcan, hgood⟩ := (issues_iff s c).1 h
  subst ht
  rw [State.seen] at hslot hcall hret ⊢
  have hno : (call && decide ((s.cr c).tick.frames = 15)) = false := by cases call <;> simp_all
  have hnr : (ret && decide ((s.cr c).tick.frames = 1)) = false := by cases ret <;> simp_all
  cases hg : goal (s.cr c) <;>
    simp only [coreBranch, hcan, hgood, hslot, hno, hnr, hg, Option.elim, Option.isSome_none, Bool.not_true, Bool.false_eq_true, if_false]

end

theorem target_branchTo {s : State} {c off w : Nat} (hw : 0 < w) (h4 : 4 ∣ (s.seen c).pc) :
    align4 (branchTo (s.cr c) off w % 65536) = ((((s.seen c).pc : Int) + 4 * (BitVec.ofNat w off).toInt) % 65536).toNat := by
  have hpc : (s.seen c).pc = (s.cr c).pc := Core.pc_tick _
  rw [hpc] at h4 ⊢
  exact align4_branchTo _ off hw h4

/-! The end of the delay slot. -/

theorem Core.finish_slot {k : Core} {d : Slot} (hrep : k.rep = none) (hslot : k.slot = some d) : k.finish = k.transfer d := by
  simp only [Core.finish, hrep, hslot]

/-- Settles O29: the operand is read in the core as it was before the landing, and the slot's end is the transfer. -/
theorem coreBranches : Obligations.CoreBranches := by
  unfold Obligations.CoreBranches
  refine ⟨?bz, ?bzSlot, ?bnz, ?bnzSlot, ?bzPass, ?bnzPass, ?jump, ?jumpSlot, ?jr, ?jrSlot, ?call, ?callSlot, ?callr, ?callrSlot, ?ret, ?retSlot,
    ?callOverflow, ?callrOverflow, ?retUnderflow, ?endJump, ?endCall, ?endRet⟩
  case bz =>
    intro s c rc off h hslot h0 h4
    refine congrArg Host.Outcome.next ((coreBranch_delay h _ false false hslot nofun nofun ?_).trans rfl)
    simp only [h0, if_true]
    exact target_branchTo (by decide) h4
  case bnz =>
    intro s c rc off h hslot h0 h4
    refine congrArg Host.Outcome.next ((coreBranch_delay h _ false false hslot nofun nofun ?_).trans rfl)
    simp only [h0, if_false]
    exact target_branchTo (by decide) h4
  case bzPass =>
    intro s c rc off h hslot h0
    refine congrArg Host.Outcome.next ((coreBranch_delay h _ false false hslot nofun nofun ?_).trans rfl)
    simp only [h0, if_false, Option.elim_none]
  case bnzPass =>
    intro s c rc off h hslot h0
    refine congrArg Host.Outcome.next ((coreBranch_delay h _ false false hslot nofun nofun ?_).trans rfl)
    simp only [h0, if_true, Option.elim_none]
  case jump =>
    exact fun s c off h hslot h4 =>
      congrArg Host.Outcome.next (coreBranch_delay h _ false false hslot nofun nofun (target_branchTo (by decide) h4))
  case jr => exact fun s c ra h hslot => congrArg Host.Outcome.next (coreBranch_delay h _ false false hslot nofun nofun rfl)
  case call =>
    exact fun s c off h hslot h4 hf =>
      congrArg Host.Outcome.next (coreBranch_delay h _ true false hslot (fun _ => hf) nofun (target_branchTo (by decide) h4))
  case callr => exact fun s c ra h hslot hf => congrArg Host.Outcome.next (coreBranch_delay h _ true false hslot (fun _ => hf) nofun rfl)
  case ret => exact fun s c h hslot hf => congrArg Host.Outcome.next (coreBranch_delay h _ false true hslot nofun (fun _ => hf) rfl)
  case bzSlot | bnzSlot => exact fun s c rc off h hslot => congrArg Host.Outcome.next (coreBranch_slot h _ _ _ hslot)
  case jumpSlot | jrSlot | callSlot | callrSlot => exact fun s c a h hslot => congrArg Host.Outcome.next (coreBranch_slot h _ _ _ hslot)
  case retSlot => exact fun s c h hslot => congrArg Host.Outcome.next (coreBranch_slot h _ _ _ hslot)
  case callOverflow | callrOverflow => exact fun s c a h hslot hf => congrArg Host.Outcome.next (coreBranch_overflow h _ _ hslot hf)
  case retUnderflow => exact fun s c h hslot hf => congrArg Host.Outcome.next (coreBranch_underflow h _ hslot hf)
  case endJump =>
    intro k d hrep hslot hcall hret
    simp only [Core.finish_slot hrep hslot, Core.transfer, hcall, hret, Bool.false_eq_true, if_false]
  case endCall =>
    intro k d hrep hslot hcall hf
    have hlink : ((k.base + 16) % 248 + 15) % 248 = (k.base + 31) % 248 := by omega
    simp only [Core.finish_slot hrep hslot, Core.transfer, hcall, Core.slideIn, hf, winIdx, hlink, if_true]
  case endRet =>
    intro k d hrep hslot hcall hret hf
    simp only [Core.finish_slot hrep hslot, Core.transfer, hcall, hret, Core.slideOut, hf, Bool.false_eq_true, if_false, if_true]

end Sys2Proof.Machine
end

section
/-! PROOFS. D-space (R58, R488): what a load gives after a store, and what a store of a core leaves alone. -/

namespace Sys2Proof.Machine

/-! The memory that holds an address of D-space. -/

/-- The memory with code `m` (R585) as core `c` reaches it. -/
def State.dMem (s : State) (c m : Nat) : List Host.Cell :=
  if m = 1 then tget s.dram c [] else if m = 2 then s.sram else if m = 4 then s.rind else s.cnvm

/-- What an unlisted byte of the memory with code `m` reads as. -/
def dUnlisted (m : Nat) : Byte := if m = 1 then 0 else if m = 2 then 0 else if m = 4 then 0 else 0xFF

theorem dGet_eq (s : State) (c a n : Nat) :
    s.dGet c a n = mgetN (s.dMem c (dPlace a).1) (dUnlisted (dPlace a).1) (dPlace a).2 n := by
  unfold State.dGet State.dMem dUnlisted
  dsimp only
  split
  · rfl
  · split
    · rfl
    · split <;> rfl

theorem dMem_dPut_ne (s : State) (c a n v : Nat) {m : Nat} (hm : m ≠ (dPlace a).1) : (s.dPut c a n v).dMem c m = s.dMem c m := by
  unfold State.dPut
  dsimp only
  split
  case isTrue h =>
    have h1 : m ≠ 1 := h ▸ hm
    simp only [State.dMem, if_neg h1]
  case isFalse =>
    split
    case isTrue h =>
      have h2 : m ≠ 2 := h ▸ hm
      simp only [State.dMem, if_neg h2]
    case isFalse =>
      split
      case isTrue h =>
        have h4 : m ≠ 4 := h ▸ hm
        simp only [State.dMem, if_neg h4]
      case isFalse => rfl

/-- A store reaches D-RAM, shared SRAM and the rind; code NVM (memory 5) takes none. -/
theorem dMem_dPut_same (s : State) (c n v : Nat) {a : Nat} (ha : (dPlace a).1 = 1 ∨ (dPlace a).1 = 2 ∨ (dPlace a).1 = 4) :
    (s.dPut c a n v).dMem c (dPlace a).1 = mputN (s.dMem c (dPlace a).1) (dUnlisted (dPlace a).1) (dPlace a).2 n v := by
  unfold State.dPut
  rcases ha with h | h | h <;> simp [State.dMem, dUnlisted, h, tget_tput_same]

theorem dPut_code (s : State) (c n v : Nat) {a : Nat} (ha : (dPlace a).1 = 5) : s.dPut c a n v = s := by
  simp [State.dPut, ha]

theorem dPlace_cases (a : Nat) : dPlace a = (1, a) ∧ a < 0x8000 ∨ dPlace a = (2, a - 0x10000000) ∧ 0x8000 ≤ a ∧ a < 0x20000000 ∨
    dPlace a = (4, a - 0x20000000) ∧ 0x20000000 ≤ a ∧ a < 0x30000000 ∨ dPlace a = (5, a - 0x30000000) ∧ 0x30000000 ≤ a := by
  unfold dPlace
  split
  · exact .inl ⟨rfl, ‹_›⟩
  · split
    · exact .inr (.inl ⟨rfl, by omega, ‹_›⟩)
    · split
      · exact .inr (.inr (.inl ⟨rfl, by omega, ‹_›⟩))
      · exact .inr (.inr (.inr ⟨rfl, by omega⟩))

/-- The `n` bytes from `a` lie in D-RAM, in shared SRAM or in the rind (R58). -/
def InRegion (a n : Nat) : Prop := a + n ≤ 0x8000 ∨ 0x10000000 ≤ a ∧ a + n ≤ 0x10200000 ∨ 0x20000000 ≤ a ∧ a + n ≤ 0x20004000

theorem dPlace_dram {a : Nat} (h : a < 0x8000) : dPlace a = (1, a) := if_pos h

theorem dPlace_sram {a : Nat} (h : 0x8000 ≤ a) (h2 : a < 0x20000000) : dPlace a = (2, a - 0x10000000) := by
  rw [dPlace, if_neg (Nat.not_lt.2 h), if_pos h2]

theorem dPlace_rind {a : Nat} (h : 0x20000000 ≤ a) (h2 : a < 0x30000000) : dPlace a = (4, a - 0x20000000) := by
  rw [dPlace, if_neg (by omega), if_neg (by omega), if_pos h2]

theorem InRegion.place {a n : Nat} (h : InRegion a n) {i : Nat} (hi : i < n) :
    ((dPlace a).1 = 1 ∨ (dPlace a).1 = 2 ∨ (dPlace a).1 = 4) ∧ dPlace (a + i) = ((dPlace a).1, (dPlace a).2 + i) := by
  rcases h with h | h | h
  · rw [dPlace_dram (by omega : a < 0x8000), dPlace_dram (by omega)]
    exact ⟨.inl rfl, rfl⟩
  · rw [dPlace_sram (by omega : 0x8000 ≤ a) (by omega), dPlace_sram (by omega) (by omega), Nat.sub_add_comm h.1]
    exact ⟨.inr (.inl rfl), rfl⟩
  · rw [dPlace_rind h.1 (by omega), dPlace_rind (by omega) (by omega), Nat.sub_add_comm h.1]
    exact ⟨.inr (.inr rfl), rfl⟩

/-! A load after a store. -/

theorem mgetN_one (m : List Host.Cell) (d : Byte) (a : Nat) : mgetN m d a 1 = (mget m d a).toNat := by
  rw [mgetN, mgetN, Nat.mul_zero, Nat.add_zero]

/-- Byte `i` of a stored number (R488). -/
theorem mget_mputN (n : Nat) : ∀ (m : List Host.Cell) (d : Byte) (a v i : Nat), i < n → (mget (mputN m d a n v) d (a + i)).toNat = v / 256 ^ i % 256 := by
  induction n with
  | zero => exact fun _ _ _ _ _ h => absurd h (Nat.not_lt_zero _)
  | succ n ih =>
    intro m d a v i hi
    rw [mputN]
    cases i with
    | zero => rw [mget_mputN_out n _ d (a + 1) _ (a + 0) (by omega), Nat.add_zero, mget_mput_same, BitVec.toNat_ofNat, Nat.pow_zero, Nat.div_one]
    | succ i =>
      rw [← Nat.add_assoc, Nat.add_right_comm, ih _ d (a + 1) _ i (by omega), Nat.div_div_eq_div_mul, Nat.pow_succ, Nat.mul_comm 256]

theorem dGet_dPut_same (s : State) (c v : Nat) {a n : Nat} (h : InRegion a n) : (s.dPut c a n v).dGet c a n = v % 256 ^ n := by
  rcases Nat.eq_zero_or_pos n with rfl | hn
  · rw [dGet_eq, mgetN, Nat.pow_zero, Nat.mod_one]
  · rw [dGet_eq, dMem_dPut_same s c n v (h.place hn).1, mgetN_mputN]

theorem dGet_dPut_byte (s : State) (c v : Nat) {a n i : Nat} (h : InRegion a n) (hi : i < n) :
    (s.dPut c a n v).dGet c (a + i) 1 = v / 256 ^ i % 256 := by
  obtain ⟨hmem, hplace⟩ := h.place hi
  rw [dGet_eq, hplace]
  dsimp only
  rw [dMem_dPut_same s c n v hmem, mgetN_one, mget_mputN n _ _ _ v i hi]

/-- A store leaves every byte outside its address alone. An address between the end of D-RAM and the start of shared SRAM is left out: no
memory holds it. -/
theorem dGet_dPut_out (s : State) (c n v : Nat) {a b : Nat} (ha : a < 0x8000 ∨ 0x10000000 ≤ a ∨ n = 0) (hb : b < 0x8000 ∨ 0x10000000 ≤ b)
    (hout : b < a ∨ a + n ≤ b) : (s.dPut c a n v).dGet c b 1 = s.dGet c b 1 := by
  rw [dGet_eq, dGet_eq s]
  by_cases hm : (dPlace b).1 = (dPlace a).1
  · have hoff : (dPlace b).2 + 1 ≤ (dPlace a).2 ∨ (dPlace a).2 + n ≤ (dPlace b).2 := by
      rcases dPlace_cases a with ⟨ea, h1⟩ | ⟨ea, h1⟩ | ⟨ea, h1⟩ | ⟨ea, h1⟩ <;>
        rcases dPlace_cases b with ⟨eb, h2⟩ | ⟨eb, h2⟩ | ⟨eb, h2⟩ | ⟨eb, h2⟩ <;> rw [ea, eb] at hm ⊢ <;> dsimp only at hm ⊢ <;> omega
    rw [hm]
    rcases dPlace_cases a with ⟨ea, -⟩ | ⟨ea, -⟩ | ⟨ea, -⟩ | ⟨ea, -⟩
    case inr.inr.inr => rw [dPut_code s c n v (by rw [ea])]
    all_goals rw [dMem_dPut_same s c n v (by simp [ea]), mgetN_mputN_out 1 _ _ _ _ n v hoff]
  · rw [dMem_dPut_ne s c a n v hm]

theorem dram_dPut_ne (s : State) {c d : Nat} (a n v : Nat) (hd : d ≠ c) : tget (s.dPut c a n v).dram d [] = tget s.dram d [] :=
  (Within.dPut s c a n v).drams d hd

/-- Settles O51: an address names a memory and an offset in it, and the memories answer as the laws of the tables say. -/
theorem dSpaceReadAfterWrite : Obligations.DSpaceReadAfterWrite := by
  unfold Obligations.DSpaceReadAfterWrite
  refine ⟨fun s c a n v h => dGet_dPut_same s c v h, fun s c a n v i h hi => dGet_dPut_byte s c v h hi, fun s c a n v b h hb hout => dGet_dPut_out s c n v (by omega) hb hout,
    fun s c d a n v hd => ⟨dram_dPut_ne s a n v hd, (Within.dPut s c a n v).part State.iram fun _ => rfl,
      (Within.dPut s c a n v).part State.cnvm fun _ => rfl⟩⟩

end Sys2Proof.Machine
end

section
/-! PROOFS. The loads, stores, SWP, SPILL and FILL of a core (R481, R488, R490), and what the commands of a core leave alone. -/

namespace Sys2Proof.Machine

/-! An access to D-space. -/

section
variable {s : State} {c a n : Nat} {w : Bool} (go : State → Res)

theorem dAccess_ok (hn : n ∣ a) (hr : s.dReach c a w = none) (hb : s.isBad (dPlace a).1 (ownerOf (dPlace a).1 c) (dPlace a).2 = false) :
    dAccess s c a n w go = go s := by
  have hmod : (a % n != 0) = false := by rw [Nat.mod_eq_zero_of_dvd hn, bne_self_eq_false]
  simp only [dAccess, hmod, hr, hb, Bool.false_and, Bool.false_eq_true, if_false]

theorem dAccess_misaligned (hn : ¬ n ∣ a) : dAccess s c a n w go = .trap s 3 a := by
  have hmod : (a % n != 0) = true := bne_iff_ne.2 fun h => hn (Nat.dvd_of_mod_eq_zero h)
  simp only [dAccess, hmod, if_true]

end

theorem dReach_dram (s : State) (c : Nat) {a : Nat} (w : Bool) (h : a < 0x8000) : s.dReach c a w = none := by
  simp only [State.dReach, if_pos h]

theorem dReach_none_place {s : State} {c a : Nat} {w : Bool} (h : s.dReach c a w = none) : a < 0x8000 ∨ 0x10000000 ≤ a := by
  refine Decidable.byContradiction fun ha => ?_
  have h1 : ¬ a < 0x8000 := fun h => ha (.inl h)
  have h2 : (decide (0x10000000 ≤ a) && decide (a < 0x10200000)) = false := by rw [decide_eq_false (by omega), Bool.false_and]
  have h3 : (decide (0x20000000 ≤ a) && decide (a < 0x20004000)) = false := by rw [decide_eq_false (by omega), Bool.false_and]
  have h4 : (decide (0x30000000 ≤ a) && decide (a < 0x31000000) && !w && (c == 0 || c == 11)) = false := by
    rw [decide_eq_false (by omega), Bool.false_and, Bool.false_and, Bool.false_and]
  simp only [State.dReach, if_neg h1, h2, h3, h4, Bool.or_self, Bool.false_eq_true, if_false] at h
  cases h

/-! Loads and stores. -/

section
variable {s : State} {c ra off n a : Nat} (h : s.issues c = true) (ha : add32 ((s.seen c).reg ra) off = a)
include h ha

theorem coreLoad_ok (rd : Nat) (f : Nat → Nat) (inc : Option Nat) (hr : s.dReach c a false = none)
    (hb : s.isBad (dPlace a).1 (ownerOf (dPlace a).1 c) (dPlace a).2 = false) (hn : n ∣ a) :
    coreLoad s c rd ra off n f inc = s.setCr c (inc.elim ((s.seen c).result 2 rd (f (s.dGet c a n))) fun d =>
      ((s.seen c).result 2 rd (f (s.dGet c a n))).result 1 ra (add32 (((s.seen c).result 2 rd (f (s.dGet c a n))).reg ra) d)).finish := by
  refine coreIssue_ok h ?_
  dsimp only
  rw [ha, dAccess_ok _ hn hr hb]
  cases inc <;> rfl

theorem coreStore_ok (rs : Nat) (inc : Option Nat) (hr : s.dReach c a true = none)
    (hb : s.isBad (dPlace a).1 (ownerOf (dPlace a).1 c) (dPlace a).2 = false) (hn : n ∣ a) :
    coreStore s c rs ra off n inc = (s.dPut c a n ((s.seen c).reg rs)).setCr c
      (inc.elim (s.seen c) fun d => (s.seen c).result 1 ra (add32 ((s.seen c).reg ra) d)).finish := by
  refine coreIssue_ok h ?_
  dsimp only
  rw [ha, dAccess_ok _ hn hr hb]
  cases inc <;> rfl

theorem coreLoad_misaligned (rd : Nat) (f : Nat → Nat) (inc : Option Nat) (hn : ¬ n ∣ a) :
    coreLoad s c rd ra off n f inc = coreTrap s c (s.seen c) 3 a :=
  coreIssue_trap h ((congrArg (dAccess s c · n false _) ha).trans (dAccess_misaligned _ hn))

theorem coreStore_misaligned (rs : Nat) (inc : Option Nat) (hn : ¬ n ∣ a) :
    coreStore s c rs ra off n inc = coreTrap s c (s.seen c) 3 a :=
  coreIssue_trap h ((congrArg (dAccess s c · n true _) ha).trans (dAccess_misaligned _ hn))

end

@[simp] theorem Core.reg_result (k : Core) (n r v q : Nat) : (k.result n r v).reg q = k.reg q := by
  unfold Core.result
  split <;> rfl

theorem coreSwap_ok {s : State} {c ra a : Nat} (h : s.issues c = true) (ha : (s.seen c).reg ra = a) (rd rb : Nat)
    (hreg : a < 0x8000 ∨ 0x10000000 ≤ a ∧ a < 0x10200000) (hr : s.dReach c a true = none)
    (hb : s.isBad (dPlace a).1 (ownerOf (dPlace a).1 c) (dPlace a).2 = false) (hn : 4 ∣ a) :
    coreSwap s c rd ra rb = (s.dPut c a 4 ((s.seen c).reg rb)).setCr c ((s.seen c).result 2 rd (s.dGet c a 4)).finish := by
  have hin : (decide (a < 0x8000) || decide (0x10000000 ≤ a) && decide (a < 0x10200000)) = true := by
    simpa only [Bool.or_eq_true, Bool.and_eq_true, decide_eq_true_eq] using hreg
  refine coreIssue_ok h ?_
  simp only [ha, hin, Bool.not_true, Bool.and_false, Bool.false_eq_true, if_false]
  exact dAccess_ok _ hn hr hb

theorem coreSwap_out {s : State} {c ra : Nat} (h : s.issues c = true) (rd rb : Nat) (h4 : 4 ∣ (s.seen c).reg ra)
    (ha : 0x20000000 ≤ (s.seen c).reg ra) : coreSwap s c rd ra rb = coreTrap s c (s.seen c) 2 ((s.seen c).reg ra) := by
  refine coreIssue_trap h ?_
  have hin : (decide ((s.seen c).reg ra < 0x8000) || decide (0x10000000 ≤ (s.seen c).reg ra) && decide ((s.seen c).reg ra < 0x10200000)) = false := by
    rw [decide_eq_false (by omega), decide_eq_false (by omega : ¬ (s.seen c).reg ra < 0x10200000), Bool.and_false, Bool.or_self]
  simp only [hin, Nat.mod_eq_zero_of_dvd h4, decide_true, Bool.not_false, Bool.and_self, if_true]

/-! SPILL and FILL in D-RAM. -/

theorem spillReach_dram {s : State} {c p : Nat} (w : Bool) (go : State → Res) (hp : p + 64 ≤ 0x8000)
    (hb : ∀ i < 16, s.isBad 1 c (p + 4 * i) = false) : spillReach s c p w go = go s := by
  have hnone : ((List.range 16).find? fun i => (s.dReach c (p + 4 * i) w).isSome ||
      s.isBad (dPlace (p + 4 * i)).1 (ownerOf (dPlace p).1 c) (dPlace (p + 4 * i)).2) = none := by
    refine List.find?_eq_none.2 fun i hi => ?_
    have hi' : i < 16 := List.mem_range.1 hi
    rw [dReach_dram s c w (by omega), dPlace_dram (by omega : p + 4 * i < 0x8000), dPlace_dram (by omega : p < 0x8000)]
    simpa [ownerOf] using hb i hi'
  simp only [spillReach, hnone]

theorem spillOk_dram {p : Nat} (hp : p + 64 ≤ 0x8000) : spillOk p = true := by
  rw [spillOk, decide_eq_true hp, Bool.true_or]

theorem coreSpill_dram {s : State} {c : Nat} (h : s.issues c = true) (hf : (s.seen c).frames ≠ 1) (hp : (s.seen c).spillp + 64 ≤ 0x8000)
    (hb : ∀ i < 16, s.isBad 1 c ((s.seen c).spillp + 4 * i) = false) :
    coreSpill s c = (s.each (List.range 16) fun u i => u.dPut c ((s.seen c).spillp + 4 * i) 4 (tget (s.seen c).win (winIdx (s.seen c).oldest i) 0)).setCr c
      ({ s.seen c with spillp := (s.seen c).spillp + 64, frames := (s.seen c).frames - 1 } : Core).finish := by
  have hadd : add32 (s.seen c).spillp 64 = (s.seen c).spillp + 64 := Nat.mod_eq_of_lt (by omega)
  refine coreIssue_ok h ?_
  simp only [if_neg hf, spillOk_dram hp, Bool.not_true, Bool.false_eq_true, if_false]
  rw [spillReach_dram true _ hp hb, hadd]

theorem coreFill_dram {s : State} {c p : Nat} (h : s.issues c = true) (hf : (s.seen c).frames ≠ 15) (hsp : (s.seen c).spillp = p + 64)
    (hp : p + 64 ≤ 0x8000) (hb : ∀ i < 16, s.isBad 1 c (p + 4 * i) = false) :
    coreFill s c = s.setCr c ({ s.seen c with
      spillp := p, frames := (s.seen c).frames + 1,
      win := (List.range 16).foldl (fun w i => tput w (winIdx (((s.seen c).oldest + 232) % 248) i) 0 (s.dGet c (p + 4 * i) 4)) (s.seen c).win } :
        Core).finish := by
  have hadd : add32 (s.seen c).spillp (2 ^ 32 - 64) = p := by
    rw [hsp, add32]
    omega
  refine coreIssue_ok h ?_
  simp only [if_neg hf, hadd, spillOk_dram hp, Bool.not_true, Bool.false_eq_true, if_false]
  rw [spillReach_dram false _ hp hb]

theorem signExtend_word {w : Nat} (hw : 0 < w) (hle : w ≤ 32) (v : Nat) : unsgn 32 (sgn w v) = ((BitVec.ofNat w v).signExtend 32).toNat := by
  rw [sgn_eq_toInt hw, ← BitVec.toInt_signExtend_of_le hle, unsgn_toInt]

/-- Settles O28: an aligned access that D-space gives does what the instruction does of itself, and a misaligned one takes its trap first. -/
theorem coreMemoryAccess : Obligations.CoreMemoryAccess := by
  unfold Obligations.CoreMemoryAccess
  have haddr {s : State} {c ra imm a : Nat} (ha : a = ((s.seen c).word ra + immWord imm).toNat) : add32 ((s.seen c).reg ra) (sx16 imm) = a :=
    (add32_sx16 ..).trans ha.symm
  have hbase {s : State} {c ra a : Nat} (ha : a = ((s.seen c).word ra).toNat) : add32 ((s.seen c).reg ra) 0 = a := (add32_zero _).trans ha.symm
  refine ⟨?ldw, ?ldh, ?ldhu, ?ldb, ?ldbu, ?stw, ?sth, ?stb, ?ldwp, ?stwp, ?swp, ?ldwMisaligned, ?sthMisaligned, ?swpOut, ?spillOne, ?spill,
    ?fillFull, ?fill⟩
  case ldw | ldhu => exact fun s c rd ra imm a h ha hr hb hn => congrArg Host.Outcome.next (coreLoad_ok h (haddr ha) rd id none hr hb hn)
  case ldbu => exact fun s c rd ra imm a h ha hr hb => congrArg Host.Outcome.next (coreLoad_ok h (haddr ha) rd id none hr hb (Nat.one_dvd a))
  case ldh =>
    intro s c rd ra imm a h ha hr hb hn
    rw [← signExtend_word (by decide) (by decide)]
    exact congrArg Host.Outcome.next (coreLoad_ok h (haddr ha) rd (fun v => unsgn 32 (sgn 16 v)) none hr hb hn)
  case ldb =>
    intro s c rd ra imm a h ha hr hb
    rw [← signExtend_word (by decide) (by decide)]
    exact congrArg Host.Outcome.next (coreLoad_ok h (haddr ha) rd (fun v => unsgn 32 (sgn 8 v)) none hr hb (Nat.one_dvd a))
  case stw | sth => exact fun s c rs ra imm a h ha hr hb hn => congrArg Host.Outcome.next (coreStore_ok h (haddr ha) rs none hr hb hn)
  case stb => exact fun s c rs ra imm a h ha hr hb => congrArg Host.Outcome.next (coreStore_ok h (haddr ha) rs none hr hb (Nat.one_dvd a))
  case ldwp =>
    intro s c rd ra imm a h ha hr hb hn
    refine congrArg Host.Outcome.next ((coreLoad_ok h (hbase ha) rd id (some (sx16 imm)) hr hb hn).trans ?_)
    rw [Option.elim_some, Core.reg_result, add32_sx16, Core.word]
    rfl
  case stwp =>
    intro s c rs ra imm a h ha hr hb hn
    refine congrArg Host.Outcome.next ((coreStore_ok h (hbase ha) rs (some (sx16 imm)) hr hb hn).trans ?_)
    rw [Option.elim_some, add32_sx16, Core.word]
  case swp => exact fun s c rd ra rb a h ha hreg hr hb hn => congrArg Host.Outcome.next (coreSwap_ok h ha.symm rd rb hreg hr hb hn)
  case ldwMisaligned =>
    exact fun s c rd ra imm a h ha hn => congrArg Host.Outcome.next (coreLoad_misaligned h (haddr ha) rd id none hn)
  case sthMisaligned => exact fun s c rs ra imm a h ha hn => congrArg Host.Outcome.next (coreStore_misaligned h (haddr ha) rs none hn)
  case swpOut => exact fun s c rd ra rb h h4 ha => congrArg Host.Outcome.next (coreSwap_out h rd rb h4 ha)
  case spillOne => exact fun s c h hf => congrArg Host.Outcome.next (coreIssue_ok h (if_pos hf))
  case fillFull => exact fun s c h hf => congrArg Host.Outcome.next (coreIssue_ok h (if_pos hf))
  case spill =>
    rintro s c p k h rfl hf rfl hp - hb
    exact congrArg Host.Outcome.next (coreSpill_dram h hf hp hb)
  case fill =>
    rintro s c p k h rfl hf hsp hp - hb
    exact congrArg Host.Outcome.next (coreFill_dram h hf hsp hp hb)

/-! What the commands of a core leave alone. -/

theorem Within.dGet {c b : Nat} {s t : State} (h : Within c false s t) (n : Nat) : t.dGet c b n = s.dGet c b n := by
  obtain ⟨hdram, hsram, hrind⟩ := h.loads rfl
  have hcnvm : t.cnvm = s.cnvm := h.part State.cnvm fun _ => rfl
  rw [State.dGet, hdram, hsram, hrind, hcnvm, State.dGet]

/-- What holds whether the core issues nothing, meets a bad word or runs the instruction holds after it. -/
theorem coreIssue_cases {P : State → Prop} {s : State} {c : Nat} {f : State → Core → Res} (hstop : P s) (hfetch : P (fetchTrap s c))
    (hok : ∀ t k, f s (s.seen c) = .ok t k → P (t.setCr c k.finish))
    (htrap : ∀ t v ev, f s (s.seen c) = .trap t v ev → P (coreTrap t c (s.seen c) v ev))
    (hstall : ∀ t, f s (s.seen c) = .stall t → P t) : P (coreIssue s c f) := by
  unfold coreIssue
  dsimp only
  split
  · exact hstop
  · split
    · exact hfetch
    · split
      case h_1 t k h => exact hok t k h
      case h_2 t v ev h => exact htrap t v ev h
      case h_3 t h => exact hstall t h

/-- A store of a core that takes a trap stores nothing, and one that does not stores at an address that D-space has. -/
theorem dAccess_store {s : State} {c a n v : Nat} {k : Core} {r : Res} (h : dAccess s c a n true (fun s => .ok (s.dPut c a n v) k) = r) :
    (r = .ok (s.dPut c a n v) k ∧ (a < 0x8000 ∨ 0x10000000 ≤ a)) ∨ (∃ t, t.still = s.still ∧ (r = .stall t ∨ ∃ x ev, r = .trap t x ev)) := by
  subst h
  unfold dAccess
  split
  · exact .inr ⟨s, rfl, .inr ⟨3, a, rfl⟩⟩
  · split
    case h_1 => exact .inr ⟨_, still_dStall s c a, .inl rfl⟩
    case h_2 x _ _ => exact .inr ⟨s, rfl, .inr ⟨x, a, rfl⟩⟩
    case h_3 hr =>
      dsimp only
      split
      · exact .inr ⟨_, still_eccUe .., .inr ⟨_, a, rfl⟩⟩
      · exact .inl ⟨rfl, dReach_none_place hr⟩

theorem dGet_coreStore_out (s : State) (c rs ra off n : Nat) {b : Nat} (hb : b < 0x8000 ∨ 0x10000000 ≤ b)
    (hout : b < add32 ((s.seen c).reg ra) off ∨ add32 ((s.seen c).reg ra) off + n ≤ b) :
    (coreStore s c rs ra off n none).dGet c b 1 = s.dGet c b 1 := by
  have hseen : (s.cr c).Ok → (s.seen c).Ok := fun h => h.tick.ok
  refine coreIssue_cases (P := fun t => t.dGet c b 1 = s.dGet c b 1) rfl ((within_fetchTrap c false s).dGet 1) (fun t k h => ?_)
    (fun t v ev h => ?_) fun t h => ?_ <;> rcases dAccess_store h with ⟨he, ha⟩ | ⟨u, hu, he | ⟨x, y, he⟩⟩ <;> cases he
  · exact dGet_dPut_out s c n _ (ha.imp_right .inl) hb hout
  · have hcr : t.cr c = s.cr c := eq_of_still (State.cr · c) (fun _ => rfl) hu
    exact ((Within.of_still c false hu).trans (within_coreTrap false t (fun h => hseen (hcr ▸ h)) v ev false)).dGet 1
  · exact (Within.of_still c false hu).dGet 1

/-- Settles O52: the frame of every command by O58's step lemma, and of a store byte by byte. -/
theorem coreFrame : Obligations.CoreFrame := by
  unfold Obligations.CoreFrame
  refine ⟨fun s t i c d hi h hd => ?_, fun s t i c hi hst h => (within_exec hi h).loads hst, ?stw, ?sth, ?stb⟩
  · have hw := within_exec hi h
    exact ⟨hw.cores d hd, hw.drams d hd, hw.part State.iram fun _ => rfl, hw.part State.eeprom fun _ => rfl, hw.part State.nvm fun _ => rfl,
      hw.part State.cnvm fun _ => rfl, hw.part State.msgRam fun _ => rfl, hw.part State.mbox fun _ => rfl, hw.part State.soft fun _ => rfl,
      hw.part State.fuse fun _ => rfl, hw.part State.boot fun _ => rfl, hw.part State.chan fun _ => rfl, hw.part State.bridge fun _ => rfl,
      hw.part State.valve fun _ => rfl, hw.part State.fio fun _ => rfl, hw.part State.shadow fun _ => rfl, hw.part State.tb fun _ => rfl⟩
  all_goals
    intro s t c rs ra imm a b h ha hb hout
    rw [Core.word, ← add32_sx16] at ha
    subst ha
    exact Host.Outcome.next.inj h ▸ dGet_coreStore_out s c rs ra (sx16 imm) _ hb hout

end Sys2Proof.Machine
end

section
/-! PROOFS. When a result is seen (R476). -/

namespace Sys2Proof.Machine

/-- A core with a pending result of distance 0, which no instruction issues: a result's distance is 1 or more (R476). -/
def zeroDistance : Core := { pend := [{ left := 0, dest := .glob 1, val := 0 }] }

/-- Refutes O49: its last clause speaks of every core, also one with a result of distance 0, which is still pending when no
instruction has issued. -/
theorem not_resultDistances : ¬ Obligations.ResultDistances := by
  unfold Obligations.ResultDistances
  rintro ⟨-, -, -, h⟩
  exact absurd (h zeroDistance 0 (by decide)) (by decide)

end Sys2Proof.Machine
end

section
/-! PROOFS. A page write of the data EEPROM (R508, R511): the bytes that it lands, and the end of a direct write. -/

namespace Sys2Proof.Machine

/-! The bytes of a page write. -/

theorem eeStore_cons (s : State) (p o : Nat) (b : Byte) (r : List Byte) : eeStore s p o (b :: r) = eeStore
    { s with eeprom := mput s.eeprom 0xFF (64 * p + o % 64) b, torn := s.torn.filter fun e => e.1 != (64 * p + o % 64) / 4 } p (o + 1) r := rfl

/-- A page write touches the EEPROM and the record of its torn words alone. -/
theorem eeStore_form (data : List Byte) : ∀ (s : State) (p o : Nat), ∃ m r, eeStore s p o data = { s with eeprom := m, torn := r } := by
  induction data with
  | nil => exact fun s _ _ => ⟨s.eeprom, s.torn, rfl⟩
  | cons b r ih =>
    intro s p o
    obtain ⟨m, q, h⟩ := ih { s with eeprom := mput s.eeprom 0xFF (64 * p + o % 64) b, torn := s.torn.filter fun e => e.1 != (64 * p + o % 64) / 4 } p (o + 1)
    exact ⟨m, q, (eeStore_cons s p o b r).trans h⟩

theorem mget_eeStore_out (data : List Byte) : ∀ (s : State) (p o a : Nat), (∀ j < data.length, a ≠ 64 * p + (o + j) % 64) →
    mget (eeStore s p o data).eeprom 0xFF a = mget s.eeprom 0xFF a := by
  induction data with
  | nil => exact fun _ _ _ _ _ => rfl
  | cons b r ih =>
    intro s p o a ha
    rw [eeStore_cons, ih _ p (o + 1) a fun j hj => ?_]
    · exact mget_mput_ne _ _ b (ha 0 (Nat.succ_pos _))
    · rw [Nat.add_right_comm, Nat.add_assoc]
      exact ha (j + 1) (Nat.succ_lt_succ hj)

/-- Byte `j` of the data lands at OFFSET + `j`, modulo the size of the page (R511). -/
theorem mget_eeStore_in (data : List Byte) : ∀ (s : State) (p o j : Nat), data.length ≤ 64 → j < data.length →
    mget (eeStore s p o data).eeprom 0xFF (64 * p + (o + j) % 64) = data.getD j 0 := by
  induction data with
  | nil => exact fun _ _ _ _ _ hj => absurd hj (Nat.not_lt_zero _)
  | cons b r ih =>
    intro s p o j hlen hj
    rw [List.length_cons] at hlen hj
    rw [eeStore_cons]
    cases j with
    | zero => exact (mget_eeStore_out r _ p (o + 1) _ fun i hi => by omega).trans (mget_mput_same _ _ _ b)
    | succ j =>
      rw [← Nat.add_assoc, Nat.add_right_comm, List.getD_cons_succ]
      exact ih _ p (o + 1) j (by omega) (by omega)

theorem eeUe_torn {s t : State} (h : t.torn = s.torn) (i : Nat) : t.eeUe i = s.eeUe i := by rw [State.eeUe, h, State.eeUe]

theorem eeUe_eeStore_of_not (data : List Byte) : ∀ (s : State) (p o i : Nat), s.eeUe i = false → (eeStore s p o data).eeUe i = false := by
  induction data with
  | nil => exact fun _ _ _ _ h => h
  | cons b r ih =>
    intro s p o i h
    rw [eeStore_cons]
    refine ih _ p (o + 1) i ?_
    rw [State.eeUe, List.any_eq_false] at h ⊢
    exact fun e he => h e (List.mem_filter.1 he).1

/-- A word that a page write touches is no longer torn (R516). -/
theorem eeUe_eeStore (data : List Byte) : ∀ (s : State) (p o i j : Nat), j < data.length → i = (64 * p + (o + j) % 64) / 4 →
    (eeStore s p o data).eeUe i = false := by
  induction data with
  | nil => exact fun _ _ _ _ _ hj => absurd hj (Nat.not_lt_zero _)
  | cons b r ih =>
    intro s p o i j hj hi
    rw [eeStore_cons]
    cases j with
    | zero =>
      refine eeUe_eeStore_of_not r _ p (o + 1) i ?_
      rw [State.eeUe, List.any_eq_false]
      intro e he
      have hne : e.1 ≠ i := by simpa [hi] using (List.mem_filter.1 he).2
      simp [hne]
    | succ j => exact ih _ p (o + 1) i j (Nat.lt_of_succ_lt_succ hj) (by rw [hi, Nat.add_right_comm, Nat.add_assoc])

/-! The end of a direct write. -/

/-- The state in which the page write of a direct write has landed, before the operation ends. -/
def landed (s : State) (w : NvWrite) : State :=
  nvShow ((eeStore s w.page w.off w.data).upNvm fun x => { x with run := none, stage := x.stage + 1 })

theorem quiet_nvShow (s : State) : (nvShow s).quiet = s.quiet := rfl

theorem quiet_landed (s : State) (w : NvWrite) : (landed s w).quiet =
    ((eeStore s w.page w.off w.data).upNvm fun x => { x with run := none, stage := x.stage + 1 }).quiet := quiet_nvShow _

theorem nvComplete_direct {s : State} {w : NvWrite} {q : List NvOp} (hrun : s.nvm.run = some w)
    (hq : s.nvm.queue = .direct w.page w.off w.data :: q) : nvComplete s = (nvPop (landed s w)).irq nvmPage 0 := by
  obtain ⟨m, r, he⟩ := eeStore_form w.data s w.page w.off
  have hstage : (landed s w).nvm.stage = s.nvm.stage + 1 := by
    rw [eq_of_quiet State.nvm (fun _ => rfl) (quiet_landed s w), he]
    rfl
  have hplan : nvPlan (landed s w) (.direct w.page w.off w.data) (landed s w).nvm.stage = none := by
    rw [hstage]
    rfl
  unfold nvComplete
  simp only [hrun, hq]
  exact if_neg (by rw [show nvShow _ = landed s w from rfl, hplan]; exact Bool.false_ne_true)

theorem quiet_nvPop (s : State) : (nvPop s).quiet = (s.upNvm fun x => { x with
    queue := x.queue.drop 1, stage := (x.cutOff.getD (0, none)).1, run := none, result := (x.cutOff.getD (0, none)).2, cutOff := none,
    waitFrom := none }).quiet := rfl

/-- What the page write of a direct write leaves outside the registers: its bytes, and the queue without it. -/
theorem exec_pageWriteComplete_direct {s : State} {w : NvWrite} {q : List NvOp} (hrun : s.nvm.run = some w)
    (hq : s.nvm.queue = .direct w.page w.off w.data :: q) (hon : s.domOn 10 = true) (hstall : s.stall = []) :
    exec .pageWriteComplete s = .next ((nvPop (landed s w)).irq nvmPage 0) := by
  have hs : ((nvPop (landed s w)).irq nvmPage 0).stall = [] := by
    obtain ⟨m, r, he⟩ := eeStore_form w.data s w.page w.off
    rw [eq_of_quiet State.stall (fun _ => rfl) (quiet_irq ..), eq_of_quiet State.stall (fun _ => rfl) (quiet_nvPop _)]
    exact (eq_of_quiet State.stall (fun _ => rfl) (quiet_landed s w)).trans (he ▸ hstall)
  rw [exec_pageWriteComplete, execPageWriteComplete, hrun]
  simp only [hon, if_true, nvComplete_direct hrun hq, serveAll, hs, List.filter_nil, List.foldl_nil]

theorem part_pageWriteDone {α : Type} (f : State → α) (hf : ∀ u : State, f u.quiet = f u) (hn : ∀ (u : State) (g : Nvm → Nvm), f (u.upNvm g) = f u)
    (s : State) (w : NvWrite) : f ((nvPop (landed s w)).irq nvmPage 0) = f (eeStore s w.page w.off w.data) := by
  rw [eq_of_quiet f hf (quiet_irq ..), eq_of_quiet f hf (quiet_nvPop _), hn, eq_of_quiet f hf (quiet_landed s w), hn]

theorem nvm_pageWriteDone (s : State) (w : NvWrite) : ((nvPop (landed s w)).irq nvmPage 0).nvm.run = none ∧
    ((nvPop (landed s w)).irq nvmPage 0).nvm.queue = s.nvm.queue.drop 1 := by
  obtain ⟨m, r, he⟩ := eeStore_form w.data s w.page w.off
  have hq : (landed s w).nvm.queue = s.nvm.queue := by
    rw [eq_of_quiet State.nvm (fun _ => rfl) (quiet_landed s w), he]
    rfl
  rw [eq_of_quiet State.nvm (fun _ => rfl) (quiet_irq ..), eq_of_quiet State.nvm (fun _ => rfl) (quiet_nvPop _)]
  exact ⟨rfl, congrArg (List.drop 1) hq⟩

theorem irqRaw_bit_irq (s : State) (p : Nat) {b : Nat} (hb : b < 32) : bitOf ((s.irq p b).get H_IRQ_RAW p) b = true := by
  rw [State.irq, irqRaw_risen, State.raise, irqRaw_bit_raiseMask s p _ hb, Nat.one_shiftLeft, Nat.testBit_two_pow_self, Bool.or_true]

/-- Settles O36: a direct write's last page write lands its bytes, ends the operation and serves no access, since none waits. -/
theorem eepromPageWrite : Obligations.EepromPageWrite := by
  unfold Obligations.EepromPageWrite
  refine ⟨fun s w q hrun hq hon hstall _ hlen => ?_, fun s w q i hrun hq hon hstall _ _ ⟨j, hj, hi⟩ => ?_⟩
  · have hee : ((nvPop (landed s w)).irq nvmPage 0).eeprom = (eeStore s w.page w.off w.data).eeprom :=
      part_pageWriteDone State.eeprom (fun _ => rfl) (fun _ _ => rfl) s w
    obtain ⟨hr, hqueue⟩ := nvm_pageWriteDone s w
    refine ⟨_, exec_pageWriteComplete_direct hrun hq hon hstall, fun j hj => ?_, fun a ha => ?_, hr, ?_, irqRaw_bit_irq _ nvmPage (by decide)⟩
    · rw [hee, mget_eeStore_in w.data s w.page w.off j hlen hj]
    · rw [hee, mget_eeStore_out w.data s w.page w.off a ha]
    · rw [hqueue, hq, List.drop_one, List.tail_cons]
  · have htorn : ((nvPop (landed s w)).irq nvmPage 0).torn = (eeStore s w.page w.off w.data).torn :=
      part_pageWriteDone State.torn (fun _ => rfl) (fun _ _ => rfl) s w
    exact ⟨_, exec_pageWriteComplete_direct hrun hq hon hstall, (eeUe_torn htorn i).trans (eeUe_eeStore w.data s w.page w.off i j hj hi)⟩

end Sys2Proof.Machine
end

section
/-! PROOFS. The unlock sequence on the page of a power stage: commits that are due apply before a write to such a page (R17), and one of them
can be rejected there too. -/

namespace Sys2Proof.Machine

/-- Slot 0 boils, and its COMMIT0, due now, is DRIVE of bridge 2 with the reserved code 7 (R315). -/
def refusedCommitDue : State := (State.reset.set AHD_CTX_CTRL_STATE ahdPage 2).set AHD_COMMIT0 ahdPage (3 + 0x42 * 16 + 7 * 2 ^ 15)

/-- The second key without the first, written to the page of bridge 2, finds the commit's rejection counted. -/
theorem rejected_lockkey_refusedCommitDue : (regWrite refusedCommitDue .hk 0x42 0x20 0xA5A50042).get H_EVT_CNT_REJECTED 0x42 = 2 := by
  decide +kernel

/-- Refutes O47: its third clause counts one rejection of a failed key on every page, and in `refusedCommitDue` the commit that applies
ahead of the write to the page of bridge 2 counts another. -/
theorem not_unlockSequence : ¬ Obligations.UnlockSequence := by
  unfold Obligations.UnlockSequence
  rintro ⟨-, -, h, -⟩
  have hkey := h refusedCommitDue .hk 0x42 0xA5A50042 (by decide) (by decide) (by decide) (by decide) (by decide) (by decide)
  rw [exec_lockkeyWrite, execLockkeyWrite, completes_next] at hkey
  obtain ⟨-, -, hcount⟩ := hkey
  have hone : min (refusedCommitDue.get H_EVT_CNT_REJECTED 0x42 + 1) 65535 = 1 := by decide
  rw [hone] at hcount
  exact absurd (rejected_lockkey_refusedCommitDue.symm.trans hcount) (by decide)

end Sys2Proof.Machine
end

section
/-! PROOFS. The queue of commands and the state after reset. -/

namespace Sys2Proof.Machine

/-- Settles O1: both clauses are the two cases of `step`. -/
theorem stepRunsFront : Obligations.StepRunsFront := by
  unfold Obligations.StepRunsFront
  refine ⟨fun _ _ _ => rfl, fun s hempty => ?_⟩
  rw [step, hempty]

/-- The table of register values after reset holds one entry, TB_STAT.SRC. -/
theorem State.rd_reset {l : Loc} (hl : l.key ≠ (TB_STAT_SRC.loc 5).key) : State.reset.rd l = l.rst :=
  if_neg (Ne.symm hl)

/-- Settles O45: the reset state is the record of its defaults. -/
theorem resetState : Obligations.ResetState := by
  unfold Obligations.ResetState
  exact ⟨rfl, fun l hl => State.rd_reset hl, by decide, fun c => rfl, ⟨rfl, rfl⟩, ⟨rfl, rfl, rfl, rfl, rfl⟩, rfl, rfl, rfl, rfl⟩

end Sys2Proof.Machine
end

section
/-! PROOFS. Accesses of the register header and the bus (chapter 3). -/

namespace Sys2Proof.Machine

/-- Two fields of one page are in different bits when their places in the page differ. -/
theorem key_ne_of_place {f g : Fld} {i j a b : Nat} (h : f.pos i j * 32 + f.lo ≠ g.pos a b * 32 + g.lo) (p : Nat) :
    (f.loc p i j).key ≠ (g.loc p a b).key := by
  simp only [Fld.loc, bitKey]
  omega

/-! What `State.takes` says of a write, one part at a time. -/

/-- A write whose page is on, held and not exempt goes to the end of the shadow, unless a stored first key is broken. -/
theorem accessWrite_held {s : State} {p off : Nat} (m : Master) (v : Nat) (eff : Nat → State → State) (hf : s.clk.frozen = false)
    (hu : pageUsed p = true) (ho : s.pageOn p = true) (hh : s.flag H_STAT_HELD p = true) (he : holdExempt p off = false)
    (hk : breaksKey s p off = false) : accessWrite s m p off v eff = shadowPush (s.reached p) m p off v := by
  have hk' : breaksKey (s.reached p) p off = false := by rw [breaksKey_reached, hk]
  have hr : (s.needPage p).answer .ok = s.reached p := rfl
  simp [accessWrite, hf, hu, ho, hr, hk', hh, he]

@[simp] theorem State.reached_shadow (s : State) (p : Nat) : (s.reached p).shadow = s.shadow := by
  obtain ⟨w, d, h⟩ := s.reached_form p
  rw [h]

/-- A register write of the header is a register write whatever else its page does. -/
theorem regPut_header {s : State} {p off : Nat} (m : Master) (v : Nat) (hoff : off < 0x40) (hb : p ≠ nvmPage ∨ s.macroBusy = false) :
    regPut s m p off v = accessWrite s m p off v (regEff m p off) := by
  have ha : decide (0x40 ≤ off) = false := decide_eq_false (by omega)
  have hc : decide (off = 0x40) = false := decide_eq_false (by omega)
  by_cases hp : p = nvmPage
  · have hb' : s.macroBusy = false := hb.resolve_left (not_not_intro hp)
    have hq : nvmPage ≠ ahdPage ∧ nvmPage ≠ nmkPage := by decide
    simp [regPut, nvmWrite, hp, hb', hq]
  · simp [regPut, hp, ha, hc]

/-- LOCKKEY has one field, without a range or a lock, and no HOLD reaches it (R70, R71). -/
theorem accessWrite_lockkey {s : State} {p : Nat} (m : Master) (v : Nat) (hf : s.clk.frozen = false) (hu : pageUsed p = true)
    (ho : s.pageOn p = true) : accessWrite s m p 0x20 v (regEff m p 0x20) = lockKey (s.reached p) m p v := by
  have hr : (s.needPage p).answer .ok = s.reached p := rfl
  have hrange : rangeOk p 0x20 v = true := rfl
  have hlock : lockBroken (s.reached p) p 0x20 v = false := Bool.and_false _
  have hkey : breaksKey (s.reached p) p 0x20 = false := rfl
  have hhold : holdExempt p 0x20 = true := rfl
  simp [accessWrite, checkedWrite, hf, hu, ho, hr, hrange, hlock, hkey, hhold, regEff, headerEff]

/-! CTRL. -/

theorem flag_en_of_rest (s : State) (p : Nat) :
    ((s.put H_STAT_DRAINING p false).put H_STAT_IDLE p true).flag H_CTRL_EN p = s.flag H_CTRL_EN p := by
  have hidle : (H_CTRL_EN.loc p).key ≠ (H_STAT_IDLE.loc p).key := key_ne_of_place (by decide) p
  have hdrain : (H_CTRL_EN.loc p).key ≠ (H_STAT_DRAINING.loc p).key := key_ne_of_place (by decide) p
  rw [State.flag_put_ne _ _ hidle, State.flag_put_ne _ _ hdrain]

/-- A write of CTRL that is not barred, asks for no reset and changes no HOLD is a write of EN. -/
theorem ctrlEff_en {s : State} {m : Master} {p v : Nat} (hbar : s.ctrlBarred p (bitOf v 0) = false) (hsrst : bitOf v 1 = false)
    (hhold : bitOf v 2 = s.flag H_CTRL_HOLD p) : ctrlEff m p v s = enWrite s p (bitOf v 0) := by
  simp [ctrlEff, hbar, hsrst, hhold]

/-- A write of CTRL by the HK or the host that changes HOLD only. -/
theorem ctrlEff_hold {s : State} {m : Master} {p v : Nat} (hm : m = .hk ∨ m = .host) (hbar : s.ctrlBarred p (bitOf v 0) = false)
    (hsrst : bitOf v 1 = false) (hen : s.flag H_CTRL_EN p = bitOf v 0) (hhold : s.flag H_CTRL_HOLD p = !bitOf v 2) :
    ctrlEff m p v s = holdWrite s p (bitOf v 2) := by
  have hmaster : (m.code != 0 && m.code != 12) = false := by
    rcases hm with rfl | rfl <;> rfl
  have hchange : (bitOf v 2 != s.flag H_CTRL_HOLD p) = true := by
    rw [hhold]
    cases bitOf v 2 <;> rfl
  simp only [ctrlEff, hbar, hsrst, hchange, hmaster, enWrite, hen, Bool.false_and, Bool.true_and, Bool.or_self,
    Bool.false_eq_true, if_false, if_true, Bool.not_false, Bool.and_true]

/-- A write of CTRL.SRST at rest, which leaves EN and HOLD as they are, resets the page. -/
theorem ctrlEff_srst {s : State} {m : Master} {p v : Nat} (hbar : s.ctrlBarred p (bitOf v 0) = false) (hsrst : bitOf v 1 = true)
    (hp : p ≠ govPage) (hidle : s.idle p = true) (hen : (softReset s p).flag H_CTRL_EN p = bitOf v 0) (hhold : bitOf v 2 = s.flag H_CTRL_HOLD p) :
    ctrlEff m p v s = softReset s p := by
  simp [ctrlEff, hbar, hsrst, hidle, hp, enWrite, hen, hhold]

/-- The three bits that a CTRL command writes. -/
theorem bitOf_ctrl (en srst hold : Bool) :
    bitOf (b2n en + 2 * b2n srst + 4 * b2n hold) 0 = en ∧ bitOf (b2n en + 2 * b2n srst + 4 * b2n hold) 1 = srst ∧
      bitOf (b2n en + 2 * b2n srst + 4 * b2n hold) 2 = hold := by
  cases en <;> cases srst <;> cases hold <;> decide

theorem ctrlWrite_takes {s b : State} {m : Master} {p : Nat} {f : State → Bool × Bool × Bool} {en srst hold : Bool} (hb : s.busAt p = b)
    (hf : f b = (en, srst, hold)) (ht : b.takes p 8 (b2n en + 2 * b2n srst + 4 * b2n hold) = true) :
    ctrlWrite s m p f = ctrlEff m p (b2n en + 2 * b2n srst + 4 * b2n hold) (b.reached p) := by
  rw [ctrlWrite, hb, hf, regPut_takes b m p 8 _ (Or.inr (Or.inl (by decide))) ht]
  rfl

theorem ctrlBarred_reached (s : State) (p q : Nat) (en : Bool) : (s.reached q).ctrlBarred p en = s.ctrlBarred p en := by
  simp only [State.ctrlBarred, State.reached_flag]

/-- IRQ_RAW is alone at its offset and acts as W1C. -/
theorem headerEff_irqRaw (m : Master) (p : Nat) (v : Word) (s : State) :
    headerEff m p 0x10 v.toNat s = s.risen p (s.set H_IRQ_RAW p (andNot (s.get H_IRQ_RAW p) v.toNat)) := by
  have he : headerEff m p 0x10 v.toNat s = s.risen p (s.set H_IRQ_RAW p (andNot (s.get H_IRQ_RAW p) (v.toNat % 2 ^ 32))) := rfl
  rw [he, Nat.mod_eq_of_lt v.isLt]

/-- A core's stalled accesses are kept under its number. -/
theorem ofCode_key {c : Nat} (hc : c < 12) : (Master.ofCode c).key = c :=
  (by decide : ∀ c < 12, (Master.ofCode c).key = c) c hc

/-- The only stalled access, one of a core that is not frozen in an instruction fetch, ends with a timeout. -/
theorem stallEnd_core {s : State} {c : Nat} {r : Stall} (hc : c < 12) (hs : s.stall = [(c, r)]) (hr : r.retry = false) :
    stallEnd s c .timeout 2 = ioServed (({ s with stall := [] } : State).answer .timeout) c r := by
  have hget : tget s.stall c {} = r := by rw [hs]; exact if_pos rfl
  have hdel : tdel s.stall c = [] := by rw [hs]; exact if_pos rfl
  rw [stallEnd, if_neg (by omega), if_neg (by omega), hget, hr, if_neg Bool.false_ne_true, hdel]

/-- Word addresses that belong to no page and no window (R8, R10). -/
theorem ioAccess_unused {s : State} {a : Nat} (m : Master) (w : Option Nat) (hf : s.clk.frozen = false) (hal : a % 4 = 0) (hlo : 0x8B000 ≤ a)
    (hhi : a < 0x1100000 ∨ 0x1800000 ≤ a ∨ 0xA0000 ≤ a % 0x100000) : ioAccess s m a w 0 0 = s.answer .unmapped := by
  have hwin : (decide (0x1100000 ≤ a) && decide (a < 0x1800000) && decide (a % 0x100000 < 0xA0000)) = false := by
    simp only [Bool.and_eq_false_iff, decide_eq_false_iff_not]
    omega
  have hused : pageUsed (a / 4096) = false := decide_eq_false (by omega)
  rw [ioAccess, hal]
  by_cases hpage : a < 0xA0000
  · cases w with
    | none => simp [hpage, regAccess, accessRead, hf, hused]
    | some v =>
      have hstage : stagePage (a / 4096) = false := by
        have : decide (a / 4096 < 0x64) = false := decide_eq_false (by omega)
        simp [stagePage, this]
      have hplain : a / 4096 ≠ nvmPage ∧ a / 4096 ≠ ahdPage ∧ a / 4096 ≠ nmkPage := by
        simp only [nvmPage, ahdPage, nmkPage]
        omega
      simp [hpage, regAccess, regWrite, hstage, regPut, hplain, accessWrite, hf, hused]
  · simp [hpage, hwin]

/-- Settles O2: a write that is taken is the register's effect, and each CTRL command is one part of the effect of a CTRL write. -/
theorem busCommands : Obligations.BusCommands := by
  unfold Obligations.BusCommands
  refine ⟨?reg, ?ctx, ?shadow, ?enClear, ?enSet, ?drain, ?srst, ?holdSet, ?holdClear, ?apply, ?key, ?irqSet, ?irqClear, ?irqEvent, ?unmapped, ?domOff,
    ?stall, ?window, ?sat⟩
  case reg =>
    rintro s b m p off v rfl ht ha
    exact congrArg _ (regWrite_takes s m p off v.toNat ha ht)
  case ctx =>
    intro s m i v ht hh
    have hpage : s.busAt ahdPage = s := busAt_plain s ahdPage (by decide)
    have hoff : 0x40 ≤ slotOff i 0 ∧ slotOff i 0 % 0x40 = 0 ∧ slotOff i 0 / 0x40 - 1 = i := by unfold slotOff; omega
    have ht' : ({ s with free := s.free + 1 } : State).takes ahdPage (slotOff i 0) v.toNat = true := ht
    have hh' : ({ s with free := s.free + 1 } : State).flag H_STAT_HELD ahdPage = false := hh
    rw [exec_registerWrite, execRegisterWrite, regWrite, hpage, regPut]
    simp only [show ahdPage ≠ nvmPage by decide, hoff, State.fresh, ctxWrite, hh', decide_true, decide_false, Bool.false_and, Bool.true_and,
      Bool.false_eq_true, if_true, if_false, accessWrite_takes _ m ahdPage (slotOff i 0) v.toNat _ ht']
  case shadow =>
    rintro s b m p off v rfl hf hu ho hn ha hk hh he hb hl
    have hoff : (decide (p = ahdPage) && decide (0x40 ≤ off) && decide (off % 0x40 = 0)) = false := by
      rcases ha with ha | ha <;> simp [ha]
    have hceil : (decide (p = nmkPage) && decide (off = 0x40)) = false := by
      rcases hk with hk | hk <;> simp [hk]
    rw [exec_shadowWrite, execShadowWrite, regWrite, regPut]
    simp only [hn, hoff, hceil, decide_false, Bool.false_and, Bool.false_eq_true, if_false, accessWrite_held m v.toNat _ hf hu ho hh he hb,
      shadowPush, State.reached_shadow, hl, if_true]
  case enClear =>
    intro s b m p hb ht hen hd hp
    obtain ⟨h0, h1, h2⟩ := bitOf_ctrl false false (b.flag H_CTRL_HOLD p)
    have ht' : b.takes p 8 (b2n false + 2 * b2n false + 4 * b2n (b.flag H_CTRL_HOLD p)) = true := by simpa [b2n] using ht
    rw [exec_ctrlEnClear, execCtrlEnClear, ctrlWrite_takes hb rfl ht', ctrlEff_en _ h1 (by rw [h2, State.reached_flag]), h0]
    · simp only [enWrite, State.reached_flag, hen, hd, Bool.true_eq_false, Bool.false_eq_true, if_false]
    · rw [h0, ctrlBarred_reached]
      simp [State.ctrlBarred, hp]
  case enSet =>
    intro s b m p hb ht hen hd hp
    obtain ⟨h0, h1, h2⟩ := bitOf_ctrl true false (b.flag H_CTRL_HOLD p)
    have ht' : b.takes p 8 (b2n true + 2 * b2n false + 4 * b2n (b.flag H_CTRL_HOLD p)) = true := by simpa [b2n] using ht
    rw [exec_ctrlEnSet, execCtrlEnSet, ctrlWrite_takes hb rfl ht', ctrlEff_en _ h1 (by rw [h2, State.reached_flag]), h0]
    · simp only [enWrite, blockStart, State.reached_flag, hen, hd, Bool.false_eq_true, if_false, if_true]
    · rw [h0, ctrlBarred_reached]
      rcases hp with hp | hp <;> simp [State.ctrlBarred, hp]
  case drain =>
    intro s p hon hd hdr hen
    have hen' := (flag_en_of_rest s p).trans hen
    simp only [exec_drainComplete, execDrainComplete, hon, drainEnd, hd, hdr, Bool.and_self, if_true, hen', Bool.false_eq_true, if_false]
  case srst =>
    intro s b m p hb ht hen hi hdr hp hsoft
    obtain ⟨h0, h1, h2⟩ := bitOf_ctrl false true (b.flag H_CTRL_HOLD p)
    have ht' : b.takes p 8 (b2n false + 2 * b2n true + 4 * b2n (b.flag H_CTRL_HOLD p)) = true := by simpa [hen, b2n] using ht
    rw [exec_ctrlSrst, execCtrlSrst, ctrlWrite_takes hb (by rw [hen]) ht', ctrlEff_srst _ h1 hp]
    · rw [State.idle, State.reached_flag, hi, hdr, Bool.and_self]
    · rw [h0, hsoft]
    · rw [h2, State.reached_flag]
    · rw [h0, ctrlBarred_reached]
      simp [State.ctrlBarred, hp]
  case holdSet =>
    intro s b m p hb ht hm hh hp
    obtain ⟨h0, h1, h2⟩ := bitOf_ctrl (b.flag H_CTRL_EN p) false true
    have ht' : b.takes p 8 (b2n (b.flag H_CTRL_EN p) + 2 * b2n false + 4 * b2n true) = true := by simpa [b2n] using ht
    rw [exec_ctrlHoldSet, execCtrlHoldSet, ctrlWrite_takes hb rfl ht', ctrlEff_hold hm _ h1, h2]
    · rfl
    · rw [h0, State.reached_flag]
    · rw [h2, State.reached_flag, hh, Bool.not_true]
    · rw [h0, ctrlBarred_reached, State.ctrlBarred]
      cases hen : b.flag H_CTRL_EN p <;> simp_all
  case holdClear =>
    intro s b m p hb ht hm hh hp hawd
    obtain ⟨h0, h1, h2⟩ := bitOf_ctrl (b.flag H_CTRL_EN p) false false
    have ht' : b.takes p 8 (b2n (b.flag H_CTRL_EN p) + 2 * b2n false + 4 * b2n false) = true := by simpa [b2n] using ht
    have hno : (decide (0x70 ≤ p) && decide (p < 0x74)) = false := by
      rw [Bool.and_eq_false_iff, decide_eq_false_iff_not, decide_eq_false_iff_not]
      omega
    rw [exec_ctrlHoldClear, execCtrlHoldClear, ctrlWrite_takes hb rfl ht', ctrlEff_hold hm _ h1, h2]
    · simp only [holdWrite, holdClear, hno, Bool.false_eq_true, if_false]
    · rw [h0, State.reached_flag]
    · rw [h2, State.reached_flag, hh, Bool.not_false]
    · rw [h0, ctrlBarred_reached, State.ctrlBarred]
      cases hen : b.flag H_CTRL_EN p <;> simp_all
  case apply =>
    intro s p hon hh hhold
    simp only [exec_shadowApplyComplete, execShadowApplyComplete, hon, hh, hhold, Bool.not_false, Bool.and_self, if_true, shadowApply]
  case key =>
    rintro s b m p v rfl hf hu ho hb
    rw [exec_lockkeyWrite, execLockkeyWrite, regWrite, regPut_header m v.toNat (by decide) hb, accessWrite_lockkey m v.toNat hf hu ho]
  case irqSet =>
    rintro s b m p v rfl ht
    rw [exec_irqSetWrite, execIrqSetWrite, regWrite_takes s m p 0x18 v.toNat (Or.inr (Or.inl (by decide))) ht, ← State.reached_get _ p]
    rfl
  case irqClear =>
    intro s m p v ht
    rw [exec_irqRawClear, execIrqRawClear_takes s m p v 0 ht, if_pos rfl, headerEff_irqRaw, State.reached_get]
  case irqEvent =>
    intro s m p v event ht he
    rw [exec_irqRawClear, execIrqRawClear_takes s m p v event ht, if_neg he, headerEff_irqRaw, State.reached_get]
  case unmapped =>
    intro s m addr wr hf hal hlo hhi
    rw [exec_unmappedAccess, execUnmappedAccess, ioAccess_unused m _ hf hal hlo hhi]
  case domOff =>
    intro s m p off n hf hd hu hn haw
    have hon : s.pageOn p = false := by rw [State.pageOn, hd]; exact hn
    have hneed : s.needPage p = s.need n := by rw [State.needPage, hd]
    rw [exec_domainOffAccess, execDomainOffAccess, Option.map_none, regAccess, accessRead]
    simp only [hf, hu, hon, hneed, domainOffAccess, hd, Bool.not_true, Bool.false_eq_true, if_false, Bool.not_false, if_true]
    have hno : (!(s.need n).flag PWR_DOMAIN_AUTOWAKE 2 n) = true := congrArg not haw
    rw [if_pos hno]
    rfl
  case stall =>
    intro s c r hc hs hw hn hr hsince
    rw [exec_stallTimeout, execStallTimeout, ofCode_key hc, if_pos, stallFail, ofCode_key hc, stallEnd_core hc hs hr]
    simp [hs, tget, hw, hn, hsince]
  case window =>
    intro s c n r hc hs hw hr hsince
    rw [exec_windowTimeout, execWindowTimeout, ofCode_key hc, if_pos, stallFail, ofCode_key hc, stallEnd_core hc hs hr]
    simp [hs, tget, hw, hsince]
  case sat =>
    intro s m d p off wr ans hw hm hmap
    have hno : (decide ((tget s.stall m.key {}).window = d + 1)) = false := by rw [hw]; exact decide_eq_false (by omega)
    simp only [exec_satelliteWindowAccess, execSatelliteWindowAccess, windowAnswer, hno, Bool.false_and, Bool.false_eq_true, if_false, windowAccess, hm,
      hmap, Bool.not_true, Bool.or_self, if_true]

end Sys2Proof.Machine
end

section
/-! PROOFS. IN and OUT of a core (R489), and a HALT that meets an order for PD_HK (R96, R503). -/

namespace Sys2Proof.Machine

/-! IN and OUT. -/

section
variable {s t : State} {c ra off a : Nat} (h : s.issues c = true) (ha : add32 ((s.seen c).reg ra) off = a) (rd : Nat) (w inc : Option Nat)
  (kind ans : Nat)
include h ha

theorem coreIo_misaligned (hal : ¬ 4 ∣ a) : coreIo s c rd ra off w inc kind ans = coreTrap s c (s.seen c) 1 a := by
  obtain ⟨hi, hf⟩ := (issues_iff s c).mp h
  rw [State.seen] at ha
  have hne : (a % 4 != 0) = true := bne_iff_ne.mpr fun h0 => hal (Nat.dvd_of_mod_eq_zero h0)
  simp only [coreIo, hi, hf, ha, hne, Bool.not_true, Bool.false_eq_true, if_false, if_true, State.seen]

/-- An aligned access is made with the results that are due landed, and its answer ends the instruction. -/
theorem coreIo_aligned (hal : 4 ∣ a) (ht : t = ioAccess (s.setCr c (s.seen c)) (Master.ofCode c) a (w.map (s.seen c).reg) kind ans) :
    coreIo s c rd ra off w inc kind ans = ioAnswer t c (s.seen c) a rd ra inc := by
  obtain ⟨hi, hf⟩ := (issues_iff s c).mp h
  rw [State.seen] at ha
  have hne : (a % 4 != 0) = false := bne_eq_false_iff_eq.mpr (Nat.mod_eq_zero_of_dvd hal)
  simp only [coreIo, hi, hf, ha, hne, Bool.not_true, Bool.false_eq_true, if_false, ht, State.seen]

end

section
variable {t : State} {c : Nat} {k : Core} (hk : t.cr c = k) (a rd ra : Nat) (inc : Option Nat)
include hk

theorem ioAnswer_ok (hr : t.resp.kind = .ok) : ioAnswer t c k a rd ra inc = t.setCr c (k.ioDone rd ra inc t.resp.data) := by
  simp only [ioAnswer, hk, bne_self_eq_false, Bool.false_eq_true, if_false, hr]

theorem ioAnswer_waits (hr : t.resp.kind = .none) :
    ioAnswer t c k a rd ra inc = { t with stall := tput t.stall c {} { tget t.stall c {} with io := some (rd, ra, inc) } } := by
  simp only [ioAnswer, hk, bne_self_eq_false, Bool.false_eq_true, if_false, hr]

theorem ioAnswer_error (hok : t.resp.kind ≠ .ok) (hw : t.resp.kind ≠ .none) : ioAnswer t c k a rd ra inc = coreTrap t c k 1 a := by
  rw [ioAnswer, hk, bne_self_eq_false, if_neg Bool.false_ne_true]
  split
  · contradiction
  · contradiction
  · rfl

end

/-- Settles O34: an access is aligned or not, and an aligned one is answered, refused or waits. -/
theorem coreBusAccess : Obligations.CoreBusAccess := by
  unfold Obligations.CoreBusAccess
  refine ⟨?inOk, ?inErr, ?inWait, ?inMis, ?inpOk, ?inpErr, ?inpWait, ?inpMis, ?outOk, ?outErr,
    ?outWait, ?outMis, ?outpOk, ?outpErr, ?outpWait, ?outpMis⟩
  case inOk =>
    rintro s t c rd ra imm kind a ans h rfl hal ht hk hr
    exact congrArg _ ((coreIo_aligned h (add32_sx16 ..) rd none none kind _ hal ht).trans (ioAnswer_ok hk _ rd ra none hr))
  case inErr =>
    rintro s t c rd ra imm kind a ans h rfl hal ht hk hne hw
    exact congrArg _ ((coreIo_aligned h (add32_sx16 ..) rd none none kind _ hal ht).trans (ioAnswer_error hk _ rd ra none hne hw))
  case inWait =>
    rintro s t c rd ra imm kind a ans h rfl hal ht hk hr
    exact congrArg _ ((coreIo_aligned h (add32_sx16 ..) rd none none kind _ hal ht).trans (ioAnswer_waits hk _ rd ra none hr))
  case inMis =>
    rintro s c rd ra imm kind a ans h rfl hal
    exact congrArg _ (coreIo_misaligned h (add32_sx16 ..) rd none none kind _ hal)
  case inpOk =>
    rintro s t c rd ra imm kind a ans h rfl hal ht hk hr
    rw [exec_iInp, execIInp, sx16_eq]
    exact congrArg _ ((coreIo_aligned h (add32_zero _) rd none _ kind _ hal ht).trans (ioAnswer_ok hk _ rd ra _ hr))
  case inpErr =>
    rintro s t c rd ra imm kind a ans h rfl hal ht hk hne hw
    rw [exec_iInp, execIInp, sx16_eq]
    exact congrArg _ ((coreIo_aligned h (add32_zero _) rd none _ kind _ hal ht).trans (ioAnswer_error hk _ rd ra _ hne hw))
  case inpWait =>
    rintro s t c rd ra imm kind a ans h rfl hal ht hk hr
    rw [exec_iInp, execIInp, sx16_eq]
    exact congrArg _ ((coreIo_aligned h (add32_zero _) rd none _ kind _ hal ht).trans (ioAnswer_waits hk _ rd ra _ hr))
  case inpMis =>
    rintro s c rd ra imm kind a ans h rfl hal
    rw [exec_iInp, execIInp, sx16_eq]
    exact congrArg _ (coreIo_misaligned h (add32_zero _) rd none _ kind _ hal)
  case outOk =>
    rintro s t c rs ra imm kind a h rfl hal ht hk hr
    exact congrArg _ ((coreIo_aligned h (add32_sx16 ..) 0 (some rs) none kind _ hal ht).trans (ioAnswer_ok hk _ 0 ra none hr))
  case outErr =>
    rintro s t c rs ra imm kind a h rfl hal ht hk hne hw
    exact congrArg _ ((coreIo_aligned h (add32_sx16 ..) 0 (some rs) none kind _ hal ht).trans (ioAnswer_error hk _ 0 ra none hne hw))
  case outWait =>
    rintro s t c rs ra imm kind a h rfl hal ht hk hr
    exact congrArg _ ((coreIo_aligned h (add32_sx16 ..) 0 (some rs) none kind _ hal ht).trans (ioAnswer_waits hk _ 0 ra none hr))
  case outMis =>
    rintro s c rs ra imm kind a h rfl hal
    exact congrArg _ (coreIo_misaligned h (add32_sx16 ..) 0 (some rs) none kind _ hal)
  case outpOk =>
    rintro s t c rs ra imm kind a h rfl hal ht hk hr
    rw [exec_iOutp, execIOutp, sx16_eq]
    exact congrArg _ ((coreIo_aligned h (add32_zero _) 0 (some rs) _ kind _ hal ht).trans (ioAnswer_ok hk _ 0 ra _ hr))
  case outpErr =>
    rintro s t c rs ra imm kind a h rfl hal ht hk hne hw
    rw [exec_iOutp, execIOutp, sx16_eq]
    exact congrArg _ ((coreIo_aligned h (add32_zero _) 0 (some rs) _ kind _ hal ht).trans (ioAnswer_error hk _ 0 ra _ hne hw))
  case outpWait =>
    rintro s t c rs ra imm kind a h rfl hal ht hk hr
    rw [exec_iOutp, execIOutp, sx16_eq]
    exact congrArg _ ((coreIo_aligned h (add32_zero _) 0 (some rs) _ kind _ hal ht).trans (ioAnswer_waits hk _ 0 ra _ hr))
  case outpMis =>
    rintro s c rs ra imm kind a h rfl hal
    rw [exec_iOutp, execIOutp, sx16_eq]
    exact congrArg _ (coreIo_misaligned h (add32_zero _) 0 (some rs) _ kind _ hal)

end Sys2Proof.Machine
end

section
/-! PROOFS. A HALT that meets an order for PD_HK: the order is checked again when it is taken, and off is refused to PD_HK (R94). -/

namespace Sys2Proof.Machine

/-- Core 0 runs, and an order off for PD_HK waits for its HALT. -/
def offOrderLatched : State := { State.reset with core := [(0, { run := true })], dom := [(0, { latched := some 3 })] }

/-- ORDER of PD_HK when HALT has met the latched order: the order before it. -/
theorem order_coreHalt_offOrderLatched : (coreHalt offOrderLatched 0).get PWR_DOMAIN_ORDER pwrPage 0 = 0 := by decide +kernel

/-- ORDER of PD_HK when the latched order is taken without a check. -/
theorem order_takeOrder_offOrderLatched :
    (((offOrderLatched.setCr 0 { (offOrderLatched.seen 0).finish with halt := true }).setDom 0
      { offOrderLatched.getDom 0 with latched := none }).takeOrder 0 3 true).get PWR_DOMAIN_ORDER pwrPage 0 = 3 := by
  decide +kernel

/-- Refutes O33: its sixth clause takes a latched order without a check, and the model refuses off to PD_HK and restores the order before. -/
theorem not_coreEvents : ¬ Obligations.CoreEvents := by
  unfold Obligations.CoreEvents
  rintro ⟨-, -, -, -, -, h, -⟩
  have hhalt := h offOrderLatched _ 3 (by decide +kernel) rfl rfl rfl
  rw [exec_iHalt, execIHalt] at hhalt
  have horder := congrArg (fun s : State => s.get PWR_DOMAIN_ORDER pwrPage 0) (Host.Outcome.next.inj hhalt)
  exact absurd (order_coreHalt_offOrderLatched.symm.trans (horder.trans order_takeOrder_offOrderLatched)) (by decide)

end Sys2Proof.Machine
end

section
/-! PROOFS. WBUF's owner (R510): WSTAT.WOWNER has four bits, and the codes of the CE cores that `Master` can name have no bound. -/

namespace Sys2Proof.Machine

/-- WOWNER after a write of WBUF by CE 20, whose code is 21. -/
theorem wowner_wbufWrite_ce20 :
    (nvmWrite State.reset (.ce 20) 0x100 0 (wbufEff (.ce 20) 0x100)).get NVM_WSTAT_WOWNER nvmPage = 5 := by
  decide +kernel

/-- Refutes O35: its first clause has WOWNER hold the code of every master, and the field keeps the code of CE 20 modulo 16. -/
theorem not_eepromCommands : ¬ Obligations.EepromCommands := by
  unfold Obligations.EepromCommands
  rintro ⟨h, -⟩
  have howner := h State.reset (.ce 20) 0 0 (by decide) (by decide +kernel) (by decide +kernel)
  rw [exec_wbufWrite, execWbufWrite, completes_next] at howner
  obtain ⟨-, hcode, -⟩ := howner
  exact absurd (wowner_wbufWrite_ce20.symm.trans hcode) (by decide)

end Sys2Proof.Machine
end

section
/-! PROOFS. Supply, RESET_N and limp-home (chapter 2). -/

namespace Sys2Proof.Machine

/-- What every step of a loop leaves alone, the loop leaves alone. -/
theorem part_each {α : Type} (part : State → α) (f : State → Nat → State) (hf : ∀ s n, part (f s n) = part s) (l : List Nat) (s : State) :
    part (s.each l f) = part s := by
  induction l generalizing s with
  | nil => rfl
  | cons n r ih => exact (ih (f s n)).trans (hf s n)

@[simp] theorem State.ch_upCh_same (s : State) (c : Nat) (f : Chan → Chan) : (s.upCh c f).ch c = f (s.ch c) := tget_tput_same ..

theorem State.ch_upCh_ne (s : State) {c d : Nat} (f : Chan → Chan) (h : d ≠ c) : (s.upCh c f).ch d = s.ch d := tget_tput_ne _ _ _ _ h

/-! Power loss: the fuses. -/

theorem fuse_tearBytes (p : Nat) (data : List Byte) (prog : Bool) : ∀ (o : Nat) (s : State), (tearBytes s p o data prog).fuse = s.fuse := by
  induction data with
  | nil => exact fun _ _ => rfl
  | cons b r ih => exact fun o s => ih (o + 1) _

theorem fuse_tearWord (s : State) (i : Nat) : (tearWord s i).fuse = s.fuse := by
  simp only [tearWord]
  split <;> rfl

theorem fuse_tearHidden (s : State) (o : NvOp) (prog : Bool) : (tearHidden s o prog).fuse = s.fuse := by
  cases o <;> rfl

theorem fuse_nvTear (s : State) (prog : Bool) : (nvTear s prog).fuse = s.fuse := by
  unfold nvTear
  cases s.nvm.run with
  | none => rfl
  | some w =>
    have hpage (l : List Nat) : ((tearBytes s w.page w.off w.data prog).each l tearWord).fuse = s.fuse :=
      (part_each State.fuse tearWord fuse_tearWord l _).trans (fuse_tearBytes w.page w.data prog w.off s)
    dsimp only
    split
    · exact (fuse_tearHidden ..).trans (hpage _)
    · exact hpage _

theorem fuse_statusTear (s : State) : (statusTear s).fuse = s.fuse := by
  unfold statusTear
  split
  · split <;> rfl
  · rfl

theorem fuse_powerLoss (s : State) : (powerLoss s).fuse = s.fuse := by
  refine (fuse_statusTear _).trans ?_
  cases s.nvm.run with
  | none => rfl
  | some w => exact fuse_nvTear ..

theorem powerLoss_idle {s : State} (hrun : s.nvm.run = none) : powerLoss s =
    { State.reset with
      eeprom := (statusTear s).eeprom, torn := (statusTear s).torn, cnvm := (statusTear s).cnvm, fuse := (statusTear s).fuse
      free := (statusTear s).free, pending := (statusTear s).pending, eccBad := (statusTear s).eccBad.filter (·.1 == 5)
      nvm := { bp := (statusTear s).nvm.bp, p6 := (statusTear s).nvm.p6, p7 := (statusTear s).nvm.p7 }
      sup := { alive := false, strapMaster := (statusTear s).sup.strapMaster, lowSince := (statusTear s).sup.lowSince.map fun _ => 0,
               limpPin := (statusTear s).sup.limpPin } } := by
  rw [powerLoss, hrun]

theorem statusTear_of_ne {s : State} (h : ∀ k, s.boot.wrote ≠ some (k, s.tb)) : statusTear s = s := by
  unfold statusTear
  split
  case h_1 k t hw =>
    rw [if_neg]
    rintro rfl
    exact h k hw
  case h_2 => rfl

/-- A status word that is being programmed in this BCLK draws one free value. -/
theorem statusTear_now {s : State} {k : Nat} (h : s.boot.wrote = some (k, s.tb)) :
    statusTear s = { s with free := s.free + 1, cnvm := (statusTear s).cnvm } := by
  simp only [statusTear, h, if_true]
  rfl

/-! Reversed battery. -/

theorem revOn_each (s : State) (c : Nat) (l : List Nat) (hc : c ∈ l ∨ (s.ch c).revOn = s.sup.reversed) :
    ((s.each l fun s c => s.upCh c fun x => { x with revOn := s.sup.reversed }).ch c).revOn = s.sup.reversed := by
  induction l generalizing s with
  | nil => exact hc.resolve_left List.not_mem_nil
  | cons d l ih =>
    refine ih (s.upCh d fun x => { x with revOn := s.sup.reversed }) ?_
    by_cases h : c = d
    · exact .inr (by rw [h, State.ch_upCh_same]; rfl)
    · rw [State.ch_upCh_ne _ _ h]
      exact hc.imp_left fun hmem => (List.mem_cons.1 hmem).resolve_left h

/-- HS00 to HS21 show whether the battery is reversed. -/
theorem revOn_revShow (s : State) {c : Nat} (hc : c < 22) : ((revShow s).ch c).revOn = s.sup.reversed :=
  revOn_each s c (List.range 22) (.inl (List.mem_range.mpr hc))

/-- Settles O3: every command but the losses of power is one branch of its definition; a loss keeps the fuses, whatever write it tears. -/
theorem supplyCommands : Obligations.SupplyCommands := by
  unfold Obligations.SupplyCommands
  refine ⟨?upDead, ?upAlive, ?loss, ?under, ?rev, ?revEnd, ?revOn, ?lossTear, ?lossRest, ?fall, ?rise, ?riseMid, ?riseLong, ?long, ?map, ?mapBad,
    ?limpEarly, ?limp, ?home, ?vbat, ?vbatGate, ?scaled, ?scaledNot, ?low, ?ov, ?ovEnd⟩
  case upDead =>
    intro strap s h
    rw [exec_powerUp, execPowerUp]
    simp only [h, Bool.false_eq_true, if_false]
  case upAlive =>
    intro strap s h
    rw [exec_powerUp, execPowerUp]
    simp only [h, if_true]
  case loss =>
    intro s ha hrun hw
    rw [exec_totalPowerLoss, execTotalPowerLoss, if_pos ha, powerLoss_idle hrun, statusTear_of_ne hw]
  case under =>
    intro s ha hu
    rw [exec_undervoltage, execUndervoltage]
    simp only [ha, hu, Bool.not_true, Bool.or_self, Bool.false_eq_true, if_false, State.fresh]
  case rev =>
    intro s ha
    rw [exec_reverseBattery, execReverseBattery]
    simp only [ha, Bool.and_self, if_true]
  case revEnd => exact fun s => rfl
  case revOn =>
    intro s c ha hc
    rw [exec_reverseBattery, execReverseBattery, completes_next]
    exact revOn_revShow _ hc
  case lossTear =>
    intro s k ha hrun hw
    rw [exec_totalPowerLoss, execTotalPowerLoss, if_pos ha, powerLoss_idle hrun, statusTear_now hw]
  case lossRest =>
    intro s ha
    rw [exec_totalPowerLoss, execTotalPowerLoss, if_pos ha, completes_next]
    exact ⟨rfl, rfl, rfl, rfl, fuse_powerLoss s⟩
  case fall => exact fun s => rfl
  case rise =>
    intro s t hl hr ha hin hdt
    rw [exec_resetNRise, execResetNRise, hl]
    simp [hr, ha, hin, hdt, resetLow, fullResetEnd]
  case riseMid =>
    intro s t hl hr ha hin hlo hhi
    have hnot : ¬ s.tb - t < 1000 := by omega
    rw [exec_resetNRise, execResetNRise, hl]
    simp [hr, ha, hin, hnot, hhi, resetLow]
  case riseLong =>
    intro s t hl hr ha
    rw [exec_resetNRise, execResetNRise, hl]
    simp only [hr, ha, if_true]
  case long =>
    intro s t hl hdt ha
    rw [exec_resetNLongLow, execResetNLongLow, hl]
    simp only [hdt, ha, decide_true, Bool.and_self, if_true]
  case map =>
    intro s p ha hr hp
    rw [exec_limpMapRead, execLimpMapRead, mapRead, hp]
    simp only [hr, ha, Bool.not_true, Bool.or_self, Bool.false_eq_true, if_false]
  case mapBad =>
    intro s ha hr hp
    rw [exec_limpMapRead, execLimpMapRead, mapRead, hp]
    simp only [hr, ha, Bool.not_true, Bool.or_self, Bool.false_eq_true, if_false]
  case limpEarly =>
    intro n active s hr
    rw [exec_limpInputChange, execLimpInputChange]
    simp only [hr, Bool.not_false, Bool.or_true, if_true]
  case limp =>
    intro n active s ha hact hr
    rw [exec_limpInputChange, execLimpInputChange, if_neg]
    · rfl
    · have hne : decide (s.limpAct n = active) = false := decide_eq_false (by rw [hact]; cases active <;> decide)
      change ¬ (decide (s.limpAct n = active) || !s.sup.alive || !s.sup.limpRead) = true
      rw [hne, ha, hr]
      decide
  case home =>
    intro s c ha hr hd hs hc
    rw [exec_limpHomeStart, execLimpHomeStart, limpStart, hc]
    simp only [ha, hr, hd, hs, Bool.not_false, decide_true, Bool.and_self, if_true]
  case vbat =>
    intro vbat vfld s hd
    rw [exec_vbatMeasurement, execVbatMeasurement]
    simp only [hd, Bool.false_eq_true, if_false]
  case vbatGate =>
    intro vbat vfld s hd
    rw [exec_vbatMeasurement, execVbatMeasurement]
    simp only [hd, if_true]
  case scaled =>
    intro s hs hv
    have hnow : ((s.put GOV_QUEUE_LOW_V govPage (s.vbat < 6000)).put GOV_QUEUE_SCALED govPage (s.vbat < 9000)).flag GOV_QUEUE_SCALED govPage = true :=
      (State.flag_put_same _ _ _ _ _ _ (by decide)).trans (decide_eq_true hv)
    exact if_pos (by rw [hs]; exact congrArg (· && true) hnow)
  case scaledNot =>
    intro s h
    have hnow : ((s.put GOV_QUEUE_LOW_V govPage (s.vbat < 6000)).put GOV_QUEUE_SCALED govPage (s.vbat < 9000)).flag GOV_QUEUE_SCALED govPage =
        decide (s.vbat < 9000) := State.flag_put_same _ _ _ _ _ _ (by decide)
    refine if_neg fun hraise => ?_
    obtain ⟨hlow, hwas⟩ := Bool.and_eq_true_iff.mp hraise
    rcases h with h | h
    · rw [h] at hwas
      exact absurd hwas (by decide)
    · exact absurd (of_decide_eq_true (hnow.symm.trans hlow)) (Nat.not_lt.mpr h)
  case low => exact fun low s => rfl
  case ov => exact fun s => rfl
  case ovEnd => exact fun s => rfl

end Sys2Proof.Machine
end

section
/-! PROOFS. The watchdog and the clocks (chapter 4). -/

namespace Sys2Proof.Machine

/-- A plain write leaves alone every place that is no field of its register. -/
theorem rd_plainWrite_ne {p off : Nat} {l : Loc} (h : ∀ x ∈ fieldsAt p off, l.key ≠ (x.1.loc p x.2.1 x.2.2).key) (s : State) (v : Nat) :
    (plainWrite s p off v).rd l = s.rd l := by
  have hfield (s : State) (x : Fld × Nat × Nat) (hx : l.key ≠ (x.1.loc p x.2.1 x.2.2).key) : (writeField s p v x).rd l = s.rd l := by
    unfold writeField
    dsimp only
    split
    · rfl
    · rfl
    · exact State.rd_wr_ne _ _ hx
    · exact State.rd_wr_ne _ _ hx
    · exact State.rd_wr_ne _ _ hx
    · exact State.rd_wr_ne _ _ hx
  unfold plainWrite
  generalize fieldsAt p off = xs at h
  induction xs generalizing s with
  | nil => rfl
  | cons x r ih => exact (ih _ fun y hy => h y (List.mem_cons_of_mem x hy)).trans (hfield s x (h x List.mem_cons_self))

/-! The watchdog. -/

/-- A write of KICK is judged on the time and the value of the state that it reaches. -/
theorem kickEff_reached (s : State) (m : Master) (v : Nat) (early : Bool) : kickEff m v early (s.reached wdgPage) =
    if m = .hk && v = s.kickValue && !s.kickEarly early then
      { (s.reached wdgPage).set WDG_STAT_EXPIRIES wdgPage 0 with
        wdgAlt := !s.wdgAlt, wdgFrom := s.tb, wdgPause := none, wdgMs := s.get WDG_CFG_TIMEOUT wdgPage }
    else wdgExpire ((s.reached wdgPage).put WDG_STAT_BAD_KICK wdgPage true) := by
  have htimeout : ((s.reached wdgPage).set WDG_STAT_EXPIRIES wdgPage 0).get WDG_CFG_TIMEOUT wdgPage = s.get WDG_CFG_TIMEOUT wdgPage := by
    rw [State.get_set_ne _ _ (by decide), State.reached_get]
  obtain ⟨w, d, h⟩ := s.reached_form wdgPage
  simp only [kickEff, State.wdgRestart, htimeout]
  rw [h]
  rfl

theorem kickEarly_false {s : State} {early : Bool}
    (h : 11 * s.kickPoint ≤ 10 * s.wdgElapsed ∨ (9 * s.kickPoint ≤ 10 * s.wdgElapsed ∧ early = false)) : s.kickEarly early = false := by
  unfold State.kickEarly State.kickOpen
  split
  case isTrue hopen =>
    simp only [Bool.and_eq_true, decide_eq_true_eq] at hopen
    rcases h with h | h
    · omega
    · exact h.2
  case isFalse => exact decide_eq_false (by omega)

theorem kickEarly_true {s : State} {early : Bool}
    (h : 10 * s.wdgElapsed < 9 * s.kickPoint ∨ (10 * s.wdgElapsed < 11 * s.kickPoint ∧ early = true)) : s.kickEarly early = true := by
  unfold State.kickEarly State.kickOpen
  split
  case isTrue hopen =>
    simp only [Bool.and_eq_true, decide_eq_true_eq] at hopen
    rcases h with h | h
    · omega
    · exact h.2
  case isFalse hopen =>
    simp only [Bool.and_eq_true, decide_eq_true_eq] at hopen
    exact decide_eq_true (by omega)

theorem wdgExpire_of_escalate_zero {s : State} (h : s.get WDG_CFG_ESCALATE wdgPage = 0) :
    wdgExpire s = coreRestart ((s.bump WDG_STAT_EXPIRIES wdgPage).set WDG_STAT_LAST wdgPage 1) 3 := by
  have he : (s.bump WDG_STAT_EXPIRIES wdgPage).get WDG_CFG_ESCALATE wdgPage = 0 := by
    rw [State.bump, State.get_set_ne _ _ (by decide), h]
  simp [wdgExpire, he]

/-! CLK.CFG. -/

/-- A write of CLK.CFG that leaves LFXTAL_EN as it is stores its fields, and freezes the clocks when it selects another reference. -/
theorem clkCfgEff_reached {s : State} {v : Nat} (h : bitOf v 2 = s.flag CLK_CFG_LFXTAL_EN clkPage) : clkCfgEff v (s.reached clkPage) =
    if s.flag H_LOCKSTAT_UNLOCKED clkPage && v % 2 != s.get CLK_STAT_REF_ACT clkPage && s.flag CLK_STAT_PLL_LOCK clkPage then
      refTake (freezeBegin (plainWrite (s.reached clkPage) clkPage 0x40 v) 3 (v % 2)) (v % 2)
    else plainWrite (s.reached clkPage) clkPage 0x40 v := by
  have href : (plainWrite (s.reached clkPage) clkPage 0x40 v).get CLK_STAT_REF_ACT clkPage = s.get CLK_STAT_REF_ACT clkPage :=
    (rd_plainWrite_ne (by decide) _ _).trans (s.reached_rd ..)
  have hlock : (plainWrite (s.reached clkPage) clkPage 0x40 v).flag CLK_STAT_PLL_LOCK clkPage = s.flag CLK_STAT_PLL_LOCK clkPage :=
    congrArg (· != 0) ((rd_plainWrite_ne (by decide) _ _).trans (s.reached_rd ..))
  simp only [clkCfgEff, clkCfgTake, State.reached_flag, h, bne_self_eq_false, Bool.false_eq_true, if_false, href, hlock]

/-- The end of a restart: the PLL takes the reference that REF_SEL, or PARK_RC_START after park, selects. -/
theorem restartDone_eq {s : State} (hr : s.clk.restarting = true) (ha : s.sup.alive = true) (hi : s.sup.inReset = false) :
    restartDone s = pllStop (macResume (refTake ((({ s with clk := { s.clk with restarting := false } } : State).put CLK_STAT_PLL_STOPPED clkPage
      false).put CLK_STAT_PLL_LOCK clkPage true) (b2n (s.flag CLK_CFG_REF_SEL clkPage ||
      (s.pllStopped && !s.sup.cold && s.flag CLK_CFG_PARK_RC_START clkPage))))) := by
  have hkeep (f : Fld) (h1 : (f.loc clkPage).key ≠ (CLK_STAT_PLL_STOPPED.loc clkPage).key) (h2 : (f.loc clkPage).key ≠ (CLK_STAT_PLL_LOCK.loc clkPage).key) :
      ((({ s with clk := { s.clk with restarting := false } } : State).put CLK_STAT_PLL_STOPPED clkPage false).put CLK_STAT_PLL_LOCK clkPage
        true).flag f clkPage = s.flag f clkPage := by
    rw [State.flag_put_ne _ _ h2, State.flag_put_ne _ _ h1]
    rfl
  simp only [restartDone, hr, ha, hi, Bool.not_false, Bool.and_self, if_true, hkeep CLK_CFG_REF_SEL (by decide) (by decide),
    hkeep CLK_CFG_PARK_RC_START (by decide) (by decide)]
  rfl

/-- Settles O4: a kick is judged by value and time, and each clock command is one branch of its definition. -/
theorem watchdogAndClockCommands : Obligations.WatchdogAndClockCommands := by
  unfold Obligations.WatchdogAndClockCommands
  refine ⟨?kick, ?badKick, ?expiry, ?noExpiry, ?resetEnd, ?xtal, ?lockLoss, ?relock, ?cfg, ?refSel, ?freezeEnd, ?lfOff, ?lfOn, ?restart⟩
  case kick =>
    rintro s m v early ht rfl hv hel
    rw [exec_wdgKick, execWdgKick, accessWrite_takes s _ wdgPage 0x44 v.toNat _ ht, kickEff_reached, if_pos]
    rw [kickEarly_false hel, hv]
    simp
  case badKick =>
    intro s m v early ht hbad
    rw [exec_wdgKick, execWdgKick, accessWrite_takes s m wdgPage 0x44 v.toNat _ ht, kickEff_reached, if_neg]
    rcases hbad with h | h | h
    · simp [h]
    · simp [h]
    · simp [kickEarly_true h]
  case expiry =>
    intro s ha hd hp hel he
    rw [exec_wdgExpiry, execWdgExpiry, ← wdgExpire_of_escalate_zero he]
    simp [ha, hd, hp, State.wdgCanExpire, hel]
  case noExpiry =>
    intro s h
    rw [exec_wdgExpiry, execWdgExpiry, if_neg]
    rcases h with h | h
    · simp [State.wdgCanExpire, h]
    · cases hp : s.wdgPause <;> simp_all
  case resetEnd =>
    intro s h
    rw [exec_wdgFullResetEnd, execWdgFullResetEnd, if_pos h]
  case xtal =>
    intro s href hpll hrs
    rw [exec_xtalFail, execXtalFail, xtalFail, href, hpll]
    simp only [Bool.false_and, Bool.or_self, Bool.false_eq_true, if_false]
    exact congrArg _ (if_neg (Bool.eq_false_iff.mp hrs))
  case lockLoss =>
    intro s hf hl
    simp only [exec_pllLockLoss, execPllLockLoss, Machine.lockLoss, hf, hl, Bool.not_true, Bool.or_self, Bool.false_eq_true, if_false]
  case relock =>
    intro s hf hc hs
    simp only [exec_pllRelockTimeout, execPllRelockTimeout, relockTimeout, hf, hc, hs, decide_true, Bool.and_self, if_true]
  case cfg =>
    intro s m v ht h hlf
    rw [exec_refSelWrite, execRefSelWrite, accessWrite_takes s m clkPage 0x40 v.toNat _ ht, clkCfgEff_reached hlf, if_neg]
    rcases h with h | h | h <;> simp [h]
  case refSel =>
    intro s m v ht hu href hlf hl
    rw [exec_refSelWrite, execRefSelWrite, accessWrite_takes s m clkPage 0x40 v.toNat _ ht, clkCfgEff_reached hlf, if_pos]
    simp [hu, hl, href]
  case freezeEnd =>
    intro s u hf hu
    rw [exec_clockFreezeEnd, execClockFreezeEnd, Machine.freezeEnd, if_pos hf, hu]
  case lfOff =>
    intro s hrc hen hlf
    have hlf' : ((s.put CLK_STAT_LF_FAIL clkPage true).put CLK_STAT_LF_ON_RC clkPage true).onLf = false := by
      rw [State.onLf, State.flag_put_ne _ _ (by decide), State.flag_put_ne _ _ (by decide)]
      exact hlf
    simp only [exec_lfXtalFail, execLfXtalFail, lfFail, hrc, hen, hlf', Bool.not_true, Bool.or_self, Bool.false_eq_true, if_false]
  case lfOn =>
    intro s hrc hen hlf
    have hlf' : ((s.put CLK_STAT_LF_FAIL clkPage true).put CLK_STAT_LF_ON_RC clkPage true).onLf = true := by
      rw [State.onLf, State.flag_put_ne _ _ (by decide), State.flag_put_ne _ _ (by decide)]
      exact hlf
    have hunc : ((s.put CLK_STAT_LF_FAIL clkPage true).put CLK_STAT_LF_ON_RC clkPage true).get TB_UNCERT tbPage = s.get TB_UNCERT tbPage := by
      rw [State.put, State.get_set_ne _ _ (by decide), State.put, State.get_set_ne _ _ (by decide)]
    simp only [exec_lfXtalFail, execLfXtalFail, lfFail, hrc, hen, hlf', hunc, Bool.not_true, Bool.or_self, Bool.false_eq_true, if_false, if_true]
  case restart =>
    intro s hr ha hi hc hk
    rw [exec_clockRestartComplete, execClockRestartComplete, ← restartDone_eq hr ha hi]
    simp only [hc, hk, Bool.and_self, if_true]

end Sys2Proof.Machine
end

section
/-! PROOFS. Power domains (chapter 4), wakes (chapters 2 and 15) and the geyser gate (chapter 7). -/

namespace Sys2Proof.Machine

@[simp] theorem State.reached_reqs (s : State) (p : Nat) : (s.reached p).reqs = s.reqs := by
  obtain ⟨w, d, h⟩ := s.reached_form p
  rw [h]

/-! Orders. -/

/-- A write of ORDER and AUTOWAKE leaves the flags that it could clear. -/
theorem domainEff_hk (s : State) {n order : Nat} (aw : Bool) (ho : order < 4) :
    domainEff .hk n (order + 256 * b2n aw) false s = ((s.put PWR_DOMAIN_AUTOWAKE pwrPage aw n).need n).applyOrder n order := by
  have hbits : ∀ o < 4, ∀ b : Bool, bitOf (o + 256 * b2n b) 9 = false ∧ bitOf (o + 256 * b2n b) 10 = false ∧
      bitOf (o + 256 * b2n b) 11 = false ∧ bitOf (o + 256 * b2n b) 8 = b ∧ (o + 256 * b2n b) % 4 = o := by decide
  obtain ⟨h9, h10, h11, h8, hlow⟩ := hbits order ho aw
  simp [domainEff, h9, h10, h11, h8, hlow]

/-- The HK's order for a domain, on the bus. -/
theorem exec_pwrOrder_takes {s : State} {n order : Nat} {aw : Bool} (hn : n < 12) (ho : order < 4)
    (ht : s.takes pwrPage (0x40 + 4 * n) (order + 256 * b2n aw) = true) : exec (.pwrOrder n order aw) s =
      .next ((((s.reached pwrPage).put PWR_DOMAIN_AUTOWAKE pwrPage aw n).need n).applyOrder n order) := by
  have hoff : (0x40 + 4 * n - 0x40) / 4 = n ∧ 0x40 + 4 * n < 0x70 ∧ ¬ 0x40 + 4 * n < 0x40 := by omega
  obtain ⟨hdom, hlo, hhead⟩ := hoff
  have hplain : s.busAt pwrPage = s := busAt_plain s pwrPage (by decide)
  rw [exec_pwrOrder, execPwrOrder, regWrite_takes s .hk pwrPage (0x40 + 4 * n) _ (Or.inl (by decide)) (by rwa [hplain]), hplain, regEff, if_neg hhead,
    if_neg (by decide)]
  change Host.Outcome.next (pwrEff _ _ _ _) = _
  rw [pwrEff, if_pos hlo, hdom, domainEff_hk _ aw ho]

/-- Settles O6: the order of the HK is applied, another's is queued, and each end of a power-down or power-up is one branch of its definition. -/
theorem powerDomainCommands : Obligations.PowerDomainCommands := by
  unfold Obligations.PowerDomainCommands
  refine ⟨?order, ?refused, ?request, ?requestFull, ?read, ?readNone, ?entry, ?up, ?fitting, ?promote, ?sw, ?swOther⟩
  case order =>
    intro s n order aw hn ho ht hok
    rw [exec_pwrOrder_takes hn ho ht, State.applyOrder, hok, if_neg Bool.false_ne_true]
  case refused =>
    intro s n order aw hn ho ht hno
    rw [exec_pwrOrder_takes hn ho ht, State.applyOrder, hno, if_pos rfl]
  case request =>
    intro s m n order hm ht hlen
    rw [exec_pwrOrderRequest, execPwrOrderRequest, if_neg hm, accessWrite_takes s m pwrPage (0x40 + 4 * n) order _ ht]
    simp only [State.orderRequest, State.reached_reqs, hlen, if_true, List.length_append, List.length_singleton]
  case requestFull =>
    intro s m n order hm ht hlen
    rw [exec_pwrOrderRequest, execPwrOrderRequest, if_neg hm, accessWrite_takes s m pwrPage (0x40 + 4 * n) order _ ht]
    simp only [State.orderRequest, State.reached_reqs, Nat.not_lt.mpr hlen, if_false]
  case read =>
    intro s m e q hq
    rw [exec_pwrReqRead, execPwrReqRead, pwrReqRead, hq, completes_next]
    exact ⟨rfl, rfl, State.get_set_same ..⟩
  case readNone =>
    intro s m hq
    rw [exec_pwrReqRead, execPwrReqRead, pwrReqRead, hq, completes_next]
    exact ⟨hq, rfl, State.flag_put_same (((s.set PWR_REQ_STATE pwrPage 0).set PWR_REQ_DOMAIN pwrPage 0).set PWR_REQ_MASTER pwrPage 0)
      PWR_REQ_VALID pwrPage false 0 0 (by decide)⟩
  case entry =>
    intro s n hp hr
    simp only [exec_domainEntryComplete, execDomainEntryComplete, hp, hr, decide_true, Bool.and_self, if_true]
  case up =>
    intro s n hp hpll hoff hl hn
    simp only [exec_domainPowerUpComplete, execDomainPowerUpComplete, hp, hpll, decide_true, Bool.not_false, Bool.and_self, if_true, powerUpDone,
      hoff, hl, hn, if_false]
    rfl
  case fitting =>
    intro s n h
    rw [exec_domainPowerUpAdmit, execDomainPowerUpAdmit, if_pos h, domAdmit]
  case promote =>
    intro s n e hw hrank ht ho
    rw [exec_domainPromotion, execDomainPromotion, domPromote, hw]
    simp only [hrank, ht, ho, decide_true, Bool.and_self, if_true]
  case sw =>
    intro s ht
    rw [exec_rindSwValidWrite, execRindSwValidWrite, accessWrite_takes s _ rindPage 0x40 _ _ ht, if_pos rfl]
  case swOther =>
    intro s m hm ht
    rw [exec_rindSwValidWrite, execRindSwValidWrite, accessWrite_takes s m rindPage 0x40 _ _ ht, if_neg hm]

/-! Wakes and the gate. -/

/-- An enabled wake of a local source, of a kind that acts in park only, while nothing is deferred and the KV1 is not in park. -/
theorem wakeEvent_accepted {s : State} {src idx edge : Nat} (hen : s.wakeOn src = true) (hloc : localSrc src = true) (hpark : parkOnly src = true)
    (hd : (localWake s).flag WAKE_DEFER_ACTIVE wakePage = false) (hp : (localWake s).inPark = false) :
    wakeEvent s src idx edge = wakeAccept (localWake s) src idx (localWake s).tb false := by
  simp [wakeEvent, hen, hloc, hpark, hd, hp]

theorem wakeEvent_deferred {s : State} {src idx edge : Nat} (hen : s.wakeOn src = true) (hloc : localSrc src = true)
    (hd : (localWake s).flag WAKE_DEFER_ACTIVE wakePage = true) : wakeEvent s src idx edge = wakeDefer (localWake s) src idx := by
  simp [wakeEvent, hen, hloc, hd]

/-- A load's request that the gate decides next is admitted or keeps waiting. -/
theorem exec_gateAdmit_load {s : State} {e : GateEntry} (hhead : s.gateHead = some e) (hload : e.req.isLoad = true) :
    exec .gateAdmit s = .next (if s.gateOpen && s.admits e then gateAdmit s e else s) := by
  rw [exec_gateAdmit, execGateAdmit, hhead]
  obtain ⟨req, _, _, _, _, _, _, _⟩ := e
  cases req with
  | dom n => cases hload
  | _ => rfl

/-- Settles O7: a wake is accepted or recorded, and the gate takes, keeps or refuses its head. -/
theorem wakeAndGateCommands : Obligations.WakeAndGateCommands := by
  unfold Obligations.WakeAndGateCommands
  refine ⟨?clr, ?out, ?accepted, ?deferred, ?release, ?latched, ?slot, ?fitting, ?waits, ?expiry, ?idle⟩
  case clr =>
    intro s m ht
    rw [exec_wakeCauseClr, execWakeCauseClr, accessWrite_takes s m wakePage 0x44 _ _ ht, causeClear]
  case out =>
    intro s m v ht
    rw [exec_wakeOutWrite, execWakeOutWrite, accessWrite_takes s m wakePage 0x58 _ _ ht]
    cases v <;> rfl
  case accepted =>
    intro s hoff hen hd hp
    rw [exec_hcsNWake, execHcsNWake, hoff, if_neg Bool.false_ne_true, wakeEvent_accepted hen rfl rfl hd hp]
  case deferred =>
    intro s hoff hen hd
    rw [exec_hcsNWake, execHcsNWake, hoff, if_neg Bool.false_ne_true, wakeEvent_deferred hen rfl hd]
  case release =>
    intro s m ht hd
    rw [exec_deferRelease, execDeferRelease, accessWrite_takes s m wakePage 0x5C _ _ ht, deferEff, State.reached_flag, hd]
    rfl
  case latched => exact fun s i => rfl
  case slot =>
    intro s h
    rw [exec_gateSlotStart, execGateSlotStart, if_pos h, slotStart]
  case fitting =>
    intro s e c hhead hreq ho ha
    rw [exec_gateAdmit_load hhead (by rw [hreq]; rfl), ho, ha, Bool.and_self, if_pos rfl, Machine.gateAdmit, gateStart, hreq]
  case waits =>
    intro s e hhead hload ho ha
    rw [exec_gateAdmit_load hhead hload, ha, Bool.and_false, if_neg Bool.false_ne_true]
  case expiry =>
    intro s ho
    rw [exec_gateDeferExpiry, execGateDeferExpiry, if_pos ho]
  case idle =>
    intro s hhead
    rw [exec_gateAdmit, execGateAdmit, hhead]

end Sys2Proof.Machine
end

section
/-! PROOFS. What an interrupt and the sinter log leave alone, and tables written twice. -/

namespace Sys2Proof.Machine

/-! A place written twice keeps the later value only. -/

theorem tdel_tdel {α : Type} (t : Table α) (k : Nat) : tdel (tdel t k) k = tdel t k := by
  induction t with
  | nil => rfl
  | cons e r ih =>
    by_cases he : e.1 = k
    · simp only [tdel, he, if_true, ih]
    · simp only [tdel, he, if_false, ih]

theorem tdel_tins {α : Type} (t : Table α) (k : Nat) (v : α) : tdel (tins t k v) k = tdel t k := by
  induction t with
  | nil => exact if_pos rfl
  | cons e r ih =>
    unfold tins
    split
    · exact if_pos rfl
    · simp only [tdel, ih]

theorem tput_tput {α : Type} [DecidableEq α] (t : Table α) (k : Nat) (d v w : α) : tput (tput t k d v) k d w = tput t k d w := by
  have hdel : tdel (tput t k d v) k = tdel t k := by
    unfold tput
    split
    · exact tdel_tdel t k
    · rw [tdel_tins, tdel_tdel]
  rw [tput, hdel, tput]

@[simp] theorem State.upCh_upCh (s : State) (c : Nat) (f g : Chan → Chan) : (s.upCh c f).upCh c g = s.upCh c fun x => g (f x) := by
  have hch : (s.upCh c f).ch c = f (s.ch c) := s.ch_upCh_same c f
  change ({ s.upCh c f with chan := tput (s.upCh c f).chan c {} (g ((s.upCh c f).ch c)) } : State) = { s with chan := tput s.chan c {} (g (f (s.ch c))) }
  rw [hch]
  exact congrArg (fun t => { s with chan := t }) (tput_tput s.chan c {} _ _)

theorem State.upCh_congr (s : State) (c : Nat) {f g : Chan → Chan} (h : f (s.ch c) = g (s.ch c)) : s.upCh c f = s.upCh c g := by
  rw [State.upCh, State.upCh, h]

/-! An interrupt. -/

/-- An interrupt writes IRQ_RAW and the count of events of its page, and registers of PWR's page. -/
theorem rd_irq_ne (s : State) (p b : Nat) {l : Loc} (hpwr : keyPage l.key ≠ 2) (hraw : l.key ≠ (H_IRQ_RAW.loc p).key)
    (hev : l.key ≠ (H_EVT_CNT_EVENTS.loc p).key) : (s.irq p b).rd l = s.rd l := by
  rw [rd_of_nvmSide (nvmSide_irq s p b) hpwr]
  exact (State.rd_wr_ne _ _ hev).trans (State.rd_wr_ne _ _ hraw)

/-- A place beyond the header of its page is neither. -/
theorem rd_irq (s : State) (p b : Nat) {l : Loc} (hpwr : keyPage l.key ≠ 2) (hoff : 0x40 ≤ keyOff l.key) : (s.irq p b).rd l = s.rd l := by
  refine rd_irq_ne s p b hpwr (fun h => ?_) fun h => ?_
  · rw [h, keyOff_irqRaw] at hoff
    omega
  · rw [h] at hoff
    simp only [keyOff, Fld.loc, bitKey, Fld.pos, H_EVT_CNT_EVENTS, Blk.one] at hoff
    omega

@[simp] theorem ch_irq (s : State) (p b c : Nat) : (s.irq p b).ch c = s.ch c :=
  eq_of_quiet (fun s : State => s.ch c) (fun _ => rfl) (quiet_irq s p b)

/-! The sinter log. -/

theorem deltaLoc_key_ge (h : Nat) : logPage * 131072 ≤ (deltaLoc h).key := by
  unfold deltaLoc
  split <;> simp only [Fld.loc, bitKey, logPage] <;> omega

theorem rd_logCount {l : Loc} (hl : l.key < logPage * 131072) (hpwr : keyPage l.key ≠ 2) (s : State) (h : Nat) : (s.logCount h).rd l = s.rd l := by
  have hdelta : l.key ≠ (deltaLoc h).key := Nat.ne_of_lt (Nat.lt_of_lt_of_le hl (deltaLoc_key_ge h))
  have hpage {f : Fld} (i j : Nat) : l.key ≠ (f.loc logPage i j).key := by
    simp only [Fld.loc, bitKey]
    omega
  unfold State.logCount
  dsimp only
  split
  · exact State.rd_wr_ne _ _ hdelta
  · have hsat : ((s.wr (deltaLoc h) 0xFFFF).put LOG_STAT_DELTA_SAT logPage true).rd l = s.rd l :=
      (State.rd_wr_ne _ _ (hpage 0 0)).trans (State.rd_wr_ne _ _ hdelta)
    split
    · exact hsat
    · exact (rd_irq_ne _ logPage 0 hpwr (hpage 0 0) (hpage 0 0)).trans hsat

@[simp] theorem ch_logCount (s : State) (h c : Nat) : (s.logCount h).ch c = s.ch c := by
  unfold State.logCount
  dsimp only
  split
  · rfl
  · split
    · rfl
    · exact ch_irq ..

end Sys2Proof.Machine
end

section
/-! PROOFS. Channels and their power stages (chapter 6). -/

namespace Sys2Proof.Machine

/-- The PWM period takes its duty where neither its on-time nor its off-time is too short for two edges (R152). -/
theorem pulseDuty_long {d per edge : Nat} (hon : 2 * edge ≤ d * per / 4095) (hoff : 2 * edge ≤ per - d * per / 4095) : pulseDuty d per edge = d := by
  have h1 : (decide (0 < d * per / 4095) && decide (d * per / 4095 < 2 * edge)) = false := by
    rw [Bool.and_eq_false_iff, decide_eq_false_iff_not, decide_eq_false_iff_not]
    omega
  have h2 : (decide (d < 4095) && decide (per - d * per / 4095 < 2 * edge)) = false := by
    rw [Bool.and_eq_false_iff, decide_eq_false_iff_not, decide_eq_false_iff_not]
    omega
  simp only [pulseDuty, h1, h2, Bool.false_eq_true, if_false]

/-- Whether the wiring-energy window forbids a retry of channel `c` now (R185, R187). -/
def State.weForbids (s : State) (c : Nat) : Prop := c < 62 ∧ (s.tb < s.cald.weFullUntil ∨ s.eWe c < s.sW c + (s.ch c).weLast)

theorem chRetryExpiry_due {s : State} {c t : Nat} (he : (s.ch c).retryEnd = some t) (hst : s.chSt c = stRetryWait) (ht : t ≤ s.tb)
    (hon : s.pageOn (chPage c) = true) : chRetryExpiry s c = chRetryTest s c := by
  rw [chRetryExpiry, he]
  simp only [hst, ht, hon, decide_true, Bool.and_self, if_true]

theorem chRetryTest_forbidden {s : State} {c : Nat} (h : s.weForbids c) : chRetryTest s c = s.wr (cWeWait c) 1 := by
  rw [chRetryTest, if_pos]
  simpa [State.weForbids] using h

/-- A retry that the window permits takes one of the retries left, unless they are unlimited or the latch was tagged COUPLED. -/
theorem chRetryTest_permitted {s u : State} {c n : Nat} {dec : Bool} (h : ¬ s.weForbids c)
    (hdec : (s.rd (cRetries c) != 31 && !(s.ch c).uncounted) = dec) (hn : (if dec then s.rd (cRetries c) - 1 else s.rd (cRetries c)) = n)
    (hu : u = (s.wr (cRetries c) n).wr (cWeWait c) 0) : chRetryTest s c =
      (u.upCh c fun x => { x with retryEnd := none, decd := dec, uncounted := false }).goQueued c
        (if u.safeAct c && u.safeWants c then .limp else .retry) := by
  rw [chRetryTest, if_neg]
  · simp only [hdec, hn, hu]
  · simpa [State.weForbids] using h

theorem doAct_rejected (p : Nat) (s : State) : doAct p (s, true) = s.reject p := rfl

theorem doAct_done (p : Nat) (s : State) : doAct p (s, false) = s := rfl

/-- Settles O8: each command is a branch of its definition. -/
theorem channelCommands : Obligations.ChannelCommands := by
  unfold Obligations.ChannelCommands
  refine ⟨?outOn, ?outOff, ?outTable, ?lim, ?window, ?droop, ?droopEnd, ?droopCap, ?retryFree, ?retryTaken, ?retryWaits, ?reload, ?fuseHot, ?fuse,
    ?retryReset, ?diag, ?check, ?sampleA, ?sampleB, ?sampleDrop, ?pwmIdle, ?pwm, ?weCut, ?weBin⟩
  case outOn =>
    intro s z s1 m c v hz ht hmode hs1 hlimp hsafe hst hon
    rw [hz] at ht hmode hs1
    have htable : ¬ (decide (c < 62) && decide ((s.commitsFirst.reached (chPage c)).rd (cMode c) = 2)) = true := by simpa using hmode
    rw [exec_channelOutWrite, execChannelOutWrite, accessWrite_takes _ m _ _ _ _ ht, chOutEff, if_neg htable, ← hs1]
    simp only [chReact, hlimp, hsafe, Bool.or_self, Bool.false_eq_true, if_false, hst, hon, if_true]
  case outOff =>
    intro s z s1 m c v hz ht hmode hs1 hlimp hsafe hst hon
    rw [hz] at ht hmode hs1
    have htable : ¬ (decide (c < 62) && decide ((s.commitsFirst.reached (chPage c)).rd (cMode c) = 2)) = true := by simpa using hmode
    rw [exec_channelOutWrite, execChannelOutWrite, accessWrite_takes _ m _ _ _ _ ht, chOutEff, if_neg htable, ← hs1]
    simp only [chReact, hlimp, hsafe, Bool.or_self, Bool.false_eq_true, if_false, hst, hon]
    rfl
  case outTable =>
    intro s z m c v hz hc ht hmode
    rw [hz] at ht hmode
    rw [exec_channelOutWrite, execChannelOutWrite, accessWrite_takes _ m _ _ _ _ ht, chOutEff, hz, if_pos]
    simp [hc, hmode]
  case lim =>
    intro s m c v ht
    rw [exec_limWrite, execLimWrite, accessWrite_takes s m _ _ _ _ ht]
  case window =>
    intro s c hw hp ht hst
    rw [exec_inrushWindowClose, execInrushWindowClose, chWindowClose]
    simp only [hw, hp, State.tinrNs, ht, Option.isNone_none, decide_true, Bool.and_self, if_true, hst]
  case droop =>
    intro s c hw hp hcap
    rw [exec_droopChange, execDroopChange, chDroop]
    have hw' : (s.upCh c fun y => { y with droopLow := true }).cf (cInrush c) = true := hw
    simp only [hw', State.ch_upCh_same, hp, hcap, Bool.not_true, Bool.not_false, Bool.and_self, Bool.false_eq_true, if_false, if_true]
    rfl
  case droopEnd =>
    intro s c t hw hp
    rw [exec_droopChange, execDroopChange, chDroop]
    have hw' : (s.upCh c fun y => { y with droopLow := false }).cf (cInrush c) = true := hw
    simp only [hw', State.ch_upCh_same, hp, Bool.not_true, Bool.false_eq_true, if_false]
    rfl
  case droopCap =>
    intro s c t hp hw ht
    rw [exec_droopCapReached, execDroopCapReached, chDroopCap, hp]
    simp only [hw, State.tinrNs, ← Nat.mul_assoc, ht, decide_true, Bool.and_self, if_true, State.winResume, State.upCh_upCh]
  case retryFree =>
    intro s u c t hc hu he hst ht hwe hon hn
    have hdec : (s.rd (cRetries c) != 31 && !(s.ch c).uncounted) = false := by rw [hn]; rfl
    rw [exec_retryTimerExpiry, execRetryTimerExpiry, chRetryExpiry_due he hst ht hon,
      chRetryTest_permitted (of_eq_false hwe) hdec (by rw [if_neg Bool.false_ne_true, hn]) hu]
  case retryTaken =>
    intro s u c t n hc hu he hst ht hwe hon hn hlt hcount
    have hdec : (s.rd (cRetries c) != 31 && !(s.ch c).uncounted) = true := by
      rw [hn, hcount, Bool.not_false, Bool.and_true, bne_iff_ne]
      omega
    rw [exec_retryTimerExpiry, execRetryTimerExpiry, chRetryExpiry_due he hst ht hon,
      chRetryTest_permitted (of_eq_false hwe) hdec (by rw [if_pos rfl, hn, Nat.add_sub_cancel]) hu]
  case retryWaits =>
    intro s c t hc he hst ht hon hwe
    rw [exec_retryTimerExpiry, execRetryTimerExpiry, chRetryExpiry_due he hst ht hon, chRetryTest_forbidden ⟨hc, hwe⟩]
  case reload =>
    intro s c hst ht
    have hst' : (decide (s.chSt c = stOn) || decide (s.chSt c = stLimp)) = true := by simpa using hst
    rw [exec_retriesReload, execRetriesReload, chRetriesReload, hst', Bool.true_and, if_pos (decide_eq_true ht), State.reloadRetries]
  case fuseHot =>
    rintro s s1 m c ht rfl hhot
    rw [exec_actFuseReset, execActFuseReset, accessWrite_takes s m _ _ _ _ ht, chFuseReset, if_pos hhot, doAct_rejected]
  case fuse =>
    rintro s s1 m c ht rfl hcool
    rw [exec_actFuseReset, execActFuseReset, accessWrite_takes s m _ _ _ _ ht, chFuseReset, if_neg hcool, doAct_done]
  case retryReset =>
    rintro s s1 m c ht rfl
    rw [exec_actRetryReset, execActRetryReset, accessWrite_takes s m _ _ _ _ ht, chRetryReset, doAct_done]
  case diag =>
    rintro s s1 m c ht rfl hck
    rw [exec_actDiagNow, execActDiagNow, accessWrite_takes s m _ _ _ _ ht, chDiagNow, if_pos hck, doAct_done]
  case check =>
    intro s c hck h0 ht hon
    rw [exec_offStateCheckStart, execOffStateCheckStart, chCheckStart]
    simp only [hck, h0, ht, hon, decide_true, Bool.and_self, if_true]
  case sampleA =>
    intro s c v hck h1 ht
    rw [exec_offStateCheckSample, execOffStateCheckSample, chCheckSample]
    simp [hck, h1, ht]
  case sampleB =>
    intro s c v hck h2 ht
    rw [exec_offStateCheckSample, execOffStateCheckSample, chCheckSample]
    simp [hck, h2, ht]
  case sampleDrop =>
    intro s c v hck
    rw [exec_offStateCheckSample, execOffStateCheckSample, chCheckSample]
    simp only [hck, Bool.not_false, if_true]
  case pwmIdle =>
    intro s c hst
    rw [exec_pwmPeriodStart, execPwmPeriodStart, pwmStart, chPwmStart]
    simp only [hst, Bool.false_and, Bool.false_eq_true, if_false]
  case pwm =>
    intro s u w c d per hst hmode hf hdue hu hd hper hon hoff hw
    have hmode' : (s.rd (cMode c) != 0) = true := bne_iff_ne.mpr hmode
    have hdue' : periodDue (s.ch c).freq (s.ch c).phase s.tb = true := decide_eq_true hdue
    have hduty : pulseDuty d (pwmPeriod (u.rd (cFreq c))) (u.edgeNs c) = d := by
      rw [← hper]
      exact pulseDuty_long hon hoff
    rw [exec_pwmPeriodStart, execPwmPeriodStart, pwmStart, chPwmStart]
    simp only [hst, hmode', hf, hdue', Bool.not_false, Bool.and_self, if_true, State.loadPeriod, ← hu, ← hd, hduty, bne_self_eq_false]
    rw [hw]
    rfl
  case weCut =>
    intro s c e hst hlim hon hf hwe
    rw [exec_wiringEnergyCut, execWiringEnergyCut]
    simp only [hst, hlim, hon, hf, hwe, Bool.not_false, decide_true, Bool.and_self, if_true]
  case weBin =>
    intro s
    rw [exec_weBinBoundary, execWeBinBoundary, completes_next]

end Sys2Proof.Machine
end

section
/-! PROOFS. The power stages of channels (chapters 6 and 7). -/

namespace Sys2Proof.Machine

/-! Places of a channel's fields. -/

/-- The fields of HS and LS channels stand beyond the header, in a page below that of the sinter log. -/
structure Loc.InStage (l : Loc) : Prop where
  off : 0x40 ≤ keyOff l.key
  pwr : keyPage l.key ≠ 2
  log : l.key < logPage * 131072

theorem chLoc_inStage {c : Nat} (hc : c < 62) {h l : Fld} {f : Option Fld} (hh : h.blk = .one ∧ 0x40 ≤ h.off ∧ h.off < 4096 ∧ h.lo < 32)
    (hl : l.blk = ⟨0x100, 16, 0x40, 1, 0x0⟩ ∧ l.off < 0x40 ∧ l.lo < 32) : (chLoc c (some h) (some l) f).InStage := by
  obtain ⟨hblk, hlo, hhi, hbit⟩ := hh
  obtain ⟨lblk, loff, lbit⟩ := hl
  unfold chLoc
  by_cases hs : c < 46
  · simp only [hs, if_true, chPage, chIdx]
    constructor <;> simp only [Fld.loc, bitKey, Fld.pos, keyOff, keyPage, hblk, Blk.one, logPage] <;> omega
  · simp only [hs, hc, if_true, if_false, chPage, chIdx]
    constructor <;> simp only [Fld.loc, bitKey, Fld.pos, keyOff, keyPage, lblk, logPage] <;> omega

/-- Two fields of one channel are different bits when their fields in each map are. -/
theorem chLoc_key_ne {c : Nat} (hc : c < 62) {h l h' l' : Fld} {f f' : Option Fld} (hh : h.pos 0 0 * 32 + h.lo ≠ h'.pos 0 0 * 32 + h'.lo)
    (hl : l.blk = l'.blk ∧ l.off * 32 + l.lo ≠ l'.off * 32 + l'.lo) :
    (chLoc c (some h) (some l) f).key ≠ (chLoc c (some h') (some l') f').key := by
  obtain ⟨hblk, hoff⟩ := hl
  unfold chLoc
  by_cases hs : c < 46
  · simp only [hs, if_true, chPage, chIdx]
    exact key_ne_of_place hh _
  · simp only [hs, hc, if_true, if_false]
    refine key_ne_of_place ?_ _
    simp only [Fld.pos, hblk]
    omega

/-! The thermal latch. -/

/-- What the latch of an HS or LS channel that is not coupled records before the channel reacts. -/
def State.latchRecorded (s : State) (c : Nat) : State := ((s.wr (cTlHold c) 1).chFault c (cfTherm c) 2).logChan c 4

theorem rd_latchRecorded (s : State) (c : Nat) {l : Loc} (hl : l.InStage) :
    (s.latchRecorded c).rd l = ((s.wr (cTlHold c) 1).wr (cfTherm c) 1).rd l := by
  obtain ⟨hoff, hpwr, hlog⟩ := hl
  exact (rd_logCount hlog hpwr _ _).trans (rd_irq _ _ _ hpwr hoff)

/-- A latch of an uncoupled HS or LS channel sets TL_HOLD and its flag, and leaves STATE. -/
theorem fields_latchRecorded (s : State) {c : Nat} (hc : c < 62) : (s.latchRecorded c).rd (cTlHold c) = 1 ∧
    (s.latchRecorded c).rd (cfTherm c) = 1 ∧ (s.latchRecorded c).chSt c = s.chSt c := by
  have hwidth : (cTlHold c).w = 1 ∧ (cfTherm c).w = 1 := by
    unfold cTlHold cfTherm chLoc
    by_cases hs : c < 46
    · simp only [hs, if_true]
      exact ⟨rfl, rfl⟩
    · simp only [hs, hc, if_true, if_false]
      exact ⟨rfl, rfl⟩
  have hdiff : (cTlHold c).key ≠ (cfTherm c).key := chLoc_key_ne hc (by decide) (by decide)
  have hin : (cTlHold c).InStage ∧ (cfTherm c).InStage ∧ (cState c).InStage :=
    ⟨chLoc_inStage hc (by decide) (by decide), chLoc_inStage hc (by decide) (by decide), chLoc_inStage hc (by decide) (by decide)⟩
  obtain ⟨hinHold, hinFlag, hinState⟩ := hin
  refine ⟨?_, ?_, ?_⟩
  · rw [rd_latchRecorded s c hinHold, State.rd_wr_ne _ _ hdiff, State.rd_wr_same]
    exact congrArg (1 % 2 ^ ·) hwidth.1
  · rw [rd_latchRecorded s c hinFlag, State.rd_wr_same]
    exact congrArg (1 % 2 ^ ·) hwidth.2
  · have hhold : (cState c).key ≠ (cTlHold c).key := chLoc_key_ne hc (by decide) (by decide)
    have hflag : (cState c).key ≠ (cfTherm c).key := chLoc_key_ne hc (by decide) (by decide)
    rw [State.chSt, rd_latchRecorded s c hinState, State.rd_wr_ne _ _ hflag, State.rd_wr_ne _ _ hhold]
    rfl

/-- The latch of an uncoupled channel that is locked leaves it locked. -/
theorem chLatchSet_locked {s : State} {c : Nat} (hc : c < 62) (hl : (s.ch c).latch = false) (hon : s.pageOn (chPage c) = true)
    (hcoup : s.coupledNow c = false) (hst : s.chSt c = stLocked) : ∃ f : Chan → Chan, (∀ x, (f x).latch = true) ∧
      chLatchSet s c = (s.latchRecorded c).upCh c f := by
  obtain ⟨-, -, hkeep⟩ := fields_latchRecorded s hc
  have hst' : (s.latchRecorded c).chSt c = stLocked := hkeep.trans hst
  refine ⟨fun x => { x with latch := true, uncounted := x.uncounted || false,
                            retryLeft := (match x.retryEnd with
                              | some t => some (t - (s.latchRecorded c).tb)
                              | none => x.retryLeft), retryEnd := none }, fun _ => rfl, ?_⟩
  simp only [chLatchSet, hl, hon, hcoup, hc, Bool.false_eq_true, if_false, Bool.not_true, decide_true, Bool.and_false, if_true]
  exact if_pos (by rw [Bool.or_eq_true, decide_eq_true_eq]; exact Or.inl hst')

/-- How channel `c` reacts once its latch has been recorded. -/
def State.latchReact (s : State) (c : Nat) : State :=
  if s.chSt c = stLocked || s.chSt c = stTurnOff then s
  else if conducting (s.chSt c) then s.turnOff c .thermal
  else ((s.withdraw (.chan c)).wr (cWeWait c) 0).setSt c stThermal

theorem State.latchReact_conducting {s : State} {c : Nat} (h : conducting (s.chSt c) = true) : s.latchReact c = s.turnOff c .thermal := by
  have hrest : (decide (s.chSt c = stLocked) || decide (s.chSt c = stTurnOff)) = false := by
    simp only [conducting, Bool.or_eq_true, beq_iff_eq] at h
    rcases h with (h | h) | h <;> rw [h] <;> rfl
  rw [State.latchReact, hrest, if_neg Bool.false_ne_true, if_pos h]

/-- The latch of a field pin that waits for no retry, and that conducts, turns it off. -/
theorem chLatchSet_field {s : State} {c : Nat} (hc : 62 ≤ c) (hl : (s.ch c).latch = false) (hr : (s.ch c).retryEnd = none)
    (hon : s.pageOn (chPage c) = true)
    (hst : conducting ((((s.wr (cTlHold c) 1).chFault c (cfTherm c) 2).upCh c fun x => { x with latch := true }).chSt c) = true) :
    chLatchSet s c = (((s.wr (cTlHold c) 1).chFault c (cfTherm c) 2).upCh c fun x => { x with latch := true }).turnOff c .thermal := by
  have h62 : ¬ c < 62 := by omega
  have hch : (((s.wr (cTlHold c) 1).chFault c (cfTherm c) 2).ch c).retryEnd = none := (congrArg Chan.retryEnd (ch_irq ..)).trans hr
  have hreact (f : Chan → Chan) (hf : ∀ x : Chan, x.retryEnd = none → f x = { x with latch := true }) :
      (((s.wr (cTlHold c) 1).chFault c (cfTherm c) 2).upCh c f).latchReact c =
        (((s.wr (cTlHold c) 1).chFault c (cfTherm c) 2).upCh c fun x => { x with latch := true }).turnOff c .thermal := by
    rw [State.upCh_congr _ c (g := fun x => { x with latch := true }) (hf _ hch), State.latchReact_conducting hst]
  rw [chLatchSet, hl, if_neg Bool.false_ne_true, hon, Bool.not_true, if_neg Bool.false_ne_true]
  simp only [h62, decide_false, Bool.false_and, Bool.false_eq_true, if_false]
  refine hreact _ fun x hx => ?_
  simp only [hx, Bool.or_false]

theorem level_addWe (s : State) (c e : Nat) : ((s.addWe c e).ch c).level = (s.ch c).level := by
  unfold State.addWe
  dsimp only
  split
  · rfl
  · rw [State.ch_upCh_same]

theorem tb_addWe (s : State) (c e : Nat) : (s.addWe c e).tb = s.tb := by
  unfold State.addWe
  dsimp only
  split <;> rfl

/-- Settles O9: each command is a branch of its definition, and the fields that a latch sets are different places. -/
theorem channelStageCommands : Obligations.ChannelStageCommands := by
  unfold Obligations.ChannelStageCommands
  refine ⟨?limStart, ?limAgain, ?limEnd, ?filtered, ?fast, ?off, ?offAway, ?latch, ?latchField, ?latchAuto, ?clrHot, ?clr, ?unlockFull, ?unlock,
    ?senseField, ?sense, ?clampOff, ?clampRest⟩
  case limStart =>
    intro s c hst hlim hclear
    rw [exec_limitationStart, execLimitationStart, Machine.limStart, chLimStart]
    simp only [hst, hlim, Bool.not_false, Bool.and_self, if_true, State.settleFilt, hclear]
  case limAgain =>
    intro s c t hst hlim hclear
    rw [exec_limitationStart, execLimitationStart, Machine.limStart, chLimStart]
    simp only [hst, hlim, Bool.not_false, Bool.and_self, if_true, State.settleFilt, hclear]
  case limEnd =>
    intro s c we hlim
    rw [exec_limitationEnd, execLimitationEnd, Machine.limEnd, chLimEnd, if_pos hlim]
    have hlevel : (((s.addWe c we).wr (cLimiting c) 0).ch c).level = (s.ch c).level := level_addWe s c we
    have htb : ((s.addWe c we).wr (cLimiting c) 0).tb = s.tb := tb_addWe s c we
    rw [hlevel, htb]
  case filtered =>
    intro s c we hst hlim hon hf ht
    rw [exec_filteredTrip, execFilteredTrip, filteredTrip, chFilteredTrip]
    simp only [hst, hlim, hon, hf, ht, Bool.not_false, decide_true, Bool.and_self, if_true]
  case fast =>
    intro s c hp hon hst
    rw [exec_fastTrip, execFastTrip, fastTrip, hp, if_neg Bool.false_ne_true, chFastTrip]
    simp only [hon, hst, Bool.not_true, Bool.false_eq_true, if_false, if_true]
  case off =>
    intro s c e we hst hon
    rw [exec_turnOffComplete, execTurnOffComplete, turnOffDone, chTurnOffDone, if_pos hst]
    simp only [hon, if_true]
  case offAway =>
    intro s c e we hst hon
    rw [exec_turnOffComplete, execTurnOffComplete, turnOffDone, chTurnOffDone, if_pos hst]
    simp only [hon, Bool.false_eq_true, if_false]
  case latch =>
    intro s c hc hl hon hcoup hst
    obtain ⟨f, hf, heq⟩ := chLatchSet_locked hc hl hon hcoup hst
    obtain ⟨hhold, hflag, hkeep⟩ := fields_latchRecorded s hc
    rw [exec_thermalLatchSet, execThermalLatchSet, latchSet, heq, completes_next]
    exact ⟨hhold, hflag, by rw [State.ch_upCh_same, hf], hkeep.trans hst⟩
  case latchField =>
    intro s c hc hl hr hon hst
    rw [exec_thermalLatchSet, execThermalLatchSet, latchSet, chLatchSet_field hc hl hr hon hst]
  case latchAuto =>
    intro s c hl ha ht
    rw [exec_thermalLatchClear, execThermalLatchClear, Machine.latchAuto, chLatchAuto]
    simp only [hl, ha, ht, decide_true, Bool.and_self, if_true]
  case clrHot =>
    intro s s1 m c ht hs1 hl hhot
    rw [hs1] at hl hhot
    rw [exec_actTlClr, execActTlClr, actPlace, accessWrite_takes s m _ _ _ _ ht, tlClr, chTlClr, if_pos hhot, doAct_rejected, hs1]
  case clr =>
    intro s s1 m c ht hs1 hl hcool
    rw [hs1] at hl hcool
    rw [exec_actTlClr, execActTlClr, actPlace, accessWrite_takes s m _ _ _ _ ht, tlClr, chTlClr, if_neg hcool, hl, if_pos rfl, doAct_done, hs1]
  case unlockFull =>
    intro s s1 m c ht hs1 hfull
    rw [hs1] at hfull
    rw [exec_actUnlock, execActUnlock, actPlace, accessWrite_takes s m _ _ _ _ ht, Machine.unlock, chUnlock, if_pos hfull, doAct_rejected, hs1]
  case unlock =>
    intro s s1 m c ht hs1 hfree
    rw [hs1] at hfree
    rw [exec_actUnlock, execActUnlock, actPlace, accessWrite_takes s m _ _ _ _ ht, Machine.unlock, chUnlock, if_neg hfree, doAct_done, hs1]
  case senseField =>
    intro s c tj vout raw p l hc hon
    have h62 : ¬ c < 62 := by omega
    have h46 : ¬ c < 46 := by omega
    rw [exec_senseUpdate, execSenseUpdate, senseUpdate, completes_next, chSense, hon]
    simp only [Bool.not_true, Bool.false_eq_true, if_false, h62, steadyRead, h46, decide_false, Bool.false_and]
    exact State.rd_wr_same ..
  case sense => exact fun s c tj vout raw p l => rfl
  case clampOff =>
    intro s c e hc hd hst
    rw [exec_lsClampConduction, execLsClampConduction, clampConducts]
    simp only [hd, hc, hst, Bool.not_true, Bool.false_eq_true, if_false, decide_true, Bool.and_self, if_true]
  case clampRest =>
    intro s c e hlo hc hd hst
    rw [exec_lsClampConduction, execLsClampConduction, clampConducts]
    simp only [hd, hc, hlo, hst, Bool.not_true, Bool.false_eq_true, if_false, decide_true, decide_false, Bool.and_false, Bool.and_self, if_true]

end Sys2Proof.Machine
end

section
/-! PROOFS. The caldera (chapter 7). -/

namespace Sys2Proof.Machine

/-- A plain write changes the registers only. -/
theorem plainWrite_form (s : State) (p off v : Nat) : ∃ r, plainWrite s p off v = { s with reg := r } := by
  have hfield (s : State) (x : Fld × Nat × Nat) : ∃ r, writeField s p v x = { s with reg := r } := by
    unfold writeField
    dsimp only
    split <;> exact ⟨_, rfl⟩
  unfold plainWrite
  generalize fieldsAt p off = xs
  induction xs generalizing s with
  | nil => exact ⟨s.reg, rfl⟩
  | cons x l ih =>
    obtain ⟨r, hr⟩ := hfield s x
    obtain ⟨r', hr'⟩ := ih (writeField s p v x)
    exact ⟨r', by rw [List.foldl_cons, hr', hr]⟩

theorem eq_of_plainWrite {α : Type} (part : State → α) (h : ∀ (s : State) (r : Table Nat), part { s with reg := r } = part s) (s : State)
    (p off v : Nat) : part (plainWrite s p off v) = part s := by
  obtain ⟨r, hr⟩ := plainWrite_form s p off v
  rw [hr, h]

@[simp] theorem State.reached_cald (s : State) (p : Nat) : (s.reached p).cald = s.cald := by
  obtain ⟨w, d, h⟩ := s.reached_form p
  rw [h]

@[simp] theorem State.reached_tb (s : State) (p : Nat) : (s.reached p).tb = s.tb := by
  obtain ⟨w, d, h⟩ := s.reached_form p
  rw [h]

/-- Where the drain is due it undoes one action. -/
theorem calderaDrainStep_due {s : State} (hd : s.domOn 7 = true) (hen : s.flag H_CTRL_EN caldPage = false) (hder : s.derated = true)
    (hlast : s.cald.lastUndo + 10000000 ≤ s.tb) (hf : s.clk.frozen = false) : exec .calderaDrainStep s = .next (undoAction s) := by
  rw [exec_calderaDrainStep, execCalderaDrainStep, hd, hen, hder, hf, decide_eq_true hlast]
  rfl

/-- What a write of AMB_SET leaves of the caldera's time and of STALE. -/
theorem ambSetEff_eq (s : State) (v : Nat) :
    ambSetEff v s = { (plainWrite s caldPage 0x44 v).put CALD_AMB_STALE caldPage false with cald := { s.cald with ambTb := s.tb } } := by
  have hc : (plainWrite s caldPage 0x44 v).cald = s.cald := eq_of_plainWrite State.cald (fun _ _ => rfl) s _ _ _
  have ht : (plainWrite s caldPage 0x44 v).tb = s.tb := eq_of_plainWrite State.tb (fun _ _ => rfl) s _ _ _
  rw [← hc, ← ht]
  rfl

/-- Settles O10: the tick is its parts in their order, and an undone action is the last one taken. -/
theorem calderaCommands : Obligations.CalderaCommands := by
  unfold Obligations.CalderaCommands
  refine ⟨?away, ?tick, ?release, ?drain, ?cap, ?shed, ?amb, ?stale⟩
  case away =>
    intro s temps vpins ssup lines cols aux vlf ivlf hd
    rw [exec_calderaTick, execCalderaTick, Machine.calderaTick, hd, Bool.not_false, Bool.true_or, if_pos rfl]
  case tick =>
    intro s s0 s1 s2 s3 temps vpins ssup lines cols aux vlf ivlf h0 hd hf h1 h2 h3
    rw [exec_calderaTick, execCalderaTick, ← h0, Machine.calderaTick, hd, hf]
    simp only [Bool.cond_eq_ite] at h1 h2 h3
    simp only [Bool.not_true, Bool.or_self, Bool.false_eq_true, if_false, ← h1, ← h2, ← h3]
  case release =>
    intro s t hu hen hder ht hlast hd hf
    rw [exec_calderaRelease, execCalderaRelease, hu]
    dsimp only
    rw [hen, hder, hd, hf, decide_eq_true ht, decide_eq_true hlast]
    rfl
  case drain =>
    intro s hd hen hder hlast hf
    exact calderaDrainStep_due hd hen hder hlast hf
  case cap =>
    intro s s1 p old r hact hd hen hlast hf hroom hs1
    have hder : s.derated = true := by rw [State.derated, hact]; rfl
    have hmin : min (s.get (capFld p) caldPage + 512) 4095 = s.get (capFld p) caldPage + 512 := Nat.min_eq_left (Nat.le_of_lt hroom)
    rw [calderaDrainStep_due hd hen hder hlast hf, undoAction, hact]
    simp only [hmin, Nat.ne_of_lt hroom, if_false, ← hs1] <;> rfl
  case shed =>
    intro s s1 u r hact hd hen hlast hf hs1
    have hder : s.derated = true := by rw [State.derated, hact]; rfl
    rw [calderaDrainStep_due hd hen hder hlast hf, undoAction, hact, hs1]
  case amb =>
    intro s m v ht
    rw [exec_ambSetWrite, execAmbSetWrite, accessWrite_takes s m _ _ _ _ ht, completes_next, ambSetEff_eq, State.reached_cald, State.reached_tb]
    exact ⟨State.flag_put_same _ CALD_AMB_STALE caldPage false 0 0 (by decide), rfl, rfl⟩
  case stale =>
    intro s hd hsrc hst ht
    rw [exec_ambStale, execAmbStale, hd, hsrc, hst, decide_eq_true ht]
    rfl

end Sys2Proof.Machine
end

section
/-! PROOFS. The stall of a bridge (chapter 8): a pair's state is that of its lead, and the statement names the state of the half. -/

namespace Sys2Proof.Machine

/-- Bridges 0 and 1 paired, 1 in RUN with a stall that has lasted long enough, and 0, the lead of the pair, in REVERSING. -/
def stalledPair : State :=
  ({ (((((State.reset.set HB_PAIR_PARTNER (brPage 0) 1).put HB_PAIR_EN (brPage 0) true).put HB_PAIR_EN (brPage 1) true).wr (bState 0) bsReversing).wr
      (bState 1) bsRun) with tb := 10000000000000 } : State).upBr 1 fun x => { x with stallFrom := some 0 }

/-- The stall of the second half ends the reversal that its lead shows, and leaves the half in RUN. -/
theorem brSt_brStall_stalledPair : (brStall stalledPair 1).brSt 1 = bsRun := by decide +kernel

theorem stallDetect_stalledPair : exec (.stallDetect 1) stalledPair = .next (brStall stalledPair 1) := by
  have hfrom : (stalledPair.br 1).stallFrom = some 0 := by decide +kernel
  have hlong : (!decide (0 + stalledPair.stallNs 1 ≤ stalledPair.tb)) = false := by decide +kernel
  have hrun : stalledPair.brSt 1 = bsRun := by decide +kernel
  rw [exec_stallDetect, execStallDetect, hfrom]
  dsimp only
  rw [hlong, hrun]
  rfl

/-- Refutes O11: its eighth clause stops a half-bridge in RUN whatever the lead of its pair shows. -/
theorem not_bridgeCommands : ¬ Obligations.BridgeCommands := by
  unfold Obligations.BridgeCommands
  rintro ⟨-, -, -, -, -, -, -, h, -⟩
  have hstall := h stalledPair 1 0 (by decide +kernel) (by decide +kernel) (by decide +kernel) (by decide)
  rw [stallDetect_stalledPair, Host.Outcome.next.injEq] at hstall
  have hstopped := congrArg (fun t : State => t.brSt 1) hstall
  rw [brSt_brStall_stalledPair] at hstopped
  revert hstopped
  decide +kernel

end Sys2Proof.Machine
end

section
/-! PROOFS. A ripple at the end of the position's range (chapter 8): POS has 24 bits and turns over, and no clause bounds TRAVEL.MAX by its width. -/

namespace Sys2Proof.Machine

/-- Engine 0 is enabled and normalised, its motor runs towards opening, POS stands at its largest value and the entry of TRAVEL.MAX above it. -/
def ripplingAtEnd : State :=
  (((({ State.reset with reg := [((RPE_TRAVEL_MAX.loc rpePage).key, 2 ^ 24)] } : State).wr (bState 20) bsRun).put RPE_CFG_EN rpePage true).put
    RPE_STAT_NORM rpePage true).set RPE_POS rpePage (2 ^ 23 - 1)

/-- The count turns POS over to its lowest value, which is below the margin: NORM is lost. -/
theorem flag_norm_rpeCount_ripplingAtEnd :
    (rpeCount (ripplingAtEnd.upEng 0 fun x => { x with lastCross := some ripplingAtEnd.tb }) 0).flag RPE_STAT_NORM rpePage = false := by
  decide +kernel

/-- Refutes O12: its thirteenth clause only moves POS, and a POS that turns over loses NORM. -/
theorem not_gateDriverAndRippleCommands : ¬ Obligations.GateDriverAndRippleCommands := by
  unfold Obligations.GateDriverAndRippleCommands
  rintro ⟨-, -, -, -, -, -, -, hcount, -, -, -, -, hmoved, -⟩
  have hc : ripplingAtEnd.counts 0 = true := by decide +kernel
  have hst : ripplingAtEnd.brSt (20 + 0) = bsRun := by decide +kernel
  have hoff : ripplingAtEnd.brSt (20 + 0) ≠ bsOff := by rw [hst]; decide
  have hrev : ripplingAtEnd.brSt (20 + 0) ≠ bsReversing := by rw [hst]; decide
  have hcross : (ripplingAtEnd.eng 0).lastCross = none := by decide +kernel
  have hhyst : ripplingAtEnd.get RPE_RIP_HYST rpePage 0 * (ripplingAtEnd.br (20 + 0)).lastI ≤ 0 * 100 := by decide +kernel
  have hauto : (ripplingAtEnd.br (20 + 0)).auto = false := by decide +kernel
  have hstep := hmoved ripplingAtEnd 0 0 hc hoff hrev hauto hcross hhyst (by decide) (by decide +kernel) (by decide +kernel)
  rw [hcount ripplingAtEnd 0 0 hc hoff hcross hhyst] at hstep
  have hnorm := congrArg (fun t : State => t.flag RPE_STAT_NORM rpePage) (Host.Outcome.next.inj hstep)
  have hlost := flag_norm_rpeCount_ripplingAtEnd.symm.trans hnorm
  revert hlost
  decide +kernel

end Sys2Proof.Machine
end

section
/-! PROOFS. Valves and valve banks (chapter 9). -/

namespace Sys2Proof.Machine

/-- Settles O13: each command is a branch of its definition. -/
theorem valveAndBankCommands : Obligations.ValveAndBankCommands := by
  unfold Obligations.ValveAndBankCommands
  refine ⟨?outOn, ?outOff, ?outQueued, ?overlap, ?peakNow, ?peakEnd, ?dip, ?period, ?coil, ?model, ?modelAway, ?ramp, ?rampAgain, ?clear, ?freeze,
    ?limStart, ?limAgain, ?limEnd, ?filtered, ?fast, ?off, ?latch, ?latchAuto, ?clrHot, ?unlockFull, ?unlock, ?clamp, ?bankFast, ?bankFilt,
    ?bankFilteredTrip, ?bankClear, ?bankLim, ?bankLimEnd, ?bankLatch, ?bankLatchAuto, ?bankSense⟩
  case outOn =>
    intro s z s1 m n v hz ht hs1 hv hst hacc
    rw [exec_valveOutWrite, execValveOutWrite, ← hz, accessWrite_takes z m _ _ _ _ ht, ← hs1, vOutEff]
    simp only [hv, beq_self_eq_true, hst, hacc, decide_true, Bool.true_or, Bool.and_self, if_true]
  case outOff =>
    intro s z s1 m n v hz ht hs1 hv hst
    rw [exec_valveOutWrite, execValveOutWrite, ← hz, accessWrite_takes z m _ _ _ _ ht, ← hs1, vOutEff]
    simp only [hv, hst]
    rfl
  case outQueued =>
    intro s z s1 m n v hz ht hs1 hv hst
    rw [exec_valveOutWrite, execValveOutWrite, ← hz, accessWrite_takes z m _ _ _ _ ht, ← hs1, vOutEff]
    simp only [hv, hst]
    rfl
  case overlap =>
    intro s n hst ht
    rw [exec_overlapTimeout, execOverlapTimeout]
    simp only [hst, ht, decide_true, Bool.and_self, if_true, State.overlapRefuse]
  case peakNow =>
    intro s s1 s2 n i hst hr hi hs1 hst1 hmode hs2
    have hnow : (decide (s1.vSt n = vsPeak) && (decide (s1.get VLV_CFG_MODE (vPage n) = 0) || decide (s1.get VLV_PH2_T_PEAK (vPage n) = 0))) = true := by
      simpa [hst1] using hmode
    rw [exec_valvePeakEnd, execValvePeakEnd, vPeakStep, hst, hr]
    simp only [bne_self_eq_false, Bool.false_eq_true, if_false, hi, if_true, ← hs1, hnow]
    rw [vPeakEnd, ← hs2]
  case peakEnd =>
    intro s s2 n i t hst hr ht hs2
    rw [exec_valvePeakEnd, execValvePeakEnd, vPeakStep, hst, hr]
    simp only [bne_self_eq_false, Bool.false_eq_true, if_false, ht, if_true]
    rw [vPeakEnd, ← hs2]
  case dip =>
    intro s n i hst hr hen
    rw [exec_armatureDip, execArmatureDip]
    simp only [hst, hr, hen, decide_true, Option.isNone_none, Bool.and_self, if_true]
    rfl
  case period =>
    intro s n mean duty hst hslot hf
    have hreg : s.vRegulates n = true := by rw [State.vRegulates, hst]; rfl
    rw [exec_valveRegulationPeriod, execValveRegulationPeriod, vPeriod]
    simp only [hslot, hreg, hf, decide_true, Bool.not_false, Bool.and_self, if_true, hst]
    rfl
  case coil =>
    intro s n mv ma hn hq hma hd hr hcnt
    have hfew : s.get VLV_N_MEAS (vPage n) + 1 < 3 := by omega
    have hmin : min (s.get VLV_N_MEAS (vPage n) + 1) 15 = s.get VLV_N_MEAS (vPage n) + 1 := by omega
    have hkeep : (s.upVlv n fun x => { x with quiet := s.tb }).get VLV_N_MEAS (vPage n) = s.get VLV_N_MEAS (vPage n) := rfl
    rw [exec_coilMeasurement, execCoilMeasurement, coilMeasure]
    simp only [hq, hma, hd, hr, decide_true, Bool.and_self, if_true, hkeep, hmin, hfew]
  case model =>
    intro s n hd
    rw [exec_coilModelTick, execCoilModelTick, if_pos hd]
  case modelAway =>
    intro s n hd
    rw [exec_coilModelTick, execCoilModelTick, hd, if_neg Bool.false_ne_true]
  case ramp =>
    intro s n hst ht hnext
    rw [exec_rampDownEnd, execRampDownEnd, vRampEnd, if_neg hnext]
    simp only [hst, ht, decide_true, Bool.and_self, if_true]
  case rampAgain =>
    intro s n hst ht hnext
    rw [exec_rampDownEnd, execRampDownEnd, vRampEnd, if_pos hnext]
    simp only [hst, ht, decide_true, Bool.and_self, if_true]
  case clear =>
    intro s s1 m n ht hs1
    rw [exec_valveActClear, execValveActClear, accessWrite_takes s m _ _ _ _ ht, vClear, doAct_done, hs1]
  case freeze =>
    intro s n hf hlong hdr hlim hclear
    have hsettled : vSettle (vLimEnd s n) n = s := by
      rw [vLimEnd, hlim]
      dsimp only
      rw [vSettle, hclear]
    rw [exec_valveFreezeTurnOff, execValveFreezeTurnOff, hsettled]
    simp only [hf, hlong, hdr, decide_true, Bool.and_self, if_true]
  case limStart =>
    intro s n hdr hlim hclear
    have hsettled : vSettle s n = s := by rw [vSettle, hclear]
    rw [exec_limitationStart, execLimitationStart, Machine.limStart, vLimStart, hdr, hlim, hsettled]
    rfl
  case limAgain =>
    intro s n t hdr hlim hclear
    rw [exec_limitationStart, execLimitationStart, Machine.limStart, vLimStart, hdr, hlim, vSettle, hclear]
    rfl
  case limEnd =>
    intro s n t we hlim
    rw [exec_limitationEnd, execLimitationEnd, Machine.limEnd, vLimEnd, hlim]
  case filtered =>
    intro s n t we hlim ht hf
    rw [exec_filteredTrip, execFilteredTrip, filteredTrip, vFilteredTrip, hlim]
    simp only [ht, hf, decide_true, Bool.not_false, Bool.and_self, if_true]
  case fast =>
    intro s n hdr
    rw [exec_fastTrip, execFastTrip, fastTrip, vFastTrip, if_pos hdr]
  case off =>
    intro s s1 n e we hs1 hpulse
    rw [exec_turnOffComplete, execTurnOffComplete, turnOffDone, vTurnOffDone, ← hs1]
    simp only [hpulse, if_true]
  case latch =>
    intro s n hl
    rw [exec_thermalLatchSet, execThermalLatchSet, latchSet, vLatchSet, hl, if_neg Bool.false_ne_true]
  case latchAuto =>
    intro s n hl ha ht
    rw [exec_thermalLatchClear, execThermalLatchClear, Machine.latchAuto, vLatchAuto, vLatchClear]
    simp only [hl, ha, ht, decide_true, Bool.and_self, if_true]
  case clrHot =>
    intro s s1 m n ht hs1 hl hhot
    rw [hs1] at hhot
    have hrefused : vTlClr n (s.reached (vPage n)) = (s.reached (vPage n), true) := by
      rw [vTlClr]
      simp only [hhot, decide_true, Bool.true_or, if_true]
    rw [exec_actTlClr, execActTlClr, actPlace, accessWrite_takes s m _ _ _ _ ht, tlClr, hrefused, doAct_rejected, hs1]
  case unlockFull =>
    intro s s1 m n ht hs1 hfull
    rw [hs1] at hfull
    rw [exec_actUnlock, execActUnlock, actPlace, accessWrite_takes s m _ _ _ _ ht, Machine.unlock, vUnlock, if_pos hfull, doAct_rejected, hs1]
  case unlock =>
    intro s s1 m n ht hs1 hfree
    rw [hs1] at hfree
    rw [exec_actUnlock, execActUnlock, actPlace, accessWrite_takes s m _ _ _ _ ht, Machine.unlock, vUnlock, if_neg hfree, doAct_done, hs1]
  case clamp =>
    intro s n e hon
    rw [exec_lsClampConduction, execLsClampConduction, clampConducts, if_pos hon]
  case bankFast =>
    intro s k hon
    rw [exec_bankTrip, execBankTrip, bankTripAs, if_pos rfl, if_pos hon]
  case bankFilt =>
    intro s k hfilt
    rw [exec_bankTrip, execBankTrip, bankTripAs, if_neg Bool.false_ne_true, if_pos hfilt]
  case bankFilteredTrip =>
    intro s k we hfilt
    rw [exec_filteredTrip, execFilteredTrip, filteredTrip, bankTripAs, if_neg Bool.false_ne_true, if_pos hfilt]
  case bankClear =>
    intro s s1 m k ht hs1 hl
    rw [hs1] at hl
    rw [exec_vbkActClear, execVbkActClear, accessWrite_takes s m _ _ _ _ ht, Machine.bankClear, hl, if_neg Bool.false_ne_true, doAct_done, hs1]
  case bankLim =>
    intro s k hon hlim hclear
    rw [exec_limitationStart, execLimitationStart, Machine.limStart, bankLimStart, hon, hlim]
    rfl
  case bankLimEnd =>
    intro s k t we hlim
    rw [exec_limitationEnd, execLimitationEnd, Machine.limEnd, Machine.bankLimEnd, hlim]
  case bankLatch =>
    intro s k hl
    rw [exec_thermalLatchSet, execThermalLatchSet, latchSet, bankLatchSet, hl, if_neg Bool.false_ne_true]
  case bankLatchAuto =>
    intro s k hl ht
    rw [exec_thermalLatchClear, execThermalLatchClear, Machine.latchAuto, Machine.bankLatchAuto]
    simp only [hl, ht, decide_true, Bool.and_self, if_true]
  case bankSense => exact fun s k vout tj raw p l => rfl

end Sys2Proof.Machine
end

section
/-! PROOFS. Field pins, the keepalive and the switch inputs (chapters 5, 10 and 11). -/

namespace Sys2Proof.Machine

/-- An access that needs a domain keeps the events of the park. -/
theorem State.need_parkQ (s : State) (n : Nat) : (s.need n).parkQ = s.parkQ := rfl

/-- A read of EVT removes the oldest event. -/
theorem swiEvtRead_cons {s : State} {e : ParkEvt} {q : List ParkEvt} (h : s.parkQ = e :: q) : (swiEvtRead s).1.parkQ = q ∧
    (swiEvtRead s).2 = e.input + 64 * b2n e.level + 2 ^ 31 ∧ (swiEvtRead s).1.flag SWI_EVT_VALID swi0 = true := by
  rw [swiEvtRead, h]
  exact ⟨rfl, rfl, State.flag_put_same _ SWI_EVT_VALID swi0 true 0 0 (by decide)⟩

theorem swiEvtRead_nil {s : State} (h : s.parkQ = []) : (swiEvtRead s).1.parkQ = [] ∧ (swiEvtRead s).2 = 0 ∧
    (swiEvtRead s).1.flag SWI_EVT_VALID swi0 = false := by
  rw [swiEvtRead, h]
  exact ⟨h, rfl, State.flag_put_same _ SWI_EVT_VALID swi0 false 0 0 (by decide)⟩

/-- A read of EVT while PD_FLD is on. -/
theorem exec_swiEvtRead_on {s : State} (m : Master) (hf : s.clk.frozen = false) (hd : s.domOn 9 = true) :
    exec (.swiEvtRead m) s = .next ((swiEvtRead (s.need 9)).1.answer .ok (swiEvtRead (s.need 9)).2) := by
  rw [exec_swiEvtRead, execSwiEvtRead, hf, if_neg Bool.false_ne_true, if_pos hd]

/-- Settles O14: each command is a branch of its definition. -/
theorem fieldInputCommands : Obligations.FieldInputCommands := by
  unfold Obligations.FieldInputCommands
  refine ⟨?feed, ?feedBad, ?expiry, ?resume, ?resumeBad, ?safeOn, ?safeOff, ?safeHalf, ?openLoad, ?high, ?uv, ?uvAgain, ?accept, ?wake, ?raw, ?swAccept,
    ?wet, ?sense, ?senseOn, ?senseEarly, ?evt, ?evtNone, ?oc, ?ocPark, ?ocOff⟩
  case feed =>
    intro s z m v hv ht hz
    rw [exec_keepaliveWrite, execKeepaliveWrite, accessWrite_takes s m _ _ _ _ ht, keepEff, if_pos hv, ← hz]
  case feedBad =>
    intro s m v hv ht
    rw [exec_keepaliveWrite, execKeepaliveWrite, accessWrite_takes s m _ _ _ _ ht, keepEff, if_neg hv]
  case expiry =>
    intro s t hdl hen ht hd
    rw [exec_keepaliveExpiry, execKeepaliveExpiry, keepExpire, hdl]
    simp only [hen, ht, hd, decide_true, Bool.and_self, if_true]
  case resume =>
    intro s m ht hok
    rw [exec_kaResume, execKaResume, accessWrite_takes s m _ _ _ _ ht, keepResume, if_pos hok, doAct_done]
  case resumeBad =>
    intro s m ht hbad
    rw [exec_kaResume, execKaResume, accessWrite_takes s m _ _ _ _ ht, keepResume, hbad, if_neg Bool.false_ne_true, doAct_rejected]
  case safeOn =>
    intro s p ho hs hp hst
    rw [exec_safePatternToggle, execSafePatternToggle, fioPattern]
    simp only [ho, hs, hp, hst, Bool.and_self, if_true]
    rfl
  case safeOff =>
    intro s p ho hs hp hst hw hh
    rw [exec_safePatternToggle, execSafePatternToggle, fioPattern]
    simp only [ho, hs, hp, hst, Bool.and_self, if_true, State.restart, hw, hh]
    rfl
  case safeHalf =>
    intro s p hs hp hst hh
    have hrest : s.restart (62 + p) = s := by
      rw [State.restart, hh, Bool.not_true, Bool.and_false, if_neg Bool.false_ne_true]
    rw [exec_safePatternToggle, execSafePatternToggle, fioPattern]
    simp only [hst, if_true, hrest, ite_self]
  case openLoad =>
    intro s p t hlow hst ht
    rw [exec_fioOpenLoad, execFioOpenLoad, hlow]
    simp only [hst, ht, decide_true, Bool.and_self, if_true]
  case high =>
    intro s p t hhigh ho hst ht hoff
    rw [exec_fioExtHigh, execFioExtHigh, hhigh]
    simp only [ho, hst, ht, hoff, decide_true, Bool.and_self, if_true]
  case uv =>
    intro s uv hd hnew
    rw [exec_vfldUvChange, execVfldUvChange, if_pos hd]
    dsimp only
    rw [if_pos hnew]
  case uvAgain =>
    intro s uv hd hold
    rw [exec_vfldUvChange, execVfldUvChange, if_pos hd]
    dsimp only
    rw [hold, if_neg Bool.false_ne_true]
  case accept =>
    intro s s1 p edge lev hready hs1 hwake
    rw [exec_fioTransitionAccept, execFioTransitionAccept, if_pos hready, fioTransition, ← hs1, hwake, if_neg Bool.false_ne_true]
  case wake =>
    intro s p lev hact hout hen
    rw [exec_fioWake, execFioWake, hact, hout, hen]
    rfl
  case raw =>
    intro s n lev hn hd hsw hen hraw hfirst
    have hdiff : (s.flag SWI_STATE_RAW (swiPage n) (n % 16) != lev) = true := by simpa using hraw
    rw [exec_swiRawChange, execSwiRawChange, completes_next, swiRaw]
    simp only [hd, hsw, hen, hdiff, hfirst, Bool.and_self, if_true]
    rfl
  case swAccept =>
    intro s n lev hready
    rw [exec_swiTransitionAccept, execSwiTransitionAccept, if_pos hready]
  case wet =>
    intro s n t hend ht
    rw [exec_wettingTimerEnd, execWettingTimerEnd, hend]
    dsimp only
    rw [if_pos ht]
  case sense =>
    intro s t g levels hs ht hdone hdue
    have hg : t.senseDue g = true := by rw [State.senseDue, hdone, decide_eq_true hdue]; rfl
    rw [exec_cyclicSensePulse, execCyclicSensePulse, ← ht, hs, hg]
    rfl
  case senseOn =>
    intro s g levels hd hcold
    have hno : s.senses = false := by rw [State.senses, hd, hcold, Bool.not_true, Bool.or_self, Bool.and_false]
    rw [exec_cyclicSensePulse, execCyclicSensePulse, hno, Bool.false_and, if_neg Bool.false_ne_true]
  case senseEarly =>
    intro s g levels hno
    rw [exec_cyclicSensePulse, execCyclicSensePulse, hno, Bool.and_false, if_neg Bool.false_ne_true]
  case evt =>
    intro s m e q hf hd hq
    obtain ⟨hrest, hval, hvalid⟩ := swiEvtRead_cons ((s.need_parkQ 9).trans hq)
    rw [exec_swiEvtRead_on m hf hd, completes_next]
    exact ⟨hrest, congrArg (Resp.mk .ok) hval, hvalid⟩
  case evtNone =>
    intro s m hf hd hq
    obtain ⟨hrest, hval, hvalid⟩ := swiEvtRead_nil ((s.need_parkQ 9).trans hq)
    rw [exec_swiEvtRead_on m hf hd, completes_next]
    exact ⟨hrest, congrArg (Resp.mk .ok) hval, hvalid⟩
  case oc =>
    intro s k hd hmode hnew
    rw [exec_ssupOvercurrent, execSsupOvercurrent, if_neg hmode, if_pos hd]
    dsimp only
    rw [hnew, if_neg Bool.false_ne_true]
  case ocPark =>
    intro s k hd hmode
    rw [exec_ssupOvercurrent, execSsupOvercurrent, if_neg hmode, hd, if_neg Bool.false_ne_true]
  case ocOff =>
    intro s k hmode
    rw [exec_ssupOvercurrent, execSsupOvercurrent, if_pos hmode]

end Sys2Proof.Machine
end

section
/-! PROOFS. The LED matrix and the daisy-chain port (chapter 11). -/

namespace Sys2Proof.Machine

@[simp] theorem State.reached_led (s : State) (p : Nat) : (s.reached p).led = s.led := by
  obtain ⟨w, d, h⟩ := s.reached_form p
  rw [h]

/-- SWAP.REQ written 1. -/
theorem exec_swapReq_takes {s : State} {m : Master} (ht : s.takes ledPage 0x58 1 = true) :
    exec (.swapReq m) s = .next (ledLate ((s.reached ledPage).put LED_SWAP_PEND ledPage true)) := by
  rw [exec_swapReq, execSwapReq, accessWrite_takes s m _ _ _ _ ht, ledReq, if_pos rfl]

/-- A missed event that another clock counted arms nothing. -/
theorem ledLate_rest {s : State} (h : ∀ t n, s.led.missTb = some (t, n) → t ≠ s.tb) : ledLate s = s := by
  unfold ledLate
  cases hm : s.led.missTb with
  | none => rfl
  | some x =>
    obtain ⟨t, n⟩ := x
    exact if_neg (h t n hm)

/-- A read of FDATA through the bus. -/
theorem accessRead_fdata {s : State} (m : Master) (hf : s.clk.frozen = false) (hon : s.pageOn ldcPage = true) :
    accessRead s m ldcPage 0x4C = givePair (ldcDataRead (s.needPage ldcPage)) := by
  unfold accessRead
  rw [hf, if_neg Bool.false_ne_true, if_neg (by decide), hon, if_neg (by decide)]
  rfl

/-- Settles O15: each command is a branch of its definition. -/
theorem lightingCommands : Obligations.LightingCommands := by
  unfold Obligations.LightingCommands
  refine ⟨?swap, ?swapLate, ?swapNow, ?sync, ?syncFrame, ?missed, ?other, ?frame, ?postpone, ?element, ?trip, ?clear, ?hot, ?cool, ?diag, ?slotLine,
    ?slotCol, ?restart, ?refresh, ?idle, ?transfer, ?fdata, ?fdataRead⟩
  case swap =>
    intro s m ht hmiss
    rw [exec_swapReq_takes ht, ledLate_rest]
    intro t n hm
    rw [show ((s.reached ledPage).put LED_SWAP_PEND ledPage true).led = s.led from s.reached_led _, hmiss] at hm
    exact absurd hm (by simp)
  case swapLate =>
    intro s m t n ht hmiss hlt
    rw [exec_swapReq_takes ht, ledLate_rest]
    intro t' n' hm
    rw [show ((s.reached ledPage).put LED_SWAP_PEND ledPage true).led = s.led from s.reached_led _, hmiss] at hm
    have htb : ((s.reached ledPage).put LED_SWAP_PEND ledPage true).tb = s.tb := s.reached_tb _
    rw [htb]
    cases hm
    exact Nat.ne_of_lt hlt
  case swapNow =>
    intro s z m n ht hmiss hz
    have hled : z.led = s.led := by rw [hz]; exact s.reached_led _
    have htb : z.tb = s.tb := by rw [hz]; exact s.reached_tb _
    rw [exec_swapReq_takes ht, ← hz, ledLate, hled, hmiss, htb]
    exact congrArg _ (if_pos rfl)
  case sync =>
    intro s k hd hdue hp hft
    rw [exec_ledSyncEvent, execLedSyncEvent, if_pos hd, ledSync, hdue, hp, ledArm]
    exact congrArg _ (if_neg hft)
  case syncFrame =>
    intro s k hd hdue hp hft
    rw [exec_ledSyncEvent, execLedSyncEvent, if_pos hd, ledSync, hdue, hp, ledArm]
    exact congrArg _ (if_pos hft)
  case missed =>
    intro s k hd hdue hp
    rw [exec_ledSyncEvent, execLedSyncEvent, if_pos hd, ledSync, hdue, hp]
    rfl
  case other =>
    intro s k hdue
    rw [exec_ledSyncEvent, execLedSyncEvent, ledSync, hdue, Bool.not_false, if_pos rfl, ite_self]
  case frame =>
    intro s hd hdue hr ha hsh hp hb
    rw [exec_ledFrameStart, execLedFrameStart, hd, hdue, Bool.and_self, if_pos rfl, ledFrame, hr, if_neg Bool.false_ne_true]
    have hswap : (s.led.armed && s.flag LED_SWAP_PEND ledPage && !s.led.shed) = true := by rw [ha, hp, hsh]; rfl
    unfold ledTrySwap
    exact congrArg _ ((if_pos hswap).trans (if_neg (by rw [Bool.not_eq_true]; exact hb)))
  case postpone =>
    intro s hd hdue hr ha hsh hp hb hpost
    rw [exec_ledFrameStart, execLedFrameStart, hd, hdue, Bool.and_self, if_pos rfl, ledFrame, hr, if_neg Bool.false_ne_true]
    have hswap : (s.led.armed && s.flag LED_SWAP_PEND ledPage && !s.led.shed) = true := by rw [ha, hp, hsh]; rfl
    unfold ledTrySwap
    exact congrArg _ ((if_pos hswap).trans ((if_pos hb).trans (if_neg (by rw [Bool.not_eq_true]; exact hpost))))
  case element =>
    intro s e hscan hdark hlong hlock he
    have hmod : e % 32 = e := Nat.mod_eq_of_lt he
    have hword : mapWord [LED_OPEN_MAP0, LED_OPEN_MAP1, LED_OPEN_MAP2, LED_OPEN_MAP3, LED_OPEN_MAP4] e = LED_OPEN_MAP0 := by
      rw [mapWord, Nat.div_eq_of_lt he]
      rfl
    rw [exec_ledElementTest, execLedElementTest, ledTest]
    simp only [hscan, hdark, hlong, hlock, hmod, hword, decide_true, Bool.not_false, Bool.and_self, if_true, Bool.false_eq_true, if_false]
  case trip =>
    intro s l hscan hdark hlock
    rw [exec_ledLineTrip, execLedLineTrip, ledTrip]
    simp only [hscan, hdark, hlock, Bool.not_false, Bool.and_self, if_true]
  case clear =>
    intro s m v ht
    rw [exec_lineClear, execLineClear, accessWrite_takes s m _ _ _ _ ht, ledLineClear, Nat.mod_mod]
  case hot =>
    intro s hh
    rw [exec_colHot, execColHot, ledHot]
    simp only [hh, Bool.or_true, Bool.not_false, Bool.and_self, if_true]
  case cool =>
    intro s
    rw [exec_colHot, execColHot, ledHot]
    simp only [Bool.or_false, Bool.false_and, Bool.false_eq_true, if_false]
  case diag =>
    intro s m ht
    have hline : (LED_NSHORT_LINE_SHORT.loc ledPage).key ≠ (LED_NSHORT_DIAG_DONE.loc ledPage).key := by decide
    have hcol : (LED_NSHORT_COL_SHORT.loc ledPage).key ≠ (LED_NSHORT_DIAG_DONE.loc ledPage).key := by decide
    have hboth : (LED_NSHORT_LINE_SHORT.loc ledPage).key ≠ (LED_NSHORT_COL_SHORT.loc ledPage).key := by decide
    rw [exec_diagRun, execDiagRun, accessWrite_takes s m _ _ _ _ ht, completes_next]
    refine ⟨rfl, ?_, ?_, State.flag_put_same _ LED_NSHORT_DIAG_DONE ledPage false 0 0 (by decide)⟩
    · change ((((s.reached ledPage).set LED_NSHORT_LINE_SHORT ledPage 0).set LED_NSHORT_COL_SHORT ledPage 0).put LED_NSHORT_DIAG_DONE ledPage false).get
        LED_NSHORT_LINE_SHORT ledPage = 0
      rw [State.put, State.get_set_ne _ _ hline, State.get_set_ne _ _ hboth, State.get_set_same, Nat.zero_mod]
    · change ((((s.reached ledPage).set LED_NSHORT_LINE_SHORT ledPage 0).set LED_NSHORT_COL_SHORT ledPage 0).put LED_NSHORT_DIAG_DONE ledPage false).get
        LED_NSHORT_COL_SHORT ledPage = 0
      rw [State.put, State.get_set_ne _ _ hcol, State.get_set_same, Nat.zero_mod]
  case slotLine =>
    intro s k hk hfree
    have hrest : (decide (s.led.diag = 0) || s.scanOn && s.led.tested) = false := by
      rcases hfree with h | h <;> simp [hk, h]
    rw [exec_ledDiagSlot, execLedDiagSlot, Machine.ledDiagSlot, hrest]
    simp only [hk]
    rfl
  case slotCol =>
    intro s k hk hfree
    have hrest : (decide (s.led.diag = 0) || s.scanOn && s.led.tested) = false := by
      rcases hfree with h | h <;> simp [hk, h]
    rw [exec_ledDiagSlot, execLedDiagSlot, Machine.ledDiagSlot, hrest]
    simp only [hk]
    rfl
  case restart =>
    intro s m ht hrest hshed
    rw [exec_ledRestart, execLedRestart, accessWrite_takes s m _ _ _ _ ht, ledStart, hrest, hshed]
    rfl
  case refresh =>
    intro s t hacc hr hst hdue hb
    rw [exec_ldcRefresh, execLdcRefresh, Machine.ldcRefresh, hst, hacc, hb]
    simp only [bne_iff_ne.2 hr, hdue, decide_true, Bool.and_self, if_true, Bool.false_eq_true, if_false, ldcStart]
  case idle =>
    intro s hst
    rw [exec_ldcRefresh, execLdcRefresh, Machine.ldcRefresh, hst]
    simp only [Bool.and_false, Bool.false_eq_true, if_false]
  case transfer =>
    intro s ret hb hv hdue
    rw [exec_ldcTransferEnd, execLdcTransferEnd, ldcEnd, hb, hv]
    simp only [Bool.not_true, Bool.false_and, Bool.false_eq_true, if_false]
    refine congrArg _ (if_neg ?_)
    intro h
    have hkeep (t : State) : (t.irq ldcPage 2).ldc = t.ldc := eq_of_quiet State.ldc (fun _ => rfl) (quiet_irq t ldcPage 2)
    rw [hkeep] at h
    exact Bool.false_ne_true (hdue.symm.trans (Bool.and_eq_true_iff.1 h).1)
  case fdata =>
    intro s m v ht
    have hbus : s.busAt ldcPage = s := busAt_plain s ldcPage (by decide)
    rw [exec_ldcFdataAccess, execLdcFdataAccess]
    refine congrArg _ ((regWrite_takes s m ldcPage 0x4C v.toNat (Or.inl (by decide)) (by rw [hbus]; exact ht)).trans ?_)
    rw [hbus]
    rfl
  case fdataRead =>
    intro s m hf hon
    rw [exec_ldcFdataAccess, execLdcFdataAccess, completes_next]
    rw [show regAccess s m ldcPage 0x4C (Option.map BitVec.toNat (none : Option Word)) = accessRead s m ldcPage 0x4C from rfl, accessRead_fdata m hf hon]
    exact ⟨rfl, State.get_set_same ..⟩

end Sys2Proof.Machine
end

section
/-! PROOFS. Act-ahead (chapter 12). -/

namespace Sys2Proof.Machine

/-- Every other field of its slot keeps the value that it had before a slot becomes idle. -/
theorem get_slotIdle (s : State) (i : Nat) {f : Fld} (hst : f.pos i 0 * 32 + f.lo ≠ AHD_CTX_CTRL_STATE.pos i 0 * 32 + AHD_CTX_CTRL_STATE.lo)
    (harm : f.pos i 0 * 32 + f.lo ≠ AHD_CTX_CTRL_ARM.pos i 0 * 32 + AHD_CTX_CTRL_ARM.lo) : (slotIdle s i).get f ahdPage i = s.get f ahdPage i :=
  (State.rd_wr_ne _ _ (key_ne_of_place harm ahdPage)).trans (State.rd_wr_ne _ _ (key_ne_of_place hst ahdPage))

/-- An idle slot is at rest, and armed where it was and rearms. -/
theorem slot_slotIdle (s : State) (i : Nat) : (slotIdle s i).slotSt i = 0 ∧
    (slotIdle s i).armed i = (s.armed i && s.flag AHD_QUENCH_REARM ahdPage i) := by
  have hst : (AHD_CTX_CTRL_STATE.loc ahdPage i).key ≠ (AHD_CTX_CTRL_ARM.loc ahdPage i).key :=
    key_ne_of_place (by simp only [Fld.pos, AHD_CTX_CTRL_STATE, AHD_CTX_CTRL_ARM]; omega) ahdPage
  have hre : (AHD_QUENCH_REARM.loc ahdPage i).key ≠ (AHD_CTX_CTRL_STATE.loc ahdPage i).key :=
    key_ne_of_place (by simp only [Fld.pos, AHD_CTX_CTRL_STATE, AHD_QUENCH_REARM]; omega) ahdPage
  refine ⟨(State.rd_wr_ne _ _ hst).trans (State.rd_wr_same ..), ?_⟩
  have harm : (slotIdle s i).armed i = ((s.set AHD_CTX_CTRL_STATE ahdPage 0 i).armed i && (s.set AHD_CTX_CTRL_STATE ahdPage 0 i).flag AHD_QUENCH_REARM
      ahdPage i) := State.flag_put_same _ AHD_CTX_CTRL_ARM ahdPage _ i 0 (by decide)
  rw [harm, State.armed, State.armed, State.flag, State.flag, State.get_set_ne _ _ hst.symm, State.get_set_ne _ _ hre]
  rfl

/-- The fields of one slot stand in its block, beyond the header and outside the page of the trigger table. -/
def Fld.OfSlot (f : Fld) : Prop := f.blk = ⟨0x40, 63, 0x40, 1, 0x0⟩ ∧ f.off < 0x40 ∧ f.lo < 32

theorem Fld.OfSlot.place {f : Fld} (h : f.OfSlot) {i : Nat} (hi : i < 31) : keyPage (f.loc ahdPage i).key = ahdPage ∧
    0x40 ≤ keyOff (f.loc ahdPage i).key := by
  obtain ⟨hblk, hoff, hlo⟩ := h
  simp only [keyPage, keyOff, Fld.loc, bitKey, Fld.pos, hblk, ahdPage]
  omega

/-- Slot `i` without its preparations, their energy booked and QREASON and QUENCHES shown. -/
def quenchBooked (s : State) (i code : Nat) : State :=
  ((({ s with preps := s.preps.filter fun p => p.slot != i } : State).set AHT_ENERGY ahtPage (satAdd 24 (s.get AHT_ENERGY ahtPage) (s.prepEnergy i))).set
    AHD_CTX_CTRL_QREASON ahdPage code i).bump AHD_CTX_STAT_QUENCHES ahdPage i

/-- A slot of the first half that has been quenched without preparations, before it becomes idle. -/
def quenched (s : State) (i code : Nat) : State :=
  ((quenchBooked s i code).set AHT_QUENCHED_LO ahtPage (setBit ((quenchBooked s i code).get AHT_QUENCHED_LO ahtPage) i)).irq ahtPage 1

theorem quench_noPreps {s : State} {i : Nat} (code : Nat) (hst : s.slotSt i = 1) (hp : s.slotPreps i = []) (hi : i < 31) :
    quench s i code = restoreDomains (slotIdle (quenched s i code) i) i := by
  rw [quench, hst, hp]
  simp only [bne_self_eq_false, Bool.false_eq_true, if_false, List.foldl_nil, setSlotBit, hi, if_true]
  rfl

/-- The words that a quench writes in the trigger table's page are not the slot's. -/
theorem get_quenched_booked (s : State) {i : Nat} (hi : i < 31) (code : Nat) {f : Fld} (hf : f.OfSlot) :
    (quenched s i code).get f ahdPage i = (quenchBooked s i code).get f ahdPage i := by
  obtain ⟨hpage, hoff⟩ := hf.place hi
  have hlo : (f.loc ahdPage i).key ≠ (AHT_QUENCHED_LO.loc ahtPage).key := by
    intro h
    rw [h] at hpage
    exact absurd hpage (by decide)
  have hpwr : keyPage (f.loc ahdPage i).key ≠ 2 := by
    rw [hpage]
    decide
  exact (rd_irq _ _ _ hpwr hoff).trans (State.rd_wr_ne _ _ hlo)

/-- The quench of a slot leaves its fields but QREASON and QUENCHES. -/
theorem get_quenched (s : State) {i : Nat} (hi : i < 31) (code : Nat) {f : Fld} (hf : f.OfSlot)
    (hcnt : f.pos i 0 * 32 + f.lo ≠ AHD_CTX_STAT_QUENCHES.pos i 0 * 32 + AHD_CTX_STAT_QUENCHES.lo)
    (hreason : f.pos i 0 * 32 + f.lo ≠ AHD_CTX_CTRL_QREASON.pos i 0 * 32 + AHD_CTX_CTRL_QREASON.lo) :
    (quenched s i code).get f ahdPage i = s.get f ahdPage i := by
  obtain ⟨hpage, -⟩ := hf.place hi
  have hen : (f.loc ahdPage i).key ≠ (AHT_ENERGY.loc ahtPage).key := by
    intro h
    rw [h] at hpage
    exact absurd hpage (by decide)
  rw [get_quenched_booked s hi code hf]
  exact (State.rd_wr_ne _ _ (key_ne_of_place hcnt ahdPage)).trans
    ((State.rd_wr_ne _ _ (key_ne_of_place hreason ahdPage)).trans (State.rd_wr_ne _ _ hen))

theorem get_quenched_qreason (s : State) {i : Nat} (hi : i < 31) (code : Nat) :
    (quenched s i code).get AHD_CTX_CTRL_QREASON ahdPage i = code % 2 ^ AHD_CTX_CTRL_QREASON.w := by
  have hcnt : (AHD_CTX_CTRL_QREASON.loc ahdPage i).key ≠ (AHD_CTX_STAT_QUENCHES.loc ahdPage i).key :=
    key_ne_of_place (by simp only [Fld.pos, AHD_CTX_CTRL_QREASON, AHD_CTX_STAT_QUENCHES]; omega) ahdPage
  rw [get_quenched_booked s hi code ⟨rfl, by decide, by decide⟩]
  exact (State.rd_wr_ne _ _ hcnt).trans (State.rd_wr_same ..)

theorem Fld.OfSlot.pos_ne {f g : Fld} (hf : f.OfSlot) (hg : g.OfSlot) (h : f.off * 32 + f.lo ≠ g.off * 32 + g.lo) (i : Nat) :
    f.pos i 0 * 32 + f.lo ≠ g.pos i 0 * 32 + g.lo := by
  obtain ⟨hfb, -, -⟩ := hf
  obtain ⟨hgb, -, -⟩ := hg
  simp only [Fld.pos, hfb, hgb]
  omega

/-- A quench whose slot restores no domains forgets them. -/
theorem restoreDomains_off {s : State} {i : Nat} (h : s.flag AHD_QUENCH_RESTORE_DOMAINS ahdPage i = false) :
    restoreDomains s i = { s with woken := s.woken.filter fun w => w.slot != i } := by
  rw [restoreDomains]
  exact if_neg (by rw [Bool.not_eq_true]; exact h)

/-- An entry that alone matches an event is the only one that is offered it. -/
theorem offer_only {s : State} {src idx edge e : Nat} (he : e < 32) (h : ∀ k < 32, s.entryMatches k src idx edge = decide (k = e)) :
    offer s src idx edge = tableMatch s e src idx s.tb := by
  have hone : ∀ e < 32, ((List.range 32).filter fun k => decide (k = e)) = [e] := by decide
  have hhits : ((List.range 32).filter fun k => s.entryMatches k src idx edge) = [e] :=
    (List.filter_congr fun k hk => h k (List.mem_range.1 hk)).trans (hone e he)
  rw [offer, hhits]
  rfl

/-- A write of CTX_CTRL while nothing is shadowed. -/
theorem ctxWrite_takes {s : State} (m : Master) {i v : Nat} (devOk : Nat) (hheld : (s.flag H_STAT_HELD ahdPage && s.domOn 7) = false)
    (ht : s.takes ahdPage (slotOff i 0) v = true) : ctxWrite s m i v devOk = ctxEff m i v devOk (s.reached ahdPage) := by
  rw [ctxWrite, hheld, if_neg Bool.false_ne_true, accessWrite_takes s m _ _ _ _ ht]

theorem ctxEff_done {m : Master} {i v devOk : Nat} {s : State} (h : (ctxBody m i v devOk s).2 = false) :
    ctxEff m i v devOk s = ctxCommands i v (ctxBody m i v devOk s).1 := by
  rw [ctxEff, h]
  rfl

theorem ctxEff_refused {m : Master} {i v devOk : Nat} {s : State} (h : (ctxBody m i v devOk s).2 = true) :
    ctxEff m i v devOk s = (ctxBody m i v devOk s).1.reject ahdPage := by
  rw [ctxEff, h]
  rfl

/-- Settles O16: each command is a branch of its definition, and a quench leaves the slot's other fields. -/
theorem actAheadCommands : Obligations.ActAheadCommands := by
  unfold Obligations.ActAheadCommands
  refine ⟨?armBad, ?arm, ?cancelRemote, ?trigger, ?confirm, ?cancel, ?noMatch, ?oneMatch, ?starts, ?preps, ?commit, ?deadline, ?soon, ?quenched, ?remote,
    ?broadcast, ?ack, ?unacked⟩
  case armBad =>
    intro s s1 m i devOk v hheld ht hs1 hbad
    rw [hs1] at hbad
    rw [exec_slotArm, execSlotArm, ctxWrite_takes m devOk hheld ht, ctxEff_refused hbad, hs1]
  case arm =>
    intro s s1 m i devOk v hheld ht hs1 hok
    rw [hs1] at hok
    rw [exec_slotArm, execSlotArm, ctxWrite_takes m devOk hheld ht, ctxEff_done hok, hs1]
  case cancelRemote =>
    intro s m i v hm hi hv ht hheld hrem
    have hrem' : (s.reached ahdPage).flag AHD_CTX_CTRL_REMOTE ahdPage i = true := by rw [State.reached_flag, hrem]
    have hbody : ctxBody m i v 0 (s.reached ahdPage) = (s.reached ahdPage, true) := by
      rw [ctxBody, hrem', bne_iff_ne.2 hm]
      rfl
    rw [exec_ctxCancel, execCtxCancel, ← hv, ctxWrite_takes m 0 hheld ht, ctxEff_refused (by rw [hbody]), hbody]
  case trigger =>
    intro s s1 m i v hv ht hheld hok hs1
    rw [exec_ctxTrigger, execCtxTrigger, ← hv, ctxWrite_takes m 0 hheld ht, ctxEff_done hok, hs1]
  case confirm =>
    intro s s1 m i v hv ht hheld hok hs1
    rw [exec_ctxConfirm, execCtxConfirm, ← hv, ctxWrite_takes m 0 hheld ht, ctxEff_done hok, hs1]
  case cancel =>
    intro s s1 m i v hv ht hheld hok hs1
    rw [exec_ctxCancel, execCtxCancel, ← hv, ctxWrite_takes m 0 hheld ht, ctxEff_done hok, hs1]
  case noMatch =>
    intro s src idx edge h
    have hhits : ((List.range 32).filter fun k => s.entryMatches k src idx edge) = [] := by
      rw [List.filter_eq_nil_iff]
      intro k hk
      rw [h k (List.mem_range.1 hk)]
      exact Bool.false_ne_true
    rw [exec_triggerMatch, execTriggerMatch, offer, hhits]
    rfl
  case oneMatch =>
    intro s src idx edge e he h
    rw [exec_triggerMatch, execTriggerMatch, offer_only he h]
  case starts =>
    intro s s1 src idx edge e he h hs1 hd hmay
    rw [exec_triggerMatch, execTriggerMatch, offer_only he h, tableMatch]
    simp only [← hs1, hd, if_true, matchStart, hmay]
  case preps =>
    intro s i n hst
    rw [exec_prepIssue, execPrepIssue, if_pos hst]
  case commit =>
    intro s i hdue
    rw [exec_commitApply, execCommitApply, boilApply, if_pos hdue]
    rfl
  case deadline =>
    intro s i ht
    rw [exec_simmerDeadline, execSimmerDeadline, Machine.deadline]
    exact congrArg _ (if_pos ht)
  case soon =>
    intro s i ht hbefore hst
    have hlate : ¬ (s.slotH i).ts + s.get AHD_DEADLINE ahdPage i * 1000 + 10 ≤ s.tb := by omega
    rw [exec_simmerDeadline, execSimmerDeadline, Machine.deadline]
    simp only [hlate, if_false, ht, hst, decide_true, Bool.and_self, if_true]
  case quenched =>
    intro s i hst hp ht hi hres
    have hslot : AHD_CTX_CTRL_STATE.OfSlot ∧ AHD_CTX_CTRL_ARM.OfSlot ∧ AHD_CTX_STAT_QUENCHES.OfSlot ∧ AHD_CTX_CTRL_QREASON.OfSlot ∧
        AHD_QUENCH_REARM.OfSlot ∧ AHD_QUENCH_RESTORE_DOMAINS.OfSlot := by
      refine ⟨?_, ?_, ?_, ?_, ?_, ?_⟩ <;> exact ⟨rfl, by decide, by decide⟩
    obtain ⟨hstate, harm, hcnt, hreason, hrearm, hrestore⟩ := hslot
    have hkeep {f : Fld} (hf : f.OfSlot) (hc : f.off * 32 + f.lo ≠ AHD_CTX_STAT_QUENCHES.off * 32 + AHD_CTX_STAT_QUENCHES.lo)
        (hr : f.off * 32 + f.lo ≠ AHD_CTX_CTRL_QREASON.off * 32 + AHD_CTX_CTRL_QREASON.lo) :
        (Machine.quenched s i 1).get f ahdPage i = s.get f ahdPage i :=
      get_quenched s hi 1 hf (hf.pos_ne hcnt hc i) (hf.pos_ne hreason hr i)
    have hidle {f : Fld} (hf : f.OfSlot) (hs : f.off * 32 + f.lo ≠ AHD_CTX_CTRL_STATE.off * 32 + AHD_CTX_CTRL_STATE.lo)
        (ha : f.off * 32 + f.lo ≠ AHD_CTX_CTRL_ARM.off * 32 + AHD_CTX_CTRL_ARM.lo) :
        (slotIdle (Machine.quenched s i 1) i).get f ahdPage i = (Machine.quenched s i 1).get f ahdPage i :=
      get_slotIdle _ i (hf.pos_ne hstate hs i) (hf.pos_ne harm ha i)
    have hoff : (slotIdle (Machine.quenched s i 1) i).flag AHD_QUENCH_RESTORE_DOMAINS ahdPage i = false := by
      rw [State.flag, hidle hrestore (by decide) (by decide), hkeep hrestore (by decide) (by decide)]
      exact hres
    obtain ⟨hrest, harmed⟩ := slot_slotIdle (Machine.quenched s i 1) i
    rw [exec_simmerDeadline, execSimmerDeadline, Machine.deadline, completes_next]
    rw [if_pos ht, quench_noPreps 1 hst hp hi, restoreDomains_off hoff]
    refine ⟨hrest, ((hidle hreason (by decide) (by decide)).trans (get_quenched_qreason s hi 1)).trans rfl, harmed.trans ?_⟩
    rw [State.armed, State.armed, State.flag, State.flag, hkeep harm (by decide) (by decide), hkeep hrearm (by decide) (by decide)]
    rfl
  case remote =>
    intro s i ts hacc hd harm hrem hst ht
    rw [exec_remoteSimmerStart, execRemoteSimmerStart]
    simp only [hacc, hd, harm, hrem, hst, decide_true, Bool.and_self, if_true, if_neg (Nat.not_le.2 ht)]
  case broadcast =>
    intro s u i ta hrem hkind hst hu
    have hconf : (AHD_CTX_CTRL_SPAN.loc ahdPage i).key ≠ (AHD_CTX_LAT_T_CONF.loc ahdPage i).key :=
      key_ne_of_place (by simp only [Fld.pos, AHD_CTX_CTRL_SPAN, AHD_CTX_LAT_T_CONF]; omega) ahdPage
    have hstate : (AHD_CTX_CTRL_SPAN.loc ahdPage i).key ≠ (AHD_CTX_CTRL_STATE.loc ahdPage i).key :=
      key_ne_of_place (by simp only [Fld.pos, AHD_CTX_CTRL_SPAN, AHD_CTX_CTRL_STATE]; omega) ahdPage
    have hspan (v : Nat) : ((s.set AHD_CTX_CTRL_STATE ahdPage 2 i).set AHD_CTX_LAT_T_CONF ahdPage v i).get AHD_CTX_CTRL_SPAN ahdPage i =
        s.get AHD_CTX_CTRL_SPAN ahdPage i := (State.rd_wr_ne _ _ hconf).trans (State.rd_wr_ne _ _ hstate)
    rw [exec_commitBroadcastReceive, execCommitBroadcastReceive, hrem, hkind, Machine.confirm, hst]
    simp only [hspan, bne_self_eq_false, Bool.false_eq_true, if_false, decide_true, Bool.and_self, if_true]
    rw [hu]
    rfl
  case ack => exact fun s i d => rfl
  case unacked =>
    intro s i hst hun ht
    rw [exec_commitAckTimeout, execCommitAckTimeout]
    simp only [hst, bne_iff_ne.2 hun, ht, decide_true, Bool.and_self, if_true, commitRefused]

end Sys2Proof.Machine
end

section
/-! PROOFS. Ferlys tables (chapter 12). -/

namespace Sys2Proof.Machine

/-- RUN and STOP of GCTRL, one at a time. -/
theorem ferCtrlEff_run (g : Nat) (s : State) : ferCtrlEff g 1 s = doAct ferPage (ferRun g s) := rfl

theorem ferCtrlEff_stop (g : Nat) (s : State) : ferCtrlEff g 2 s = ferStopReq g s := rfl

/-- Settles O17: each command is a branch of its definition. -/
theorem ferlysCommands : Obligations.FerlysCommands := by
  unfold Obligations.FerlysCommands
  refine ⟨?runBad, ?run, ?stop, ?start, ?ends, ?rest, ?word⟩
  case runBad =>
    intro s m g ht hbad
    rw [exec_ferRun, execFerRun, accessWrite_takes s m _ _ _ _ ht, ferCtrlEff_run, doAct, if_pos hbad]
  case run =>
    intro s s1 m g ht hs1 hok
    have hdone : ferRun g s1 = (((((s1.put FER_GSTAT_RUNNING ferPage true g).put FER_GSTAT_WAIT_TRIG ferPage true g).put FER_GCTRL_RUN ferPage true
        g).set FER_RUN_MAP ferPage (setBit (((s1.put FER_GSTAT_RUNNING ferPage true g).put FER_GSTAT_WAIT_TRIG ferPage true g).put FER_GCTRL_RUN ferPage
        true g |>.get FER_RUN_MAP ferPage) g)).upFer g fun _ => { runTb := s1.tb }, false) := by
      have hmap : (FER_RUN_MAP.loc ferPage).key ≠ (FER_GCTRL_RUN.loc ferPage g).key :=
        key_ne_of_place (by simp only [Fld.pos, FER_RUN_MAP, FER_GCTRL_RUN, Blk.one]; omega) ferPage
      have hkeep (z : State) : (z.put FER_GCTRL_RUN ferPage true g).get FER_RUN_MAP ferPage = z.get FER_RUN_MAP ferPage := State.get_set_ne z _ hmap
      rw [ferRun, hkeep]
      exact if_neg fun h => Bool.false_ne_true (hok.symm.trans h)
    rw [exec_ferRun, execFerRun, accessWrite_takes s m _ _ _ _ ht, ferCtrlEff_run, ← hs1, hdone, doAct_done]
  case stop =>
    intro s m g ht hr
    rw [exec_ferStopReq, execFerStopReq, accessWrite_takes s m _ _ _ _ ht, ferCtrlEff_stop, Machine.ferStopReq, if_pos hr,
      State.reached_tb]
  case start =>
    intro s s1 g t hst hr hw hstop hasked ht hs1
    have hbefore : (match s.ferEnds g with
        | some e => decide (t < e.1)
        | none => true) = true := by
      rw [State.ferEnds, hstop]
      cases ha : (s.ferH g).asked with
      | none => rfl
      | some a => exact decide_eq_true (hasked a ha)
    have hgo : (s.ferRuns g && s.flag FER_GSTAT_WAIT_TRIG ferPage g && (match s.ferEnds g with
        | some e => decide (t < e.1)
        | none => true) && decide (t ≤ s.tb)) = true := by rw [hbefore, hr, hw, decide_eq_true ht]; rfl
    have hnext : exec (.ferStartTick g) s = .next ((((s1.set FER_GSTART_LO ferPage t g).set FER_GSTART_HI ferPage (t / 2 ^ 32) g).upFer g
        fun x => { x with tick := t, burst := 0, fired := none }).irq ferPage (8 + g)) := by
      rw [exec_ferStartTick, execFerStartTick, hst, hs1]
      exact if_pos hgo
    rw [hnext, completes_next]
  case ends =>
    intro s g t f hr hgo hend ht hfirst
    have hdue : s.ferDue g = true := by
      rw [State.ferDue, hr, hgo, hend]
      exact decide_eq_true ht
    rw [exec_ferWordAct, execFerWordAct, ferAct, hdue, hfirst, hgo, hend]
    rfl
  case rest =>
    intro s g h
    have hrest : (!s.ferDue g || (List.range g).any s.ferDue) = true := by
      rcases h with h | h <;> simp [h]
    rw [exec_ferWordAct, execFerWordAct, ferAct, if_pos hrest]
  case word =>
    intro s s1 g pos c w hgo hfirst hr hpos hin hw hd ht hop hmap hs1
    have hend : ¬ s.get FER_GCFG_START ferPage g + s.get FER_GCFG_LEN ferPage g ≤ pos := Nat.not_le.2 hin
    have hnext : s.ferNext g ≤ s.tb := by
      rw [State.ferNext, ← hpos]
      rw [if_neg hend, ← hw, Nat.mul_comm]
      exact ht
    have hdue : s.ferDue g = true := by
      rw [State.ferDue, hr, hgo]
      exact decide_eq_true hnext
    have hburst : ¬ 64 < 1 := by decide
    have hword : ferWord s1 g = ferWrite (s1.set FER_GSTAT_POS ferPage (pos + 1) g) c (bitsOf w 17 1) (bitsOf w 18 12) := by
      have hpos1 : s1.get FER_GSTAT_POS ferPage g = pos := by rw [hs1, hpos]; rfl
      have hw1 : s1.get FER_TABLE ferPage pos = w := by rw [hs1, hw]; rfl
      have hmap1 : s1.ferMap g (bitsOf w 13 4) = some c := by rw [hs1]; exact hmap
      rw [ferWord, hpos1]
      rw [hw1, if_pos hop, hmap1]
    rw [exec_ferWordAct, execFerWordAct, ferAct, hdue, hfirst, hgo]
    simp only [Bool.not_true, Bool.or_self, Bool.false_eq_true, if_false, if_true, ← hpos, hend, ← hw, hd, hburst, ← hs1, hword]

end Sys2Proof.Machine
end

section
/-! PROOFS. A request and an abort of one CAN buffer in one clock (R365): the abort takes the request back. -/

namespace Sys2Proof.Machine

/-- Controller 2 has four buffers and does not send, and an abort of buffer 0 came in this clock. -/
def abortedNow : State :=
  (State.reset.set CAN_TXSLOT_COUNT (canPage 2) 4).upCan 2 fun x => { x with undone := some (State.reset.tb, 1) }

/-- The request of buffer 0 is lost. -/
theorem pend_canReq_abortedNow : (canReq (abortedNow.reached (canPage 2)) 2 1).get CAN_TX_PEND (canPage 2) = 0 := by decide +kernel

/-- Refutes O18: its second clause has every requested buffer pend, and an abort of the same clock takes its buffer back. -/
theorem not_canControllerCommands : ¬ Obligations.CanControllerCommands := by
  unfold Obligations.CanControllerCommands
  rintro ⟨htake, hpend, -⟩
  have ht : abortedNow.takes (canPage 2) 0x8C (1#32 : Word).toNat = true := by decide +kernel
  have h := hpend abortedNow _ .hk 2 1#32 (by decide) ht rfl (by decide +kernel) (by decide +kernel)
  rw [htake abortedNow .hk 2 1#32 ht, completes_next] at h
  have hone := pend_canReq_abortedNow.symm.trans h
  revert hone
  decide +kernel

end Sys2Proof.Machine
end

section
/-! PROOFS. Transceivers and time-triggered CAN (chapter 13). -/

namespace Sys2Proof.Machine

/-- START, STOP and SERVE of SCHED_CTRL, one at a time. -/
theorem schedEff_start (c : Nat) (s : State) : schedEff c 1 s = ttStart s c := rfl

theorem schedEff_stop (c : Nat) (s : State) : schedEff c 2 s = s.upTt c fun x => { x with stop := x.running } := rfl

theorem schedEff_serve (c : Nat) (s : State) : schedEff c 4 s = awdServe s c := rfl

/-- Settles O19: each command is a branch of its definition. -/
theorem canScheduleCommands : Obligations.CanScheduleCommands := by
  unfold Obligations.CanScheduleCommands
  refine ⟨?mode, ?normal, ?vcc5, ?txd, ?dominant, ?thermal, ?recovery, ?start, ?stop, ?serve, ?expiry, ?mark⟩
  case mode =>
    intro s m t v ht hv
    rw [exec_ctrxModeWrite, execCtrxModeWrite, accessWrite_takes s m _ _ _ _ ht, ctrxModeEff, if_neg hv]
  case normal =>
    intro s m t v ht hv
    rw [exec_ctrxModeWrite, execCtrxModeWrite, accessWrite_takes s m _ _ _ _ ht, ctrxModeEff, if_pos hv, hv]
  case vcc5 => exact fun s low => rfl
  case txd =>
    intro s t hmode
    rw [exec_canTxdTimeout, execCanTxdTimeout, if_pos hmode]
  case dominant => exact fun s t => rfl
  case thermal => exact fun s t => rfl
  case recovery => exact fun s t => rfl
  case start =>
    intro s m c ht
    rw [exec_schedStart, execSchedStart, accessWrite_takes s m _ _ _ _ ht, schedEff_start]
  case stop =>
    intro s m c ht
    rw [exec_schedStop, execSchedStop, accessWrite_takes s m _ _ _ _ ht, schedEff_stop]
  case serve =>
    intro s m c ht
    rw [exec_awdServe, execAwdServe, accessWrite_takes s m _ _ _ _ ht, schedEff_serve]
  case expiry =>
    intro s c t hawd hd ht hheld
    rw [exec_awdExpiry, execAwdExpiry, hawd]
    simp only [hd, ht, hheld, decide_true, Bool.not_false, Bool.and_self, if_true]
  case mark =>
    intro s s1 c e w hd hon hrun hnext he hw hmark hs1 hcycle
    rw [exec_timeMark, execTimeMark, ttMark]
    simp only [hd, hon, hrun, hnext, he, ← hw, hmark, decide_true, Bool.and_self, if_true, ← hs1, hcycle]

end Sys2Proof.Machine
end

section
/-! PROOFS. LIN (chapters 14 and 15). -/

namespace Sys2Proof.Machine

/-- RUN, STOP, SLEEP and WAKE of CMD, one at a time. -/
theorem linCmdEff_run (l : Nat) (s : State) : linCmdEff l 1 s = linRun s l := rfl

theorem linCmdEff_stop {l : Nat} {s : State} (h : s.lg LIN_STAT_STATE l = 1) : linCmdEff l 2 s = s.upLin l fun x => { x with stop := true } := by
  unfold linCmdEff
  rw [h]
  rfl

theorem linCmdEff_sleep {l : Nat} {s : State} (hc : s.commander l = true) (h : s.lg LIN_STAT_STATE l = 1) :
    linCmdEff l 4 s = s.upLin l fun x => { x with sleep := true } :=
  if_pos (c := (bitOf 4 2 && s.commander l && decide (s.lg LIN_STAT_STATE l = 1)) = true) (by rw [hc, decide_eq_true h]; rfl)

theorem linCmdEff_wake {l : Nat} {s : State} (h : s.linOn l = true) : linCmdEff l 8 s = linPulse s l :=
  if_pos (c := (bitOf 8 3 && s.linOn l) = true) (by rw [h]; rfl)

/-- Settles O20: each command is a branch of its definition. -/
theorem linCommands : Obligations.LinCommands := by
  unfold Obligations.LinCommands
  refine ⟨?run, ?stop, ?sleep, ?wake, ?wakeBusy, ?runs, ?slot, ?slotStop, ?header, ?good, ?bad, ?none, ?idle, ?txd, ?busWake⟩
  case run =>
    intro s z m l ht hz
    rw [exec_linCmdRun, execLinCmdRun, linCmdWrite, accessWrite_takes s m _ _ _ _ ht, ← hz, linCmdEff_run]
  case stop =>
    intro s z m l ht hz hst
    rw [exec_linCmdStop, execLinCmdStop, linCmdWrite, accessWrite_takes s m _ _ _ _ ht, ← hz, linCmdEff_stop hst]
  case sleep =>
    intro s z m l ht hz hc hst
    rw [exec_linCmdSleep, execLinCmdSleep, linCmdWrite, accessWrite_takes s m _ _ _ _ ht, ← hz, linCmdEff_sleep hc hst]
  case wake =>
    intro s z m l ht hz hon hcur
    rw [exec_linCmdWake, execLinCmdWake, linCmdWrite, accessWrite_takes s m _ _ _ _ ht, ← hz, linCmdEff_wake hon, linPulse, hcur, Option.isSome_none,
      if_neg Bool.false_ne_true, linTouch]
  case wakeBusy =>
    intro s z m l f ht hz hon hcur
    rw [exec_linCmdWake, execLinCmdWake, linCmdWrite, accessWrite_takes s m _ _ _ _ ht, ← hz, linCmdEff_wake hon, linPulse, hcur, Option.isSome_some,
      if_pos rfl]
  case runs =>
    intro s m l ht hc hon hst
    rw [exec_linCmdRun, execLinCmdRun, linCmdWrite, accessWrite_takes s m _ _ _ _ ht, linCmdEff_run, linRun, hc, hon, hst, State.reached_tb]
    rfl
  case slot =>
    intro s l t hat hon hst ht
    rw [exec_linSlotStart, execLinSlotStart, hat]
    simp only [hon, hst, ht, decide_true, Bool.and_self, if_true]
  case slotStop =>
    intro s l t hat hon hst ht hsleep hstop
    have hturn : linTurn s l t = linStop s l 0 := by
      rw [linTurn]
      simp only [hsleep, hstop, Bool.false_eq_true, if_false, if_true]
    rw [exec_linSlotStart, execLinSlotStart, hat]
    simp only [hon, hst, ht, decide_true, Bool.and_self, if_true, hturn]
  case header =>
    intro s l id baud p hon hc hmode
    rw [exec_linHeaderReceived, execLinHeaderReceived]
    simp only [hon, hc, hmode, Bool.not_false, decide_true, Bool.and_self, if_true]
  case good =>
    intro s l ts f d hcur hd
    rw [exec_linFrameEnd, execLinFrameEnd, hcur]
    simp only [hd, Bool.not_true, Bool.false_eq_true, if_false, if_true]
  case bad =>
    intro s l ts f d hcur hd
    rw [exec_linFrameEnd, execLinFrameEnd, hcur]
    dsimp only
    rw [hd]
    rfl
  case none =>
    intro s l ts f hcur hd hlate
    rw [exec_linNoResponse, execLinNoResponse, hcur]
    simp only [hd, hlate, Bool.not_true, Bool.or_self, Bool.and_false, Bool.false_eq_true, if_false]
  case idle =>
    intro s l hon hcur hidle ht
    rw [exec_linBusIdle, execLinBusIdle, hon, hcur, hidle, decide_eq_true ht]
    rfl
  case txd =>
    intro s l hon hmode
    rw [exec_linTxdTimeout, execLinTxdTimeout]
    simp only [hon, hmode, decide_true, Bool.and_self, if_true]
  case busWake =>
    intro s l hmode
    rw [exec_linBusWake, execLinBusWake, if_pos hmode]

end Sys2Proof.Machine
end

section
/-! PROOFS. The NM cycle (chapter 15): the statement bounds no bus, and CYCLE of bus 828 would stand where IRQ_RAW of the log page stands. -/

namespace Sys2Proof.Machine

/-- Bus 828 repeats its NM frame; its buffer 0 has a word that the ECC cannot correct, and the count of such words in the delta area is about to
saturate. -/
def cyclingBeyond : State :=
  let p := canPage 828
  let s : State := { State.reset with eccBad := [(3, 0, 0)], clk := { frozen := false, restarting := false } }
  let s := ((s.set NMK_STAT_STATE nmkPage 1 828).put H_CTRL_EN p true).set CAN_TXSLOT_COUNT p 1
  ((s.set CAN_BUSSTAT_ACTIVITY p 1).wr (deltaLoc 1475) 0xFFFE).upBus 828 fun x => { x with cycle := 0 }

/-- The request raises IRQ 0 of the log page, which bus 828 would read as CYCLE. -/
theorem get_cycle_canReq_cyclingBeyond : (canReq cyclingBeyond 828 (1 <<< cyclingBeyond.get NMK_CFG_TX_BUF nmkPage 828)).get NMK_CYCLE nmkPage 828 = 1 := by
  decide +kernel

theorem get_cycle_cyclingBeyond : cyclingBeyond.get NMK_CYCLE nmkPage 828 = 500 := by decide +kernel

theorem State.bus_upBus_same (s : State) (b : Nat) (f : NmBus → NmBus) : (s.upBus b f).bus b = f (s.bus b) := tget_tput_same ..

/-- Refutes O22: its clause on NM_CYCLE takes CYCLE from the state after the request, for every number of a bus. -/
theorem not_networkTimeAndSleepCommands : ¬ Obligations.NetworkTimeAndSleepCommands := by
  unfold Obligations.NetworkTimeAndSleepCommands
  rintro ⟨-, -, -, -, -, -, -, -, -, -, -, -, -, -, -, -, -, -, -, -, -, -, -, -, -, -, -, -, -, -, -, -, h, -⟩
  have hd : cyclingBeyond.domOn 3 = true := by decide +kernel
  have hst : cyclingBeyond.nmSt 828 = 1 := by decide +kernel
  have hdue : (cyclingBeyond.bus 828).cycle ≤ cyclingBeyond.tb := by decide +kernel
  have htb : (canReq cyclingBeyond 828 (1 <<< cyclingBeyond.get NMK_CFG_TX_BUF nmkPage 828)).tb = cyclingBeyond.tb := by decide +kernel
  have hsend := h cyclingBeyond 828 hd hst hdue
  have hrun : exec (.nmCycle 828) cyclingBeyond = .next (nmSend cyclingBeyond 828) := by
    rw [exec_nmCycle, execNmCycle, hd, hst, decide_eq_true hdue]
    rfl
  rw [hrun, nmSend, get_cycle_canReq_cyclingBeyond, htb, get_cycle_cyclingBeyond] at hsend
  have hcycle := congrArg (fun t : State => (t.bus 828).cycle) (Host.Outcome.next.inj hsend)
  simp only [State.bus_upBus_same] at hcycle
  omega

end Sys2Proof.Machine
end

section
/-! PROOFS. The compare value (chapter 5): a write of CMP_HI stores CMP_LO again, cut to its 32 bits, and the statement bounds no register. -/

namespace Sys2Proof.Machine

/-- Channel 0 compares, and the entry of its CMP_LO is beyond 32 bits. -/
def comparingBeyond : State :=
  ({ State.reset with reg := [((CMP_CMP_LO.loc (cmpPage 0)).key, 2 ^ 32)] } : State).set CMP_CFG_MODE (cmpPage 0) 1

/-- The value compared is CMP_LO cut to its width. -/
theorem val_cmpHiEff_comparingBeyond : ((cmpHiEff 0 0 (comparingBeyond.reached (cmpPage 0))).cmpH 0).val = 0 := by decide +kernel

/-- Refutes O5: its ninth clause takes CMP_LO uncut. -/
theorem not_timeBaseCommands : ¬ Obligations.TimeBaseCommands := by
  unfold Obligations.TimeBaseCommands
  rintro ⟨-, -, -, -, -, -, -, -, h, -⟩
  have ht : comparingBeyond.takes (cmpPage 0) (0x44 + 0x20 * (0 % 16)) (0#32 : Word).toNat = true := by decide +kernel
  have hval := h comparingBeyond .hk 0 0#32 (by decide) ht (by decide +kernel)
  rw [exec_cmpHiWrite, execCmpHiWrite, accessWrite_takes _ _ _ _ _ _ ht, completes_next] at hval
  obtain ⟨-, hcmp, -⟩ := hval
  have hzero := val_cmpHiEff_comparingBeyond.symm.trans hcmp
  revert hzero
  decide +kernel

end Sys2Proof.Machine
end

section
/-! PROOFS. The LF drivers and polling (chapter 16). -/

namespace Sys2Proof.Machine

/-- Take the codes of the antennas `l` from a tuning result. -/
def tuneCodes (s : State) (tune : Nat) (l : List Nat) : State := s.each l fun s n => s.set (tuneField n) accPage (bitsOf tune (5 * n) 5)

theorem tuneField_key_ne : ∀ n < 6, ∀ k < 6, n ≠ k → ((tuneField n).loc accPage).key ≠ ((tuneField k).loc accPage).key := by decide

theorem tuneCodes_rest {tune n : Nat} (hn : n < 6) {l : List Nat} (hl : ∀ k ∈ l, k < 6) (hnot : n ∉ l) (s : State) :
    (tuneCodes s tune l).get (tuneField n) accPage = s.get (tuneField n) accPage := by
  induction l generalizing s with
  | nil => rfl
  | cons k l ih =>
    obtain ⟨hk, hl⟩ := List.forall_mem_cons.1 hl
    obtain ⟨hnk, hnot⟩ := not_or.1 (mt List.mem_cons.2 hnot)
    exact (ih hl hnot _).trans (State.rd_wr_ne _ _ (tuneField_key_ne n hn k hk hnk))

theorem tuneCodes_taken {tune n : Nat} (hn : n < 6) {l : List Nat} (hl : ∀ k ∈ l, k < 6) (hmem : n ∈ l) (s : State) :
    (tuneCodes s tune l).get (tuneField n) accPage = bitsOf tune (5 * n) 5 := by
  induction l generalizing s with
  | nil => exact absurd hmem (List.not_mem_nil)
  | cons k l ih =>
    obtain ⟨hk, hl⟩ := List.forall_mem_cons.1 hl
    by_cases hin : n ∈ l
    · exact ih hl hin _
    · have hnk : n = k := (List.mem_cons.1 hmem).resolve_right hin
      have hwidth : ∀ n < 6, (tuneField n).w = 5 := by decide
      refine (tuneCodes_rest hn hl hin _).trans ?_
      rw [hnk, State.get_set_same, hwidth k hk, bitsOf, Nat.mod_mod]

/-- A fault of an antenna leaves every place beyond the header but its own. -/
theorem rd_lfFault (s : State) {f : Fld} {m : Nat} {l : Loc} (hf : l.key ≠ (f.loc accPage).key) (hpwr : keyPage l.key ≠ 2)
    (hoff : 0x40 ≤ keyOff l.key) : (lfFault s f m).rd l = s.rd l := by
  unfold lfFault
  split
  · rfl
  · exact (rd_irq _ _ _ hpwr hoff).trans (State.rd_wr_ne _ _ hf)

theorem lf_lfFault (s : State) (f : Fld) (m : Nat) : (lfFault s f m).lf = s.lf := by
  unfold lfFault
  split
  · rfl
  · exact eq_of_quiet State.lf (fun _ => rfl) (quiet_irq ..)

/-- Settles O23: each command is a branch of its definition, and a fault leaves the codes. -/
theorem accessCommands : Obligations.AccessCommands := by
  unfold Obligations.AccessCommands
  refine ⟨?tune, ?tunedNone, ?tuned, ?short, ?openAnt, ?hot, ?cool, ?skipped, ?polled, ?pollOver, ?overPlain, ?answer, ?minute, ?clr⟩
  case tune =>
    intro s m ht
    rw [exec_actTuneNow, execActTuneNow, accessWrite_takes s m _ _ _ _ ht]
    rfl
  case tunedNone =>
    intro s z tune opn shorted htune hd hsend hpoll hov hmask hz
    have hopen : lfTuned s tune opn shorted = (({ s with lf := { s.lf with tune := false } } : State).irq accPage 2) := by
      have hnone (k : Nat) : (List.range 6).filter (fun n => bitOf (andNot 0 k) n) = [] := by
        rw [andNot, Nat.zero_sub]
        decide
      have hno (z : State) (f : Fld) : lfFault z f 0 = z := if_pos rfl
      rw [lfTuned]
      simp only [hmask, hnone, Nat.and_zero, hno, State.each, List.foldl_nil]
    rw [exec_tuningComplete, execTuningComplete, hz, hopen]
    simp only [htune, hd, hsend, hpoll, hov, Bool.not_false, Bool.and_self, if_true]
  case tuned =>
    intro s tune opn shorted n htune hd hsend hpoll hov hn hfit hkeep
    have hnext : exec (.tuningComplete tune opn shorted) s = .next (lfTuned s tune opn shorted) := by
      rw [exec_tuningComplete, execTuningComplete]
      simp only [htune, hd, hsend, hpoll, hov, Bool.not_false, Bool.and_self, if_true]
    have hplace : ∀ n < 6, ((tuneField n).loc accPage).key ≠ (ACC_FAULT_SHORT.loc accPage).key ∧
        ((tuneField n).loc accPage).key ≠ (ACC_FAULT_OPEN.loc accPage).key ∧ keyPage ((tuneField n).loc accPage).key ≠ 2 ∧
        0x40 ≤ keyOff ((tuneField n).loc accPage).key := by decide
    obtain ⟨hshort, hopen, hpwr, hoff⟩ := hplace n hn
    have hmem : n ∈ (List.range 6).filter fun n => bitOf (andNot (s.get ACC_LF_MASK_EN accPage) (opn ||| shorted ||| s.lfOff)) n := by
      rw [List.mem_filter, bitOf, testBit_andNot]
      simp only [bitOf] at hfit hkeep
      exact ⟨List.mem_range.2 hn, by rw [hfit, hkeep]; rfl⟩
    have hlow : ∀ k ∈ (List.range 6).filter (fun n => bitOf (andNot (s.get ACC_LF_MASK_EN accPage) (opn ||| shorted ||| s.lfOff)) n), k < 6 :=
      fun k hk => List.mem_range.1 (List.mem_filter.1 hk).1
    rw [hnext, completes_next]
    refine ⟨?_, congrArg Lf.tune (eq_of_quiet State.lf (fun _ => rfl) (quiet_irq _ accPage 2))⟩
    exact (rd_irq _ _ _ hpwr hoff).trans ((rd_lfFault _ hshort hpwr hoff).trans ((rd_lfFault _ hopen hpwr hoff).trans (tuneCodes_taken hn hlow hmem s)))
  case short =>
    intro s n hd
    rw [exec_lfShort, execLfShort, if_pos hd]
  case openAnt =>
    intro s n hd
    rw [exec_lfOpen, execLfOpen, if_pos hd]
  case hot =>
    intro s hd
    rw [exec_lfThermal, execLfThermal, hd]
    rfl
  case cool =>
    intro s hd
    rw [exec_lfThermal, execLfThermal, hd]
    rfl
  case skipped =>
    intro s sat t hnext ht hpoll hrun
    rw [exec_lfPoll, execLfPoll, hnext]
    simp only [ht, hpoll, decide_true, Bool.not_false, Bool.and_self, if_true, lfPoll, hrun, Bool.true_or, Bool.or_eq_true, decide_eq_true_eq]
  case polled =>
    intro s sat t hnext ht hpoll hrun hov h11 h7
    have hgo : ((pollAfter s t).immo.run.isSome || (pollAfter s t).flag SUP_STAT_VBAT_OV 4 || decide ((pollAfter s t).order 11 = 3) ||
        decide ((pollAfter s t).order 7 = 3)) = false := by
      have hrun' : (pollAfter s t).immo.run = none := hrun
      have hov' : (pollAfter s t).flag SUP_STAT_VBAT_OV 4 = false := hov
      have h11' : decide ((pollAfter s t).order 11 = 3) = false := decide_eq_false h11
      have h7' : decide ((pollAfter s t).order 7 = 3) = false := decide_eq_false h7
      rw [hrun', hov', h11', h7']
      rfl
    have hplace : (ACC_LAST_POLL.loc accPage).key ≠ (ACC_FAULT_LF_SAT.loc accPage).key ∧ keyPage (ACC_LAST_POLL.loc accPage).key ≠ 2 ∧
        0x40 ≤ keyOff (ACC_LAST_POLL.loc accPage).key := by decide
    obtain ⟨hsat, hpwr, hoff⟩ := hplace
    have hrun : exec (.lfPoll sat) s = .next (lfPoll s t sat) := by
      rw [exec_lfPoll, execLfPoll, hnext]
      simp only [ht, hpoll, decide_true, Bool.not_false, Bool.and_self, if_true]
    rw [hrun, completes_next, lfPoll, hgo, if_neg Bool.false_ne_true, lfSat]
    refine ⟨?_, (rd_lfFault _ hsat hpwr hoff).trans ?_⟩
    · rw [lf_lfFault]
    · exact (State.get_set_same ((pollAfter s t).pollUp.bump ACC_CNT_POLLS accPage) ACC_LAST_POLL accPage 0 0 0).trans (Nat.zero_mod _)
  case pollOver =>
    intro s ho
    rw [exec_lfPollEnd, execLfPollEnd, if_pos ho]
  case overPlain =>
    intro s ho h11 h7
    rw [exec_lfPollEnd, execLfPollEnd, if_pos ho, pollEnd]
    generalize hz : ({ s with lf := { s.lf with polling := false, pollFrom := none }, immo := { s.immo with endTb := s.tb } } : State) = z
    have hdom : z.dom = s.dom := by rw [← hz]
    have h11' : (z.getDom 11).restore = none := by rw [State.getDom, hdom]; exact h11
    have h7' : (z.getDom 7).restore = none := by rw [State.getDom, hdom]; exact h7
    simp only [State.each, List.foldl_cons, List.foldl_nil, h11', h7']
  case answer =>
    intro s head crc hh
    rw [exec_pollAnswer, execPollAnswer, if_pos hh, Machine.pollAnswer]
  case minute =>
    intro s ht
    rw [exec_standingMinute, execStandingMinute, if_pos ht, standMinute]
  case clr =>
    intro s m ht
    rw [exec_actStandClr, execActStandClr, accessWrite_takes s m _ _ _ _ ht, completes_next]
    have heff : ∃ x : Option Nat, accActEff 2 (s.reached accPage) = { (s.reached accPage).set ACC_STAND_MIN accPage 0 with
        lf := { (s.reached accPage).lf with standTb := (s.reached accPage).tb, pollNext := x } } := by
      by_cases h : (s.reached accPage).lf.pollNext.isNone = true
      · exact ⟨_, if_pos h⟩
      · exact ⟨_, if_neg h⟩
    obtain ⟨x, hx⟩ := heff
    rw [hx]
    exact ⟨(State.get_set_same (s.reached accPage) ACC_STAND_MIN accPage 0 0 0).trans (Nat.zero_mod _), s.reached_tb accPage⟩

end Sys2Proof.Machine
end

section
/-! PROOFS. The immobiliser and the release (chapter 16). -/

namespace Sys2Proof.Machine

/-! The CRC of an answer. -/

theorem crc16Bit_lt {c : Nat} (h : c < 65536) : crc16Bit c < 65536 := by
  unfold crc16Bit
  split
  · exact Nat.xor_lt_two_pow (n := 16) (Nat.mod_lt _ (by decide)) (by decide)
  · omega

theorem crc16_lt {l : List Nat} (h : ∀ b ∈ l, b < 256) : crc16 l < 65536 := by
  have hbits (n c : Nat) (hc : c < 65536) : (List.range n).foldl (fun c _ => crc16Bit c) c < 65536 := by
    induction n with
    | zero => exact hc
    | succ n ih =>
      rw [List.range_succ, List.foldl_append, List.foldl_cons, List.foldl_nil]
      exact crc16Bit_lt ih
  have hall : ∀ (l : List Nat) (c : Nat), (∀ b ∈ l, b < 256) → c < 65536 →
      l.foldl (fun c b => (List.range 8).foldl (fun c _ => crc16Bit c) (c ^^^ b * 256)) c < 65536 := by
    intro l
    induction l with
    | nil => exact fun c _ hc => hc
    | cons b l ih =>
      intro c hb hc
      obtain ⟨hb, hl⟩ := List.forall_mem_cons.1 hb
      rw [List.foldl_cons]
      exact ih _ hl (hbits 8 _ (Nat.xor_lt_two_pow (n := 16) hc (by omega)))
  exact hall l _ h (by decide)

/-- The bytes of an answer with its CRC. -/
def withCrc (resp : List Byte) : List Byte :=
  resp ++ [BitVec.ofNat 8 (crc16 (resp.map BitVec.toNat) / 256), BitVec.ofNat 8 (crc16 (resp.map BitVec.toNat))]

theorem getD_append_length {l r : List Nat} {n : Nat} (h : l.length = n) (i : Nat) : (l ++ r).getD (n + i) 0 = r.getD i 0 := by
  rw [← h, List.getD_eq_getElem?_getD, List.getD_eq_getElem?_getD, List.getElem?_append_right (Nat.le_add_right _ _), Nat.add_sub_cancel_left]

theorem answerClass_withCrc {resp : List Byte} (h : resp.length = 8) : answerClass false ((withCrc resp).map BitVec.toNat) = 1 := by
  have hlt : crc16 (resp.map BitVec.toNat) < 65536 := crc16_lt fun b hb => by
    obtain ⟨x, -, rfl⟩ := List.mem_map.1 hb
    exact x.isLt
  generalize hc : crc16 (resp.map BitVec.toNat) = c at hlt
  have hmap : (withCrc resp).map BitVec.toNat = resp.map BitVec.toNat ++ [c / 256, c % 256] := by
    rw [withCrc, List.map_append, hc]
    simp only [List.map_cons, List.map_nil, BitVec.toNat_ofNat]
    rw [Nat.mod_eq_of_lt (by omega : c / 256 < 2 ^ 8)]
  have hlen : (resp.map BitVec.toNat).length = 8 := by rw [List.length_map, h]
  have htake : (resp.map BitVec.toNat ++ [c / 256, c % 256]).take 8 = resp.map BitVec.toNat := List.take_left' hlen
  have hhi : (resp.map BitVec.toNat ++ [c / 256, c % 256]).getD 8 0 = c / 256 :=
    getD_append_length hlen 0
  have hlo : (resp.map BitVec.toNat ++ [c / 256, c % 256]).getD 9 0 = c % 256 :=
    getD_append_length hlen 1
  have hsum : c / 256 * 256 + c % 256 = c := Nat.div_add_mod' c 256
  rw [hmap, answerClass, htake, hhi, hlo, hsum, hc]
  simp [hlen]

/-- The words of an answer stand before its CRC. -/
theorem answerWord_withCrc {resp : List Byte} (h : resp.length = 8) :
    answerWord ((withCrc resp).map BitVec.toNat) = answerWord (resp.map BitVec.toNat) ∧
      answerWord (((withCrc resp).map BitVec.toNat).drop 4) = answerWord ((resp.map BitVec.toNat).drop 4) := by
  have hlen : (resp.map BitVec.toNat).length = 8 := by rw [List.length_map, h]
  have hlow : ((resp.map BitVec.toNat).drop 4).length = 4 := by rw [List.length_drop, hlen]
  rw [withCrc, List.map_append]
  constructor
  · rw [answerWord, List.take_append_of_le_length (by omega), answerWord]
  · rw [List.drop_append_of_le_length (by omega), answerWord, List.take_append_of_le_length (Nat.le_of_eq hlow.symm), answerWord]

/-! What a confirmed slot leaves alone. -/

theorem immo_specShow (s : State) (t : Nat) : (specShow s t).immo = s.immo := by
  unfold specShow
  dsimp only
  split
  · rfl
  split
  · rfl
  split
  · rfl
  split
  · rfl
  split <;> rfl

theorem immo_confirm (s : State) (i ta : Nat) : (confirm s i ta).immo = s.immo := by
  unfold confirm
  split
  · rfl
  · exact part_each State.immo specShow immo_specShow _ _

theorem immo_confirmAll (s : State) (p : State → Nat → Bool) : (confirmAll s p).immo = s.immo := by
  refine part_each State.immo _ (fun s i => ?_) _ s
  split
  · exact immo_confirm s i _
  · rfl

/-! The parts of a verdict. -/

/-- A verdict in no BCLK of an abort. -/
theorem beforeAbort_rest {s : State} (act : State → Acted) (h : (s.immo.undo.all fun u => u.tb != s.tb || s.immo.run.isSome) = true) :
    beforeAbort act s = act s := by
  unfold beforeAbort
  cases hu : s.immo.undo with
  | none => rfl
  | some u =>
    rw [hu, Option.all_some, Bool.or_eq_true, bne_iff_ne] at h
    refine if_neg fun hc => ?_
    rw [Bool.and_eq_true, decide_eq_true_eq] at hc
    obtain ⟨htb, hrun⟩ := hc
    rcases h with h | h
    · exact h htb
    · rw [Option.isNone_iff_eq_none.1 hrun] at h
      exact Bool.false_ne_true h

/-- The state before the abort of the same BCLK. -/
def unaborted (s : State) (u : ImmoUndo) : State :=
  ((immoRegs.zip u.regs).foldl (fun s x => s.set x.1 immoPage x.2) s).upImmo fun y =>
    { y with run := u.run, tp := u.tp, endTb := u.endTb, await := u.await, undo := none }

theorem beforeAbort_undone {s : State} {u : ImmoUndo} (act : State → Acted) (hu : s.immo.undo = some u) (htb : u.tb = s.tb) (hrun : s.immo.run = none) :
    beforeAbort act s = if (act (unaborted s u)).1.immo.run.isSome then (immoAbort (act (unaborted s u)).1 1, (act (unaborted s u)).2)
      else act (unaborted s u) := by
  rw [beforeAbort, hu]
  exact if_pos (by rw [hrun, decide_eq_true htb]; rfl)

/-- What the end of an exchange shows. -/
theorem immoEnd_shows (s : State) (outcome key cause : Nat) : (immoEnd s outcome key cause).immo.run = none ∧
    (immoEnd s outcome key cause).get IMMO_RESULT_OUTCOME immoPage = outcome % 8 ∧
    (immoEnd s outcome key cause).get IMMO_RESULT_ABORT_CAUSE immoPage = cause % 16 ∧
    (immoEnd s outcome key cause).get IMMO_XSTAT_STATE immoPage = 0 := by
  have hirq (z : State) (f : Fld) (hpwr : keyPage (f.loc immoPage).key ≠ 2) (hoff : 0x40 ≤ keyOff (f.loc immoPage).key) :
      (z.irq immoPage 0).get f immoPage = z.get f immoPage := rd_irq z immoPage 0 hpwr hoff
  have hup (z : State) (u : Immo → Immo) (f : Fld) : (z.upImmo u).get f immoPage = z.get f immoPage := rfl
  have hplace : (IMMO_RESULT_OUTCOME.loc immoPage).key ≠ (IMMO_RESULT_KEY.loc immoPage).key ∧
      (IMMO_RESULT_OUTCOME.loc immoPage).key ≠ (IMMO_RESULT_PURPOSE.loc immoPage).key ∧
      (IMMO_RESULT_OUTCOME.loc immoPage).key ≠ (IMMO_RESULT_ABORT_CAUSE.loc immoPage).key ∧
      (IMMO_RESULT_OUTCOME.loc immoPage).key ≠ (IMMO_XSTAT_STATE.loc immoPage).key ∧
      (IMMO_RESULT_ABORT_CAUSE.loc immoPage).key ≠ (IMMO_XSTAT_STATE.loc immoPage).key := by decide
  obtain ⟨hkey, hpurpose, hcause, hstate, hcs⟩ := hplace
  refine ⟨congrArg Immo.run (eq_of_quiet State.immo (fun _ => rfl) (quiet_irq _ immoPage 0)), ?_, ?_, ?_⟩
  · refine ((hirq _ _ (by decide) (by decide)).trans (hup _ _ _)).trans ?_
    exact (State.rd_wr_ne _ _ hstate).trans ((State.rd_wr_ne _ _ hcause).trans ((State.rd_wr_ne _ _ hpurpose).trans
      ((State.rd_wr_ne _ _ hkey).trans (State.rd_wr_same ..))))
  · refine ((hirq _ _ (by decide) (by decide)).trans (hup _ _ _)).trans ?_
    exact (State.rd_wr_ne _ _ hcs).trans (State.rd_wr_same ..)
  · refine ((hirq _ _ (by decide) (by decide)).trans (hup _ _ _)).trans ?_
    exact (State.rd_wr_same ..).trans rfl

theorem immoOutcome_same {o s : State} (h : s.immo.run = o.immo.run) : immoOutcome o s = s := by
  refine if_neg ?_
  rw [h]
  cases o.immo.run <;> simp

/-- The last step of a verdict: what a grant or a denial confirms. -/
def verdictAct (k : Nat) (valid : Bool) (s : State) : Acted := (immoOutcome s (immoVerdict s k valid).1, (immoVerdict s k valid).2)

theorem verdictEff_se {k : Nat} (hk : k < 8) (valid : Bool) (s : State) :
    verdictEff .se (k + 256 * b2n valid) s = doAct immoPage (beforeAbort (verdictAct k valid) s) := by
  have hmod : (k + 256 * b2n valid) % 8 = k := by omega
  have hbit : bitOf (k + 256 * b2n valid) 8 = valid := by
    have hall : ∀ k < 8, ∀ valid : Bool, bitOf (k + 256 * b2n valid) 8 = valid := by decide
    exact hall k hk valid
  rw [verdictEff, if_pos rfl, hmod, hbit]
  rfl

theorem immoVerdict_refused {s : State} {k : Nat} (valid : Bool) (h : (s.immo.run.isNone || s.slotClass k != 1 || bitOf s.immo.judged k) = true) :
    immoVerdict s k valid = (s, true) := if_pos h

/-- Slot `k` once its verdict has been entered. -/
def judgedSlot (s : State) (k : Nat) (valid : Bool) : State :=
  if valid then (s.upImmo fun x => { x with judged := setBit x.judged k }).set IMMO_SLOTSTAT_VALID immoPage
    (setBit ((s.upImmo fun x => { x with judged := setBit x.judged k }).get IMMO_SLOTSTAT_VALID immoPage) k)
  else s.upImmo fun x => { x with judged := setBit x.judged k }

theorem immoVerdict_none {s : State} {k : Nat} {valid : Bool} (h : (s.immo.run.isNone || s.slotClass k != 1 || bitOf s.immo.judged k) = false)
    (hw : (judgedSlot s k valid).immoWinner = none) : immoVerdict s k valid = (judgedSlot s k valid, false) := by
  rw [judgedSlot] at hw
  rw [immoVerdict, h, if_neg Bool.false_ne_true, judgedSlot]
  dsimp only
  rw [hw]

theorem immoVerdict_grant {s : State} {k w : Nat} {valid : Bool} (h : (s.immo.run.isNone || s.slotClass k != 1 || bitOf s.immo.judged k) = false)
    (hw : (judgedSlot s k valid).immoWinner = some w) : immoVerdict s k valid = (immoGrant (judgedSlot s k valid) w, false) := by
  rw [judgedSlot] at hw
  rw [immoVerdict, h, if_neg Bool.false_ne_true, judgedSlot]
  dsimp only
  rw [hw]

theorem run_judgedSlot (s : State) (k : Nat) (valid : Bool) : (judgedSlot s k valid).immo.run = s.immo.run := by
  unfold judgedSlot
  split <;> rfl

/-- A grant ends the exchange with outcome 1. -/
theorem immoGrant_shows (s : State) (w : Nat) : (immoGrant s w).immo.run = none ∧ (immoGrant s w).get IMMO_RESULT_OUTCOME immoPage = 1 := by
  obtain ⟨hrun, hout, -, -⟩ := immoEnd_shows (s.upImmo fun x => { x with grantTb := some s.tb, relSent := false }) 1 w 0
  have hcnt : (IMMO_RESULT_OUTCOME.loc immoPage).key ≠ (IMMO_CNT_GRANTS.loc immoPage).key := by decide
  refine ⟨(congrArg Immo.run (eq_of_quiet State.immo (fun _ => rfl) (quiet_irq _ immoPage 2))).trans hrun, ?_⟩
  exact (State.rd_wr_ne _ _ hcnt).trans ((rd_irq _ immoPage 2 (by decide) (by decide)).trans hout)

/-- An exchange that a verdict has ended was granted, and stays ended. -/
theorem verdictAct_granted {s : State} {k : Nat} {valid : Bool} (hrun : (immoVerdict s k valid).1.immo.run = none) (hok : (immoVerdict s k valid).2 = false) :
    (verdictAct k valid s).1.immo.run = none := by
  cases hc : (s.immo.run.isNone || s.slotClass k != 1 || bitOf s.immo.judged k) with
  | true =>
    rw [immoVerdict_refused valid hc] at hok
    exact Bool.noConfusion hok
  | false =>
    have hsome : s.immo.run ≠ none := by
      intro h
      rw [h] at hc
      exact absurd hc (by simp)
    cases hw : (judgedSlot s k valid).immoWinner with
    | none =>
      rw [immoVerdict_none hc hw] at hrun
      exact absurd ((run_judgedSlot s k valid).symm.trans hrun) hsome
    | some w =>
      obtain ⟨hnone, hout⟩ := immoGrant_shows (judgedSlot s k valid) w
      have hended : (s.immo.run.isSome && (immoGrant (judgedSlot s k valid) w).immo.run.isNone) = true := by
        rw [hnone, Option.isSome_iff_ne_none.2 hsome]
        rfl
      rw [verdictAct, immoVerdict_grant hc hw, immoOutcome]
      dsimp only
      rw [if_pos hended, if_pos hout, immo_confirmAll, hnone]

/-- The command of CMD, one at a time. -/
theorem immoCmdEff_go {go mask : Nat} (h3 : go < 3) (h0 : go ≠ 0) (hm : mask < 64) (s : State) :
    immoCmdEff (go + mask * 256) s = immoRequest s { start := go == 2, mask := mask, cmd := true } := by
  have hmod : (go + mask * 256) % 4 = go := by omega
  have hall : ∀ go < 3, ∀ mask < 64, bitOf (go + mask * 256) 2 = false ∧ bitOf (go + mask * 256) 3 = false ∧ bitsOf (go + mask * 256) 8 6 = mask := by
    decide +kernel
  obtain ⟨hb2, hb3, hbits⟩ := hall go h3 mask hm
  rw [immoCmdEff, hmod, if_neg (by omega), hb2, hb3, hbits]
  simp only [Bool.false_eq_true, if_false, h0]

theorem immoCmdEff_abort (s : State) : immoCmdEff 4 s = immoAbort (immoKeep s) 1 := rfl

theorem immoCmdEff_tpRead (s : State) : immoCmdEff 8 s = immoRequest s { start := true, tp := true, mask := 32, cmd := true } := rfl

/-- A slot whose turn it is closes with the class of what was heard. -/
theorem exec_answerSlotClose_turn {s : State} {k : Nat} {viol : Bool} {heard crc bytes : List Byte} (hst : s.get IMMO_XSTAT_STATE immoPage = 2)
    (hturn : s.slotTurn k = true) (hd : s.domOn 11 = true) (hb : bytes = heard ++ crc) :
    exec (.answerSlotClose k viol heard crc) s = .next (immoSlotClose s k (if s.flag ACC_UHF_EN accPage then answerClass viol (bytes.map BitVec.toNat)
      else 0) (answerWord (bytes.map BitVec.toNat)) (answerWord ((bytes.map BitVec.toNat).drop 4))) := by
  rw [exec_answerSlotClose, execAnswerSlotClose, ← hb]
  simp only [hst, hturn, hd, decide_true, Bool.and_self, if_true]

theorem answerClass_short {viol : Bool} {l : List Nat} (hv : viol = false) (hne : l ≠ []) (hlen : l.length ≠ 10) : answerClass viol l = 2 := by
  have hempty : l.isEmpty = false := by rw [List.isEmpty_eq_false_iff]; exact hne
  rw [answerClass, hv, hempty]
  simp [hlen]

theorem answerClass_badCrc {viol : Bool} {l : List Nat} (hv : viol = false) (hlen : l.length = 10)
    (hcrc : crc16 (l.take 8) ≠ l.getD 8 0 * 256 + l.getD 9 0) : answerClass viol l = 2 := by
  have hempty : l.isEmpty = false := by
    rw [List.isEmpty_eq_false_iff]
    intro h
    rw [h] at hlen
    exact absurd hlen (by decide)
  rw [answerClass, hv, hempty, beq_false_of_ne hcrc]
  simp

/-- A transponder whose time has come answers. -/
theorem exec_transponderEnd_due {s : State} {viol : Bool} {head heard crc : List Byte} (hd : s.domOn 11 = true) (hrun : s.immo.run.isSome = true)
    (hst : s.get IMMO_XSTAT_STATE immoPage = 4) (hclosed : s.immo.closed = 0) (ht : s.immo.since + 28552000 ≤ s.tb) :
    exec (.transponderEnd viol head heard crc) s = .next (if andNot (s.get IMMO_XSTAT_MASK immoPage) s.lf.lost = 0 then lfLost s
      else if (immoSlotClose s (((head ++ heard ++ crc).map BitVec.toNat).getD 0 0 % 8) (answerClass viol (((head ++ heard ++ crc).map BitVec.toNat).drop 1))
          (answerWord (((head ++ heard ++ crc).map BitVec.toNat).drop 1)) (answerWord (((head ++ heard ++ crc).map BitVec.toNat).drop 5))).slotClass
            (((head ++ heard ++ crc).map BitVec.toNat).getD 0 0 % 8) = 1 then
        immoSlotClose s (((head ++ heard ++ crc).map BitVec.toNat).getD 0 0 % 8) (answerClass viol (((head ++ heard ++ crc).map BitVec.toNat).drop 1))
          (answerWord (((head ++ heard ++ crc).map BitVec.toNat).drop 1)) (answerWord (((head ++ heard ++ crc).map BitVec.toNat).drop 5))
      else immoOutcome s (immoNoGrant (immoSlotClose s (((head ++ heard ++ crc).map BitVec.toNat).getD 0 0 % 8)
        (answerClass viol (((head ++ heard ++ crc).map BitVec.toNat).drop 1)) (answerWord (((head ++ heard ++ crc).map BitVec.toNat).drop 1))
        (answerWord (((head ++ heard ++ crc).map BitVec.toNat).drop 5))))) := by
  rw [exec_transponderEnd, execTransponderEnd, if_pos hd, Machine.transponderEnd]
  simp only [hrun, hst, hclosed, ht, decide_true, Bool.and_self, if_true]

/-- An acknowledgement in no BCLK of a repetition. -/
theorem relUndo_rest {s : State} (h : (s.immo.relUndo.all fun u => u.tb != s.tb) = true) : relUndo s = s := by
  unfold relUndo
  cases hu : s.immo.relUndo with
  | none => rfl
  | some u =>
    rw [hu, Option.all_some, bne_iff_ne] at h
    exact if_neg h

@[simp] theorem State.reached_immo (s : State) (p : Nat) : (s.reached p).immo = s.immo := by
  obtain ⟨w, d, h⟩ := s.reached_form p
  rw [h]

/-- Settles O24: each command is a branch of its definition; a whole answer has its CRC, and only a grant ends an exchange in a verdict. -/
theorem immobiliserAndReleaseCommands : Obligations.ImmobiliserAndReleaseCommands := by
  unfold Obligations.ImmobiliserAndReleaseCommands
  refine ⟨?go, ?goBad, ?abort, ?aborted, ?tpRead, ?telegram, ?viol, ?empty, ?clean, ?short, ?badCrc, ?deaf, ?verdictOther, ?verdictBad, ?verdictNone,
    ?grant, ?undoneGrant, ?undone, ?late, ?listening, ?again, ?againOv, ?pending, ?tpLost, ?tpClean, ?tpBad, ?sendBad, ?send, ?skip, ?repeats, ?ack,
    ?ackUndo, ?giveUp, ?stop⟩
  case go =>
    intro s m go mask h3 h0 hm ht
    rw [exec_immoCmdGo, execImmoCmdGo, accessWrite_takes s m _ _ _ _ ht, immoCmdEff_go h3 h0 hm]
  case goBad =>
    intro s m mask hm ht
    have hmod : (3 + mask * 256) % 4 = 3 := by omega
    rw [exec_immoCmdGo, execImmoCmdGo, accessWrite_takes s m _ _ _ _ ht, immoCmdEff, if_pos hmod]
  case abort =>
    intro s m ht
    rw [exec_immoCmdAbort, execImmoCmdAbort, accessWrite_takes s m _ _ _ _ ht, immoCmdEff_abort]
  case aborted =>
    intro s m x ht hrun
    have hsome : (immoKeep (s.reached immoPage)).immo.run.isSome = true := by
      have hkeep : (immoKeep (s.reached immoPage)).immo.run = (s.reached immoPage).immo.run := rfl
      rw [hkeep, State.reached_immo, hrun]
      rfl
    obtain ⟨hnone, hout, hcause, hstate⟩ := immoEnd_shows (immoKeep (s.reached immoPage)) 3 0 1
    rw [exec_immoCmdAbort, execImmoCmdAbort, accessWrite_takes s m _ _ _ _ ht, immoCmdEff_abort, completes_next, immoAbort, if_pos hsome]
    exact ⟨hnone, hout, hcause, hstate⟩
  case tpRead =>
    intro s m ht
    rw [exec_immoTpRead, execImmoTpRead, accessWrite_takes s m _ _ _ _ ht, immoCmdEff_tpRead]
  case telegram =>
    intro s sat hrun hst hd hdue
    rw [exec_telegramEnd, execTelegramEnd, if_pos hd, Machine.telegramEnd]
    simp only [hrun, hst, hdue, decide_true, Bool.and_self, if_true]
  case viol =>
    intro s k viol bytes heard crc hst hturn hd hen hb hv
    rw [exec_answerSlotClose_turn hst hturn hd hb, if_pos hen, answerClass, if_pos hv]
  case empty =>
    intro s k viol bytes heard crc hst hturn hd hen hb hv hnil
    rw [exec_answerSlotClose_turn hst hturn hd hb, if_pos hen, hv, hnil]
    rfl
  case clean =>
    intro s k viol resp bytes heard crc hst hturn hd hen hb hv hlen hwhole
    have hclass : answerClass viol (bytes.map BitVec.toNat) = 1 := by
      rw [hv, hwhole]
      exact answerClass_withCrc hlen
    rw [exec_answerSlotClose_turn hst hturn hd hb, if_pos hen, hclass]
  case short =>
    intro s k viol bytes heard crc hst hturn hd hen hb hv hne hlen
    have hclass : answerClass viol (bytes.map BitVec.toNat) = 2 :=
      answerClass_short hv (by rwa [ne_eq, List.map_eq_nil_iff]) (by rwa [List.length_map])
    rw [exec_answerSlotClose_turn hst hturn hd hb, if_pos hen, hclass]
  case badCrc =>
    intro s k viol bytes heard crc hst hturn hd hen hb hv hlen hcrc
    have hclass : answerClass viol (bytes.map BitVec.toNat) = 2 := answerClass_badCrc hv (by rwa [List.length_map]) hcrc
    rw [exec_answerSlotClose_turn hst hturn hd hb, if_pos hen, hclass]
  case deaf =>
    intro s k viol bytes heard crc hst hturn hd hen hb
    rw [exec_answerSlotClose_turn hst hturn hd hb, hen, if_neg Bool.false_ne_true]
  case verdictOther =>
    intro s m k v hm ht
    rw [exec_immoVerdict, execImmoVerdict, accessWrite_takes s m _ _ _ _ ht, verdictEff, if_neg hm]
  case verdictBad =>
    intro s z k v hk ht hz hundo hbad
    rw [exec_immoVerdict, execImmoVerdict, accessWrite_takes s .se _ _ _ _ ht, ← hz, verdictEff_se hk, beforeAbort_rest _ hundo, verdictAct,
      immoVerdict_refused v hbad]
    dsimp only
    rw [immoOutcome_same rfl, doAct_rejected]
  case verdictNone =>
    intro s z y k hk ht hz hundo hok hy hw
    have ht : s.takes immoPage 0xA4 (k + 256 * b2n false) = true := by simpa [b2n] using ht
    have hjudged : judgedSlot z k false = y := hy.symm
    have hend : immoVerdict z k false = (y, false) := by rw [immoVerdict_none hok (by rw [hjudged, hw]), hjudged]
    rw [exec_immoVerdict, execImmoVerdict, accessWrite_takes s .se _ _ _ _ ht, ← hz, verdictEff_se hk, beforeAbort_rest _ hundo, verdictAct, hend]
    dsimp only
    rw [immoOutcome_same (by rw [← hjudged, run_judgedSlot]), doAct_done]
  case grant =>
    intro s z y k w hk ht hz hundo hok hy hw
    have ht : s.takes immoPage 0xA4 (k + 256 * b2n true) = true := by simpa [b2n] using ht
    have hjudged : judgedSlot z k true = y := hy.symm
    have hend : immoVerdict z k true = (immoGrant y w, false) := by rw [immoVerdict_grant hok (by rw [hjudged, hw]), hjudged]
    rw [exec_immoVerdict, execImmoVerdict, accessWrite_takes s .se _ _ _ _ ht, ← hz, verdictEff_se hk, beforeAbort_rest _ hundo, verdictAct, hend]
    dsimp only
    rw [doAct_done]
  case undoneGrant =>
    intro s z t u k v hk ht hz hrun hu htb hback hnone hok
    have hback' : unaborted z u = t := hback.symm
    have hended : (verdictAct k v t).1.immo.run.isSome = false := by rw [verdictAct_granted hnone hok]; rfl
    rw [exec_immoVerdict, execImmoVerdict, accessWrite_takes s .se _ _ _ _ ht, ← hz, verdictEff_se hk, beforeAbort_undone _ hu htb hrun, hback', hended,
      if_neg Bool.false_ne_true, verdictAct, hok, doAct_done]
  case undone =>
    intro s z t u k hk ht hz hrun hu htb hback hsome hok
    have hback' : unaborted z u = t := hback.symm
    have hrest : verdictAct k false t = ((immoVerdict t k false).1, false) := by
      have hno : ¬ (t.immo.run.isSome && (immoVerdict t k false).1.immo.run.isNone) = true := by
        rw [Bool.and_eq_true, ← Option.not_isSome, hsome]
        exact fun h => Bool.false_ne_true h.2
      rw [verdictAct, hok, immoOutcome, if_neg hno]
    rw [exec_immoVerdict, execImmoVerdict, accessWrite_takes s .se _ _ _ _ ht, ← hz, verdictEff_se hk, beforeAbort_undone _ hu htb hrun, hback', hrest,
      if_pos hsome, doAct_done]
  case late =>
    intro s k hd
    rw [exec_verifyTimeout, execVerifyTimeout, if_pos hd]
  case listening =>
    intro s hd hrun hst hdone
    rw [exec_listeningEnd, execListeningEnd]
    simp only [hd, hrun, hst, hdone, decide_true, Bool.true_or, Bool.and_self, if_true]
  case again =>
    intro s hd hrun hawait hst ht hov
    rw [exec_repeatTelegram, execRepeatTelegram]
    simp only [hd, hrun, hst, hawait, ht, Option.isNone_none, decide_true, Bool.and_self, if_true, Machine.repeatTelegram, hov, Bool.false_eq_true, if_false]
  case againOv =>
    intro s hd hrun hawait hst ht hov
    rw [exec_repeatTelegram, execRepeatTelegram]
    simp only [hd, hrun, hst, hawait, ht, Option.isNone_none, decide_true, Bool.and_self, if_true, Machine.repeatTelegram, hov]
  case pending =>
    intro s x hp hd hrun hpoll ht
    rw [exec_pendingExchangeStart, execPendingExchangeStart, hp]
    simp only [hd, hrun, hpoll, ht, Option.isNone_none, Bool.not_false, decide_true, Bool.and_self, if_true]
  case tpLost =>
    intro s viol head heard crc hd hrun hst hclosed ht hlost
    have hend : lfLost s = immoOutcome s (immoEnd s 4 0 0) := by
      have hsending : s.immoSending = true := by rw [State.immoSending, hst]; rfl
      rw [lfLost]
      simp only [hrun, hsending, hlost, decide_true, Bool.and_self, if_true]
    rw [exec_transponderEnd_due hd hrun hst hclosed ht, if_pos hlost, hend]
  case tpClean =>
    intro s t k resp bytes head heard crc hd hrun hst hclosed ht hlost hlen hb hwhole hclose hclass
    have hcons : (head ++ heard ++ crc).map BitVec.toNat = k.toNat :: (withCrc resp).map BitVec.toNat := by rw [← hb, hwhole]; rfl
    have hkey : ((head ++ heard ++ crc).map BitVec.toNat).getD 0 0 = k.toNat := by rw [hcons]; rfl
    have hrest : ((head ++ heard ++ crc).map BitVec.toNat).drop 1 = (withCrc resp).map BitVec.toNat := by rw [hcons]; rfl
    have hfive : ((head ++ heard ++ crc).map BitVec.toNat).drop 5 = ((withCrc resp).map BitVec.toNat).drop 4 := by rw [hcons]; rfl
    obtain ⟨hhi, hlo⟩ := answerWord_withCrc hlen
    rw [exec_transponderEnd_due hd hrun hst hclosed ht, if_neg hlost, hkey, hrest, hfive, answerClass_withCrc hlen, hhi, hlo, ← hclose, if_pos hclass]
  case tpBad =>
    intro s t viol bytes head heard crc hd hrun hst hclosed ht hlost hb hcls hclose hclass
    rw [exec_transponderEnd_due hd hrun hst hclosed ht, if_neg hlost, ← hb, ← hclose, if_neg hclass]
  case sendBad =>
    intro s z m ht hz hbad
    rw [exec_relSend, execRelSend, accessWrite_takes s m _ _ _ _ ht, ← hz, relEff]
    simp only [show bitOf 1 1 = false from rfl, show bitOf 1 0 = true from rfl, Bool.false_eq_true, if_false, if_true, hbad]
  case send =>
    intro s z m ht hz hok
    rw [exec_relSend, execRelSend, accessWrite_takes s m _ _ _ _ ht, ← hz, relEff]
    simp only [show bitOf 1 1 = false from rfl, show bitOf 1 0 = true from rfl, Bool.false_eq_true, if_false, if_true, hok]
  case skip =>
    intro s hdue hcnt hskip
    rw [exec_relRepeat, execRelRepeat]
    simp only [hdue, hcnt, decide_true, Bool.and_self, if_true]
    exact congrArg _ (congrArg (fun z : State => z.upImmo fun x => { x with relTb := s.immo.relTb + 100000000 }) (if_pos hskip))
  case repeats =>
    intro s hdue hcnt hgo
    rw [exec_relRepeat, execRelRepeat]
    simp only [hdue, hcnt, decide_true, Bool.and_self, if_true]
    refine congrArg _ (congrArg (fun z : State => z.upImmo fun x => { x with relTb := s.immo.relTb + 100000000 }) (if_neg ?_))
    rw [Bool.not_eq_true]
    exact hgo
  case ack =>
    intro s hbegan hundo
    rw [exec_relAck, execRelAck, if_pos hbegan, relUndo_rest hundo]
  case ackUndo =>
    intro s u hbegan hu htb
    rw [exec_relAck, execRelAck, if_pos hbegan]
  case giveUp =>
    intro s hdue hcnt
    rw [exec_relGiveUp, execRelGiveUp]
    simp only [hdue, hcnt, decide_true, Bool.and_self, if_true]
  case stop =>
    intro s m ht
    rw [exec_relStop, execRelStop, accessWrite_takes s m _ _ _ _ ht]
    rfl

end Sys2Proof.Machine
end

section
/-! PROOFS. The Ashorn ring (chapter 17). -/

namespace Sys2Proof.Machine

/-! A power-up leaves the ring alone, and an interrupt leaves the forwarded ones. -/

theorem ring_raiseRank (s : State) (n rank : Nat) : (s.raiseRank n rank).ring = s.ring := by
  unfold State.raiseRank
  split
  · split <;> rfl
  · rfl

theorem ring_startPowerUp (s : State) (n rank : Nat) : (s.startPowerUp n rank).ring = s.ring := by
  unfold State.startPowerUp
  dsimp only
  split <;> split <;> rfl

theorem ring_requestUp (s : State) (n rank : Nat) : (s.requestUp n rank).ring = s.ring := by
  unfold State.requestUp
  dsimp only
  split
  · split
    · rfl
    · exact ring_startPowerUp s n rank
  · rfl
  · exact ring_raiseRank _ n rank
  · rfl

theorem ring_hwPowerUp (s : State) (n : Nat) : (s.hwPowerUp n).ring = s.ring := by
  have hmark (z : State) (k r : Nat) : ((z.markHw k).requestUp k r).ring = z.ring := ring_requestUp (z.markHw k) k r
  unfold State.hwPowerUp State.hwPowerUpAt State.hwUp
  dsimp only
  split
  · rfl
  · split
    · rfl
    · split
      · rfl
      · split
        · exact (hmark _ n 6).trans (hmark _ 7 6)
        · exact hmark _ n 6

theorem fwd_irq (s : State) (p b : Nat) : (s.irq p b).ring.fwd = s.ring.fwd := by
  have hroute (z : State) : (z.routeWake p).ring = z.ring := by
    unfold State.routeWake
    split
    · split
      · exact ring_hwPowerUp z _
      · rfl
    · rfl
  have hforward (z : State) : (z.irqForward p).ring.fwd = z.ring.fwd := by
    unfold State.irqForward
    split <;> rfl
  unfold State.irq State.risen
  rw [hroute]
  split
  · exact hforward _
  · rfl

/-! The status of a satellite device. -/

theorem rd_ringMap (s : State) (d : Nat) (b : Bool) {l : Loc} (hmap : l.key ≠ (RING_MAP.loc ringPage).key) (hpwr : keyPage l.key ≠ 2)
    (hoff : 0x40 ≤ keyOff l.key) : (ringMap s d b).rd l = s.rd l := by
  unfold ringMap
  dsimp only
  split
  · rfl
  · exact (rd_irq _ _ _ hpwr hoff).trans (State.rd_wr_ne _ _ hmap)

theorem rd_satLock (s : State) (d : Nat) (own : List (Nat × Nat)) (l : Loc) : (satLock s d own).rd l = s.rd l := by
  have hslot (z : State) (i : Nat) : (if z.slotSt i = 1 && bitOf (z.slotH i).owed d then
      z.upSlot i fun x => { x with owed := clrBit x.owed d, started := setBit x.started d } else z).rd l = z.rd l := by
    split <;> rfl
  exact part_each (fun z : State => z.rd l) _ hslot _ _

/-- The places of a device's status stand beyond the header and are not MAP. -/
theorem satStat_place : ∀ d < 7, ∀ f ∈ [RING_SATSTAT_LIMP_ACT, RING_SATSTAT_VBAT_LOW, RING_SATSTAT_DERATING, RING_SATSTAT_P0_OVER, RING_SATSTAT_LOCKED],
    (f.loc ringPage d).key ≠ (RING_MAP.loc ringPage).key ∧ keyPage (f.loc ringPage d).key ≠ 2 ∧ 0x40 ≤ keyOff (f.loc ringPage d).key := by
  decide +kernel

/-- The registers that a status of device `d` writes first. -/
def statusShown (s : State) (d limp : Nat) (low der p0 lk : Bool) (total ups : Nat) : State :=
  (((((s.upSat d fun _ => { seen := some s.tb, total := total, ups := ups }).set RING_SATSTAT_LIMP_ACT ringPage limp d).put RING_SATSTAT_VBAT_LOW ringPage
    low d).put RING_SATSTAT_DERATING ringPage der d).put RING_SATSTAT_P0_OVER ringPage p0 d).put RING_SATSTAT_LOCKED ringPage lk d

theorem fields_statusShown (s : State) {d limp : Nat} (low der p0 lk : Bool) (total ups : Nat) (hl : limp < 16) :
    (statusShown s d limp low der p0 lk total ups).get RING_SATSTAT_LIMP_ACT ringPage d = limp ∧
      (statusShown s d limp low der p0 lk total ups).flag RING_SATSTAT_VBAT_LOW ringPage d = low ∧
      (statusShown s d limp low der p0 lk total ups).flag RING_SATSTAT_DERATING ringPage d = der ∧
      (statusShown s d limp low der p0 lk total ups).flag RING_SATSTAT_P0_OVER ringPage d = p0 ∧
      (statusShown s d limp low der p0 lk total ups).flag RING_SATSTAT_LOCKED ringPage d = lk := by
  have hlimp (g : Fld) (h : RING_SATSTAT_LIMP_ACT.pos d 0 * 32 + RING_SATSTAT_LIMP_ACT.lo ≠ g.pos d 0 * 32 + g.lo) (z : State) (b : Bool) :
      (z.put g ringPage b d).get RING_SATSTAT_LIMP_ACT ringPage d = z.get RING_SATSTAT_LIMP_ACT ringPage d :=
    State.rd_wr_ne _ _ (key_ne_of_place h ringPage)
  have hkeep (f g : Fld) (h : f.pos d 0 * 32 + f.lo ≠ g.pos d 0 * 32 + g.lo) (z : State) (b : Bool) :
      (z.put g ringPage b d).flag f ringPage d = z.flag f ringPage d := State.flag_put_ne z b (key_ne_of_place h ringPage)
  have hput (f : Fld) (hw : 0 < f.w) (z : State) (b : Bool) : (z.put f ringPage b d).flag f ringPage d = b := State.flag_put_same z f ringPage b d 0 hw
  have hpos (f g : Fld) (hf : f.blk = g.blk) (h : f.off * 32 + f.lo ≠ g.off * 32 + g.lo) : f.pos d 0 * 32 + f.lo ≠ g.pos d 0 * 32 + g.lo := by
    simp only [Fld.pos, hf]
    omega
  refine ⟨?_, ?_, ?_, ?_, ?_⟩
  · rw [statusShown, hlimp RING_SATSTAT_LOCKED (hpos _ _ rfl (by decide)), hlimp RING_SATSTAT_P0_OVER (hpos _ _ rfl (by decide)),
      hlimp RING_SATSTAT_DERATING (hpos _ _ rfl (by decide)), hlimp RING_SATSTAT_VBAT_LOW (hpos _ _ rfl (by decide)), State.get_set_same]
    exact Nat.mod_eq_of_lt hl
  · rw [statusShown, hkeep RING_SATSTAT_VBAT_LOW RING_SATSTAT_LOCKED (hpos _ _ rfl (by decide)),
      hkeep RING_SATSTAT_VBAT_LOW RING_SATSTAT_P0_OVER (hpos _ _ rfl (by decide)),
      hkeep RING_SATSTAT_VBAT_LOW RING_SATSTAT_DERATING (hpos _ _ rfl (by decide)),
      hput RING_SATSTAT_VBAT_LOW (by decide)]
  · rw [statusShown, hkeep RING_SATSTAT_DERATING RING_SATSTAT_LOCKED (hpos _ _ rfl (by decide)),
      hkeep RING_SATSTAT_DERATING RING_SATSTAT_P0_OVER (hpos _ _ rfl (by decide)),
      hput RING_SATSTAT_DERATING (by decide)]
  · rw [statusShown, hkeep RING_SATSTAT_P0_OVER RING_SATSTAT_LOCKED (hpos _ _ rfl (by decide)),
      hput RING_SATSTAT_P0_OVER (by decide)]
  · rw [statusShown, hput RING_SATSTAT_LOCKED (by decide)]

/-- What a status without a clash does once the registers are written. -/
theorem rd_ringStatus (s : State) (d limp : Nat) (low der p0 lk : Bool) (total ups ahead : Nat) (own : List (Nat × Nat)) {l : Loc}
    (hmap : l.key ≠ (RING_MAP.loc ringPage).key) (hpwr : keyPage l.key ≠ 2) (hoff : 0x40 ≤ keyOff l.key) :
    (ringStatus s d limp low der p0 lk total ups ahead own 0).rd l = (statusShown s d limp low der p0 lk total ups).rd l := by
  have howed (z : State) (c : Prop) [Decidable c] (f : Ring → Ring) : (if c then z.upRing f else z).rd l = z.rd l := by split <;> rfl
  have htotal (z : State) : (ringTotal (ringMap z d true)).rd l = z.rd l := rd_ringMap z d true hmap hpwr hoff
  unfold ringStatus
  dsimp only
  rw [if_pos rfl]
  split
  · exact (rd_satLock _ _ _ _).trans ((htotal _).trans (howed _ _ _))
  · split
    · exact (htotal _).trans (howed _ _ _)
    · exact (htotal _).trans (howed _ _ _)

/-- Settles O25: each command is a branch of its definition, and what follows a status leaves its registers. -/
theorem ringCommands : Obligations.RingCommands := by
  unfold Obligations.RingCommands
  refine ⟨?sync, ?syncAhead, ?step, ?stepLocked, ?stepOut, ?timeout, ?align, ?bypass, ?status, ?statusShown, ?gone, ?broken, ?whole, ?wake, ?wakeFrame,
    ?forward, ?readNone, ?readOne, ?share, ?admission⟩
  case sync =>
    intro s d int dly hops frac sh hon hm
    rw [exec_ringSyncFrame, execRingSyncFrame, hon, hm]
    rfl
  case syncAhead =>
    intro s z d int dly hops frac sh hon hm hz hl hd
    have hsync : ringSync s d int frac.toNat dly hops sh = z := by
      have hl' := hl
      rw [hz] at hl'
      rw [ringSync]
      refine (if_neg ?_).trans ((if_pos hd).trans hz.symm)
      rw [Bool.not_eq_true]
      exact hl'
    rw [exec_ringSyncFrame, execRingSyncFrame, hon, hm, hsync]
    rfl
  case step =>
    intro s hon hm howed ht
    rw [exec_ringMasterStep, execRingMasterStep]
    simp only [hon, hm, bne_iff_ne.2 howed, ht, decide_true, Bool.true_or, Bool.and_self, if_true]
  case stepLocked =>
    intro s hon hm hl howed ht
    rw [exec_ringMasterStep, execRingMasterStep]
    simp only [hon, hl, bne_iff_ne.2 howed, ht, decide_true, Bool.or_true, Bool.and_self, if_true]
  case stepOut =>
    intro s hon hm hl
    rw [exec_ringMasterStep, execRingMasterStep]
    simp only [hm, hl, Bool.or_self, Bool.and_false, Bool.false_and, Bool.false_eq_true, if_false]
  case timeout =>
    intro s t hsync ht
    rw [exec_ringSyncTimeout, execRingSyncTimeout, hsync]
    exact congrArg _ (if_pos ht)
  case align =>
    intro s a b br hon
    rw [exec_ringAlignment, execRingAlignment, if_pos hon]
  case bypass =>
    intro s t hal hon ht
    rw [exec_bypassOpen, execBypassOpen, hal]
    simp only [hon, ht, decide_true, Bool.and_self, if_true]
  case status =>
    intro s d limp total ups ahead low der p0 lk own clash hon hm
    rw [exec_ringStatus, execRingStatus, hon, hm]
    rfl
  case statusShown =>
    intro s d limp total ups ahead low der p0 lk own hon hm hd hl
    have hnext : exec (.ringStatus d limp low der p0 lk total ups ahead ⟨own, 0⟩) s = .next (Machine.ringStatus s d limp low der p0 lk total ups ahead
        own 0) := by
      rw [exec_ringStatus, execRingStatus, hon, hm]
      rfl
    have hshown : ∀ f ∈ [RING_SATSTAT_LIMP_ACT, RING_SATSTAT_VBAT_LOW, RING_SATSTAT_DERATING, RING_SATSTAT_P0_OVER, RING_SATSTAT_LOCKED],
        (Machine.ringStatus s d limp low der p0 lk total ups ahead own 0).get f ringPage d =
          (Machine.statusShown s d limp low der p0 lk total ups).get f ringPage d := by
      intro f hf
      obtain ⟨hmap, hpwr, hoff⟩ := satStat_place d hd f hf
      exact rd_ringStatus s d limp low der p0 lk total ups ahead own hmap hpwr hoff
    obtain ⟨hlimp, hlow, hder, hp0, hlk⟩ := fields_statusShown s low der p0 lk total ups hl
    rw [hnext, completes_next]
    refine ⟨(hshown _ (by simp)).trans hlimp, ?_, ?_, ?_, ?_⟩
    · rw [State.flag, hshown _ (by simp)]
      exact hlow
    · rw [State.flag, hshown _ (by simp)]
      exact hder
    · rw [State.flag, hshown _ (by simp)]
      exact hp0
    · rw [State.flag, hshown _ (by simp)]
      exact hlk
  case gone =>
    intro s d t hseen hmap ht
    rw [exec_ringStatusTimeout, execRingStatusTimeout, hseen]
    simp only [hmap, ht, decide_true, Bool.and_self, if_true]
  case broken =>
    intro s d hon hm
    rw [exec_ringBreak, execRingBreak, if_pos hon]
    exact congrArg _ (if_pos hm)
  case whole =>
    intro s hm hlinks
    rw [exec_ringBrokenClear, execRingBrokenClear, Bool.and_assoc, hm, hlinks]
    rfl
  case wake =>
    intro s hpark hen hcfg
    rw [exec_ringWakePattern, execRingWakePattern, hpark, hen, hcfg]
    rfl
  case wakeFrame =>
    intro s d hon
    rw [exec_ringWakeFrame, execRingWakeFrame, if_pos hon]
  case forward =>
    intro s d page hon hm hnone
    have hpush : fwdPush s d page = ((s.upRing fun x => { x with fwd := x.fwd ++ [(d + 1, page)] }).set RING_FWD_STAT_COUNT ringPage 1).irq ringPage 0 := by
      rw [fwdPush, if_pos (by rw [hnone]; decide)]
      simp only [State.upRing, hnone, List.isEmpty_nil, if_true]
      rfl
    rw [exec_ringIrqForward, execRingIrqForward, hon, hm, hpush, Bool.and_self, if_pos rfl, completes_next]
    refine ⟨?_, (rd_irq _ _ _ (by decide) (by decide)).trans (State.rd_wr_same ..)⟩
    rw [fwd_irq]
    exact congrArg (· ++ [(d + 1, page)]) hnone
  case readNone =>
    intro s m hnone
    rw [exec_ringFwdRead, execRingFwdRead, fwdPop, hnone, completes_next]
    exact ⟨rfl, State.flag_put_same _ RING_FWD_VALID ringPage false 0 0 (by decide)⟩
  case readOne =>
    intro s m a b q hq
    rw [exec_ringFwdRead, execRingFwdRead, fwdPop, hq, completes_next]
    exact ⟨rfl, rfl, State.flag_put_same _ RING_FWD_VALID ringPage true 0 0 (by decide)⟩
  case share =>
    intro s d page chan rank x h prio t htakes
    rw [exec_sharedGateForward, execSharedGateForward, if_pos htakes]
  case admission =>
    intro s page chan ok hm
    rw [exec_sharedAdmissionApply, execSharedAdmissionApply, hm, if_neg Bool.false_ne_true]

end Sys2Proof.Machine
end

section
/-! PROOFS. The record engine and skimming (chapter 19). -/

namespace Sys2Proof.Machine

/-! Writing CMD.OP. -/

theorem recData_busy (s : State) (k : Nat) (b : Bool) : (s.put REC_STAT_BUSY recPage b k).recData k = s.recData k := by
  have hword (j : Nat) : (s.put REC_STAT_BUSY recPage b k).get REC_PAYLOAD recPage k j = s.get REC_PAYLOAD recPage k j := by
    refine State.rd_wr_ne _ _ (key_ne_of_place ?_ recPage)
    simp only [Fld.pos, REC_PAYLOAD, REC_STAT_BUSY]
    omega
  simp only [State.recData, hword]

/-- BUSY keeps each argument of its block. -/
theorem get_busy (s : State) (k : Nat) (b : Bool) {f : Fld} (hf : f ∈ [REC_ARG_PAGE_A, REC_ARG_PAGE_B, REC_LEN, REC_RAISE]) :
    (s.put REC_STAT_BUSY recPage b k).get f recPage k = s.get f recPage k := by
  refine State.rd_wr_ne _ _ (key_ne_of_place ?_ recPage)
  simp only [List.mem_cons, List.not_mem_nil, or_false] at hf
  rcases hf with rfl | rfl | rfl | rfl <;> simp only [Fld.pos, REC_ARG_PAGE_A, REC_ARG_PAGE_B, REC_LEN, REC_RAISE, REC_STAT_BUSY] <;> omega

/-- The command that block `k` holds when its CMD.OP is written. -/
def recCmdOf (s : State) (m : Master) (k op : Nat) : RecCmd :=
  ⟨k, op, m.code, s.get REC_ARG_PAGE_A recPage k, s.get REC_ARG_PAGE_B recPage k, s.get REC_LEN recPage k, s.get REC_RAISE recPage k, s.recData k, s.tb⟩

theorem State.reached_recData (s : State) (p k : Nat) : (s.reached p).recData k = s.recData k := by simp only [State.recData, State.reached_get]

theorem State.reached_accepts (s : State) (p q : Nat) : (s.reached p).accepts q = s.accepts q := by simp only [State.accepts, State.reached_flag]

theorem recAccess_taken {s : State} (m : Master) {k op : Nat} (ht : s.takes recPage (0x100 + 0x80 * k) op = true)
    (hb : s.flag REC_STAT_BUSY recPage k = false) (ha : s.accepts recPage = true) (hop : 0 < op ∧ op < 8) :
    recAccess s m k op = nvQueue ((s.reached recPage).put REC_STAT_BUSY recPage true k) (.cmd (recCmdOf s m k op)) := by
  have hmod : op % 16 = op := Nat.mod_eq_of_lt (by omega)
  have hcond : ¬((s.reached recPage).flag REC_STAT_BUSY recPage k || !(s.reached recPage).accepts recPage || decide (op % 16 = 0) ||
      decide (7 < op % 16)) = true := by
    rw [State.reached_flag, State.reached_accepts, hb, ha, hmod, decide_eq_false (by omega), decide_eq_false (by omega)]
    decide
  rw [recAccess, accessWrite_takes _ _ _ _ _ _ ht, recCmdEff]
  refine (if_neg hcond).trans ?_
  dsimp only
  rw [get_busy _ _ _ (by simp), get_busy _ _ _ (by simp), get_busy _ _ _ (by simp), get_busy _ _ _ (by simp), recData_busy, hmod]
  simp only [State.reached_get, State.reached_recData, recCmdOf]
  rw [show ((s.reached recPage).put REC_STAT_BUSY recPage true k).tb = s.tb from s.reached_tb recPage]

theorem recAccess_rejected {s : State} (m : Master) {k op : Nat} (ht : s.takes recPage (0x100 + 0x80 * k) op = true)
    (h : s.flag REC_STAT_BUSY recPage k = true ∨ s.accepts recPage = false) : recAccess s m k op = (s.reached recPage).reject recPage := by
  rw [recAccess, accessWrite_takes _ _ _ _ _ _ ht, recCmdEff]
  refine if_pos ?_
  rw [State.reached_flag, State.reached_accepts]
  rcases h with h | h <;> simp [h]

/-! The end of a command. -/

theorem quiet_recDone (s : State) (k res : Nat) : (recDone s k res).quiet = s.quiet := quiet_irq ..

theorem place_recStat : ∀ k < 4, ∀ f ∈ [REC_STAT_BUSY, REC_STAT_DONE, REC_STAT_RESULT],
    keyPage (f.loc recPage k).key ≠ 2 ∧ 0x40 ≤ keyOff (f.loc recPage k).key := by
  decide +kernel

/-- What the end of a command shows in its block. -/
theorem recDone_shows (s : State) {k res : Nat} (hk : k < 4) (hres : res < 8) :
    (recDone s k res).flag REC_STAT_BUSY recPage k = false ∧ (recDone s k res).flag REC_STAT_DONE recPage k = true ∧
      (recDone s k res).get REC_STAT_RESULT recPage k = res ∧ bitOf ((recDone s k res).get H_IRQ_RAW recPage) k = true := by
  have hirq (z : State) (f : Fld) (hf : f ∈ [REC_STAT_BUSY, REC_STAT_DONE, REC_STAT_RESULT]) : (z.irq recPage k).get f recPage k = z.get f recPage k :=
    rd_irq _ _ _ (place_recStat k hk f hf).1 (place_recStat k hk f hf).2
  have hdiff (f g : Fld) (h : f.off * 32 + f.lo ≠ g.off * 32 + g.lo) (hb : f.blk = g.blk) : (f.loc recPage k).key ≠ (g.loc recPage k).key :=
    key_ne_of_place (by simp only [Fld.pos, hb]; omega) recPage
  refine ⟨?_, ?_, ?_, irqRaw_bit_irq _ _ (Nat.lt_trans hk (by decide))⟩
  · have hput := State.flag_put_same s REC_STAT_BUSY recPage false k 0 (by decide)
    rw [State.flag, recDone, hirq _ _ (by simp), State.get_set_ne _ _ (hdiff REC_STAT_BUSY REC_STAT_RESULT (by decide) rfl)]
    exact (State.flag_put_ne _ true (hdiff REC_STAT_BUSY REC_STAT_DONE (by decide) rfl)).trans hput
  · have hput := State.flag_put_same (s.put REC_STAT_BUSY recPage false k) REC_STAT_DONE recPage true k 0 (by decide)
    rw [State.flag, recDone, hirq _ _ (by simp), State.get_set_ne _ _ (hdiff REC_STAT_DONE REC_STAT_RESULT (by decide) rfl)]
    exact hput
  · rw [recDone, hirq _ _ (by simp), State.get_set_same]
    exact Nat.mod_eq_of_lt (Nat.lt_trans hres (by decide))

theorem queue_recDone_pop (s : State) (k res : Nat) : (recDone (nvPop s) k res).nvm.queue = s.nvm.queue.drop 1 := by
  rw [eq_of_quiet State.nvm (fun _ => rfl) (quiet_recDone ..), eq_of_quiet State.nvm (fun _ => rfl) (quiet_nvPop _)]
  rfl

theorem eeprom_recDone_pop (s : State) (k res : Nat) : (recDone (nvPop s) k res).eeprom = s.eeprom := by
  rw [eq_of_quiet State.eeprom (fun _ => rfl) (quiet_recDone ..), eq_of_quiet State.eeprom (fun _ => rfl) (quiet_nvPop _)]
  rfl

theorem exec_recCommandDone_ends {s : State} {r : RecCmd} {q : List NvOp} (hon : s.domOn 10 = true) (hq : s.nvm.queue = .cmd r :: q)
    (hrun : s.nvm.run = none) (hend : (s.nvm.result.isSome || (nvPlan s (.cmd r) s.nvm.stage).isNone) = true) :
    exec (.recCommandDone r.k) s = .next (recFinish s r) := by
  rw [exec_recCommandDone, execRecCommandDone, hq]
  dsimp only
  rw [hon, hrun, hend, decide_eq_true rfl]
  rfl

/-! Reading the pages of a record. -/

theorem quiet_eeSeen (s : State) (i : Nat) : (eeSeen s i).quiet = s.quiet := by
  unfold eeSeen eeUeSeen eeCorr
  split
  · exact (quiet_irq ..).trans rfl
  · split <;> rfl

theorem quiet_pageSeen (s : State) (p : Nat) : (pageSeen s p).quiet = s.quiet := part_each State.quiet eeSeen quiet_eeSeen _ s

/-! What is read of the EEPROM rests on its bytes and its marked words. -/

section
variable {s t : State} (he : t.eeprom = s.eeprom) (ht : t.torn = s.torn)
include he ht

theorem eeWord_congr (i : Nat) : t.eeWord i = s.eeWord i := by rw [State.eeWord, State.eeWord, he, ht]

theorem eePage_congr (p : Nat) : t.eePage p = s.eePage p := by simp only [State.eePage, eeWord_congr he ht]

theorem copyOk_congr (p par : Nat) : t.copyOk p par = s.copyOk p par := by
  simp only [State.copyOk, eePage_congr he ht, eeUe_torn ht]

theorem recSlot_congr (a b : Nat) : t.recSlot a b = s.recSlot a b := by simp only [State.recSlot, copyOk_congr he ht, eePage_congr he ht]

theorem cntValue_congr (p : Nat) : t.cntValue p = s.cntValue p := by
  simp only [State.cntValue, State.cntWords, State.cntOk, eeWord_congr he ht, eeUe_torn ht]

end

theorem recRead_absent {s : State} {r : RecCmd} (h : s.recSlot r.a r.b = none) : (recRead s r).1.quiet = s.quiet ∧ (recRead s r).2 = 1 := by
  have hseen : (pageSeen (pageSeen s r.a) r.b).quiet = s.quiet := (quiet_pageSeen ..).trans (quiet_pageSeen ..)
  have hput (a b : Bool) : (((pageSeen (pageSeen s r.a) r.b).put REC_STAT_VALID_A recPage a r.k).put REC_STAT_VALID_B recPage b r.k).quiet = s.quiet :=
    ((quiet_put ..).trans (quiet_put ..)).trans hseen
  have hslot (a b : Bool) : (((pageSeen (pageSeen s r.a) r.b).put REC_STAT_VALID_A recPage a r.k).put REC_STAT_VALID_B recPage b r.k).recSlot r.a r.b =
      none :=
    (recSlot_congr (eq_of_quiet State.eeprom (fun _ => rfl) (hput a b)) (eq_of_quiet State.torn (fun _ => rfl) (hput a b)) r.a r.b).trans h
  unfold recRead
  dsimp only
  rw [hslot]
  exact ⟨(quiet_logDev ..).trans ((quiet_irq ..).trans ((quiet_bump ..).trans (hput ..))), rfl⟩

/-! A margin read. -/

/-- An operation of skimming goes to the end of the queue. -/
theorem queue_nvQueue_skims (s : State) {o : NvOp} (ho : o.skims = true) : (nvQueue s o).nvm.queue = s.nvm.queue ++ [o] := by
  show _ ++ (if o.skims = true then _ else _) = _
  rw [if_pos ho, ← List.append_assoc, List.take_append_drop]

theorem skim_nvQueue (s : State) (o : NvOp) :
    (nvQueue s o).nvm.skimFrom = s.nvm.skimFrom ∧ (nvQueue s o).nvm.skimLeft = s.nvm.skimLeft := ⟨rfl, rfl⟩

theorem cntValue_nvQueue (s : State) (o : NvOp) (p : Nat) : (nvQueue s o).cntValue p = s.cntValue p := cntValue_congr rfl rfl p

/-- The state in which a margin read has seen the page `p`, with no further columns and no corrected words. -/
def skimSeen (s : State) (p : Nat) : State := eeCorr (pageSeen (s.upNvm fun x => { x with skimFrom := some s.tb, skimLeft := 1265625000000 }) p) 0

theorem quiet_skimSeen (s : State) (p : Nat) :
    (skimSeen s p).quiet = (s.upNvm fun x => { x with skimFrom := some s.tb, skimLeft := 1265625000000 }).quiet :=
  (quiet_set ..).trans (quiet_pageSeen _ p)

theorem eeprom_skimSeen (s : State) (p : Nat) : (skimSeen s p).eeprom = s.eeprom := by
  rw [eq_of_quiet State.eeprom (fun _ => rfl) (quiet_skimSeen ..)]
  rfl

theorem torn_skimSeen (s : State) (p : Nat) : (skimSeen s p).torn = s.torn := by
  rw [eq_of_quiet State.torn (fun _ => rfl) (quiet_skimSeen ..)]
  rfl

theorem nvm_skimSeen (s : State) (p : Nat) : (skimSeen s p).nvm = { s.nvm with skimFrom := some s.tb, skimLeft := 1265625000000 } := by
  rw [eq_of_quiet State.nvm (fun _ => rfl) (quiet_skimSeen ..)]
  rfl

theorem cntValue_skimSeen (s : State) (p q : Nat) : (skimSeen s p).cntValue q = s.cntValue q :=
  cntValue_congr (eeprom_skimSeen s p) (torn_skimSeen s p) q

theorem skimRead_seen (s : State) (weak : List Nat) (hfixed : ((List.range 16).all fun w => !s.eeFixed (16 * (s.cntValue 1794 % 2048) + w)) = true) :
    skimRead s weak [] 0 =
      (let p := s.cntValue 1794 % 2048
       let t := ((List.range 16).filter fun w => weak.contains w && !s.eeUe (16 * p + w)).foldl
         (fun z w => nvQueue z (.refresh p w (z.eeWord (16 * p + w)))) (skimSeen s p)
       if t.cntValue 1794 < 0xFFFFFF then nvQueue t .skimInc else t) := by
  have hue (i : Nat) : (skimSeen s (s.cntValue 1794 % 2048)).eeUe i = s.eeUe i :=
    eeUe_torn (torn_skimSeen ..) i
  have hfix (i : Nat) : (skimSeen s (s.cntValue 1794 % 2048)).eeFixed i = s.eeFixed i :=
    congrArg (fun l : List (Nat × Bool × Nat) => l.any fun e => e.1 == i && !e.2.1) (torn_skimSeen ..)
  have hlist : ((List.range 16).filter fun w => (weak.contains w || (skimSeen s (s.cntValue 1794 % 2048)).eeFixed (16 * (s.cntValue 1794 % 2048) + w)) &&
        !(skimSeen s (s.cntValue 1794 % 2048)).eeUe (16 * (s.cntValue 1794 % 2048) + w)) =
      (List.range 16).filter fun w => weak.contains w && !s.eeUe (16 * (s.cntValue 1794 % 2048) + w) := by
    refine List.filter_congr fun w hw => ?_
    have hw' := List.all_eq_true.1 hfixed w hw
    rw [Bool.not_eq_true'] at hw'
    rw [hfix, hue, hw', Bool.or_false]
  exact congrArg (fun l : List Nat =>
    let t := l.foldl (fun z w => nvQueue z (.refresh (s.cntValue 1794 % 2048) w (z.eeWord (16 * (s.cntValue 1794 % 2048) + w)))) (skimSeen s
      (s.cntValue 1794 % 2048))
    if t.cntValue 1794 < 0xFFFFFF then nvQueue t .skimInc else t) hlist

/-- A margin read that finds no weak word. -/
theorem skimRead_none (s : State) (hfixed : ((List.range 16).all fun w => !s.eeFixed (16 * (s.cntValue 1794 % 2048) + w)) = true) :
    skimRead s [] [] 0 = if s.cntValue 1794 < 0xFFFFFF then nvQueue (skimSeen s (s.cntValue 1794 % 2048)) .skimInc
      else skimSeen s (s.cntValue 1794 % 2048) := by
  rw [skimRead_seen s [] hfixed]
  dsimp only
  rw [List.filter_eq_nil_iff.2 (fun _ _ => by simp), List.foldl_nil, cntValue_skimSeen]

/-- A margin read that finds the word `w` weak. -/
theorem skimRead_one {s : State} {w : Nat} (hfixed : ((List.range 16).all fun w => !s.eeFixed (16 * (s.cntValue 1794 % 2048) + w)) = true)
    (hlist : ((List.range 16).filter fun x => [w].contains x && !s.eeUe (16 * (s.cntValue 1794 % 2048) + x)) = [w]) (hlt : s.cntValue 1794 < 0xFFFFFF) :
    skimRead s [w] [] 0 = nvQueue (nvQueue (skimSeen s (s.cntValue 1794 % 2048)) (.refresh (s.cntValue 1794 % 2048) w
      (s.eeWord (16 * (s.cntValue 1794 % 2048) + w)))) .skimInc := by
  rw [skimRead_seen s [w] hfixed]
  dsimp only
  rw [hlist, List.foldl_cons, List.foldl_nil, eeWord_congr (eeprom_skimSeen s _) (torn_skimSeen s _), cntValue_nvQueue, cntValue_skimSeen, if_pos hlt]

theorem exec_skimMarginRead_due {s : State} (weak ue : List Nat) (corr : Nat) (hon : s.domOn 10 = true) (hen : s.flag NVM_CFG_SKIM_EN nvmPage = true)
    (hdue : s.skimDue = true) (hq : s.nvm.queue = []) : exec (.skimMarginRead weak ue corr) s = .next (skimRead s weak ue corr) := by
  rw [exec_skimMarginRead, execSkimMarginRead, hon, hen, hdue, hq]
  rfl

theorem filter_range_eq : ∀ w < 16, ((List.range 16).filter fun x => x == w) = [w] := by decide

/-- Settles O37: the accesses are one lemma over OP, a finished command is `recDone` over the popped queue, and a margin read leaves a state that reads as
before outside the skimming fields. -/
theorem recordEngineCommands : Obligations.RecordEngineCommands := by
  unfold Obligations.RecordEngineCommands
  refine ⟨?readTaken, ?readRejected, ?writeTaken, ?writeRejected, ?cntReadTaken, ?cntReadRejected, ?incTaken, ?incRejected, ?raiseTaken, ?raiseRejected,
    ?clearTaken, ?clearRejected, ?eraseTaken, ?eraseRejected, ?failed, ?absent, ?finished, ?margin, ?sound, ?exhausted, ?weak, ?refreshed⟩
  case readTaken => exact fun s m k ht hb ha => congrArg _ (recAccess_taken m ht hb ha (by decide))
  case readRejected => exact fun s m k ht h => congrArg _ (recAccess_rejected m ht h)
  case writeTaken => exact fun s m k ht hb ha => congrArg _ (recAccess_taken m ht hb ha (by decide))
  case writeRejected => exact fun s m k ht h => congrArg _ (recAccess_rejected m ht h)
  case cntReadTaken => exact fun s m k ht hb ha => congrArg _ (recAccess_taken m ht hb ha (by decide))
  case cntReadRejected => exact fun s m k ht h => congrArg _ (recAccess_rejected m ht h)
  case incTaken => exact fun s m k ht hb ha => congrArg _ (recAccess_taken m ht hb ha (by decide))
  case incRejected => exact fun s m k ht h => congrArg _ (recAccess_rejected m ht h)
  case raiseTaken => exact fun s m k ht hb ha => congrArg _ (recAccess_taken m ht hb ha (by decide))
  case raiseRejected => exact fun s m k ht h => congrArg _ (recAccess_rejected m ht h)
  case clearTaken => exact fun s m k ht hb ha => congrArg _ (recAccess_taken m ht hb ha (by decide))
  case clearRejected => exact fun s m k ht h => congrArg _ (recAccess_rejected m ht h)
  case eraseTaken => exact fun s m k ht hb ha => congrArg _ (recAccess_taken m ht hb ha (by decide))
  case eraseRejected => exact fun s m k ht h => congrArg _ (recAccess_rejected m ht h)
  case failed =>
    intro s r q e hon hq hrun hk hres hstage herr he
    have hplan : nvPlan s (.cmd r) s.nvm.stage = none := by
      rw [hstage]
      exact if_pos (by rw [herr]; rfl)
    have hfinish : recFinish s r = recDone (nvPop s) r.k e := by
      unfold recFinish
      rw [hres, herr]
    obtain ⟨hbusy, hdone, hresult, hirq⟩ := recDone_shows (nvPop s) hk he
    rw [exec_recCommandDone_ends hon hq hrun (by rw [hplan, Option.isNone_none, Bool.or_true]), completes_next, hfinish]
    exact ⟨hbusy, hdone, hresult, (queue_recDone_pop ..).trans (by rw [hq]; rfl), hirq, eeprom_recDone_pop ..⟩
  case absent =>
    intro s r q hon hq hrun hk hres hstage herr hop hslot
    have hplan : nvPlan s (.cmd r) s.nvm.stage = none := by
      rw [nvPlan, recPlan, herr, hop, hstage]
      rfl
    obtain ⟨hquiet, hcode⟩ := recRead_absent hslot
    have hfinish : recFinish s r = recDone (nvPop (recRead s r).1) r.k 1 := by
      unfold recFinish
      rw [hres, herr]
      dsimp only
      rw [if_pos hop, hcode]
    obtain ⟨hbusy, hdone, hresult, hirq⟩ := recDone_shows (nvPop (recRead s r).1) hk (by decide : 1 < 8)
    have hnvm : (recRead s r).1.nvm = s.nvm := eq_of_quiet State.nvm (fun _ => rfl) hquiet
    rw [exec_recCommandDone_ends hon hq hrun (by rw [hplan, Option.isNone_none, Bool.or_true]), completes_next, hfinish]
    refine ⟨hbusy, hdone, hresult, (queue_recDone_pop ..).trans (by rw [hnvm, hq]; rfl), hirq, ?_⟩
    exact (eeprom_recDone_pop ..).trans (eq_of_quiet State.eeprom (fun _ => rfl) hquiet)
  case finished =>
    intro s r q e hon hq hrun hk hres he
    obtain ⟨z, hz, hfinish⟩ : ∃ z : State, z.nvm = s.nvm ∧ recFinish s r = recDone (nvPop z) r.k e := by
      unfold recFinish
      rw [hres]
      refine ⟨_, ?_, rfl⟩
      split
      · split
        · unfold recShow
          split <;> rfl
        · split <;> rfl
      · rfl
    obtain ⟨hbusy, hdone, hresult, hirq⟩ := recDone_shows (nvPop z) hk he
    rw [exec_recCommandDone_ends hon hq hrun (by rw [hres]; rfl), completes_next, hfinish]
    exact ⟨hbusy, hdone, hresult, (queue_recDone_pop ..).trans (by rw [hz, hq]; rfl), hirq⟩
  case margin => exact fun s weak ue corr hon hen hdue hq => exec_skimMarginRead_due weak ue corr hon hen hdue hq
  case sound =>
    intro s hon hen hdue hq _ _ _ hfixed hlt
    have hseen := nvm_skimSeen s (s.cntValue 1794 % 2048)
    have hread := (skimRead_none s hfixed).trans (if_pos hlt)
    obtain ⟨hfrom, hleft⟩ := skim_nvQueue (skimSeen s (s.cntValue 1794 % 2048)) .skimInc
    refine ⟨_, (exec_skimMarginRead_due [] [] 0 hon hen hdue hq).trans (congrArg _ hread), ?_, hfrom.trans (by rw [hseen]), hleft.trans (by rw [hseen])⟩
    rw [queue_nvQueue_skims _ rfl, hseen]
    exact congrArg (· ++ [NvOp.skimInc]) hq
  case exhausted =>
    intro s hon hen hdue hq _ _ _ hfixed hmax
    have hseen := nvm_skimSeen s (s.cntValue 1794 % 2048)
    have hread := (skimRead_none s hfixed).trans (if_neg (hmax ▸ Nat.lt_irrefl _))
    refine ⟨_, (exec_skimMarginRead_due [] [] 0 hon hen hdue hq).trans (congrArg _ hread), ?_, ?_, ?_⟩
    · rw [hseen]
      exact hq
    · rw [hseen]
    · rw [hseen]
  case weak =>
    intro s w p hon hen hdue hq _ _ _ hfixed hlt hw hp hue
    have hlist : ((List.range 16).filter fun x => [w].contains x && !s.eeUe (16 * (s.cntValue 1794 % 2048) + x)) = [w] := by
      refine Eq.trans (List.filter_congr fun x _ => ?_) (filter_range_eq w hw)
      by_cases hx : x = w
      · rw [hx, ← hp, hue, List.contains_cons, beq_self_eq_true]
        rfl
      · simp [hx]
    have hread := skimRead_one hfixed hlist hlt
    refine ⟨_, (exec_skimMarginRead_due [w] [] 0 hon hen hdue hq).trans (congrArg _ hread), ?_⟩
    dsimp only
    rw [queue_nvQueue_skims _ rfl, queue_nvQueue_skims _ rfl, nvm_skimSeen, hp]
    exact congrArg (· ++ [NvOp.refresh _ w _] ++ [NvOp.skimInc]) hq
  case refreshed =>
    intro s p w v x q hq hres
    rw [exec_skimRefresh, execSkimRefresh, hq, hres]
    rfl

end Sys2Proof.Machine
end

section
/-! PROOFS. The changeover (chapter 20): SWITCH flips the IBANK that stands once the results in flight have landed, and the statement flips the one of
before. -/

namespace Sys2Proof.Machine

/-- The pages are held, slot A is tried and gives the HK an image, and an MTC to IBANK of the HK is in flight. -/
def switchingLate : State :=
  ({ State.reset with boot := { active := some 0, trying := true }, cnvm := mputN [] 0xFF 0x20 1 0,
                      core := [(0, { run := true, pend := [⟨1, .ctl 0x1D, 1⟩] })] } : State).set CNVM_CHG_STAT_STATE cnvmPage 1

/-- The HK's image of slot A: every other byte of the code NVM is erased. -/
theorem coreComp_switchingLate : (switchingLate.reached cnvmPage).coreComp 0 0 =
    some ⟨0, 0xFFFFFFFF, 0xFFFFFFFF, 0xFFFFFFFF, 0xFFFFFFFF, 0xFFFFFFFF⟩ := by decide +kernel

/-- The MTC lands 1 first, and SWITCH makes 0 of it. -/
theorem ibank_chgSwitch_switchingLate : ((chgSwitch (switchingLate.reached cnvmPage)).cr 0).ibank = 0 := by decide +kernel

/-- Refutes O38: its third clause flips the IBANK of before the write, 0 here, to 1. -/
theorem not_changeoverCommands : ¬ Obligations.ChangeoverCommands := by
  unfold Obligations.ChangeoverCommands
  rintro ⟨-, -, h, -⟩
  have ht : switchingLate.takes cnvmPage 0x60 3 = true := by decide +kernel
  have hswitch := h switchingLate _ 0 _ ht rfl (by decide +kernel) (by decide +kernel) coreComp_switchingLate
  rw [exec_chgSwitch, execChgSwitch, chgAccess, accessWrite_takes _ _ _ _ _ _ ht, completes_next] at hswitch
  obtain ⟨-, hbank, -⟩ := hswitch
  have hzero := ibank_chgSwitch_switchingLate.symm.trans hbank
  revert hzero
  decide +kernel

end Sys2Proof.Machine
end

section
/-! PROOFS. Boot and the receiving of an update (chapter 20). -/

namespace Sys2Proof.Machine

/-! The check sum of a status block. -/

theorem crcBit_lt {poly c : Nat} (hp : poly < 2 ^ 32) (hc : c < 2 ^ 32) : crcBit poly c < 2 ^ 32 := by
  unfold crcBit
  split
  · exact Nat.xor_lt_two_pow (by omega) hp
  · omega

theorem crcByte_lt {poly c b : Nat} (hp : poly < 2 ^ 32) (hc : c < 2 ^ 32) (hb : b < 2 ^ 32) : crcByte poly c b < 2 ^ 32 := by
  have hbits (n : Nat) : (List.range n).foldl (fun c _ => crcBit poly c) (c ^^^ b) < 2 ^ 32 := by
    induction n with
    | zero => exact Nat.xor_lt_two_pow hc hb
    | succ n ih =>
      rw [List.range_succ, List.foldl_append, List.foldl_cons, List.foldl_nil]
      exact crcBit_lt hp ih
  exact hbits 8

theorem crc32c_lt {l : List Nat} (h : ∀ b ∈ l, b < 256) : crc32c l < 2 ^ 32 := by
  have hall : ∀ (l : List Nat) (c : Nat), (∀ b ∈ l, b < 256) → c < 2 ^ 32 → l.foldl (crcByte 0x82F63B78) c < 2 ^ 32 := by
    intro l
    induction l with
    | nil => exact fun c _ hc => hc
    | cons b l ih =>
      intro c hl hc
      exact ih _ (fun x hx => hl x (List.mem_cons_of_mem b hx)) (crcByte_lt (by decide) hc (Nat.lt_trans (hl b List.mem_cons_self) (by decide)))
  exact Nat.xor_lt_two_pow (hall l _ h (by decide)) (by decide)

theorem leBytes_lt {v n b : Nat} (h : b ∈ leBytes v n) : b < 256 := by
  obtain ⟨j, -, rfl⟩ := List.mem_map.1 h
  exact Nat.mod_lt _ (by decide)

/-! Writing a status block. -/

/-- The bytes that `mputN` has put. -/
theorem mgetBytes_mputN (m : List Host.Cell) (d : Byte) (a v : Nat) : (mgetBytes (mputN m d a 4 v) d a 4).map BitVec.toNat = leBytes v 4 := by
  have hb (j : Nat) (hj : j < 4) := mget_mputN 4 m d a v j hj
  simp only [mgetBytes, List.map_cons, List.map_nil]
  rw [show mget (mputN m d a 4 v) d a = mget (mputN m d a 4 v) d (a + 0) from rfl, hb 0 (by decide), hb 1 (by decide), Nat.add_assoc, hb 2 (by decide),
    Nat.add_assoc, hb 3 (by decide)]
  rfl

theorem mgetBytes_mputN_out (n : Nat) : ∀ (m : List Host.Cell) (d : Byte) (a b k v : Nat), (b + n ≤ a ∨ a + k ≤ b) →
    mgetBytes (mputN m d a k v) d b n = mgetBytes m d b n := by
  induction n with
  | zero => exact fun _ _ _ _ _ _ _ => rfl
  | succ n ih =>
    intro m d a b k v h
    rw [mgetBytes, mgetBytes, mget_mputN_out k m d a v b (by omega), ih m d a (b + 1) k v (by omega)]

theorem mgetBytes_add (m : List Host.Cell) (d : Byte) (n k : Nat) : ∀ a : Nat, mgetBytes m d a (n + k) = mgetBytes m d a n ++ mgetBytes m d (a + n) k := by
  induction n with
  | zero => simp [mgetBytes]
  | succ n ih =>
    intro a
    rw [Nat.succ_add, mgetBytes, mgetBytes, ih (a + 1), List.cons_append, Nat.add_assoc a 1 n, Nat.add_comm 1 n]

theorem cnvm_cnvmShow (s : State) : (cnvmShow s).cnvm = s.cnvm := by
  unfold cnvmShow
  dsimp only
  split <;> rfl

theorem boot_cnvmShow (s : State) : (cnvmShow s).boot = s.boot := by
  unfold cnvmShow
  dsimp only
  split <;> rfl

theorem slotState_congr {s t : State} (h : t.cnvm = s.cnvm) (k : Nat) : t.slotState k = s.slotState k := by
  unfold State.slotState State.cn State.cnBytes
  rw [h]

/-- The word that stands for a state of a slot. -/
def statusWord (st : Nat) : Nat := if st = 0 then 0xFFFFFFFF else st

theorem stateCode_statusWord {st : Nat} (h : st ≤ 5) : stateCode (statusWord st) = st :=
  (by decide : ∀ st < 6, stateCode (statusWord st) = st) st (Nat.lt_succ_of_le h)

/-- A status block written at `a` holds its generation, its word and a check sum that is right. -/
theorem statusBlock_reads (m : List Host.Cell) (a gen w : Nat) (hw : w < 2 ^ 32) :
    let n := mputN (mputN (mputN m 0xFF a 4 gen) 0xFF (a + 4) 4 w) 0xFF (a + 8) 4 (crc32c (leBytes gen 4 ++ leBytes w 4))
    mgetN n 0xFF (a + 4) 4 = w ∧ crc32c ((mgetBytes n 0xFF a 8).map BitVec.toNat) = mgetN n 0xFF (a + 8) 4 := by
  have hlt : crc32c (leBytes gen 4 ++ leBytes w 4) < 2 ^ 32 := crc32c_lt fun b hb => (List.mem_append.1 hb).elim leBytes_lt leBytes_lt
  intro n
  refine ⟨?_, ?_⟩
  · rw [mgetN_mputN_out 4 _ _ _ _ _ _ (by omega), mgetN_mputN]
    exact Nat.mod_eq_of_lt hw
  · have hbytes : (mgetBytes n 0xFF a 8).map BitVec.toNat = leBytes gen 4 ++ leBytes w 4 := by
      rw [mgetBytes_mputN_out 8 _ _ _ _ _ _ (by omega), mgetBytes_add _ _ 4 4, List.map_append, mgetBytes_mputN, mgetBytes_mputN_out 4 _ _ _ _ _ _ (by omega),
        mgetBytes_mputN]
    rw [hbytes, mgetN_mputN]
    exact (Nat.mod_eq_of_lt hlt).symm

theorem slotState_putSlot (s : State) (k gen : Nat) {st : Nat} (h : st ≤ 5) : (putSlot s k st gen).slotState k = st := by
  obtain ⟨hword, hsum⟩ := statusBlock_reads s.cnvm (slotBase k + statusAt) gen (statusWord st) (by unfold statusWord; split <;> omega)
  have hcnvm : (putSlot s k st gen).cnvm = _ := cnvm_cnvmShow _
  rw [State.slotState, State.cnBytes, State.cn, State.cn, hcnvm, ← Nat.add_assoc, ← Nat.add_assoc]
  exact (if_pos hsum).trans ((congrArg stateCode hword).trans (stateCode_statusWord h))

/-! The state of an update. -/

theorem updState_irq (s : State) (b : Nat) : (s.irq cnvmPage b).updState = s.updState := rd_irq s _ b (by decide) (by decide)

theorem updState_updGo (s : State) {n : Nat} (h : n < 8) : (updGo s n).updState = n := by
  have hset : (s.set CNVM_UPD_STAT_STATE cnvmPage n).updState = n := (State.get_set_same ..).trans (Nat.mod_eq_of_lt h)
  unfold updGo
  dsimp only
  split
  · exact (updState_irq _ 0).trans hset
  · exact hset

theorem quiet_updGo (s : State) (n : Nat) : (updGo s n).quiet = s.quiet := by
  unfold updGo
  dsimp only
  split
  · exact (quiet_irq ..).trans (quiet_set ..)
  · exact quiet_set ..

/-- A change to another field of UPD_STAT's page that is not STATE stays. -/
theorem get_updGo (s : State) (n : Nat) {f : Fld} (hstate : (f.loc cnvmPage).key ≠ (CNVM_UPD_STAT_STATE.loc cnvmPage).key)
    (hpwr : keyPage (f.loc cnvmPage).key ≠ 2) (hoff : 0x40 ≤ keyOff (f.loc cnvmPage).key) : (updGo s n).get f cnvmPage = s.get f cnvmPage := by
  have hset : (s.set CNVM_UPD_STAT_STATE cnvmPage n).get f cnvmPage = s.get f cnvmPage := State.get_set_ne s n hstate
  unfold updGo
  dsimp only
  split
  · exact (rd_irq _ _ _ hpwr hoff).trans hset
  · exact hset

theorem updForget_facts (s : State) : (updForget s).boot.got = [] ∧ (updForget s).boot.bufs = [] ∧ (updForget s).cnvm = s.cnvm ∧
    (updForget s).get CNVM_UPD_STAT_RECEIVED cnvmPage = 0 := ⟨rfl, rfl, rfl, State.get_set_same ..⟩

/-! A write to UPD. -/

/-- The state in which CMD of a write to UPD acts. -/
def updSeen (s : State) (slot : Bool) : State :=
  if s.flag CNVM_BOOT_RECOVERY cnvmPage then (s.reached cnvmPage).set CNVM_UPD_SLOT cnvmPage (b2n slot) else s.reached cnvmPage

theorem bitsOf_updSlot (cmd : Nat) (slot : Bool) (h : cmd < 4) : bitsOf (cmd + 256 * b2n slot) 8 1 = b2n slot :=
  (by decide : ∀ c < 4, ∀ b : Bool, bitsOf (c + 256 * b2n b) 8 1 = b2n b) cmd h slot

theorem updCmd_mod (cmd : Nat) (slot : Bool) (h : cmd < 4) : (cmd + 256 * b2n slot) % 4 = cmd := by omega

/-- What CMD of a write to UPD does. -/
def updDo (cmd : Nat) (s : State) : State :=
  match cmd with
  | 1 => updStart s
  | 2 => updFinish s
  | 3 => updAbort s
  | _ => s

theorem updEff_seen {s : State} {m : Master} {cmd : Nat} {slot : Bool} (hm : m = .hk ∨ m.code = 12) (h : cmd < 4) :
    updEff m (cmd + 256 * b2n slot) (s.reached cnvmPage) = updDo cmd (updSeen s slot) := by
  have hby : ¬((m != .hk && m.code != 12) = true) := by
    rcases hm with rfl | hm
    · decide
    · simp [hm]
  unfold updEff updSeen
  dsimp only
  rw [if_neg hby, updCmd_mod cmd slot h, bitsOf_updSlot cmd slot h, State.reached_flag]
  rfl

theorem exec_updStart_by {s : State} {m : Master} {slot : Bool} (ht : s.takes cnvmPage 0x50 (1 + 256 * b2n slot) = true) (hm : m = .hk ∨ m.code = 12) :
    exec (.updStart m slot) s = .next (updStart (updSeen s slot)) := by
  rw [exec_updStart, execUpdStart, updAccess, accessWrite_takes _ _ _ _ _ _ ht, updEff_seen hm (by decide), updDo]

theorem exec_updFinish_by {s : State} {m : Master} {slot : Bool} (ht : s.takes cnvmPage 0x50 (2 + 256 * b2n slot) = true) (hm : m = .hk ∨ m.code = 12) :
    exec (.updFinish m slot) s = .next (updFinish (updSeen s slot)) := by
  rw [exec_updFinish, execUpdFinish, updAccess, accessWrite_takes _ _ _ _ _ _ ht, updEff_seen hm (by decide), updDo]

theorem exec_updAbort_by {s : State} {m : Master} {slot : Bool} (ht : s.takes cnvmPage 0x50 (3 + 256 * b2n slot) = true) (hm : m = .hk ∨ m.code = 12) :
    exec (.updAbort m slot) s = .next (updAbort (updSeen s slot)) := by
  rw [exec_updAbort, execUpdAbort, updAccess, accessWrite_takes _ _ _ _ _ _ ht, updEff_seen hm (by decide), updDo]

end Sys2Proof.Machine
end

section
/-! PROOFS. Boot and the receiving of an update (chapter 20): the ROM's steps, the reload of a core and the commands. -/

namespace Sys2Proof.Machine

/-! What the ROM leaves alone on its way to a candidate. -/

/-- The cores, the code NVM and the start that is due. -/
def State.romKept (s : State) : Table Core × List Host.Cell × Bool := (s.core, s.cnvm, s.boot.due)

theorem romKept_releaseHeld (s : State) : (releaseHeld s).romKept = s.romKept := by
  have hclear (z : State) (p : Nat) : (holdClear z p).romKept = z.romKept := by
    unfold holdClear awdServe
    dsimp only
    split
    · split <;> rfl
    · rfl
  exact part_each State.romKept holdClear hclear _ s

theorem romKept_eeStore (s : State) (p o : Nat) (l : List Byte) : (eeStore s p o l).romKept = s.romKept := by
  obtain ⟨m, r, h⟩ := eeStore_form l s p o
  rw [h]
  rfl

theorem romKept_put (s : State) (f : Fld) (p : Nat) (b : Bool) : (s.put f p b).romKept = s.romKept := rfl

theorem romKept_bootEpoch (s : State) : (bootEpoch s).romKept = s.romKept := by
  unfold bootEpoch
  dsimp only
  split
  · rfl
  · split
    · rfl
    · exact romKept_eeStore { s with sup := { s.sup with pon := false } } _ _ _

theorem romKept_bootErase (s : State) : (bootErase s).romKept = s.romKept := by
  unfold bootErase
  split
  · rfl
  · rw [romKept_put]
    exact part_each State.romKept (fun z i => eeStore z (1536 + i) 0 erased64) (fun z i => romKept_eeStore z _ _ _) (List.range 256) s

theorem romKept_cnvmShow (s : State) : (cnvmShow s).romKept = s.romKept := by
  unfold cnvmShow
  dsimp only
  split <;> rfl

/-- The state of the ROM before it looks at the slots. -/
def romReset (s : State) : State :=
  bootErase (bootEpoch (releaseHeld (chgState (({ s.wdgRestart with wdgAlt := false } : State).upBoot fun x => { x with due := false }) 0)))

theorem romKept_romReset (s : State) : (romReset s).romKept = (s.core, s.cnvm, false) :=
  (romKept_bootErase _).trans ((romKept_bootEpoch _).trans (romKept_releaseHeld _))

/-- With no slot that can be tried the ROM ends in recovery. -/
theorem romBoot_recovers {s : State} (h : ∀ k < 2, s.slotState k ≠ 2 ∧ s.slotState k ≠ 3 ∧ s.slotState k ≠ 4) :
    romBoot s = bootRecover (cnvmShow (romReset s)) := by
  have hstate (k : Nat) : (romReset s).slotState k = s.slotState k := slotState_congr (congrArg (·.2.1) (romKept_romReset s)) k
  have htrial (k : Nat) (hk : k < 2) : bootTrial (romReset s) k = romReset s := by
    obtain ⟨h2, h3, -⟩ := h k hk
    rw [bootTrial, hstate, if_neg h3, if_neg h2]
  have hshown (k : Nat) : (cnvmShow (romReset s)).slotState k = s.slotState k := (slotState_congr (cnvm_cnvmShow _) k).trans (hstate k)
  have hnone (n : Nat) (hn : n = 3 ∨ n = 4) : ((List.range 2).filter fun k => (cnvmShow (romReset s)).slotState k == n) = [] := by
    refine List.filter_eq_nil_iff.2 fun k hk => ?_
    obtain ⟨-, h3, h4⟩ := h k (List.mem_range.1 hk)
    rw [hshown, beq_iff_eq]
    rcases hn with rfl | rfl
    · exact h3
    · exact h4
  have hcand : (cnvmShow (romReset s)).candidates = [] := by
    rw [State.candidates, hnone 3 (.inl rfl), hnone 4 (.inr rfl)]
    rfl
  have hboot : romBoot s = (match bootPick (cnvmShow (bootTrial (bootTrial (romReset s) 0) 1))
      (cnvmShow (bootTrial (bootTrial (romReset s) 0) 1)).candidates with
    | (z, some k) => bootRun z k
    | (z, none) => bootRecover z) := rfl
  rw [hboot, htrial 0 (by decide), htrial 1 (by decide), hcand]
  rfl

theorem bootRecover_facts (s : State) : (bootRecover s).flag CNVM_BOOT_RECOVERY cnvmPage = true ∧ (bootRecover s).boot.active = none ∧
    (bootRecover s).boot.due = s.boot.due ∧ (bootRecover s).core = s.core := by
  have hboot : (bootRecover s).boot = { s.boot with active := none, trying := false, measured := [] } := by
    unfold bootRecover
    dsimp only
    split <;> exact boot_cnvmShow _
  have hcore : (bootRecover s).core = s.core := by
    unfold bootRecover
    dsimp only
    split <;> exact congrArg (·.1) (romKept_cnvmShow _)
  refine ⟨State.flag_put_same _ CNVM_BOOT_RECOVERY cnvmPage true 0 0 (by decide), ?_, ?_, hcore⟩
  · rw [hboot]
  · rw [hboot]

/-! The reload of a core. -/

theorem orphan_form (s : State) (c : Nat) : ∃ l, orphan s c = { s with stall := l } := by
  unfold orphan
  split
  · exact ⟨_, rfl⟩
  · exact ⟨_, rfl⟩

/-- The code NVM's components rest on nothing that the stop of a core touches. -/
theorem coreComp_with (s : State) (r : Table Nat) (l : Table Stall) (co : Table Core) (b : Boot) (k c : Nat) :
    ({ s with reg := r, stall := l, core := co, boot := b } : State).coreComp k c = s.coreComp k c := rfl

theorem compBlocksOk_with (s : State) (r : Table Nat) (l : Table Stall) (co : Table Core) (b : Boot) (k : Nat) (x : Component) :
    ({ s with reg := r, stall := l, core := co, boot := b } : State).compBlocksOk k x = s.compBlocksOk k x := rfl

theorem reloadCore_loads {s : State} {k c : Nat} {x : Component} (hx : s.coreComp k c = some x) (hok : s.compBlocksOk k x = true) :
    reloadCore s k c = startAt (loadDram (loadIram (startDone (coreStop s c) c) k c 0 x) k c x) c x.entry := by
  obtain ⟨l, hl⟩ := orphan_form s c
  obtain ⟨r, hstop⟩ : ∃ r, startDone (coreStop s c) c =
      { s with reg := r, stall := l, core := tput s.core c {} {}, boot := { s.boot with start := s.boot.start.filter (· != c) } } := by
    rw [coreStop, hl]
    exact ⟨_, rfl⟩
  unfold reloadCore
  dsimp only
  rw [hstop, coreComp_with, hx]
  dsimp only
  rw [compBlocksOk_with, if_pos hok]

/-- The interrupt enables of the cores keep clear of each other and of the registers that a start touches. -/
theorem irqEn_places : ∀ c < 12, (IRQ_EN_LO.loc irqPage c).key ≠ (IRQ_EN_HI.loc irqPage c).key ∧
    (IRQ_EN_LO.loc irqPage c).key ≠ (MON_STAT_DEBUG.loc monPage).key ∧ (IRQ_EN_HI.loc irqPage c).key ≠ (MON_STAT_DEBUG.loc monPage).key ∧
    (IRQ_EN_LO.loc irqPage c).key ≠ (NVM_WSTAT_WOWNER.loc nvmPage).key ∧ (IRQ_EN_HI.loc irqPage c).key ≠ (NVM_WSTAT_WOWNER.loc nvmPage).key ∧
    (IRQ_EN_LO.loc irqPage c).key ≠ (IRQ_CORESTAT_HALTED.loc irqPage).key ∧ (IRQ_EN_HI.loc irqPage c).key ≠ (IRQ_CORESTAT_HALTED.loc irqPage).key := by
  decide +kernel

theorem get_nvCoreStart (s : State) (n : Nat) {f : Fld} {p i : Nat} (h : (f.loc p i).key ≠ (NVM_WSTAT_WOWNER.loc nvmPage).key) :
    (nvCoreStart s n).get f p i = s.get f p i := by
  unfold nvCoreStart
  dsimp only
  split
  · exact State.get_set_ne s 15 h
  · rfl

theorem part_nvCoreStart (s : State) (n : Nat) : (nvCoreStart s n).core = s.core ∧ (nvCoreStart s n).boot = s.boot ∧ (nvCoreStart s n).dram = s.dram := by
  unfold nvCoreStart
  dsimp only
  split <;> exact ⟨rfl, rfl, rfl⟩

/-- What the start of a core clears of its interrupt enables. -/
def irqEnCleared (s : State) (c : Nat) : State := (s.set IRQ_EN_LO irqPage 0 c).set IRQ_EN_HI irqPage 0 c

theorem irqEn_startAt (s : State) {c : Nat} (entry : Nat) (hc : c < 12) :
    (startAt s c entry).get IRQ_EN_LO irqPage c = 0 ∧ (startAt s c entry).get IRQ_EN_HI irqPage c = 0 := by
  obtain ⟨hlohi, hlomon, himon, hlonvm, hinvm, hlohalt, hihalt⟩ := irqEn_places c hc
  refine ⟨(get_nvCoreStart _ c hlonvm).trans ((rd_setCr _ c _ hlohalt).trans ?_), (get_nvCoreStart _ c hinvm).trans ((rd_setCr _ c _ hihalt).trans ?_)⟩
  · exact (State.get_set_ne (irqEnCleared s c) _ hlomon).trans
      ((State.get_set_ne (s.set IRQ_EN_LO irqPage 0 c) 0 hlohi).trans (State.get_set_same s IRQ_EN_LO irqPage 0 c 0))
  · exact (State.get_set_ne (irqEnCleared s c) _ himon).trans (State.get_set_same (s.set IRQ_EN_LO irqPage 0 c) IRQ_EN_HI irqPage 0 c 0)

theorem exec_coreReload_due {s : State} {c k n : Nat} (hk : s.boot.active = some k) (hc : s.boot.start.contains c = true) (h0 : c ≠ 0)
    (hdue : s.boot.due = false) (hclk : s.clocksRun = true) (hn : targetDomain c = some n) (hon : s.domOn n = true) :
    exec (.coreReload c) s = .next (if s.domOn 6 then reloadCore s k c else (s.need 6).hwPowerUp 6) := by
  rw [exec_coreReload, execCoreReload, hk]
  refine congrArg _ (if_pos ?_)
  rw [hc, bne_iff_ne.2 h0, hdue, hclk, hn, Option.any_some, hon]
  rfl

theorem lt_of_targetDomain {c n : Nat} (h : targetDomain c = some n) : c < 12 := by
  refine Decidable.byContradiction fun hc => ?_
  have hnone : targetDomain c = none := by
    unfold targetDomain
    rw [if_neg (by omega), if_neg (by omega), if_neg (by omega), if_neg (by omega), if_neg (by omega)]
  exact Option.some_ne_none n (h.symm.trans hnone)

/-! Quarters of a block, and the digests. -/

theorem quarterBytes_ne_nil {l : List Word} (h : l.length = 256) : ((l.flatMap fun w => leBytes w.toNat 4).map fun v => BitVec.ofNat 8 v) ≠ [] := by
  cases l with
  | nil => simp at h
  | cons w r => simp [leBytes]

theorem imageWrite_taken {s : State} {a : Nat} {l : List Word} (hl : l.length = 256) (ha : 1024 ∣ a) (ht : s.takesBlock (a / 4096) = true) :
    (l.length != 256 || a % 1024 != 0 || !s.takesBlock (a / 4096)) = false := by
  rw [hl, Nat.mod_eq_zero_of_dvd ha, ht]
  rfl

/-- The bytes of a quarter that `l` brings. -/
def quarterBytes (l : List Word) : List Byte := (l.flatMap fun w => leBytes w.toNat 4).map fun v => BitVec.ofNat 8 v

theorem imageWrite_first {s : State} {a : Nat} {l : List Word} (hl : l.length = 256) (ha : 1024 ∣ a) (ht : s.takesBlock (a / 4096) = true)
    (hb : s.boot.bufs = []) : imageWrite s a l =
      (s.upBoot fun x => { x with bufs := [{ blk := a / 4096, quarters := [(a / 1024 % 4, quarterBytes l)] }] }).answer .ok := by
  have hput : tput ([] : Table (List Byte)) (a / 1024 % 4) [] (quarterBytes l) = [(a / 1024 % 4, quarterBytes l)] :=
    if_neg (quarterBytes_ne_nil hl)
  unfold imageWrite
  dsimp only
  rw [imageWrite_taken hl ha ht, hb]
  show (if ((tput ([] : Table (List Byte)) (a / 1024 % 4) [] (quarterBytes l)).length = 4) then _ else State.answer (s.upBoot fun y => { y with
    bufs := [{ blk := a / 4096, quarters := tput [] (a / 1024 % 4) [] (quarterBytes l) }] }) .ok) = _
  rw [hput]
  exact if_neg (Nat.ne_of_lt (by decide : 1 < 4))

theorem imageWrite_fourth {s : State} {a : Nat} {l : List Word} {x y : BlkBuf} (hl : l.length = 256) (ha : 1024 ∣ a)
    (ht : s.takesBlock (a / 4096) = true) (hb : s.boot.bufs = [x]) (hx : x.blk = a / 4096) (hfull : x.full = false)
    (hy : y = { x with quarters := tput x.quarters (a / 1024 % 4) [] (quarterBytes l) }) (h4 : y.quarters.length = 4) :
    imageWrite s a l = blockCheck (s.upBoot fun z => { z with bufs := [y] }) y := by
  have hfind : s.boot.bufs.find? (fun x => x.blk == a / 4096 && !x.full) = some x := by
    rw [hb]
    exact List.find?_cons_of_pos (by rw [hx, hfull, beq_self_eq_true]; rfl)
  have hothers : s.boot.bufs.filter (fun y => y.blk != a / 4096 || y.full) = [] := by
    rw [hb]
    exact List.filter_eq_nil_iff.2 fun z hz => by rw [List.mem_singleton.1 hz, hx, hfull, bne_self_eq_false]; decide
  unfold imageWrite
  dsimp only
  rw [imageWrite_taken hl ha ht, hfind, hothers]
  show (if ({ x with quarters := tput x.quarters (a / 1024 % 4) [] (quarterBytes l) } : BlkBuf).quarters.length = 4 then
    blockCheck (s.upBoot fun z => { z with bufs := [{ x with quarters := tput x.quarters (a / 1024 % 4) [] (quarterBytes l) }] })
      { x with quarters := tput x.quarters (a / 1024 % 4) [] (quarterBytes l) } else _) = _
  rw [← hy]
  exact if_pos h4

theorem cnvm_settled_keccakDone (s : State) (n : Nat) : (s.keccakDone n).settled.cnvm = s.settled.cnvm := by
  have hfold (l : List BlkBuf) : ∀ t z : State, t.cnvm = z.cnvm → t.updSlot = z.updSlot →
      (l.foldl (fun s b => program s s.updSlot b.blk b.bytes) t).cnvm = (l.foldl (fun s b => program s s.updSlot b.blk b.bytes) z).cnvm := by
    induction l with
    | nil => exact fun _ _ h _ => h
    | cons b l ih =>
      intro t z hc hk
      refine ih _ _ ?_ hk
      show mputBytes t.cnvm 0xFF (slotBase t.updSlot + 4096 * b.blk) b.bytes = mputBytes z.cnvm 0xFF (slotBase z.updSlot + 4096 * b.blk) b.bytes
      rw [hc, hk]
  exact hfold _ _ s rfl rfl

theorem digestsOk_congr {s t : State} (h : t.cnvm = s.cnvm) (k : Nat) : t.digestsOk k = s.digestsOk k := by
  unfold State.digestsOk State.digestOk State.comps State.comp State.cnBytes State.cn
  rw [h]

/-- The update ends, STAGED or FAILED. -/
theorem irqRaw_updGo (s : State) {n : Nat} (h : n = 4 ∨ n = 5) : bitOf ((updGo s n).get H_IRQ_RAW cnvmPage) 0 = true := by
  have hirq : updGo s n = (s.set CNVM_UPD_STAT_STATE cnvmPage n).irq cnvmPage 0 := if_pos (by rcases h with rfl | rfl <;> rfl)
  rw [hirq]
  exact irqRaw_bit_irq _ cnvmPage (by decide)

theorem digestDone_stages {s : State} (h : s.settled.digestsOk s.updSlot = true) : ∃ g z, digestDone s = updGo (putSlot z s.updSlot 1 g) 4 := by
  have hok : (s.keccakDone 1).settled.digestsOk s.updSlot = true := (digestsOk_congr (cnvm_settled_keccakDone s 1) _).trans h
  unfold digestDone
  dsimp only
  rw [show (s.keccakDone 1).updSlot = s.updSlot from rfl, if_pos hok]
  split
  · exact ⟨_, _, rfl⟩
  · exact ⟨_, _, rfl⟩

theorem digestDone_fails {s : State} (h : s.settled.digestsOk s.updSlot = false) : digestDone s = updFail (s.keccakDone 1) 8 := by
  have hbad : (s.keccakDone 1).settled.digestsOk s.updSlot = false := (digestsOk_congr (cnvm_settled_keccakDone s 1) _).trans h
  exact if_neg fun hx => Bool.false_ne_true (hbad.symm.trans hx)

/-- Settles O39: the ROM without a candidate recovers, a reload is the start over the loaded memories, and each write to UPD is a branch of its
command. -/
theorem bootAndUpdateCommands : Obligations.BootAndUpdateCommands := by
  unfold Obligations.BootAndUpdateCommands
  refine ⟨?recover, ?boot, ?wait, ?power, ?reload, ?start, ?startRejected, ?startOther, ?finish, ?missing, ?abort, ?refused, ?first, ?fourth, ?programmed,
    ?digests⟩
  case recover =>
    intro s hdue hclk hon hready hslots
    obtain ⟨hrec, hactive, hkept, hcore⟩ := bootRecover_facts (cnvmShow (romReset s))
    have hrom : (cnvmShow (romReset s)).romKept = (s.core, s.cnvm, false) := (romKept_cnvmShow _).trans (romKept_romReset s)
    have hnext : exec .hkRomBoot s = .next (bootRecover (cnvmShow (romReset s))) := by
      rw [exec_hkRomBoot, execHkRomBoot, hdue, hclk, hon, hready, romBoot_recovers hslots]
      rfl
    refine ⟨_, hnext, hrec, hactive, hkept.trans (congrArg (·.2.2) hrom), fun c => ?_⟩
    exact congrArg (fun t : Table Core => tget t c {}) (hcore.trans (congrArg (·.1) hrom))
  case boot =>
    intro s hdue hclk hon hready
    rw [exec_hkRomBoot, execHkRomBoot, hdue, hclk, hon, hready]
    rfl
  case wait =>
    intro s hdue hclk hon hready
    rw [exec_hkRomBoot, execHkRomBoot, hdue, hclk, hon, hready]
    rfl
  case power =>
    intro s c k n hk hc h0 hdue hclk hn hon hoff
    rw [exec_coreReload_due hk hc h0 hdue hclk hn hon, hoff]
    rfl
  case reload =>
    intro s c k n x hk hc h0 hdue hclk hn hon hmem hx hok
    have hload := reloadCore_loads hx hok
    have hnext : exec (.coreReload c) s = .next (startAt (loadDram (loadIram (startDone (coreStop s c) c) k c 0 x) k c x) c x.entry) := by
      rw [exec_coreReload_due hk hc h0 hdue hclk hn hon, hmem, if_pos rfl, hload]
    obtain ⟨l, hl⟩ := orphan_form s c
    have hstart (z : State) : (startAt z c x.entry).core = tput z.core c {} { run := true, pc := align4 (x.entry % 65536) } ∧
        (startAt z c x.entry).boot = z.boot ∧ (startAt z c x.entry).dram = z.dram := part_nvCoreStart _ c
    obtain ⟨hcore, hboot, hdram⟩ := hstart (loadDram (loadIram (startDone (coreStop s c) c) k c 0 x) k c x)
    have hstop : (coreStop s c).core = tput s.core c {} {} ∧ (coreStop s c).boot = s.boot ∧ (coreStop s c).cnvm = s.cnvm := by
      rw [coreStop, hl]
      exact ⟨rfl, rfl, rfl⟩
    obtain ⟨hscore, hsboot, hscnvm⟩ := hstop
    obtain ⟨hlo, hhi⟩ := irqEn_startAt (loadDram (loadIram (startDone (coreStop s c) c) k c 0 x) k c x) x.entry (lt_of_targetDomain hn)
    refine ⟨_, hnext, ?_, hlo, hhi, ?_, ?_, fun d hd => ?_⟩
    · rw [State.cr, hcore]
      exact tget_tput_same ..
    · rw [hboot]
      show (((coreStop s c).boot.start).filter (· != c)).contains c = false
      rw [← Bool.not_eq_true, List.contains_iff_mem]
      exact fun hmem => absurd (List.mem_filter.1 hmem).2 (by simp)
    · rw [hdram]
      refine (tget_tput_same ..).trans ?_
      show mputBytes [] 0 0 (mgetBytes (coreStop s c).cnvm _ _ _) = _
      rw [hscnvm]
    · rw [State.cr, hcore, tget_tput_ne _ _ _ _ hd]
      show tget (coreStop s c).core d {} = _
      rw [hscore, tget_tput_ne _ _ _ _ hd]
      rfl
  case start =>
    intro s z m slot ht hm hz hacc htrial hchg hstate
    have hz : updSeen s slot = z := hz.symm
    have hgo : updStart z = updGo ((updForget (putSlotState z z.updSlot 0)).set CNVM_UPD_STAT_ERR cnvmPage 0) 1 := by
      have hfree : (z.onTrial || z.changing || !z.accepts cnvmPage) = false := by
        rw [htrial, hchg, hacc]
        rfl
      have hst : (decide (z.updState = 0) || decide (z.updState = 4) || decide (z.updState = 5)) = true := by
        rcases hstate with h | h | h <;> rw [h] <;> rfl
      rw [updStart, hfree, if_neg Bool.false_ne_true]
      exact if_pos hst
    have hquiet : (updStart z).quiet = (updForget (putSlotState z z.updSlot 0)).quiet := by
      rw [hgo]
      exact (quiet_updGo ..).trans (quiet_set ..)
    obtain ⟨hgot, hbufs, hcnvm, hrec⟩ := updForget_facts (putSlotState z z.updSlot 0)
    refine ⟨_, (exec_updStart_by ht hm).trans (by rw [hz]), ?_, ?_, ?_, ?_, ?_, ?_⟩
    · rw [hgo]
      exact updState_updGo _ (by decide)
    · rw [hgo, get_updGo _ 1 (by decide) (by decide) (by decide)]
      exact State.get_set_same ..
    · rw [hgo, get_updGo _ 1 (by decide) (by decide) (by decide)]
      exact (State.get_set_ne _ 0 (by decide)).trans hrec
    · rw [eq_of_quiet State.boot (fun _ => rfl) hquiet]
      exact hgot
    · rw [eq_of_quiet State.boot (fun _ => rfl) hquiet]
      exact hbufs
    · exact (slotState_congr ((eq_of_quiet State.cnvm (fun _ => rfl) hquiet).trans hcnvm) _).trans (slotState_putSlot z _ _ (by decide))
  case startRejected =>
    intro s z m slot ht hm hz h
    have hz : updSeen s slot = z := hz.symm
    rw [exec_updStart_by ht hm, hz]
    refine congrArg _ (if_pos ?_)
    rcases h with h | h | h <;> simp [h]
  case startOther =>
    intro s m slot ht hhk hhost hrec
    have hby : (m != .hk && m.code != 12) = true := by rw [bne_iff_ne.2 hhk, bne_iff_ne.2 hhost]; rfl
    rw [exec_updStart, execUpdStart, updAccess, accessWrite_takes _ _ _ _ _ _ ht, updEff]
    rw [State.reached_flag, hrec, if_neg Bool.false_ne_true, if_pos hby]
  case finish =>
    intro s z m slot ht hm hz hstate hall
    have hz : updSeen s slot = z := hz.symm
    have hgot : ((List.range (z.nblk z.updSlot)).all fun b => b < 10 || z.boot.got.contains b) = true := by
      refine List.all_eq_true.2 fun b hb => ?_
      by_cases h10 : b < 10
      · rw [decide_eq_true h10, Bool.true_or]
      · rw [hall b (List.mem_range.1 hb) (Nat.le_of_not_lt h10), Bool.or_true]
    rw [exec_updFinish_by ht hm, hz, updFinish, hstate, hgot]
    rfl
  case missing =>
    intro s z m slot b ht hm hz hstate hb h10 hnot
    have hz : updSeen s slot = z := hz.symm
    have hgot : ((List.range (z.nblk z.updSlot)).all fun b => b < 10 || z.boot.got.contains b) = false := by
      refine List.all_eq_false.2 ⟨b, List.mem_range.2 hb, ?_⟩
      rw [decide_eq_false (Nat.not_lt.2 h10), hnot]
      decide
    rw [exec_updFinish_by ht hm, hz, updFinish, hstate, hgot]
    rfl
  case abort =>
    intro s z m slot ht hm hz hstate
    have hz : updSeen s slot = z := hz.symm
    have hgo : updAbort z = updGo (updForget (putSlotState z z.updSlot 0)) 0 := if_neg hstate
    have hquiet : (updAbort z).quiet = (updForget (putSlotState z z.updSlot 0)).quiet := by rw [hgo, quiet_updGo]
    obtain ⟨hgot, hbufs, hcnvm, -⟩ := updForget_facts (putSlotState z z.updSlot 0)
    refine ⟨_, (exec_updAbort_by ht hm).trans (by rw [hz]), ?_, ?_, ?_, ?_⟩
    · rw [hgo]
      exact updState_updGo _ (by decide)
    · rw [eq_of_quiet State.boot (fun _ => rfl) hquiet]
      exact hgot
    · rw [eq_of_quiet State.boot (fun _ => rfl) hquiet]
      exact hbufs
    · exact (slotState_congr ((eq_of_quiet State.cnvm (fun _ => rfl) hquiet).trans hcnvm) _).trans (slotState_putSlot z _ _ (by decide))
  case refused =>
    intro s a l hon h
    rw [exec_imageQuarterWrite, execImageQuarterWrite, if_pos hon]
    refine congrArg _ (if_pos ?_)
    rcases h with h | h | h
    · rw [bne_iff_ne.2 h, Bool.true_or, Bool.true_or]
    · rw [bne_iff_ne.2 fun h0 => h (Nat.dvd_of_mod_eq_zero h0), Bool.or_true, Bool.true_or]
    · rw [h, Bool.not_false, Bool.or_true]
  case first =>
    intro s a l hon hl ha ht hb
    rw [exec_imageQuarterWrite, execImageQuarterWrite, if_pos hon, imageWrite_first hl ha ht hb]
    rfl
  case fourth =>
    intro s a l x y hon hl ha ht hb hx hfull hy h4
    rw [exec_imageQuarterWrite, execImageQuarterWrite, if_pos hon, imageWrite_fourth hl ha ht hb hx hfull hy h4]
  case programmed =>
    intro s b x hon hb hx hfull
    have hfind : s.boot.bufs.find? (fun x => x.blk == b && x.full) = some x := by
      rw [hb]
      exact List.find?_cons_of_pos (by rw [hx, hfull, beq_self_eq_true]; rfl)
    have hrest : s.boot.bufs.filter (fun z => z.blk != b || !z.full) = [] := by
      rw [hb]
      exact List.filter_eq_nil_iff.2 fun z hz => by rw [List.mem_singleton.1 hz, hx, hfull, bne_self_eq_false]; decide
    rw [exec_imageBlockProgrammed, execImageBlockProgrammed, if_pos hon, blockProgrammed, hfind]
    dsimp only
    refine congrArg _ ?_
    show State.upBoot _ (fun _ => { s.boot with bufs := s.boot.bufs.filter _ }) = State.upBoot _ fun _ => { s.boot with bufs := [] }
    rw [hrest]
  case digests =>
    intro s hon hstate hkeccak
    have hnext : exec .digestVerifyComplete s = .next (digestDone s) := by
      rw [exec_digestVerifyComplete, execDigestVerifyComplete, hon, hkeccak, decide_eq_true hstate]
      rfl
    cases hok : s.settled.digestsOk s.updSlot with
    | true =>
      obtain ⟨g, z, hdone⟩ := digestDone_stages hok
      refine ⟨_, hnext.trans (congrArg _ hdone), updState_updGo _ (by decide), irqRaw_updGo _ (.inl rfl), fun _ => ?_, fun h => absurd h (by decide)⟩
      exact (slotState_congr (eq_of_quiet State.cnvm (fun _ => rfl) (quiet_updGo ..)) _).trans (slotState_putSlot z _ g (by decide))
    | false =>
      refine ⟨_, hnext.trans (congrArg _ (digestDone_fails hok)), updState_updGo _ (by decide), irqRaw_updGo _ (.inr rfl), fun h => absurd h (by decide),
        fun _ => ⟨?_, ?_⟩⟩
      · exact (get_updGo _ 5 (by decide) (by decide) (by decide)).trans (State.get_set_same ..)
      · rw [updFail, eq_of_quiet State.cnvm (fun _ => rfl) (quiet_updGo ..)]
        rfl

end Sys2Proof.Machine
end

section
/-! PROOFS. Lifecycle, root keys and attestation (chapter 20). -/

namespace Sys2Proof.Machine

/-! An access to the blocks reads the fuses, the keys and the token as before. -/

@[simp] theorem State.reached_fuse (s : State) (p : Nat) : (s.reached p).fuse = s.fuse := by
  obtain ⟨w, d, h⟩ := s.reached_form p
  rw [h]

theorem State.reached_rootState (s : State) (p r : Nat) : (s.reached p).rootState r = s.rootState r := by rw [State.rootState, State.reached_fuse, State.rootState]

theorem State.reached_keybuf (s : State) (p : Nat) : (s.reached p).keybuf = s.keybuf := by simp only [State.keybuf, State.reached_get]

theorem State.reached_tokenOk (s : State) (p : Nat) : (s.reached p).tokenOk = s.tokenOk := by
  obtain ⟨w, d, h⟩ := s.reached_form p
  rw [h]
  rfl

/-! A write to ROOT_CMD. -/

section
variable {s : State} {m : Master} (hm : m = .hk ∨ m.code = 12) (hlock : s.flag H_LOCKSTAT_UNLOCKED secPage = true) (hacc : s.accepts secPage = true)
include hm hlock hacc

theorem rootEff_open : ((m != .hk && m.code != 12) || !(s.reached secPage).flag H_LOCKSTAT_UNLOCKED secPage || !(s.reached secPage).accepts secPage) = false := by
  have hby : (m != .hk && m.code != 12) = false := by
    rcases hm with rfl | hm
    · decide
    · simp [hm]
  rw [hby, State.reached_flag, State.reached_accepts, hlock, hacc]
  rfl

theorem exec_rootProgram_open {r : Nat} (ht : s.takes secPage 0x48 (256 + r) = true) (hr : r < 4) (ok : Bool) :
    exec (.rootProgram m r ok) s = .next (Machine.rootProgram (s.reached secPage) r ok) := by
  have hop : bitsOf (256 + r) 8 2 = 1 ∧ (256 + r) % 4 = r :=
    (by decide : ∀ r < 4, bitsOf (256 + r) 8 2 = 1 ∧ (256 + r) % 4 = r) r hr
  rw [exec_rootProgram, execRootProgram, rootAccess, accessWrite_takes _ _ _ _ _ _ ht, rootEff, rootEff_open hm hlock hacc, hop.1, hop.2]
  rfl

theorem exec_rootSeal_open (ht : s.takes secPage 0x48 512 = true) (ok : Bool) :
    exec (.rootSeal m ok) s = .next (Machine.rootSeal (s.reached secPage) ok) := by
  rw [exec_rootSeal, execRootSeal, rootAccess, accessWrite_takes _ _ _ _ _ _ ht, rootEff, rootEff_open hm hlock hacc]
  rfl

theorem exec_rootReturn_open (ht : s.takes secPage 0x48 768 = true) (ok : Bool) :
    exec (.rootReturn m ok) s = .next (Machine.rootReturn (s.reached secPage) ok) := by
  rw [exec_rootReturn, execRootReturn, rootAccess, accessWrite_takes _ _ _ _ _ _ ht, rootEff, rootEff_open hm hlock hacc]
  rfl

end

/-- An active slot among the four lets SEAL pass its first check. -/
theorem someActive {s : State} {r : Nat} (hr : r < 4) (h : s.rootState r = 1) :
    ((List.range 4).all fun q => (s.reached secPage).rootState q != 1) = false := by
  refine List.all_eq_false.2 ⟨r, List.mem_range.2 hr, ?_⟩
  rw [State.reached_rootState, h]
  decide

/-! GO of a report. -/

theorem exec_attGo_by {s : State} {m : Master} (ht : s.takes attPage 0x40 1 = true) (hm : m = .se ∨ m = .hk ∨ m.code = 12)
    (hacc : s.accepts attPage = true) : exec (.attGo m) s = .next (if s.flag ATT_STAT_BUSY attPage then (s.reached attPage).reject attPage
      else if s.get ATT_BUF attPage < 0x10000000 || 0x10200000 < s.get ATT_BUF attPage + attRoom || s.get ATT_BUF attPage % 16 != 0 then
        ((s.reached attPage).set ATT_STAT_RESULT attPage 1).reject attPage
      else ({ (s.reached attPage).put ATT_STAT_BUSY attPage true with att := { buf := s.get ATT_BUF attPage, tb := s.tb } } : State).keccakAsk 2) := by
  have hby : ((m != .se && m != .hk && m.code != 12) || !(s.reached attPage).accepts attPage) = false := by
    rw [State.reached_accepts, hacc]
    rcases hm with rfl | rfl | hm
    · rfl
    · rfl
    · simp [hm]
  rw [exec_attGo, execAttGo, accessWrite_takes _ _ _ _ _ _ ht, attEff]
  refine congrArg _ ((if_pos rfl).trans ?_)
  rw [Machine.attGo]
  dsimp only
  rw [hby, State.reached_flag, State.reached_get, if_neg Bool.false_ne_true, State.reached_tb]

/-! The report. -/

/-- Bytes put from `b` on leave a word before them. -/
theorem mgetN_mputBytes_before (l : List Byte) : ∀ (m : List Host.Cell) (d : Byte) (a b n : Nat), a + n ≤ b →
    mgetN (mputBytes m d b l) d a n = mgetN m d a n := by
  induction l with
  | nil => exact fun _ _ _ _ _ _ => rfl
  | cons x l ih =>
    intro m d a b n h
    have hone (n : Nat) : ∀ a, a + n ≤ b → mgetN (mput m d b x) d a n = mgetN m d a n := by
      induction n with
      | zero => exact fun _ _ => rfl
      | succ n ihn =>
        intro a h
        rw [mgetN, mgetN, ihn (a + 1) (by omega), mget_mput_ne _ _ _ (by omega)]
    rw [mputBytes, ih _ d a (b + 1) n (by omega), hone n a h]

theorem mget_mputBytes_at (l : List Byte) : ∀ (m : List Host.Cell) (d : Byte) (n j : Nat), j < l.length → mget (mputBytes m d n l) d (n + j) = l.getD j 0 := by
  induction l with
  | nil => exact fun _ _ _ _ h => absurd h (Nat.not_lt_zero _)
  | cons x l ih =>
    intro m d n j h
    rw [mputBytes]
    cases j with
    | zero =>
      have hone : mget (mputBytes (mput m d n x) d (n + 1) l) d n = mget (mput m d n x) d n := by
        have hword := mgetN_mputBytes_before l (mput m d n x) d n (n + 1) 1 (Nat.le_refl _)
        rw [mgetN_one, mgetN_one] at hword
        exact BitVec.eq_of_toNat_eq hword
      exact hone.trans (mget_mput_same ..)
    | succ j =>
      rw [show n + (j + 1) = n + 1 + j by omega, ih _ d (n + 1) j (Nat.lt_of_succ_lt_succ h)]
      rfl

/-- The word of the four bytes with which bytes begin. -/
theorem mgetN_mputBytes_four (m : List Host.Cell) (d a b c e : Byte) (n : Nat) (l : List Byte) :
    mgetN (mputBytes m d n (a :: b :: c :: e :: l)) d n 4 = a.toNat + 256 * (b.toNat + 256 * (c.toNat + 256 * e.toNat)) := by
  have hat (j : Nat) (hj : j < 4) : mget (mputBytes m d n (a :: b :: c :: e :: l)) d (n + j) = (a :: b :: c :: e :: l).getD j 0 :=
    mget_mputBytes_at _ m d n j (Nat.lt_of_lt_of_le hj (by simp))
  simp only [mgetN, Nat.add_assoc, Nat.reduceAdd]
  rw [show mget (mputBytes m d n (a :: b :: c :: e :: l)) d n = a from hat 0 (by decide), hat 1 (by decide), hat 2 (by decide), hat 3 (by decide)]
  simp

/-- Free bytes leave the shared SRAM alone. -/
theorem sram_padBytes (s : State) (l : List Byte) (n : Nat) : (s.padBytes l n).2.sram = s.sram := by
  have hfold (k : List Nat) : ∀ r : List Byte × State, (k.foldl (fun (r : List Byte × State) _ =>
      let x := r.2.fresh 256
      (r.1 ++ [BitVec.ofNat 8 x.1], x.2)) r).2.sram = r.2.sram := by
    induction k with
    | nil => exact fun _ => rfl
    | cons _ k ih => exact fun r => ih _
  exact hfold _ _

theorem sram_sramPut (s : State) (a : Nat) (l : List Byte) : (sramPut s a l).sram = mputBytes s.sram 0 (a - 0x10000000) l := rfl

/-- The bytes of a report's parts. -/
def attBytes (l : List Nat) : List Byte := l.map fun v => BitVec.ofNat 8 v

/-- The state in which the report stands without its signature. -/
def attUnsigned (s : State) : State := sramPut (sramPut s s.att.buf (attBytes s.attHead)) (s.att.buf + 0x40) (attBytes s.attBody)

/-- The state in which the signed report stands, before STAT shows it. -/
def attSigned (s : State) (t : Nat) (r : List Byte × State) : State := (sramPut r.2 (s.att.buf + 0x140) r.1).set ATT_T_SIGN attPage t

/-- The end of a report in STAT and CNT. -/
def attShown (z : State) : State :=
  ((((z.keccakDone 2).put ATT_STAT_BUSY attPage false).put ATT_STAT_DONE attPage true).set ATT_STAT_RESULT attPage 0).bump ATT_CNT_REPORTS attPage

theorem attDone_form (s : State) (t : Nat) : ∃ r : List Byte × State, r.2.sram = (attUnsigned s).sram ∧
    attDone s t = (attShown (attSigned s t r)).irq attPage 0 := by
  unfold attDone
  extract_lets b ofN z
  have hs := sram_padBytes z [] 49856
  generalize z.padBytes [] 49856 = r at hs ⊢
  exact ⟨r, hs, rfl⟩

theorem attShown_facts (z : State) : (attShown z).flag ATT_STAT_BUSY attPage = false ∧ (attShown z).flag ATT_STAT_DONE attPage = true ∧
    (attShown z).get ATT_STAT_RESULT attPage = 0 := by
  have hcount (y : State) {f : Fld} (h : (f.loc attPage).key ≠ (ATT_CNT_REPORTS.loc attPage).key) : (y.bump ATT_CNT_REPORTS attPage).get f attPage = y.get f attPage :=
    State.get_set_ne y _ h
  refine ⟨?_, ?_, (hcount _ (by decide)).trans (State.get_set_same ..)⟩
  · rw [State.flag, attShown, hcount _ (by decide)]
    have hput := State.flag_put_same (z.keccakDone 2) ATT_STAT_BUSY attPage false 0 0 (by decide)
    rw [State.get_set_ne (((z.keccakDone 2).put ATT_STAT_BUSY attPage false).put ATT_STAT_DONE attPage true) 0 (by decide)]
    exact (State.flag_put_ne ((z.keccakDone 2).put ATT_STAT_BUSY attPage false) true (by decide)).trans hput
  · rw [State.flag, attShown, hcount _ (by decide)]
    rw [State.get_set_ne (((z.keccakDone 2).put ATT_STAT_BUSY attPage false).put ATT_STAT_DONE attPage true) 0 (by decide)]
    exact State.flag_put_same ((z.keccakDone 2).put ATT_STAT_BUSY attPage false) ATT_STAT_DONE attPage true 0 0 (by decide)

/-- The report begins with its magic: what follows the head lies behind its first word. -/
theorem magic_attSigned (s : State) (t : Nat) {r : List Byte × State} (hr : r.2.sram = (attUnsigned s).sram) (hb : 0x10000000 ≤ s.att.buf) :
    mgetN (attSigned s t r).sram 0 (s.att.buf - 0x10000000) 4 = 0x4131564B := by
  obtain ⟨l, hl⟩ : ∃ l, attBytes s.attHead = 0x4B#8 :: 0x56#8 :: 0x31#8 :: 0x41#8 :: l := by
    unfold attBytes State.attHead
    simp only [List.cons_append, List.append_assoc, List.map_cons]
    exact ⟨_, rfl⟩
  have hsigned : (attSigned s t r).sram = (sramPut r.2 (s.att.buf + 0x140) r.1).sram := rfl
  rw [hsigned, sram_sramPut, hr, attUnsigned, sram_sramPut, sram_sramPut, mgetN_mputBytes_before _ _ _ _ _ _ (by omega), mgetN_mputBytes_before _ _ _ _ _ _ (by omega), hl, mgetN_mputBytes_four]
  decide

/-- Settles O40: a write to ROOT_CMD is the branch of its OP over the fuses as they are, GO is a case on BUSY and the buffer, and a report writes behind its
head. -/
theorem lifecycleAndAttestationCommands : Obligations.LifecycleAndAttestationCommands := by
  unfold Obligations.LifecycleAndAttestationCommands
  refine ⟨?program, ?programLate, ?programUsed, ?programFailed, ?programBarred, ?sealing, ?sealNone, ?sealLate, ?token, ?tokenLate, ?go, ?goBusy, ?goBad,
    ?report⟩
  case program =>
    intro s m r ok ht hm hlock hacc hr hlc hroot hok hlen
    have hdone : Machine.rootProgram (s.reached secPage) r ok = secResult { s.reached secPage with
        fuse := { s.fuse with root := s.fuse.root.set r 1, keys := tput s.fuse.keys r [] s.keybuf } } 0 := by
      unfold Machine.rootProgram
      rw [State.reached_fuse, State.reached_rootState, State.reached_keybuf, hlc, hroot, hok]
      rfl
    refine ⟨_, (exec_rootProgram_open hm hlock hacc ht hr ok).trans (congrArg _ hdone), ?_, ?_, State.get_set_same .., hlc, fun q hq => ?_⟩
    · show (s.fuse.root.set r 1).getD r 0 = 1
      rw [List.getD_eq_getElem?_getD, List.getElem?_set_self (by rw [hlen]; exact hr)]
      rfl
    · exact tget_tput_same s.fuse.keys r [] s.keybuf
    · show (s.fuse.root.set r 1).getD q 0 = s.fuse.root.getD q 0
      rw [List.getD_eq_getElem?_getD, List.getElem?_set_ne (Ne.symm hq), ← List.getD_eq_getElem?_getD]
  case programLate =>
    intro s m r ok ht hm hlock hacc hr hlc
    rw [exec_rootProgram_open hm hlock hacc ht hr ok, Machine.rootProgram, State.reached_fuse, if_pos (bne_iff_ne.2 hlc)]
    rfl
  case programUsed =>
    intro s m r ok ht hm hlock hacc hr hlc hroot
    rw [exec_rootProgram_open hm hlock hacc ht hr ok, Machine.rootProgram, State.reached_fuse, hlc, State.reached_rootState, if_neg (by decide),
      if_pos (bne_iff_ne.2 hroot)]
    rfl
  case programFailed =>
    intro s m r ok ht hm hlock hacc hr hlc hroot hok
    rw [exec_rootProgram_open hm hlock hacc ht hr ok, Machine.rootProgram, State.reached_fuse, hlc, State.reached_rootState, hroot, hok]
    rfl
  case programBarred =>
    intro s m r ok ht _ h
    rw [exec_rootProgram, execRootProgram, rootAccess, accessWrite_takes _ _ _ _ _ _ ht, rootEff]
    refine congrArg _ (if_pos ?_)
    rw [State.reached_flag, State.reached_accepts]
    rcases h with ⟨hhk, hhost⟩ | h | h
    · rw [bne_iff_ne.2 hhk, bne_iff_ne.2 hhost]
      rfl
    · rw [h, Bool.not_false, Bool.or_true, Bool.true_or]
    · rw [h, Bool.not_false, Bool.or_true]
  case sealing =>
    intro s m r ok ht hm hlock hacc hr hroot hlc hok
    rw [exec_rootSeal_open hm hlock hacc ht ok, Machine.rootSeal, someActive hr hroot, State.reached_fuse, hlc, hok]
    rfl
  case sealNone =>
    intro s m ok ht hm hlock hacc hnone
    have hall : ((List.range 4).all fun q => (s.reached secPage).rootState q != 1) = true :=
      List.all_eq_true.2 fun q hq => by rw [State.reached_rootState, bne_iff_ne.2 (hnone q (List.mem_range.1 hq))]
    rw [exec_rootSeal_open hm hlock hacc ht ok, Machine.rootSeal, if_pos hall]
  case sealLate =>
    intro s m r ok ht hm hlock hacc hr hroot hlc
    rw [exec_rootSeal_open hm hlock hacc ht ok, Machine.rootSeal, someActive hr hroot, State.reached_fuse, if_neg Bool.false_ne_true,
      if_pos (bne_iff_ne.2 hlc)]
    rfl
  case token =>
    intro s m ok ht hm hlock hacc hlc
    rw [exec_rootReturn_open hm hlock hacc ht ok, Machine.rootReturn, State.reached_fuse, hlc, State.reached_tokenOk]
    cases s.tokenOk <;> cases ok <;> rfl
  case tokenLate =>
    intro s m ok ht hm hlock hacc hlc
    rw [exec_rootReturn_open hm hlock hacc ht ok, Machine.rootReturn, State.reached_fuse, if_pos (bne_iff_ne.2 hlc)]
    rfl
  case go =>
    intro s m a ht hm hacc hbusy ha hlo hhi h16
    have hfit : (decide (a < 0x10000000) || decide (0x10200000 < a + attRoom) || a % 16 != 0) = false := by
      rw [decide_eq_false (Nat.not_lt.2 hlo), decide_eq_false (p := 0x10200000 < a + attRoom) (Nat.not_lt.2 hhi), Nat.mod_eq_zero_of_dvd h16]
      rfl
    rw [exec_attGo_by ht hm hacc, ← ha, hbusy, hfit]
    rfl
  case goBusy =>
    intro s m ht hm hacc hbusy
    rw [exec_attGo_by ht hm hacc, hbusy, if_pos rfl]
  case goBad =>
    intro s m a ht hm hacc hbusy ha hbad
    have hunfit : (decide (a < 0x10000000) || decide (0x10200000 < a + attRoom) || a % 16 != 0) = true := by
      rcases hbad with h | h | h
      · rw [decide_eq_true h, Bool.true_or, Bool.true_or]
      · rw [decide_eq_true (p := 0x10200000 < a + attRoom) h, Bool.or_true, Bool.true_or]
      · rw [bne_iff_ne.2 fun h0 => h (Nat.dvd_of_mod_eq_zero h0), Bool.or_true]
    rw [exec_attGo_by ht hm hacc, ← ha, hbusy, hunfit]
    rfl
  case report =>
    intro s t hse hmem hbusy hkeccak hb
    have hnext : exec (.attReportDone t) s = .next (attDone s t) := by
      rw [exec_attReportDone, execAttReportDone, hse, hmem, hbusy, hkeccak]
      exact congrArg _ (if_pos rfl)
    obtain ⟨r, hr, hdone⟩ : ∃ r : List Byte × State, r.2.sram = (attUnsigned s).sram ∧ attDone s t = (attShown (attSigned s t r)).irq attPage 0 :=
      attDone_form s t
    have hkeep (f : Fld) (hpwr : keyPage (f.loc attPage).key ≠ 2) (hoff : 0x40 ≤ keyOff (f.loc attPage).key) :
        ((attShown (attSigned s t r)).irq attPage 0).get f attPage = (attShown (attSigned s t r)).get f attPage := rd_irq _ _ _ hpwr hoff
    obtain ⟨hfree, hset, hresult⟩ := attShown_facts (attSigned s t r)
    refine ⟨_, hnext.trans (congrArg _ hdone), ?_, ?_, (hkeep _ (by decide) (by decide)).trans hresult, irqRaw_bit_irq _ attPage (by decide), ?_⟩
    · rw [State.flag, hkeep _ (by decide) (by decide)]
      exact hfree
    · rw [State.flag, hkeep _ (by decide) (by decide)]
      exact hset
    · rw [eq_of_quiet State.sram (fun _ => rfl) (quiet_irq ..)]
      exact magic_attSigned s t hr hb

end Sys2Proof.Machine
end

section
/-! PROOFS. The host port (chapter 21): transactions from their start to their end. -/

namespace Sys2Proof.Machine

/-! The end of a transaction. -/

theorem host_irq (s : State) (p b : Nat) : (s.irq p b).host = s.host := eq_of_quiet State.host (fun _ => rfl) (quiet_irq ..)

theorem sram_irq (s : State) (p b : Nat) : (s.irq p b).sram = s.sram := eq_of_quiet State.sram (fun _ => rfl) (quiet_irq ..)

/-- What the end of a transaction stores of its response. -/
def hostStored (x : HostPort) (r : HostReq) (l : List Nat) : HostPort :=
  match r.src with
  | 0 => { x with run := none, resp := some l }
  | 1 => { x with run := none, sent := some (r.mac, r.ip, r.port, l), last := some (r.ip, r.port, r.tag, r.crc, l) }
  | _ => { x with run := none, ringResp := l }

theorem host_hostEnd (s : State) (r : HostReq) (l : List Nat) : (hostEnd s r l).host = hostStored s.host r l := by
  unfold hostEnd
  dsimp only
  rw [host_irq]
  rfl

theorem run_hostStored (x : HostPort) (r : HostReq) (l : List Nat) : (hostStored x r l).run = none ∧ (hostStored x r l).queue = x.queue := by
  unfold hostStored
  split <;> exact ⟨rfl, rfl⟩

theorem hostEnd_facts (s : State) (r : HostReq) (l : List Nat) : (hostEnd s r l).get HOST_STAT_STATE hostPage = 0 ∧
    bitOf ((hostEnd s r l).get H_IRQ_RAW hostPage) 0 = true ∧ (hostEnd s r l).sram = s.sram ∧ (hostEnd s r l).host.run = none := by
  refine ⟨?_, irqRaw_bit_irq _ hostPage (by decide), ?_, ?_⟩
  · unfold hostEnd
    dsimp only
    exact (rd_irq _ _ _ (by decide) (by decide)).trans (State.get_set_same (s.bump HOST_CNT_TRANS hostPage) HOST_STAT_STATE hostPage 0 0 0)
  · unfold hostEnd
    dsimp only
    rw [sram_irq]
    rfl
  · rw [host_hostEnd]
    exact (run_hostStored ..).1

theorem hostServe_empty {s : State} (n : Nat) (h : s.host.queue = []) : hostServe n s = s := by
  cases n with
  | zero => rfl
  | succ n =>
    unfold hostServe
    rw [h]
    cases s.host.run <;> rfl

/-! The execution of a transaction. -/

/-- The state in which the words of a transaction are accessed. -/
def hostRunning (s : State) (r : HostReq) : State := (s.set HOST_STAT_STATE hostPage 1).set HOST_STAT_SRC hostPage r.src

theorem forwards_hostRunning (s : State) (r q : HostReq) : (hostRunning s q).forwards r = s.forwards r := by
  have hget {f : Fld} {p : Nat} (hstate : (f.loc p).key ≠ (HOST_STAT_STATE.loc hostPage).key) (hsrc : (f.loc p).key ≠ (HOST_STAT_SRC.loc hostPage).key) :
      (hostRunning s q).get f p = s.get f p := (State.get_set_ne _ _ hsrc).trans (State.get_set_ne s 1 hstate)
  unfold State.forwards State.isMaster State.flag
  rw [hget (by decide) (by decide), hget (by decide) (by decide)]

theorem hostExec_ends {s t : State} {r q : HostReq} {st : Nat} (hacc : s.accepts hostPage = true) (hnew : s.retried r = none)
    (hgood : (r.bad || decide (4 < r.op) || decide (r.space = 3)) = false) (hfw : s.forwards r = false)
    (hrun : hostRun (wordCount r.op r.count) .host (hostRunning s r) r = (t, q, some st)) (hon : t.domOn 5 = true) :
    hostExec s r = hostEnd t q (respWords q.op q.tag st q.done q.next q.out) := by
  have hfwd := (forwards_hostRunning s r r).trans hfw
  unfold hostExec
  rw [hacc, hnew, hgood]
  dsimp only
  rw [if_neg (by decide), if_neg Bool.false_ne_true]
  refine (if_neg (fun h => Bool.false_ne_true (hfwd.symm.trans h))).trans ?_
  rw [show ((s.set HOST_STAT_STATE hostPage 1).set HOST_STAT_SRC hostPage r.src) = hostRunning s r from rfl, hrun, hostDone]
  dsimp only
  rw [hon]
  rfl

theorem hostStart_ends {s t : State} {r q : HostReq} {st : Nat} (hacc : s.accepts hostPage = true) (hnew : s.retried r = none)
    (hgood : (r.bad || decide (4 < r.op) || decide (r.space = 3)) = false) (hfw : s.forwards r = false)
    (hrun : hostRun (wordCount r.op r.count) .host (hostRunning s r) r = (t, q, some st)) (hon : t.domOn 5 = true) (hq : t.host.queue = []) :
    hostStart s r = hostEnd t q (respWords q.op q.tag st q.done q.next q.out) := by
  rw [hostStart, hostExec_ends hacc hnew hgood hfw hrun hon]
  exact hostServe_empty _ (by rw [host_hostEnd, (run_hostStored ..).2, hq])

/-! The words of a transaction in D-space. -/

section
variable {s : State} {a : Nat} (m : Master)

theorem hostD_misaligned (w : Option Nat) (h : ¬ 4 ∣ a) : hostD s m a w = s.answer .misaligned :=
  if_pos (bne_iff_ne.2 fun h0 => h (Nat.dvd_of_mod_eq_zero h0))

variable (h4 : 4 ∣ a) (hlo : 0x10000000 ≤ a) (hhi : a < 0x10200000) (hon : s.domOn 6 = true) (hgood : s.isBad 2 0 (a - 0x10000000) = false)
include h4 hlo hhi hon hgood

theorem hostD_sram (w : Option Nat) : hostD s m a w = match w with
    | some v => (s.dPut 0 a 4 v).answer .ok
    | none => s.answer .ok (s.dGet 0 a 4) := by
  have hplace : dPlace a = (2, a - 0x10000000) := dPlace_sram (by omega) (by omega)
  have hreach : (!(decide (0x10000000 ≤ a) && decide (a < 0x10200000) || decide (0x20000000 ≤ a) && decide (a < 0x20004000) && w.isNone)) = false := by
    rw [decide_eq_true hlo, decide_eq_true hhi]
    rfl
  unfold hostD
  dsimp only
  rw [hplace, Nat.mod_eq_zero_of_dvd h4, hreach, hon, hgood]
  cases w <;> rfl

theorem hostD_read : hostD s m a none = s.answer .ok (s.dGet 0 a 4) := hostD_sram m h4 hlo hhi hon hgood none

theorem hostD_write (v : Nat) : hostD s m a (some v) = (s.dPut 0 a 4 v).answer .ok := hostD_sram m h4 hlo hhi hon hgood (some v)

end

theorem dPut_sram (s : State) {a : Nat} (hlo : 0x10000000 ≤ a) (hhi : a < 0x10200000) (v : Nat) :
    s.dPut 0 a 4 v = { s with sram := mputN s.sram 0 (a - 0x10000000) 4 v } := by
  rw [State.dPut, dPlace_sram (by omega) (by omega)]
  rfl

/-- A transaction of one word whose access completes. -/
theorem hostRun_done {m : Master} {s t : State} {r : HostReq} (hw : hostWord s m r = t) (hok : t.resp.kind = .ok)
    (hlast : ¬ r.done + r.unit < wordCount r.op r.count) :
    hostRun 1 m s r = (t, { r with done := r.done + r.unit, out := if opWrites r.op then r.out else r.out ++ [t.resp.data] }, some 0) := by
  unfold hostRun
  rw [hw]
  dsimp only
  rw [hok]
  exact if_neg hlast

/-- A transaction whose first access is misaligned. -/
theorem hostRun_misaligned {m : Master} {s t : State} {r : HostReq} (hw : hostWord s m r = t) (hk : t.resp.kind = .misaligned) :
    hostRun 1 m s r = (t, r, some 6) := by
  unfold hostRun
  rw [hw]
  dsimp only
  rw [hk]
  rfl

end Sys2Proof.Machine
end

section
/-! PROOFS. The host port (chapter 21): frames, datagrams and the ring. -/

namespace Sys2Proof.Machine

/-! A frame that begins with no transaction waiting. -/

/-- The state in which the request of a frame is taken. -/
def hostBegun (s : State) : State :=
  ({ s with wake := { s.wake with hcs := false } } : State).upHost fun x => { x with hsdo := x.resp.getD nopResponse, resp := some nopResponse }

section
variable {s : State} (hf : s.clk.frozen = false) (h5 : s.domOn 5 = true)
include hf h5

theorem spiFrame_idle (hrun : s.host.run = none) (p : Parsed) : spiFrame s p = frameTake (hostBegun s) p := by
  unfold spiFrame frameBegin
  rw [hf, h5]
  dsimp only
  rw [hrun]
  rfl

theorem spiFrame_pending {r : HostReq} (hrun : s.host.run = some r) (p : Parsed) : spiFrame s p =
    (({ s with wake := { s.wake with hcs := false } } : State).bump HOST_CNT_PENDING hostPage).upHost fun x =>
      { x with hsdo := respWords 0xF r.tag 0 0 r.addr [] } := by
  unfold spiFrame frameBegin
  rw [hf, h5]
  dsimp only
  rw [hrun]
  rfl

end

theorem retried_none {s : State} {r : HostReq} (h : r.src ≠ 1 ∨ s.host.last = none) : s.retried r = none := by
  unfold State.retried
  cases hl : s.host.last with
  | none => rfl
  | some x =>
    have hsrc : r.src ≠ 1 := h.resolve_right fun h => Option.some_ne_none x (hl.symm.trans h)
    simp [hsrc]

/-- A transaction of a frame has run and ended: its response, and the shared SRAM that it leaves. -/
def SpiRuns (s z : State) (l : List Nat) (m : List Host.Cell) : Prop :=
  ∃ t q, z = hostEnd t q l ∧ q.src = 0 ∧ t.host = (hostBegun s).host ∧ t.sram = m

theorem spiRuns_shows {s z : State} {l : List Nat} {m : List Host.Cell} (h : SpiRuns s z l m) : z.host.hsdo = s.host.resp.getD nopResponse ∧
    z.get HOST_STAT_STATE hostPage = 0 ∧ bitOf (z.get H_IRQ_RAW hostPage) 0 = true ∧ z.host.run = none ∧ z.host.resp = some l ∧ z.sram = m := by
  obtain ⟨t, q, hz, hsrc, hhost, hm⟩ := h
  obtain ⟨hstate, hirq, hsram, hrun⟩ := hostEnd_facts t q l
  have hend : (hostEnd t q l).host = { (hostBegun s).host with run := none, resp := some l } := by
    rw [host_hostEnd, hhost, hostStored, hsrc]
    rfl
  rw [hz]
  exact ⟨by rw [hend]; rfl, hstate, hirq, hrun, by rw [hend], hsram.trans hm⟩

/-! Transactions of no word and of one. -/

/-- A request that moves no word, as a frame carries it. -/
def noWord (src tag count space addr crc : Nat) : HostReq := { src := src, tag := tag, count := count, space := space, addr := addr, crc := crc }

/-- A request of one word of D-space, as a frame carries it. -/
def oneWord (op tag addr : Nat) (l : List Nat) : HostReq := { op := op, tag := tag, count := 1, space := 1, addr := addr, words := l }

theorem forwards_noWord (s : State) (src tag count space addr crc : Nat) : s.forwards (noWord src tag count space addr crc) = false := by
  simp [State.forwards, noWord]

theorem forwards_oneWord {s : State} (h : s.isMaster = false ∨ s.get HOST_CFG_RING_TGT hostPage = 0) (op tag addr : Nat) (l : List Nat) :
    s.forwards (oneWord op tag addr l) = false := by
  unfold State.forwards
  rcases h with h | h <;> simp [h]

/-- The operations that move words. -/
def Moves (op : Nat) : Prop := op = 1 ∨ op = 2 ∨ op = 3 ∨ op = 4

theorem good_oneWord {op : Nat} (hop : Moves op) (tag addr : Nat) (l : List Nat) :
    ((oneWord op tag addr l).bad || decide (4 < (oneWord op tag addr l).op) || decide ((oneWord op tag addr l).space = 3)) = false := by
  rcases hop with rfl | rfl | rfl | rfl <;> rfl

theorem count_oneWord {op : Nat} (hop : Moves op) (tag addr : Nat) (l : List Nat) :
    wordCount (oneWord op tag addr l).op (oneWord op tag addr l).count = 1 := by
  rcases hop with rfl | rfl | rfl | rfl <;> rfl

theorem next_oneWord {op : Nat} (hop : Moves op) (tag : Nat) {addr : Nat} (l : List Nat) (h : addr < 2 ^ 32) : (oneWord op tag addr l).next = addr := by
  rcases hop with rfl | rfl | rfl | rfl
  · exact Nat.mod_eq_of_lt h
  · exact Nat.mod_eq_of_lt h
  · rfl
  · rfl

theorem hostWord_oneWord (z : State) {op : Nat} (hop : Moves op) (tag : Nat) {addr : Nat} (l : List Nat) (h : addr < 2 ^ 32) :
    hostWord z .host (oneWord op tag addr l) = hostD z .host addr (if opWrites op then some (l.getD 0 0) else none) := by
  unfold hostWord
  dsimp only
  rw [next_oneWord hop tag l h]
  rfl

/-- The address that a response of one word names: the word behind it, or in the FIX forms the same one. -/
def afterWord (op addr : Nat) : Nat := if op = 1 || op = 2 then addr + 4 else addr

theorem next_done (op tag : Nat) {addr : Nat} (l out : List Nat) (h : addr < 0x10200000) :
    HostReq.next { oneWord op tag addr l with done := 1, out := out } = afterWord op addr :=
  ite_congr rfl (fun _ => Nat.mod_eq_of_lt (by show addr + 4 * 1 < 2 ^ 32; omega)) fun _ => rfl

section
variable {s : State} (hf : s.clk.frozen = false) (h5 : s.domOn 5 = true) (hrun : s.host.run = none) (hq : s.host.queue = [])
  (hacc : s.accepts hostPage = true)
include hf h5 hrun hq hacc

/-- A request of a frame that runs to its end. -/
theorem spiRuns_of {t : State} {r q : HostReq} {st : Nat} (hsrc : r.src = 0) (hgood : (r.bad || decide (4 < r.op) || decide (r.space = 3)) = false)
    (hfw : s.forwards r = false) (hwords : hostRun (wordCount r.op r.count) .host (hostRunning (hostBegun s) r) r = (t, q, some st))
    (hon : t.domOn 5 = true) (hhost : t.host = (hostBegun s).host) (hqsrc : q.src = 0) :
    SpiRuns s (spiFrame s (.req r)) (respWords q.op q.tag st q.done q.next q.out) t.sram := by
  refine ⟨t, q, ?_, hqsrc, hhost, rfl⟩
  rw [spiFrame_idle hf h5 hrun, frameTake]
  refine (if_neg ?_).trans (hostStart_ends (s := hostBegun s) hacc (retried_none (.inl (by rw [hsrc]; decide))) hgood hfw hwords hon ?_)
  · rw [show (hostBegun s).accepts hostPage = s.accepts hostPage from rfl, hacc]
    decide
  · rw [hhost]
    exact hq

theorem spiRuns_nop (tag count addr crc : Nat) {space : Nat} (hspace : space ≠ 3) :
    SpiRuns s (spiFrame s (.req (noWord 0 tag count space addr crc))) (respWords 0 tag 0 0 addr []) s.sram :=
  spiRuns_of hf h5 hrun hq hacc (t := hostRunning (hostBegun s) (noWord 0 tag count space addr crc)) (q := noWord 0 tag count space addr crc) (st := 0) rfl
    (by simp [noWord, hspace]) (forwards_noWord ..) rfl h5 rfl rfl

variable (hfw : s.isMaster = false ∨ s.get HOST_CFG_RING_TGT hostPage = 0) {op addr : Nat} (hop : Moves op) (tag : Nat) (l : List Nat)
include hfw hop

theorem spiRuns_misaligned (haddr : addr < 2 ^ 32) (h4 : ¬ 4 ∣ addr) :
    SpiRuns s (spiFrame s (.req (oneWord op tag addr l))) (respWords op tag 6 0 addr []) s.sram := by
  have hnext := next_oneWord hop tag l haddr
  have hword (z : State) : hostWord z .host (oneWord op tag addr l) = z.answer .misaligned :=
    (hostWord_oneWord z hop tag l haddr).trans (hostD_misaligned .host _ h4)
  have hwords := hostRun_misaligned (hword (hostRunning (hostBegun s) (oneWord op tag addr l))) rfl
  rw [← count_oneWord hop tag addr l] at hwords
  have hruns := spiRuns_of hf h5 hrun hq hacc rfl (good_oneWord hop tag addr l) (forwards_oneWord hfw op tag addr l) hwords h5 rfl rfl
  rw [hnext] at hruns
  exact hruns

/-- A transaction of one word whose access answers OK. -/
theorem spiRuns_word {t : State} (hhi : addr < 0x10200000)
    (hword : hostWord (hostRunning (hostBegun s) (oneWord op tag addr l)) .host (oneWord op tag addr l) = t) (hok : t.resp.kind = .ok)
    (hon : t.domOn 5 = true) (hhost : t.host = (hostBegun s).host) : SpiRuns s (spiFrame s (.req (oneWord op tag addr l)))
      (respWords op tag 0 1 (afterWord op addr) (if opWrites op then [] else [t.resp.data])) t.sram := by
  have hcount := count_oneWord hop tag addr l
  have hwords := hostRun_done hword hok (by rw [hcount]; exact Nat.lt_irrefl 1)
  rw [← hcount] at hwords
  have hruns := spiRuns_of hf h5 hrun hq hacc rfl (good_oneWord hop tag addr l) (forwards_oneWord hfw op tag addr l) hwords hon hhost rfl
  have hnext := next_done op tag l (if opWrites op then [] else [t.resp.data]) hhi
  rw [← hnext]
  exact hruns

variable (hmem : s.domOn 6 = true) (h4 : 4 ∣ addr) (hlo : 0x10000000 ≤ addr) (hhi : addr < 0x10200000)
  (hgood : s.isBad 2 0 (addr - 0x10000000) = false)
include hmem h4 hlo hhi hgood

theorem spiRuns_read (hr : opWrites op = false) :
    SpiRuns s (spiFrame s (.req (oneWord op tag addr []))) (respWords op tag 0 1 (afterWord op addr) [s.dGet 0 addr 4]) s.sram := by
  have hword : hostWord (hostRunning (hostBegun s) (oneWord op tag addr [])) .host (oneWord op tag addr []) =
      (hostRunning (hostBegun s) (oneWord op tag addr [])).answer .ok (s.dGet 0 addr 4) := by
    rw [hostWord_oneWord _ hop tag [] (by omega), hr]
    exact hostD_read (s := hostRunning (hostBegun s) (oneWord op tag addr [])) .host h4 hlo hhi hmem hgood
  have hruns := spiRuns_word hf h5 hrun hq hacc hfw hop tag [] hhi hword rfl h5 rfl
  rw [hr] at hruns
  exact hruns

theorem spiRuns_write (v : Nat) (hw : opWrites op = true) :
    SpiRuns s (spiFrame s (.req (oneWord op tag addr [v]))) (respWords op tag 0 1 (afterWord op addr) []) (mputN s.sram 0 (addr - 0x10000000) 4 v) := by
  have hword : hostWord (hostRunning (hostBegun s) (oneWord op tag addr [v])) .host (oneWord op tag addr [v]) =
      ((hostRunning (hostBegun s) (oneWord op tag addr [v])).dPut 0 addr 4 v).answer .ok := by
    rw [hostWord_oneWord _ hop tag [v] (by omega), hw]
    exact hostD_write (s := hostRunning (hostBegun s) (oneWord op tag addr [v])) .host h4 hlo hhi hmem hgood v
  rw [dPut_sram _ hlo hhi] at hword
  have hruns := spiRuns_word hf h5 hrun hq hacc hfw hop tag [v] hhi hword rfl h5 rfl
  rw [hw] at hruns
  exact hruns

end

end Sys2Proof.Machine
end

section
/-! PROOFS. The host port (chapter 21): what a frame or a datagram holds, and the commands. -/

namespace Sys2Proof.Machine

/-! Requests without a word, as words. -/

section
variable {a : Nat} (h28 : a < 2 ^ 28) (src b c : Nat) (only : Bool)
include h28

theorem reqOf_nop : reqOf src a b [] [] = noWord src (a / 2 ^ 20 % 256) (a / 4096 % 256) (a / 1024 % 4) b 0 := by
  unfold reqOf noWord
  rw [Nat.div_eq_of_lt h28]

theorem parse_nop : parse src [a, b, c] only [] = if hostCrc [a, b] = c then
      .req { noWord src (a / 2 ^ 20 % 256) (a / 4096 % 256) (a / 1024 % 4) b c with bad := a % 1024 != 0 }
    else .bad 0 (a / 2 ^ 20 % 256) := by
  have hwords : (List.drop 2 [a, b, c]).take (wordCount (a / 2 ^ 28 % 16) (a / 4096 % 256)) = [] := by
    rw [Nat.div_eq_of_lt h28]
    rfl
  have hreq : reqOf src ([a, b, c].getD 0 0) ([a, b, c].getD 1 0) ((List.drop 2 [a, b, c]).take (wordCount ([a, b, c].getD 0 0 / 2 ^ 28 % 16)
      ([a, b, c].getD 0 0 / 4096 % 256))) [] = noWord src (a / 2 ^ 20 % 256) (a / 4096 % 256) (a / 1024 % 4) b 0 :=
    (congrArg (reqOf src a b · []) hwords).trans (reqOf_nop h28 src b)
  unfold parse
  dsimp only
  rw [hreq]
  show (if (decide (3 < 3) || (only && (3 != 3)) || hostCrc [a, b] != c) = true then _ else _) = _
  by_cases hc : hostCrc [a, b] = c
  · rw [if_pos hc, bne_eq_false_iff_eq.2 hc, Bool.or_false]
    exact if_neg (by cases only <;> exact Bool.false_ne_true)
  · rw [if_neg hc, bne_iff_ne.2 hc, Bool.or_true]
    exact if_pos rfl

end

/-- A request without a word whose header is well formed. -/
theorem parse_nop_good {a b c : Nat} (src : Nat) (only : Bool) (h28 : a < 2 ^ 28) (hlow : a % 1024 = 0) (hc : c = hostCrc [a, b]) :
    parse src [a, b, c] only [] = .req (noWord src (a / 2 ^ 20 % 256) (a / 4096 % 256) (a / 1024 % 4) b c) := by
  rw [parse_nop h28, if_pos hc.symm, hlow]
  rfl

theorem spiRequest_oneWord (s : State) {op tag addr : Nat} {l : List Nat} (h : l.length = if opWrites op then 1 else 0) (hop : Moves op) :
    spiRequest s op tag 1 1 addr l [] = spiFrame s (.req (oneWord op tag addr l)) := by
  have hlen : (opWrites op && decide (l.length < wordCount op 1)) = false := by
    rw [h]
    rcases hop with rfl | rfl | rfl | rfl <;> rfl
  have htake : l.take (wordCount op 1) = l := by
    refine List.take_of_length_le ?_
    rw [h]
    rcases hop with rfl | rfl | rfl | rfl <;> decide
  unfold spiRequest
  dsimp only
  rw [hlen, htake]
  rfl

theorem exec_hostRead_one (s : State) (tag : Nat) (addr : Word) :
    exec (.hostRead tag 1 1 addr []) s = .next (spiFrame s (.req (oneWord 1 tag addr.toNat []))) :=
  congrArg Host.Outcome.next (spiRequest_oneWord s rfl (.inl rfl))

theorem exec_hostWrite_one (s : State) (tag : Nat) (addr w : Word) :
    exec (.hostWrite tag 1 1 addr [w] []) s = .next (spiFrame s (.req (oneWord 2 tag addr.toNat [w.toNat]))) :=
  congrArg Host.Outcome.next (spiRequest_oneWord s rfl (.inr (.inl rfl)))

theorem exec_hostReadFix_one (s : State) (tag : Nat) (addr : Word) :
    exec (.hostReadFix tag 1 1 addr []) s = .next (spiFrame s (.req (oneWord 3 tag addr.toNat []))) :=
  congrArg Host.Outcome.next (spiRequest_oneWord s rfl (.inr (.inr (.inl rfl))))

theorem exec_hostWriteFix_one (s : State) (tag : Nat) (addr w : Word) :
    exec (.hostWriteFix tag 1 1 addr [w] []) s = .next (spiFrame s (.req (oneWord 4 tag addr.toNat [w.toNat]))) :=
  congrArg Host.Outcome.next (spiRequest_oneWord s rfl (.inr (.inr (.inr rfl))))

/-! A request that begins no transaction. -/

/-- A frame whose payload fails its check. -/
theorem frameTake_bad {s : State} (hacc : s.accepts hostPage = true) (op tag : Nat) : let z := frameTake s (.bad op tag)
    z.host = { s.host with resp := some (respWords op tag 4 0 0 []) } ∧ bitOf (z.get H_IRQ_RAW hostPage) 1 = true ∧ z.sram = s.sram := by
  have htake : frameTake s (.bad op tag) = (badCrc s).upHost fun x => { x with resp := some (respWords op tag 4 0 0 []) } := if_pos hacc
  have hhost : (badCrc s).host = s.host := host_irq ..
  dsimp only
  rw [htake]
  exact ⟨congrArg (fun x : HostPort => { x with resp := some (respWords op tag 4 0 0 []) }) hhost, irqRaw_bit_irq _ hostPage (by decide),
    sram_irq (s.bump HOST_CNT_BAD_CRC hostPage) hostPage 1⟩

/-! A datagram. -/

theorem udpTakes_parts {s : State} {k dst src dport : Nat} {plain : Bool} (h : s.udpTakes k dst src dport plain = true) :
    s.domOn 5 = true ∧ s.accepts hostPage = true := by
  simp only [State.udpTakes, State.macUp, State.domRuns, Bool.and_eq_true] at h
  obtain ⟨⟨⟨⟨⟨⟨⟨⟨⟨⟨⟨hon, -⟩, -⟩, -⟩, -⟩, hacc⟩, -⟩, -⟩, -⟩, -⟩, -⟩, -⟩ := h
  exact ⟨hon, hacc⟩

/-- A request without a word that a datagram carries. -/
def udpWord (k ip port tag count space addr crc : Nat) : HostReq :=
  { noWord 1 tag count space addr crc with ip := ip, port := port, mac := k }

theorem exec_udpRequest_nop {s : State} {k : Nat} {dst src : Word} {dport : Nat} {plain : Bool} (port : Nat) {a b c : Word}
    (ht : s.udpTakes k dst.toNat src.toNat dport plain = true) (h28 : a.toNat < 2 ^ 28) (hlow : a.toNat % 1024 = 0)
    (hc : c.toNat = hostCrc [a.toNat, b.toNat]) : exec (.udpRequest k dst src port dport plain true [a, b, c] []) s =
      .next (udpTake s k src.toNat port (.req (noWord 1 (a.toNat / 2 ^ 20 % 256) (a.toNat / 4096 % 256) (a.toNat / 1024 % 4) b.toNat c.toNat))) := by
  rw [exec_udpRequest, execUdpRequest, ht, ← parse_nop_good 1 true h28 hlow hc]
  rfl

theorem udpTake_new {s : State} {k ip port : Nat} {r q : HostReq} (hq : { r with ip := ip, port := port, mac := k } = q) (hnew : s.retried q = none)
    (hrun : s.host.run = none) : udpTake s k ip port (.req r) = hostStart s q := by
  unfold udpTake
  dsimp only
  rw [hq, hnew, hrun]
  rfl

theorem udpTake_again {s : State} {k ip port : Nat} {r q : HostReq} {l : List Nat} (hq : { r with ip := ip, port := port, mac := k } = q)
    (hold : s.retried q = some l) : udpTake s k ip port (.req r) = udpSend s k ip port l := by
  unfold udpTake
  dsimp only
  rw [hq, hold]

/-- Settles O41: a request of one word ends in `hostEnd` with its access done, and what executes nothing changes the responses alone. -/
theorem hostPortCommands : Obligations.HostPortCommands := by
  unfold Obligations.HostPortCommands
  refine ⟨?nop, ?read, ?readBad, ?write, ?writeBad, ?readFix, ?readFixBad, ?writeFix, ?writeFixBad, ?off, ?pending, ?frame, ?frameCrc, ?frameBits,
    ?udpIgnored, ?udpSum, ?udpRun, ?udpRetry, ?ringBack, ?ringServe, ?ringLate⟩
  case nop =>
    intro s tag hf h5 hrun hq hacc
    obtain ⟨hhsdo, hstate, hirq, hnone, hresp, hsram⟩ := spiRuns_shows (spiRuns_nop hf h5 hrun hq hacc tag 0 0 0 (by decide : 0 ≠ 3))
    exact ⟨_, rfl, hhsdo, hstate, hirq, hnone, hresp, hsram⟩
  case read =>
    intro s tag addr hf h5 hrun hq hacc hfw hmem h4 hlo hhi hgood
    have hruns := spiRuns_read hf h5 hrun hq hacc hfw (op := 1) (.inl rfl) tag hmem h4 hlo hhi hgood rfl
    exact ⟨_, exec_hostRead_one s tag addr, spiRuns_shows hruns⟩
  case readBad =>
    intro s tag addr hf h5 hrun hq hacc hfw h4
    have hruns := spiRuns_misaligned hf h5 hrun hq hacc hfw (op := 1) (.inl rfl) tag [] addr.isLt h4
    exact ⟨_, exec_hostRead_one s tag addr, spiRuns_shows hruns⟩
  case write =>
    intro s tag w addr hf h5 hrun hq hacc hfw hmem h4 hlo hhi hgood
    have hruns := spiRuns_write hf h5 hrun hq hacc hfw (op := 2) (.inr (.inl rfl)) tag hmem h4 hlo hhi hgood w.toNat rfl
    exact ⟨_, exec_hostWrite_one s tag addr w, spiRuns_shows hruns⟩
  case writeBad =>
    intro s tag w addr hf h5 hrun hq hacc hfw h4
    have hruns := spiRuns_misaligned hf h5 hrun hq hacc hfw (op := 2) (.inr (.inl rfl)) tag [w.toNat] addr.isLt h4
    exact ⟨_, exec_hostWrite_one s tag addr w, spiRuns_shows hruns⟩
  case readFix =>
    intro s tag addr hf h5 hrun hq hacc hfw hmem h4 hlo hhi hgood
    have hruns := spiRuns_read hf h5 hrun hq hacc hfw (op := 3) (.inr (.inr (.inl rfl))) tag hmem h4 hlo hhi hgood rfl
    exact ⟨_, exec_hostReadFix_one s tag addr, spiRuns_shows hruns⟩
  case readFixBad =>
    intro s tag addr hf h5 hrun hq hacc hfw h4
    have hruns := spiRuns_misaligned hf h5 hrun hq hacc hfw (op := 3) (.inr (.inr (.inl rfl))) tag [] addr.isLt h4
    exact ⟨_, exec_hostReadFix_one s tag addr, spiRuns_shows hruns⟩
  case writeFix =>
    intro s tag w addr hf h5 hrun hq hacc hfw hmem h4 hlo hhi hgood
    have hruns := spiRuns_write hf h5 hrun hq hacc hfw (op := 4) (.inr (.inr (.inr rfl))) tag hmem h4 hlo hhi hgood w.toNat rfl
    exact ⟨_, exec_hostWriteFix_one s tag addr w, spiRuns_shows hruns⟩
  case writeFixBad =>
    intro s tag w addr hf h5 hrun hq hacc hfw h4
    have hruns := spiRuns_misaligned hf h5 hrun hq hacc hfw (op := 4) (.inr (.inr (.inr rfl))) tag [w.toNat] addr.isLt h4
    exact ⟨_, exec_hostWriteFix_one s tag addr w, spiRuns_shows hruns⟩
  case off =>
    intro s tag addr hf h5 hrun hacc
    have htake : frameTake (hostBegun s) (.req (oneWord 1 tag addr.toNat [])) =
        (hostBegun s).upHost fun x => { x with resp := some ((oneWord 1 tag addr.toNat []).refusal 6) } :=
      if_pos (by rw [show (hostBegun s).accepts hostPage = s.accepts hostPage from rfl, hacc]; rfl)
    exact ⟨_, (exec_hostRead_one s tag addr).trans (congrArg _ ((spiFrame_idle hf h5 hrun _).trans htake)), rfl, hrun⟩
  case pending =>
    intro s tag r hf h5 hrun
    exact ⟨_, congrArg Host.Outcome.next (spiFrame_pending hf h5 hrun _), rfl, hrun, rfl⟩
  case frame =>
    intro s a b c hf h5 hrun hq hacc h28 hlow hspace hc
    have hnext : exec (.spiFrame [a, b, c] 0 []) s =
        .next (spiFrame s (.req (noWord 0 (a.toNat / 2 ^ 20 % 256) (a.toNat / 4096 % 256) (a.toNat / 1024 % 4) b.toNat c.toNat))) := by
      rw [exec_spiFrame, execSpiFrame, ← parse_nop_good 0 false h28 hlow hc]
      rfl
    obtain ⟨hhsdo, hstate, hirq, hnone, hresp, -⟩ := spiRuns_shows (spiRuns_nop hf h5 hrun hq hacc (a.toNat / 2 ^ 20 % 256) (a.toNat / 4096 % 256)
      b.toNat c.toNat hspace)
    exact ⟨_, hnext, hhsdo, hstate, hirq, hnone, hresp⟩
  case frameCrc =>
    intro s a b c hf h5 hrun hq hacc h28 hc
    have hparse : parse 0 [a.toNat, b.toNat, c.toNat] false [] = .bad 0 (a.toNat / 2 ^ 20 % 256) :=
      (parse_nop h28 0 b.toNat c.toNat false).trans (if_neg fun h => hc h.symm)
    have hnext : exec (.spiFrame [a, b, c] 0 []) s = .next (frameTake (hostBegun s) (.bad 0 (a.toNat / 2 ^ 20 % 256))) := by
      rw [exec_spiFrame, execSpiFrame, ← hparse, ← spiFrame_idle hf h5 hrun]
      rfl
    obtain ⟨hhost, hirq, hsram⟩ := frameTake_bad (s := hostBegun s) hacc 0 (a.toNat / 2 ^ 20 % 256)
    exact ⟨_, hnext, congrArg HostPort.resp hhost, hirq, (congrArg HostPort.run hhost).trans hrun, hsram⟩
  case frameBits =>
    intro s l n wins hf h5 hrun hq hacc hn
    have hnext : exec (.spiFrame l n wins) s = .next (frameTake (hostBegun s)
        (.bad ((l.map BitVec.toNat).getD 0 0 / 2 ^ 28) ((l.map BitVec.toNat).getD 0 0 / 2 ^ 20 % 256))) := by
      rw [exec_spiFrame, execSpiFrame, ← spiFrame_idle hf h5 hrun]
      rw [if_pos (bne_iff_ne.2 hn)]
    obtain ⟨hhost, hirq, hsram⟩ := frameTake_bad (s := hostBegun s) hacc ((l.map BitVec.toNat).getD 0 0 / 2 ^ 28)
      ((l.map BitVec.toNat).getD 0 0 / 2 ^ 20 % 256)
    exact ⟨_, hnext, hirq, (congrArg HostPort.run hhost).trans hrun, hsram⟩
  case udpIgnored =>
    intro s k dst src port dport plain sum l wins ht
    rw [exec_udpRequest, execUdpRequest, ht]
    rfl
  case udpSum =>
    intro s k dst src port dport plain l wins ht
    rw [exec_udpRequest, execUdpRequest, ht]
    rfl
  case udpRun =>
    intro s k dst src port dport plain a b c ht h28 hlow hspace hc hrun hq hlast
    obtain ⟨hon, hacc⟩ := udpTakes_parts ht
    have hnew : s.retried (udpWord k src.toNat port (a.toNat / 2 ^ 20 % 256) (a.toNat / 4096 % 256) (a.toNat / 1024 % 4) b.toNat c.toNat) = none :=
      retried_none (.inr hlast)
    have hend := hostStart_ends (q := udpWord k src.toNat port (a.toNat / 2 ^ 20 % 256) (a.toNat / 4096 % 256) (a.toNat / 1024 % 4) b.toNat c.toNat)
      (st := 0) hacc hnew (by simp [udpWord, noWord, hspace]) (by simp [State.forwards, udpWord, noWord]) rfl hon hq
    refine ⟨_, (exec_udpRequest_nop port ht h28 hlow hc).trans (congrArg _ ((udpTake_new rfl hnew hrun).trans hend)), ?_, ?_, ?_⟩
    · rw [host_hostEnd]
      rfl
    · rw [host_hostEnd]
      rfl
    · rw [host_hostEnd]
      exact (run_hostStored ..).1
  case udpRetry =>
    intro s k dst src port dport plain a b c r ht h28 hlow hspace hc hlast
    have hold : s.retried (udpWord k src.toNat port (a.toNat / 2 ^ 20 % 256) (a.toNat / 4096 % 256) (a.toNat / 1024 % 4) b.toNat c.toNat) = some r := by
      unfold State.retried
      rw [hlast]
      exact if_pos (by simp [udpWord, noWord])
    rw [exec_udpRequest_nop port ht h28 hlow hc]
    exact congrArg _ (udpTake_again rfl hold)
  case ringBack =>
    intro s l r hon hm hrun hsrc hstate hq
    have hresp : ringResponse s (l.map BitVec.toNat) = hostEnd s r (l.map BitVec.toNat) := by
      unfold ringResponse
      rw [hrun]
      dsimp only
      rw [if_pos hstate]
      exact hostServe_empty _ (by rw [host_hostEnd, (run_hostStored ..).2, hq])
    have hnext : exec (.ringHostRequest l) s = .next (hostEnd s r (l.map BitVec.toNat)) := by
      rw [exec_ringHostRequest, execRingHostRequest, hon, hm, ← hresp]
      rfl
    obtain ⟨hzero, hirq, -, hnone⟩ := hostEnd_facts s r (l.map BitVec.toNat)
    refine ⟨_, hnext, hnone, ?_, hzero, hirq⟩
    rw [host_hostEnd, hostStored, hsrc]
    rfl
  case ringServe =>
    intro s a b c hf h5 hrun hq hacc hon hm h28 hlow hspace hc
    have hend := hostStart_ends (s := s) (r := noWord 2 (a.toNat / 2 ^ 20 % 256) (a.toNat / 4096 % 256) (a.toNat / 1024 % 4) b.toNat c.toNat)
      (q := noWord 2 (a.toNat / 2 ^ 20 % 256) (a.toNat / 4096 % 256) (a.toNat / 1024 % 4) b.toNat c.toNat)
      (st := 0) hacc (retried_none (.inl (Nat.succ_ne_self 1))) (by simp [noWord, hspace]) (forwards_noWord ..) rfl h5 hq
    have hring : ringRequest s (.req (noWord 2 (a.toNat / 2 ^ 20 % 256) (a.toNat / 4096 % 256) (a.toNat / 1024 % 4) b.toNat c.toNat)) =
        hostStart s (noWord 2 (a.toNat / 2 ^ 20 % 256) (a.toNat / 4096 % 256) (a.toNat / 1024 % 4) b.toNat c.toNat) := by
      unfold ringRequest
      dsimp only
      rw [h5, hacc, hrun]
      rfl
    have hnext : exec (.ringHostRequest [a, b, c]) s = .next (ringRequest s (.req (noWord 2 (a.toNat / 2 ^ 20 % 256) (a.toNat / 4096 % 256)
        (a.toNat / 1024 % 4) b.toNat c.toNat))) := by
      rw [exec_ringHostRequest, execRingHostRequest, hon, hm, ← parse_nop_good 2 true h28 hlow hc]
      rfl
    refine ⟨_, hnext.trans (congrArg _ (hring.trans hend)), ?_, ?_⟩
    · rw [host_hostEnd]
      rfl
    · rw [host_hostEnd]
      exact (run_hostStored ..).1
  case ringLate =>
    intro s r hrun hsrc hstate ht h5 hq
    have hfail : hostFail s 2 = hostEnd s r (respWords r.op r.tag 2 r.done r.next r.out) := by
      unfold hostFail
      rw [hrun]
      dsimp only
      rw [hostDone, h5]
      exact hostServe_empty _ (by
        show (hostEnd s r (respWords r.op r.tag 2 r.done r.next r.out)).host.queue = []
        rw [host_hostEnd, (run_hostStored ..).2, hq])
    have hnext : exec .ringRequestTimeout s = .next (hostEnd s r (respWords r.op r.tag 2 r.done r.next r.out)) := by
      rw [exec_ringRequestTimeout, execRingRequestTimeout, hrun]
      refine congrArg _ ((if_pos ?_).trans hfail)
      rw [decide_eq_true hstate, decide_eq_true ht]
      rfl
    obtain ⟨-, -, -, hnone⟩ := hostEnd_facts s r (respWords r.op r.tag 2 r.done r.next r.out)
    refine ⟨_, hnext, hnone, ?_⟩
    rw [host_hostEnd, hostStored, hsrc]
    rfl

end Sys2Proof.Machine
end

section
/-! PROOFS. The Utmond monitor (chapter 21): accesses, rate, cores and access control. -/

namespace Sys2Proof.Machine

/-! A command line. -/

/-- The state in which a command line acts. -/
def monSeen (s : State) : State := s.bump MON_CNT_CMDS monPage

theorem openFlag_monSeen (s : State) : (monSeen s).flag MON_STAT_OPEN monPage = s.flag MON_STAT_OPEN monPage := by
  rw [State.flag, show (monSeen s).get MON_STAT_OPEN monPage = s.get MON_STAT_OPEN monPage from State.get_set_ne _ _ (by decide), State.flag]

section
variable {s : State} (h : s.monUp = true ∧ s.clk.frozen = false) (f : State → State)
include h

theorem monCommand_taken (always : Bool) : monCommand s always f =
    if !always && decide (s.fuse.lc = 1) && !s.flag MON_STAT_OPEN monPage then monEnd (monSeen s) 8 [] else f (monSeen s) := by
  unfold monCommand
  rw [h.1, h.2, ← openFlag_monSeen]
  rfl

theorem monCommand_always : monCommand s true f = f (monSeen s) := monCommand_taken h f true

theorem monCommand_open (hopen : s.fuse.lc ≠ 1 ∨ s.flag MON_STAT_OPEN monPage = true) : monCommand s false f = f (monSeen s) := by
  rw [monCommand_taken h f false]
  refine if_neg ?_
  rcases hopen with h | h
  · rw [decide_eq_false h]
    exact Bool.false_ne_true
  · rw [h, Bool.not_true, Bool.and_false]
    decide

theorem monCommand_closed (hlc : s.fuse.lc = 1) (hshut : s.flag MON_STAT_OPEN monPage = false) : monCommand s false f = monEnd (monSeen s) 8 [] := by
  rw [monCommand_taken h f false, decide_eq_true hlc, hshut]
  rfl

end

/-! The end of a command. -/

theorem mon_monEnd (s : State) (err : Nat) (out : List Nat) :
    (monEnd s err out).mon = { s.mon with run := none, err := err, out := out, stepOf := none } := by
  unfold monEnd
  dsimp only
  split <;> rfl

theorem quiet_monEnd (s : State) (err : Nat) (out : List Nat) :
    (monEnd s err out).quiet = (s.upMon fun x => { x with run := none, err := err, out := out, stepOf := none }).quiet := by
  unfold monEnd
  dsimp only
  split <;> rfl

theorem sram_monEnd (s : State) (err : Nat) (out : List Nat) : (monEnd s err out).sram = s.sram := by
  rw [eq_of_quiet State.sram (fun _ => rfl) (quiet_monEnd ..)]
  rfl

theorem cr_monEnd (s : State) (err : Nat) (out : List Nat) (c : Nat) : (monEnd s err out).cr c = s.cr c := by
  rw [State.cr, eq_of_quiet State.core (fun _ => rfl) (quiet_monEnd ..)]
  rfl

/-- The end of a command keeps every field of STAT but BUSY. -/
theorem get_monEnd (s : State) (err : Nat) (out : List Nat) {f : Fld} (hbusy : (f.loc monPage).key ≠ (MON_STAT_BUSY.loc monPage).key)
    (herrs : (f.loc monPage).key ≠ (MON_CNT_ERRS.loc monPage).key) : (monEnd s err out).get f monPage = s.get f monPage := by
  have hput : (s.put MON_STAT_BUSY monPage false).get f monPage = s.get f monPage := State.get_set_ne s _ hbusy
  unfold monEnd
  dsimp only
  split
  · exact hput
  · exact (State.get_set_ne ((s.put MON_STAT_BUSY monPage false).upMon _) _ herrs).trans hput

/-! An access of one word of D-space. -/

/-- A request of one word, as R, M, W and L make it. -/
def monWord (op addr : Nat) (l : List Nat) (crcOk : Bool) : HostReq :=
  { src := 3, op := op, count := 1, space := 1, addr := addr, words := l, crcOk := crcOk }

theorem hostWord_monWord (z : State) {op : Nat} (hop : op = 1 ∨ op = 2) {addr : Nat} (h : addr < 2 ^ 32) (l : List Nat) (crcOk : Bool) :
    hostWord z .mon (monWord op addr l crcOk) = hostD z .mon addr (if opWrites op then some (l.getD 0 0) else none) := by
  have hnext : (monWord op addr l crcOk).next = addr := by
    rcases hop with rfl | rfl
    · exact Nat.mod_eq_of_lt h
    · exact Nat.mod_eq_of_lt h
  unfold hostWord
  dsimp only
  rw [hnext]
  rfl

/-- An access whose one word completes ends the command. -/
theorem monAccess_word {s t : State} {op addr : Nat} {l : List Nat} {crcOk : Bool} (hop : op = 1 ∨ op = 2)
    (hword : hostWord s .mon (monWord op addr l crcOk) = t) (hok : t.resp.kind = .ok) (hon : t.domOn 0 = true) :
    monAccess s (monWord op addr l crcOk) = monEnd t (if crcOk then 0 else 4) (if opWrites op then [] else [t.resp.data]) := by
  have hcount : wordCount (monWord op addr l crcOk).op (monWord op addr l crcOk).count = 1 := by rcases hop with rfl | rfl <;> rfl
  have hrun := hostRun_done hword hok (by rw [hcount]; exact Nat.lt_irrefl 1)
  rw [monAccess, hcount, hrun, monDone]
  dsimp only
  rw [hon]
  cases crcOk <;> rfl

section
variable {s : State} {addr : Nat} (h0 : s.domOn 0 = true) (hmem : s.domOn 6 = true) (h4 : 4 ∣ addr) (hlo : 0x10000000 ≤ addr) (hhi : addr < 0x10200000)
  (hgood : s.isBad 2 0 (addr - 0x10000000) = false)
include h0 hmem h4 hlo hhi hgood

theorem monAccess_read : monAccess s (monWord 1 addr [] true) = monEnd (s.answer .ok (s.dGet 0 addr 4)) 0 [s.dGet 0 addr 4] :=
  monAccess_word (.inl rfl) ((hostWord_monWord s (.inl rfl) (by omega) [] true).trans (hostD_read .mon h4 hlo hhi hmem hgood)) rfl h0

theorem monAccess_write (v : Nat) (crcOk : Bool) : ∃ t, monAccess s (monWord 2 addr [v] crcOk) = monEnd t (if crcOk then 0 else 4) [] ∧
    t.sram = mputN s.sram 0 (addr - 0x10000000) 4 v := by
  have hword : hostWord s .mon (monWord 2 addr [v] crcOk) = ({ s with sram := mputN s.sram 0 (addr - 0x10000000) 4 v } : State).answer .ok := by
    rw [← dPut_sram s hlo hhi]
    exact (hostWord_monWord s (.inr rfl) (by omega) [v] crcOk).trans (hostD_write .mon h4 hlo hhi hmem hgood v)
  exact ⟨_, monAccess_word (.inr rfl) hword rfl h0, rfl⟩

end

theorem domOn_of_monUp {s : State} (h : s.monUp = true) : s.domOn 0 = true := by
  simp only [State.monUp, Bool.and_eq_true] at h
  obtain ⟨⟨-, hon⟩, -⟩ := h
  exact hon

/-- A read of no words or of too many ends in the name for a malformed command. -/
theorem monRead_badCount {s : State} (h : s.monUp = true ∧ s.clk.frozen = false) (hopen : s.fuse.lc ≠ 1 ∨ s.flag MON_STAT_OPEN monPage = true)
    {n most : Nat} (hn : n = 0 ∨ most < n) (space addr : Nat) (wins : List (Nat × Nat)) : monRead s space addr n most wins = monEnd (monSeen s) 7 [] := by
  have hbad : (decide (n = 0) || decide (most < n)) = true := by
    rcases hn with h | h
    · rw [decide_eq_true h, Bool.true_or]
    · rw [decide_eq_true h, Bool.or_true]
  rw [monRead, monCommand_open h _ hopen]
  exact if_pos hbad

/-- A read of one word. -/
theorem monRead_one {s : State} (h : s.monUp = true ∧ s.clk.frozen = false) (hopen : s.fuse.lc ≠ 1 ∨ s.flag MON_STAT_OPEN monPage = true)
    (hmem : s.domOn 6 = true) {addr : Nat} (h4 : 4 ∣ addr) (hlo : 0x10000000 ≤ addr) (hhi : addr < 0x10200000)
    (hgood : s.isBad 2 0 (addr - 0x10000000) = false) {most : Nat} (hm : ¬ most < 1) : let t := monRead s 1 addr 1 most []
    t.mon.out = [s.dGet 0 addr 4] ∧ t.mon.err = 0 ∧ t.mon.run = none ∧ t.sram = s.sram := by
  have hread : monRead s 1 addr 1 most [] = monEnd ((monSeen s).answer .ok (s.dGet 0 addr 4)) 0 [s.dGet 0 addr 4] := by
    rw [monRead, monCommand_open h _ hopen]
    refine (if_neg ?_).trans (monAccess_read (s := monSeen s) (domOn_of_monUp h.1) hmem h4 hlo hhi hgood)
    rw [decide_eq_false hm]
    decide
  dsimp only
  rw [hread, mon_monEnd, sram_monEnd]
  exact ⟨rfl, rfl, rfl, rfl⟩

/-- A write of one word; `crc` is the line after a block load. -/
theorem monWrite_one {s : State} (h : s.monUp = true ∧ s.clk.frozen = false) (hopen : s.fuse.lc ≠ 1 ∨ s.flag MON_STAT_OPEN monPage = true)
    (hmem : s.domOn 6 = true) {addr : Nat} (h4 : 4 ∣ addr) (hlo : 0x10000000 ≤ addr) (hhi : addr < 0x10200000)
    (hgood : s.isBad 2 0 (addr - 0x10000000) = false) {most : Nat} (hm : ¬ most < 1) (v : Nat) (crc : Option Nat) :
    let t := monWrite s 1 addr most [v] crc []
    t.sram = mputN s.sram 0 (addr - 0x10000000) 4 v ∧ t.mon.err = (if (crc.all fun c => c == hostCrc [v]) then 0 else 4) ∧ t.mon.run = none := by
  obtain ⟨t, ht, hsram⟩ := monAccess_write (s := monSeen s) (domOn_of_monUp h.1) hmem h4 hlo hhi hgood v (crc.all fun c => c == hostCrc [v])
  have hwrite : monWrite s 1 addr most [v] crc [] = monEnd t (if (crc.all fun c => c == hostCrc [v]) then 0 else 4) [] := by
    unfold monWrite
    rw [monCommand_open h _ hopen]
    refine (if_neg ?_).trans (Eq.trans ?_ ht)
    · rw [show (decide (most < [v].length)) = false from decide_eq_false hm]
      exact Bool.false_ne_true
    · cases crc <;> rfl
  dsimp only
  rw [hwrite, sram_monEnd, mon_monEnd]
  exact ⟨hsram, rfl, rfl⟩

/-- Settles O42: a command line that is open ends in its access or as malformed, a closed one in CLOSED. -/
theorem monitorAccessCommands : Obligations.MonitorAccessCommands := by
  unfold Obligations.MonitorAccessCommands
  refine ⟨?read, ?readSyntax, ?readClosed, ?dump, ?dumpSyntax, ?dumpClosed, ?write, ?load, ?rate, ?rateSyntax⟩
  case read =>
    intro s addr h hopen hmem h4 hlo hhi hgood
    exact ⟨_, exec_monRead .., monRead_one h hopen hmem h4 hlo hhi hgood (by decide)⟩
  case readSyntax =>
    intro s z space n addr wins h hopen hz hn
    rw [hz]
    exact congrArg Host.Outcome.next (monRead_badCount h hopen hn space addr.toNat wins)
  case readClosed =>
    intro s z space n addr wins h hz hlc hshut
    rw [hz]
    exact congrArg Host.Outcome.next (monCommand_closed h _ hlc hshut)
  case dump =>
    intro s addr h hopen hmem h4 hlo hhi hgood
    exact ⟨_, exec_monDump .., monRead_one h hopen hmem h4 hlo hhi hgood (by decide)⟩
  case dumpSyntax =>
    intro s z space n addr wins h hopen hz hn
    rw [hz]
    exact congrArg Host.Outcome.next (monRead_badCount h hopen hn space addr.toNat wins)
  case dumpClosed =>
    intro s z space n addr wins h hz hlc hshut
    rw [hz]
    exact congrArg Host.Outcome.next (monCommand_closed h _ hlc hshut)
  case write =>
    intro s addr w h hopen hmem h4 hlo hhi hgood
    exact ⟨_, exec_monWrite .., monWrite_one h hopen hmem h4 hlo hhi hgood (by decide) w.toNat none⟩
  case load =>
    intro s addr w c h hopen hmem h4 hlo hhi hgood
    obtain ⟨hsram, herr, hrun⟩ := monWrite_one h hopen hmem h4 hlo hhi hgood (most := 100000) (by decide) w.toNat (some c.toNat)
    refine ⟨_, exec_monBlockLoad .., hsram, herr.trans ?_, hrun⟩
    simp only [Option.all_some, beq_iff_eq]
  case rate =>
    intro s z r h hz hlo hhi
    rw [hz]
    refine congrArg Host.Outcome.next ((monCommand_always h _).trans (if_pos ?_))
    rw [decide_eq_true hlo, decide_eq_true hhi]
    rfl
  case rateSyntax =>
    intro s z r h hz hr
    rw [hz]
    refine congrArg Host.Outcome.next ((monCommand_always h _).trans (if_neg ?_))
    rw [Bool.and_eq_true, decide_eq_true_iff, decide_eq_true_iff]
    omega

end Sys2Proof.Machine
end

section
/-! PROOFS. The Utmond monitor (chapter 21): debug mode, printing and access control. -/

namespace Sys2Proof.Machine

/-! The watchdog's pause touches neither the cores nor the registers. -/

theorem wdgHold_form (s : State) (c : Nat) : ∃ p, s.wdgHold c = { s with wdgPause := p } := by
  unfold State.wdgHold
  split
  · exact ⟨_, rfl⟩
  · exact ⟨s.wdgPause, rfl⟩

theorem wdgGo_form (s : State) (c : Nat) : ∃ f p, s.wdgGo c = { s with wdgFrom := f, wdgPause := p } := by
  unfold State.wdgGo
  split
  · split
    · exact ⟨_, _, rfl⟩
    · exact ⟨s.wdgFrom, s.wdgPause, rfl⟩
  · exact ⟨s.wdgFrom, s.wdgPause, rfl⟩

/-! Debug mode. -/

theorem testBit_setBit_same (v i : Nat) : (setBit v i).testBit i = true := by
  rw [setBit, Nat.testBit_or, Nat.one_shiftLeft, Nat.testBit_two_pow_self, Bool.or_true]

theorem testBit_clrBit_same (v i : Nat) : (clrBit v i).testBit i = false := by
  rw [clrBit_eq_andNot, testBit_andNot]
  simp [Nat.testBit_two_pow_self]

theorem debugging_set (s : State) (c v : Nat) : (s.set MON_STAT_DEBUG monPage v).debugging c = (decide (c < 12) && v.testBit c) := by
  have hget : (s.set MON_STAT_DEBUG monPage v).get MON_STAT_DEBUG monPage = v % 2 ^ 12 := State.get_set_same ..
  rw [State.debugging, hget]
  exact Nat.testBit_mod_two_pow v 12 c

theorem debugging_monEnd (s : State) (err : Nat) (out : List Nat) (c : Nat) : (monEnd s err out).debugging c = s.debugging c := by
  rw [State.debugging, get_monEnd _ _ _ (by decide) (by decide), State.debugging]

theorem debugging_setCr (s : State) (c d : Nat) (k : Core) : (s.setCr d k).debugging c = s.debugging c := by
  rw [State.debugging, show (s.setCr d k).get MON_STAT_DEBUG monPage = s.get MON_STAT_DEBUG monPage from rd_setCr s d k (by decide), State.debugging]

theorem debugging_monSeen (s : State) (c : Nat) : (monSeen s).debugging c = s.debugging c := by
  rw [State.debugging, show (monSeen s).get MON_STAT_DEBUG monPage = s.get MON_STAT_DEBUG monPage from State.get_set_ne _ _ (by decide), State.debugging]

/-- A core goes into debug mode and is held. -/
theorem monHalt_facts (s : State) {c : Nat} (hc : c < 12) : let t := monHalt s c
    t.cr c = { s.cr c with held := true, steps := if (s.cr c).held then (s.cr c).steps else b2n ((s.cr c).slot.isSome || (s.cr c).rep.isSome ||
      s.stall.any fun e => e.1 == c && e.2.retry) } ∧ t.debugging c = true ∧ t.mon.err = 0 := by
  dsimp only
  unfold monHalt
  dsimp only
  generalize hk : ({ s.cr c with held := true, steps := if (s.cr c).held then (s.cr c).steps else b2n ((s.cr c).slot.isSome || (s.cr c).rep.isSome ||
      s.stall.any fun e => e.1 == c && e.2.retry) } : Core) = k
  generalize hz : s.set MON_STAT_DEBUG monPage (setBit (s.get MON_STAT_DEBUG monPage) c) = z
  obtain ⟨p, hp⟩ := wdgHold_form (z.setCr c k) c
  have hdebug : z.debugging c = true := by
    rw [← hz, debugging_set, testBit_setBit_same, decide_eq_true hc]
    rfl
  rw [hp]
  refine ⟨?_, ?_, by rw [mon_monEnd]⟩
  · rw [cr_monEnd]
    exact cr_setCr_same z c k
  · rw [debugging_monEnd]
    exact (debugging_setCr z c c k).trans hdebug

/-- A core leaves its hold, in debug mode or out of it. -/
theorem monGo_facts (s : State) (c : Nat) (k : Core) : let t := monEnd ((s.setCr c k).wdgGo c) 0 []
    t.cr c = k ∧ t.mon.err = 0 ∧ t.debugging c = s.debugging c := by
  obtain ⟨f, p, hp⟩ := wdgGo_form (s.setCr c k) c
  dsimp only
  rw [hp]
  refine ⟨?_, by rw [mon_monEnd], ?_⟩
  · rw [cr_monEnd]
    exact cr_setCr_same s c k
  · rw [debugging_monEnd]
    exact debugging_setCr s c c k

/-! A challenge and its answer. -/

theorem length_freshBytes (n : Nat) (s : State) : (freshBytes n s).1.length = n := by
  have hfold (k : List Nat) : ∀ r : List Nat × State, (k.foldl (fun (r : List Nat × State) _ =>
      let x := r.2.fresh 256
      (r.1 ++ [x.1], x.2)) r).1.length = r.1.length + k.length := by
    induction k with
    | nil => exact fun _ => rfl
    | cons _ k ih =>
      intro r
      rw [List.foldl_cons, ih, List.length_append, List.length_cons, List.length_nil, List.length_cons]
      omega
  exact (hfold _ _).trans (by rw [List.length_range]; exact Nat.zero_add n)

theorem openFlag_irq (s : State) (b : Nat) : (s.irq monPage b).flag MON_STAT_OPEN monPage = s.flag MON_STAT_OPEN monPage := by
  rw [State.flag, show (s.irq monPage b).get MON_STAT_OPEN monPage = s.get MON_STAT_OPEN monPage from rd_irq s _ b (by decide) (by decide), State.flag]

theorem openFlag_monEnd (s : State) (err : Nat) (out : List Nat) : (monEnd s err out).flag MON_STAT_OPEN monPage = s.flag MON_STAT_OPEN monPage := by
  rw [State.flag, get_monEnd _ _ _ (by decide) (by decide), State.flag]

theorem mon_irq (s : State) (p b : Nat) : (s.irq p b).mon = s.mon := eq_of_quiet State.mon (fun _ => rfl) (quiet_irq ..)

/-- The state in which the answer to a challenge is judged: the challenge is used up. -/
def monJudged (s : State) : State := s.upMon fun x => { x with chal := none }

theorem monAnswer_good {s : State} {c : List Nat} {slot : Nat} {sig : List Nat} (hc : s.mon.chal = some c)
    (h : s.verify slot "KV1-MON" ([0x4B, 0x56, 0x31, 0x4D] ++ uidBytes ++ c) sig = true) :
    monAnswer s slot sig = monEnd (((monJudged s).put MON_STAT_OPEN monPage (s.fuse.lc == 1)).irq monPage 0) 0 [] := by
  unfold monAnswer
  rw [hc]
  exact if_pos h

theorem monAnswer_bad {s : State} {c : List Nat} {slot : Nat} {sig : List Nat} (hc : s.mon.chal = some c)
    (h : s.verify slot "KV1-MON" ([0x4B, 0x56, 0x31, 0x4D] ++ uidBytes ++ c) sig = false) :
    monAnswer s slot sig = monEnd ((monJudged s).irq monPage 2) 6 [] := by
  unfold monAnswer
  rw [hc]
  exact if_neg fun hx => Bool.false_ne_true (h.symm.trans hx)

/-- Settles O43: the commands of a core set its hold and its bit of DEBUG, and an answer is a case on its verification. -/
theorem monitorDebugCommands : Obligations.MonitorDebugCommands := by
  unfold Obligations.MonitorDebugCommands
  refine ⟨?halt, ?haltSlot, ?stepHeld, ?stepFree, ?resume, ?leave, ?print, ?log, ?challenge, ?answer, ?noChallenge, ?shut⟩
  case halt =>
    intro s c h hopen hc hheld hslot hrep hstall
    obtain ⟨hcr, hdebug, herr⟩ := monHalt_facts (monSeen s) hc
    refine ⟨_, congrArg Host.Outcome.next (monCommand_open h _ hopen), hcr.trans ?_, hdebug, herr⟩
    rw [show (monSeen s).cr c = s.cr c from rfl, show (monSeen s).stall = s.stall from rfl, hheld, hslot, hrep, hstall]
    rfl
  case haltSlot =>
    intro s c h hopen hc hheld hslot
    obtain ⟨hcr, hdebug, -⟩ := monHalt_facts (monSeen s) hc
    refine ⟨_, congrArg Host.Outcome.next (monCommand_open h _ hopen), hcr.trans ?_, hdebug⟩
    rw [show (monSeen s).cr c = s.cr c from rfl, hheld, hslot, Bool.true_or, Bool.true_or]
    rfl
  case stepHeld =>
    intro s c n h hopen hheld
    have hstep : monStep (monSeen s) c n = (monEnd ((monSeen s).setCr c { s.cr c with steps := (s.cr c).steps + n }) 0 []).upMon fun x =>
        { x with stepOf := some c } := if_neg (by rw [show (monSeen s).cr c = s.cr c from rfl, hheld]; decide)
    refine ⟨_, congrArg Host.Outcome.next ((monCommand_open h _ hopen).trans hstep), ?_, rfl, ?_⟩
    · exact (cr_monEnd ..).trans (cr_setCr_same (monSeen s) c _)
    · exact congrArg Mon.err (mon_monEnd ..)
  case stepFree =>
    intro s z c n h hopen hz hheld
    rw [hz]
    exact congrArg Host.Outcome.next ((monCommand_open h _ hopen).trans (if_pos (by rw [show (monSeen s).cr c = s.cr c from rfl, hheld]; rfl)))
  case resume =>
    intro s c h hopen hdebug
    have hseen : (monSeen s).debugging c = true := (debugging_monSeen s c).trans hdebug
    have hgo : monGo (monSeen s) c = monEnd (((monSeen s).setCr c { s.cr c with held := false, steps := 0 }).wdgGo c) 0 [] :=
      if_neg (by rw [hseen]; decide)
    obtain ⟨hcr, herr, hstill⟩ := monGo_facts (monSeen s) c { s.cr c with held := false, steps := 0 }
    exact ⟨_, congrArg Host.Outcome.next ((monCommand_open h _ hopen).trans hgo), hcr, herr, hstill.trans hseen⟩
  case leave =>
    intro s c h hopen
    obtain ⟨hcr, herr, hstill⟩ := monGo_facts ((monSeen s).set MON_STAT_DEBUG monPage (clrBit ((monSeen s).get MON_STAT_DEBUG monPage) c)) c
      { s.cr c with held := false, steps := 0 }
    refine ⟨_, congrArg Host.Outcome.next (monCommand_open h _ hopen), hcr, herr, hstill.trans ?_⟩
    rw [debugging_set, testBit_clrBit_same, Bool.and_false]
  case print =>
    intro s z c h hopen hz hheld
    rw [hz]
    exact congrArg Host.Outcome.next ((monCommand_open h _ hopen).trans (if_pos hheld))
  case log =>
    intro s z h hopen hz hon
    rw [hz]
    exact congrArg Host.Outcome.next ((monCommand_open h _ hopen).trans (if_pos hon))
  case challenge =>
    intro s h hon
    have hmake : monChallenge (monSeen s) = (monEnd (freshBytes 32 (monSeen s)).2 0 (freshBytes 32 (monSeen s)).1).upMon fun x =>
        { x with chal := some (freshBytes 32 (monSeen s)).1 } := if_neg (by rw [show (monSeen s).domOn 4 = s.domOn 4 from rfl, hon]; decide)
    refine ⟨_, congrArg Host.Outcome.next ((monCommand_always h _).trans hmake), ?_, ?_, ?_⟩
    · exact congrArg some (congrArg Mon.out (mon_monEnd ..)).symm
    · exact (congrArg List.length (congrArg Mon.out (mon_monEnd ..))).trans (length_freshBytes 32 _)
    · exact congrArg Mon.err (mon_monEnd ..)
  case answer =>
    intro s slot sig c h hc
    cases hv : s.verify slot "KV1-MON" ([0x4B, 0x56, 0x31, 0x4D] ++ uidBytes ++ c) (sig.map BitVec.toNat) with
    | true =>
      refine ⟨_, congrArg Host.Outcome.next ((monCommand_always h _).trans (monAnswer_good (s := monSeen s) hc hv)), ?_, ?_⟩
      · rw [mon_monEnd, mon_irq]
        rfl
      · refine (if_pos rfl).mpr ⟨?_, by rw [mon_monEnd]⟩
        rw [openFlag_monEnd, openFlag_irq]
        exact State.flag_put_same _ MON_STAT_OPEN monPage _ 0 0 (by decide)
    | false =>
      refine ⟨_, congrArg Host.Outcome.next ((monCommand_always h _).trans (monAnswer_bad (s := monSeen s) hc hv)), ?_, ?_⟩
      · rw [mon_monEnd, mon_irq]
        rfl
      · refine (if_neg Bool.false_ne_true).mpr ⟨?_, by rw [mon_monEnd]⟩
        rw [openFlag_monEnd, openFlag_irq]
        exact openFlag_monSeen s
  case noChallenge =>
    intro s z slot sig h hz hc
    have hnone : monAnswer (monSeen s) slot (sig.map BitVec.toNat) = monEnd (monSeen s) 6 [] := by
      unfold monAnswer
      rw [show (monSeen s).mon.chal = none from hc]
    rw [hz]
    exact congrArg Host.Outcome.next ((monCommand_always h _).trans hnone)
  case shut =>
    intro s z h hz
    rw [hz]
    exact congrArg Host.Outcome.next (monCommand_always h _)

end Sys2Proof.Machine
end

section
/-! PROOFS. FILL (chapter 22) is without effect on a memory whose domain is not on, and the statement asks only that the page is. -/

namespace Sys2Proof.Machine

/-- PD_NET is off, and FILL is set to a codeword of its message RAM that cannot be corrected. -/
def fillAsleep : State :=
  (({ State.reset with dom := [(3, { actual := .off, target := .off })], eccBad := [(3, 0, 0)] } : State).set ECC_FILL_MEM eccPage 3).put
    H_LOCKSTAT_UNLOCKED eccPage true

/-- The codeword stays bad. -/
theorem isBad_eccFill_fillAsleep : (eccActEff 1 (fillAsleep.reached eccPage)).isBad 3 0 0 = true := by decide +kernel

/-- Refutes O44: its ninth clause has FILL mend the codeword of every memory from message RAM on. -/
theorem not_integrityCommands : ¬ Obligations.IntegrityCommands := by
  unfold Obligations.IntegrityCommands
  rintro ⟨-, -, -, -, -, -, -, -, h, -⟩
  have ht : fillAsleep.takes eccPage 0x70 1 = true := by decide +kernel
  have hfill := h fillAsleep .hk 3 0 ht (by decide +kernel) (by decide +kernel) (by decide) (by decide +kernel)
  rw [exec_eccFill, execEccFill, accessWrite_takes _ _ _ _ _ _ ht, completes_next] at hfill
  obtain ⟨hmended, -⟩ := hfill
  exact Bool.false_ne_true (hmended.symm.trans isBad_eccFill_fillAsleep)

end Sys2Proof.Machine
end
